-- ==== Sys2Proof/Word.lean ====
section
/-! DEFINITION. Words, signed readings, saturation and sparse tables: the plainest types and arithmetic of the model. -/
namespace Sys2Proof

abbrev Byte := BitVec 8
abbrev Half := BitVec 16
/-- A register (R7). -/
abbrev Word := BitVec 32
/-- A 16-byte payload or entry, byte k in bits 8k+7:8k. -/
abbrev Quad := BitVec 128
/-- A full Halyard count, in units of 2⁻⁸ ns. -/
abbrev Time := BitVec 64
/-- A Halyard short time, bits 39:0 of a count. -/
abbrev ShortTime := BitVec 40

/-- Saturation of an integer to `lo`…`hi`. -/
def clamp (lo hi x : Int) : Int := if x < lo then lo else if hi < x then hi else x

/-- Saturation to the Q1.15 range (R4). -/
def satQ15 (x : Int) : Int := clamp (-32768) 32767 x

/-- An integer as a 16-bit field, two's complement. -/
def q15 (x : Int) : Nat := (x % 65536).toNat

/-- The signed reading of the low 16 bits. -/
def sgn16 (n : Nat) : Int := if n % 65536 < 32768 then (n % 65536 : Nat) else ((n % 65536 : Nat) : Int) - 65536

/-- The signed reading of the low `w` bits. -/
def sgnW (w n : Nat) : Int :=
  if n % 2 ^ w < 2 ^ (w - 1) then (n % 2 ^ w : Nat) else ((n % 2 ^ w : Nat) : Int) - (2 ^ w : Nat)

/-- An integer as a `w`-bit field, two's complement. -/
def unsW (w : Nat) (x : Int) : Nat := (x % (2 ^ w : Nat)).toNat

/-- Byte k of a payload. -/
def Quad.b (p : Quad) (k : Nat) : Nat := (p >>> (8 * k)).toNat % 256
/-- Bytes k, k+1 of a payload, little-endian. -/
def Quad.h (p : Quad) (k : Nat) : Nat := (p >>> (8 * k)).toNat % 65536
/-- Bytes k…k+3 of a payload, little-endian. -/
def Quad.w (p : Quad) (k : Nat) : Nat := (p >>> (8 * k)).toNat % 4294967296
/-- Bytes k… of a payload, all of them from byte k upward. -/
def Quad.from (p : Quad) (k : Nat) : Nat := (p >>> (8 * k)).toNat

/-- Bytes as a number, the first byte lowest. -/
def leNat : List Byte → Nat
  | [] => 0
  | b :: t => b.toNat + 256 * leNat t

/-- The low `n` bytes of a number, lowest first. -/
def leBytes : Nat → Nat → List Byte
  | 0, _ => []
  | n + 1, x => BitVec.ofNat 8 x :: leBytes n (x / 256)

/-- Rule R18: a is newer than b when (a − b) mod 65,536 lies in 1…32,767. -/
def newer16 (a b : Nat) : Bool :=
  let d := (a % 65536 + 65536 - b % 65536) % 65536
  1 ≤ d && d ≤ 32767

/-- A table by key: entries in strictly rising key order, none equal to the default of its key. -/
abbrev Sparse (β : Type) := List (Nat × β)

/-- The entry of key `k`, or the default of `k` when the table lists none. -/
def Sparse.get {β : Type} (d : Nat → β) : Sparse β → Nat → β
  | [], k => d k
  | (a, b) :: t, k => if k = a then b else Sparse.get d t k

/-- The table without key `k`. -/
def Sparse.erase {β : Type} : Sparse β → Nat → Sparse β
  | [], _ => []
  | (a, b) :: t, k => if k = a then Sparse.erase t k else (a, b) :: Sparse.erase t k

/-- The table with `v` listed at `k`, in key order. -/
def Sparse.insert {β : Type} : Sparse β → Nat → β → Sparse β
  | [], k, v => [(k, v)]
  | (a, b) :: t, k, v =>
    if k < a then (k, v) :: (a, b) :: t
    else if k = a then (k, v) :: t
    else (a, b) :: Sparse.insert t k v

/-- The table with `v` at `k`; writing the default removes the entry. -/
def Sparse.set {β : Type} [DecidableEq β] (d : Nat → β) (m : Sparse β) (k : Nat) (v : β) : Sparse β :=
  if v = d k then m.erase k else m.insert k v

/-- The canonical form: keys strictly rising, no entry equal to its default. -/
def Sparse.wf {β : Type} [DecidableEq β] (d : Nat → β) : Sparse β → Bool
  | [] => true
  | [(a, b)] => decide (b ≠ d a)
  | (a, b) :: (c, e) :: t => decide (b ≠ d a) && decide (a < c) && Sparse.wf d ((c, e) :: t)

/-- A table entry of a unit, with one default for all. -/
abbrev Sparse.at {β : Type} (m : Sparse β) (d : β) (k : Nat) : β := Sparse.get (fun _ => d) m k

/-- A table with an entry of a unit replaced. -/
abbrev Sparse.put {β : Type} [DecidableEq β] (m : Sparse β) (d : β) (k : Nat) (v : β) : Sparse β :=
  Sparse.set (fun _ => d) m k v

end Sys2Proof
end

