-- ==== Sys2Proof/Syntax.lean ====
section
/-! DEFINITION. The commands of the block: one constructor per row of spec/opcode_table.json, with the operands the rule of the
row names.  A unit is a `Fin n` operand, a record handed to a unit is its 16-byte payload, and a quantity that comes from outside
the block (a level, a measurement, a received frame) is an operand. -/
namespace Sys2Proof

/-- A 32-byte slot, record, cell or Pennant, byte k in bits 8k+7:8k. -/
abbrev Slot := BitVec 256

/-- A record (R71): TIME, TARGET, SRC, OPCODE, FLAGS, GTAG, GEN, PAYLOAD, SEQ, CRC. -/
structure Rec where
  time : BitVec 40
  target : BitVec 16
  src : BitVec 8
  opcode : BitVec 8
  flags : BitVec 8
  gtag : BitVec 16
  gen : BitVec 16
  payload : BitVec 128
  seq : BitVec 8
  crc : BitVec 8
deriving DecidableEq, Repr

/-- Where a record came from: a unit of this module, or a Halyard port. -/
inductive Via where
  | unit
  | port (p : Fin 4)
deriving DecidableEq, Repr

/-- A codeword as the code delivers it (R57, R60): header bits 63:0, six slots, symbols corrected. -/
structure Codeword where
  header : BitVec 64
  slots : List Slot
  corrected : Fin 6
deriving DecidableEq, Repr

/-- What the two-wire pages of a pluggable say of its medium (R55). -/
inductive Medium where
  | optical
  | copper (metres : Nat)
  | other
deriving DecidableEq, Repr

/-- The cage signal that takes a port down (R63). -/
inductive LinkLoss where
  | modAbs
  | rxLos
  | txFault
deriving DecidableEq, Repr

/-- One input of the J14 reference (R49). -/
inductive RefInput where
  | mhz10
  | pps1
deriving DecidableEq, Repr

/-- One stage a peer lists in PROVE (R277): its STAGE_ID, the owner it names and the generation G. -/
structure StageClaim where
  stage : BitVec 16
  owner : BitVec 8
  gen : BitVec 16
deriving DecidableEq, Repr

/-- A register name of a field processor (R294): global, window, rotating. -/
inductive FpReg where
  | g (n : Fin 8)
  | w (n : Fin 16)
  | q (n : Fin 32)
deriving DecidableEq, Repr

/-- A register or an immediate, given as the value the operation uses. -/
inductive FpSrc where
  | reg (r : FpReg)
  | imm (v : Word)
deriving DecidableEq, Repr

/-- A data address (R302): [ra + imm12], [ra += imm12], [ra +=% imm12], [ra +=r rb]. -/
inductive FpAddr where
  | off (ra : FpReg) (imm : Word)
  | post (ra : FpReg) (imm : Word)
  | circ (ra : FpReg) (imm : Word)
  | rev (ra rb : FpReg)
deriving DecidableEq, Repr

/-- The upper or lower half of a register. -/
structure FpHalf where
  r : FpReg
  high : Bool
deriving DecidableEq, Repr

/-- A CAN frame as the bus carries it (R378): identifier (a base one in bits 28:18), extended, FD format, bit-rate switch, error state
indicator, remote, length code, data byte k in bits 8k+7:8k. -/
structure CanFrame where
  ident : BitVec 29
  ide : Bool
  fdf : Bool
  brs : Bool
  esi : Bool
  rtr : Bool
  dlc : BitVec 4
  data : BitVec 512
deriving DecidableEq, Repr

/-- How a transmission ends (R387): success, arbitration lost, or an error: step of the transmit error counter, code as `LEC`, in the data
phase. -/
inductive TxEnd where
  | success
  | lost
  | error (step : Fin 9) (lec : Fin 7) (data : Bool)
deriving DecidableEq, Repr


/-- What J15 holds (R411): no key, one that does not answer or is treated as absent, the key the state holds, or another one, its flash
given byte by byte (unlisted bytes erased). -/
inductive KeyAtJ15 where
  | absent
  | dead
  | same
  | other (flash : List (Nat × Byte))
deriving DecidableEq, Repr

/-- What a run of Pitch meets outside the block (R426): the key; key addresses whose reads do not complete; whether the writes of step 2 and
step 11 fail; per gate channel V1, V2 and the channels that read above 0.15 V (R180); the closed harness loops; per auxiliary output V1,
V2 and the outputs that moved (R407); a channel whose removal is not confirmed at step 10 (R327); the duration in ms. -/
structure PitchRun where
  key : KeyAtJ15
  badReads : List Nat
  badCount : Bool
  badDesc : Bool
  gate : List (BitVec 12 × BitVec 12 × BitVec 24)
  loops : BitVec 6
  aux : List (BitVec 12 × BitVec 12 × BitVec 12)
  unconfirmed : Option (Fin 24)
  ms : BitVec 16
deriving DecidableEq, Repr

/-- What a housekeeping slot measures (R450): the die diode in 1/16 °C, none when open or shorted; a TEMP input's resistance in mΩ, none when
open or shorted; a rail in mV; REF_A, REF_B or REF_M; the deviations of REF_A and REF_B in ppm; the evaluation of slot 29; the tests of six
comparators; a SAR calibration step within its limits; the compensation of slot 56; an idle slot. -/
inductive HkTask where
  | die (t : Option (BitVec 16))
  | temp (r : Option (BitVec 40))
  | rail (mV : BitVec 16)
  | ref
  | compare (a b : BitVec 16)
  | evaluate
  | comparators (pass : BitVec 6)
  | sar (pass : Bool)
  | clocks
  | idle
deriving DecidableEq, Repr


/-- The path of a management cell (R463): the service port, CAN3, a Halyard port. -/
inductive MgtPath where
  | svc
  | can3
  | hal (p : Fin 4)
deriving DecidableEq, Repr

/-- What a commanded action meets outside the block: the links of a gate channel answer (R177); the listed members that
have RUN_TIME_OK at a rejoin (R288); the original cell is FENCED at a handback (R285); a key write fails; a page of the log as a failed flush leaves it (R470); the die diode
during a prelude (R459), in 1/16 °C, none when open or shorted; the flags of a W1C register whose condition is present (R11). -/
structure CmdIn where
  linkValid : Bool
  timeOk : BitVec 8
  fenced : Bool
  fails : Bool
  flush : Option (List Byte)
  diode : Option (BitVec 16)
  present : Word
deriving DecidableEq, Repr

/-- The commands, one constructor per row of the table. -/
inductive Instr where
  /-- ADD (R301): register or immediate. -/
  | opAdd (f : Fin 10) (last : Bool) (rd ra : FpReg) (b : FpSrc)
  /-- SUB (R301): register or immediate. -/
  | opSub (f : Fin 10) (last : Bool) (rd ra : FpReg) (b : FpSrc)
  /-- AND (R301): register or immediate. -/
  | opAnd (f : Fin 10) (last : Bool) (rd ra : FpReg) (b : FpSrc)
  /-- OR (R301): register or immediate. -/
  | opOr (f : Fin 10) (last : Bool) (rd ra : FpReg) (b : FpSrc)
  /-- XOR (R301): register or immediate. -/
  | opXor (f : Fin 10) (last : Bool) (rd ra : FpReg) (b : FpSrc)
  /-- ANDN (R301): register or immediate. -/
  | andn (f : Fin 10) (last : Bool) (rd ra : FpReg) (b : FpSrc)
  /-- SHL (R301): shift by a register or an immediate. -/
  | shl (f : Fin 10) (last : Bool) (rd ra : FpReg) (b : FpSrc)
  /-- SHR (R301): shift by a register or an immediate. -/
  | shr (f : Fin 10) (last : Bool) (rd ra : FpReg) (b : FpSrc)
  /-- SHRA (R301): shift by a register or an immediate. -/
  | shra (f : Fin 10) (last : Bool) (rd ra : FpReg) (b : FpSrc)
  /-- MIN (R301): signed. -/
  | fpMin (f : Fin 10) (last : Bool) (rd ra rb : FpReg)
  /-- MAX (R301): signed. -/
  | fpMax (f : Fin 10) (last : Bool) (rd ra rb : FpReg)
  /-- ABS (R301): signed. -/
  | fpAbs (f : Fin 10) (last : Bool) (rd ra : FpReg)
  /-- SEQ (R301): comparison. -/
  | seq (f : Fin 10) (last : Bool) (rd ra : FpReg) (b : FpSrc)
  /-- SLT (R301): comparison. -/
  | slt (f : Fin 10) (last : Bool) (rd ra : FpReg) (b : FpSrc)
  /-- SLTU (R301): comparison. -/
  | sltu (f : Fin 10) (last : Bool) (rd ra : FpReg) (b : FpSrc)
  /-- MOVI (R301): immediate. -/
  | movi (f : Fin 10) (last : Bool) (rd : FpReg) (imm : BitVec 16)
  /-- MOVHI (R301): immediate. -/
  | movhi (f : Fin 10) (last : Bool) (rd : FpReg) (imm : BitVec 16)
  /-- MUL (R301): low 32 bits. -/
  | opMul (f : Fin 10) (last : Bool) (rd ra rb : FpReg)
  /-- ADDS_H (R301): two lanes. -/
  | addsH (f : Fin 10) (last : Bool) (rd ra rb : FpReg)
  /-- SUBS_H (R301): two lanes. -/
  | subsH (f : Fin 10) (last : Bool) (rd ra rb : FpReg)
  /-- MPY (R297): halves of two registers. -/
  | mpy (f : Fin 10) (last : Bool) (n : Fin 2) (a b : FpHalf)
  /-- MAC (R297): halves of two registers. -/
  | mac (f : Fin 10) (last : Bool) (n : Fin 2) (a b : FpHalf)
  /-- MSU (R297): halves of two registers. -/
  | msu (f : Fin 10) (last : Bool) (n : Fin 2) (a b : FpHalf)
  /-- ACCADD (R301): acc0 + acc1. -/
  | accadd (f : Fin 10) (last : Bool) (n : Fin 2)
  /-- ACCSET (R301): Q1.31. -/
  | accset (f : Fin 10) (last : Bool) (n : Fin 2) (ra : FpReg)
  /-- ACCSHL (R301): shift. -/
  | accshl (f : Fin 10) (last : Bool) (n : Fin 2) (imm : Fin 32)
  /-- ACCSHR (R301): shift. -/
  | accshr (f : Fin 10) (last : Bool) (n : Fin 2) (imm : Fin 32)
  /-- ACCRD (R301): shift, round and saturate. -/
  | accrd (f : Fin 10) (last : Bool) (rd : FpReg) (n : Fin 2) (imm : Fin 9)
  /-- ACCRD_W (R301): saturate to Q1.31. -/
  | accrdW (f : Fin 10) (last : Bool) (rd : FpReg) (n : Fin 2)
  /-- NORM (R301): redundant sign bits. -/
  | norm (f : Fin 10) (last : Bool) (rd ra : FpReg)
  /-- NORM_H (R301): redundant sign bits. -/
  | normH (f : Fin 10) (last : Bool) (rd ra : FpReg)
  /-- NORMACC (R301): redundant sign bits of an accumulator. -/
  | normacc (f : Fin 10) (last : Bool) (rd : FpReg) (n : Fin 2)
  /-- BEXP (R301): block exponent. -/
  | bexp (f : Fin 10) (last : Bool) (rd ra : FpReg)
  /-- EXPX (R301): unbiased exponent. -/
  | expx (f : Fin 10) (last : Bool) (rd fa : FpReg)
  /-- FADD (R308): binary32. -/
  | fadd (f : Fin 10) (last : Bool) (fd fa fb : FpReg)
  /-- FSUB (R308): binary32. -/
  | fsub (f : Fin 10) (last : Bool) (fd fa fb : FpReg)
  /-- FMUL (R308): binary32. -/
  | fmul (f : Fin 10) (last : Bool) (fd fa fb : FpReg)
  /-- FMA (R308): one rounding. -/
  | fma (f : Fin 10) (last : Bool) (fd fa fb fc : FpReg)
  /-- FMS (R308): one rounding. -/
  | fms (f : Fin 10) (last : Bool) (fd fa fb fc : FpReg)
  /-- FDIV (R308): binary32. -/
  | fdiv (f : Fin 10) (last : Bool) (fd fa fb : FpReg)
  /-- FSQRT (R308): binary32. -/
  | fsqrt (f : Fin 10) (last : Bool) (fd fa : FpReg)
  /-- FSCALE (R301): fa × 2^rb. -/
  | fscale (f : Fin 10) (last : Bool) (fd fa rb : FpReg)
  /-- FMIN (R309): minimumNumber, maximumNumber. -/
  | fmin (f : Fin 10) (last : Bool) (fd fa fb : FpReg)
  /-- FMAX (R309): minimumNumber, maximumNumber. -/
  | fmax (f : Fin 10) (last : Bool) (fd fa fb : FpReg)
  /-- FABS (R301): sign bit only. -/
  | fabs (f : Fin 10) (last : Bool) (fd fa : FpReg)
  /-- FNEG (R301): sign bit only. -/
  | fneg (f : Fin 10) (last : Bool) (fd fa : FpReg)
  /-- FCEQ (R309): comparison. -/
  | fceq (f : Fin 10) (last : Bool) (rd fa fb : FpReg)
  /-- FCLT (R309): comparison. -/
  | fclt (f : Fin 10) (last : Bool) (rd fa fb : FpReg)
  /-- FCLE (R309): comparison. -/
  | fcle (f : Fin 10) (last : Bool) (rd fa fb : FpReg)
  /-- FCVT_S_W (R309): conversion. -/
  | fcvtSW (f : Fin 10) (last : Bool) (rd ra : FpReg)
  /-- FCVT_W_S (R309): conversion. -/
  | fcvtWS (f : Fin 10) (last : Bool) (rd ra : FpReg)
  /-- FCVT_S_Q15 (R309): conversion. -/
  | fcvtSQ15 (f : Fin 10) (last : Bool) (rd ra : FpReg)
  /-- FCVT_Q15_S (R309): conversion. -/
  | fcvtQ15S (f : Fin 10) (last : Bool) (rd ra : FpReg)
  /-- MFS (R298): special register read. -/
  | mfs (f : Fin 10) (last : Bool) (rd : FpReg) (spr : BitVec 8)
  /-- MTS (R298): special register write. -/
  | mts (f : Fin 10) (last : Bool) (spr : BitVec 8) (ra : FpReg)
  /-- LD_B (R302): load. -/
  | ldB (f : Fin 10) (last : Bool) (rd : FpReg) (a : FpAddr)
  /-- LD_BU (R302): load. -/
  | ldBu (f : Fin 10) (last : Bool) (rd : FpReg) (a : FpAddr)
  /-- LD_H (R302): load. -/
  | ldH (f : Fin 10) (last : Bool) (rd : FpReg) (a : FpAddr)
  /-- LD_HU (R302): load. -/
  | ldHu (f : Fin 10) (last : Bool) (rd : FpReg) (a : FpAddr)
  /-- LD_W (R302): load. -/
  | ldW (f : Fin 10) (last : Bool) (rd : FpReg) (a : FpAddr)
  /-- LD_D (R302): load. -/
  | ldD (f : Fin 10) (last : Bool) (rd : FpReg) (a : FpAddr)
  /-- ST_B (R305): store. -/
  | stB (f : Fin 10) (last : Bool) (a : FpAddr) (rs : FpReg)
  /-- ST_H (R305): store. -/
  | stH (f : Fin 10) (last : Bool) (a : FpAddr) (rs : FpReg)
  /-- ST_W (R305): store. -/
  | stW (f : Fin 10) (last : Bool) (a : FpAddr) (rs : FpReg)
  /-- ST_D (R305): store. -/
  | stD (f : Fin 10) (last : Bool) (a : FpAddr) (rs : FpReg)
  /-- FP_FENCE (R305): empty the store buffer. -/
  | fpFence (f : Fin 10) (last : Bool)
  /-- DEQ (R304): queue ra, data address rb. -/
  | deq (f : Fin 10) (last : Bool) (rd ra rb : FpReg)
  /-- ENQ (R304): 32 bytes at ra. -/
  | enq (f : Fin 10) (last : Bool) (rd ra : FpReg)
  /-- WSPILL (R311): 64 bytes at ra. -/
  | wspill (f : Fin 10) (last : Bool) (ra : FpReg)
  /-- WFILL (R311): 64 bytes at ra. -/
  | wfill (f : Fin 10) (last : Bool) (ra : FpReg)
  /-- BR (R301): label. -/
  | fpBr (f : Fin 10) (last : Bool) (label : BitVec 16)
  /-- CALL (R295): label. -/
  | fpCall (f : Fin 10) (last : Bool) (label : BitVec 16)
  /-- CALLR (R295): address in ra. -/
  | callr (f : Fin 10) (last : Bool) (ra : FpReg)
  /-- BEQZ (R301): conditional. -/
  | beqz (f : Fin 10) (last : Bool) (ra : FpReg) (label : BitVec 16)
  /-- BNEZ (R301): conditional. -/
  | bnez (f : Fin 10) (last : Bool) (ra : FpReg) (label : BitVec 16)
  /-- BLTZ (R301): conditional. -/
  | bltz (f : Fin 10) (last : Bool) (ra : FpReg) (label : BitVec 16)
  /-- BGEZ (R301): conditional. -/
  | bgez (f : Fin 10) (last : Bool) (ra : FpReg) (label : BitVec 16)
  /-- RET (R295): no operand. -/
  | fpRet (f : Fin 10) (last : Bool)
  /-- XRET (R311): no operand. -/
  | xret (f : Fin 10) (last : Bool)
  /-- LOOP (R303): count, end label. -/
  | fpLoop (f : Fin 10) (last : Bool) (count : FpSrc) (label : BitVec 16)
  /-- LOOPR (R296): count, end label, rotation step k + 1. -/
  | loopr (f : Fin 10) (last : Bool) (count : FpSrc) (label : BitVec 16) (k : Fin 8)
  /-- WAIT (R304): cycle in ra. -/
  | fpWait (f : Fin 10) (last : Bool) (rd ra : FpReg)
  /-- TRAP (R311): software cause. -/
  | fpTrap (f : Fin 10) (last : Bool) (imm : Fin 16)
  /-- WAIT_WAKE (R304): a wake condition; whether CYCLE equals the register. -/
  | waitWake (f : Fin 10) (cycle : Bool)
  /-- STALL_RELEASE (R300): what a bundle waits for has come. -/
  | stallRelease (f : Fin 10)
  /-- STORE_DRAIN (R305): the oldest buffered store drains. -/
  | storeDrain (f : Fin 10)
  /-- DEQ_COMPLETE (R304): the oldest DEQ in progress. -/
  | deqComplete (f : Fin 10)
  /-- ENQ_COMPLETE (R304): the oldest ENQ in progress. -/
  | enqComplete (f : Fin 10)
  /-- INBOX_WRITE (R293): the oldest entry on its way to the inbox. -/
  | inboxWrite (f : Fin 10)
  /-- WATCHDOG_EXPIRY (R313): WDOG µs without a write of KICK. -/
  | watchdogExpiry (f : Fin 10)
  /-- SANDBOX_BUDGET_EXHAUSTED (R315): SBX_LEFT reaches 0. -/
  | sandboxBudgetExhausted (f : Fin 10)
  /-- SPARES_POLICY (R316): the halted processor. -/
  | sparesPolicy (f : Fin 10)
  /-- SPARE_SELF_TEST (R318): the spare; the verdict, none as the test begins. -/
  | spareSelfTest (f : Fin 10) (verdict : Option Bool)
  /-- PEEK_SAMPLE (R307): the microsecond sample. -/
  | peekSample (f : Fin 10)
  /-- SPARE_LOAD_DONE (R317): the processor loaded; the copy met an uncorrectable error in the instruction, in the data SRAM. -/
  | spareLoadDone (f : Fin 10) (keyI keyD : Bool)
  /-- FP_CLEAR_COUNTERS (R10): FP_CMD 0x0001. -/
  | fpClearCounters (f : Fin 10)
  /-- REGISTER_WRITE (R10): a write on the readback path; aligned32 false: another width or alignment. -/
  | registerWrite (a : Word) (v : Word) (aligned32 : Bool) (requester : BitVec 16) (inp : CmdIn)
  /-- W1C_CLEAR (R11): a write to a W1C register; the flags whose condition is present or arises in the same clock. -/
  | w1cClear (a : Word) (v : Word) (present : Word)
  /-- LOCK_WRITE (R14): a write to a LOCK register. -/
  | lockWrite (a : Word) (v : Word)
  /-- FP_PEEK_ADDR_WRITE (R495): a write to FP_PEEK_ADDR of a processor. -/
  | fpPeekAddrWrite (f : Fin 10) (v : Word)
  /-- TIME_SLOT_SEND (R59): the next codeword of port p starts at a whole microsecond. -/
  | timeSlotSend (p : Fin 4)
  /-- TIME_SLOT_RECEIVE (R52): a time slot with its receive stamp; the peer's factory serial (Burgee identity) and, in PROVE, its stage claims. -/
  | timeSlotReceive (p : Fin 4) (slot : Slot) (stamp : Time) (serial : BitVec 48) (claims : List StageClaim)
  /-- FREE_ELECTION_TIMEOUT (R43): 20 ms since the end of Pitch. -/
  | freeElectionTimeout
  /-- UPSTREAM_SILENCE (R43): 8 µs without a valid upstream exchange. -/
  | upstreamSilence
  /-- MASTER_ALIVE_STALE (R43): 8 µs without a newer alive count on any port. -/
  | masterAliveStale
  /-- CANDIDATE_ELECTION_WON (R43): 16 µs without a lower candidate. -/
  | candidateElectionWon
  /-- COUNT_WRAP (R38): the count passes 2^64 − 1. -/
  | countWrap
  /-- REF_INPUT_LOST (R49): a J14 input is lost. -/
  | refInputLost (ref : RefInput)
  /-- CODEWORD_RECEIVE (R60): none: not correctable. -/
  | codewordReceive (p : Fin 4) (cw : Option Codeword)
  /-- ROUTE_CELL_SEND (R512): 100 µs have passed. -/
  | routeCellSend
  /-- ROUTE_CELL_RECEIVE (R512): a ROUTE cell on port p. -/
  | routeCellReceive (p : Fin 4) (cell : Slot)
  /-- ROUTE_CELL_TIMEOUT (R512): 1 ms without a route cell. -/
  | routeCellTimeout (p : Fin 4)
  /-- PLUGGABLE_PRESENT (R55): what pages A0h and A2h and RX_LOS say. -/
  | pluggablePresent (p : Fin 4) (ident : BitVec 8) (medium : Medium) (rated rxLos : Bool) (temp : BitVec 16)
  /-- CAGE_SUPPLY_ON (R491): 20 ms since MOD_ABS reads present. -/
  | cageSupplyOn (p : Fin 4)
  /-- TRAINING_SETTLED (R63): levels and equaliser settled. -/
  | trainingSettled (p : Fin 4)
  /-- TRAINING_TIMEOUT (R63): not settled within 40 ms. -/
  | trainingTimeout (p : Fin 4)
  /-- PORT_LINK_LOSS (R63): a cage signal. -/
  | portLinkLoss (p : Fin 4) (why : LinkLoss)
  /-- HAL_CLEAR_COUNTERS (R10): HAL_CMD 0x0001. -/
  | halClearCounters
  /-- HAL_RETRAIN_PORT (R63): HAL_CMD 0x0010 + p. -/
  | halRetrainPort (p : Fin 4)
  /-- HAL_DISABLE_PORT (R63): HAL_CMD 0x0020 + p. -/
  | halDisablePort (p : Fin 4)
  /-- HAL_ENABLE_PORT (R63): HAL_CMD 0x0030 + p. -/
  | halEnablePort (p : Fin 4)
  /-- RX_LOS_CLEARED (R63): RX_LOS deasserts. -/
  | rxLosCleared (p : Fin 4)
  /-- REFERENCE_RETURN (R49): a J14 input returns. -/
  | referenceReturn (ref : RefInput)
  /-- RECORD_ARRIVAL (R75): a record arrives at its queue. -/
  | recordArrival (r : Rec) (via : Via)
  /-- RECORD_FIRE (R80): the launch time of the head record of queue q. -/
  | recordFire (q : BitVec 16)
  /-- COMMIT_ARRIVAL (R86): a COMMIT record. -/
  | commitArrival (r : Rec) (via : Via)
  /-- ABORT_ARRIVAL (R87): an ABORT record. -/
  | abortArrival (r : Rec) (via : Via)
  /-- GROUP_DEADLINE (R86): D of the group. -/
  | groupDeadline (orig : BitVec 8) (tag : BitVec 16)
  /-- GROUP_LAUNCH (R86): launch time of the group. -/
  | groupLaunch (orig : BitVec 8) (tag : BitVec 16)
  /-- GROUP_RELEASE (R86): launch time + GUARD. -/
  | groupRelease (orig : BitVec 8) (tag : BitVec 16)
  /-- HQ_CLEAR_COUNTERS (R10): HQ_CMD 0x0001. -/
  | hqClearCounters
  /-- HQ_ENQ_WRITE (R494): a write of HQ_ENQk; the requester is one SRC on one path. -/
  | hqEnqWrite (k : Fin 8) (v : Word) (requester : BitVec 16)
  /-- HQ_ENQUEUE (R494): HQ_ENQ_CMD 0x0001. -/
  | hqEnqueue
  /-- SD_INPUT_LOST (R98): no valid transition for the stated bit periods. -/
  | sdInputLost (n : Fin 48)
  /-- SD_INPUT_RECOVERED (R98): 2,048 bit periods of valid stream. -/
  | sdInputRecovered (n : Fin 48)
  /-- DEC_OUTPUT (R99): an output boundary; the line levels of the bit periods in the filter window, newest first (R97), and the sample instant (R92). -/
  | decOutput (d : Fin 52) (line : List (BitVec 16)) (t : ShortTime)
  /-- SET_FILTER (R100): record payload. -/
  | setFilter (d : Fin 52) (p : Quad)
  /-- DEC_ALIGN (R100): record payload. -/
  | decAlign (d : Fin 52) (p : Quad)
  /-- WINDOW_OUT (R102): consecutive bit periods, oldest first: 16 levels of the input's line in each (R97). -/
  | windowOut (n : Fin 48) (line : List (BitVec 16))
  /-- ROTATION_TICK (R105): ROT_PERIOD has passed. -/
  | rotationTick
  /-- SHADOW_HANDOVER (R105): the output boundary of a matched shadow. -/
  | shadowHandover (d : Fin 52)
  /-- SHADOW_MISMATCH (R105): K + 5 outputs without a match. -/
  | shadowMismatch (d : Fin 52)
  /-- PATTERN_TEST_DONE (R105): the pattern test ends. -/
  | patternTestDone (d : Fin 52) (pass : Bool)
  /-- DEC_CHECK_ERROR (R105): an internal check fails. -/
  | decCheckError (d : Fin 52)
  /-- SNS_CLEAR_COUNTERS (R10): SNS_CMD 0x0001. -/
  | snsClearCounters
  /-- SNS_ROTATION_STEP (R105): SNS_CMD 0x0002. -/
  | snsRotationStep
  /-- CONVERT (R108): record payload. -/
  | convert (c : Fin 4) (p : Quad)
  /-- RUN_SEQ (R108): record payload. -/
  | runSeq (c : Fin 4) (p : Quad)
  /-- SAR_CONVERSION_END (R107): the running conversion completes; its result and the end of its acquisition. -/
  | sarConversionEnd (c : Fin 4) (raw : BitVec 16) (t : ShortTime)
  /-- SAR_CAL_STALL (R112): a calibration pass incomplete after 10 s. -/
  | sarCalStall (c : Fin 4)
  /-- VON_SAMPLE (R114): record payload. -/
  | vonSample (g : Fin 24) (p : Quad)
  /-- VON_ENTRY_WRITTEN (R114): the VON conversion completes. -/
  | vonEntryWritten (g : Fin 24) (raw : BitVec 12) (selfCheck : Bool)
  /-- CODING_ERROR (R97): a bit period without a mid-bit transition. -/
  | codingError (n : Fin 48)
  /-- HALL_SYNC_CHANGE (R125): a new synchronised state, A in bit 2; the signals that changed back before FILT_N samples; the synchronised levels of the index inputs. -/
  | hallSyncChange (h : Fin 6) (abc rejected : BitVec 3) (idx : BitVec 4)
  /-- HALL_IMPOSSIBLE_TIMEOUT (R128): INV_LIMIT in an impossible state. -/
  | hallImpossibleTimeout (h : Fin 6)
  /-- HALL_LEVEL_ACCEPTED (R127): the filtered state after an accepted level, and its edge time. -/
  | hallLevelAccepted (h : Fin 6) (abc : BitVec 3) (edge : Time)
  /-- INDEX_EDGE_ACCEPTED (R134): an accepted index edge; the levels rejected since the last one; the state its triplet accepts in the same sampling clock, with its edge time. -/
  | indexEdgeAccepted (k : Fin 4) (rising : Bool) (edge : Time) (rejected : BitVec 16) (hall : Option (BitVec 3 × Time))
  /-- PROBE_EDGE_ACCEPTED (R136): an accepted probe edge; the levels rejected since the last one; the state its triplet accepts in the same sampling clock, with its edge time. -/
  | probeEdgeAccepted (k : Fin 4) (rising : Bool) (edge : Time) (rejected : BitVec 16) (hall : Option (BitVec 3 × Time))
  /-- SNAPSHOT (R132): record payload. -/
  | snapshot (h : Fin 6) (p : Quad)
  /-- SELECT (R137): record payload. -/
  | hptSelect (o : Fin 2) (p : Quad)
  /-- POS_CLEAR_COUNTERS (R10): POS_CMD 0x0001. -/
  | posClearCounters
  /-- CARRIER_SYNC (R145): record payload and launch time. -/
  | carrierSync (c : Fin 8) (p : Quad) (launch : Time)
  /-- SET_PERIOD (R145): record payload and launch time. -/
  | setPeriod (c : Fin 8) (p : Quad) (launch : Time)
  /-- CARRIER_STOP (R145): record payload. -/
  | carrierStop (c : Fin 8) (p : Quad)
  /-- CARRIER_INSTANT (R144): the next zero (or the peak before it) of a running carrier. -/
  | carrierInstant (c : Fin 8) (peak : Bool)
  /-- LEG_SET (R148): record payload at output o, with the requested instant; late: it fires after its launch time. -/
  | legSet (o : Fin 24) (p : Quad) (t : Time) (late : Bool)
  /-- OUT_SET (R148): record payload at output o, with the requested instant; late: it fires after its launch time. -/
  | outSet (o : Fin 24) (p : Quad) (t : Time) (late : Bool)
  /-- DEAD_TIME_ELAPSED (R150): the dead time of pair A or B of leg n has passed. -/
  | deadTimeElapsed (n : Fin 12) (pairB : Bool)
  /-- DELAY_LINE_SWAP (R142): a whole millisecond; gap: an EDGE period without edge came within 10 µs. -/
  | delayLineSwap (o : Fin 24) (gap : Bool)
  /-- LINE_CALIBRATION_DONE (R143): the worst residual of the idle line's calibration in ps. -/
  | lineCalibrationDone (o : Fin 24) (residual : Nat)
  /-- TRIP_PIN_QUALIFIED (R154): QUAL + 1 consecutive samples of the level. -/
  | tripPinQualified (p : Fin 4) (level : Bool)
  /-- TRIP_ROW_ACTIVE (R157): an active row acts. -/
  | tripRowActive (r : Fin 52)
  /-- PERIOD_START (R156): a switching period of leg n starts. -/
  | periodStart (n : Fin 12)
  /-- LEG_RETRY_WAIT_END (R157): the retry wait ends. -/
  | legRetryWaitEnd (n : Fin 12)
  /-- LEG_TRIP_PERSIST (R157): 60 s of an active selecting row. -/
  | legTripPersist (n : Fin 12)
  /-- EDG_CLEAR_COUNTERS (R10): EDG_CMD 0x0001. -/
  | edgClearCounters
  /-- EDG_CLEAR_LEG (R157): EDG_CMD 0x0100 + n. -/
  | edgClearLeg (n : Fin 12)
  /-- LINE_CHECK_ERROR (R143): the serving line fails its internal check. -/
  | lineCheckError (o : Fin 24)
  /-- CARRIER_CHECK_FAIL (R144): the carrier's internal check fails. -/
  | carrierCheckFail (c : Fin 8)
  /-- T3L_INNER_ELAPSED (R150): T3L_INNER since the outer neighbour was off. -/
  | t3lInnerElapsed (n : Fin 12)
  /-- SUPPLY_READY (R161): 1 ms inside the window; the rails in 10 mV. -/
  | supplyReady (g : Fin 24) (vpos vneg : BitVec 16)
  /-- SUPPLY_FAULT (R162): 1 µs outside the window; the rails in 10 mV. -/
  | supplyFault (g : Fin 24) (vpos vneg : BitVec 16)
  /-- SUPPLY_OVERLOAD (R162): 100 ms average of the supply power. -/
  | supplyOverload (g : Fin 24) (mw : BitVec 16)
  /-- GATE_COMMAND_ARRIVAL (R163): a command level at the isolated side; it lasts less than 10 ns (R167); the isolated side's link is up (R174). -/
  | gateCommandArrival (g : Fin 24) (level brief link : Bool)
  /-- PROFILE_PHASE_END (R163): the threshold or PLAT_TMAX of the phase; GSNS in 10 mV, signed. -/
  | profilePhaseEnd (g : Fin 24) (gsns : BitVec 16)
  /-- BLANKING_END (R169): BLANK has passed; GSNS in 10 mV, signed. -/
  | blankingEnd (g : Fin 24) (gsns : BitVec 16)
  /-- DESAT_DETECTED (R169): DSAT above the threshold. -/
  | desatDetected (g : Fin 24)
  /-- SOFT_TURN_OFF_END (R169): SOFT_END or SOFT_TMAX. -/
  | softTurnOffEnd (g : Fin 24)
  /-- DESAT_FLAG_ARRIVAL (R170): the flag reaches the edge generator. -/
  | desatFlagArrival (g : Fin 24)
  /-- GATE_OFF_REPORT (R170): the gate is reported below VG_OFF_TH; GSNS in 10 mV, signed. -/
  | gateOffReport (g : Fin 24) (gsns : BitVec 16)
  /-- GATE_MISS (R173): GSNS, in 10 mV and signed, does not follow within VG_TMO. -/
  | gateMiss (g : Fin 24) (gsns : BitVec 16)
  /-- ISOLATED_LINK_LOSS (R174): 100 ns without a valid word at the isolated side. -/
  | isolatedLinkLoss (g : Fin 24)
  /-- PRIMARY_LINK_FAULT (R174): 100 ns without a valid word at the primary side. -/
  | primaryLinkFault (g : Fin 24)
  /-- GD_RETRY_WAIT_END (R175): the wait ends; valid words come from the channel. -/
  | gdRetryWaitEnd (g : Fin 24) (linkValid : Bool)
  /-- CLEAR (R178): record payload; valid words come from the channel. -/
  | gdClear (g : Fin 24) (p : Quad) (linkValid : Bool)
  /-- GD_CLEAR_CHANNEL (R178): GD_CMD 0x0100 + g; valid words come from the channel. -/
  | gdClearChannel (g : Fin 24) (linkValid : Bool)
  /-- GD_RUN_DIAGNOSTICS (R175): GD_CMD 0x0200 + g. -/
  | gdRunDiagnostics (g : Fin 24)
  /-- GD_CLEAR_COUNTERS (R10): GD_CMD 0x0001. -/
  | gdClearCounters
  /-- INTERLOCK_OPEN (R179): the loop of group j opens. -/
  | interlockOpen (j : Fin 6)
  /-- INTERLOCK_CLOSED_SETTLED (R179): 20 ms closed without break. -/
  | interlockClosedSettled (j : Fin 6)
  /-- DIAGNOSTICS_COMPLETE (R180): V1 and V2 in 10 mV, and the channels that read above 0.15 V while g sourced. -/
  | diagnosticsComplete (g : Fin 24) (v1 v2 : BitVec 12) (wired : BitVec 24)
  /-- FSW_WINDOW (R183): 10 ms of counting turn-on edges end. -/
  | fswWindow (g : Fin 24)
  /-- REGULATOR_TICK (R189): a tick of regulator c. -/
  | regulatorTick (c : Fin 4)
  /-- SET_CURRENT (R213): record payload. -/
  | setCurrent (c : Fin 4) (p : Quad)
  /-- BND_SET_MODE (R193): record payload. -/
  | bndSetMode (c : Fin 4) (p : Quad)
  /-- BND_SWAP_BANK (R195): record payload. -/
  | bndSwapBank (c : Fin 4) (p : Quad)
  /-- BND_ENABLE (R193): record payload. -/
  | bndEnable (c : Fin 4) (p : Quad)
  /-- SET_ANGLE (R187): record payload. -/
  | setAngle (c : Fin 4) (p : Quad)
  /-- BND_SET_LIMIT (R212): record payload. -/
  | bndSetLimit (c : Fin 4) (p : Quad)
  /-- SET_TMAG (R211): record payload. -/
  | setTmag (c : Fin 4) (p : Quad)
  /-- EDGE_RECORD_ISSUE (R198): ISSUE_LEAD before the launch of the earliest computed edge. -/
  | edgeRecordIssue (c : Fin 4)
  /-- ANGLE_TIMEOUT (R187): ANG_TMO since t_a. -/
  | angleTimeout (c : Fin 4)
  /-- VDC_TIMEOUT (R188): 100 µs without a valid DC-link entry. -/
  | vdcTimeout (c : Fin 4)
  /-- CARRIER_LOSS (R193): 2 P without a zero instant. -/
  | carrierLoss (c : Fin 4)
  /-- NP_LIMIT_TIMEOUT (R202): 10 ms above NP_LIM. -/
  | npLimitTimeout (c : Fin 4)
  /-- BAND_ADAPT (R203): a millisecond has passed. -/
  | bandAdapt (c : Fin 4)
  /-- FIELD_WEAKENING_UPDATE (R210): 10 µs have passed. -/
  | fieldWeakeningUpdate (c : Fin 4)
  /-- TMAG_TIMEOUT (R211): TMAG_TMO seconds without SET_TMAG. -/
  | tmagTimeout (c : Fin 4)
  /-- RESIDUAL_WINDOW (R191): a millisecond has passed. -/
  | residualWindow (c : Fin 4)
  /-- LR_STEP_TIMEOUT (R215): 4 t_min + 20 µs since the step's launch. -/
  | lrStepTimeout (c : Fin 4)
  /-- BND_CLEAR_COUNTERS (R10): BND_CMD 0x0001. -/
  | bndClearCounters (c : Fin 4)
  /-- BND_CHECK_ERROR (R280): an internal check of regulator c fails. -/
  | bndCheckError (c : Fin 4)
  /-- ST_START (R220): BND_ST_CMD 0x0001. -/
  | stStart (c : Fin 4)
  /-- ST_STOP (R220): BND_ST_CMD 0x0002. -/
  | stStop (c : Fin 4)
  /-- ST_COAST (R220): BND_ST_CMD 0x0003. -/
  | stCoast (c : Fin 4)
  /-- ST_CLEAR_COUNTERS (R222): BND_ST_CMD 0x0004. -/
  | stClearCounters (c : Fin 4)
  /-- ST_RESET (R220): BND_ST_CMD 0x0005. -/
  | stReset (c : Fin 4)
  /-- CHECK_COMPLETE (R221): CHECK has run. -/
  | checkComplete (c : Fin 4)
  /-- SENSE_WINDOW_END (R223): FLY_WIN has passed; the entries of both terminal voltages, one pair every 25 µs, oldest first. -/
  | senseWindowEnd (c : Fin 4) (conv : List (Quad × Quad))
  /-- CATCH_SYNC_END (R224): FLY_SYNC has passed; the observer's outputs of the last 1 ms: short time, θ, ω. -/
  | catchSyncEnd (c : Fin 4) (obs : List (Time × BitVec 16 × BitVec 16))
  /-- CATCH_TIMEOUT (R220): 4 FLY_SYNC in CATCH. -/
  | catchTimeout (c : Fin 4)
  /-- ALIGN_TIME_END (R225): T_ALIGN in ALIGN. -/
  | alignTimeEnd (c : Fin 4)
  /-- RAMP_REACHED (R225): the ramp speed magnitude is W_HAND. -/
  | rampReached (c : Fin 4)
  /-- HANDOVER_CONFIRMED (R225): the observer's outputs over the last T_HAND, oldest first: θ, ω. -/
  | handoverConfirmed (c : Fin 4) (obs : List (BitVec 16 × BitVec 16))
  /-- HANDOVER_TIMEOUT (R220): 4 T_HAND in HANDOVER. -/
  | handoverTimeout (c : Fin 4)
  /-- PASS_ENTRY (R226): the observer's angle and speed, its magnitude down to W_HAND. -/
  | passEntry (c : Fin 4) (theta omega : BitVec 16)
  /-- PROOF_PASSED (R229): iq within 10 % of I_PROOF for 20 ms. -/
  | proofPassed (c : Fin 4)
  /-- PROOF_TIMEOUT (R229): 100 ms in PROOF. -/
  | proofTimeout (c : Fin 4)
  /-- BRAKE_RELEASE_WAIT_END (R229): T_BRK_REL since the release request. -/
  | brakeReleaseWaitEnd (c : Fin 4)
  /-- START_RETRY_WAIT_END (R227): 2 s since a failed try. -/
  | startRetryWaitEnd (c : Fin 4)
  /-- STANDSTILL_REACHED (R228): below W_ZERO for T_ZERO in STOPPING. -/
  | standstillReached (c : Fin 4)
  /-- BRAKE_APPLY_WAIT_END (R228): T_BRK_APP since the brake was applied. -/
  | brakeApplyWaitEnd (c : Fin 4)
  /-- KE_TRACKING_WINDOW (R230): 1 s of valid tracking; the observer's estimates in it, in 0.1 mWb, oldest first. -/
  | keTrackingWindow (c : Fin 4) (ests : List (BitVec 16))
  /-- KE_VERDICT (R231): 2 s of valid tracking after START. -/
  | keVerdict (c : Fin 4)
  /-- DCL_PRECHARGE (R232): BND_DCL_CMD 0x0001. -/
  | dclPrecharge
  /-- DCL_OPEN (R232): BND_DCL_CMD 0x0002. -/
  | dclOpen
  /-- DCL_DISCHARGE (R232): BND_DCL_CMD 0x0003. -/
  | dclDischarge
  /-- DCL_CLEAR_COUNTERS (R233): BND_DCL_CMD 0x0004. -/
  | dclClearCounters
  /-- DCL_RESET (R232): BND_DCL_CMD 0x0005. -/
  | dclReset
  /-- MAIN_CONFIRMED (R232): BND_DCL_CMD 0x0010. -/
  | mainConfirmed
  /-- PRECHARGE_T1_CHECK (R232): PRE_T1 in PRECHARGE. -/
  | prechargeT1Check
  /-- PRECHARGE_SETTLED (R232): V_src − V_dc below PRE_DV for 20 ms. -/
  | prechargeSettled
  /-- PRECHARGE_TIMEOUT (R232): PRE_TMO in PRECHARGE. -/
  | prechargeTimeout
  /-- MAIN_TIMEOUT (R232): MAIN_TMO in CLOSING. -/
  | mainTimeout
  /-- DISCHARGE_DONE (R232): V_dc has fallen below DIS_V. -/
  | dischargeDone
  /-- DISCHARGE_TIMEOUT (R232): DIS_TMO in DISCHARGE. -/
  | dischargeTimeout
  /-- LE_SAMPLE (R239): a sample instant of engine n. -/
  | leSample (n : Fin 5)
  /-- SET_SPEED (R259): record payload. -/
  | setSpeed (n : Fin 5) (p : Quad)
  /-- SET_POSITION (R249): record payload. -/
  | setPosition (n : Fin 5) (p : Quad)
  /-- SET_TORQUE (R246): record payload. -/
  | setTorque (n : Fin 5) (p : Quad)
  /-- LE_SWAP_BANK (R260): record payload. -/
  | leSwapBank (n : Fin 5) (p : Quad)
  /-- SWAP_TABLE (R262): record payload. -/
  | swapTable (n : Fin 5) (p : Quad)
  /-- LE_SET_MODE (R244): record payload. -/
  | leSetMode (n : Fin 5) (p : Quad)
  /-- LE_ENABLE (R245): record payload. -/
  | leEnable (n : Fin 5) (p : Quad)
  /-- LE_SYNC (R238): record payload and its launch time. -/
  | leSync (n : Fin 5) (p : Quad) (launch : Time)
  /-- LE_HOLD (R250): record payload. -/
  | leHold (n : Fin 5) (p : Quad)
  /-- FEEDBACK (R259): record payload. -/
  | feedback (n : Fin 5) (p : Quad)
  /-- LE_SET_LIMIT (R255): record payload. -/
  | leSetLimit (n : Fin 5) (p : Quad)
  /-- GAIN_WRITE (R260): record payload. -/
  | gainWrite (n : Fin 5) (p : Quad)
  /-- TAB_WRITE (R262): record payload. -/
  | tabWrite (n : Fin 5) (p : Quad)
  /-- TORQUE_SHARE (R271): record payload. -/
  | torqueShare (n : Fin 5) (p : Quad)
  /-- CLIP_REPORT (R272): record payload. -/
  | clipReport (n : Fin 5) (p : Quad)
  /-- LE_CHECK_ERROR (R263): an internal check of engine n finds an error. -/
  | leCheckError (n : Fin 5)
  /-- LE_SPARE_RESUME (R263): the second sample boundary after the failure. -/
  | leSpareResume
  /-- LE_CLEAR_COUNTERS (R10): LE_CMD 0x0001. -/
  | leClearCounters (n : Fin 5)
  /-- FENCE (R276): record payload. -/
  | fence (p : Quad)
  /-- ALIVE (R268): the record, firing now. -/
  | alive (r : Rec)
  /-- ACCEPT (R269): the record, firing now. -/
  | accept (r : Rec)
  /-- TAKEN (R283): record payload. -/
  | taken (p : Quad)
  /-- HANDBACK (R285): record payload. -/
  | handback (p : Quad)
  /-- ALIVE_SEND (R268): 1 ms has passed. -/
  | aliveSend (c : Fin 4)
  /-- MEMBER_LOST (R269): 3 ms without ALIVE from member j. -/
  | memberLost (c : Fin 4) (j : Fin 8)
  /-- MIRRORED_STREAM_RECEIVE (R279): the six slots of a part set. -/
  | mirroredStreamReceive (c : Fin 4) (p0 p1 p2 p3 p4 p5 : Slot)
  /-- MIRROR_TIMEOUT (R279): MIR_TMO samples without a part set. -/
  | mirrorTimeout (c : Fin 4)
  /-- TAKEOVER_SELECT_END (R282): 10 µs + SEL_DELAY since the decision. -/
  | takeoverSelectEnd (c : Fin 4)
  /-- GIVE_TIMEOUT (R280): 1 ms of GIVE. -/
  | giveTimeout (c : Fin 4)
  /-- SHARE_TIMEOUT (R286): SHARE_TMO samples without a share. -/
  | shareTimeout (c : Fin 4)
  /-- PAR_CLEAR_COUNTERS (R10): LE_PAR_CMD 0x0001. -/
  | parClearCounters (c : Fin 4)
  /-- REJOIN (R288): LE_PAR_CMD 0x0002; the listed members that have RUN_TIME_OK. -/
  | rejoin (c : Fin 4) (timeOk : BitVec 8)
  /-- PAR_HANDBACK (R285): LE_PAR_CMD 0x0003; whether the original cell is FENCED. -/
  | parHandback (c : Fin 4) (fenced : Bool)
  /-- HANDBACK_SELECT_END (R285): SEL_DELAY has passed. -/
  | handbackSelectEnd (c : Fin 4)
  /-- STO_PAIR_DEMAND (R328): the filtered levels of STO_A and STO_B. -/
  | stoPairDemand (a b : Bool)
  /-- SIN_PAIR_DEMAND (R328): the filtered levels of SIN2p and SIN2p+1. -/
  | sinPairDemand (p : Fin 4) (x y : Bool)
  /-- PAIR_DISCREPANCY (R329): pair k (0 the STO pair, p + 1 SIN pair p) has differed for DISC_T. -/
  | pairDiscrepancy (k : Fin 5)
  /-- RESET_EDGE (R330): an edge of filtered STO_RST; it follows at least 50 ms of low level. -/
  | resetEdge (rising : Bool) (low50 : Bool)
  /-- STO_RST_STUCK (R330): STO_RST high for more than 5 s. -/
  | stoRstStuck
  /-- STO_CLEAR_TIMER (R331): 10 ms without a demand. -/
  | stoClearTimer (c : Fin 4)
  /-- NORMAL_RESTORE (R331): 10 ms in STO_CLEAR. -/
  | normalRestore (c : Fin 4)
  /-- SS1_TIME_END (R331): SS1_T since entry. -/
  | ss1TimeEnd (c : Fin 4)
  /-- SS1_TMAX_END (R331): SS1_TMAX since entry. -/
  | ss1TmaxEnd (c : Fin 4)
  /-- STANDSTILL_DETECTED (R334): the bound has been at or below W_ZERO_S for 10 ms. -/
  | standstillDetected (c : Fin 4)
  /-- SBC_LEAD_END (R331): SBC_LEAD since the brake lead began. -/
  | sbcLeadEnd (c : Fin 4)
  /-- SI_EVALUATION (R336): last edge interval and time since the last edge in ns, 0 none; the triplet shows an impossible state. -/
  | siEvaluation (c : Fin 4) (interval tau : Nat) (impossible : Bool)
  /-- SPEED_MISMATCH (R337): 100 ms of disagreement, or an impossible state longer than INV_LIMIT. -/
  | speedMismatch (c : Fin 4) (impossible : Bool)
  /-- SLS_TOLERANCE_END (R338): SLS_TOL above SLS_LIM. -/
  | slsToleranceEnd (c : Fin 4)
  /-- SLT_TOLERANCE_END (R338): SLT_TOL above SLT_LIM. -/
  | sltToleranceEnd (c : Fin 4)
  /-- DIVERSE_SAMPLE (R339): a diverse sample of the cell is complete. -/
  | diverseSample (c : Fin 4)
  /-- TORQUE_MISMATCH (R340): TM_TIME of disagreement or overcurrent, or without a valid diverse entry. -/
  | torqueMismatch (c : Fin 4) (missing : Bool)
  /-- SAFETY_FRAME_RECEIVE (R344): a copy on CAN0 or CAN1. -/
  | safetyFrameReceive (net : Fin 2) (f : BitVec 512)
  /-- PAIR_WINDOW_END (R345): PAIR_WIN since the held copy. -/
  | pairWindowEnd
  /-- SF_TIMEOUT (R346): SF_TMO without an accepted frame. -/
  | sfTimeout
  /-- SI_STATUS_FRAME (R348): SF_PERIOD has passed. -/
  | siStatusFrame
  /-- HEARTBEAT_LOSS (R350): no heartbeat for 5 ms, or a failed lockstep compare of the processor. -/
  | heartbeatLoss
  /-- SI_CLOCK_WINDOW (R321): the deviation over 1 ms in 0.01 %, signed. -/
  | siClockWindow (dev : BitVec 16)
  /-- SI_SUPPLY_FAULT (R321): SI_CORE or SI_IO out of its window for 10 µs. -/
  | siSupplyFault
  /-- LOCKSTEP_MISMATCH (R322): the cores differ. -/
  | lockstepMismatch
  /-- ENABLE_CONFIRM_TIMEOUT (R327): a removal at channel g is not confirmed in time. -/
  | enableConfirmTimeout (g : Fin 24)
  /-- CFG_CRC_CHECK (R351): end of Pitch, or 1 s has passed. -/
  | cfgCrcCheck
  /-- SI_SELF_TEST (R351): the cores' self-test. -/
  | siSelfTest (pass : Bool)
  /-- INTERNAL_SS1_REQUEST (R331): a unit of the cell raises its line. -/
  | internalSs1Request (c : Fin 4)
  /-- BRAKE_RELEASE_REQUEST (R335): the starting procedure asks. -/
  | brakeReleaseRequest (c : Fin 4)
  /-- PENNANT_WRITE (R353): FLT writes the next raise. -/
  | pennantWrite
  /-- BIVOUAC_ENTRY (R371): the island's detection of R350 has reached the power states. -/
  | bivouacEntry
  /-- BIVOUAC_FRAME (R375): 100 ms since entry or the last frame. -/
  | bivouacFrame
  /-- BIV_TMAX_EXPIRY (R373): BIV_TMAX minutes since entry. -/
  | bivTmaxExpiry
  /-- FLT_CLEAR_COUNTERS (R10): FLT_CMD 0x0001. -/
  | fltClearCounters
  /-- CAN_FRAME_RECEIVE (R383): a correctly received frame; its SOF time through the BUS bridge. -/
  | canFrameReceive (n : Fin 4) (f : CanFrame) (sof : BitVec 40)
  /-- CAN_TX_END (R387): the frame on the bus ends; its SOF time and the loop delay measured in it. -/
  | canTxEnd (n : Fin 4) (r : TxEnd) (sof : BitVec 40) (tdcv : BitVec 8)
  /-- BUS_OFF_WAIT_END (R381): BOFF_WAIT since entry to bus-off. -/
  | busOffWaitEnd (n : Fin 4)
  /-- BUS_OFF_RECOVERY_DONE (R381): 128 occurrences of 11 consecutive recessive bits. -/
  | busOffRecoveryDone (n : Fin 4)
  /-- CAN_CLEAR_COUNTERS (R10): CAN_CMD 0x0001. -/
  | canClearCounters (n : Fin 4)
  /-- CAN_REQUEST_BUFFER (R387): CAN_CMD 0x0100 + b. -/
  | canRequestBuffer (n : Fin 4) (b : Fin 128)
  /-- CAN_ABORT_BUFFER (R389): CAN_CMD 0x0200 + b. -/
  | canAbortBuffer (n : Fin 4) (b : Fin 128)
  /-- CAN_START_RECOVERY (R381): CAN_CMD 0x0300. -/
  | canStartRecovery (n : Fin 4)
  /-- CAN_RESTART_TT (R396): CAN_CMD 0x0500. -/
  | canRestartTt (n : Fin 4)
  /-- TRANSMIT (R390): record payload. -/
  | transmit (n : Fin 4) (p : Quad)
  /-- SEND8 (R390): record payload. -/
  | send8 (n : Fin 4) (p : Quad)
  /-- CAN_ABORT_RECORD (R389): record payload. -/
  | canAbortRecord (n : Fin 4) (p : Quad)
  /-- CAN_MB_DATA_WRITE (R495): word k of the buffer's data. -/
  | canMbDataWrite (n : Fin 4) (b : Fin 128) (k : Fin 16) (v : Word)
  /-- STATUS_FRAME_SEND (R391): STS_PERIOD has passed. -/
  | statusFrameSend (n : Fin 4) (c : Fin 4)
  /-- TT_CYCLE_START (R393): Halyard time reaches t_c. -/
  | ttCycleStart (n : Fin 4)
  /-- MASTER_PRIORITY_SEND (R393): t_c + MPRIO × 16 NTU. -/
  | masterPrioritySend (n : Fin 4)
  /-- TT_TRIGGER (R395): cycle time reaches the trigger's mark. -/
  | ttTrigger (n : Fin 4) (t : Fin 256)
  /-- TT_TX_WINDOW_MISS (R395): TXEW NTU since the mark. -/
  | ttTxWindowMiss (n : Fin 4) (t : Fin 256)
  /-- TT_REFERENCE_LOSS (R396): 2 × CYCLE_LEN NTU without a reference message. -/
  | ttReferenceLoss (n : Fin 4)
  /-- CAN_BUS_ERROR (R381): an error in a frame that this channel does not send, or in its own error flag: the counter it steps and by how much, its code as LEC, in the data phase. -/
  | canBusError (n : Fin 4) (tx : Bool) (step : Fin 9) (lec : Fin 7) (data : Bool)
  /-- PROTOCOL_EXCEPTION (R378): a recessive res bit. -/
  | protocolException (n : Fin 4)
  /-- CAN_ARBITRATION_START (R387): the bus allows a start. -/
  | canArbitrationStart (n : Fin 4)
  /-- SET (R409): record payload. -/
  | auxSet (n : Fin 12) (p : Quad)
  /-- AUX_REQUEST_ON (R404): AUX_CMD 0x0100 + n. -/
  | auxRequestOn (n : Fin 12)
  /-- AUX_REQUEST_OFF (R404): AUX_CMD 0x0200 + n. -/
  | auxRequestOff (n : Fin 12)
  /-- AUX_CLEAR_OUTPUT (R404): AUX_CMD 0x0300 + n. -/
  | auxClearOutput (n : Fin 12)
  /-- AUX_CLEAR_COUNTERS (R10): AUX_CMD 0x0001. -/
  | auxClearCounters
  /-- PULLIN_START (R402): the cut switch is closed and STAGGER has passed since the partner's pull-in. -/
  | pullinStart (n : Fin 8)
  /-- PEAK_END (R401): T_PEAK since the pull-in. -/
  | peakEnd (n : Fin 8)
  /-- HOLD_OK_REACHED (R401): 10 ms within 10 % of I_HOLD; the current. -/
  | holdOkReached (n : Fin 8) (mA : BitVec 16)
  /-- HOLD_REGULATION_LOST (R401): 10 ms outside 25 % of I_HOLD; the current. -/
  | holdRegulationLost (n : Fin 8) (mA : BitVec 16)
  /-- AUX_OVERCURRENT (R405): the output's current, above its limit. -/
  | auxOvercurrent (n : Fin 12) (mA : BitVec 16)
  /-- FEED_OVERCURRENT (R406): the feed's current, above 9.0 A for 5 µs. -/
  | feedOvercurrent (h : Fin 4) (mA : BitVec 16)
  /-- AUX_RETRY_WAIT_END (R404): WAIT since the latch. -/
  | auxRetryWaitEnd (n : Fin 12)
  /-- AUX_DIAG_COMPLETE (R407): V1 and V2 in 10 mV; the outputs whose voltage moved by more than 0.5 V. -/
  | auxDiagComplete (n : Fin 12) (v1 v2 : BitVec 12) (moved : BitVec 12)
  /-- PITCH_SEQUENCE (R426): Pitch from its first step to READY or HALT. -/
  | pitchSequence (run : PitchRun)
  /-- KEY_REMOVED (R415): KEY_DET opens. -/
  | keyRemoved
  /-- KEY_INSERTED (R415): a key is inserted. -/
  | keyInserted (key : KeyAtJ15)
  /-- DEFERRED_KEY_WRITE (R414): the writes that wait are made; a program or erase reports an error or reads back different. -/
  | deferredKeyWrite (fails : Bool)
  /-- PCH_CLEAR_COUNTERS (R10): PCH_CMD 0x0001. -/
  | pchClearCounters
  /-- MARK_PENDING (R423): PCH_CMD 0x0010; its descriptor write fails. -/
  | markPending (fails : Bool)
  /-- SETPOINT_ROUTE (R430): the router takes the next frame, or the next record of the management inbound queue. -/
  | setpointRoute (mgmt : Bool)
  /-- SETPOINT_TIMEOUT (R431): TMO of an entry has passed without a frame. -/
  | setpointTimeout (e : Fin 256)
  /-- AUX24_POWER_UP (R442): AUX24 rises above 16.5 V; the die diode at the prelude in 1/16 °C, none when open or shorted. -/
  | aux24PowerUp (diode : Option (BitVec 16))
  /-- AUX24_CUTOFF (R434): AUX24 falls below 12.0 V. -/
  | aux24Cutoff
  /-- AUX24_DROPOUT (R434): AUX24 below 16.0 V for 100 µs; input power in 0.1 W, AUX24 in 10 mV. -/
  | aux24Dropout (power volts : BitVec 16)
  /-- AUX24_LOW (R439): AUX24 below 17.5 V for 1 ms. -/
  | aux24Low (power volts : BitVec 16)
  /-- AUX24_HIGH (R439): AUX24 above 32.0 V for 1 ms. -/
  | aux24High (power volts : BitVec 16)
  /-- WAKE_EDGE (R434): a rising edge on WAKE held high for 100 µs; the die diode at the prelude. -/
  | wakeEdge (diode : Option (BitVec 16))
  /-- CAN0_DOMINANT_WAKE (R397): a dominant phase of at least 5 µs on CAN0; the die diode at the prelude. -/
  | can0DominantWake (diode : Option (BitVec 16))
  /-- WAKE_FRAME (R397): a frame decoded on CAN0 or CAN1 in LISTEN, data byte 0 in bits 7:0; the die diode at the prelude. -/
  | wakeFrame (n : Fin 2) (fd ide : Bool) (ident : BitVec 29) (dlc : BitVec 4) (data : BitVec 64) (diode : Option (BitVec 16))
  /-- WAKE_FRAME_ERRORS (R397): the frame-error counter of a decoder passes 31; the die diode at the prelude. -/
  | wakeFrameErrors (n : Fin 2) (diode : Option (BitVec 16))
  /-- PWR_CLEAR_COUNTERS (R10): PWR_CMD 0x0001. -/
  | pwrClearCounters
  /-- RUN_COMMAND (R435): PWR_CMD 0x0010. -/
  | runCommand
  /-- READY_COMMAND (R435): PWR_CMD 0x0011. -/
  | readyCommand
  /-- LISTEN_COMMAND (R436): PWR_CMD 0x0020; the flush fails and leaves the bytes of its first page as given. -/
  | listenCommand (flush : Option (List Byte))
  /-- STOW_COMMAND (R436): PWR_CMD 0x0021; the flush fails and leaves the bytes of its first page as given. -/
  | stowCommand (flush : Option (List Byte))
  /-- RESTART_COMMAND (R437): PWR_CMD 0x0030; the die diode at the prelude. -/
  | restartCommand (diode : Option (BitVec 16))
  /-- RESTART_EDGE (R437): a rising edge on WAKE after at least 50 ms of low level; the die diode at the prelude. -/
  | restartEdge (diode : Option (BitVec 16))
  /-- AUTO_RUN_ENTRY (R435): a MGMT period. -/
  | autoRunEntry
  /-- DOMAIN_FAILURE (R443): a domain's rail outside its window for 10 µs. -/
  | domainFailure (d : Fin 132)
  /-- PLL_LOCK_LOSS (R446): PLL A, B or C loses lock for 1 µs. -/
  | pllLockLoss (k : Fin 3)
  /-- XTAL_DEVIATION_WINDOW (R446): a 1 ms window; the deviation of XTAL_A from XTAL_B in 0.1 ppm. -/
  | xtalDeviationWindow (dev : BitVec 16)
  /-- MGMT_CLOCK_WINDOW (R446): a 1 ms window; the deviation of MGMT from XTAL_B in 0.01 %. -/
  | mgmtClockWindow (dev : BitVec 16)
  /-- CLK_CLEAR_COUNTERS (R10): CLK_CMD 0x0001. -/
  | clkClearCounters
  /-- HK_SLOT (R450): the present slot ends: what its task measured, unless it has not finished. -/
  | hkSlot (task : HkTask) (finished : Bool)
  /-- THROTTLE_TICK (R455): a whole 100 ms of Halyard time. -/
  | throttleTick
  /-- THERMAL_SHUTDOWN_READING (R458): the die diode in 1/16 °C, none when open or shorted. -/
  | thermalShutdownReading (diode : Option (BitVec 16))
  /-- HK_CLEAR_COUNTERS (R10): HK_CMD 0x0001. -/
  | hkClearCounters
  /-- MP_HEARTBEAT (R461): a millisecond of the management processor; a duty has missed its deadline twice in a row. -/
  | mpHeartbeat (late : Bool)
  /-- CELL_RECEIVE (R462): a management cell is completely received. -/
  | cellReceive (path : MgtPath) (cell : Slot)
  /-- READ (R464): the request at the front is a READ and is served. -/
  | mgtRead
  /-- WRITE (R465): the request at the front is a WRITE and is served. -/
  | mgtWrite (inp : CmdIn)
  /-- LOG_READ (R464): the request at the front is a LOG_READ and is served. -/
  | logRead
  /-- TIME_CORR (R472): the request at the front is a TIME_CORR and is served. -/
  | timeCorr
  /-- UPD_BEGIN (R473): the request at the front is an UPD_BEGIN and is served; its descriptor write fails. -/
  | updBegin (fails : Bool)
  /-- UPD_DATA (R474): the request at the front is an UPD_DATA and is served; its program fails and leaves the bytes as given. -/
  | updData (left : Option (List Byte))
  /-- UPD_END (R475): the request at the front is an UPD_END and is served; its descriptor write fails. -/
  | updEnd (fails : Bool)
  /-- UPD_ABORT (R474): the request at the front is an UPD_ABORT and is served; its descriptor write fails. -/
  | updAbort (fails : Bool)
  /-- PING (R464): the request at the front is a PING and is served. -/
  | ping
  /-- FORWARD_RESPONSE (R465): the oldest response received is returned. -/
  | forwardResponse
  /-- FORWARD_TIMEOUT (R465): 10 ms without a response to the oldest forward. -/
  | forwardTimeout
  /-- LOG_FLUSH_PAGE (R468): a page of Pennants is programmed; it fails and leaves the bytes as given. -/
  | logFlushPage (left : Option (List Byte))
  /-- LOG_HEAD_SEARCH (R469): the management processor finds the head of the key ring. -/
  | logHeadSearch
  /-- UPD_IDLE_TIMEOUT (R474): 10 s without an accepted cell of the session; its descriptor write fails. -/
  | updIdleTimeout (fails : Bool)
  /-- MGT_CLEAR_COUNTERS (R10): MGT_CMD 0x0001. -/
  | mgtClearCounters
  /-- MGT_ABORT_SESSION (R474): MGT_CMD 0x0010; its descriptor write fails. -/
  | mgtAbortSession (fails : Bool)
deriving DecidableEq, Repr

end Sys2Proof
end

