-- ==== Sys2Proof/Decode.lean ====
section
/-! DEFINITION. The words of the command table.  No row of the table gives bits: the block takes its commands as commands, and no word
spells one. -/
namespace Sys2Proof

/-- The command a word spells: none, for every word, since no row has bits. -/
def decodeTableWord (_nbits _w : Nat) : Option Instr := none

end Sys2Proof
end

