-- ==== Sys2Proof/Machine/Crc.lean ====
section
/-! DEFINITION. The three cyclic codes of the module, CRC-8 of records (R73), CRC-16 of Pennants (R355) and CRC-32C (R343), and the
byte layouts of records and slots (R71). -/
namespace Sys2Proof.Machine

/-- The bytes of an `n`-byte number, lowest first. -/
def bytesOf (n : Nat) (x : Nat) : List Nat :=
  match n with
  | 0 => []
  | k + 1 => x % 256 :: bytesOf k (x / 256)

/-- The number whose bytes are listed, lowest first. -/
def ofBytes : List Nat → Nat
  | [] => 0
  | b :: t => b % 256 + 256 * ofBytes t

/-- One bit of an unreflected code of width `w` with polynomial `p`. -/
def crcStep (w p c : Nat) : Nat :=
  if c / 2 ^ (w - 1) % 2 = 1 then Nat.xor (c * 2 % 2 ^ w) p else c * 2 % 2 ^ w

/-- Eight bits of an unreflected code. -/
def crcByte (w p c b : Nat) : Nat :=
  let c0 := Nat.xor c (b % 256 * 2 ^ (w - 8))
  crcStep w p (crcStep w p (crcStep w p (crcStep w p (crcStep w p (crcStep w p (crcStep w p (crcStep w p c0)))))))

/-- R73: polynomial 0x2F, initial 0xFF, final XOR 0xFF. -/
def crc8 (l : List Nat) : Nat := Nat.xor (l.foldl (crcByte 8 0x2F) 0xFF) 0xFF

/-- R355: polynomial 0x1021, initial 0xFFFF. -/
def crc16 (l : List Nat) : Nat := l.foldl (crcByte 16 0x1021) 0xFFFF

/-- One bit of a reflected code with reflected polynomial `p`. -/
def crcStepR (p c : Nat) : Nat := if c % 2 = 1 then Nat.xor (c / 2) p else c / 2

/-- Eight bits of a reflected code. -/
def crcByteR (p c b : Nat) : Nat :=
  let c0 := Nat.xor c (b % 256)
  crcStepR p (crcStepR p (crcStepR p (crcStepR p (crcStepR p (crcStepR p (crcStepR p (crcStepR p c0)))))))

/-- CRC-32C: reflected, polynomial 0x1EDC6F41, initial and final XOR 0xFFFF_FFFF (R343). -/
def crc32c (l : List Nat) : Nat := Nat.xor (l.foldl (crcByteR 0x82F63B78) 0xFFFFFFFF) 0xFFFFFFFF

/-- Bytes 0–30 of a record (R71). -/
def recBody (r : Rec) : List Nat :=
  bytesOf 5 r.time.toNat ++ bytesOf 2 r.target.toNat ++ bytesOf 1 r.src.toNat ++ bytesOf 1 r.opcode.toNat
    ++ bytesOf 1 r.flags.toNat ++ bytesOf 2 r.gtag.toNat ++ bytesOf 2 r.gen.toNat ++ bytesOf 16 r.payload.toNat
    ++ bytesOf 1 r.seq.toNat

/-- The CRC of a record (R73). -/
def recCrc (r : Rec) : Nat := crc8 (recBody r)

end Sys2Proof.Machine
namespace Sys2Proof
open Machine

/-- A record with the CRC the hardware computes for it (R73). -/
def Rec.sealed (r : Rec) : Rec := { r with crc := BitVec.ofNat 8 (recCrc r) }

/-- The 32 bytes of a record. -/
def Rec.slot (r : Rec) : Slot := BitVec.ofNat 256 (ofBytes (recBody r) + r.crc.toNat * 2 ^ 248)

end Sys2Proof
namespace Sys2Proof.Machine

/-- The record that 32 bytes spell (R71). -/
def recOfSlot (x : Slot) : Rec :=
  { time := x.extractLsb' 0 40, target := x.extractLsb' 40 16, src := x.extractLsb' 56 8, opcode := x.extractLsb' 64 8,
    flags := x.extractLsb' 72 8, gtag := x.extractLsb' 80 16, gen := x.extractLsb' 96 16, payload := x.extractLsb' 112 128,
    seq := x.extractLsb' 240 8, crc := x.extractLsb' 248 8 }

/-- Bytes `k`… of a slot as an `n`-byte number. -/
def slotN (x : Slot) (k n : Nat) : Nat := x.toNat / 2 ^ (8 * k) % 2 ^ (8 * n)

/-- A management cell (R462) with its CRC-32C. -/
def mkCell (dst src op tag len stat addr : Nat) (data : Nat) : Slot :=
  let body := bytesOf 1 dst ++ bytesOf 1 src ++ bytesOf 1 op ++ bytesOf 1 tag ++ bytesOf 1 len ++ bytesOf 1 stat ++ bytesOf 2 0
    ++ bytesOf 4 addr ++ bytesOf 16 data
  BitVec.ofNat 256 (ofBytes body + crc32c body * 2 ^ 224)

/-- The CRC of a cell is right and its reserved bytes are 0 (R462). -/
def cellOk (x : Slot) : Bool := crc32c (bytesOf 28 x.toNat) == slotN x 28 4 && slotN x 6 2 == 0

end Sys2Proof.Machine
end

