-- ==== Sys2Proof/Config.lean ====
section
/-! DEFINITION. What the spec leaves to the module or leaves open: factory values, and free values.  Each is an opaque constant: no
proof can see its value, and a claim holds whatever it is. -/
namespace Sys2Proof

/-- The 48-bit factory serial of this module (Burgee identity). -/
opaque Config.serial : BitVec 48
/-- The 16-bit hardware revision (R1, R2). -/
opaque Config.revision : BitVec 16
/-- Module rollback floor: blown fuses at manufacture (R422). -/
opaque Config.factoryFloor : BitVec 8
/-- Untrimmed crossing delay of channel g (R166, `GD_PD_CAL`). -/
opaque Config.gdPdCal : Nat → BitVec 16
/-- Factory measured error of XTAL_A, entry k (R447). -/
opaque Config.tcXtal : Nat → BitVec 16
/-- Factory trim code of the MGMT oscillator, entry k (R448). -/
opaque Config.tcMgmt : Nat → BitVec 8

/-- Whether an inexact result `num / den` is rounded up, where the spec names no rounding. -/
opaque Config.roundsUp : Int → Nat → Bool
/-- The n-th free value of the module: an unstated number, fresh each time. -/
opaque Config.freeValue : Nat → Nat

/-- A free value that depends on the draw and on what it stands for. -/
opaque Config.freeAt : Nat → Nat → Nat
/-- Shifts of a field processor by 32 or more (R301 states none): kind, operand, amount. -/
opaque Config.fpShift : Nat → BitVec 32 → BitVec 32 → BitVec 32
/-- ABS of the most negative word (R301 states none). -/
opaque Config.fpAbsMin : BitVec 32
/-- Where in `XCAUSE` above the cause the sandbox mode stands (R311). -/
opaque Config.xcauseBit : Nat
/-- A circular update with `CLEN` 0 (R302 states none). -/
opaque Config.fpCirc : BitVec 32 → BitVec 32 → BitVec 32
/-- A loop count above 65,535 in a register (R303 states none). -/
opaque Config.fpCount : BitVec 32 → BitVec 16
/-- Entry addresses of the vendor firmware: cold and warm. -/
opaque Config.fpEntry : Bool → BitVec 16

/-- How far a time-bridged value lags (R54 gives only the bound): domain number, true time. -/
opaque Config.bridgeLag : Nat → Nat → Nat
/-- Slots a port's receive buffer holds (R61 gives no size). -/
opaque Config.rxSlots : Nat
/-- The Burgee number a safety slot is addressed to (R512; the layout of kind 3 is not in the spec). -/
opaque Config.safetyDest : BitVec 256 → Nat
/-- The master's frequency correction as J14 steers it, in 0.001 ppm (R49 gives no law): the draw. -/
opaque Config.refLaw : Nat → Int
/-- Pluggable temperature as page A2h shows it (R56): the reading at insertion, the time. -/
opaque Config.sfpTemp : Nat → Nat → Nat

/-- The output of the proportional-integral law of R52 for an offset, given its last output (gains not stated), in 0.001 ppm. -/
opaque Config.pllLaw : Int → Int → Int

/-- During dead time, the sign by which R190 takes the leg voltage of a phase whose current is exactly 0 (it states none): positive. -/
opaque Config.zeroSign : Bool
/-- The electrical angle of the centre of Hall sector 0, in 1/65,536 turns (R187 states none). -/
opaque Config.hallZero : Nat

/-- The selector by which a module maps one of its queues (R70: the map is that module's image's): module, queue. -/
opaque Config.parSelector : Nat → Nat → Nat

/-- The data-SRAM address of observer word k, as the header of the vendor firmware names it (R290, R391). -/
opaque Config.obsAddr : Nat → Nat

/-- A larger trim code makes the MGMT oscillator faster (R448 does not say). -/
opaque Config.trimUp : Bool

/-- The Trelloth root key in module ROM (R421): X, Y. -/
opaque Config.rootKey : Nat × Nat
/-- The instruction and data SRAM words that a firmware section loads (the firmware header's layout is not in the spec; R290): word, value.  The
instructions are those of the vendor section and of the integrator's sandbox section (R314, R417). -/
opaque Config.fpImem : List Nat → List Nat → List (Nat × Word)
opaque Config.fpDmem : List Nat → List (Nat × Word)
/-- The first and last instruction address of integrator code (R314; the layout of its section is not in the spec). -/
opaque Config.sbxSpan : List Nat → Nat × Nat

/-- An exact quotient: the value itself where exact, else one of its two neighbours, the spec naming no rounding. -/
def roundFree (num : Int) (den : Nat) : Int :=
  let q := num / (den : Int)
  if num % (den : Int) = 0 then q else if Config.roundsUp num den then q + 1 else q

/-- Rounding to nearest, ties away from zero. -/
def roundAway (num : Int) (den : Nat) : Int :=
  if 0 ≤ num then (2 * num + den) / (2 * den : Int) else -((-2 * num + den) / (2 * den : Int))

end Sys2Proof
end

