-- ==== Sys2Proof/Machine/FaultTable.lean ====
section
/-! DEFINITION. The class of every fault code (R20, R362), as the fault table of its chapter gives it. -/
namespace Sys2Proof.Machine

/-- The fault tables: code and class (0 info, 1 transient, 2 permanent; R357). -/
def faults_01 : List (Nat × Nat) := [
  (0x0101, 0),
  (0x0102, 1),
  (0x0103, 2),
  (0x0104, 0),
  (0x0105, 1),
  (0x0106, 1),
  (0x0107, 0),
  (0x0108, 2),
  (0x0109, 0),
  (0x010A, 0),
  (0x010B, 1),
  (0x010C, 0),
  (0x010D, 2),
  (0x010E, 0)]
def faults_02 : List (Nat × Nat) := [
  (0x0201, 0),
  (0x0202, 1),
  (0x0203, 0),
  (0x0204, 1),
  (0x0205, 0),
  (0x0206, 1),
  (0x0207, 0),
  (0x0208, 0)]
def faults_03 : List (Nat × Nat) := [
  (0x0301, 1),
  (0x0302, 0),
  (0x0303, 2),
  (0x0304, 2),
  (0x0305, 2),
  (0x0306, 2),
  (0x0307, 2),
  (0x0308, 0),
  (0x0309, 0),
  (0x030A, 1),
  (0x030B, 2),
  (0x030C, 1),
  (0x030D, 2),
  (0x030E, 0)]
def faults_04 : List (Nat × Nat) := [
  (0x0401, 0),
  (0x0402, 2),
  (0x0403, 0),
  (0x0404, 1),
  (0x0405, 0)]
def faults_05 : List (Nat × Nat) := [
  (0x0501, 2),
  (0x0502, 2),
  (0x0503, 0),
  (0x0504, 0),
  (0x0505, 1),
  (0x0506, 2),
  (0x0507, 0),
  (0x0508, 0),
  (0x0509, 0),
  (0x050A, 0)]
def faults_06 : List (Nat × Nat) := [
  (0x0601, 1),
  (0x0602, 1),
  (0x0603, 1),
  (0x0604, 1),
  (0x0605, 1),
  (0x0606, 1),
  (0x0607, 1),
  (0x0608, 1),
  (0x0609, 2),
  (0x060A, 0),
  (0x060B, 0)]
def faults_07 : List (Nat × Nat) := [
  (0x0701, 0),
  (0x0702, 0),
  (0x0703, 0),
  (0x0704, 0),
  (0x0705, 1),
  (0x0706, 1),
  (0x0707, 0),
  (0x0708, 1),
  (0x0709, 0),
  (0x070A, 1),
  (0x0710, 0),
  (0x0711, 1),
  (0x0712, 1),
  (0x0715, 0),
  (0x0716, 0),
  (0x0717, 2),
  (0x0718, 0),
  (0x0719, 1),
  (0x0720, 0),
  (0x0721, 1),
  (0x0722, 1),
  (0x0723, 1),
  (0x0724, 1),
  (0x0725, 0),
  (0x0726, 1)]
def faults_08 : List (Nat × Nat) := [
  (0x0801, 2),
  (0x0802, 2),
  (0x0803, 0),
  (0x0804, 0),
  (0x0805, 0),
  (0x0806, 0),
  (0x0807, 0),
  (0x0810, 0),
  (0x0811, 0),
  (0x0812, 1),
  (0x0813, 1),
  (0x0814, 0),
  (0x0815, 1),
  (0x0816, 0),
  (0x0817, 2),
  (0x0818, 2),
  (0x0819, 2),
  (0x081A, 0),
  (0x081B, 0)]
def faults_09 : List (Nat × Nat) := [
  (0x0901, 2),
  (0x0902, 2),
  (0x0903, 2),
  (0x0904, 2),
  (0x0905, 2),
  (0x0906, 0),
  (0x0907, 0),
  (0x0908, 0),
  (0x0909, 0),
  (0x090A, 0),
  (0x090B, 2)]
def faults_0A : List (Nat × Nat) := [
  (0x0A01, 0),
  (0x0A02, 0),
  (0x0A03, 1),
  (0x0A04, 1),
  (0x0A05, 1),
  (0x0A06, 1),
  (0x0A07, 1),
  (0x0A08, 2),
  (0x0A09, 1),
  (0x0A0A, 1),
  (0x0A0B, 0),
  (0x0A0C, 1),
  (0x0A0E, 2),
  (0x0A0F, 0),
  (0x0A10, 0),
  (0x0A11, 2),
  (0x0A12, 2),
  (0x0A14, 2)]
def faults_0C : List (Nat × Nat) := [
  (0x0C01, 0),
  (0x0C02, 1),
  (0x0C03, 0),
  (0x0C04, 0),
  (0x0C05, 0),
  (0x0C06, 0),
  (0x0C07, 0),
  (0x0C08, 1),
  (0x0C09, 1),
  (0x0C0A, 0)]
def faults_0D : List (Nat × Nat) := [
  (0x0D01, 1),
  (0x0D02, 1),
  (0x0D03, 1),
  (0x0D04, 1),
  (0x0D05, 1),
  (0x0D06, 0),
  (0x0D07, 2)]
def faults_0E : List (Nat × Nat) := [
  (0x0E01, 0),
  (0x0E02, 2),
  (0x0E03, 0),
  (0x0E04, 1),
  (0x0E05, 2),
  (0x0E06, 1),
  (0x0E07, 0),
  (0x0E08, 1),
  (0x0E09, 0)]
def faults_0F : List (Nat × Nat) := [
  (0x0F01, 0),
  (0x0F02, 2),
  (0x0F03, 0),
  (0x0F10, 2),
  (0x0F20, 2),
  (0x0F21, 0),
  (0x0F22, 2),
  (0x0F30, 0)]
def faults_10 : List (Nat × Nat) := [
  (0x1001, 1),
  (0x1002, 0),
  (0x1003, 1),
  (0x1004, 1),
  (0x1005, 0),
  (0x1006, 2),
  (0x1007, 0)]
def faults_11 : List (Nat × Nat) := [
  (0x1101, 0),
  (0x1102, 0),
  (0x1103, 0),
  (0x1104, 0),
  (0x1105, 1),
  (0x1106, 0),
  (0x1107, 0)]

def faultsOf (uclass : Nat) : List (Nat × Nat) :=
  match uclass with
  | 0x01 => faults_01
  | 0x02 => faults_02
  | 0x03 => faults_03
  | 0x04 => faults_04
  | 0x05 => faults_05
  | 0x06 => faults_06
  | 0x07 => faults_07
  | 0x08 => faults_08
  | 0x09 => faults_09
  | 0x0A => faults_0A
  | 0x0C => faults_0C
  | 0x0D => faults_0D
  | 0x0E => faults_0E
  | 0x0F => faults_0F
  | 0x10 => faults_10
  | 0x11 => faults_11
  | _ => []

/-- The class of a fault code; low byte 0xF0 is CLEARED, class info (R360). -/
def faultClass (code : Nat) : Nat :=
  if code % 256 == 0xF0 then 0
  else match (faultsOf (code / 256)).find? (fun p => p.1 == code) with
    | some p => p.2
    | none => 0

end Sys2Proof.Machine
end

