-- ==== Sys2Proof/Machine/State.lean ====
section
/-! DEFINITION. The state of the block as plain data, its faults and refusals, and the state at reset (entry to PITCH after
power-on: R16, R442 step 5).  Every register of R492 lives in `regs`, keyed by its address; beside it stand, block by block, the
FIFOs, tables, pins and transfers in progress that the rules give the module and no register holds. -/
namespace Sys2Proof.Machine

/-- The access codes of R10; `mix` and `mbd` are the two registers whose fields or buffers differ in code (R492 tables). -/
inductive Access where
  | ro | rw | w1c | cmd | lock | mix | mbd | desc
deriving DecidableEq, Repr

/-- A field: bits `hi:lo` of the register at address `reg`. -/
structure Fld where
  reg : Nat
  hi : Nat
  lo : Nat
deriving DecidableEq, Repr

/-- The clock: the 64-bit Halyard count, the epoch (R37, R38), and whether the count has started (end of Pitch). -/
structure ClockSt where
  count : Time
  epoch : BitVec 16
  counting : Bool
deriving DecidableEq, Repr

/-- A Halyard port's state outside its registers. -/
structure PortSt where
  /-- Cage supply on (R56, R491). -/
  cagePower : Bool
  /-- The TX_DISABLE pin (R55, R63). -/
  txDisable : Bool
  /-- MOD_ABS shows a pluggable; accepted under R55; RX_LOS; equaliser coefficients stored (R63). -/
  present : Bool
  accepted : Bool
  rxLos : Bool
  coeffs : Bool
  /-- Consecutive training failures (R64), counted retrains of the last 60 s (R363), uncorrectable codewords of the last 1 ms. -/
  trainFails : Nat
  retrainTimes : List Nat
  uncorrTimes : List Nat
  /-- Consecutive decoded codewords in ALIGN and consistent time slots in PROVE (R63), and the identity seen. -/
  alignCnt : Nat
  proveCnt : Nat
  identity : Option (Nat × Nat)
  /-- What the peer last reported (R59): master, depth, candidate, network tag. -/
  peerMaster : Nat
  peerDepth : Nat
  peerCand : Nat
  peerTag : Nat
  /-- Link sequence sent and last received (R57), exchange sequence (R59). -/
  lseqTx : Nat
  lseqRx : Option Nat
  xseq : Nat
  peerXseq : Nat
  peerStamp : Nat
  /-- Time slots sent and not yet echoed: XSEQ and T_TX (R52). -/
  sent : List (Nat × Nat)
  /-- Receive credit held, and slots freed since the last header (R57, R61). -/
  credit : Nat
  freed : Nat
  /-- The transmit queues by class (R61). -/
  txSafety : List Slot
  txCommit : List Slot
  txRecord : List Slot
  txMirror : List Slot
  txMgmt : List Slot
  /-- The receive buffer: slot kind and slot, in order of arrival. -/
  rx : List (Nat × Slot)
  /-- The codeword last sent on the lane. -/
  lane : Option Codeword
  /-- The rate-select lines, which the module holds low (R56). -/
  rateSel : Bool
  /-- The foreign tag that a peer in PROVE reports, 0 none (R47). -/
  foreignTag : Nat
  /-- Reach mask, and whether the peer names this module as its upstream neighbour (R512). -/
  reach : BitVec 64
  namesUs : Bool
  /-- The delay of the last exchange was out of the window of R66. -/
  delayBad : Bool
  /-- The peer carries this module's Burgee number (R36). -/
  conflict : Bool
  /-- Cells whose FENCE is owed to the peer once the port is UP (R277): cell and peer generation. -/
  fenceOwed : List (Nat × Nat)
  /-- The peer that was UP last, and when the port left UP (R281). -/
  lastPeer : Nat
  leftAt : Nat
deriving DecidableEq, Repr

def PortSt.init : PortSt :=
  { cagePower := false, txDisable := false, present := false, accepted := false, rxLos := false, coeffs := false,
    trainFails := 0, retrainTimes := [], uncorrTimes := [], alignCnt := 0, proveCnt := 0, identity := none,
    peerMaster := 255, peerDepth := 15, peerCand := 255, peerTag := 0, lseqTx := 0, lseqRx := none, xseq := 0,
    peerXseq := 0, peerStamp := 0, sent := [], credit := 0, freed := 0, txSafety := [], txCommit := [], txRecord := [],
    txMirror := [], txMgmt := [], rx := [], lane := none, rateSel := false, foreignTag := 0, reach := 0, namesUs := false, delayBad := false,
    conflict := false, fenceOwed := [], lastPeer := 255, leftAt := 0 }

/-- The time law and the time-state machine outside the registers (R41–R52, R444). -/
structure HalSt where
  ports : Sparse PortSt
  /-- Discipline and slew terms of PLL B in 0.001 ppm (the temperature term is in CLK_TCOMP). -/
  discipline : Int
  slew : Int
  /-- Consecutive exchanges below 200 ps and above 1 ns (R43). -/
  lockCnt : Nat
  unlockCnt : Nat
  /-- The count has been stepped since ACQUIRE was entered (R43, R48). -/
  stepped : Bool
  /-- Count at entry to HOLDOVER. -/
  holdSince : Nat
  /-- The master is reachable only beyond depth 8 (R42). -/
  deep : Bool
  /-- Lowest candidate heard, 255 none (R59). -/
  cand : Nat
  /-- The master's alive count, own or relayed (R59). -/
  alive : Nat
  /-- The larger serial of a duplicate Burgee number: no RUN until the next Pitch (R36). -/
  barred : Bool
deriving DecidableEq, Repr

def HalSt.init : HalSt :=
  { ports := [], discipline := 0, slew := 0, lockCnt := 0, unlockCnt := 0, stepped := false, holdSince := 0, deep := false, cand := 255,
    alive := 0, barred := false }

/-- A record held in a queue: pool index, whether it came from the system reserve (R78), the record, whether it has fired and
waits for DEQ (R81). -/
structure Held where
  idx : Nat
  rsv : Bool
  r : Rec
  fired : Bool
deriving DecidableEq, Repr

/-- A queue (R82): image fields, generation steps since the load step, the records in launch order. -/
structure QDesc where
  enable : Bool
  genCheck : Bool
  owner : Nat
  quota : Nat
  /-- GEN − 1 once the load step has run (R82). -/
  genInc : Nat
  /-- A stale discard has been raised since the last GEN change (0x0205). -/
  stale : Bool
  held : List Held
deriving DecidableEq, Repr

def QDesc.init : QDesc :=
  { enable := false, genCheck := false, owner := 15, quota := 0, genInc := 0, stale := false, held := [] }

/-- Group states (R86). -/
inductive GState where
  | opened | commitWait | armed | fired | aborted
deriving DecidableEq, Repr

/-- A group-table entry (R514) that is not FREE. -/
structure Group where
  idx : Nat
  state : GState
  orig : Nat
  gtag : Nat
  time : Nat
  committed : Bool
  relayed : Bool
  reason : Nat
  expected : Nat
  held : Nat
  mask : BitVec 64
  /-- Queue of the record that opened the entry (DETAIL of 0x0203). -/
  queue : Nat
deriving DecidableEq, Repr

/-- The queue fabric outside its registers. -/
structure HqSt where
  /-- The load step has set every GEN to 1 (R82). -/
  loaded : Bool
  queues : Sparse QDesc
  /-- Pool records in use, in the system reserve and outside it (R78). -/
  usedRsv : Nat
  usedMain : Nat
  groups : List Group
  /-- HQ_XMAP: selector to local queue + 1, 0 not mapped (R70). -/
  xmap : Sparse Nat
  /-- SEQ counter per destination, and reference per source: SEQ and the port it came by (R74). -/
  seqTx : Sparse Nat
  seqRef : Sparse (Option (Nat × Nat))
  /-- Records sent by units and not yet arrived at their queue. -/
  fabric : List Rec
  /-- Records whose payload a dispatcher has passed to its unit and the unit has not yet acted on. -/
  passed : List (Nat × Rec)
  /-- Requesters that have written HQ_ENQ words since the last HQ_ENQ_CMD (R494). -/
  stagers : List Nat
deriving DecidableEq, Repr

def HqSt.init : HqSt :=
  { loaded := false, queues := [], usedRsv := 0, usedMain := 0, groups := [], xmap := [], seqTx := [], seqRef := [],
    fabric := [], passed := [], stagers := [] }

/-- One conversion of a SAR converter: AN input, gain code, nanoseconds from a change of the multiplexer to the end of acquisition (0: no
change), delayed, short launch time of its record, started against the substitute reference (R107–R112, R119). -/
structure Conv where
  chan : Nat
  gain : Nat
  acq : Nat
  delayed : Bool
  launch : Nat
  subst : Bool
deriving DecidableEq, Repr

/-- A decimator outside its registers: pending filter (R100), aligned (R100), shadow comparison, what TEST was entered by. -/
structure DecSt where
  pend : Option (Nat × Nat)
  aligned : Bool
  /-- Input shadowed; outputs so far; consecutive equal outputs; shadowing again after a passed test (R105). -/
  shadowOf : Nat
  outs : Nat
  eqs : Nat
  retest : Bool
deriving DecidableEq, Repr

def DecSt.init : DecSt := { pend := none, aligned := false, shadowOf := 63, outs := 0, eqs := 0, retest := false }

/-- A SAR converter outside its registers: the conversions to run, the running one first; SETTLE count (R110); calibration (R112): the
step aborted and owed, a step that waits for the running conversions, its number in the pass, its start. -/
structure SarSt where
  convs : List Conv
  settle : Nat
  owed : Bool
  calWait : Bool
  calStep : Nat
  calAt : Nat
deriving DecidableEq, Repr
def SarSt.init : SarSt := { convs := [], settle := 0, owed := false, calWait := false, calStep := 0, calAt := 0 }

/-- A VON measurement in progress: range, start of the aperture, INVALID reason so far (R114, R115). -/
structure VonSt where
  busy : Bool
  range : Nat
  start : Nat
  reason : Nat
deriving DecidableEq, Repr

def VonSt.init : VonSt := { busy := false, range := 0, start := 0, reason := 0 }

/-- A switched reference: consecutive rounds at or below 1,000 ppm, rounds since the switch, every one of them above 1,000 ppm (R120). -/
structure RefSt where
  good : Nat
  since : Nat
  bad : Bool
deriving DecidableEq, Repr

/-- The sensing block outside its registers. -/
structure SnsSt where
  dec : Sparse DecSt
  sar : Sparse SarSt
  von : Sparse VonSt
  /-- Entries produced per source code (R91 SEQ). -/
  seq : Sparse Nat
  /-- SETTLE count per AN input (R94, R122). -/
  anSettle : Sparse Nat
  /-- The last entry of each source without SETTLE and INVALID (R95). -/
  good : Sparse Quad
  /-- Consecutive out values, and values still ignored, per comparator pair (R101, R102). -/
  outRun : Sparse Nat
  ignore : Sparse Nat
  /-- Last fast-path value per input, and the decoded bits its filter still holds, newest first (R97, R101). -/
  fast : Sparse Nat
  fastBits : Sparse (List Bool)
  /-- The instant the last fast-path value represents (R190); 0 before the first. -/
  fastAt : Sparse Nat
  refA : RefSt
  refB : RefSt
  /-- Rounds since R121 came in force, none when not in force; 0x030D raised. -/
  degSince : Option Nat
  degPersist : Bool
  /-- Converter of the last conversion of each AN input, plus 1. -/
  anBy : Sparse Nat
deriving DecidableEq, Repr

def SnsSt.init : SnsSt :=
  { dec := [], sar := [], von := [], seq := [], anSettle := [], good := [], outRun := [], ignore := [], fast := [], fastBits := [], fastAt := [],
    refA := { good := 0, since := 0, bad := false }, refB := { good := 0, since := 0, bad := false }, degSince := none,
    degPersist := false, anBy := [] }

/-- A Hall triplet outside its registers (R127–R133). -/
structure HallSt where
  /-- Last valid filtered state, 0 none; direction of the last step (0 none). -/
  lastValid : Nat
  lastDir : Int
  /-- An edge time is held; the last six intervals, newest first. -/
  hasEdge : Bool
  intervals : List Nat
  /-- Last Δt in 10 ns units, not cut to a register's width (R132, R133). -/
  lastDt : Nat
  /-- A reversal, a skip or a departure from TRACKING since the last index latch of each index (bit i). -/
  tainted : Nat
  /-- The held edge speed, and the revolution speed, was saturated (R130). -/
  clip : Bool
  clipR : Bool
  /-- Rejections in the present millisecond (0x0405). -/
  rejWin : Nat
  rejCnt : Nat
  /-- Steps since the last latch were forward / reverse, per index bit (R135). -/
  fwd : Nat
  rev : Nat
  /-- Latest position entry (R133). -/
  entry : Quad
deriving DecidableEq, Repr

def HallSt.init : HallSt :=
  { lastValid := 0, lastDir := 0, hasEdge := false, intervals := [], lastDt := 0, tainted := 0, clip := false, clipR := false, rejWin := 0, rejCnt := 0,
    fwd := 0, rev := 0, entry := 0 }

/-- The position block outside its registers: per triplet; per index whether it has latched, and its level; per probe its level; per
pass-through output its pins C, B, A and index in bits 0–3 (R137). -/
structure PosSt where
  hall : Sparse HallSt
  latched : Sparse Bool
  /-- Synchronised levels of the index inputs (R137). -/
  idxLevel : Sparse Bool
  prbLevel : Sparse Bool
  hpt : Sparse Nat
deriving DecidableEq, Repr

def PosSt.init : PosSt := { hall := [], latched := [], idxLevel := [], prbLevel := [], hpt := [] }

/-- A leg outside its registers (R150–R158). -/
structure LegSt where
  /-- Requested instant of the present target, last trip, cut or hold start. -/
  reqAt : Nat
  tripAt : Nat
  /-- R152: no turn-on before the next period start. -/
  conflictHold : Bool
  /-- The first turn-on of the EDGE period of `raisedAt`, which R152 may discard: switch, last edge and edge count before it. -/
  undo : Option (Nat × Nat × Nat)
  /-- NPC: inner switches still on, to go off T3L_INNER after their neighbour. -/
  innerPend : Nat
  /-- The inner switches' turn-off is a trip (off) or a soft turn-off (R171). -/
  innerSoft : Bool
  /-- The retry wait runs; times of the clears (R157, R363). -/
  waiting : Bool
  clears : List Nat
  /-- EDGE period in which a record last raised the target (R152). -/
  raisedAt : Nat
  /-- A zero of the leg's running carrier that has passed and whose period start is owed; the next period start of a leg without one,
  counted from its cut or conflict (R156). -/
  zeroDue : Option Nat
  periodAt : Nat
  /-- The patterns the leg has shown with the instants they began, newest first, as far back as a carrier period reaches (R190, R205). -/
  hist : List (Nat × Nat)
deriving DecidableEq, Repr

def LegSt.init : LegSt :=
  { reqAt := 0, tripAt := 0, conflictHold := false, undo := none, innerPend := 0, innerSoft := false, waiting := false,
    clears := [], raisedAt := 0, zeroDue := none, periodAt := 0, hist := [] }

/-- An edge output outside its registers: last off edge, turn-ons since Pitch (R203), consecutive failed calibrations of each line. -/
structure OutSt where
  offAt : Nat
  ons : Nat
  fails0 : Nat
  fails1 : Nat
deriving DecidableEq, Repr

def OutSt.init : OutSt := { offAt := 0, ons := 0, fails0 := 0, fails1 := 0 }

/-- The edge generator outside its registers: loss rows (R98) latched active, carriers failed. -/
structure EdgSt where
  legs : Sparse LegSt
  outs : Sparse OutSt
  /-- Rows 0–47 whose input is lost (R98, R154). -/
  lossRows : BitVec 48
  /-- Carrier: the instant that comes next is a peak (triangular); step count within a period. -/
  carPeak : Sparse Bool
  /-- Pending period of a running carrier (R145 SET_PERIOD): launch and P. -/
  carPend : Sparse (Option (Nat × Nat))
  /-- Carriers whose internal check failed (R364). -/
  carFail : Sparse Bool
deriving DecidableEq, Repr

def EdgSt.init : EdgSt := { legs := [], outs := [], lossRows := 0, carPeak := [], carPend := [], carFail := [] }

/-- The drive of a gate (R163, R169): strong sink, the phases of a turn-on and a turn-off, soft turn-off, high impedance in DIAG,
and the 10 kΩ pull-down of an unsupplied channel. -/
inductive Drive where
  | strongSink | on1 | on2 | on3 | off1 | off2 | soft | hiZ | pullDown
deriving DecidableEq, Repr

/-- A gate channel outside its registers. -/
structure GateSt where
  drive : Drive
  /-- Arrival of the present level at the isolated side; blanking running (R169). -/
  levelAt : Nat
  blanking : Bool
  isoLevel : Bool
  supplyOn : Bool
  /-- Flag in flight to the edge generator (R170), cause 1 desaturation or 2 gate miss, 0 none. -/
  flag : Nat
  /-- The edge generator treats the channel as on until the off report (R170). -/
  treatOn : Bool
  /-- Detection without a local turn-off, awaiting T3L_INNER (R171). -/
  awaitInner : Bool
  /-- Time of the last desaturation detected (R115). -/
  desatAt : Nat
  /-- Retry wait running; times of the tries (R175, R363); link fault or supply fault present (cause active). -/
  waiting : Bool
  tries : List Nat
  supplyBad : Bool
  linkBad : Bool
  /-- Diagnostics run by GD_CMD; code of the transient fault that the next entry to ARMED clears (R360), 0 none. -/
  diagRun : Bool
  owed : Nat
  /-- The two enables of the safety island (R325): supply and signal. -/
  gse : Bool
  sen : Bool
  /-- The isolated side's link reinitialises (R174); off since the interlock opened, until diagnostics pass (R179). -/
  isoDown : Bool
  plugHold : Bool
  /-- A diagnostics run is in progress (R180); turn-on edges of the present 10 ms (R183). -/
  inRun : Bool
  ons : Nat
deriving DecidableEq, Repr

def GateSt.init : GateSt :=
  { drive := .pullDown, levelAt := 0, blanking := false, isoLevel := false, supplyOn := false, flag := 0, treatOn := false,
    awaitInner := false, desatAt := 0, waiting := false, tries := [], supplyBad := false, linkBad := false, diagRun := false, owed := 0, gse := false, sen := false,
    isoDown := false, plugHold := false, inRun := false, ons := 0 }

/-- The gate block outside its registers: the channels, and the loops closed. -/
structure GdSt where
  ch : Sparse GateSt
deriving DecidableEq, Repr

def GdSt.init : GdSt := { ch := [] }

/-- A raise on its way to FLT (R353): detection time, epoch, code, UINDEX, DETAIL. -/
structure Raise where
  time : Time
  epoch : BitVec 16
  code : Nat
  uidx : Nat
  detail : BitVec 64
  /-- The fault starts an SS1 or GIVE of a cell (`CELLSTOP`). -/
  stop : Bool
deriving DecidableEq, Repr

/-- A Pennant (R354) without the fields that follow from its code. -/
structure Pennant where
  pcc : Nat
  epoch : BitVec 16
  time : Time
  burgee : Nat
  code : Nat
  uidx : Nat
  flags : Nat
  occ : Nat
  detail : BitVec 64
deriving DecidableEq, Repr

/-- FLT outside its registers. -/
structure FltSt where
  /-- Raises that have reached FLT and are not yet written. -/
  raised : List Raise
  /-- The SRAM ring by slot, and the occurrence table in order of entry: CODE, UINDEX, count (R353, R358). -/
  ring : Sparse (Option Pennant)
  occ : List (Nat × Nat × Nat)
  /-- Window last raised in, plus one, per key (R513). -/
  win : Sparse Nat
  /-- Pennants written since entry to BIVOUAC (R375), BIVOUAC frame sequence. -/
  bivWritten : Nat
  bivSeq : Nat
  /-- The last BIVOUAC frame (R375), 16 bytes. -/
  bivFrame : Quad
deriving DecidableEq, Repr

def FltSt.init : FltSt :=
  { raised := [], ring := [], occ := [], win := [], bivWritten := 0, bivSeq := 0, bivFrame := 0 }


/-- A computed carrier edge: launch in units, index of the leg within the cell, level (0 N, 1 O, 2 P). -/
structure BndEdge where
  at_ : Nat
  leg : Nat
  level : Nat
deriving DecidableEq, Repr

/-- A limit-ratio step in progress (R214): launch, estimate at launch, direction, magnitude in Q1.15 steps, t_min in ns, what the bound
needs so far. -/
structure LrStep where
  t0 : Nat
  i0d : Rat
  i0q : Rat
  ud : Rat
  uq : Rat
  mag : Rat
  tmin : Rat
  bound : Bool
  left : Bool
  /-- Opened while the regulator was running (code 7 of R215). -/
  run : Bool
deriving DecidableEq, Repr

/-- A record fired at a regulator that waits for the next tick (R213): queue, opcode, payload; the launch and the estimate at it (R214). -/
structure BndRec where
  q : Nat
  op : Nat
  p : Quad
  launch : Nat
  id : Rat
  iq : Rat
deriving DecidableEq, Repr

/-- A band regulator outside its registers. -/
structure BndCell where
  /-- The last SET_CURRENT: form, and its two values. -/
  form : Nat
  ia : Int
  ib : Int
  /-- The last SET_LIMIT, none before the first. -/
  limit : Option Nat
  /-- The last SET_ANGLE: t_a, θ, ω; none before the first.  The angle has been lost since. -/
  angle : Option (Nat × Nat × Int)
  angLost : Bool
  /-- The DC-link entry that was the last valid one when the link was lost. -/
  vdcLost : Option Quad
  carLost : Bool
  /-- IDLE waits for a carrier zero (R193). -/
  waitZero : Bool
  intD : Rat
  intQ : Rat
  /-- Carrier edges computed and not yet sent, and sent ones. -/
  edges : List BndEdge
  sent : List BndEdge
  /-- Present BAND state, plus 1; level (plus 1) and time of the last change of each leg, by its index within the cell. -/
  code : Nat
  level : Sparse Nat
  since : Sparse Nat
  /-- A first BAND decision is owed; it sends shadows (R204).  BAND entered by ENABLE decides from the next tick on (R193). -/
  owed : Bool
  wait : Bool
  /-- Records that wait for the next tick, oldest first (R213). -/
  recs : List BndRec
  /-- Leg changes that `T_MINP` refuses at present: leg, level (R203). -/
  refused : List (Nat × Nat)
  /-- The neutral point has been out of limit for 10 ms and still is (R202). -/
  npOut : Bool
  /-- Turn-ons of the cell's switches at the last R203 window; squares and number of the residuals of the present R191 window. -/
  onsBase : Nat
  resSum : Nat
  resN : Nat
  ovrAt : Nat
  ovrTimes : List Nat
  /-- SET_TMAG has fired since Pitch (R211). -/
  tmagSet : Bool
  lr : Option LrStep
deriving DecidableEq, Repr

def BndCell.init : BndCell :=
  { form := 0, ia := 0, ib := 0, limit := none, angle := none, angLost := false, vdcLost := none, carLost := false,
    waitZero := false, intD := 0, intQ := 0, edges := [], sent := [], code := 0, level := [], since := [], owed := false,
    wait := false, recs := [], refused := [], npOut := false, onsBase := 0, resSum := 0, resN := 0, ovrAt := 0, ovrTimes := [], tmagSet := false, lr := none }

/-- The band regulators. -/
structure BndSt where
  cell : Sparse BndCell
deriving DecidableEq, Repr

def BndSt.init : BndSt := { cell := [] }


/-- The start procedure of a cell outside its registers (R220–R231). -/
structure StCell where
  /-- The 2 s wait of R227 runs. -/
  retry : Bool
  /-- When the present state was entered. -/
  since : Nat
  /-- The ramp generator: it gives the angle; the speed it moves to, its speed (rad/s) and angle (rad) at `rampAt`; the last record sent. -/
  rampOn : Bool
  rampTo : Rat
  rampW : Rat
  rampTh : Rat
  rampAt : Nat
  sentAt : Nat
  /-- Release ask of PROOF: 0 none, 1 asked, 2 granted, 3 refused.  STOPPING waits for the brake. -/
  ask : Nat
  brakeWait : Bool
  /-- Windows below `KE_WARN` and `KE_DEMAG`; the verdict of this start has been made or lost; tracking has ended for this start (R231). -/
  warnRun : Nat
  demagRun : Nat
  judged : Bool
  keLost : Bool
deriving DecidableEq, Repr

def StCell.init : StCell :=
  { retry := false, since := 0, rampOn := false, rampTo := 0, rampW := 0, rampTh := 0, rampAt := 0, sentAt := 0, ask := 0, brakeWait := false,
    warnRun := 0, demagRun := 0, judged := false, keLost := false }

/-- The start procedures. -/
structure StSt where
  cell : Sparse StCell
deriving DecidableEq, Repr

def StSt.init : StSt := { cell := [] }

/-- The DC-link procedure outside its registers: the energy estimate E in J (R234). -/
structure DclSt where
  e : Rat
deriving DecidableEq, Repr

def DclSt.init : DclSt := { e := 0 }

/-- A loop engine outside its registers (R238–R263). -/
structure LeEng where
  /-- Grid: t₀ in units, samples run on it (R238). -/
  t0 : Nat
  k : Nat
  /-- Targets and torques of the records (R246, R259), and the lead sample number of the last TORQUE_SHARE. -/
  vTgt : Int
  pTgt : Int
  trq : Int
  share : Int
  shareN : Nat
  /-- Profile: v and a in Q9.31, p* in 2⁻¹⁶ revolution, modulo 2³². -/
  v : Int
  a : Int
  pStar : Rat
  /-- Integrators 0–6 in Q9.31, and the last output of each stage. -/
  acc : Sparse Int
  y : Sparse Int
  /-- The last FEEDBACK: speed, position, auxiliary value; its SETTLE or INVALID. -/
  fbSpd : Int
  fbPos : Int
  fbAux : Int
  fbHeld : Bool
  /-- T of the last sample (R255), and the last speed from a Hall entry without a flag. -/
  t : Int
  hallSpd : Int
  /-- Pending swaps and mode, plus 1. -/
  swap : Nat
  tab : Nat
  modeNext : Nat
  /-- Line held by the friction and the cogging buffer, plus 1, and its entries (R262). -/
  lineF : Nat
  bufF : List Int
  lineC : Nat
  bufC : List Int
  /-- The flags of `LE_SAT` that the last sample met, and whether it held an input (R11). -/
  satNow : Nat
  heldIn : Bool
deriving DecidableEq, Repr

def LeEng.init : LeEng :=
  { t0 := 0, k := 0, vTgt := 0, pTgt := 0, trq := 0, share := 0, shareN := 0, v := 0, a := 0, pStar := 0, acc := [], y := [],
    fbSpd := 0, fbPos := 0, fbAux := 0, fbHeld := false, t := 0, hallSpd := 0, swap := 0, tab := 0, modeNext := 0, lineF := 0,
    bufF := [], lineC := 0, bufC := [], satNow := 0, heldIn := false }

/-- The state mirror of a loop engine (R263): what it held at the end of its last sample, with the banks and HOLD then active. -/
structure LeMirror where
  eng : LeEng
  bank : Nat
  tab : Nat
  hold : Nat
deriving DecidableEq, Repr

def LeMirror.init : LeMirror := { eng := LeEng.init, bank := 0, tab := 0, hold := 0 }

/-- The loop engines and their mirrors; the engine whose failure LE4 takes over and the state LE4 resumes in (R263). -/
structure LeSt where
  eng : Sparse LeEng
  mirror : Sparse LeMirror
  resume : Option (Nat × Nat)
deriving DecidableEq, Repr

def LeSt.init : LeSt := { eng := [], mirror := [], resume := none }

/-- A member of a machine as the lead keeps it (R268–R272): membership generation, firing time of its last ALIVE, its T and `PSTATE`, its
last share with sign, and the CLIP_REPORT in hand: sample number and excess. -/
structure Member where
  gen : Nat
  aliveAt : Nat
  tq : Int
  pst : Nat
  share : Int
  clip : Option (Nat × Nat)
  /-- DROOP until REJOIN (R287). -/
  droop : Bool
  /-- It becomes active at the next sample, with this cap (R269, R288). -/
  join : Option Nat
deriving DecidableEq, Repr

def Member.init : Member :=
  { gen := 1, aliveAt := 0, tq := 0, pst := 0, share := 0, clip := none, droop := false, join := none }

/-- The paralleling functions of a cell outside the registers (R265–R288). -/
structure ParCell where
  /-- The lead's members by index. -/
  mem : Sparse Member
  /-- Follower: samples since the last accepted TORQUE_SHARE, a share has come with the present generation; the lead's Burgee number. -/
  silent : Nat
  lead : Nat
  /-- Sequence of the part sets sent (R278). -/
  seq : Nat
  /-- Standby: the last complete part set (parts 0–5), the time of it, GIVE seen; deciding instant of a takeover under way. -/
  parts : List Slot
  /-- The cell took its stage over (R282), with the original owner and cell. -/
  took : Bool
  orig : Nat
  origCell : Nat
  /-- HANDBACK waits for `SEL_DELAY` (R285). -/
  handing : Bool
  /-- Standby: the part sets are silent (R279); arrival of the last one. -/
  quiet : Bool
  setAt : Nat
  /-- Follower in DROOP: an ACCEPT has brought a generation (R288). -/
  rejoin : Bool
deriving DecidableEq, Repr

def ParCell.init : ParCell :=
  { mem := [], silent := 0, lead := 255, seq := 0, parts := [], took := false, orig := 255, origCell := 0, handing := false,
    quiet := false, setAt := 0, rejoin := false }

/-- The paralleling functions. -/
structure ParSt where
  cell : Sparse ParCell
deriving DecidableEq, Repr

def ParSt.init : ParSt := { cell := [] }

/-- A store buffer entry (R305): address, size in bytes, data. -/
structure SbEnt where
  addr : Nat
  size : Nat
  data : Nat
deriving DecidableEq, Repr

/-- A loop level (R303): bounds of the body, remaining iterations, rotation step (0: none), call depth and trap mode it was opened
in. -/
structure FpLevel where
  first : Nat
  last : Nat
  left : Nat
  rot : Nat
  depth : Nat
  inTrap : Bool
deriving DecidableEq, Repr

/-- A field processor outside its registers of R492.  `WCUR`, `WRES`, `QOFS`, the modes, `FPSTAT`, `FGEN` and the inbox pointers are
held in those registers. -/
structure FpCore where
  /-- Physical registers: 0–7 g0–g7; 8 + 16w + r register r of window w; 264 + p rotating register p. -/
  regs : Sparse Word
  acc0 : BitVec 40
  acc1 : BitVec 40
  /-- The two SRAMs by word. -/
  imem : Sparse Word
  dmem : Sparse Word
  sb : List SbEnt
  /-- Operations of the bundle being issued; it stalls. -/
  bundle : List Instr
  stalled : Bool
  /-- Address of the next bundle; return addresses of the frames, newest first. -/
  pc : Nat
  rets : List Nat
  loops : List FpLevel
  wold : Nat
  cbase : Word
  clen : Word
  xpc : Nat
  xwin : Nat
  xcause : Word
  xaddr : Nat
  xvec : Nat
  htimeHi : Word
  /-- Sandbox budget of the present call, and the depth of return addresses at its entry. -/
  sbxLeft : Nat
  sbxDepth : Nat
  /-- DEQs in progress: destination register (plus 1, 0 for g0), queue, data address; ENQs: destination, record. -/
  deqs : List (Nat × Nat × Nat)
  enqs : List (Nat × Rec)
  /-- WAIT: destination register (plus 1, 0 for g0), and what has come since. -/
  waitRd : Nat
  evRec : Bool
  evInbox : Bool
  /-- Entries on their way to the inbox. -/
  inPend : List Quad
  /-- The inbox holds 512 entries not read (R293). -/
  inFull : Bool
  /-- R292: bits of the code word of an SRAM word that have flipped (instruction words 0–16383, data words from 16384; the SRAMs themselves hold
  the words as written), and registers with a parity error (296 and 297 the accumulators). -/
  flips : Sparse Nat
  parity : Sparse Bool
  /-- The last issue of a bundle, plus 1 (`FP_LOAD`). -/
  issuedAt : Nat
  /-- When the processor halted last (R365). -/
  haltAt : Nat
deriving DecidableEq, Repr

def FpCore.init : FpCore :=
  { regs := [], acc0 := 0, acc1 := 0, imem := [], dmem := [], sb := [], bundle := [], stalled := false, pc := 0, rets := [], loops := [],
    wold := 0, cbase := 0, clen := 0, xpc := 0, xwin := 0, xcause := 0, xaddr := 0, xvec := 0, htimeHi := 0, sbxLeft := 0,
    sbxDepth := 0, deqs := [], enqs := [], waitRd := 0, evRec := false, evInbox := false, inPend := [], inFull := false,
    flips := [], parity := [], issuedAt := 0, haltAt := 0 }

/-- The field processors; halted processors whose policy is owed; loads in progress: target, source. -/
structure FpSt where
  core : Sparse FpCore
  owed : List Nat
  loads : List (Nat × Nat)
deriving DecidableEq, Repr

def FpSt.init : FpSt := { core := [], owed := [], loads := [] }


/-- A cell of the safety island outside its registers (R331–R335): the stop line; the brake lead runs; SS1 runs as SS1-r, with its entry
instant and v₀ in 0.1 rad/s; the monitoring reactions in force: bit 0 SLS, 1 SLT, 2 torque mismatch, 3 single-path torque, 4 speed
mismatch, 5 impossible Hall state, 6 both torque paths lost. -/
structure SiCell where
  stopLine : Bool
  lead : Bool
  ss1r : Bool
  t0 : Nat
  v0 : Nat
  react : Nat
deriving DecidableEq, Repr

def SiCell.init : SiCell := { stopLine := false, lead := false, ss1r := false, t0 := 0, v0 := 0, react := 0 }

/-- A safety frame, byte k in bits 8k+7:8k (R342). -/
abbrev SafetyFrame := BitVec 512

/-- The command connection (R344–R347). -/
structure SfSt where
  /-- A frame has been accepted since Pitch; the next frame is the first after Pitch or a timeout. -/
  any : Bool
  first : Bool
  accTs : Nat
  accAt : Nat
  /-- RESET bit of the last accepted frame plus 1, 0 none. -/
  reset : Nat
  /-- TIMEOUT; its reaction stays until a frame may release. -/
  tmo : Bool
  tmoHold : Bool
  /-- The copy held for its partner: network, frame, arrival. -/
  held : Option (Nat × SafetyFrame × Nat)
  /-- Consecutive misses and loss per network, bus-off per network. -/
  miss : Sparse Nat
  lost : Nat
  busOff : Nat
  /-- 1 DUAL, 2 SINGLE on CAN0, 3 SINGLE on CAN1; frames paired in a row in SINGLE. -/
  mode : Nat
  pairs : Nat
  /-- SINGLE: the last accepted frame, its arrival, paired; the last copy on the other network. -/
  acc : Option (SafetyFrame × Nat × Bool)
  shadow : Option (SafetyFrame × Nat)
  /-- Demands in force by the last accepted frame: STO, SS1, SLS, SLT per cell; BRAKE_REL per cell. -/
  sto : Nat
  ss1 : Nat
  sls : Nat
  slt : Nat
  brake : Nat
  /-- SEQ of the next status frame. -/
  stsSeq : Nat
deriving DecidableEq, Repr

def SfSt.init : SfSt :=
  { any := false, first := true, accTs := 0, accAt := 0, reset := 0, tmo := false, tmoHold := false, held := none, miss := [], lost := 0,
    busOff := 0, mode := 1, pairs := 0, acc := none, shadow := none, sto := 0, ss1 := 0, sls := 0, slt := 0, brake := 0, stsSeq := 0 }

/-- The safety island outside its registers: cells, connection, pairs in discrepancy whose channels have shown demand together (R329),
consecutive clock windows outside ±5 % (R321). -/
structure SiSt where
  cell : Sparse SiCell
  sf : SfSt
  both : Nat
  clkBad : Nat
deriving DecidableEq, Repr

def SiSt.init : SiSt := { cell := [], sf := SfSt.init, both := 0, clkBad := 0 }

/-- The frame a channel has on the bus (R387): its buffer, none for a reference message; the frame; an abort has come; hardware has loaded
the buffer anew meanwhile. -/
structure OnBus where
  buf : Option Nat
  frame : CanFrame
  aborted : Bool
  again : Bool
deriving DecidableEq, Repr

/-- A CAN channel outside its registers. -/
structure CanCh where
  /-- The error counters of ISO 11898-1 (R381); `CAN_ERRCNT` shows them saturated. -/
  tec : Nat
  rxe : Nat
  bus : Option OnBus
  /-- Sequence accepted last by each buffer, plus 1 (R384); frames taken by each buffer (R395). -/
  seqRef : Sparse Nat
  taken : Sparse Nat
  /-- Sequence of the next status frame of each cell (R391). -/
  stsSeq : Sparse Nat
  /-- The last sync mark: its instant plus 1 (0 none), cycle count and Master_Ref_Mark (R393). -/
  sync : Nat
  count : Nat
  mark : Nat
  /-- A reference message has come since t_c; this module's is to be sent; priority of the current master plus 1 (0 none). -/
  refSeen : Bool
  refPend : Bool
  master : Nat
  /-- The exclusive transmissions that wait for the bus, oldest first: buffer and trigger; exclusive transmissions are stopped (S2). -/
  excl : List (Nat × Nat)
  exclStop : Bool
  /-- A miss in this matrix cycle; the matrix cycle has begun at count 0; consecutive misses of each TX trigger; frames its buffer had taken when an RX
  trigger last acted, plus 1. -/
  missed : Bool
  whole : Bool
  runs : Sparse Nat
  seen : Sparse Nat
  /-- Close of the arbitrating window. -/
  winEnd : Nat
  /-- Cycle count of the basic cycle that began at the last t_c (R393). -/
  cyc : Nat
  /-- BUS period of the last abort of each buffer, plus 1 (R389), and of the last SEND8 that it took (R495). -/
  abortAt : Sparse Nat
  send8At : Sparse Nat
deriving DecidableEq, Repr

def CanCh.init : CanCh :=
  { tec := 0, rxe := 0, bus := none, seqRef := [], taken := [], stsSeq := [], sync := 0, count := 0, mark := 0, refSeen := false, refPend := false,
    master := 0, excl := [], exclStop := false, missed := false, whole := false, runs := [], seen := [], winEnd := 0, cyc := 0,
    abortAt := [], send8At := [] }

/-- The CAN channels outside their registers. -/
structure CanSt where
  ch : Sparse CanCh
deriving DecidableEq, Repr

def CanSt.init : CanSt := { ch := [] }


/-- An auxiliary output outside its registers: a pull-in has happened, its start, the request's arrival; the retry wait runs, times of the
tries, code of the transient fault that the next pass clears (0 none); for AUX2h: the feed is retired (R443). -/
structure AuxOut where
  pulled : Bool
  pullAt : Nat
  reqAt : Nat
  waiting : Bool
  tries : List Nat
  owed : Nat
  feedDead : Bool
deriving DecidableEq, Repr

def AuxOut.init : AuxOut :=
  { pulled := false, pullAt := 0, reqAt := 0, waiting := false, tries := [], owed := 0, feedDead := false }

/-- The auxiliary outputs. -/
structure AuxSt where
  out : Sparse AuxOut
deriving DecidableEq, Repr

def AuxSt.init : AuxSt := { out := [] }

/-- Housekeeping outside its registers: the last 126 values of TEMP0–TEMP15 and, at 16, of the die, newest first, none for an invalid one
(R453); the die over and below (R454) and past its rate limit; per cell the start of the release timer plus 1, 0 stopped (R455); key writes deferred for
temperature (R457); consecutive readings above 135 °C, readings since the trip, the trip was a diode failure (R458, R459). -/
structure HkSt where
  hist : Sparse (List (Option Int))
  dieOver : Bool
  dieBelow : Bool
  dieRor : Bool
  rel : Sparse Nat
  deferred : Bool
  hot : Nat
  reads : Nat
  dieFail : Bool
deriving DecidableEq, Repr

def HkSt.init : HkSt := { hist := [], dieOver := false, dieBelow := false, dieRor := false, rel := [], deferred := false, hot := 0, reads := 0, dieFail := false }


/-- A descriptor copy of the key (R413). -/
structure Desc where
  uid : Nat
  floor : Nat
  stA : Nat
  stB : Nat
  dseq : Nat
deriving DecidableEq, Repr

/-- A set-point map entry at run time (R430, R431): the last result sent, the count of its last frame, stale. -/
structure SpEnt where
  last : Option Nat
  lastAt : Nat
  stale : Bool
deriving DecidableEq, Repr

def SpEnt.init : SpEnt := { last := none, lastAt := 0, stale := false }

/-- The Pitch key and what the module keeps of it.  An unlisted byte of the flash is erased, 0xFF. -/
structure KeySt where
  /-- The flash of the key on J15, or of the one last there (R412). -/
  flash : Sparse Byte
  /-- KEY_DET shows a key; it answers under R411. -/
  present : Bool
  answers : Bool
  /-- A Pitch has read a key, and its KEY_UID (R415); the key on J15 is another. -/
  known : Bool
  uid : Nat
  foreign : Bool
  /-- The descriptor in force with its copy, 2 none (R413); a descriptor that waits for its write (R423, R414). -/
  copy : Nat
  desc : Desc
  want : Option Desc
  /-- The count in use is not yet written (R414); 0x0E08 stands. -/
  pccPending : Bool
  failed : Bool
  /-- Blown fuses: the module's rollback floor (R422). -/
  fuses : Nat
  /-- Set-point map entries, the router's last read of `CNT` per channel × 128 + buffer, entries of the map. -/
  sp : Sparse SpEnt
  spCnt : Sparse Nat
  spN : Nat
deriving DecidableEq, Repr

def KeySt.init : KeySt :=
  { flash := [], present := false, answers := false, known := false, uid := 0, foreign := false, copy := 2,
    desc := { uid := 0, floor := 0, stA := 0, stB := 0, dseq := 0 }, want := none, pccPending := false, failed := false,
    fuses := Config.factoryFloor.toNat, sp := [], spCnt := [], spN := 0 }

/-- Supply and clock watches outside the registers: AUX24 powers the module; a prelude that holds its entry to PITCH for the die temperature
(R459), by cause and state before; consecutive windows of R446 beyond their limit; hardware has stopped the management processor (R446). -/
structure PwrSt where
  powered : Bool
  prelude : Option (Nat × Nat)
  xtalOver : Nat
  mgmtOver : Nat
  mpStopped : Bool
deriving DecidableEq, Repr

def PwrSt.init : PwrSt := { powered := true, prelude := none, xtalOver := 0, mgmtOver := 0, mpStopped := false }



/-- A request that waits for service (R465): its path, its cell, the count and epoch at receipt. -/
structure MgtReq where
  path : MgtPath
  cell : Slot
  time : BitVec 64
  epoch : BitVec 16
deriving DecidableEq, Repr

/-- An outstanding forward (R465): the entry path, the SRC to restore, DST and TAG. -/
structure MgtFwd where
  path : MgtPath
  src : Nat
  dst : Nat
  tag : Nat
deriving DecidableEq, Repr

/-- The open update session (R473, R474): path, SRC, slot, length, next expected offset, cells buffered by offset. -/
structure UpdSt where
  path : MgtPath
  src : Nat
  slot : Nat
  len : Nat
  next : Nat
  buf : List (Nat × List Nat)
deriving DecidableEq, Repr

/-- Management outside its registers: requests in order of receipt, responses to forwards, outstanding forwards with the oldest first, the
last cell sent on the service port, the update session, consecutive failed pages of the log (R470). -/
structure MgtSt where
  queue : List MgtReq
  responses : List Slot
  fwd : List MgtFwd
  svc : Option Slot
  upd : Option UpdSt
  fails : Nat
deriving DecidableEq, Repr

def MgtSt.init : MgtSt := { queue := [], responses := [], fwd := [], svc := none, upd := none, fails := 0 }


/-- Faults.  No meaning of this model ends in one: every command of the table has an effect, and a command whose condition does not
hold leaves the state as it is. -/
inductive Fault where
  /-- Raised by nothing; a place for a fault of the model should a rule ever need one (safe). -/
  | absent
deriving DecidableEq, Repr

/-- Refusals. -/
inductive Refusal where
  /-- The command has no meaning yet: answered by `exec`'s arm of that mnemonic alone (safe). -/
  | notModelled (mnemonic : String)
deriving DecidableEq, Repr

/-- The state of the block. -/
structure State where
  /-- Commands waiting, first in, first out. -/
  pending : List Instr
  /-- Every register of R492, by address; an unlisted register holds its reset value. -/
  regs : Sparse Word
  /-- MODEL'S OWN: how many free values have been drawn. -/
  free : Nat
  clk : ClockSt
  hal : HalSt
  hq : HqSt
  sns : SnsSt
  pos : PosSt
  edg : EdgSt
  gd : GdSt
  flt : FltSt
  bnd : BndSt
  st : StSt
  dcl : DclSt
  le : LeSt
  par : ParSt
  fp : FpSt
  si : SiSt
  can : CanSt
  aux : AuxSt
  key : KeySt
  pwr : PwrSt
  hk : HkSt
  mgt : MgtSt
deriving DecidableEq, Repr

/-- The machine right after reset: PITCH entered after power-on (R16, R442 step 5), every register at its reset value, no
configuration loaded, no command waiting. -/
def State.reset : State :=
  { pending := [], regs := [], free := 0, clk := { count := 0, epoch := 0, counting := false },
    hal := HalSt.init, hq := HqSt.init, sns := SnsSt.init, pos := PosSt.init, edg := EdgSt.init, gd := GdSt.init, flt := FltSt.init, bnd := BndSt.init, st := StSt.init, dcl := DclSt.init, le := LeSt.init, par := ParSt.init, fp := FpSt.init, si := SiSt.init, can := CanSt.init, aux := AuxSt.init, key := KeySt.init, pwr := PwrSt.init, hk := HkSt.init, mgt := MgtSt.init }

end Sys2Proof.Machine
end

