-- ==== Sys2Proof/Machine/RegMap.lean ====
section
/-! DEFINITION. The register map: one address per register (R7, R492 and the register tables of every chapter) and one
bit range per named field.  A register's address is the block base plus instance x 0x1_0000 plus its offset. -/
namespace Sys2Proof.Machine

def rHAL_TIME_LO : Nat := 0x1000000
def rHAL_TIME_HI : Nat := 0x1000004
def rHAL_EPOCH : Nat := 0x1000008
def rHAL_STATUS : Nat := 0x100000C
def rHAL_CFG : Nat := 0x1000010
def rHAL_NET_TAG : Nat := 0x1000014
def rHAL_OFFSET : Nat := 0x1000018
def rHAL_OFFSET_PEAK : Nat := 0x100001C
def rHAL_FREQ_ADJ : Nat := 0x1000020
def rHAL_EVENTS : Nat := 0x1000024
def rHAL_CMD : Nat := 0x1000028
def rHAL_SLEW_REM : Nat := 0x100002C
def rHAL_HOLD_MS : Nat := 0x1000030
def rHAL_REF_STATUS : Nat := 0x1000034
def rHAL_PORT_STATE (n : Nat) : Nat := 0x1000100 + n * 0x10000
def rHAL_PORT_CFG (n : Nat) : Nat := 0x1000104 + n * 0x10000
def rHAL_PORT_ASYM (n : Nat) : Nat := 0x1000108 + n * 0x10000
def rHAL_PORT_DELAY (n : Nat) : Nat := 0x100010C + n * 0x10000
def rHAL_PORT_OFFSET (n : Nat) : Nat := 0x1000110 + n * 0x10000
def rHAL_FEC_CORR (n : Nat) : Nat := 0x1000114 + n * 0x10000
def rHAL_FEC_UNCORR (n : Nat) : Nat := 0x1000118 + n * 0x10000
def rHAL_LSEQ_GAPS (n : Nat) : Nat := 0x100011C + n * 0x10000
def rHAL_SLOT_DROP (n : Nat) : Nat := 0x1000120 + n * 0x10000
def rHAL_SFP_INFO (n : Nat) : Nat := 0x1000124 + n * 0x10000
def rHAL_PORT_EVENTS (n : Nat) : Nat := 0x1000128 + n * 0x10000
def rHQ_CFG : Nat := 0x2000000
def rHQ_STATUS : Nat := 0x2000004
def rHQ_POOL_FREE : Nat := 0x2000008
def rHQ_POOL_MIN : Nat := 0x200000C
def rHQ_EVENTS : Nat := 0x2000010
def rHQ_CMD : Nat := 0x2000014
def rHQ_CNT_LATE_EXEC : Nat := 0x2000018
def rHQ_CNT_LATE_DISC : Nat := 0x200001C
def rHQ_CNT_STALE : Nat := 0x2000020
def rHQ_CNT_POOL : Nat := 0x2000024
def rHQ_CNT_QUOTA : Nat := 0x2000028
def rHQ_CNT_MALFORMED : Nat := 0x200002C
def rHQ_CNT_UNMAPPED : Nat := 0x2000030
def rHQ_CNT_COMMITTED : Nat := 0x2000034
def rHQ_CNT_ABORTED : Nat := 0x2000038
def rHQ_CNT_SPLIT : Nat := 0x200003C
def rHQ_SEQ_GAPS : Nat := 0x2000040
def rHQ_LAST_DISCARD : Nat := 0x2000044
def rHQ_CNT_GROUPFULL : Nat := 0x2000048
def rHQ_ENQ (k : Nat) : Nat := 0x2000050 + k * 4
def rHQ_ENQ_CMD : Nat := 0x2000070
def rSNS_DEC_CFG (n : Nat) : Nat := 0x3000000 + n * 0x10000
def rSNS_DEC_SCALE (n : Nat) : Nat := 0x3000004 + n * 0x10000
def rSNS_DEC_STATUS (n : Nat) : Nat := 0x3000008 + n * 0x10000
def rSNS_DEC_COUNT (n : Nat) : Nat := 0x300000C + n * 0x10000
def rSNS_DEC_LAST (n k : Nat) : Nat := 0x3000010 + n * 0x10000 + k * 4
def rSNS_DEC_RING (n k : Nat) : Nat := 0x3000100 + n * 0x10000 + k * 4
def rSNS_SAR_CFG (n : Nat) : Nat := 0x3340000 + n * 0x10000
def rSNS_SAR_STATE (n : Nat) : Nat := 0x3340004 + n * 0x10000
def rSNS_SAR_CAL_ABORTS (n : Nat) : Nat := 0x3340008 + n * 0x10000
def rSNS_SAR_COUNT (n : Nat) : Nat := 0x334000C + n * 0x10000
def rSNS_SAR_LAST (n k : Nat) : Nat := 0x3340010 + n * 0x10000 + k * 4
def rSNS_SAR_SEQ (n k : Nat) : Nat := 0x3340040 + n * 0x10000 + k * 4
def rSNS_SAR_RING (n k : Nat) : Nat := 0x3340100 + n * 0x10000 + k * 4
def rSNS_GROUP_CFG (k : Nat) : Nat := 0x3380000 + k * 4
def rSNS_CFG : Nat := 0x3380020
def rSNS_EVENTS : Nat := 0x3380024
def rSNS_CMD : Nat := 0x3380028
def rSNS_SPARES : Nat := 0x338002C
def rSNS_REF_STATUS : Nat := 0x3380030
def rSNS_REF_DEV : Nat := 0x3380034
def rSNS_REF_TRIM : Nat := 0x3380038
def rSNS_SD_CFG (k : Nat) : Nat := 0x3380100 + k * 4
def rSNS_SD_STATUS (k : Nat) : Nat := 0x3380200 + k * 4
def rSNS_WIN_LIM (k : Nat) : Nat := 0x3380400 + k * 16
def rSNS_WIN_CFG (k : Nat) : Nat := 0x3380404 + k * 16
def rSNS_WIN_STATUS (k : Nat) : Nat := 0x3380408 + k * 16
def rSNS_AN_CFG (k : Nat) : Nat := 0x3380800 + k * 8
def rSNS_AN_SCALE (k : Nat) : Nat := 0x3380804 + k * 8
def rSNS_AN_LAST (k w : Nat) : Nat := 0x3380900 + k * 16 + w * 4
def rSNS_VON_CFG (k : Nat) : Nat := 0x3380A00 + k * 32
def rSNS_VON_LAST (k w : Nat) : Nat := 0x3380A10 + k * 32 + w * 4
def rPOS_HALL_CFG (n : Nat) : Nat := 0x4000000 + n * 0x10000
def rPOS_HALL_MAP (n : Nat) : Nat := 0x4000004 + n * 0x10000
def rPOS_SPD_CFG (n : Nat) : Nat := 0x4000008 + n * 0x10000
def rPOS_SPD_BASE (n : Nat) : Nat := 0x400000C + n * 0x10000
def rPOS_HALL_STATUS (n : Nat) : Nat := 0x4000010 + n * 0x10000
def rPOS_COUNT (n : Nat) : Nat := 0x4000014 + n * 0x10000
def rPOS_INTERVAL (n : Nat) : Nat := 0x4000018 + n * 0x10000
def rPOS_INTERVAL_REV (n : Nat) : Nat := 0x400001C + n * 0x10000
def rPOS_SPEED (n : Nat) : Nat := 0x4000020 + n * 0x10000
def rPOS_EDGE_TIME_LO (n : Nat) : Nat := 0x4000024 + n * 0x10000
def rPOS_EDGE_TIME_HI (n : Nat) : Nat := 0x4000028 + n * 0x10000
def rPOS_CNT_REJECT (n : Nat) : Nat := 0x400002C + n * 0x10000
def rPOS_CNT_INVALID (n : Nat) : Nat := 0x4000030 + n * 0x10000
def rPOS_CNT_SKIP (n : Nat) : Nat := 0x4000034 + n * 0x10000
def rPOS_EVENTS (n : Nat) : Nat := 0x4000038 + n * 0x10000
def rPOS_CNT_DRIFT_SKIP (n : Nat) : Nat := 0x400003C + n * 0x10000
def rPOS_IDX_CFG (k : Nat) : Nat := 0x4060000 + k * 16
def rPOS_IDX_LATCH (k : Nat) : Nat := 0x4060004 + k * 16
def rPOS_IDX_DRIFT (k : Nat) : Nat := 0x4060008 + k * 16
def rPOS_IDX_TIME (k : Nat) : Nat := 0x406000C + k * 16
def rPOS_PRB_CFG (k : Nat) : Nat := 0x4060100 + k * 16
def rPOS_PRB_STATUS (k : Nat) : Nat := 0x4060104 + k * 16
def rPOS_PRB_RING (k : Nat) : Nat := 0x4060200 + k * 4
def rPOS_HPT_SRC (k : Nat) : Nat := 0x4060400 + k * 4
def rPOS_CMD : Nat := 0x4060410
def rEDG_CAR_CFG (n : Nat) : Nat := 0x5000000 + n * 0x10000
def rEDG_CAR_PERIOD (n : Nat) : Nat := 0x5000004 + n * 0x10000
def rEDG_CAR_STATUS (n : Nat) : Nat := 0x5000008 + n * 0x10000
def rEDG_CAR_ZERO_LO (n : Nat) : Nat := 0x500000C + n * 0x10000
def rEDG_CAR_ZERO_HI (n : Nat) : Nat := 0x5000010 + n * 0x10000
def rEDG_EO_STATUS (n : Nat) : Nat := 0x5080000 + n * 0x10000
def rEDG_EO_LAST_LO (n : Nat) : Nat := 0x5080004 + n * 0x10000
def rEDG_EO_LAST_HI (n : Nat) : Nat := 0x5080008 + n * 0x10000
def rEDG_EO_CAL (n : Nat) : Nat := 0x508000C + n * 0x10000
def rEDG_EO_CNT_EDGES (n : Nat) : Nat := 0x5080010 + n * 0x10000
def rEDG_EO_CNT_MERGED (n : Nat) : Nat := 0x5080014 + n * 0x10000
def rEDG_EO_CNT_SWAPSKIP (n : Nat) : Nat := 0x5080018 + n * 0x10000
def rEDG_CFG : Nat := 0x5200000
def rEDG_RETRY_CFG : Nat := 0x5200004
def rEDG_TRIPPIN_CFG : Nat := 0x5200008
def rEDG_TRIPPIN_STATUS : Nat := 0x520000C
def rEDG_EVENTS : Nat := 0x5200010
def rEDG_CMD : Nat := 0x5200014
def rEDG_CNT_CONFLICT : Nat := 0x5200018
def rEDG_CNT_FORBIDDEN : Nat := 0x520001C
def rEDG_CNT_SUPPRESSED : Nat := 0x5200020
def rEDG_LEG_CFG (k : Nat) : Nat := 0x5200100 + k * 16
def rEDG_LEG_DTA (k : Nat) : Nat := 0x5200104 + k * 16
def rEDG_LEG_DTB (k : Nat) : Nat := 0x5200108 + k * 16
def rEDG_LEG_STATUS (k : Nat) : Nat := 0x520010C + k * 16
def rEDG_TRIP_MASK (k : Nat) : Nat := 0x5200200 + k * 4
def rGD_CFG (n : Nat) : Nat := 0x6000000 + n * 0x10000
def rGD_PROF_ON (n : Nat) : Nat := 0x6000004 + n * 0x10000
def rGD_PROF_OFF (n : Nat) : Nat := 0x6000008 + n * 0x10000
def rGD_DESAT (n : Nat) : Nat := 0x600000C + n * 0x10000
def rGD_VGMON (n : Nat) : Nat := 0x6000010 + n * 0x10000
def rGD_ENVELOPE (n : Nat) : Nat := 0x6000014 + n * 0x10000
def rGD_DIAG_CFG (n : Nat) : Nat := 0x6000018 + n * 0x10000
def rGD_STATUS (n : Nat) : Nat := 0x600001C + n * 0x10000
def rGD_DIAG_RESULT (n : Nat) : Nat := 0x6000020 + n * 0x10000
def rGD_DIAG_PEER (n : Nat) : Nat := 0x6000024 + n * 0x10000
def rGD_OWN (n : Nat) : Nat := 0x6000028 + n * 0x10000
def rGD_SUPPLY (n : Nat) : Nat := 0x600002C + n * 0x10000
def rGD_POWER (n : Nat) : Nat := 0x6000030 + n * 0x10000
def rGD_PD_CAL (n : Nat) : Nat := 0x6000034 + n * 0x10000
def rGD_CNT_DESAT (n : Nat) : Nat := 0x6000038 + n * 0x10000
def rGD_CNT_GATEMISS (n : Nat) : Nat := 0x600003C + n * 0x10000
def rGD_EVENTS (n : Nat) : Nat := 0x6000040 + n * 0x10000
def rGD_CNT_LATCH (n : Nat) : Nat := 0x6000044 + n * 0x10000
def rGD_RETRY_CFG : Nat := 0x6180000
def rGD_HARNESS : Nat := 0x6180004
def rGD_CMD : Nat := 0x6180008
def rGD_ARMED : Nat := 0x618000C
def rGD_CNT_UNPLUG : Nat := 0x6180010
def rBND_CFG (n : Nat) : Nat := 0x7000000 + n * 0x10000
def rBND_SRC (n : Nat) : Nat := 0x7000004 + n * 0x10000
def rBND_BASE (n : Nat) : Nat := 0x7000008 + n * 0x10000
def rBND_WBASE (n : Nat) : Nat := 0x700000C + n * 0x10000
def rBND_MACH (n : Nat) : Nat := 0x7000010 + n * 0x10000
def rBND_MACH2 (n : Nat) : Nat := 0x7000014 + n * 0x10000
def rBND_MAGNET (n : Nat) : Nat := 0x7000018 + n * 0x10000
def rBND_GAIN_A (n : Nat) : Nat := 0x700001C + n * 0x10000
def rBND_GAIN_B (n : Nat) : Nat := 0x7000020 + n * 0x10000
def rBND_BANDS (n : Nat) : Nat := 0x7000024 + n * 0x10000
def rBND_ADAPT (n : Nat) : Nat := 0x7000028 + n * 0x10000
def rBND_ADAPT2 (n : Nat) : Nat := 0x700002C + n * 0x10000
def rBND_TIMING (n : Nat) : Nat := 0x7000030 + n * 0x10000
def rBND_LIMITS (n : Nat) : Nat := 0x7000034 + n * 0x10000
def rBND_FW (n : Nat) : Nat := 0x7000038 + n * 0x10000
def rBND_FW2 (n : Nat) : Nat := 0x700003C + n * 0x10000
def rBND_MISC (n : Nat) : Nat := 0x7000040 + n * 0x10000
def rBND_LR_CFG (n : Nat) : Nat := 0x7000044 + n * 0x10000
def rBND_XY (n : Nat) : Nat := 0x7000048 + n * 0x10000
def rBND_STATUS (n : Nat) : Nat := 0x7000080 + n * 0x10000
def rBND_ILIM_RT (n : Nat) : Nat := 0x7000084 + n * 0x10000
def rBND_TMAG_RT (n : Nat) : Nat := 0x7000088 + n * 0x10000
def rBND_IREF (n : Nat) : Nat := 0x700008C + n * 0x10000
def rBND_IEST (n : Nat) : Nat := 0x7000090 + n * 0x10000
def rBND_VREF (n : Nat) : Nat := 0x7000094 + n * 0x10000
def rBND_VDC (n : Nat) : Nat := 0x7000098 + n * 0x10000
def rBND_ANGLE (n : Nat) : Nat := 0x700009C + n * 0x10000
def rBND_HBAND (n : Nat) : Nat := 0x70000A0 + n * 0x10000
def rBND_PRED_RES (n : Nat) : Nat := 0x70000A4 + n * 0x10000
def rBND_FW_DID (n : Nat) : Nat := 0x70000A8 + n * 0x10000
def rBND_LR_STATUS (n : Nat) : Nat := 0x70000C0 + n * 0x10000
def rBND_LR_TMIN (n : Nat) : Nat := 0x70000C4 + n * 0x10000
def rBND_LR_TRISE (n : Nat) : Nat := 0x70000C8 + n * 0x10000
def rBND_LR_MAX (n : Nat) : Nat := 0x70000CC + n * 0x10000
def rBND_CNT_STEPS (n : Nat) : Nat := 0x70000D0 + n * 0x10000
def rBND_CNT_LR_OVER (n : Nat) : Nat := 0x70000D4 + n * 0x10000
def rBND_CNT_OVR (n : Nat) : Nat := 0x70000D8 + n * 0x10000
def rBND_CNT_MINP (n : Nat) : Nat := 0x70000DC + n * 0x10000
def rBND_CNT_FALLBACK (n : Nat) : Nat := 0x70000E0 + n * 0x10000
def rBND_EVENTS (n : Nat) : Nat := 0x70000E4 + n * 0x10000
def rBND_CMD (n : Nat) : Nat := 0x70000E8 + n * 0x10000
def rBND_MTPA (n k : Nat) : Nat := 0x7000400 + n * 0x10000 + k * 4
def rBND_PTAB (n k : Nat) : Nat := 0x7001000 + n * 0x10000 + k * 4
def rBND_ST_CFG (n : Nat) : Nat := 0x7002000 + n * 0x10000
def rBND_ST_ALIGN (n : Nat) : Nat := 0x7002004 + n * 0x10000
def rBND_ST_RAMP (n : Nat) : Nat := 0x7002008 + n * 0x10000
def rBND_ST_HAND (n : Nat) : Nat := 0x700200C + n * 0x10000
def rBND_ST_FLY (n : Nat) : Nat := 0x7002010 + n * 0x10000
def rBND_ST_KE (n : Nat) : Nat := 0x7002014 + n * 0x10000
def rBND_ST_BRAKE (n : Nat) : Nat := 0x7002018 + n * 0x10000
def rBND_ST_STOP (n : Nat) : Nat := 0x700201C + n * 0x10000
def rBND_ST_STATUS (n : Nat) : Nat := 0x7002040 + n * 0x10000
def rBND_ST_FLYRES (n : Nat) : Nat := 0x7002044 + n * 0x10000
def rBND_KE_EST (n : Nat) : Nat := 0x7002048 + n * 0x10000
def rBND_ST_EVENTS (n : Nat) : Nat := 0x700204C + n * 0x10000
def rBND_ST_CNT_STARTS (n : Nat) : Nat := 0x7002050 + n * 0x10000
def rBND_ST_CNT_FAIL (n : Nat) : Nat := 0x7002054 + n * 0x10000
def rBND_ST_CMD (n : Nat) : Nat := 0x7002058 + n * 0x10000
def rBND_DCL_CFG : Nat := 0x7040000
def rBND_DCL_PRE : Nat := 0x7040004
def rBND_DCL_PRE2 : Nat := 0x7040008
def rBND_DCL_TEMP : Nat := 0x704000C
def rBND_DCL_CHOP : Nat := 0x7040010
def rBND_DCL_CHOP2 : Nat := 0x7040014
def rBND_DCL_CHOP3 : Nat := 0x7040018
def rBND_DCL_DIS : Nat := 0x704001C
def rBND_DCL_VMIN : Nat := 0x7040020
def rBND_DCL_STATUS : Nat := 0x7040040
def rBND_DCL_VOLT : Nat := 0x7040044
def rBND_DCL_CHOPE : Nat := 0x7040048
def rBND_DCL_EVENTS : Nat := 0x704004C
def rBND_DCL_CMD : Nat := 0x7040050
def rBND_DCL_CNT_PRE : Nat := 0x7040054
def rLE_CFG (n : Nat) : Nat := 0x8000000 + n * 0x10000
def rLE_TIMING (n : Nat) : Nat := 0x8000004 + n * 0x10000
def rLE_PHASE (n : Nat) : Nat := 0x8000008 + n * 0x10000
def rLE_SRC (n : Nat) : Nat := 0x800000C + n * 0x10000
def rLE_KTI (n : Nat) : Nat := 0x8000010 + n * 0x10000
def rLE_PROF_V (n : Nat) : Nat := 0x8000014 + n * 0x10000
def rLE_PROF_A (n : Nat) : Nat := 0x8000018 + n * 0x10000
def rLE_PROF_J (n : Nat) : Nat := 0x800001C + n * 0x10000
def rLE_FF (n : Nat) : Nat := 0x8000020 + n * 0x10000
def rLE_TAB_CFG (n : Nat) : Nat := 0x8000024 + n * 0x10000
def rLE_SHARE_CFG (n : Nat) : Nat := 0x8000028 + n * 0x10000
def rLE_DESC (n k : Nat) : Nat := 0x8000100 + n * 0x10000 + k * 4
def rLE_STATUS (n : Nat) : Nat := 0x8000300 + n * 0x10000
def rLE_SAT (n : Nat) : Nat := 0x8000304 + n * 0x10000
def rLE_EVENTS (n : Nat) : Nat := 0x8000308 + n * 0x10000
def rLE_CMD (n : Nat) : Nat := 0x800030C + n * 0x10000
def rLE_PROF_POS (n : Nat) : Nat := 0x8000310 + n * 0x10000
def rLE_PROF_VA (n : Nat) : Nat := 0x8000314 + n * 0x10000
def rLE_FB_POS (n : Nat) : Nat := 0x8000318 + n * 0x10000
def rLE_FB_SPD (n : Nat) : Nat := 0x800031C + n * 0x10000
def rLE_TORQUE (n : Nat) : Nat := 0x8000320 + n * 0x10000
def rLE_ITREF (n : Nat) : Nat := 0x8000324 + n * 0x10000
def rLE_LIM_OUT (n k : Nat) : Nat := 0x8000328 + n * 0x10000 + k * 4
def rLE_ACC_LO (n k : Nat) : Nat := 0x8000340 + n * 0x10000 + k * 8
def rLE_ACC_HI (n k : Nat) : Nat := 0x8000344 + n * 0x10000 + k * 8
def rLE_CNT_SAMPLES (n : Nat) : Nat := 0x8000380 + n * 0x10000
def rLE_CNT_HELD (n : Nat) : Nat := 0x8000384 + n * 0x10000
def rLE_CNT_REFUSED (n : Nat) : Nat := 0x8000388 + n * 0x10000
def rLE_CNT_TAB_LINE (n : Nat) : Nat := 0x800038C + n * 0x10000
def rLE_CNT_CLIP (n : Nat) : Nat := 0x8000390 + n * 0x10000
def rLE_TAB_FRIC_A (n k : Nat) : Nat := 0x8004000 + n * 0x10000 + k * 4
def rLE_TAB_FRIC_B (n k : Nat) : Nat := 0x8006000 + n * 0x10000 + k * 4
def rLE_TAB_COG_A (n k : Nat) : Nat := 0x8008000 + n * 0x10000 + k * 4
def rLE_TAB_COG_B (n k : Nat) : Nat := 0x800A000 + n * 0x10000 + k * 4
def rLE_PAR_CFG (n : Nat) : Nat := 0x8000400 + n * 0x10000
def rLE_PAR_TIMING (n : Nat) : Nat := 0x8000404 + n * 0x10000
def rLE_PAR_DROOP (n : Nat) : Nat := 0x8000408 + n * 0x10000
def rLE_PAR_STAGE (n : Nat) : Nat := 0x800040C + n * 0x10000
def rLE_PAR_TKO (n : Nat) : Nat := 0x8000410 + n * 0x10000
def rLE_PAR_MEMBER (n k : Nat) : Nat := 0x8000420 + n * 0x10000 + k * 4
def rLE_PAR_STATUS (n : Nat) : Nat := 0x8000440 + n * 0x10000
def rLE_PAR_GEN (n : Nat) : Nat := 0x8000444 + n * 0x10000
def rLE_PAR_ACTIVE (n : Nat) : Nat := 0x8000448 + n * 0x10000
def rLE_PAR_DIGEST (n : Nat) : Nat := 0x800044C + n * 0x10000
def rLE_PAR_EVENTS (n : Nat) : Nat := 0x8000450 + n * 0x10000
def rLE_PAR_CMD (n : Nat) : Nat := 0x8000454 + n * 0x10000
def rLE_PAR_CNT_ABORT (n : Nat) : Nat := 0x8000458 + n * 0x10000
def rLE_PAR_CNT_SHORT (n : Nat) : Nat := 0x800045C + n * 0x10000
def rLE_PAR_CNT_STALE (n : Nat) : Nat := 0x8000460 + n * 0x10000
def rLE_PAR_CAP (n k : Nat) : Nat := 0x8000480 + n * 0x10000 + k * 4
def rFP_CFG (n : Nat) : Nat := 0x9000000 + n * 0x10000
def rFP_STATUS (n : Nat) : Nat := 0x9000004 + n * 0x10000
def rFP_PC (n : Nat) : Nat := 0x9000008 + n * 0x10000
def rFP_FPSTAT (n : Nat) : Nat := 0x900000C + n * 0x10000
def rFP_GEN (n : Nat) : Nat := 0x9000010 + n * 0x10000
def rFP_TRAP (n : Nat) : Nat := 0x9000014 + n * 0x10000
def rFP_TRAP_PC (n : Nat) : Nat := 0x9000018 + n * 0x10000
def rFP_TRAP_ADDR (n : Nat) : Nat := 0x900001C + n * 0x10000
def rFP_HALT (n : Nat) : Nat := 0x9000020 + n * 0x10000
def rFP_SBX_CODE (n : Nat) : Nat := 0x9000024 + n * 0x10000
def rFP_SBX_DATA (n : Nat) : Nat := 0x9000028 + n * 0x10000
def rFP_SBX_QUEUE (n : Nat) : Nat := 0x900002C + n * 0x10000
def rFP_SBX_BUDGET (n : Nat) : Nat := 0x9000030 + n * 0x10000
def rFP_INBOX (n : Nat) : Nat := 0x9000034 + n * 0x10000
def rFP_LOAD (n : Nat) : Nat := 0x9000038 + n * 0x10000
def rFP_CNT_FWDSTALL (n : Nat) : Nat := 0x900003C + n * 0x10000
def rFP_CNT_TRAPS (n : Nat) : Nat := 0x9000040 + n * 0x10000
def rFP_CNT_ECC (n : Nat) : Nat := 0x9000044 + n * 0x10000
def rFP_CNT_INBOX_OVR (n : Nat) : Nat := 0x9000048 + n * 0x10000
def rFP_CNT_SBX (n : Nat) : Nat := 0x900004C + n * 0x10000
def rFP_EVENTS (n : Nat) : Nat := 0x9000050 + n * 0x10000
def rFP_CMD (n : Nat) : Nat := 0x9000054 + n * 0x10000
def rFP_PEEK_ADDR (n : Nat) : Nat := 0x9000060 + n * 0x10000
def rFP_PEEK_DATA (n : Nat) : Nat := 0x9000064 + n * 0x10000
def rFP_PEEK_STAT (n : Nat) : Nat := 0x9000068 + n * 0x10000
def rSI_STATUS : Nat := 0xA000000
def rSI_CFG : Nat := 0xA000004
def rSI_CFG_CRC : Nat := 0xA000008
def rSI_INPUTS : Nat := 0xA00000C
def rSI_PAIR_CFG : Nat := 0xA000010
def rSI_DISC_T : Nat := 0xA000014
def rSI_PAIR_STATUS : Nat := 0xA000018
def rSI_SF_CFG : Nat := 0xA00001C
def rSI_SF_ID : Nat := 0xA000020
def rSI_SF_CANID : Nat := 0xA000024
def rSI_SF_SEQ : Nat := 0xA000028
def rSI_CNT_CRC : Nat := 0xA00002C
def rSI_CNT_SEQ : Nat := 0xA000030
def rSI_CNT_MISMATCH : Nat := 0xA000034
def rSI_CNT_TS : Nat := 0xA000038
def rSI_CNT_RST_IGN : Nat := 0xA00003C
def rSI_GSE : Nat := 0xA000040
def rSI_SEN : Nat := 0xA000044
def rSI_CLOCK : Nat := 0xA000048
def rSI_CELL_CFG (k : Nat) : Nat := 0xA000100 + k * 64
def rSI_SS1_CFG (k : Nat) : Nat := 0xA000104 + k * 64
def rSI_SS1R_CFG (k : Nat) : Nat := 0xA000108 + k * 64
def rSI_SPD_CFG (k : Nat) : Nat := 0xA00010C + k * 64
def rSI_TQ_CFG (k : Nat) : Nat := 0xA000110 + k * 64
def rSI_TM_CFG (k : Nat) : Nat := 0xA000114 + k * 64
def rSI_TM_CFG2 (k : Nat) : Nat := 0xA000118 + k * 64
def rSI_CELL_STATUS (k : Nat) : Nat := 0xA00011C + k * 64
def rSI_SPEED (k : Nat) : Nat := 0xA000120 + k * 64
def rSI_TORQUE (k : Nat) : Nat := 0xA000124 + k * 64
def rSI_CNT_REACT (k : Nat) : Nat := 0xA000128 + k * 64
def rFLT_STATUS : Nat := 0xB000000
def rFLT_CFG : Nat := 0xB000004
def rFLT_RING_WR : Nat := 0xB000008
def rFLT_RING_FLUSH : Nat := 0xB00000C
def rFLT_CNT_LOST : Nat := 0xB000010
def rFLT_CNT_PERM : Nat := 0xB000014
def rFLT_CNT_TRANS : Nat := 0xB000018
def rFLT_CNT_OCCFULL : Nat := 0xB00001C
def rFLT_LAST : Nat := 0xB000020
def rFLT_CELL (k : Nat) : Nat := 0xB000024 + k * 4
def rFLT_SPARES : Nat := 0xB000040
def rFLT_EVENTS : Nat := 0xB000044
def rFLT_CMD : Nat := 0xB000048
def rFLT_BIV_TIME_LO : Nat := 0xB000050
def rFLT_BIV_TIME_HI : Nat := 0xB000054
def rCAN_CFG (n : Nat) : Nat := 0xC000000 + n * 0x10000
def rCAN_NBT (n : Nat) : Nat := 0xC000004 + n * 0x10000
def rCAN_DBT (n : Nat) : Nat := 0xC000008 + n * 0x10000
def rCAN_STATUS (n : Nat) : Nat := 0xC00000C + n * 0x10000
def rCAN_ERRCNT (n : Nat) : Nat := 0xC000010 + n * 0x10000
def rCAN_EVENTS (n : Nat) : Nat := 0xC000014 + n * 0x10000
def rCAN_CMD (n : Nat) : Nat := 0xC000018 + n * 0x10000
def rCAN_TXPEND (n k : Nat) : Nat := 0xC000020 + n * 0x10000 + k * 4
def rCAN_NDAT (n k : Nat) : Nat := 0xC000030 + n * 0x10000 + k * 4
def rCAN_CNT_RXOK (n : Nat) : Nat := 0xC000040 + n * 0x10000
def rCAN_CNT_TXOK (n : Nat) : Nat := 0xC000044 + n * 0x10000
def rCAN_CNT_ERR (n : Nat) : Nat := 0xC000048 + n * 0x10000
def rCAN_CNT_BOFF (n : Nat) : Nat := 0xC00004C + n * 0x10000
def rCAN_CNT_OVR (n : Nat) : Nat := 0xC000050 + n * 0x10000
def rCAN_CNT_STALE (n : Nat) : Nat := 0xC000054 + n * 0x10000
def rCAN_CNT_TXBUSY (n : Nat) : Nat := 0xC000058 + n * 0x10000
def rCAN_CNT_NOMATCH (n : Nat) : Nat := 0xC00005C + n * 0x10000
def rCAN_CNT_TTMISS (n : Nat) : Nat := 0xC000060 + n * 0x10000
def rCAN_TT_CFG (n : Nat) : Nat := 0xC000080 + n * 0x10000
def rCAN_TT_TIMING (n : Nat) : Nat := 0xC000084 + n * 0x10000
def rCAN_TT_STATUS (n : Nat) : Nat := 0xC000088 + n * 0x10000
def rCAN_TT_GTIME (n : Nat) : Nat := 0xC00008C + n * 0x10000
def rCAN_STS_CFG (n : Nat) : Nat := 0xC000090 + n * 0x10000
def rCAN_WUF_CFG (n : Nat) : Nat := 0xC000094 + n * 0x10000
def rCAN_WUF_ID (n : Nat) : Nat := 0xC000098 + n * 0x10000
def rCAN_WUF_MASK (n : Nat) : Nat := 0xC00009C + n * 0x10000
def rCAN_WUF_DATA (n k : Nat) : Nat := 0xC0000A0 + n * 0x10000 + k * 4
def rCAN_TRIG (n k : Nat) : Nat := 0xC000800 + n * 0x10000 + k * 4
def rCAN_MB_CFG (n k : Nat) : Nat := 0xC001000 + n * 0x10000 + k * 128
def rCAN_MB_ID (n k : Nat) : Nat := 0xC001004 + n * 0x10000 + k * 128
def rCAN_MB_MASK (n k : Nat) : Nat := 0xC001008 + n * 0x10000 + k * 128
def rCAN_MB_FWD (n k : Nat) : Nat := 0xC00100C + n * 0x10000 + k * 128
def rCAN_MB_STAT (n k : Nat) : Nat := 0xC001010 + n * 0x10000 + k * 128
def rCAN_MB_RXINFO (n k : Nat) : Nat := 0xC001014 + n * 0x10000 + k * 128
def rCAN_MB_RXID (n k : Nat) : Nat := 0xC001018 + n * 0x10000 + k * 128
def rCAN_MB_TIME_LO (n k : Nat) : Nat := 0xC00101C + n * 0x10000 + k * 128
def rCAN_MB_TIME_HI (n k : Nat) : Nat := 0xC001020 + n * 0x10000 + k * 128
def rCAN_MB_DATA (n k w : Nat) : Nat := 0xC001040 + n * 0x10000 + k * 128 + w * 4
def rAUX_CFG (n : Nat) : Nat := 0xD000000 + n * 0x10000
def rAUX_STATUS (n : Nat) : Nat := 0xD000004 + n * 0x10000
def rAUX_CURRENT (n : Nat) : Nat := 0xD000008 + n * 0x10000
def rAUX_DIAG_RESULT (n : Nat) : Nat := 0xD00000C + n * 0x10000
def rAUX_DIAG_PEER (n : Nat) : Nat := 0xD000010 + n * 0x10000
def rAUX_EVENTS (n : Nat) : Nat := 0xD000014 + n * 0x10000
def rAUX_CNT_ON (n : Nat) : Nat := 0xD000018 + n * 0x10000
def rHSF_CFG (n : Nat) : Nat := 0xD0C0000 + n * 0x10000
def rHSF_STATUS (n : Nat) : Nat := 0xD0C0004 + n * 0x10000
def rAUX_RETRY_CFG : Nat := 0xD100000
def rAUX_CMD : Nat := 0xD100004
def rAUX_CNT_REFUSED : Nat := 0xD100008
def rPCH_STATUS : Nat := 0xE000000
def rPCH_REFUSAL : Nat := 0xE000004
def rPCH_REFUSAL_ADDR : Nat := 0xE000008
def rPCH_IMAGE : Nat := 0xE00000C
def rPCH_BUILD_LO : Nat := 0xE000010
def rPCH_BUILD_HI : Nat := 0xE000014
def rPCH_PCC : Nat := 0xE000018
def rPCH_FLOORS : Nat := 0xE00001C
def rPCH_SLOTS : Nat := 0xE000020
def rPCH_KEY : Nat := 0xE000024
def rPCH_UID_LO : Nat := 0xE000028
def rPCH_UID_HI : Nat := 0xE00002C
def rPCH_TIME : Nat := 0xE000030
def rPCH_EVENTS : Nat := 0xE000034
def rPCH_CMD : Nat := 0xE000038
def rPCH_CNT_SP : Nat := 0xE00003C
def rPCH_CNT_SP_REF : Nat := 0xE000040
def rPCH_CNT_SP_LOST : Nat := 0xE000044
def rPCH_SPMAP (k : Nat) : Nat := 0xE001000 + k * 4
def rPCH_SP_AGE (k : Nat) : Nat := 0xE004000 + k * 4
def rPWR_STATUS : Nat := 0xF000000
def rPWR_WAKE : Nat := 0xF000004
def rPWR_CFG : Nat := 0xF000008
def rPWR_CMD : Nat := 0xF00000C
def rPWR_AUX24 : Nat := 0xF000010
def rPWR_EVENTS : Nat := 0xF000014
def rPWR_CNT_RESTART_IGN : Nat := 0xF000018
def rPWR_CNT_DOMFAIL : Nat := 0xF00001C
def rPWR_DOM_ON (k : Nat) : Nat := 0xF000020 + k * 4
def rPWR_DOM_FAIL (k : Nat) : Nat := 0xF000040 + k * 4
def rCLK_STATUS : Nat := 0xF010000
def rCLK_MGMT_DEV : Nat := 0xF010004
def rCLK_XTAL_DEV : Nat := 0xF010008
def rCLK_MGMT_TRIM : Nat := 0xF01000C
def rCLK_TCOMP : Nat := 0xF010010
def rCLK_CFG : Nat := 0xF010014
def rCLK_EVENTS : Nat := 0xF010018
def rCLK_CMD : Nat := 0xF01001C
def rCLK_CNT_UNLOCK : Nat := 0xF010020
def rCLK_TC_XTAL (k : Nat) : Nat := 0xF010100 + k * 4
def rCLK_TC_MGMT (k : Nat) : Nat := 0xF010140 + k * 4
def rHK_STATUS : Nat := 0x10000000
def rHK_CFG : Nat := 0x10000004
def rHK_DIE : Nat := 0x10000008
def rHK_TSD : Nat := 0x1000000C
def rHK_ROUND : Nat := 0x10000010
def rHK_EVENTS : Nat := 0x10000014
def rHK_CMD : Nat := 0x10000018
def rHK_CNT_OVERRUN : Nat := 0x1000001C
def rHK_CNT_TSD : Nat := 0x10000020
def rHK_THROTTLE (k : Nat) : Nat := 0x10000040 + k * 4
def rHK_TEMP_CFG (k : Nat) : Nat := 0x10000100 + k * 16
def rHK_TEMP_PAR (k : Nat) : Nat := 0x10000104 + k * 16
def rHK_TEMP_THR (k : Nat) : Nat := 0x10000108 + k * 16
def rHK_TEMP_VAL (k : Nat) : Nat := 0x1000010C + k * 16
def rHK_RAIL (k : Nat) : Nat := 0x10000200 + k * 4
def rMGT_STATUS : Nat := 0x11000000
def rMGT_CFG : Nat := 0x11000004
def rMGT_LOCKWR_CNT : Nat := 0x11000008
def rMGT_HEARTBEATS : Nat := 0x1100000C
def rMGT_LOG_HEAD : Nat := 0x11000010
def rMGT_UPD_OFFSET : Nat := 0x11000014
def rMGT_UPD_LEN : Nat := 0x11000018
def rMGT_TCORR_CAL_LO : Nat := 0x1100001C
def rMGT_TCORR_CAL_HI : Nat := 0x11000020
def rMGT_TCORR_TIME_LO : Nat := 0x11000024
def rMGT_TCORR_TIME_HI : Nat := 0x11000028
def rMGT_CNT_REQ : Nat := 0x1100002C
def rMGT_CNT_CELL_BAD : Nat := 0x11000030
def rMGT_CNT_FLUSH_FAIL : Nat := 0x11000034
def rMGT_EVENTS : Nat := 0x11000038
def rMGT_CMD : Nat := 0x1100003C

def fHAL_STATUS_MASTER : Fld := ⟨rHAL_STATUS, 31, 24⟩
def fHAL_STATUS_DEPTH : Fld := ⟨rHAL_STATUS, 23, 20⟩
def fHAL_STATUS_UPPORT : Fld := ⟨rHAL_STATUS, 19, 18⟩
def fHAL_STATUS_RUN_TIME_OK : Fld := ⟨rHAL_STATUS, 16, 16⟩
def fHAL_STATUS_OWN_BURGEE : Fld := ⟨rHAL_STATUS, 15, 8⟩
def fHAL_STATUS_TSTATE : Fld := ⟨rHAL_STATUS, 2, 0⟩
def fHAL_CFG_BURGEE : Fld := ⟨rHAL_CFG, 15, 8⟩
def fHAL_CFG_REF_IN_EN : Fld := ⟨rHAL_CFG, 2, 2⟩
def fHAL_CFG_STANDALONE : Fld := ⟨rHAL_CFG, 1, 1⟩
def fHAL_CFG_MASTER_ELIG : Fld := ⟨rHAL_CFG, 0, 0⟩
def fHAL_EVENTS_REF_LOST : Fld := ⟨rHAL_EVENTS, 9, 9⟩
def fHAL_EVENTS_DEPTH_EXCEEDED : Fld := ⟨rHAL_EVENTS, 8, 8⟩
def fHAL_EVENTS_EPOCH_WRAP : Fld := ⟨rHAL_EVENTS, 7, 7⟩
def fHAL_EVENTS_BURGEE_CONFLICT : Fld := ⟨rHAL_EVENTS, 6, 6⟩
def fHAL_EVENTS_FOREIGN : Fld := ⟨rHAL_EVENTS, 5, 5⟩
def fHAL_EVENTS_DIVERGED : Fld := ⟨rHAL_EVENTS, 4, 4⟩
def fHAL_EVENTS_MERGE : Fld := ⟨rHAL_EVENTS, 3, 3⟩
def fHAL_EVENTS_FAILOVER : Fld := ⟨rHAL_EVENTS, 2, 2⟩
def fHAL_EVENTS_HOLDOVER_ENTRY : Fld := ⟨rHAL_EVENTS, 1, 1⟩
def fHAL_EVENTS_UNLOCK : Fld := ⟨rHAL_EVENTS, 0, 0⟩
def fHAL_REF_STATUS_REF_LOCKED : Fld := ⟨rHAL_REF_STATUS, 2, 2⟩
def fHAL_REF_STATUS_PPS_PRESENT : Fld := ⟨rHAL_REF_STATUS, 1, 1⟩
def fHAL_REF_STATUS_REF10_PRESENT : Fld := ⟨rHAL_REF_STATUS, 0, 0⟩
def fHAL_PORT_STATE_PEER (n : Nat) : Fld := ⟨rHAL_PORT_STATE n, 31, 24⟩
def fHAL_PORT_STATE_RETRAINS (n : Nat) : Fld := ⟨rHAL_PORT_STATE n, 23, 20⟩
def fHAL_PORT_STATE_MEDIA (n : Nat) : Fld := ⟨rHAL_PORT_STATE n, 7, 4⟩
def fHAL_PORT_STATE_PSTATE (n : Nat) : Fld := ⟨rHAL_PORT_STATE n, 3, 0⟩
def fHAL_PORT_CFG_CABLE_M (n : Nat) : Fld := ⟨rHAL_PORT_CFG n, 15, 8⟩
def fHAL_PORT_CFG_MEDIA_EXP (n : Nat) : Fld := ⟨rHAL_PORT_CFG n, 2, 1⟩
def fHAL_PORT_CFG_ENABLE (n : Nat) : Fld := ⟨rHAL_PORT_CFG n, 0, 0⟩
def fHAL_PORT_ASYM_ASYM (n : Nat) : Fld := ⟨rHAL_PORT_ASYM n, 31, 0⟩
def fHAL_SFP_INFO_TEMP (n : Nat) : Fld := ⟨rHAL_SFP_INFO n, 31, 16⟩
def fHAL_SFP_INFO_IDENT (n : Nat) : Fld := ⟨rHAL_SFP_INFO n, 7, 0⟩
def fHAL_PORT_EVENTS_DELAY_MISMATCH (n : Nat) : Fld := ⟨rHAL_PORT_EVENTS n, 7, 7⟩
def fHAL_PORT_EVENTS_SFP_FAULT (n : Nat) : Fld := ⟨rHAL_PORT_EVENTS n, 6, 6⟩
def fHAL_PORT_EVENTS_PROVE_FAIL (n : Nat) : Fld := ⟨rHAL_PORT_EVENTS n, 5, 5⟩
def fHAL_PORT_EVENTS_PEER_NEW (n : Nat) : Fld := ⟨rHAL_PORT_EVENTS n, 4, 4⟩
def fHAL_PORT_EVENTS_UNCORR (n : Nat) : Fld := ⟨rHAL_PORT_EVENTS n, 3, 3⟩
def fHAL_PORT_EVENTS_RETIRED (n : Nat) : Fld := ⟨rHAL_PORT_EVENTS n, 2, 2⟩
def fHAL_PORT_EVENTS_RETRAIN (n : Nat) : Fld := ⟨rHAL_PORT_EVENTS n, 1, 1⟩
def fHAL_PORT_EVENTS_DOWN (n : Nat) : Fld := ⟨rHAL_PORT_EVENTS n, 0, 0⟩
def fHQ_CFG_SYS_RSV : Fld := ⟨rHQ_CFG, 19, 12⟩
def fHQ_CFG_GUARD : Fld := ⟨rHQ_CFG, 11, 0⟩
def fHQ_STATUS_POOL_EMPTY : Fld := ⟨rHQ_STATUS, 17, 17⟩
def fHQ_STATUS_POOL_LOW : Fld := ⟨rHQ_STATUS, 16, 16⟩
def fHQ_STATUS_GROUPS : Fld := ⟨rHQ_STATUS, 8, 0⟩
def fHQ_EVENTS_UNMAPPED : Fld := ⟨rHQ_EVENTS, 8, 8⟩
def fHQ_EVENTS_MALFORMED : Fld := ⟨rHQ_EVENTS, 7, 7⟩
def fHQ_EVENTS_GROUP_FULL : Fld := ⟨rHQ_EVENTS, 6, 6⟩
def fHQ_EVENTS_SPLIT : Fld := ⟨rHQ_EVENTS, 5, 5⟩
def fHQ_EVENTS_ABORT : Fld := ⟨rHQ_EVENTS, 4, 4⟩
def fHQ_EVENTS_STALE : Fld := ⟨rHQ_EVENTS, 3, 3⟩
def fHQ_EVENTS_LATE_DISC : Fld := ⟨rHQ_EVENTS, 2, 2⟩
def fHQ_EVENTS_POOL_EMPTY : Fld := ⟨rHQ_EVENTS, 1, 1⟩
def fHQ_EVENTS_POOL_LOW : Fld := ⟨rHQ_EVENTS, 0, 0⟩
def fHQ_LAST_DISCARD_REASON : Fld := ⟨rHQ_LAST_DISCARD, 31, 28⟩
def fHQ_LAST_DISCARD_SRC : Fld := ⟨rHQ_LAST_DISCARD, 23, 16⟩
def fHQ_LAST_DISCARD_QUEUE : Fld := ⟨rHQ_LAST_DISCARD, 15, 0⟩
def fSNS_DEC_CFG_INPUT (n : Nat) : Fld := ⟨rSNS_DEC_CFG n, 21, 16⟩
def fSNS_DEC_CFG_ORDER (n : Nat) : Fld := ⟨rSNS_DEC_CFG n, 10, 8⟩
def fSNS_DEC_CFG_OSR_LOG (n : Nat) : Fld := ⟨rSNS_DEC_CFG n, 3, 0⟩
def fSNS_DEC_SCALE_GAIN (n : Nat) : Fld := ⟨rSNS_DEC_SCALE n, 31, 16⟩
def fSNS_DEC_SCALE_OFFSET (n : Nat) : Fld := ⟨rSNS_DEC_SCALE n, 15, 0⟩
def fSNS_DEC_STATUS_STATE (n : Nat) : Fld := ⟨rSNS_DEC_STATUS n, 18, 16⟩
def fSNS_DEC_STATUS_SETTLE_REM (n : Nat) : Fld := ⟨rSNS_DEC_STATUS n, 2, 0⟩
def fSNS_SAR_CFG_TACQ_MIN (n : Nat) : Fld := ⟨rSNS_SAR_CFG n, 15, 8⟩
def fSNS_SAR_CFG_CAL_EN (n : Nat) : Fld := ⟨rSNS_SAR_CFG n, 0, 0⟩
def fSNS_SAR_STATE_RETIRED (n : Nat) : Fld := ⟨rSNS_SAR_STATE n, 14, 14⟩
def fSNS_SAR_STATE_CAL_ACTIVE (n : Nat) : Fld := ⟨rSNS_SAR_STATE n, 13, 13⟩
def fSNS_SAR_STATE_BUSY (n : Nat) : Fld := ⟨rSNS_SAR_STATE n, 12, 12⟩
def fSNS_SAR_STATE_GAIN (n : Nat) : Fld := ⟨rSNS_SAR_STATE n, 10, 8⟩
def fSNS_SAR_STATE_CHAN (n : Nat) : Fld := ⟨rSNS_SAR_STATE n, 4, 0⟩
def fSNS_SAR_SEQ_VALID (n k : Nat) : Fld := ⟨rSNS_SAR_SEQ n k, 31, 31⟩
def fSNS_SAR_SEQ_GAIN (n k : Nat) : Fld := ⟨rSNS_SAR_SEQ n k, 10, 8⟩
def fSNS_SAR_SEQ_CHAN (n k : Nat) : Fld := ⟨rSNS_SAR_SEQ n k, 4, 0⟩
def fSNS_GROUP_CFG_FREQ (k : Nat) : Fld := ⟨rSNS_GROUP_CFG k, 15, 8⟩
def fSNS_GROUP_CFG_SAMPLE_DLY (k : Nat) : Fld := ⟨rSNS_GROUP_CFG k, 7, 4⟩
def fSNS_GROUP_CFG_CODING (k : Nat) : Fld := ⟨rSNS_GROUP_CFG k, 1, 1⟩
def fSNS_GROUP_CFG_ENABLE (k : Nat) : Fld := ⟨rSNS_GROUP_CFG k, 0, 0⟩
def fSNS_CFG_ROT_PERIOD : Fld := ⟨rSNS_CFG, 15, 0⟩
def fSNS_EVENTS_VON_FAIL : Fld := ⟨rSNS_EVENTS, 12, 12⟩
def fSNS_EVENTS_SAR_RETIRED : Fld := ⟨rSNS_EVENTS, 11, 11⟩
def fSNS_EVENTS_SAR_CAL_ABORT : Fld := ⟨rSNS_EVENTS, 10, 10⟩
def fSNS_EVENTS_REF_DEGRADED : Fld := ⟨rSNS_EVENTS, 9, 9⟩
def fSNS_EVENTS_REF_RETIRED : Fld := ⟨rSNS_EVENTS, 8, 8⟩
def fSNS_EVENTS_REF_SWITCH : Fld := ⟨rSNS_EVENTS, 7, 7⟩
def fSNS_EVENTS_REF_WARN : Fld := ⟨rSNS_EVENTS, 6, 6⟩
def fSNS_EVENTS_WIN_FAIL : Fld := ⟨rSNS_EVENTS, 5, 5⟩
def fSNS_EVENTS_INPUT_RETIRED : Fld := ⟨rSNS_EVENTS, 4, 4⟩
def fSNS_EVENTS_DEC_RETIRED : Fld := ⟨rSNS_EVENTS, 3, 3⟩
def fSNS_EVENTS_DEC_SWAP : Fld := ⟨rSNS_EVENTS, 2, 2⟩
def fSNS_EVENTS_CODING_ERR : Fld := ⟨rSNS_EVENTS, 1, 1⟩
def fSNS_EVENTS_SD_LOST : Fld := ⟨rSNS_EVENTS, 0, 0⟩
def fSNS_SPARES_ROT_NEXT : Fld := ⟨rSNS_SPARES, 31, 24⟩
def fSNS_SPARES_TEST_SUSPENDED : Fld := ⟨rSNS_SPARES, 16, 16⟩
def fSNS_SPARES_RETIRED : Fld := ⟨rSNS_SPARES, 15, 8⟩
def fSNS_SPARES_SPARES : Fld := ⟨rSNS_SPARES, 7, 0⟩
def fSNS_REF_STATUS_B_ON_A : Fld := ⟨rSNS_REF_STATUS, 6, 6⟩
def fSNS_REF_STATUS_A_ON_B : Fld := ⟨rSNS_REF_STATUS, 5, 5⟩
def fSNS_REF_STATUS_DEGRADED : Fld := ⟨rSNS_REF_STATUS, 4, 4⟩
def fSNS_REF_STATUS_B_STATE : Fld := ⟨rSNS_REF_STATUS, 3, 2⟩
def fSNS_REF_STATUS_A_STATE : Fld := ⟨rSNS_REF_STATUS, 1, 0⟩
def fSNS_REF_DEV_B : Fld := ⟨rSNS_REF_DEV, 31, 16⟩
def fSNS_REF_DEV_A : Fld := ⟨rSNS_REF_DEV, 15, 0⟩
def fSNS_REF_TRIM_B : Fld := ⟨rSNS_REF_TRIM, 31, 16⟩
def fSNS_REF_TRIM_A : Fld := ⟨rSNS_REF_TRIM, 15, 0⟩
def fSNS_SD_CFG_CELL (k : Nat) : Fld := ⟨rSNS_SD_CFG k, 13, 12⟩
def fSNS_SD_CFG_PHASE (k : Nat) : Fld := ⟨rSNS_SD_CFG k, 10, 8⟩
def fSNS_SD_CFG_ROLE (k : Nat) : Fld := ⟨rSNS_SD_CFG k, 6, 4⟩
def fSNS_SD_CFG_FAST_OSR (k : Nat) : Fld := ⟨rSNS_SD_CFG k, 1, 1⟩
def fSNS_SD_CFG_ENABLE (k : Nat) : Fld := ⟨rSNS_SD_CFG k, 0, 0⟩
def fSNS_SD_STATUS_CODING_ERRS (k : Nat) : Fld := ⟨rSNS_SD_STATUS k, 31, 16⟩
def fSNS_SD_STATUS_RETIRED (k : Nat) : Fld := ⟨rSNS_SD_STATUS k, 2, 2⟩
def fSNS_SD_STATUS_LOST (k : Nat) : Fld := ⟨rSNS_SD_STATUS k, 1, 1⟩
def fSNS_SD_STATUS_ACTIVE (k : Nat) : Fld := ⟨rSNS_SD_STATUS k, 0, 0⟩
def fSNS_WIN_LIM_HI (k : Nat) : Fld := ⟨rSNS_WIN_LIM k, 31, 16⟩
def fSNS_WIN_LIM_LO (k : Nat) : Fld := ⟨rSNS_WIN_LIM k, 15, 0⟩
def fSNS_WIN_CFG_QUAL (k : Nat) : Fld := ⟨rSNS_WIN_CFG k, 3, 2⟩
def fSNS_WIN_CFG_ACTION (k : Nat) : Fld := ⟨rSNS_WIN_CFG k, 1, 1⟩
def fSNS_WIN_CFG_ENABLE (k : Nat) : Fld := ⟨rSNS_WIN_CFG k, 0, 0⟩
def fSNS_WIN_STATUS_TRIPS (k : Nat) : Fld := ⟨rSNS_WIN_STATUS k, 31, 16⟩
def fSNS_WIN_STATUS_B_RETIRED (k : Nat) : Fld := ⟨rSNS_WIN_STATUS k, 4, 4⟩
def fSNS_WIN_STATUS_A_RETIRED (k : Nat) : Fld := ⟨rSNS_WIN_STATUS k, 3, 3⟩
def fSNS_WIN_STATUS_B_TEST (k : Nat) : Fld := ⟨rSNS_WIN_STATUS k, 2, 2⟩
def fSNS_WIN_STATUS_A_TEST (k : Nat) : Fld := ⟨rSNS_WIN_STATUS k, 1, 1⟩
def fSNS_WIN_STATUS_OUT (k : Nat) : Fld := ⟨rSNS_WIN_STATUS k, 0, 0⟩
def fSNS_AN_CFG_PHASE (k : Nat) : Fld := ⟨rSNS_AN_CFG k, 10, 8⟩
def fSNS_AN_CFG_CELL (k : Nat) : Fld := ⟨rSNS_AN_CFG k, 5, 4⟩
def fSNS_AN_CFG_ROLE (k : Nat) : Fld := ⟨rSNS_AN_CFG k, 2, 0⟩
def fSNS_AN_SCALE_GAIN (k : Nat) : Fld := ⟨rSNS_AN_SCALE k, 31, 16⟩
def fSNS_AN_SCALE_OFFSET (k : Nat) : Fld := ⟨rSNS_AN_SCALE k, 15, 0⟩
def fSNS_VON_CFG_BLANK (k : Nat) : Fld := ⟨rSNS_VON_CFG k, 15, 8⟩
def fSNS_VON_CFG_ENABLE (k : Nat) : Fld := ⟨rSNS_VON_CFG k, 0, 0⟩
def fPOS_HALL_CFG_INV_LIMIT (n : Nat) : Fld := ⟨rPOS_HALL_CFG n, 31, 24⟩
def fPOS_HALL_CFG_FILT_N (n : Nat) : Fld := ⟨rPOS_HALL_CFG n, 23, 16⟩
def fPOS_HALL_CFG_CELL (n : Nat) : Fld := ⟨rPOS_HALL_CFG n, 5, 4⟩
def fPOS_HALL_CFG_DIR_INV (n : Nat) : Fld := ⟨rPOS_HALL_CFG n, 1, 1⟩
def fPOS_HALL_CFG_ENABLE (n : Nat) : Fld := ⟨rPOS_HALL_CFG n, 0, 0⟩
def fPOS_HALL_MAP_MAP (n : Nat) : Fld := ⟨rPOS_HALL_MAP n, 17, 0⟩
def fPOS_SPD_CFG_COUNTS_REV (n : Nat) : Fld := ⟨rPOS_SPD_CFG n, 27, 16⟩
def fPOS_SPD_CFG_SPD_TMO (n : Nat) : Fld := ⟨rPOS_SPD_CFG n, 15, 0⟩
def fPOS_SPD_BASE_BASE (n : Nat) : Fld := ⟨rPOS_SPD_BASE n, 19, 0⟩
def fPOS_HALL_STATUS_STATE (n : Nat) : Fld := ⟨rPOS_HALL_STATUS n, 18, 16⟩
def fPOS_HALL_STATUS_STANDSTILL (n : Nat) : Fld := ⟨rPOS_HALL_STATUS n, 13, 13⟩
def fPOS_HALL_STATUS_REVERSE (n : Nat) : Fld := ⟨rPOS_HALL_STATUS n, 12, 12⟩
def fPOS_HALL_STATUS_VALID (n : Nat) : Fld := ⟨rPOS_HALL_STATUS n, 11, 11⟩
def fPOS_HALL_STATUS_SECTOR (n : Nat) : Fld := ⟨rPOS_HALL_STATUS n, 10, 8⟩
def fPOS_HALL_STATUS_FILT_ABC (n : Nat) : Fld := ⟨rPOS_HALL_STATUS n, 6, 4⟩
def fPOS_HALL_STATUS_SYNC_ABC (n : Nat) : Fld := ⟨rPOS_HALL_STATUS n, 2, 0⟩
def fPOS_SPEED_WR (n : Nat) : Fld := ⟨rPOS_SPEED n, 31, 16⟩
def fPOS_SPEED_WE (n : Nat) : Fld := ⟨rPOS_SPEED n, 15, 0⟩
def fPOS_EVENTS_CHATTER (n : Nat) : Fld := ⟨rPOS_EVENTS n, 4, 4⟩
def fPOS_EVENTS_DRIFT (n : Nat) : Fld := ⟨rPOS_EVENTS n, 3, 3⟩
def fPOS_EVENTS_SKIP (n : Nat) : Fld := ⟨rPOS_EVENTS n, 2, 2⟩
def fPOS_EVENTS_FAILED (n : Nat) : Fld := ⟨rPOS_EVENTS n, 1, 1⟩
def fPOS_EVENTS_IMPOSSIBLE (n : Nat) : Fld := ⟨rPOS_EVENTS n, 0, 0⟩
def fPOS_IDX_CFG_DRIFT_TOL (k : Nat) : Fld := ⟨rPOS_IDX_CFG k, 31, 24⟩
def fPOS_IDX_CFG_FILT_N (k : Nat) : Fld := ⟨rPOS_IDX_CFG k, 23, 16⟩
def fPOS_IDX_CFG_TRIPLET (k : Nat) : Fld := ⟨rPOS_IDX_CFG k, 6, 4⟩
def fPOS_IDX_CFG_POL (k : Nat) : Fld := ⟨rPOS_IDX_CFG k, 1, 1⟩
def fPOS_IDX_CFG_ENABLE (k : Nat) : Fld := ⟨rPOS_IDX_CFG k, 0, 0⟩
def fPOS_IDX_DRIFT_EVTS (k : Nat) : Fld := ⟨rPOS_IDX_DRIFT k, 31, 16⟩
def fPOS_IDX_DRIFT_D (k : Nat) : Fld := ⟨rPOS_IDX_DRIFT k, 15, 0⟩
def fPOS_PRB_CFG_DEST_Q (k : Nat) : Fld := ⟨rPOS_PRB_CFG k, 31, 16⟩
def fPOS_PRB_CFG_FILT_N (k : Nat) : Fld := ⟨rPOS_PRB_CFG k, 15, 8⟩
def fPOS_PRB_CFG_TRIPLET (k : Nat) : Fld := ⟨rPOS_PRB_CFG k, 6, 4⟩
def fPOS_PRB_CFG_POL (k : Nat) : Fld := ⟨rPOS_PRB_CFG k, 2, 1⟩
def fPOS_PRB_CFG_ENABLE (k : Nat) : Fld := ⟨rPOS_PRB_CFG k, 0, 0⟩
def fPOS_PRB_STATUS_SEQ (k : Nat) : Fld := ⟨rPOS_PRB_STATUS k, 15, 0⟩
def fPOS_HPT_SRC_INDEX (k : Nat) : Fld := ⟨rPOS_HPT_SRC k, 15, 8⟩
def fPOS_HPT_SRC_TRIPLET (k : Nat) : Fld := ⟨rPOS_HPT_SRC k, 7, 0⟩
def fEDG_CAR_CFG_OFFSET (n : Nat) : Fld := ⟨rEDG_CAR_CFG n, 31, 16⟩
def fEDG_CAR_CFG_SHAPE (n : Nat) : Fld := ⟨rEDG_CAR_CFG n, 1, 1⟩
def fEDG_CAR_CFG_ENABLE (n : Nat) : Fld := ⟨rEDG_CAR_CFG n, 0, 0⟩
def fEDG_CAR_PERIOD_P (n : Nat) : Fld := ⟨rEDG_CAR_PERIOD n, 31, 0⟩
def fEDG_CAR_STATUS_ST (n : Nat) : Fld := ⟨rEDG_CAR_STATUS n, 1, 0⟩
def fEDG_EO_STATUS_RETIRED (n : Nat) : Fld := ⟨rEDG_EO_STATUS n, 5, 5⟩
def fEDG_EO_STATUS_SINGLE (n : Nat) : Fld := ⟨rEDG_EO_STATUS n, 4, 4⟩
def fEDG_EO_STATUS_L1_RETIRED (n : Nat) : Fld := ⟨rEDG_EO_STATUS n, 3, 3⟩
def fEDG_EO_STATUS_L0_RETIRED (n : Nat) : Fld := ⟨rEDG_EO_STATUS n, 2, 2⟩
def fEDG_EO_STATUS_SERVING (n : Nat) : Fld := ⟨rEDG_EO_STATUS n, 1, 1⟩
def fEDG_EO_STATUS_LEVEL (n : Nat) : Fld := ⟨rEDG_EO_STATUS n, 0, 0⟩
def fEDG_EO_CAL_L1 (n : Nat) : Fld := ⟨rEDG_EO_CAL n, 31, 24⟩
def fEDG_EO_CAL_L0 (n : Nat) : Fld := ⟨rEDG_EO_CAL n, 23, 16⟩
def fEDG_CFG_T3L_INNER : Fld := ⟨rEDG_CFG, 23, 8⟩
def fEDG_CFG_CBC_K : Fld := ⟨rEDG_CFG, 7, 0⟩
def fEDG_RETRY_CFG_TRIES : Fld := ⟨rEDG_RETRY_CFG, 19, 16⟩
def fEDG_RETRY_CFG_WAIT : Fld := ⟨rEDG_RETRY_CFG, 9, 0⟩
def fEDG_TRIPPIN_CFG_QUAL0 : Fld := ⟨rEDG_TRIPPIN_CFG, 4, 3⟩
def fEDG_TRIPPIN_CFG_QUAL1 : Fld := ⟨rEDG_TRIPPIN_CFG, 12, 11⟩
def fEDG_TRIPPIN_CFG_QUAL2 : Fld := ⟨rEDG_TRIPPIN_CFG, 20, 19⟩
def fEDG_TRIPPIN_CFG_QUAL3 : Fld := ⟨rEDG_TRIPPIN_CFG, 28, 27⟩
def fEDG_TRIPPIN_CFG_ACTION0 : Fld := ⟨rEDG_TRIPPIN_CFG, 2, 2⟩
def fEDG_TRIPPIN_CFG_ACTION1 : Fld := ⟨rEDG_TRIPPIN_CFG, 10, 10⟩
def fEDG_TRIPPIN_CFG_ACTION2 : Fld := ⟨rEDG_TRIPPIN_CFG, 18, 18⟩
def fEDG_TRIPPIN_CFG_ACTION3 : Fld := ⟨rEDG_TRIPPIN_CFG, 26, 26⟩
def fEDG_TRIPPIN_CFG_POL0 : Fld := ⟨rEDG_TRIPPIN_CFG, 1, 1⟩
def fEDG_TRIPPIN_CFG_POL1 : Fld := ⟨rEDG_TRIPPIN_CFG, 9, 9⟩
def fEDG_TRIPPIN_CFG_POL2 : Fld := ⟨rEDG_TRIPPIN_CFG, 17, 17⟩
def fEDG_TRIPPIN_CFG_POL3 : Fld := ⟨rEDG_TRIPPIN_CFG, 25, 25⟩
def fEDG_TRIPPIN_CFG_ENABLE0 : Fld := ⟨rEDG_TRIPPIN_CFG, 0, 0⟩
def fEDG_TRIPPIN_CFG_ENABLE1 : Fld := ⟨rEDG_TRIPPIN_CFG, 8, 8⟩
def fEDG_TRIPPIN_CFG_ENABLE2 : Fld := ⟨rEDG_TRIPPIN_CFG, 16, 16⟩
def fEDG_TRIPPIN_CFG_ENABLE3 : Fld := ⟨rEDG_TRIPPIN_CFG, 24, 24⟩
def fEDG_TRIPPIN_STATUS_ACT : Fld := ⟨rEDG_TRIPPIN_STATUS, 3, 0⟩
def fEDG_EVENTS_MERGED : Fld := ⟨rEDG_EVENTS, 7, 7⟩
def fEDG_EVENTS_SWAP_SKIP : Fld := ⟨rEDG_EVENTS, 6, 6⟩
def fEDG_EVENTS_LINE_RETIRED : Fld := ⟨rEDG_EVENTS, 5, 5⟩
def fEDG_EVENTS_LEG_RETIRED : Fld := ⟨rEDG_EVENTS, 4, 4⟩
def fEDG_EVENTS_LATCHED : Fld := ⟨rEDG_EVENTS, 3, 3⟩
def fEDG_EVENTS_CUT : Fld := ⟨rEDG_EVENTS, 2, 2⟩
def fEDG_EVENTS_FORBIDDEN : Fld := ⟨rEDG_EVENTS, 1, 1⟩
def fEDG_EVENTS_CONFLICT : Fld := ⟨rEDG_EVENTS, 0, 0⟩
def fEDG_LEG_CFG_CBC_PERIOD (k : Nat) : Fld := ⟨rEDG_LEG_CFG k, 31, 24⟩
def fEDG_LEG_CFG_BASE (k : Nat) : Fld := ⟨rEDG_LEG_CFG k, 20, 16⟩
def fEDG_LEG_CFG_CAR_EN (k : Nat) : Fld := ⟨rEDG_LEG_CFG k, 11, 11⟩
def fEDG_LEG_CFG_CAR (k : Nat) : Fld := ⟨rEDG_LEG_CFG k, 10, 8⟩
def fEDG_LEG_CFG_CELL (k : Nat) : Fld := ⟨rEDG_LEG_CFG k, 5, 4⟩
def fEDG_LEG_CFG_TYPE (k : Nat) : Fld := ⟨rEDG_LEG_CFG k, 2, 0⟩
def fEDG_LEG_DTA_DT_UP (k : Nat) : Fld := ⟨rEDG_LEG_DTA k, 31, 16⟩
def fEDG_LEG_DTA_DT_DN (k : Nat) : Fld := ⟨rEDG_LEG_DTA k, 15, 0⟩
def fEDG_LEG_DTB_DT_UP (k : Nat) : Fld := ⟨rEDG_LEG_DTB k, 31, 16⟩
def fEDG_LEG_DTB_DT_DN (k : Nat) : Fld := ⟨rEDG_LEG_DTB k, 15, 0⟩
def fEDG_LEG_STATUS_TSTATE (k : Nat) : Fld := ⟨rEDG_LEG_STATUS k, 29, 28⟩
def fEDG_LEG_STATUS_OUT (k : Nat) : Fld := ⟨rEDG_LEG_STATUS k, 27, 24⟩
def fEDG_LEG_STATUS_TARGET (k : Nat) : Fld := ⟨rEDG_LEG_STATUS k, 23, 20⟩
def fEDG_LEG_STATUS_TRIP_ACTIVE (k : Nat) : Fld := ⟨rEDG_LEG_STATUS k, 19, 19⟩
def fEDG_LEG_STATUS_LEG_CONFLICT (k : Nat) : Fld := ⟨rEDG_LEG_STATUS k, 18, 18⟩
def fEDG_LEG_STATUS_DT_CLAMPED (k : Nat) : Fld := ⟨rEDG_LEG_STATUS k, 17, 17⟩
def fEDG_LEG_STATUS_CLEARS (k : Nat) : Fld := ⟨rEDG_LEG_STATUS k, 11, 8⟩
def fEDG_LEG_STATUS_HELD (k : Nat) : Fld := ⟨rEDG_LEG_STATUS k, 7, 0⟩
def fEDG_TRIP_MASK_LEGS (k : Nat) : Fld := ⟨rEDG_TRIP_MASK k, 11, 0⟩
def fGD_CFG_VNEG_CODE (n : Nat) : Fld := ⟨rGD_CFG n, 27, 24⟩
def fGD_CFG_VPOS_CODE (n : Nat) : Fld := ⟨rGD_CFG n, 23, 20⟩
def fGD_CFG_DESAT_LOCAL (n : Nat) : Fld := ⟨rGD_CFG n, 15, 15⟩
def fGD_CFG_DESAT_SCOPE (n : Nat) : Fld := ⟨rGD_CFG n, 14, 14⟩
def fGD_CFG_DESAT_EN (n : Nat) : Fld := ⟨rGD_CFG n, 13, 13⟩
def fGD_CFG_VGMON_EN (n : Nat) : Fld := ⟨rGD_CFG n, 12, 12⟩
def fGD_CFG_OFF_MODE (n : Nat) : Fld := ⟨rGD_CFG n, 9, 9⟩
def fGD_CFG_ON_MODE (n : Nat) : Fld := ⟨rGD_CFG n, 8, 8⟩
def fGD_CFG_OWNED (n : Nat) : Fld := ⟨rGD_CFG n, 0, 0⟩
def fGD_PROF_ON_PRE_TH (n : Nat) : Fld := ⟨rGD_PROF_ON n, 31, 24⟩
def fGD_PROF_ON_HOLD_TH (n : Nat) : Fld := ⟨rGD_PROF_ON n, 23, 16⟩
def fGD_PROF_ON_I_SLOPE (n : Nat) : Fld := ⟨rGD_PROF_ON n, 13, 8⟩
def fGD_PROF_ON_PLAT_TMAX (n : Nat) : Fld := ⟨rGD_PROF_ON n, 7, 0⟩
def fGD_PROF_OFF_PRE_TH (n : Nat) : Fld := ⟨rGD_PROF_OFF n, 31, 24⟩
def fGD_PROF_OFF_HOLD_TH (n : Nat) : Fld := ⟨rGD_PROF_OFF n, 23, 16⟩
def fGD_PROF_OFF_I_SLOPE (n : Nat) : Fld := ⟨rGD_PROF_OFF n, 13, 8⟩
def fGD_PROF_OFF_PLAT_TMAX (n : Nat) : Fld := ⟨rGD_PROF_OFF n, 7, 0⟩
def fGD_DESAT_DESAT_TH (n : Nat) : Fld := ⟨rGD_DESAT n, 31, 26⟩
def fGD_DESAT_BLANK (n : Nat) : Fld := ⟨rGD_DESAT n, 23, 16⟩
def fGD_DESAT_SOFT_I (n : Nat) : Fld := ⟨rGD_DESAT n, 15, 10⟩
def fGD_DESAT_SOFT_TMAX (n : Nat) : Fld := ⟨rGD_DESAT n, 7, 0⟩
def fGD_VGMON_VG_ON_TH (n : Nat) : Fld := ⟨rGD_VGMON n, 31, 24⟩
def fGD_VGMON_VG_OFF_TH (n : Nat) : Fld := ⟨rGD_VGMON n, 23, 16⟩
def fGD_VGMON_SOFT_END (n : Nat) : Fld := ⟨rGD_VGMON n, 15, 8⟩
def fGD_VGMON_VG_TMO (n : Nat) : Fld := ⟨rGD_VGMON n, 7, 0⟩
def fGD_ENVELOPE_QG (n : Nat) : Fld := ⟨rGD_ENVELOPE n, 31, 16⟩
def fGD_ENVELOPE_FSW_MAX (n : Nat) : Fld := ⟨rGD_ENVELOPE n, 15, 0⟩
def fGD_DIAG_CFG_RGE (n : Nat) : Fld := ⟨rGD_DIAG_CFG n, 7, 0⟩
def fGD_STATUS_STATE (n : Nat) : Fld := ⟨rGD_STATUS n, 27, 24⟩
def fGD_STATUS_CAUSE (n : Nat) : Fld := ⟨rGD_STATUS n, 23, 20⟩
def fGD_STATUS_TRIES (n : Nat) : Fld := ⟨rGD_STATUS n, 19, 16⟩
def fGD_STATUS_SOFT_ACTIVE (n : Nat) : Fld := ⟨rGD_STATUS n, 7, 7⟩
def fGD_STATUS_SUPPLY_READY (n : Nat) : Fld := ⟨rGD_STATUS n, 6, 6⟩
def fGD_STATUS_SAFE_OFF (n : Nat) : Fld := ⟨rGD_STATUS n, 5, 5⟩
def fGD_STATUS_GATE_ON (n : Nat) : Fld := ⟨rGD_STATUS n, 4, 4⟩
def fGD_STATUS_CMD_LEVEL (n : Nat) : Fld := ⟨rGD_STATUS n, 3, 3⟩
def fGD_DIAG_RESULT_V1 (n : Nat) : Fld := ⟨rGD_DIAG_RESULT n, 31, 20⟩
def fGD_DIAG_RESULT_V2 (n : Nat) : Fld := ⟨rGD_DIAG_RESULT n, 19, 8⟩
def fGD_DIAG_RESULT_VERDICT (n : Nat) : Fld := ⟨rGD_DIAG_RESULT n, 3, 0⟩
def fGD_OWN_GEN (n : Nat) : Fld := ⟨rGD_OWN n, 31, 16⟩
def fGD_OWN_OWNER (n : Nat) : Fld := ⟨rGD_OWN n, 7, 0⟩
def fGD_POWER_MW (n : Nat) : Fld := ⟨rGD_POWER n, 31, 16⟩
def fGD_POWER_FREQ (n : Nat) : Fld := ⟨rGD_POWER n, 15, 0⟩
def fGD_EVENTS_FSW (n : Nat) : Fld := ⟨rGD_EVENTS n, 10, 10⟩
def fGD_EVENTS_FENCED (n : Nat) : Fld := ⟨rGD_EVENTS n, 9, 9⟩
def fGD_EVENTS_RETIRED (n : Nat) : Fld := ⟨rGD_EVENTS n, 8, 8⟩
def fGD_EVENTS_UNPLUGGED (n : Nat) : Fld := ⟨rGD_EVENTS n, 7, 7⟩
def fGD_EVENTS_WIRED (n : Nat) : Fld := ⟨rGD_EVENTS n, 6, 6⟩
def fGD_EVENTS_DIAG_FAIL (n : Nat) : Fld := ⟨rGD_EVENTS n, 5, 5⟩
def fGD_EVENTS_LINK (n : Nat) : Fld := ⟨rGD_EVENTS n, 4, 4⟩
def fGD_EVENTS_OVERLOAD (n : Nat) : Fld := ⟨rGD_EVENTS n, 3, 3⟩
def fGD_EVENTS_SUPPLY (n : Nat) : Fld := ⟨rGD_EVENTS n, 2, 2⟩
def fGD_EVENTS_GATE_MISS (n : Nat) : Fld := ⟨rGD_EVENTS n, 1, 1⟩
def fGD_EVENTS_DESAT (n : Nat) : Fld := ⟨rGD_EVENTS n, 0, 0⟩
def fGD_RETRY_CFG_TRIES : Fld := ⟨rGD_RETRY_CFG, 19, 16⟩
def fGD_RETRY_CFG_WAIT : Fld := ⟨rGD_RETRY_CFG, 9, 0⟩
def fGD_HARNESS_UNPLUG : Fld := ⟨rGD_HARNESS, 13, 8⟩
def fGD_HARNESS_CLOSED : Fld := ⟨rGD_HARNESS, 5, 0⟩
def fBND_CFG_TOPO (n : Nat) : Fld := ⟨rBND_CFG n, 23, 20⟩
def fBND_CFG_SET_DISP (n : Nat) : Fld := ⟨rBND_CFG n, 16, 16⟩
def fBND_CFG_MTPA_EN (n : Nat) : Fld := ⟨rBND_CFG n, 15, 15⟩
def fBND_CFG_FW_EN (n : Nat) : Fld := ⟨rBND_CFG n, 14, 14⟩
def fBND_CFG_ADAPT_EN (n : Nat) : Fld := ⟨rBND_CFG n, 13, 13⟩
def fBND_CFG_DUAL_UPD (n : Nat) : Fld := ⟨rBND_CFG n, 12, 12⟩
def fBND_CFG_MODE (n : Nat) : Fld := ⟨rBND_CFG n, 9, 8⟩
def fBND_CFG_SHAPE (n : Nat) : Fld := ⟨rBND_CFG n, 4, 4⟩
def fBND_CFG_BANK (n : Nat) : Fld := ⟨rBND_CFG n, 0, 0⟩
def fBND_SRC_VLO_SRC (n : Nat) : Fld := ⟨rBND_SRC n, 30, 24⟩
def fBND_SRC_VDC_SRC (n : Nat) : Fld := ⟨rBND_SRC n, 22, 16⟩
def fBND_SRC_HALL (n : Nat) : Fld := ⟨rBND_SRC n, 6, 4⟩
def fBND_SRC_ANG_SRC (n : Nat) : Fld := ⟨rBND_SRC n, 1, 0⟩
def fBND_BASE_I_BASE (n : Nat) : Fld := ⟨rBND_BASE n, 31, 16⟩
def fBND_BASE_V_BASE (n : Nat) : Fld := ⟨rBND_BASE n, 15, 0⟩
def fBND_WBASE_ANG_TMO (n : Nat) : Fld := ⟨rBND_WBASE n, 31, 24⟩
def fBND_WBASE_W_BASE (n : Nat) : Fld := ⟨rBND_WBASE n, 19, 0⟩
def fBND_MACH_L_SIGMA (n : Nat) : Fld := ⟨rBND_MACH n, 31, 16⟩
def fBND_MACH_R_S (n : Nat) : Fld := ⟨rBND_MACH n, 15, 0⟩
def fBND_MACH2_L_XY (n : Nat) : Fld := ⟨rBND_MACH2 n, 31, 16⟩
def fBND_MACH2_PSI_M (n : Nat) : Fld := ⟨rBND_MACH2 n, 15, 0⟩
def fBND_MAGNET_PSI_TC (n : Nat) : Fld := ⟨rBND_MAGNET n, 31, 16⟩
def fBND_MAGNET_T_REF (n : Nat) : Fld := ⟨rBND_MAGNET n, 15, 0⟩
def fBND_GAIN_A_KP (n : Nat) : Fld := ⟨rBND_GAIN_A n, 31, 16⟩
def fBND_GAIN_A_KI (n : Nat) : Fld := ⟨rBND_GAIN_A n, 15, 0⟩
def fBND_GAIN_B_KP (n : Nat) : Fld := ⟨rBND_GAIN_B n, 31, 16⟩
def fBND_GAIN_B_KI (n : Nat) : Fld := ⟨rBND_GAIN_B n, 15, 0⟩
def fBND_BANDS_H_OVR (n : Nat) : Fld := ⟨rBND_BANDS n, 31, 16⟩
def fBND_BANDS_H_CAR (n : Nat) : Fld := ⟨rBND_BANDS n, 15, 0⟩
def fBND_ADAPT_H_MAX (n : Nat) : Fld := ⟨rBND_ADAPT n, 31, 16⟩
def fBND_ADAPT_H_MIN (n : Nat) : Fld := ⟨rBND_ADAPT n, 15, 0⟩
def fBND_ADAPT2_H_XY (n : Nat) : Fld := ⟨rBND_ADAPT2 n, 31, 16⟩
def fBND_ADAPT2_F_TGT (n : Nat) : Fld := ⟨rBND_ADAPT2 n, 15, 0⟩
def fBND_TIMING_T_MINP (n : Nat) : Fld := ⟨rBND_TIMING n, 31, 16⟩
def fBND_TIMING_ISSUE_LEAD (n : Nat) : Fld := ⟨rBND_TIMING n, 15, 0⟩
def fBND_LIMITS_IMAX (n : Nat) : Fld := ⟨rBND_LIMITS n, 31, 16⟩
def fBND_LIMITS_NP_LIM (n : Nat) : Fld := ⟨rBND_LIMITS n, 15, 0⟩
def fBND_FW_M_FW (n : Nat) : Fld := ⟨rBND_FW n, 31, 16⟩
def fBND_FW_ID_FW_MIN (n : Nat) : Fld := ⟨rBND_FW n, 15, 0⟩
def fBND_FW2_K_FW (n : Nat) : Fld := ⟨rBND_FW2 n, 31, 16⟩
def fBND_FW2_K_V (n : Nat) : Fld := ⟨rBND_FW2 n, 15, 0⟩
def fBND_MISC_NP_GAIN (n : Nat) : Fld := ⟨rBND_MISC n, 31, 16⟩
def fBND_MISC_TMAG_TMO (n : Nat) : Fld := ⟨rBND_MISC n, 15, 8⟩
def fBND_MISC_RES_LIM (n : Nat) : Fld := ⟨rBND_MISC n, 7, 0⟩
def fBND_LR_CFG_LR_DEST_Q (n : Nat) : Fld := ⟨rBND_LR_CFG n, 31, 16⟩
def fBND_LR_CFG_LR_STEP (n : Nat) : Fld := ⟨rBND_LR_CFG n, 15, 0⟩
def fBND_XY_K_XY (n : Nat) : Fld := ⟨rBND_XY n, 15, 0⟩
def fBND_STATUS_STATE (n : Nat) : Fld := ⟨rBND_STATUS n, 31, 28⟩
def fBND_STATUS_CAUSE (n : Nat) : Fld := ⟨rBND_STATUS n, 27, 24⟩
def fBND_STATUS_MODE (n : Nat) : Fld := ⟨rBND_STATUS n, 18, 17⟩
def fBND_STATUS_BANK (n : Nat) : Fld := ⟨rBND_STATUS n, 16, 16⟩
def fBND_STATUS_VSAT (n : Nat) : Fld := ⟨rBND_STATUS n, 15, 15⟩
def fBND_STATUS_FW_ACTIVE (n : Nat) : Fld := ⟨rBND_STATUS n, 14, 14⟩
def fBND_STATUS_ILIM_ACTIVE (n : Nat) : Fld := ⟨rBND_STATUS n, 13, 13⟩
def fBND_STATUS_TMAG_STALE (n : Nat) : Fld := ⟨rBND_STATUS n, 12, 12⟩
def fBND_LR_STATUS_RATIO (n : Nat) : Fld := ⟨rBND_LR_STATUS n, 31, 16⟩
def fBND_LR_STATUS_CODE (n : Nat) : Fld := ⟨rBND_LR_STATUS n, 15, 12⟩
def fBND_LR_STATUS_BOUND (n : Nat) : Fld := ⟨rBND_LR_STATUS n, 11, 11⟩
def fBND_LR_STATUS_OVER (n : Nat) : Fld := ⟨rBND_LR_STATUS n, 10, 10⟩
def fBND_LR_STATUS_STEP (n : Nat) : Fld := ⟨rBND_LR_STATUS n, 9, 0⟩
def fBND_EVENTS_CHATTER (n : Nat) : Fld := ⟨rBND_EVENTS n, 9, 9⟩
def fBND_EVENTS_FALLBACK (n : Nat) : Fld := ⟨rBND_EVENTS n, 8, 8⟩
def fBND_EVENTS_MINP (n : Nat) : Fld := ⟨rBND_EVENTS n, 7, 7⟩
def fBND_EVENTS_VSAT (n : Nat) : Fld := ⟨rBND_EVENTS n, 6, 6⟩
def fBND_EVENTS_TMAG_STALE (n : Nat) : Fld := ⟨rBND_EVENTS n, 5, 5⟩
def fBND_EVENTS_HALTED (n : Nat) : Fld := ⟨rBND_EVENTS n, 4, 4⟩
def fBND_EVENTS_RESIDUAL (n : Nat) : Fld := ⟨rBND_EVENTS n, 3, 3⟩
def fBND_EVENTS_LR_TIMEOUT (n : Nat) : Fld := ⟨rBND_EVENTS n, 2, 2⟩
def fBND_EVENTS_LR_OVER (n : Nat) : Fld := ⟨rBND_EVENTS n, 1, 1⟩
def fBND_EVENTS_OVERRIDE (n : Nat) : Fld := ⟨rBND_EVENTS n, 0, 0⟩
def fBND_MTPA_IQ (n k : Nat) : Fld := ⟨rBND_MTPA n k, 31, 16⟩
def fBND_MTPA_ID (n k : Nat) : Fld := ⟨rBND_MTPA n k, 15, 0⟩
def fBND_PTAB_CAND (n k : Nat) : Fld := ⟨rBND_PTAB n k, 31, 0⟩
def fBND_ST_CFG_ST_TRIES (n : Nat) : Fld := ⟨rBND_ST_CFG n, 11, 8⟩
def fBND_ST_CFG_BRK_EN (n : Nat) : Fld := ⟨rBND_ST_CFG n, 5, 5⟩
def fBND_ST_CFG_FLY_EN (n : Nat) : Fld := ⟨rBND_ST_CFG n, 4, 4⟩
def fBND_ST_CFG_METHOD (n : Nat) : Fld := ⟨rBND_ST_CFG n, 1, 0⟩
def fBND_ST_ALIGN_I_ALIGN (n : Nat) : Fld := ⟨rBND_ST_ALIGN n, 31, 16⟩
def fBND_ST_ALIGN_T_ALIGN (n : Nat) : Fld := ⟨rBND_ST_ALIGN n, 15, 0⟩
def fBND_ST_RAMP_I_RAMP (n : Nat) : Fld := ⟨rBND_ST_RAMP n, 31, 16⟩
def fBND_ST_RAMP_RAMP_ACC (n : Nat) : Fld := ⟨rBND_ST_RAMP n, 15, 0⟩
def fBND_ST_HAND_W_HAND (n : Nat) : Fld := ⟨rBND_ST_HAND n, 31, 16⟩
def fBND_ST_HAND_T_HAND (n : Nat) : Fld := ⟨rBND_ST_HAND n, 15, 0⟩
def fBND_ST_FLY_FLY_VMIN (n : Nat) : Fld := ⟨rBND_ST_FLY n, 31, 16⟩
def fBND_ST_FLY_FLY_WIN (n : Nat) : Fld := ⟨rBND_ST_FLY n, 15, 8⟩
def fBND_ST_FLY_FLY_SYNC (n : Nat) : Fld := ⟨rBND_ST_FLY n, 7, 0⟩
def fBND_ST_KE_KE_WARN (n : Nat) : Fld := ⟨rBND_ST_KE n, 31, 24⟩
def fBND_ST_KE_KE_DEMAG (n : Nat) : Fld := ⟨rBND_ST_KE n, 23, 16⟩
def fBND_ST_KE_KE_WRONG (n : Nat) : Fld := ⟨rBND_ST_KE n, 15, 8⟩
def fBND_ST_BRAKE_I_PROOF (n : Nat) : Fld := ⟨rBND_ST_BRAKE n, 31, 16⟩
def fBND_ST_BRAKE_T_BRK_REL (n : Nat) : Fld := ⟨rBND_ST_BRAKE n, 15, 8⟩
def fBND_ST_BRAKE_T_BRK_APP (n : Nat) : Fld := ⟨rBND_ST_BRAKE n, 7, 0⟩
def fBND_ST_STOP_W_ZERO (n : Nat) : Fld := ⟨rBND_ST_STOP n, 31, 16⟩
def fBND_ST_STOP_T_ZERO (n : Nat) : Fld := ⟨rBND_ST_STOP n, 15, 0⟩
def fBND_ST_STATUS_STATE (n : Nat) : Fld := ⟨rBND_ST_STATUS n, 31, 28⟩
def fBND_ST_STATUS_CAUSE (n : Nat) : Fld := ⟨rBND_ST_STATUS n, 27, 24⟩
def fBND_ST_STATUS_TRIES (n : Nat) : Fld := ⟨rBND_ST_STATUS n, 23, 20⟩
def fBND_ST_STATUS_KE_VALID (n : Nat) : Fld := ⟨rBND_ST_STATUS n, 15, 15⟩
def fBND_ST_STATUS_DEMAG (n : Nat) : Fld := ⟨rBND_ST_STATUS n, 14, 14⟩
def fBND_ST_STATUS_KE_WARN (n : Nat) : Fld := ⟨rBND_ST_STATUS n, 13, 13⟩
def fBND_ST_STATUS_REVERSE (n : Nat) : Fld := ⟨rBND_ST_STATUS n, 12, 12⟩
def fBND_KE_EST_KE_RATIO (n : Nat) : Fld := ⟨rBND_KE_EST n, 31, 16⟩
def fBND_ST_EVENTS_KE_LOST (n : Nat) : Fld := ⟨rBND_ST_EVENTS n, 5, 5⟩
def fBND_ST_EVENTS_WRONG (n : Nat) : Fld := ⟨rBND_ST_EVENTS n, 4, 4⟩
def fBND_ST_EVENTS_DEMAG (n : Nat) : Fld := ⟨rBND_ST_EVENTS n, 3, 3⟩
def fBND_ST_EVENTS_PROOF_FAIL (n : Nat) : Fld := ⟨rBND_ST_EVENTS n, 2, 2⟩
def fBND_ST_EVENTS_TRY_FAIL (n : Nat) : Fld := ⟨rBND_ST_EVENTS n, 1, 1⟩
def fBND_ST_EVENTS_REFUSED (n : Nat) : Fld := ⟨rBND_ST_EVENTS n, 0, 0⟩
def fBND_DCL_CFG_PRE_TEMP : Fld := ⟨rBND_DCL_CFG, 31, 28⟩
def fBND_DCL_CFG_PRE_AUX : Fld := ⟨rBND_DCL_CFG, 27, 24⟩
def fBND_DCL_CFG_MAIN_AUX : Fld := ⟨rBND_DCL_CFG, 23, 20⟩
def fBND_DCL_CFG_CH_LEG : Fld := ⟨rBND_DCL_CFG, 19, 16⟩
def fBND_DCL_CFG_DCL_VDC : Fld := ⟨rBND_DCL_CFG, 14, 8⟩
def fBND_DCL_CFG_DCL_VSRC : Fld := ⟨rBND_DCL_CFG, 6, 0⟩
def fBND_DCL_PRE_PRE_TMO : Fld := ⟨rBND_DCL_PRE, 31, 16⟩
def fBND_DCL_PRE_PRE_DV : Fld := ⟨rBND_DCL_PRE, 15, 0⟩
def fBND_DCL_PRE2_PRE_V1 : Fld := ⟨rBND_DCL_PRE2, 31, 16⟩
def fBND_DCL_PRE2_PRE_T1 : Fld := ⟨rBND_DCL_PRE2, 15, 8⟩
def fBND_DCL_PRE2_MAIN_TMO : Fld := ⟨rBND_DCL_PRE2, 7, 0⟩
def fBND_DCL_TEMP_PRE_TMAX : Fld := ⟨rBND_DCL_TEMP, 31, 16⟩
def fBND_DCL_TEMP_PRE_TMIN : Fld := ⟨rBND_DCL_TEMP, 15, 0⟩
def fBND_DCL_CHOP_CH_ON : Fld := ⟨rBND_DCL_CHOP, 31, 16⟩
def fBND_DCL_CHOP_CH_OFF : Fld := ⟨rBND_DCL_CHOP, 15, 0⟩
def fBND_DCL_CHOP2_CH_PMAX : Fld := ⟨rBND_DCL_CHOP2, 31, 16⟩
def fBND_DCL_CHOP2_CH_EMAX : Fld := ⟨rBND_DCL_CHOP2, 15, 0⟩
def fBND_DCL_CHOP3_CH_R : Fld := ⟨rBND_DCL_CHOP3, 15, 0⟩
def fBND_DCL_DIS_DIS_V : Fld := ⟨rBND_DCL_DIS, 31, 16⟩
def fBND_DCL_DIS_DIS_TMO : Fld := ⟨rBND_DCL_DIS, 15, 0⟩
def fBND_DCL_VMIN_VMIN : Fld := ⟨rBND_DCL_VMIN, 15, 0⟩
def fBND_DCL_STATUS_DSTATE : Fld := ⟨rBND_DCL_STATUS, 31, 28⟩
def fBND_DCL_STATUS_CAUSE : Fld := ⟨rBND_DCL_STATUS, 27, 24⟩
def fBND_DCL_STATUS_CHOP_HOT : Fld := ⟨rBND_DCL_STATUS, 3, 3⟩
def fBND_DCL_STATUS_CHOP_ON : Fld := ⟨rBND_DCL_STATUS, 2, 2⟩
def fBND_DCL_STATUS_CHOP_AVAIL : Fld := ⟨rBND_DCL_STATUS, 1, 1⟩
def fBND_DCL_STATUS_PRE_TEMP_OK : Fld := ⟨rBND_DCL_STATUS, 0, 0⟩
def fLE_CFG_MODE (n : Nat) : Fld := ⟨rLE_CFG n, 25, 24⟩
def fLE_CFG_LEAD (n : Nat) : Fld := ⟨rLE_CFG n, 16, 16⟩
def fLE_CFG_TAB_BANK (n : Nat) : Fld := ⟨rLE_CFG n, 4, 4⟩
def fLE_CFG_BANK (n : Nat) : Fld := ⟨rLE_CFG n, 0, 0⟩
def fLE_TIMING_T_S (n : Nat) : Fld := ⟨rLE_TIMING n, 31, 16⟩
def fLE_TIMING_OUT_DELAY (n : Nat) : Fld := ⟨rLE_TIMING n, 15, 0⟩
def fLE_PHASE_PHASE (n : Nat) : Fld := ⟨rLE_PHASE n, 15, 0⟩
def fLE_SRC_HALL (n : Nat) : Fld := ⟨rLE_SRC n, 10, 8⟩
def fLE_SRC_POS_SRC (n : Nat) : Fld := ⟨rLE_SRC n, 5, 4⟩
def fLE_SRC_SPD_SRC (n : Nat) : Fld := ⟨rLE_SRC n, 1, 0⟩
def fLE_KTI_KTI_M (n : Nat) : Fld := ⟨rLE_KTI n, 31, 16⟩
def fLE_KTI_KTI_SH (n : Nat) : Fld := ⟨rLE_KTI n, 3, 0⟩
def fLE_PROF_V_V_MAX (n : Nat) : Fld := ⟨rLE_PROF_V n, 31, 16⟩
def fLE_PROF_V_P_WIN (n : Nat) : Fld := ⟨rLE_PROF_V n, 15, 0⟩
def fLE_PROF_A_A_ACC (n : Nat) : Fld := ⟨rLE_PROF_A n, 31, 16⟩
def fLE_PROF_A_A_DEC (n : Nat) : Fld := ⟨rLE_PROF_A n, 15, 0⟩
def fLE_PROF_J_POLE_PAIRS (n : Nat) : Fld := ⟨rLE_PROF_J n, 31, 24⟩
def fLE_PROF_J_J_MAX (n : Nat) : Fld := ⟨rLE_PROF_J n, 15, 0⟩
def fLE_FF_KA (n : Nat) : Fld := ⟨rLE_FF n, 31, 16⟩
def fLE_FF_KA_SH (n : Nat) : Fld := ⟨rLE_FF n, 15, 12⟩
def fLE_FF_FRIC_DB (n : Nat) : Fld := ⟨rLE_FF n, 11, 0⟩
def fLE_TAB_CFG_TAB_OFS (n : Nat) : Fld := ⟨rLE_TAB_CFG n, 31, 16⟩
def fLE_TAB_CFG_COG_EN (n : Nat) : Fld := ⟨rLE_TAB_CFG n, 1, 1⟩
def fLE_TAB_CFG_FRIC_EN (n : Nat) : Fld := ⟨rLE_TAB_CFG n, 0, 0⟩
def fLE_SHARE_CFG_CLIP_Q (n : Nat) : Fld := ⟨rLE_SHARE_CFG n, 31, 16⟩
def fLE_DESC_W (n k : Nat) : Fld := ⟨rLE_DESC n k, 31, 0⟩
def fLE_STATUS_STATE (n : Nat) : Fld := ⟨rLE_STATUS n, 31, 28⟩
def fLE_STATUS_MODE (n : Nat) : Fld := ⟨rLE_STATUS n, 27, 26⟩
def fLE_STATUS_BANK (n : Nat) : Fld := ⟨rLE_STATUS n, 25, 25⟩
def fLE_STATUS_TAB_BANK (n : Nat) : Fld := ⟨rLE_STATUS n, 24, 24⟩
def fLE_STATUS_HOLD (n : Nat) : Fld := ⟨rLE_STATUS n, 23, 23⟩
def fLE_STATUS_ARRIVED (n : Nat) : Fld := ⟨rLE_STATUS n, 22, 22⟩
def fLE_STATUS_SERVES_VALID (n : Nat) : Fld := ⟨rLE_STATUS n, 21, 21⟩
def fLE_STATUS_SERVES (n : Nat) : Fld := ⟨rLE_STATUS n, 20, 19⟩
def fLE_STATUS_WINNER (n : Nat) : Fld := ⟨rLE_STATUS n, 18, 16⟩
def fLE_STATUS_CHOP_OUT (n : Nat) : Fld := ⟨rLE_STATUS n, 15, 15⟩
def fLE_STATUS_REGEN_BLOCK (n : Nat) : Fld := ⟨rLE_STATUS n, 14, 14⟩
def fLE_SAT_MINSEL (n : Nat) : Fld := ⟨rLE_SAT n, 8, 8⟩
def fLE_SAT_ITREF (n : Nat) : Fld := ⟨rLE_SAT n, 7, 7⟩
def fLE_SAT_COMP (n : Nat) : Fld := ⟨rLE_SAT n, 6, 6⟩
def fLE_SAT_ERR (n : Nat) : Fld := ⟨rLE_SAT n, 5, 5⟩
def fLE_SAT_ACC (n : Nat) : Fld := ⟨rLE_SAT n, 4, 4⟩
def fLE_SAT_LIM (n : Nat) : Fld := ⟨rLE_SAT n, 3, 3⟩
def fLE_SAT_SPD (n : Nat) : Fld := ⟨rLE_SAT n, 2, 2⟩
def fLE_SAT_POS (n : Nat) : Fld := ⟨rLE_SAT n, 1, 1⟩
def fLE_SAT_PROF (n : Nat) : Fld := ⟨rLE_SAT n, 0, 0⟩
def fLE_EVENTS_CLIP_SENT (n : Nat) : Fld := ⟨rLE_EVENTS n, 6, 6⟩
def fLE_EVENTS_FAILED (n : Nat) : Fld := ⟨rLE_EVENTS n, 5, 5⟩
def fLE_EVENTS_SPARE_IN (n : Nat) : Fld := ⟨rLE_EVENTS n, 4, 4⟩
def fLE_EVENTS_TAB_ACTIVE_WRITE (n : Nat) : Fld := ⟨rLE_EVENTS n, 3, 3⟩
def fLE_EVENTS_GAIN_REFUSED (n : Nat) : Fld := ⟨rLE_EVENTS n, 2, 2⟩
def fLE_EVENTS_STRUCT_REFUSED (n : Nat) : Fld := ⟨rLE_EVENTS n, 1, 1⟩
def fLE_EVENTS_HELD (n : Nat) : Fld := ⟨rLE_EVENTS n, 0, 0⟩
def fLE_TAB_FRIC_A_W (n k : Nat) : Fld := ⟨rLE_TAB_FRIC_A n k, 31, 0⟩
def fLE_TAB_FRIC_B_W (n k : Nat) : Fld := ⟨rLE_TAB_FRIC_B n k, 31, 0⟩
def fLE_TAB_COG_A_W (n k : Nat) : Fld := ⟨rLE_TAB_COG_A n k, 31, 0⟩
def fLE_TAB_COG_B_W (n k : Nat) : Fld := ⟨rLE_TAB_COG_B n k, 31, 0⟩
def fLE_PAR_CFG_MACHINE (n : Nat) : Fld := ⟨rLE_PAR_CFG n, 31, 24⟩
def fLE_PAR_CFG_SILENT_TKO (n : Nat) : Fld := ⟨rLE_PAR_CFG n, 8, 8⟩
def fLE_PAR_CFG_ROLE (n : Nat) : Fld := ⟨rLE_PAR_CFG n, 2, 0⟩
def fLE_PAR_TIMING_SHARE_DELAY (n : Nat) : Fld := ⟨rLE_PAR_TIMING n, 31, 16⟩
def fLE_PAR_TIMING_SHARE_TMO (n : Nat) : Fld := ⟨rLE_PAR_TIMING n, 15, 8⟩
def fLE_PAR_TIMING_CAP_RISE (n : Nat) : Fld := ⟨rLE_PAR_TIMING n, 7, 0⟩
def fLE_PAR_DROOP_MIR_TMO (n : Nat) : Fld := ⟨rLE_PAR_DROOP n, 23, 16⟩
def fLE_PAR_DROOP_DROOP (n : Nat) : Fld := ⟨rLE_PAR_DROOP n, 15, 0⟩
def fLE_PAR_STAGE_STAGE_ID (n : Nat) : Fld := ⟨rLE_PAR_STAGE n, 31, 16⟩
def fLE_PAR_STAGE_PARTNER (n : Nat) : Fld := ⟨rLE_PAR_STAGE n, 15, 8⟩
def fLE_PAR_STAGE_PCELL (n : Nat) : Fld := ⟨rLE_PAR_STAGE n, 1, 0⟩
def fLE_PAR_TKO_SEL_DELAY (n : Nat) : Fld := ⟨rLE_PAR_TKO n, 31, 16⟩
def fLE_PAR_TKO_TKO_AUX (n : Nat) : Fld := ⟨rLE_PAR_TKO n, 3, 0⟩
def fLE_PAR_MEMBER_SHARE_MAX (n k : Nat) : Fld := ⟨rLE_PAR_MEMBER n k, 31, 24⟩
def fLE_PAR_MEMBER_WEIGHT (n k : Nat) : Fld := ⟨rLE_PAR_MEMBER n k, 23, 16⟩
def fLE_PAR_MEMBER_MCELL (n k : Nat) : Fld := ⟨rLE_PAR_MEMBER n k, 9, 8⟩
def fLE_PAR_MEMBER_MBURGEE (n k : Nat) : Fld := ⟨rLE_PAR_MEMBER n k, 7, 0⟩
def fLE_PAR_STATUS_PSTATE (n : Nat) : Fld := ⟨rLE_PAR_STATUS n, 31, 28⟩
def fLE_PAR_STATUS_ACTIVE_N (n : Nat) : Fld := ⟨rLE_PAR_STATUS n, 27, 24⟩
def fLE_PAR_STATUS_SHORTFALL (n : Nat) : Fld := ⟨rLE_PAR_STATUS n, 23, 23⟩
def fLE_PAR_STATUS_TKO_SEL (n : Nat) : Fld := ⟨rLE_PAR_STATUS n, 22, 22⟩
def fLE_PAR_STATUS_SAMPLE (n : Nat) : Fld := ⟨rLE_PAR_STATUS n, 15, 0⟩
def fLE_PAR_GEN_MGEN (n : Nat) : Fld := ⟨rLE_PAR_GEN n, 31, 16⟩
def fLE_PAR_GEN_G (n : Nat) : Fld := ⟨rLE_PAR_GEN n, 15, 0⟩
def fLE_PAR_ACTIVE_LOST (n : Nat) : Fld := ⟨rLE_PAR_ACTIVE n, 23, 16⟩
def fLE_PAR_ACTIVE_CLIP (n : Nat) : Fld := ⟨rLE_PAR_ACTIVE n, 15, 8⟩
def fLE_PAR_ACTIVE_ACT (n : Nat) : Fld := ⟨rLE_PAR_ACTIVE n, 7, 0⟩
def fLE_PAR_EVENTS_JOINED (n : Nat) : Fld := ⟨rLE_PAR_EVENTS n, 0, 0⟩
def fLE_PAR_EVENTS_REFUSED (n : Nat) : Fld := ⟨rLE_PAR_EVENTS n, 1, 1⟩
def fLE_PAR_EVENTS_LOST (n : Nat) : Fld := ⟨rLE_PAR_EVENTS n, 2, 2⟩
def fLE_PAR_EVENTS_SPLIT (n : Nat) : Fld := ⟨rLE_PAR_EVENTS n, 3, 3⟩
def fLE_PAR_EVENTS_SHORT (n : Nat) : Fld := ⟨rLE_PAR_EVENTS n, 4, 4⟩
def fLE_PAR_EVENTS_MIRROR (n : Nat) : Fld := ⟨rLE_PAR_EVENTS n, 5, 5⟩
def fLE_PAR_EVENTS_TAKEOVER (n : Nat) : Fld := ⟨rLE_PAR_EVENTS n, 6, 6⟩
def fLE_PAR_EVENTS_GIVEN (n : Nat) : Fld := ⟨rLE_PAR_EVENTS n, 7, 7⟩
def fLE_PAR_EVENTS_FENCED (n : Nat) : Fld := ⟨rLE_PAR_EVENTS n, 8, 8⟩
def fLE_PAR_EVENTS_DOUBLE (n : Nat) : Fld := ⟨rLE_PAR_EVENTS n, 9, 9⟩
def fLE_PAR_EVENTS_TKO_REFUSED (n : Nat) : Fld := ⟨rLE_PAR_EVENTS n, 10, 10⟩
def fLE_PAR_EVENTS_ABORT (n : Nat) : Fld := ⟨rLE_PAR_EVENTS n, 11, 11⟩
def fLE_PAR_CAP_SHARE (n k : Nat) : Fld := ⟨rLE_PAR_CAP n k, 31, 16⟩
def fLE_PAR_CAP_CAP (n k : Nat) : Fld := ⟨rLE_PAR_CAP n k, 15, 0⟩
def fFP_CFG_WDOG (n : Nat) : Fld := ⟨rFP_CFG n, 31, 16⟩
def fFP_CFG_SBX_EN (n : Nat) : Fld := ⟨rFP_CFG n, 8, 8⟩
def fFP_CFG_CELL (n : Nat) : Fld := ⟨rFP_CFG n, 5, 4⟩
def fFP_CFG_ROLE (n : Nat) : Fld := ⟨rFP_CFG n, 1, 0⟩
def fFP_STATUS_STATE (n : Nat) : Fld := ⟨rFP_STATUS n, 31, 28⟩
def fFP_STATUS_ROLE (n : Nat) : Fld := ⟨rFP_STATUS n, 27, 26⟩
def fFP_STATUS_CELL (n : Nat) : Fld := ⟨rFP_STATUS n, 25, 24⟩
def fFP_STATUS_CELL_VALID (n : Nat) : Fld := ⟨rFP_STATUS n, 23, 23⟩
def fFP_STATUS_TRAPM (n : Nat) : Fld := ⟨rFP_STATUS n, 22, 22⟩
def fFP_STATUS_SBXM (n : Nat) : Fld := ⟨rFP_STATUS n, 21, 21⟩
def fFP_STATUS_WAITING (n : Nat) : Fld := ⟨rFP_STATUS n, 20, 20⟩
def fFP_STATUS_WCUR (n : Nat) : Fld := ⟨rFP_STATUS n, 19, 16⟩
def fFP_STATUS_WRES (n : Nat) : Fld := ⟨rFP_STATUS n, 11, 8⟩
def fFP_STATUS_QOFS (n : Nat) : Fld := ⟨rFP_STATUS n, 4, 0⟩
def fFP_GEN_FGEN (n : Nat) : Fld := ⟨rFP_GEN n, 15, 0⟩
def fFP_HALT_CAUSE (n : Nat) : Fld := ⟨rFP_HALT n, 31, 28⟩
def fFP_HALT_PC (n : Nat) : Fld := ⟨rFP_HALT n, 15, 0⟩
def fFP_SBX_CODE_CFIRST (n : Nat) : Fld := ⟨rFP_SBX_CODE n, 15, 8⟩
def fFP_SBX_CODE_CLAST (n : Nat) : Fld := ⟨rFP_SBX_CODE n, 7, 0⟩
def fFP_SBX_DATA_DLAST (n : Nat) : Fld := ⟨rFP_SBX_DATA n, 24, 16⟩
def fFP_SBX_DATA_DFIRST (n : Nat) : Fld := ⟨rFP_SBX_DATA n, 8, 0⟩
def fFP_SBX_QUEUE_QLAST (n : Nat) : Fld := ⟨rFP_SBX_QUEUE n, 31, 16⟩
def fFP_SBX_QUEUE_QFIRST (n : Nat) : Fld := ⟨rFP_SBX_QUEUE n, 15, 0⟩
def fFP_SBX_BUDGET_BUDGET (n : Nat) : Fld := ⟨rFP_SBX_BUDGET n, 31, 0⟩
def fFP_INBOX_INBOX_RD (n : Nat) : Fld := ⟨rFP_INBOX n, 24, 16⟩
def fFP_INBOX_INBOX_WR (n : Nat) : Fld := ⟨rFP_INBOX n, 8, 0⟩
def fFP_EVENTS_PROMOTED (n : Nat) : Fld := ⟨rFP_EVENTS n, 7, 7⟩
def fFP_EVENTS_SPARE_IN (n : Nat) : Fld := ⟨rFP_EVENTS n, 6, 6⟩
def fFP_EVENTS_SBX_BUDGET (n : Nat) : Fld := ⟨rFP_EVENTS n, 5, 5⟩
def fFP_EVENTS_SBX_VIOL (n : Nat) : Fld := ⟨rFP_EVENTS n, 4, 4⟩
def fFP_EVENTS_INBOX_OVR (n : Nat) : Fld := ⟨rFP_EVENTS n, 3, 3⟩
def fFP_EVENTS_ECC_CORR (n : Nat) : Fld := ⟨rFP_EVENTS n, 2, 2⟩
def fFP_EVENTS_HALTED (n : Nat) : Fld := ⟨rFP_EVENTS n, 1, 1⟩
def fFP_EVENTS_TRAP (n : Nat) : Fld := ⟨rFP_EVENTS n, 0, 0⟩
def fFP_PEEK_ADDR_SPACE (n : Nat) : Fld := ⟨rFP_PEEK_ADDR n, 31, 28⟩
def fFP_PEEK_ADDR_WORD (n : Nat) : Fld := ⟨rFP_PEEK_ADDR n, 18, 2⟩
def fFP_PEEK_STAT_VALID (n : Nat) : Fld := ⟨rFP_PEEK_STAT n, 0, 0⟩
def fSI_STATUS_ISTATE : Fld := ⟨rSI_STATUS, 31, 28⟩
def fSI_STATUS_SF_MODE : Fld := ⟨rSI_STATUS, 27, 24⟩
def fSI_STATUS_MP_LOST : Fld := ⟨rSI_STATUS, 23, 23⟩
def fSI_STATUS_SAFE_OK : Fld := ⟨rSI_STATUS, 22, 22⟩
def fSI_STATUS_FLT_LOW : Fld := ⟨rSI_STATUS, 21, 21⟩
def fSI_STATUS_LAST_FAULT : Fld := ⟨rSI_STATUS, 15, 0⟩
def fSI_CFG_STO_CELLS : Fld := ⟨rSI_CFG, 27, 24⟩
def fSI_CFG_TP_FILT : Fld := ⟨rSI_CFG, 4, 0⟩
def fSI_CFG_CRC_CRC : Fld := ⟨rSI_CFG_CRC, 31, 0⟩
def fSI_PAIR_CFG_CELLS0 : Fld := ⟨rSI_PAIR_CFG, 7, 4⟩
def fSI_PAIR_CFG_CELLS1 : Fld := ⟨rSI_PAIR_CFG, 15, 12⟩
def fSI_PAIR_CFG_CELLS2 : Fld := ⟨rSI_PAIR_CFG, 23, 20⟩
def fSI_PAIR_CFG_CELLS3 : Fld := ⟨rSI_PAIR_CFG, 31, 28⟩
def fSI_PAIR_CFG_ANTI0 : Fld := ⟨rSI_PAIR_CFG, 3, 3⟩
def fSI_PAIR_CFG_ANTI1 : Fld := ⟨rSI_PAIR_CFG, 11, 11⟩
def fSI_PAIR_CFG_ANTI2 : Fld := ⟨rSI_PAIR_CFG, 19, 19⟩
def fSI_PAIR_CFG_ANTI3 : Fld := ⟨rSI_PAIR_CFG, 27, 27⟩
def fSI_PAIR_CFG_FUNC0 : Fld := ⟨rSI_PAIR_CFG, 2, 0⟩
def fSI_PAIR_CFG_FUNC1 : Fld := ⟨rSI_PAIR_CFG, 10, 8⟩
def fSI_PAIR_CFG_FUNC2 : Fld := ⟨rSI_PAIR_CFG, 18, 16⟩
def fSI_PAIR_CFG_FUNC3 : Fld := ⟨rSI_PAIR_CFG, 26, 24⟩
def fSI_DISC_T_DISC_T : Fld := ⟨rSI_DISC_T, 9, 0⟩
def fSI_SF_CFG_SF_EN : Fld := ⟨rSI_SF_CFG, 31, 31⟩
def fSI_SF_CFG_FALLBACK_EN : Fld := ⟨rSI_SF_CFG, 30, 30⟩
def fSI_SF_CFG_TS_TOL : Fld := ⟨rSI_SF_CFG, 29, 24⟩
def fSI_SF_CFG_SEQ_WIN : Fld := ⟨rSI_SF_CFG, 23, 20⟩
def fSI_SF_CFG_NET_MISS : Fld := ⟨rSI_SF_CFG, 19, 16⟩
def fSI_SF_CFG_SF_TMO : Fld := ⟨rSI_SF_CFG, 15, 8⟩
def fSI_SF_CFG_PAIR_WIN : Fld := ⟨rSI_SF_CFG, 7, 4⟩
def fSI_SF_CFG_SF_PERIOD : Fld := ⟨rSI_SF_CFG, 3, 0⟩
def fSI_SF_ID_SF_ID_STS : Fld := ⟨rSI_SF_ID, 31, 16⟩
def fSI_SF_ID_SF_ID_CMD : Fld := ⟨rSI_SF_ID, 15, 0⟩
def fSI_SF_CANID_SF_STS_ID : Fld := ⟨rSI_SF_CANID, 26, 16⟩
def fSI_SF_CANID_SF_CMD_ID : Fld := ⟨rSI_SF_CANID, 10, 0⟩
def fSI_CELL_CFG_BRK_OUT (k : Nat) : Fld := ⟨rSI_CELL_CFG k, 23, 16⟩
def fSI_CELL_CFG_SF_REACT (k : Nat) : Fld := ⟨rSI_CELL_CFG k, 15, 15⟩
def fSI_CELL_CFG_TM_REACT (k : Nat) : Fld := ⟨rSI_CELL_CFG k, 14, 14⟩
def fSI_CELL_CFG_SLT_REACT (k : Nat) : Fld := ⟨rSI_CELL_CFG k, 13, 13⟩
def fSI_CELL_CFG_SLS_REACT (k : Nat) : Fld := ⟨rSI_CELL_CFG k, 12, 12⟩
def fSI_CELL_CFG_HALL_SEN (k : Nat) : Fld := ⟨rSI_CELL_CFG k, 11, 11⟩
def fSI_CELL_CFG_HALL_S (k : Nat) : Fld := ⟨rSI_CELL_CFG k, 10, 8⟩
def fSI_CELL_CFG_SF_BIND (k : Nat) : Fld := ⟨rSI_CELL_CFG k, 6, 6⟩
def fSI_CELL_CFG_TM_EN (k : Nat) : Fld := ⟨rSI_CELL_CFG k, 5, 5⟩
def fSI_CELL_CFG_SLT_EN (k : Nat) : Fld := ⟨rSI_CELL_CFG k, 4, 4⟩
def fSI_CELL_CFG_SLS_EN (k : Nat) : Fld := ⟨rSI_CELL_CFG k, 3, 3⟩
def fSI_CELL_CFG_SBC_EN (k : Nat) : Fld := ⟨rSI_CELL_CFG k, 2, 2⟩
def fSI_CELL_CFG_MAN_RST (k : Nat) : Fld := ⟨rSI_CELL_CFG k, 1, 1⟩
def fSI_CELL_CFG_SS1_MODE (k : Nat) : Fld := ⟨rSI_CELL_CFG k, 0, 0⟩
def fSI_SS1_CFG_SS1_T (k : Nat) : Fld := ⟨rSI_SS1_CFG k, 31, 16⟩
def fSI_SS1_CFG_SS1_TMAX (k : Nat) : Fld := ⟨rSI_SS1_CFG k, 15, 8⟩
def fSI_SS1_CFG_SBC_LEAD (k : Nat) : Fld := ⟨rSI_SS1_CFG k, 7, 0⟩
def fSI_SS1R_CFG_SS1_DEC (k : Nat) : Fld := ⟨rSI_SS1R_CFG k, 31, 16⟩
def fSI_SS1R_CFG_SS1_OFS (k : Nat) : Fld := ⟨rSI_SS1R_CFG k, 15, 0⟩
def fSI_SPD_CFG_SLS_LIM (k : Nat) : Fld := ⟨rSI_SPD_CFG k, 31, 16⟩
def fSI_SPD_CFG_W_ZERO_S (k : Nat) : Fld := ⟨rSI_SPD_CFG k, 15, 0⟩
def fSI_TQ_CFG_SLT_LIM (k : Nat) : Fld := ⟨rSI_TQ_CFG k, 31, 16⟩
def fSI_TQ_CFG_I_RATED (k : Nat) : Fld := ⟨rSI_TQ_CFG k, 15, 0⟩
def fSI_TM_CFG_TM_TOL (k : Nat) : Fld := ⟨rSI_TM_CFG k, 31, 16⟩
def fSI_TM_CFG_TM_TIME (k : Nat) : Fld := ⟨rSI_TM_CFG k, 15, 8⟩
def fSI_TM_CFG_SLS_TOL (k : Nat) : Fld := ⟨rSI_TM_CFG k, 7, 0⟩
def fSI_TM_CFG2_SLT_TOL (k : Nat) : Fld := ⟨rSI_TM_CFG2 k, 7, 0⟩
def fSI_CELL_STATUS_CSTATE (k : Nat) : Fld := ⟨rSI_CELL_STATUS k, 31, 28⟩
def fSI_CELL_STATUS_BRAKE_APPLIED (k : Nat) : Fld := ⟨rSI_CELL_STATUS k, 27, 27⟩
def fSI_CELL_STATUS_SINGLE_PATH (k : Nat) : Fld := ⟨rSI_CELL_STATUS k, 26, 26⟩
def fSI_CELL_STATUS_SLS_ON (k : Nat) : Fld := ⟨rSI_CELL_STATUS k, 25, 25⟩
def fSI_CELL_STATUS_SLT_ON (k : Nat) : Fld := ⟨rSI_CELL_STATUS k, 24, 24⟩
def fSI_CELL_STATUS_DEMAND (k : Nat) : Fld := ⟨rSI_CELL_STATUS k, 22, 16⟩
def fSI_CELL_STATUS_LAST_CAUSE (k : Nat) : Fld := ⟨rSI_CELL_STATUS k, 7, 0⟩
def fFLT_STATUS_BIVOUAC : Fld := ⟨rFLT_STATUS, 31, 31⟩
def fFLT_STATUS_LOG_BEHIND : Fld := ⟨rFLT_STATUS, 30, 30⟩
def fFLT_STATUS_UNFLUSHED : Fld := ⟨rFLT_STATUS, 12, 0⟩
def fFLT_CFG_BIV_CANID : Fld := ⟨rFLT_CFG, 26, 16⟩
def fFLT_CFG_BIV_TMAX : Fld := ⟨rFLT_CFG, 7, 0⟩
def fFLT_CELL_CLEVEL (k : Nat) : Fld := ⟨rFLT_CELL k, 31, 28⟩
def fFLT_CELL_LEGS_RETIRED (k : Nat) : Fld := ⟨rFLT_CELL k, 27, 16⟩
def fFLT_CELL_WIN_SINGLE (k : Nat) : Fld := ⟨rFLT_CELL k, 12, 12⟩
def fFLT_CELL_THROTTLED (k : Nat) : Fld := ⟨rFLT_CELL k, 11, 11⟩
def fFLT_CELL_CHOP_UNAVAIL (k : Nat) : Fld := ⟨rFLT_CELL k, 10, 10⟩
def fFLT_CELL_HALL_FAILED (k : Nat) : Fld := ⟨rFLT_CELL k, 9, 9⟩
def fFLT_CELL_DELAY_SINGLE (k : Nat) : Fld := ⟨rFLT_CELL k, 8, 8⟩
def fFLT_CELL_REF_DEGRADED (k : Nat) : Fld := ⟨rFLT_CELL k, 7, 7⟩
def fFLT_CELL_REF_SUBST (k : Nat) : Fld := ⟨rFLT_CELL k, 6, 6⟩
def fFLT_CELL_LE_SPARE_USED (k : Nat) : Fld := ⟨rFLT_CELL k, 5, 5⟩
def fFLT_CELL_FP_SPARE_USED (k : Nat) : Fld := ⟨rFLT_CELL k, 4, 4⟩
def fFLT_CELL_PROMOTED (k : Nat) : Fld := ⟨rFLT_CELL k, 3, 3⟩
def fFLT_CELL_OBS_STOPPED (k : Nat) : Fld := ⟨rFLT_CELL k, 2, 2⟩
def fFLT_CELL_SINGLE_PATH (k : Nat) : Fld := ⟨rFLT_CELL k, 1, 1⟩
def fFLT_CELL_TQ_CAP50 (k : Nat) : Fld := ⟨rFLT_CELL k, 0, 0⟩
def fFLT_SPARES_PORTS_RETIRED : Fld := ⟨rFLT_SPARES, 19, 16⟩
def fFLT_SPARES_LE_FREE : Fld := ⟨rFLT_SPARES, 8, 8⟩
def fFLT_SPARES_FP_FREE : Fld := ⟨rFLT_SPARES, 5, 4⟩
def fFLT_SPARES_DEC_FREE : Fld := ⟨rFLT_SPARES, 2, 0⟩
def fFLT_EVENTS_BIV_STOP : Fld := ⟨rFLT_EVENTS, 5, 5⟩
def fFLT_EVENTS_BIVOUAC : Fld := ⟨rFLT_EVENTS, 4, 4⟩
def fFLT_EVENTS_LOST : Fld := ⟨rFLT_EVENTS, 3, 3⟩
def fFLT_EVENTS_OCC_FULL : Fld := ⟨rFLT_EVENTS, 2, 2⟩
def fFLT_EVENTS_SPARE_EXHAUSTED : Fld := ⟨rFLT_EVENTS, 1, 1⟩
def fFLT_EVENTS_PERMANENT : Fld := ⟨rFLT_EVENTS, 0, 0⟩
def fCAN_CFG_BOFF_WAIT (n : Nat) : Fld := ⟨rCAN_CFG n, 31, 24⟩
def fCAN_CFG_MGT_EN (n : Nat) : Fld := ⟨rCAN_CFG n, 7, 7⟩
def fCAN_CFG_TERM (n : Nat) : Fld := ⟨rCAN_CFG n, 6, 6⟩
def fCAN_CFG_LISTEN_ONLY (n : Nat) : Fld := ⟨rCAN_CFG n, 5, 5⟩
def fCAN_CFG_BOFF_AUTO (n : Nat) : Fld := ⟨rCAN_CFG n, 4, 4⟩
def fCAN_CFG_TT_EN (n : Nat) : Fld := ⟨rCAN_CFG n, 3, 3⟩
def fCAN_CFG_FD_EN (n : Nat) : Fld := ⟨rCAN_CFG n, 2, 2⟩
def fCAN_CFG_ENABLE (n : Nat) : Fld := ⟨rCAN_CFG n, 0, 0⟩
def fCAN_NBT_SJW (n : Nat) : Fld := ⟨rCAN_NBT n, 31, 25⟩
def fCAN_NBT_TSEG1 (n : Nat) : Fld := ⟨rCAN_NBT n, 24, 16⟩
def fCAN_NBT_TSEG2 (n : Nat) : Fld := ⟨rCAN_NBT n, 15, 9⟩
def fCAN_NBT_BRP (n : Nat) : Fld := ⟨rCAN_NBT n, 8, 0⟩
def fCAN_DBT_SJW (n : Nat) : Fld := ⟨rCAN_DBT n, 31, 28⟩
def fCAN_DBT_TSEG1 (n : Nat) : Fld := ⟨rCAN_DBT n, 27, 23⟩
def fCAN_DBT_TSEG2 (n : Nat) : Fld := ⟨rCAN_DBT n, 22, 19⟩
def fCAN_DBT_BRP (n : Nat) : Fld := ⟨rCAN_DBT n, 18, 14⟩
def fCAN_DBT_TDC_EN (n : Nat) : Fld := ⟨rCAN_DBT n, 13, 13⟩
def fCAN_DBT_TDCO (n : Nat) : Fld := ⟨rCAN_DBT n, 12, 6⟩
def fCAN_STATUS_FCS (n : Nat) : Fld := ⟨rCAN_STATUS n, 31, 30⟩
def fCAN_STATUS_LEC (n : Nat) : Fld := ⟨rCAN_STATUS n, 29, 27⟩
def fCAN_STATUS_DLEC (n : Nat) : Fld := ⟨rCAN_STATUS n, 26, 24⟩
def fCAN_STATUS_WARN (n : Nat) : Fld := ⟨rCAN_STATUS n, 23, 23⟩
def fCAN_STATUS_SYNC (n : Nat) : Fld := ⟨rCAN_STATUS n, 22, 22⟩
def fCAN_STATUS_TTLEVEL (n : Nat) : Fld := ⟨rCAN_STATUS n, 21, 20⟩
def fCAN_STATUS_TTMASTER (n : Nat) : Fld := ⟨rCAN_STATUS n, 19, 19⟩
def fCAN_STATUS_TTPRIO (n : Nat) : Fld := ⟨rCAN_STATUS n, 18, 16⟩
def fCAN_STATUS_TDCV (n : Nat) : Fld := ⟨rCAN_STATUS n, 7, 0⟩
def fCAN_EVENTS_ERR_PASSIVE (n : Nat) : Fld := ⟨rCAN_EVENTS n, 0, 0⟩
def fCAN_EVENTS_BUS_OFF (n : Nat) : Fld := ⟨rCAN_EVENTS n, 1, 1⟩
def fCAN_EVENTS_RECOVERED (n : Nat) : Fld := ⟨rCAN_EVENTS n, 2, 2⟩
def fCAN_EVENTS_TX_FAIL (n : Nat) : Fld := ⟨rCAN_EVENTS n, 3, 3⟩
def fCAN_EVENTS_OVERRUN (n : Nat) : Fld := ⟨rCAN_EVENTS n, 4, 4⟩
def fCAN_EVENTS_STALE (n : Nat) : Fld := ⟨rCAN_EVENTS n, 5, 5⟩
def fCAN_EVENTS_PXE (n : Nat) : Fld := ⟨rCAN_EVENTS n, 6, 6⟩
def fCAN_EVENTS_TT_LEVEL (n : Nat) : Fld := ⟨rCAN_EVENTS n, 7, 7⟩
def fCAN_EVENTS_TT_MASTER (n : Nat) : Fld := ⟨rCAN_EVENTS n, 8, 8⟩
def fCAN_EVENTS_TXBUSY (n : Nat) : Fld := ⟨rCAN_EVENTS n, 9, 9⟩
def fCAN_TT_CFG_REF_ID (n : Nat) : Fld := ⟨rCAN_TT_CFG n, 31, 21⟩
def fCAN_TT_CFG_MPRIO (n : Nat) : Fld := ⟨rCAN_TT_CFG n, 20, 18⟩
def fCAN_TT_CFG_MASTER_EN (n : Nat) : Fld := ⟨rCAN_TT_CFG n, 17, 17⟩
def fCAN_TT_CFG_TXEW (n : Nat) : Fld := ⟨rCAN_TT_CFG n, 15, 8⟩
def fCAN_TT_CFG_CYC_EXP (n : Nat) : Fld := ⟨rCAN_TT_CFG n, 2, 0⟩
def fCAN_TT_TIMING_CYCLE_LEN (n : Nat) : Fld := ⟨rCAN_TT_TIMING n, 31, 16⟩
def fCAN_TT_TIMING_NTU (n : Nat) : Fld := ⟨rCAN_TT_TIMING n, 15, 0⟩
def fCAN_STS_CFG_STS_ID (n : Nat) : Fld := ⟨rCAN_STS_CFG n, 31, 21⟩
def fCAN_STS_CFG_STS_PERIOD (n : Nat) : Fld := ⟨rCAN_STS_CFG n, 15, 8⟩
def fCAN_STS_CFG_CELLS (n : Nat) : Fld := ⟨rCAN_STS_CFG n, 7, 4⟩
def fCAN_STS_CFG_STS_EN (n : Nat) : Fld := ⟨rCAN_STS_CFG n, 0, 0⟩
def fCAN_STS_CFG_BRS (n : Nat) : Fld := ⟨rCAN_STS_CFG n, 1, 1⟩
def fCAN_WUF_CFG_WUF_RATE (n : Nat) : Fld := ⟨rCAN_WUF_CFG n, 7, 6⟩
def fCAN_WUF_CFG_WUF_DLC (n : Nat) : Fld := ⟨rCAN_WUF_CFG n, 5, 2⟩
def fCAN_WUF_CFG_WUF_DATA_EN (n : Nat) : Fld := ⟨rCAN_WUF_CFG n, 1, 1⟩
def fCAN_WUF_CFG_IDE (n : Nat) : Fld := ⟨rCAN_WUF_CFG n, 0, 0⟩
def fCAN_WUF_ID_V (n : Nat) : Fld := ⟨rCAN_WUF_ID n, 28, 0⟩
def fCAN_WUF_MASK_V (n : Nat) : Fld := ⟨rCAN_WUF_MASK n, 28, 0⟩
def fCAN_WUF_DATA_D (n k : Nat) : Fld := ⟨rCAN_WUF_DATA n k, 31, 0⟩
def fCAN_TRIG_W (n k : Nat) : Fld := ⟨rCAN_TRIG n k, 31, 0⟩
def fCAN_MB_CFG_EN (n k : Nat) : Fld := ⟨rCAN_MB_CFG n k, 31, 31⟩
def fCAN_MB_CFG_DIR (n k : Nat) : Fld := ⟨rCAN_MB_CFG n k, 30, 30⟩
def fCAN_MB_CFG_IDE (n k : Nat) : Fld := ⟨rCAN_MB_CFG n k, 29, 29⟩
def fCAN_MB_CFG_FDF (n k : Nat) : Fld := ⟨rCAN_MB_CFG n k, 28, 28⟩
def fCAN_MB_CFG_BRS (n k : Nat) : Fld := ⟨rCAN_MB_CFG n k, 27, 27⟩
def fCAN_MB_CFG_ONESHOT (n k : Nat) : Fld := ⟨rCAN_MB_CFG n k, 26, 26⟩
def fCAN_MB_CFG_TT (n k : Nat) : Fld := ⟨rCAN_MB_CFG n k, 25, 25⟩
def fCAN_MB_CFG_SEQ_CHK (n k : Nat) : Fld := ⟨rCAN_MB_CFG n k, 24, 24⟩
def fCAN_MB_CFG_DLC (n k : Nat) : Fld := ⟨rCAN_MB_CFG n k, 3, 0⟩
def fCAN_MB_ID_V (n k : Nat) : Fld := ⟨rCAN_MB_ID n k, 28, 0⟩
def fCAN_MB_MASK_V (n k : Nat) : Fld := ⟨rCAN_MB_MASK n k, 28, 0⟩
def fCAN_MB_FWD_FWD_Q (n k : Nat) : Fld := ⟨rCAN_MB_FWD n k, 31, 16⟩
def fCAN_MB_STAT_CNT (n k : Nat) : Fld := ⟨rCAN_MB_STAT n k, 31, 16⟩
def fCAN_MB_STAT_ND (n k : Nat) : Fld := ⟨rCAN_MB_STAT n k, 7, 7⟩
def fCAN_MB_STAT_MSGLOST (n k : Nat) : Fld := ⟨rCAN_MB_STAT n k, 6, 6⟩
def fCAN_MB_STAT_TXPEND (n k : Nat) : Fld := ⟨rCAN_MB_STAT n k, 5, 5⟩
def fCAN_MB_STAT_TXOK (n k : Nat) : Fld := ⟨rCAN_MB_STAT n k, 4, 4⟩
def fCAN_MB_STAT_TXFAIL (n k : Nat) : Fld := ⟨rCAN_MB_STAT n k, 3, 3⟩
def fCAN_MB_STAT_FAILCODE (n k : Nat) : Fld := ⟨rCAN_MB_STAT n k, 2, 0⟩
def fCAN_MB_RXINFO_IDE (n k : Nat) : Fld := ⟨rCAN_MB_RXINFO n k, 31, 31⟩
def fCAN_MB_RXINFO_FDF (n k : Nat) : Fld := ⟨rCAN_MB_RXINFO n k, 30, 30⟩
def fCAN_MB_RXINFO_BRS (n k : Nat) : Fld := ⟨rCAN_MB_RXINFO n k, 29, 29⟩
def fCAN_MB_RXINFO_ESI (n k : Nat) : Fld := ⟨rCAN_MB_RXINFO n k, 28, 28⟩
def fCAN_MB_RXINFO_DLC (n k : Nat) : Fld := ⟨rCAN_MB_RXINFO n k, 27, 24⟩
def fAUX_CFG_T_PEAK (n : Nat) : Fld := ⟨rAUX_CFG n, 31, 24⟩
def fAUX_CFG_I_PEAK (n : Nat) : Fld := ⟨rAUX_CFG n, 23, 16⟩
def fAUX_CFG_I_HOLD (n : Nat) : Fld := ⟨rAUX_CFG n, 15, 8⟩
def fAUX_CFG_MODE (n : Nat) : Fld := ⟨rAUX_CFG n, 1, 0⟩
def fAUX_STATUS_STATE (n : Nat) : Fld := ⟨rAUX_STATUS n, 31, 28⟩
def fAUX_STATUS_CAUSE (n : Nat) : Fld := ⟨rAUX_STATUS n, 27, 24⟩
def fAUX_STATUS_TRIES (n : Nat) : Fld := ⟨rAUX_STATUS n, 19, 16⟩
def fAUX_STATUS_CUT_OPEN (n : Nat) : Fld := ⟨rAUX_STATUS n, 2, 2⟩
def fAUX_STATUS_HOLD_OK (n : Nat) : Fld := ⟨rAUX_STATUS n, 1, 1⟩
def fAUX_STATUS_REQ (n : Nat) : Fld := ⟨rAUX_STATUS n, 0, 0⟩
def fHSF_CFG_STAGGER (n : Nat) : Fld := ⟨rHSF_CFG n, 15, 8⟩
def fHSF_CFG_FEED_LIM (n : Nat) : Fld := ⟨rHSF_CFG n, 7, 0⟩
def fAUX_RETRY_CFG_TRIES : Fld := ⟨rAUX_RETRY_CFG, 19, 16⟩
def fAUX_RETRY_CFG_WAIT : Fld := ⟨rAUX_RETRY_CFG, 9, 0⟩
def fPCH_STATUS_STEP : Fld := ⟨rPCH_STATUS, 31, 28⟩
def fPCH_STATUS_SLOT : Fld := ⟨rPCH_STATUS, 24, 24⟩
def fPCH_STATUS_FALLBACK : Fld := ⟨rPCH_STATUS, 16, 16⟩
def fPCH_STATUS_REFUSED : Fld := ⟨rPCH_STATUS, 1, 1⟩
def fPCH_STATUS_LOADED : Fld := ⟨rPCH_STATUS, 0, 0⟩
def fPCH_REFUSAL_CODE : Fld := ⟨rPCH_REFUSAL, 31, 24⟩
def fPCH_REFUSAL_SLOT : Fld := ⟨rPCH_REFUSAL, 16, 16⟩
def fPCH_REFUSAL_INDEX : Fld := ⟨rPCH_REFUSAL, 15, 0⟩
def fPCH_SLOTS_DSEQ : Fld := ⟨rPCH_SLOTS, 31, 16⟩
def fPCH_SLOTS_STATE_B : Fld := ⟨rPCH_SLOTS, 10, 8⟩
def fPCH_SLOTS_STATE_A : Fld := ⟨rPCH_SLOTS, 2, 0⟩
def fPCH_KEY_PCC_PENDING : Fld := ⟨rPCH_KEY, 4, 4⟩
def fPCH_KEY_FOREIGN : Fld := ⟨rPCH_KEY, 3, 3⟩
def fPCH_KEY_DEFERRED : Fld := ⟨rPCH_KEY, 2, 2⟩
def fPCH_KEY_SAME_KEY : Fld := ⟨rPCH_KEY, 1, 1⟩
def fPCH_KEY_PRESENT : Fld := ⟨rPCH_KEY, 0, 0⟩
def fPCH_SPMAP_W (k : Nat) : Fld := ⟨rPCH_SPMAP k, 31, 0⟩
def fPWR_STATUS_STATE : Fld := ⟨rPWR_STATUS, 31, 28⟩
def fPWR_STATUS_LAST_CAUSE : Fld := ⟨rPWR_STATUS, 15, 8⟩
def fPWR_STATUS_RESTART_OK : Fld := ⟨rPWR_STATUS, 0, 0⟩
def fPWR_WAKE_PREV : Fld := ⟨rPWR_WAKE, 31, 28⟩
def fPWR_WAKE_CAUSE : Fld := ⟨rPWR_WAKE, 7, 0⟩
def fPWR_CFG_AUTO_RUN : Fld := ⟨rPWR_CFG, 3, 3⟩
def fPWR_CFG_STOW_CAN0 : Fld := ⟨rPWR_CFG, 2, 2⟩
def fPWR_CFG_LSN_CAN1 : Fld := ⟨rPWR_CFG, 1, 1⟩
def fPWR_CFG_LSN_CAN0 : Fld := ⟨rPWR_CFG, 0, 0⟩
def fPWR_AUX24_POWER : Fld := ⟨rPWR_AUX24, 31, 16⟩
def fPWR_AUX24_V : Fld := ⟨rPWR_AUX24, 15, 0⟩
def fPWR_EVENTS_LOW : Fld := ⟨rPWR_EVENTS, 0, 0⟩
def fPWR_EVENTS_DROPOUT : Fld := ⟨rPWR_EVENTS, 1, 1⟩
def fPWR_EVENTS_HIGH : Fld := ⟨rPWR_EVENTS, 2, 2⟩
def fPWR_EVENTS_DOMAIN : Fld := ⟨rPWR_EVENTS, 3, 3⟩
def fPWR_EVENTS_PLL : Fld := ⟨rPWR_EVENTS, 4, 4⟩
def fPWR_EVENTS_RESTART_HELD : Fld := ⟨rPWR_EVENTS, 5, 5⟩
def fCLK_STATUS_TCOMP_ACTIVE : Fld := ⟨rCLK_STATUS, 5, 5⟩
def fCLK_STATUS_XTALB_OK : Fld := ⟨rCLK_STATUS, 4, 4⟩
def fCLK_STATUS_XTALA_OK : Fld := ⟨rCLK_STATUS, 3, 3⟩
def fCLK_STATUS_PLLC_LOCK : Fld := ⟨rCLK_STATUS, 2, 2⟩
def fCLK_STATUS_PLLB_LOCK : Fld := ⟨rCLK_STATUS, 1, 1⟩
def fCLK_STATUS_PLLA_LOCK : Fld := ⟨rCLK_STATUS, 0, 0⟩
def fCLK_MGMT_DEV_V : Fld := ⟨rCLK_MGMT_DEV, 15, 0⟩
def fCLK_XTAL_DEV_V : Fld := ⟨rCLK_XTAL_DEV, 15, 0⟩
def fCLK_MGMT_TRIM_V : Fld := ⟨rCLK_MGMT_TRIM, 7, 0⟩
def fCLK_TCOMP_DIE : Fld := ⟨rCLK_TCOMP, 31, 16⟩
def fCLK_TCOMP_TERM : Fld := ⟨rCLK_TCOMP, 15, 0⟩
def fCLK_CFG_TCOMP_EN : Fld := ⟨rCLK_CFG, 0, 0⟩
def fCLK_EVENTS_UNLOCK : Fld := ⟨rCLK_EVENTS, 0, 0⟩
def fCLK_EVENTS_XTAL : Fld := ⟨rCLK_EVENTS, 1, 1⟩
def fCLK_EVENTS_MGMT : Fld := ⟨rCLK_EVENTS, 2, 2⟩
def fHK_STATUS_KEY_OK : Fld := ⟨rHK_STATUS, 8, 8⟩
def fHK_STATUS_SLOT : Fld := ⟨rHK_STATUS, 5, 0⟩
def fHK_CFG_DIE_THR : Fld := ⟨rHK_CFG, 31, 16⟩
def fHK_CFG_DIE_ROR : Fld := ⟨rHK_CFG, 15, 8⟩
def fHK_CFG_THR_FLOOR : Fld := ⟨rHK_CFG, 3, 0⟩
def fHK_DIE_T : Fld := ⟨rHK_DIE, 31, 16⟩
def fHK_DIE_RATE : Fld := ⟨rHK_DIE, 15, 4⟩
def fHK_DIE_INVALID : Fld := ⟨rHK_DIE, 0, 0⟩
def fHK_TSD_TRIPPED : Fld := ⟨rHK_TSD, 31, 31⟩
def fHK_TSD_RESTART_OK : Fld := ⟨rHK_TSD, 30, 30⟩
def fHK_TSD_SECONDS : Fld := ⟨rHK_TSD, 15, 0⟩
def fHK_THROTTLE_EXCEEDED (k : Nat) : Fld := ⟨rHK_THROTTLE k, 31, 31⟩
def fHK_THROTTLE_RELEASING (k : Nat) : Fld := ⟨rHK_THROTTLE k, 30, 30⟩
def fHK_THROTTLE_STEP (k : Nat) : Fld := ⟨rHK_THROTTLE k, 20, 16⟩
def fHK_THROTTLE_LIMIT (k : Nat) : Fld := ⟨rHK_THROTTLE k, 15, 0⟩
def fHK_TEMP_CFG_CELLS (k : Nat) : Fld := ⟨rHK_TEMP_CFG k, 19, 16⟩
def fHK_TEMP_CFG_INV_ACT (k : Nat) : Fld := ⟨rHK_TEMP_CFG k, 8, 8⟩
def fHK_TEMP_CFG_ROR_EN (k : Nat) : Fld := ⟨rHK_TEMP_CFG k, 4, 4⟩
def fHK_TEMP_CFG_TYPE (k : Nat) : Fld := ⟨rHK_TEMP_CFG k, 1, 0⟩
def fHK_TEMP_PAR_B (k : Nat) : Fld := ⟨rHK_TEMP_PAR k, 31, 16⟩
def fHK_TEMP_PAR_R25 (k : Nat) : Fld := ⟨rHK_TEMP_PAR k, 15, 0⟩
def fHK_TEMP_THR_T_THR (k : Nat) : Fld := ⟨rHK_TEMP_THR k, 31, 16⟩
def fHK_TEMP_THR_ROR_LIM (k : Nat) : Fld := ⟨rHK_TEMP_THR k, 15, 8⟩
def fHK_TEMP_THR_T_HYS (k : Nat) : Fld := ⟨rHK_TEMP_THR k, 7, 0⟩
def fHK_TEMP_VAL_VALUE (k : Nat) : Fld := ⟨rHK_TEMP_VAL k, 31, 16⟩
def fHK_TEMP_VAL_RATE (k : Nat) : Fld := ⟨rHK_TEMP_VAL k, 15, 4⟩
def fHK_TEMP_VAL_BELOW (k : Nat) : Fld := ⟨rHK_TEMP_VAL k, 3, 3⟩
def fHK_TEMP_VAL_ROR (k : Nat) : Fld := ⟨rHK_TEMP_VAL k, 2, 2⟩
def fHK_TEMP_VAL_OVER (k : Nat) : Fld := ⟨rHK_TEMP_VAL k, 1, 1⟩
def fHK_TEMP_VAL_INVALID (k : Nat) : Fld := ⟨rHK_TEMP_VAL k, 0, 0⟩
def fMGT_STATUS_UPD_PATH : Fld := ⟨rMGT_STATUS, 31, 30⟩
def fMGT_STATUS_UPD_SLOT : Fld := ⟨rMGT_STATUS, 28, 28⟩
def fMGT_STATUS_FWD_N : Fld := ⟨rMGT_STATUS, 27, 24⟩
def fMGT_STATUS_LOG_STALLED : Fld := ⟨rMGT_STATUS, 2, 2⟩
def fMGT_STATUS_FLUSH_OK : Fld := ⟨rMGT_STATUS, 1, 1⟩
def fMGT_STATUS_HB_HELD : Fld := ⟨rMGT_STATUS, 0, 0⟩
def fMGT_CFG_REQ_ID : Fld := ⟨rMGT_CFG, 31, 21⟩
def fMGT_CFG_RSP_ID : Fld := ⟨rMGT_CFG, 20, 10⟩
def fMGT_CFG_HAL_MGT_EN : Fld := ⟨rMGT_CFG, 2, 2⟩
def fMGT_CFG_SVC_EN : Fld := ⟨rMGT_CFG, 1, 1⟩
def fMGT_LOG_HEAD_HEAD_VALID : Fld := ⟨rMGT_LOG_HEAD, 31, 31⟩

end Sys2Proof.Machine
end

