-- ==== Sys2Proof/Machine/Ops.lean ====
section
/-! DEFINITION. The named operations over the state: registers and fields, counters and event flags, time, power state, CMD registers
(R10–R13), and the raising of faults (R353, R513). -/
namespace Sys2Proof.Machine

/-- What a register reads as before anything writes it: the Reset column (R16); "entry" as for power-on (R442); "factory" from the
module's constants; "image" registers read 0 until the load step. -/
def resetVal (a : Nat) : Word :=
  let inst := a / 65536 % 256
  let off := a % 65536
  match a / 16777216 with
  | 0x01 => if off = 0x0C ∧ inst = 0 then 0xFFF00000#32 else if off = 0x100 then 0xFF000000#32 else 0#32
  | 0x02 => if off = 0x08 ∨ off = 0x0C then 0x20000#32 else 0#32
  | 0x03 => if inst = 56 ∧ off = 0x2C then 0xFF000000#32 else 0#32
  | 0x06 => if inst < 24 ∧ off = 0x34 then (Config.gdPdCal inst).setWidth 32 else 0#32
  | 0x08 => if off = 0x444 then 0x10001#32 else 0#32
  | 0x09 => if off = 0x10 then 1#32 else 0#32
  | 0x0F =>
    if inst = 0 then
      (if off = 0 then 0x20000000#32 else if off = 4 then 0xF0000001#32 else if off = 0x20 then 0x39F#32
       else if off = 0x30 then 8#32 else 0#32)
    else if 0x100 ≤ off ∧ off < 0x140 then (Config.tcXtal ((off - 0x100) / 4)).setWidth 32
    else if 0x140 ≤ off ∧ off < 0x180 then (Config.tcMgmt ((off - 0x140) / 4)).setWidth 32
    else 0#32
  | 0x10 => if 0x40 ≤ off ∧ off < 0x50 then 0x100000#32 else 0#32
  | _ => 0#32

/-- The register at address `a`. -/
def State.rd (s : State) (a : Nat) : Word := s.regs.get resetVal a

/-- The state with `v` in the register at address `a`. -/
def State.wr (s : State) (a : Nat) (v : Word) : State := { s with regs := s.regs.set resetVal a v }

/-- The register as a number. -/
def State.rdN (s : State) (a : Nat) : Nat := (s.rd a).toNat

/-- The register as a signed number. -/
def State.rdI (s : State) (a : Nat) : Int := (s.rd a).toInt

/-- The state with a number in a register, modulo 2³². -/
def State.wrN (s : State) (a : Nat) (v : Nat) : State := s.wr a (BitVec.ofNat 32 v)

/-- The state with a signed number in a register. -/
def State.wrI (s : State) (a : Nat) (v : Int) : State := s.wr a (BitVec.ofInt 32 v)

/-- The word `w` with `v` in bits `hi:lo`. -/
def putBits (w : Word) (hi lo v : Nat) : Word :=
  let m : Word := (BitVec.allOnes 32 >>> (31 - (hi - lo))) <<< lo
  (w &&& ~~~m) ||| ((BitVec.ofNat 32 v <<< lo) &&& m)

/-- A field of a register, as a number. -/
def State.fld (s : State) (f : Fld) : Nat := (s.rd f.reg).toNat / 2 ^ f.lo % 2 ^ (f.hi - f.lo + 1)

/-- A field as a signed number. -/
def State.fldI (s : State) (f : Fld) : Int := sgnW (f.hi - f.lo + 1) (s.fld f)

/-- A flag. -/
def State.on (s : State) (f : Fld) : Bool := s.fld f != 0

/-- The state with a number in a field. -/
def State.setF (s : State) (f : Fld) (v : Nat) : State := s.wr f.reg (putBits (s.rd f.reg) f.hi f.lo v)

/-- The state with a signed number in a field. -/
def State.setFI (s : State) (f : Fld) (v : Int) : State := s.setF f (unsW (f.hi - f.lo + 1) v)

/-- The state with a flag set (events, status bits). -/
def State.set1 (s : State) (f : Fld) : State := s.setF f 1

/-- The state with a flag cleared. -/
def State.clr (s : State) (f : Fld) : State := s.setF f 0

/-- A flag from a Bool. -/
def State.setB (s : State) (f : Fld) (b : Bool) : State := s.setF f (if b then 1 else 0)

/-- A counter that saturates at 0xFFFF_FFFF advances by 1. -/
def State.inc (s : State) (a : Nat) : State := s.wrN a (min (s.rdN a + 1) 0xFFFFFFFF)

/-- A counter that saturates advances by `n`. -/
def State.incBy (s : State) (a n : Nat) : State := s.wrN a (min (s.rdN a + n) 0xFFFFFFFF)

/-- A counter modulo 2³² advances by 1. -/
def State.incMod (s : State) (a : Nat) : State := s.wrN a (s.rdN a + 1)

/-- A counter held in a field advances by 1 and saturates. -/
def State.incF (s : State) (f : Fld) : State := s.setF f (min (s.fld f + 1) (2 ^ (f.hi - f.lo + 1) - 1))

/-- The registers of a list take 0. -/
def State.zero (s : State) : List Nat → State
  | [] => s
  | a :: t => (s.wr a 0).zero t

/-- The fields of a list take 0. -/
def State.zeroF (s : State) : List Fld → State
  | [] => s
  | f :: t => (s.setF f 0).zeroF t

/-- A free value, drawn afresh. -/
def State.draw (s : State) : State × Nat := ({ s with free := s.free + 1 }, Config.freeValue s.free)

/-! ### Time -/

/-- Units per nanosecond, microsecond, millisecond and second (R37). -/
def nsU : Nat := 256
def usU : Nat := 256000
def msU : Nat := 256000000
def secU : Nat := 256000000000

/-- The full count as a number. -/
def State.now (s : State) : Nat := s.clk.count.toNat

/-- The clock domains that read the count through a time bridge (R54); an SDM group runs at 20 MHz or faster. -/
inductive TimeDom where
  | core | hln | gdi | mgmt | bus | si
  | sdm (freq : Nat)
deriving DecidableEq, Repr

/-- The uncertainty of R54 in whole EDGE periods, bits 8:0 of a sampled count being 0 (R40), and the domain's number. -/
def TimeDom.bound : TimeDom → Nat × Nat
  | .core => (1, 0)
  | .hln => (1, 1)
  | .gdi => (6, 2)
  | .mgmt => (3, 3)
  | .bus => (7, 4)
  | .si => (6, 5)
  | .sdm freq => (5000 / freq + 1, 6)

/-- R54: the bridged value of an instant `t` in a domain: never ahead of the count, and behind true time by a free lag within the domain's
uncertainty. -/
def State.bridgedAt (s : State) (d : TimeDom) (t : Nat) : Nat :=
  let t := min t s.now
  t / 512 * 512 - 512 * (Config.bridgeLag d.bound.2 t % (d.bound.1 + 1))

/-- The instant that a short time in an operand names: the last one at or before the present with these bits; one ahead of the count is
the present (R92: a TIME is never ahead of true time). -/
def State.instantOf (s : State) (t : Nat) : Nat :=
  let back := (s.now + 2 ^ 40 - t % 2 ^ 40) % 2 ^ 40
  s.now - (if 2 ^ 39 < back then 0 else back)

/-- The count as a domain reads it now. -/
def State.bridged (s : State) (d : TimeDom) : Nat := s.bridgedAt d s.now

/-- The BUS period of the present, by the count (12.5 ns, R444). -/
def State.busPeriod (s : State) : Nat := s.now / 3200

/-- The short time. -/
def State.short (s : State) : Nat := s.now % 2 ^ 40

/-- The millisecond window of R513; window 0 before the count starts. -/
def State.winMs (s : State) : Nat := if s.clk.counting then s.now / msU + 1 else 0

/-- The second window of R513. -/
def State.winSec (s : State) : Nat := if s.clk.counting then s.now / secU + 1 else 0

/-- R363: the times of a list that lie within the last 60 s of `now`. -/
def last60 (now : Nat) (ts : List Nat) : List Nat := ts.filter (fun t => now - t < 60 * secU)

/-! ### Power state -/

def psSTOW : Nat := 0
def psLISTEN : Nat := 1
def psPITCH : Nat := 2
def psREADY : Nat := 3
def psRUN : Nat := 4
def psBIVOUAC : Nat := 5
def psHALT : Nat := 6

/-- The power state (R433). -/
def State.ps (s : State) : Nat := s.fld fPWR_STATUS_STATE

/-- "Running" (R43): RUN or BIVOUAC. -/
def State.running (s : State) : Bool := s.ps == psRUN || s.ps == psBIVOUAC

def State.inBiv (s : State) : Bool := s.ps == psBIVOUAC

/-- This module's Burgee number (in force from the load step). -/
def State.own (s : State) : Nat := s.fld fHAL_STATUS_OWN_BURGEE

/-! ### CMD registers -/

/-- The completion codes of R12. -/
def stNONE : Nat := 0
def stBUSY : Nat := 1
def stDONE : Nat := 2
def stREFUSED : Nat := 0x8001
def stINVALID : Nat := 0x8002

/-- A CMD register with the value written and its completion status (R10, R12). -/
def State.cmdSet (s : State) (reg val status : Nat) : State := s.wrN reg (status * 65536 + val % 65536)

/-- The completion status of a CMD register. -/
def State.cmdStatus (s : State) (reg : Nat) : Nat := s.rdN reg / 65536

/-- A running command completes. -/
def State.cmdEnd (s : State) (reg status : Nat) : State := s.cmdSet reg (s.rdN reg) status

/-- A write of a command value: ignored in BIVOUAC (R376) and while BUSY (R13); REFUSED in PITCH outside PCH and MGT (R427); else `act`
answers the completion status and the state it leaves. -/
def State.cmd (s : State) (reg val : Nat) (act : State → Nat × State) : State :=
  if s.inBiv ∨ s.cmdStatus reg = stBUSY then s
  else if s.ps = psPITCH ∧ reg / 16777216 ≠ 0x0E ∧ reg / 16777216 ≠ 0x11 then s.cmdSet reg val stREFUSED
  else (act s).2.cmdSet reg val (act s).1

/-- A command that its rule refuses in BIVOUAC (R372). -/
def State.cmdBiv (s : State) (reg val : Nat) (act : State → Nat × State) : State :=
  if s.inBiv ∧ s.cmdStatus reg ≠ stBUSY then s.cmdSet reg val stREFUSED else s.cmd reg val act

/-- Bit `k` of the register at `a` set. -/
def State.setBit (s : State) (a k : Nat) : State := s.wrN a (Nat.lor (s.rdN a) (2 ^ k))

/-- Bit `k` of the register at `a` cleared. -/
def State.clrBit (s : State) (a k : Nat) : State := s.wrN a (Nat.land (s.rdN a) (4294967295 - 2 ^ k))

/-! ### Faults -/

/-- The power state in which codes are not logged (R353): STOW and LISTEN. -/
def State.mute (s : State) : Bool := s.ps == psSTOW || s.ps == psLISTEN

/-- What a command leaves of a module in STOW, in LISTEN or without power: nothing happens there but what wakes it (R433, R434). -/
def State.lit (s t : State) : State := if s.mute then s else t

/-- The clock domain of the unit that raises a code (R356, R444); none for what runs in the EDGE domain with the count itself.  The spec lists
what each domain serves and not each unit's: the units it does not list stand with MGMT (DEDUCED, log 105). -/
def State.faultDom (s : State) (code uidx : Nat) : Option TimeDom :=
  match code / 256 with
  | 0x01 => if uidx < 4 then some .hln else none
  | 0x02 | 0x04 | 0x07 | 0x08 | 0x09 => some .core
  | 0x03 => if uidx < 48 then some (.sdm (s.fld (fSNS_GROUP_CFG_FREQ (uidx / 8)))) else if 64 ≤ uidx ∧ uidx < 88 then some .gdi else some .core
  | 0x05 => none
  | 0x06 => some .gdi
  | 0x0A => some .si
  | 0x0C | 0x0D => some .bus
  | _ => some .mgmt

/-- R356: TIME of a raise, the instant of the condition as the unit's domain reads it. -/
def State.raiseTime (s : State) (code uidx : Nat) : BitVec 64 :=
  match s.faultDom code uidx with
  | none => s.clk.count
  | some d => BitVec.ofNat 64 (s.bridged d)

/-- A raise as it sets out for FLT. -/
def State.mkRaise (s : State) (code uidx : Nat) (detail : BitVec 64) (stop : Bool) : Raise :=
  { time := s.raiseTime code uidx, epoch := s.clk.epoch, code := code, uidx := uidx, detail := detail, stop := stop }

/-- A unit raises a fault code (R353): it reaches FLT, which writes it in a PENNANT_WRITE. -/
def State.raiseWith (s : State) (code uidx : Nat) (detail : BitVec 64) (stop : Bool) : State :=
  if s.mute then s else { s with flt := { s.flt with raised := s.flt.raised ++ [s.mkRaise code uidx detail stop] } }

def State.raiseD (s : State) (code uidx : Nat) (detail : BitVec 64) : State := s.raiseWith code uidx detail false

/-- A raise with DETAIL 0 (R359). -/
def State.raise (s : State) (code uidx : Nat) : State := s.raiseD code uidx 0

/-- A raise of a fault that stops a cell (R357 `CELLSTOP`). -/
def State.raiseStop (s : State) (code uidx : Nat) : State := s.raiseWith code uidx 0 true

/-- CLEARED (R360): low byte 0xF0 of the unit class; DETAIL bytes 0–1 the code, byte 2 the tries. -/
def State.raiseCleared (s : State) (code uidx tries : Nat) : State :=
  s.raiseD (code / 256 * 256 + 0xF0) uidx (BitVec.ofNat 64 (code % 65536 + tries % 256 * 65536))

/-- A key of R513: code, UINDEX and a further qualifier. -/
def winKey (code uidx qual : Nat) : Nat := (code * 256 + uidx % 256) * 16777216 + qual % 16777216

/-- R513: a raise at the first occurrence of its key in window `w`. -/
def State.raiseWin (s : State) (w code uidx qual : Nat) (detail : BitVec 64) : State :=
  if s.flt.win.get (fun _ => 0) (winKey code uidx qual) = w + 1 then s
  else { s with flt := { s.flt with win := s.flt.win.set (fun _ => 0) (winKey code uidx qual) (w + 1) } }.raiseD code uidx detail

/-- First in a 1 ms window. -/
def State.raiseMs (s : State) (code uidx : Nat) : State := s.raiseWin s.winMs code uidx 0 0

/-- First in a 1 s window. -/
def State.raiseSec (s : State) (code uidx : Nat) : State := s.raiseWin s.winSec code uidx 0 0

/-- Nothing of this key was raised in the present 1 s window yet. -/
def State.freshSec (s : State) (code uidx : Nat) : Bool := s.flt.win.get (fun _ => 0) (winKey code uidx 0) != s.winSec + 1

/-- R275: a generation one newer, 0 skipped. -/
def nextGen (g : Nat) : Nat := if 65535 ≤ g then 1 else g + 1

/-! ### Tables of units -/

/-- Bit `k` of a mask. -/
def bit (m k : Nat) : Bool := m / 2 ^ k % 2 == 1

/-- The smallest element below `n` that satisfies `p`. -/
def firstBelow (p : Nat → Bool) : Nat → Option Nat
  | 0 => none
  | n + 1 => match firstBelow p n with
    | some k => some k
    | none => if p n then some n else none

/-- How many numbers below `n` satisfy `p`. -/
def countBelow (p : Nat → Bool) : Nat → Nat
  | 0 => 0
  | n + 1 => countBelow p n + (if p n then 1 else 0)

/-- The mask of the numbers below `n` that satisfy `p`. -/
def maskBelow (p : Nat → Bool) : Nat → Nat
  | 0 => 0
  | n + 1 => maskBelow p n + (if p n then 2 ^ n else 0)

/-- `f` applied to the state for each of the numbers below `n`, in ascending order. -/
def State.each (s : State) (f : State → Nat → State) : Nat → State
  | 0 => s
  | n + 1 => f (s.each f n) n

/-- `f` applied to the state for each element of a list, in order. -/
def State.forEach {α : Type} (s : State) (f : State → α → State) : List α → State
  | [] => s
  | a :: t => (f s a).forEach f t

/-! ### Power domains (R440) -/

def State.domOn (s : State) (d : Nat) : Bool := bit (s.rdN (rPWR_DOM_ON (d / 32))) (d % 32)
def State.setDom (s : State) (d : Nat) (b : Bool) : State :=
  if b then s.setBit (rPWR_DOM_ON (d / 32)) (d % 32) else s.clrBit (rPWR_DOM_ON (d / 32)) (d % 32)

end Sys2Proof.Machine
end

