-- ==== Sys2Proof/Machine/Link.lean ====
section
/-! DEFINITION. Halyard ports as every unit sees them: port states, the routes of R512, and the transmit queues of R61. -/
namespace Sys2Proof.Machine

/-- The port states of `HAL_PORT_STATE.PSTATE`. -/
def pDISABLED : Nat := 0
def pDOWN : Nat := 1
def pTRAIN : Nat := 2
def pALIGN : Nat := 3
def pPROVE : Nat := 4
def pUP : Nat := 5
def pRETIRED : Nat := 6

/-- The time states of `HAL_STATUS.TSTATE`. -/
def tFREE : Nat := 0
def tACQUIRE : Nat := 1
def tLOCKED : Nat := 2
def tMASTER : Nat := 3
def tHOLDOVER : Nat := 4
def tDIVERGED : Nat := 5

/-- A port's state outside the registers. -/
def State.port (s : State) (p : Nat) : PortSt := s.hal.ports.at PortSt.init p

/-- The state with port `p` changed. -/
def State.setPort (s : State) (p : Nat) (x : PortSt) : State :=
  { s with hal := { s.hal with ports := s.hal.ports.put PortSt.init p x } }

/-- The state with port `p` changed by `f`. -/
def State.modPort (s : State) (p : Nat) (f : PortSt → PortSt) : State := s.setPort p (f (s.port p))

/-- A port's state (R63). -/
def State.pst (s : State) (p : Nat) : Nat := s.fld (fHAL_PORT_STATE_PSTATE p)

def State.setPst (s : State) (p v : Nat) : State := s.setF (fHAL_PORT_STATE_PSTATE p) v

/-- The peer of a port, 255 none. -/
def State.peer (s : State) (p : Nat) : Nat := s.fld (fHAL_PORT_STATE_PEER p)

/-- The time state. -/
def State.ts (s : State) : Nat := s.fld fHAL_STATUS_TSTATE

/-- R44, R45: time permits cross-module traffic. -/
def State.timeOk (s : State) : Bool := s.on fHAL_STATUS_RUN_TIME_OK

/-- The reach mask of a port in UP; nothing otherwise (R512). -/
def State.reachOf (s : State) (p : Nat) : Nat :=
  if s.pst p = pUP then (s.port p).reach.toNat else 0

/-- R512: the port for an item addressed to Burgee number `b`: the UP port whose peer is b; else the lowest UP port whose reach
mask holds b; else the port to the upstream neighbour unless this module is the master. -/
def State.route (s : State) (b : Nat) : Option Nat :=
  match firstBelow (fun p => s.pst p == pUP && s.peer p == b) 4 with
  | some p => some p
  | none =>
    match firstBelow (fun p => s.pst p == pUP && bit (s.reachOf p) b) 4 with
    | some p => some p
    | none =>
      let d := s.fld fHAL_STATUS_DEPTH
      if s.ts ≠ tMASTER ∧ 1 ≤ d ∧ d ≤ 8 ∧ s.pst (s.fld fHAL_STATUS_UPPORT) = pUP then some (s.fld fHAL_STATUS_UPPORT) else none

/-- The classes of R61 below the time slot. -/
inductive TxClass where
  | safety | commit | record | mirror | mgmt
deriving DecidableEq, Repr

/-- A slot joins the transmit queue of its class on port `p` (R61: order of arrival within a class). -/
def State.transmit (s : State) (p : Nat) (c : TxClass) (x : Slot) : State :=
  s.modPort p (fun q => match c with
    | .safety => { q with txSafety := q.txSafety ++ [x] }
    | .commit => { q with txCommit := q.txCommit ++ [x] }
    | .record => { q with txRecord := q.txRecord ++ [x] }
    | .mirror => { q with txMirror := q.txMirror ++ [x] }
    | .mgmt => { q with txMgmt := q.txMgmt ++ [x] })

/-- A record's transmit class: commit records before other Hoist records (R61, R72). -/
def recClass (r : Rec) : TxClass := if bit r.flags.toNat 2 then .commit else .record

/-- A slot for Burgee number `b` goes to the port of its route, or is dropped: the port chosen, if any. -/
def State.sendSlot (s : State) (b : Nat) (c : TxClass) (x : Slot) : State × Bool :=
  match s.route b with
  | some p => (s.transmit p c x, true)
  | none => (s, false)

/-- Everything held for the port leaves with it: queues, reach, identity (R64, R512).  DESIGN CHOICE (log 41): the receive credit starts at 0 on every
entry to training; no rule states it. -/
def PortSt.forget (q : PortSt) : PortSt :=
  { q with
    alignCnt := 0, proveCnt := 0, identity := none, uncorrTimes := [], peerMaster := 255, peerDepth := 15, peerCand := 255,
    peerTag := 0, lseqRx := none, peerXseq := 0, peerStamp := 0, sent := [], credit := 0, freed := 0, txSafety := [], txCommit := [],
    txRecord := [], txMirror := [], txMgmt := [], rx := [], reach := 0, namesUs := false, delayBad := false, conflict := false,
    fenceOwed := [], foreignTag := 0 }

/-- The lowest candidate that peers without a master report on ports in PROVE and UP (R41, R59), 255 none. -/
def State.heardCand (s : State) : Nat :=
  [0, 1, 2, 3].foldl (fun m p => if (s.pst p = pPROVE ∨ s.pst p = pUP) ∧ (s.port p).peerMaster = 255 then min m (s.port p).peerCand else m) 255

def State.showCand (s : State) : State := { s with hal := { s.hal with cand := s.heardCand } }

/-- A port leaves whatever state it is in for state `v` and forgets its peer; a departure from UP notes the peer and the time.  DESIGN CHOICE
(log 42): a retrain forgets it as the entry to DOWN of R64 does. -/
def State.portLeave (s : State) (p v : Nat) : State :=
  let q := (s.port p).forget
  let q := if s.pst p = pUP then { q with lastPeer := s.peer p, leftAt := s.now } else q
  (((s.setPort p q).setF (fHAL_PORT_STATE_PEER p) 255).setPst p v).showCand

/-- R65: a port enters RETIRED; 0x0103.  Its domains go off but in BIVOUAC, where they stay as at entry (R441). -/
def State.portRetire (s : State) (p : Nat) : State :=
  let s := ((s.portLeave p pRETIRED).set1 (fHAL_PORT_EVENTS_RETIRED p)).raise 0x0103 p
  if s.inBiv then s else (s.setDom (48 + 2 * p) false).setDom (49 + 2 * p) false

/-- A codeword without slots in the lane: 1 idle, 2 training, 3 retrain request (R57). -/
def State.sendBare (s : State) (p ty : Nat) : State :=
  s.modPort p (fun q =>
    let cr := min q.freed 1023
    { q with freed := q.freed - cr,
             lane := some { header := BitVec.ofNat 64 (ty * 2 ^ 60 + cr * 2 ^ 20 + s.own * 2 ^ 12), slots := List.replicate 6 0#256, corrected := 0 } })

/-- A port in DOWN whose pluggable is present and accepted, without RX_LOS, starts training (R63). -/
def State.portTryTrain (s : State) (p : Nat) : State :=
  let q := s.port p
  if s.pst p = pDOWN ∧ q.present ∧ q.accepted ∧ ¬ q.rxLos then (s.setPst p pTRAIN).sendBare p 2 else s

/-- R63, R64: a training failure is counted; the third in a row retires the port, any other trains again while it may. -/
def State.trainFail (s : State) (p : Nat) : State :=
  let n := (s.port p).trainFails + 1
  let s := s.modPort p (fun q => { q with trainFails := n })
  if 3 ≤ n then s.portRetire p else s.portTryTrain p

/-- R63: a counted retrain sends the port to TRAIN; the ninth inside 60 s retires it.  The peer has asked for it, or is asked (DEDUCED, log 43). -/
def State.portRetrain (s : State) (p : Nat) (asked : Bool) : State :=
  let ts := s.now :: last60 s.now (s.port p).retrainTimes
  let s := s.portLeave p pTRAIN
  let s := s.modPort p (fun q => { q with retrainTimes := ts.take 15 })
  let s := (s.setF (fHAL_PORT_STATE_RETRAINS p) (min ts.length 15)).set1 (fHAL_PORT_EVENTS_RETRAIN p)
  let s := s.raise 0x0102 p
  if 9 ≤ ts.length then s.portRetire p else s.sendBare p (if asked then 2 else 3)

/-- R44, R62, R438: slots of records, mirrored streams and safety frames are taken and sent only with time in order and outside
PITCH, HALT, STOW and LISTEN. -/
def State.crossOk (s : State) : Bool :=
  s.timeOk && (s.ps == psREADY || s.ps == psRUN || s.ps == psBIVOUAC)

end Sys2Proof.Machine
end

