-- ==== Sys2Proof/Machine/Cells.lean ====
section
/-! DEFINITION. Drive cells as every unit sees them: the legs, channels and outputs of a cell (R23, R147), requests to the safety
island (R331, R373), holds, and the fencing of a cell (R276). -/
namespace Sys2Proof.Machine

/-- A unit hands a record to the queue fabric. -/
def State.emit (s : State) (r : Rec) : State := { s with hq := { s.hq with fabric := s.hq.fabric ++ [r.sealed] } }

/-- Switches of a leg by `TYPE` (R147). -/
def legSize (ty : Nat) : Nat :=
  match ty with
  | 1 => 2
  | 2 => 4
  | 3 => 4
  | 4 => 1
  | _ => 0

def State.legType (s : State) (n : Nat) : Nat := s.fld (fEDG_LEG_CFG_TYPE n)
def State.legBase (s : State) (n : Nat) : Nat := s.fld (fEDG_LEG_CFG_BASE n)
def State.legCell (s : State) (n : Nat) : Nat := s.fld (fEDG_LEG_CFG_CELL n)
/-- Switches of leg `n`. -/
def State.legN (s : State) (n : Nat) : Nat := legSize (s.legType n)

/-- Output `o` belongs to leg `n`. -/
def State.inLeg (s : State) (n o : Nat) : Bool := s.legBase n ≤ o && o < s.legBase n + s.legN n

/-- The leg of an output, if any (R147). -/
def State.legOf (s : State) (o : Nat) : Option Nat := firstBelow (fun n => s.inLeg n o) 12

/-- Cell `c` owns output and gate channel `o`. -/
def State.cellHas (s : State) (c o : Nat) : Bool :=
  match s.legOf o with
  | some n => s.legCell n == c
  | none => false

/-- A cell with at least one gate channel is used (R26). -/
def State.cellUsed (s : State) (c : Nat) : Bool := (firstBelow (fun o => s.cellHas c o) 24).isSome

/-- The loop engine that serves cell `c`: its own, or LE4 while that serves the cell (R263). -/
def State.leOf (s : State) (c : Nat) : Nat :=
  if s.on (fLE_STATUS_SERVES_VALID 4) && s.fld (fLE_STATUS_SERVES 4) == c then 4 else c

/-- A unit of cell `c` raises an internal request for SS1 (R331): the demand stands until the next Pitch. -/
def State.requestSs1 (s : State) (c : Nat) : State :=
  s.setF (fSI_CELL_STATUS_DEMAND c) (Nat.lor (s.fld (fSI_CELL_STATUS_DEMAND c)) 32)

/-- The gate-channel states of `GD_STATUS.STATE` (R175). -/
def gUNOWNED : Nat := 0
def gDIAG : Nat := 1
def gARMED : Nat := 2
def gLATCHED : Nat := 3
def gUNPLUGGED : Nat := 4
def gFENCED : Nat := 5
def gRETIRED : Nat := 6

def State.gst (s : State) (g : Nat) : Nat := s.fld (fGD_STATUS_STATE g)
def State.gate (s : State) (g : Nat) : GateSt := s.gd.ch.at GateSt.init g
def State.setGate (s : State) (g : Nat) (x : GateSt) : State := { s with gd := { s.gd with ch := s.gd.ch.put GateSt.init g x } }
def State.modGate (s : State) (g : Nat) (f : GateSt → GateSt) : State := s.setGate g (f (s.gate g))

/-- The drive of a gate that is not driven on: high impedance in DIAG and in a diagnostics run (R177, R180), else the strong sink; the
pull-down without a supply (R161). -/
def State.restDrive (s : State) (g : Nat) : Drive :=
  if ¬ (s.gate g).supplyOn then .pullDown else if s.gst g = gDIAG ∨ (s.gate g).inRun then .hiZ else .strongSink

/-- The gate is held off; a soft turn-off in progress runs on (R169). -/
def State.sink (s : State) (g : Nat) : State :=
  if (s.gate g).drive = .soft then s else s.modGate g (fun q => { q with drive := s.restDrive g, blanking := false })

/-- Legs and outputs outside the registers. -/
def State.leg (s : State) (n : Nat) : LegSt := s.edg.legs.at LegSt.init n
def State.setLeg (s : State) (n : Nat) (x : LegSt) : State := { s with edg := { s.edg with legs := s.edg.legs.put LegSt.init n x } }
def State.modLeg (s : State) (n : Nat) (f : LegSt → LegSt) : State := s.setLeg n (f (s.leg n))
def State.out (s : State) (o : Nat) : OutSt := s.edg.outs.at OutSt.init o
def State.setOut (s : State) (o : Nat) (x : OutSt) : State := { s with edg := { s.edg with outs := s.edg.outs.put OutSt.init o x } }

/-- The present pattern of a leg (`OUT`), bit 0 its `BASE`. -/
def State.pat (s : State) (n : Nat) : Nat := s.fld (fEDG_LEG_STATUS_OUT n)

/-- An output changes level at `t` (R141): status, last edge, edge count.  Edges of one EDGE period merge, and so do edges less than 2 ns
apart in successive ones, which would leave a shorter pulse (DEDUCED, log 71). -/
def State.edge (s : State) (o : Nat) (lvl : Bool) (t : Nat) : State :=
  let last := s.rdN (rEDG_EO_LAST_LO o) + s.rdN (rEDG_EO_LAST_HI o) * 4294967296
  let merged := last ≠ 0 ∧ (last / 512 = t / 512 ∨ (last ≤ t ∧ t < last + 512))
  let s := if merged then
      ((s.inc (rEDG_EO_CNT_MERGED o)).set1 fEDG_EVENTS_MERGED).raiseMs 0x0509 o
    else s
  let s := (s.setB (fEDG_EO_STATUS_LEVEL o) lvl).incMod (rEDG_EO_CNT_EDGES o)
  let s := ((s.wrN (rEDG_EO_LAST_LO o) t).wrN (rEDG_EO_LAST_HI o) (t / 4294967296 % 4294967296)).setB (fGD_STATUS_CMD_LEVEL o) lvl
  if lvl then s.setOut o { s.out o with ons := (s.out o).ons + 1 } else s.setOut o { s.out o with offAt := t }

/-- A history without what ended more than 3 ms, longer than any carrier period, before `t`. -/
def trimHist (t : Nat) : List (Nat × Nat) → List (Nat × Nat)
  | [] => []
  | x :: l => if x.1 + 3 * msU < t then [x] else x :: trimHist t l

/-- A leg shows pattern `p` from `t` on. -/
def State.showPat (s : State) (n p t : Nat) : State :=
  (s.setF (fEDG_LEG_STATUS_OUT n) p).modLeg n (fun q => { q with hist := (t, p) :: trimHist t q.hist })

/-- One switch of a leg takes a level at `t`. -/
def State.switch (s : State) (n k : Nat) (lvl : Bool) (t : Nat) : State :=
  let o := s.legBase n + k
  let p := s.pat n
  if bit p k = lvl then s
  else (s.edge o lvl t).showPat n (if lvl then p + 2 ^ k else p - 2 ^ k) t

/-- R155: every switch of the leg turns off at `t`, but for the inner switches of an NPC leg whose outer neighbour is on, and those that
already wait: they go off T3L_INNER after their neighbour.  `t` becomes the leg's trip instant. -/
def State.legOff (s : State) (n : Nat) (t : Nat) (soft : Bool) : State :=
  let p := s.pat n
  let npc := s.legType n == 2
  let wait := (s.leg n).innerPend
  let keep1 := npc && bit p 1 && (bit p 0 || bit wait 1)
  let keep2 := npc && bit p 2 && (bit p 3 || bit wait 2)
  let s := s.each (fun s k => if (k == 1 && keep1) || (k == 2 && keep2) then s else s.switch n k false t) (s.legN n)
  s.modLeg n (fun q => { q with tripAt := t, innerPend := (if keep1 then 2 else 0) + (if keep2 then 4 else 0), innerSoft := soft || (wait != 0 && q.innerSoft) })

/-- A hold of ranks 1–3 starts on leg `n` now (R33, R155). -/
def State.legHold (s : State) (n : Nat) : State := s.legOff n s.now false

/-- Cell `c` is on the DC link of the DC-link procedure (R235). -/
def State.onLink (s : State) (c : Nat) : Bool := s.cellUsed c && s.fld (fBND_SRC_VDC_SRC c) == s.fld fBND_DCL_CFG_DCL_VDC

/-- R235: the chopper is available; a link without chopper leg has none. -/
def State.chopAvail (s : State) : Bool :=
  let n := s.fld fBND_DCL_CFG_CH_LEG
  let o := s.legBase n
  n != 15 && !s.on fBND_DCL_STATUS_CHOP_HOT && s.gst o == gARMED && !s.on (fGD_STATUS_SAFE_OFF o)
    && decide (s.fld (fEDG_LEG_STATUS_TSTATE n) < 2)

/-- A fault 0x0720 + k of the DC-link procedure: event bit, `CAUSE`, raise. -/
def State.dclRaise (s : State) (k : Nat) : State :=
  ((s.setBit rBND_DCL_EVENTS k).setF fBND_DCL_STATUS_CAUSE (k + 1)).raise (0x0720 + k) 255

/-- `CHOP_AVAIL` and the cells' `CHOP_UNAVAIL` follow; 0x0725 when the chopper becomes unavailable (R235). -/
def State.noteChop (s : State) : State :=
  let was := s.on fBND_DCL_STATUS_CHOP_AVAIL
  let now := s.chopAvail
  let s := (s.setB fBND_DCL_STATUS_CHOP_AVAIL now).each (fun s c => if s.onLink c then s.setB (fFLT_CELL_CHOP_UNAVAIL c) (!now) else s) 4
  if was && !now then s.dclRaise 5 else s

/-- A channel enters a state of R175. -/
def State.setGst (s : State) (g x : Nat) : State := (s.setF (fGD_STATUS_STATE g) x).noteChop

/-- R220: a cell's start procedure stops, the regulator having halted or the island having started STO or SS1. -/
def State.stHalt (s : State) (c : Nat) : State :=
  let x := s.fld (fBND_ST_STATUS_STATE c)
  if x = 0 ∨ x = 13 then s else (s.setF (fBND_ST_STATUS_STATE c) 1).setF (fBND_ST_STATUS_CAUSE c) 9

/-- A start procedure outside its registers. -/
def State.stC (s : State) (c : Nat) : StCell := s.st.cell.at StCell.init c
def State.modSt (s : State) (c : Nat) (f : StCell → StCell) : State :=
  { s with st := { s.st with cell := s.st.cell.put StCell.init c (f (s.stC c)) } }

/-- R290, R231: observer duties of a cell stop; in a start whose verdict is not made, the 2 s wait between tries (R227) among it, it is recorded
as not made. -/
def State.obsStopped (s : State) (c : Nat) : State :=
  let s := s.set1 (fFLT_CELL_OBS_STOPPED c)
  let x := s.fld (fBND_ST_STATUS_STATE c)
  if ((2 ≤ x ∧ x ≤ 11) ∨ (x = 1 ∧ (s.stC c).retry)) ∧ ¬ (s.stC c).judged then
    ((s.modSt c (fun q => { q with judged := true, keLost := true })).set1 (fBND_ST_EVENTS_KE_LOST c)).raise 0x0718 c
  else s

/-- R193: the regulator of cell `c` enters HALTED with a cause. -/
def State.bndHalt (s : State) (c cause : Nat) : State :=
  if s.fld (fBND_STATUS_STATE c) = 0 then s
  else (((s.setF (fBND_STATUS_STATE c) 6).setF (fBND_STATUS_CAUSE c) cause).set1 (fBND_EVENTS_HALTED c)).stHalt c

/-- R175: a channel enters FENCED. -/
def State.fenceChan (s : State) (g : Nat) : State :=
  if s.gst g = gRETIRED then s
  else (((s.setGst g gFENCED).set1 (fGD_EVENTS_FENCED g)).modGate g (fun q => { q with waiting := false, inRun := false })).sink g
    |>.raise 0x060B g

/-- The legs of a cell start a hold. -/
def State.cellHold (s : State) (c : Nat) : State :=
  s.each (fun s n => if s.legN n ≠ 0 ∧ s.legCell n = c then s.legHold n else s) 12

/-- `GD_OWN` of every channel of a cell (R275). -/
def State.setOwner (s : State) (c owner gen : Nat) : State :=
  s.each (fun s o => if s.cellHas c o then (s.setF (fGD_OWN_OWNER o) owner).setF (fGD_OWN_GEN o) gen else s) 24

/-- The owner of a cell's stage, as its first channel names it; this module when the cell has none. -/
def State.cellOwner (s : State) (c : Nat) : Nat :=
  match firstBelow (fun o => s.cellHas c o) 24 with
  | some o => s.fld (fGD_OWN_OWNER o)
  | none => s.own

/-- R276: the effect of a FENCE that acts on cell `c`: G and the owner, channels FENCED, regulator and engine to IDLE (a FAILED engine
stays so, R244) with no further record, PSTATE FENCED, 0x0818. -/
def State.fenceCell (s : State) (c owner gen : Nat) : State :=
  let e := s.leOf c
  let s := (s.setF (fLE_PAR_GEN_G c) gen).setOwner c owner gen
  let s := s.each (fun s o => if s.cellHas c o then s.fenceChan o else s) 24
  let s := s.cellHold c
  let s := s.setF (fBND_STATUS_STATE c) 1
  let s := if s.fld (fLE_STATUS_STATE e) = 4 then s else s.setF (fLE_STATUS_STATE e) 1
  let s := (s.setF (fLE_PAR_STATUS_PSTATE c) 7).set1 (fLE_PAR_EVENTS_FENCED c)
  s.raise 0x0818 c

/-- R280: a cell with a standby partner, not itself fenced. -/
def State.isProtected (s : State) (c : Nat) : Bool :=
  s.fld (fLE_PAR_STAGE_PARTNER c) != 255 && s.fld (fLE_PAR_CFG_ROLE c) != 3 && s.fld (fLE_PAR_STATUS_PSTATE c) != 7

/-- R280: a cell stops for a controller-side cause: GIVE, its legs held off, when it is protected; otherwise SS1. -/
def State.giveOrSs1 (s : State) (c : Nat) : State :=
  if s.isProtected c then (s.setF (fLE_PAR_STATUS_PSTATE c) 6).cellHold c else s.requestSs1 c

/-- R368: the 50 % cap acts on cell `c`. -/
def State.cap50 (s : State) (c : Nat) : State := s.set1 (fFLT_CELL_TQ_CAP50 c)

/-- The island raises a code: `LAST_FAULT` and the raise (R352). -/
def State.siRaise (s : State) (code uidx : Nat) : State := (s.setF fSI_STATUS_LAST_FAULT code).raise code uidx

/-- R106, R113, R341: the torque monitor of cell `c` runs single-path, under the 50 % cap. -/
def State.singlePath (s : State) (c : Nat) : State :=
  let s := s.cap50 c
  if s.on (fFLT_CELL_SINGLE_PATH c) then s
  else ((s.set1 (fFLT_CELL_SINGLE_PATH c)).set1 (fSI_CELL_STATUS_SINGLE_PATH c)).siRaise 0x0A08 c

end Sys2Proof.Machine
end

