-- ==== Sys2Proof/Machine/FpBase.lean ====
section
/-! DEFINITION. Field processors as other units see them: states, duties, registers and memories, and the inbox (R291–R296). -/
namespace Sys2Proof.Machine

/-- The states of `FP_STATUS.STATE`. -/
def fpOFF : Nat := 0
def fpRUNNING : Nat := 1
def fpSPARE : Nat := 2
def fpLOADING : Nat := 3
def fpHALTED : Nat := 4
def fpRETIRED : Nat := 5
def fpTESTING : Nat := 6

def State.fpState (s : State) (f : Nat) : Nat := s.fld (fFP_STATUS_STATE f)
def State.core (s : State) (f : Nat) : FpCore := s.fp.core.at FpCore.init f
def State.setCore (s : State) (f : Nat) (c : FpCore) : State := { s with fp := { s.fp with core := s.fp.core.put FpCore.init f c } }
def State.modCore (s : State) (f : Nat) (g : FpCore → FpCore) : State := s.setCore f (g (s.core f))

/-- Processor `f` serves cell `c`. -/
def State.fpServes (s : State) (f c : Nat) : Bool := s.on (fFP_STATUS_CELL_VALID f) && s.fld (fFP_STATUS_CELL f) == c

/-- The running processor of cell `c` in role `r` (0 control, 1 observer). -/
def State.fpOf (s : State) (c r : Nat) : Option Nat :=
  firstBelow (fun f => s.fpServes f c && s.fld (fFP_STATUS_ROLE f) == r && s.fpState f == fpRUNNING) 10

/-! ### Registers -/

/-- The physical register a name means (R294, R296); none for g0. -/
def State.fpPhys (s : State) (f : Nat) (r : FpReg) : Option Nat :=
  match r with
  | .g n => if n.val = 0 then none else some n.val
  | .w n => some (8 + 16 * s.fld (fFP_STATUS_WCUR f) + n.val)
  | .q n => some (264 + (n.val + 32 - s.fld (fFP_STATUS_QOFS f)) % 32)

/-- A physical register's value. -/
def FpCore.phys (c : FpCore) (p : Nat) : Word := c.regs.at 0 p

/-- A register written, with its parity. -/
def FpCore.setPhys (c : FpCore) (p : Nat) (v : Word) : FpCore := { c with regs := c.regs.put 0 p v, parity := c.parity.put false p false }

/-- A register as it reads; g0 reads 0. -/
def State.fpReg (s : State) (f : Nat) (r : FpReg) : Word :=
  match s.fpPhys f r with
  | some p => (s.core f).phys p
  | none => 0

/-- A register written; g0 ignores it. -/
def State.setFpReg (s : State) (f : Nat) (r : FpReg) (v : Word) : State :=
  match s.fpPhys f r with
  | some p => s.modCore f (fun c => c.setPhys p v)
  | none => s

def FpCore.acc (c : FpCore) (n : Nat) : Int := if n = 0 then c.acc0.toInt else c.acc1.toInt

/-- The place of an accumulator among the registers under parity. -/
def accPhys (n : Nat) : Nat := 296 + n

def FpCore.setAcc (c : FpCore) (n : Nat) (v : Int) : FpCore :=
  let c := { c with parity := c.parity.put false (accPhys n) false }
  if n = 0 then { c with acc0 := BitVec.ofInt 40 v } else { c with acc1 := BitVec.ofInt 40 v }

/-! ### Data SRAM -/

/-- Byte `a` of data SRAM. -/
def FpCore.byte (c : FpCore) (a : Nat) : Nat := (c.dmem.at 0 (a / 4)).toNat / 2 ^ (8 * (a % 4)) % 256

/-- Data SRAM with byte `a` replaced. -/
def FpCore.setByte (c : FpCore) (a v : Nat) : FpCore :=
  let lo := 8 * (a % 4)
  { c with dmem := c.dmem.put 0 (a / 4) (putBits (c.dmem.at 0 (a / 4)) (lo + 7) lo v) }

/-- `n` bytes of data SRAM from `a`, little-endian. -/
def FpCore.bytes (c : FpCore) (a : Nat) : Nat → Nat
  | 0 => 0
  | n + 1 => c.byte a + 256 * c.bytes (a + 1) n

/-- Data SRAM with `n` bytes from `a` replaced. -/
def FpCore.putBytes (c : FpCore) (a v : Nat) : Nat → FpCore
  | 0 => c
  | n + 1 => (c.setByte a v).putBytes (a + 1) (v / 256) n

/-- The data SRAM word of byte `a` in `FpCore.flips`. -/
def dataWord (a : Nat) : Nat := 16384 + a / 4

/-- The words that bytes `a … a + n − 1` touch. -/
def wordsOf (a n : Nat) : List Nat := (List.range ((a + n + 3) / 4 - a / 4)).map (fun k => dataWord (4 * (a / 4 + k)))

/-- The words of which `a … a + n − 1` are all four bytes. -/
def wholeWords (a n : Nat) : List Nat := (List.range ((a + n) / 4 - (a + 3) / 4)).map (fun k => dataWord (4 * ((a + 3) / 4 + k)))

/-- Bits of a word have flipped no more: the word has been written whole or corrected (R292). -/
def FpCore.mended (c : FpCore) (ws : List Nat) : FpCore := { c with flips := ws.foldl (fun m w => m.put 0 w 0) c.flips }

/-- A write of `n` bytes from `a`: a word written whole takes a code of its own; an error in a word written in part stays (DESIGN CHOICE, log 95). -/
def FpCore.setBytes (c : FpCore) (a v n : Nat) : FpCore := (c.putBytes a v n).mended (wholeWords a n)

/-- The byte a load of the processor's own sees (R305): the youngest buffered store's, else data SRAM's. -/
def FpCore.seen (c : FpCore) (a : Nat) : Nat :=
  match c.sb.reverse.find? (fun e => e.addr ≤ a && a < e.addr + e.size) with
  | some e => e.data / 2 ^ (8 * (a - e.addr)) % 256
  | none => c.byte a

/-- `n` bytes as the processor's own loads see them. -/
def FpCore.seenN (c : FpCore) (a : Nat) : Nat → Nat
  | 0 => 0
  | n + 1 => c.seen a + 256 * c.seenN (a + 1) n

/-- The oldest buffered store drains. -/
def FpCore.drain (c : FpCore) : FpCore :=
  match c.sb with
  | e :: t => { c with sb := t }.setBytes e.addr e.data e.size
  | [] => c

/-- Every buffered store drains, in order. -/
def FpCore.drainAll (c : FpCore) : Nat → FpCore
  | 0 => c
  | n + 1 => c.drain.drainAll n

/-! ### Correction and parity (R292) -/

/-- A word among these is beyond correction. -/
def FpCore.lost (c : FpCore) (ws : List Nat) : Bool := ws.any (fun w => decide (2 ≤ c.flips.at 0 w))

/-- The words among these that a read corrects. -/
def FpCore.single (c : FpCore) (ws : List Nat) : List Nat := (ws.eraseDups).filter (fun w => c.flips.at 0 w == 1)

/-- R292: single-bit errors in words that are read: corrected, written back, counted, 0x0906. -/
def State.eccRead (s : State) (f : Nat) (ws : List Nat) : State :=
  match (s.core f).single ws with
  | [] => s
  | l => (((s.modCore f (fun c => c.mended l)).incBy (rFP_CNT_ECC f) l.length).set1 (fFP_EVENTS_ECC_CORR f)).raiseSec 0x0906 f

/-! ### Inbox (R293) -/

/-- An entry of a source of cell `c` sets out for the inbox of every processor that runs for the cell. -/
def State.toInbox (s : State) (c : Nat) (e : Quad) : State :=
  s.each (fun s f => if s.fpServes f c ∧ s.fpState f = fpRUNNING then s.modCore f (fun x => { x with inPend := x.inPend ++ [e] }) else s) 10

/-- A record has fired on a queue of processor `f` (WAIT, R304). -/
def State.noteFired (s : State) (f : Nat) : State :=
  if f < 10 ∧ s.on (fFP_STATUS_WAITING f) then s.modCore f (fun c => { c with evRec := true }) else s

end Sys2Proof.Machine
end

