-- ==== Sys2Proof/Machine/Opcodes.lean ====
section
/-! DEFINITION. Which queues exist (R67, R68), and which opcodes with which payloads each takes (check 3 of R75, R511). -/
namespace Sys2Proof.Machine

/-- R382: a buffer of a CAN channel that hardware keeps for itself. -/
def State.canReserved (s : State) (n b : Nat) : Bool :=
  (n < 2 && b < 2 && s.on fSI_SF_CFG_SF_EN) || (n < 2 && b == 2) || (3 ≤ b && b ≤ 6 && s.on (fCAN_STS_CFG_STS_EN n))
    || (n == 3 && b < 2 && s.on (fCAN_CFG_MGT_EN 3))

/-- R390: an enabled, unreserved transmit buffer of channel `n`. -/
def State.canTxBuf (s : State) (n b : Nat) : Bool :=
  decide (b < 128) && s.on (fCAN_MB_CFG_EN n b) && s.on (fCAN_MB_CFG_DIR n b) && !s.canReserved n b

/-- R145: a carrier period P in range. -/
def perOk (p : Nat) : Bool := 640000 ≤ p && p ≤ 160000000

/-- R100. -/
def decAccepts (op : Nat) (p : Quad) : Bool :=
  (op == 0x10 && 1 ≤ p.b 0 && p.b 0 ≤ 4 && 3 ≤ p.b 1 && p.b 1 ≤ 10 && p.from 2 == 0) || (op == 0x11 && p.from 0 == 0)

/-- R107, R108: SAR0 and SAR1 take AN0–AN7, SAR2 and SAR3 take AN8–AN15. -/
def sarAccepts (n op : Nat) (p : Quad) : Bool :=
  (op == 0x10 && p.b 0 / 8 == n / 2 && p.b 1 ≤ 4) || (op == 0x11 && p.b 0 ≤ 15 && 1 ≤ p.b 1 && p.b 1 ≤ 16)

/-- R145. -/
def State.carAccepts (s : State) (n op : Nat) (p : Quad) : Bool :=
  p.from 4 == 0 && ((op == 0x10 && (perOk (p.w 0) || (p.w 0 == 0 && perOk (s.rdN (rEDG_CAR_PERIOD n)))))
    || (op == 0x11 && perOk (p.w 0)) || (op == 0x12 && p.w 0 == 0))

/-- R148: LEG_SET at the `BASE` output, with a state of the leg's type; OUT_SET at any. -/
def State.eoAccepts (s : State) (o op : Nat) (p : Quad) : Bool :=
  match s.legOf o with
  | none => false
  | some n =>
    p.from 1 == 0 && ((op == 0x10 && o == s.legBase n && p.b 0 < (if s.legType n = 1 then 3 else if s.legType n = 4 then 2 else 4))
      || (op == 0x11 && p.b 0 < 2))

/-- R178, R114. -/
def gdAccepts (k op : Nat) (p : Quad) : Bool :=
  op == 0x10 && ((k == 0 && p.from 0 == 0) || (k == 8 && p.b 0 < 2 && p.from 1 == 0))

/-- R213. -/
def bndAccepts (k op : Nat) (p : Quad) : Bool :=
  (k == 0 && op == 0x10 && ((p.b 0 == 0 && p.from 3 == 0) || (p.b 0 == 1 && p.from 5 == 0)))
    || (k == 0 && op == 0x11 && p.b 0 < 3 && p.from 1 == 0)
    || (k == 0 && (op == 0x12 || op == 0x13) && p.b 0 < 2 && p.from 1 == 0)
    || (k == 1 && op == 0x10 && p.from 9 == 0)
    || (k == 2 && op == 0x10 && p.h 0 < 32768 && p.from 2 == 0)
    || (k == 2 && op == 0x11 && p.from 2 == 0)

/-- The cell engine `e` serves: its own, for LE4 the one in SERVES. -/
def State.cellOf (s : State) (e : Nat) : Nat := if e = 4 then s.fld (fLE_STATUS_SERVES 4) else e

/-- R259; a gain's mantissa and shift as in R243. -/
def State.leAccepts (s : State) (e k op : Nat) (p : Quad) : Bool :=
  (k == 0 && op == 0x10 && p.from 2 == 0)
    || (k == 0 && op == 0x11 && p.from 4 == 0)
    || (k == 0 && op == 0x12 && p.from 2 == 0)
    || (k == 0 && (op == 0x13 || op == 0x14 || op == 0x18) && p.b 0 < 2 && p.from 1 == 0)
    || (k == 0 && op == 0x15 && p.b 0 < 4 && p.from 1 == 0)
    || (k == 0 && op == 0x16 && p.b 0 < 2 && p.b 5 < 2 && p.from 6 == 0)
    || (k == 0 && op == 0x17 && p.from 0 == 0)
    || (k == 1 && op == 0x10 && p.b 13 < 4 && p.from 14 == 0)
    || (k == 2 && op == 0x10 && 2 ≤ p.b 0 && p.b 0 ≤ 6 && p.from 3 == 0)
    || (k == 2 && op == 0x11 && p.b 0 < 7 && p.b 1 < 2 && p.b 2 < 2 && p.h 3 < 32768 && p.b 5 ≤ 8 && p.from 6 == 0)
    || (k == 3 && op == 0x10 && p.b 0 < 4 && 1 ≤ p.b 1 && p.b 1 ≤ 6 && p.h 2 + p.b 1 ≤ 4096 && p.from (4 + 2 * p.b 1) == 0)
    || (k == 4 && op == 0x10 && p.from 4 == 0)
    || (k == 5 && op == 0x10 && p.from 5 == 0 && s.on (fLE_CFG_LEAD e))

/-- R390. -/
def State.canAccepts (s : State) (n op : Nat) (p : Quad) : Bool :=
  ((op == 0x10 || op == 0x12) && s.canTxBuf n (p.b 0)) || (op == 0x11 && s.canTxBuf n (p.b 0) && p.b 1 ≤ 8)

/-- R137 SELECT: a triplet or none, an index or none. -/
def hptAccepts (op : Nat) (p : Quad) : Bool :=
  op == 0x10 && (p.b 0 < 6 || p.b 0 == 255) && (p.b 1 < 4 || p.b 1 == 255) && p.from 2 == 0

/-- The opcodes of a queue of a unit's block (R68, R511), NOP apart. -/
def State.unitAccepts (s : State) (q op : Nat) (p : Quad) : Bool :=
  let k := q % 16
  if 0x140 ≤ q ∧ q < 0x480 then k == 0 && decAccepts op p
  else if 0x480 ≤ q ∧ q < 0x4C0 then k == 0 && sarAccepts ((q - 0x480) / 16) op p
  else if 0x4C0 ≤ q ∧ q < 0x540 then k == 0 && s.carAccepts ((q - 0x4C0) / 16) op p
  else if 0x540 ≤ q ∧ q < 0x6C0 then k == 0 && s.eoAccepts ((q - 0x540) / 16) op p
  else if 0x6C0 ≤ q ∧ q < 0x840 then gdAccepts k op p
  else if 0x840 ≤ q ∧ q < 0x880 then bndAccepts k op p
  else if 0x880 ≤ q ∧ q < 0x8D0 then s.leAccepts ((q - 0x880) / 16) k op p
  else if 0x970 ≤ q ∧ q < 0x9B0 then k == 0 && s.canAccepts ((q - 0x970) / 16) op p
  else if 0x9F0 ≤ q ∧ q < 0xAB0 then k == 0 && op == 0x10 && p.b 0 < 2 && p.from 1 == 0
  else if 0xAB0 ≤ q ∧ q < 0xB10 then k == 0 && op == 0x10 && p.from 0 == 0
  else if 0xB10 ≤ q ∧ q < 0xB30 then k == 0 && hptAccepts op p
  else false

/-- R84: the member count and the unused bytes of a COMMIT payload. -/
def commitOk (p : Quad) : Bool := 1 ≤ p.h 8 && p.h 8 ≤ 4095 && p.from 10 == 0

/-- Check 3 of R75 for local queue `q` (R511). -/
def State.accepts (s : State) (q op : Nat) (p : Quad) : Bool :=
  if q = 0 then (op == 1 && commitOk p) || op == 2
  else if q = 1 then op == 3 || (0x10 ≤ op && op ≤ 0x13)
  else if q < 0x100 ∨ 0x1000 ≤ q then op == 0 || 0x10 ≤ op
  else op == 0 || s.unitAccepts q op p

/-- Queues that no image enables: unassigned ones, and those the owning chapters disable. -/
def State.neverEnabled (s : State) (q : Nat) : Bool :=
  let k := q % 16
  (0xB30 ≤ q && q < 0x1000) || 0x8000 ≤ q
    || (0x540 ≤ q && q < 0x6C0 && k == 0 && (s.legOf ((q - 0x540) / 16)).isNone)
    || (0x6C0 ≤ q && q < 0x840 && k != 0 && k != 8)
    || (0x840 ≤ q && q < 0x880 && 3 ≤ k)
    || (0x880 ≤ q && q < 0x8D0 && 6 ≤ k)
    || (0x970 ≤ q && q < 0x9B0 && k != 0)
    || (0x9B0 ≤ q && q < 0x9F0)
    || (0x9F0 ≤ q && q < 0xAB0 && k != 0)

end Sys2Proof.Machine
end

