-- ==== Sys2Proof/Machine/Hq.lean ====
section
/-! DEFINITION. Hoists and the action queues: the record path of R70–R79, dispatch (R80, R81), generations (R77), and the Hoist group
machine (R84–R88). -/
namespace Sys2Proof.Machine

open Host (Outcome)

/-! ### Queues and the pool -/

def State.qd (s : State) (q : Nat) : QDesc := s.hq.queues.at QDesc.init q
def State.setQd (s : State) (q : Nat) (d : QDesc) : State := { s with hq := { s.hq with queues := s.hq.queues.put QDesc.init q d } }

/-- `GEN` of a queue (R82): 0 before the load step. -/
def State.qGen (s : State) (q : Nat) : Nat := if s.hq.loaded then ((s.qd q).genInc + 1) % 65536 else 0

/-- A queue that accepts records. -/
def State.qEnabled (s : State) (q : Nat) : Bool := (s.qd q).enable && !s.neverEnabled q

/-- Records of the system reserve, and of the pool outside it (R78). -/
def State.rsvSize (s : State) : Nat := s.fld fHQ_CFG_SYS_RSV * 16
def State.mainFree (s : State) : Nat := 131072 - s.rsvSize - s.hq.usedMain
def State.rsvFree (s : State) : Nat := s.rsvSize - s.hq.usedRsv
def State.poolFree (s : State) : Nat := s.mainFree + s.rsvFree

/-- The pool registers after a change; 0x0201 once per fall below 8,192. -/
def State.notePool (s : State) : State :=
  let f := s.poolFree
  let was := s.on fHQ_STATUS_POOL_LOW
  let s := (s.wrN rHQ_POOL_FREE f).wrN rHQ_POOL_MIN (min f (s.rdN rHQ_POOL_MIN))
  let s := (s.setB fHQ_STATUS_POOL_LOW (f < 8192)).setB fHQ_STATUS_POOL_EMPTY (s.mainFree == 0)
  if f < 8192 ∧ ¬ was then (s.set1 fHQ_EVENTS_POOL_LOW).raise 0x0201 255 else s

/-- One pool record fewer in use. -/
def State.freeRec (s : State) (rsv : Bool) : State :=
  (if rsv then { s with hq := { s.hq with usedRsv := s.hq.usedRsv - 1 } }
    else { s with hq := { s.hq with usedMain := s.hq.usedMain - 1 } }).notePool

/-- A number not in `used`, the search running cyclically from `start` over `lo … lo+size−1`. -/
def pickIdx (used : List Nat) (lo size start : Nat) : Nat → Nat
  | 0 => lo + start % size
  | n + 1 => if used.contains (lo + start % size) then pickIdx used lo size (start + 1) n else lo + start % size

/-- Pool indices in use. -/
def State.usedIdx (s : State) : List Nat := s.hq.queues.flatMap (fun e => e.2.held.map Held.idx)

/-- A pool record for a record of queue `q`: system queues draw on the reserve when nothing is free outside it.  Which free record is
taken is not stated. -/
def State.takeRec (s : State) (q : Nat) : Option (State × Nat × Bool) :=
  let used := s.usedIdx
  let d := s.draw
  if 0 < s.mainFree then
    let i := pickIdx used s.rsvSize (131072 - s.rsvSize) d.2 used.length
    some ({ d.1 with hq := { d.1.hq with usedMain := s.hq.usedMain + 1 } }.notePool, i, false)
  else if q < 0x100 ∧ 0 < s.rsvFree then
    let i := pickIdx used 0 s.rsvSize d.2 used.length
    some ({ d.1 with hq := { d.1.hq with usedRsv := s.hq.usedRsv + 1 } }.notePool, i, true)
  else none

/-- d of R76. -/
def State.dOf (s : State) (time : Nat) : Nat := (time + 2 ^ 40 - s.short) % 2 ^ 40

/-! ### Groups -/

def isMember (r : Rec) : Bool := bit r.flags.toNat 1 && r.opcode != 1#8 && r.opcode != 2#8

/-- The originator a record's group goes by: SRC, and payload byte 0 of an ABORT. -/
def origOf (r : Rec) : Nat := if r.opcode = 2#8 then (Quad.b r.payload 0) else r.src.toNat

def State.group (s : State) (orig tag : Nat) : Option Group := s.hq.groups.find? (fun g => g.orig == orig && g.gtag == tag)

/-- The group table as listed, with its count in the status. -/
def State.setGroups (s : State) (l : List Group) : State := { s with hq := { s.hq with groups := l } }.setF fHQ_STATUS_GROUPS l.length

def State.putGroup (s : State) (g : Group) : State :=
  s.setGroups (s.hq.groups.map (fun e => if e.orig = g.orig ∧ e.gtag = g.gtag then g else e))

/-- An entry as it opens. -/
def openGroup (idx orig tag time q : Nat) : Group :=
  { idx := idx, state := .opened, orig := orig, gtag := tag, time := time, committed := false, relayed := false, reason := 0, expected := 0,
    held := 0, mask := 0, queue := q }

/-- A new entry, at an index the spec does not fix; none when all 256 are taken. -/
def State.newGroup (s : State) (orig tag time q : Nat) : Option (State × Group) :=
  if 256 ≤ s.hq.groups.length then none
  else
    let d := s.draw
    let used := s.hq.groups.map Group.idx
    let g := openGroup (pickIdx used 0 256 d.2 used.length) orig tag time q
    some (d.1.setGroups (g :: s.hq.groups), g)

/-- The entry number DETAIL names for a record: that of its group, or 0xFF (R359). -/
def State.entryOf (s : State) (r : Rec) : Nat :=
  if bit r.flags.toNat 1 then (match s.group (origOf r) r.gtag.toNat with
    | some g => g.idx
    | none => 255) else 255

/-- DETAIL of 0x0202, 0x0203, 0x0205 and 0x0208 (R359). -/
def hqDetail (q src entry : Nat) : BitVec 64 := BitVec.ofNat 64 (q % 65536 + src % 256 * 65536 + entry % 256 * 16777216)

/-- GUARD in time units (16 ns each). -/
def State.guard (s : State) : Nat := s.fld fHQ_CFG_GUARD * 4096

/-- The short time `a` lies before `b`, as R76 compares them. -/
def beforeT (a b : Nat) : Bool := decide (0 < sgnW 40 (b + 2 ^ 40 - a % 2 ^ 40))

/-- R85: the present is before D of a group launching at `time`. -/
def State.beforeD (s : State) (time : Nat) : Bool := beforeT s.short (time + 2 ^ 40 - s.guard)

/-! ### Discards -/

/-- A discard or refusal with its reason: `HQ_LAST_DISCARD`, the counter, the event and the fault (R75, R88, R90).  `q` is the queue
shown as `QUEUE`: the local queue where the target names one, the target as sent where it maps to none or has no route (DESIGN CHOICE,
log 57). -/
def State.discard (s : State) (q : Nat) (r : Rec) (reason : Nat) : State :=
  let det := hqDetail q r.src.toNat (s.entryOf r)
  let s := s.wrN rHQ_LAST_DISCARD (reason * 268435456 + r.src.toNat * 65536 + q % 65536)
  match reason with
  | 1 | 3 => ((s.inc rHQ_CNT_MALFORMED).set1 fHQ_EVENTS_MALFORMED).raiseWin s.winMs 0x0207 255 r.src.toNat 0
  | 2 => (s.inc rHQ_CNT_UNMAPPED).set1 fHQ_EVENTS_UNMAPPED
  | 4 | 9 =>
    let s := (s.inc rHQ_CNT_STALE).set1 fHQ_EVENTS_STALE
    if (s.qd q).stale then s else (s.setQd q { s.qd q with stale := true }).raiseD 0x0205 255 det
  | 5 => ((s.inc rHQ_CNT_LATE_DISC).set1 fHQ_EVENTS_LATE_DISC).raiseWin s.winMs 0x0208 255 q det
  | 6 => s.inc rHQ_CNT_QUOTA
  | 7 => ((s.inc rHQ_CNT_POOL).set1 fHQ_EVENTS_POOL_EMPTY).raiseD 0x0202 255 det
  | 10 => ((s.inc rHQ_CNT_GROUPFULL).set1 fHQ_EVENTS_GROUP_FULL).raise 0x0206 255
  | _ => s

/-- The records of queue `q` that satisfy `p` are discarded with a reason. -/
def State.discardHeld (s : State) (q : Nat) (reason : Nat) (p : Held → Bool) : State :=
  let d := s.qd q
  let s := s.setQd q { d with held := d.held.filter (fun h => !p h) }
  s.forEach (fun s h => (s.freeRec h.rsv).discard q h.r reason) (d.held.filter p)

/-- The queues that hold records. -/
def State.busyQueues (s : State) : List Nat := (s.hq.queues.filter (fun e => !e.2.held.isEmpty)).map Prod.fst

def heldOf (orig tag : Nat) (h : Held) : Bool := isMember h.r && !h.fired && h.r.src.toNat == orig && h.r.gtag.toNat == tag

/-- Every held member of a group is discarded. -/
def State.discardGroup (s : State) (orig tag : Nat) : State :=
  s.forEach (fun s q => s.discardHeld q 8 (heldOf orig tag)) s.busyQueues

/-! ### Sending -/

/-- A record for another module (R70, R73, R74): CRC and SEQ are the hardware's; false when there is no route.  FLAGS go out as the
enqueuer gave them, bits 7:3 included, for the receiver's check 1 (DESIGN CHOICE, log 58). -/
def State.sendRemote (s : State) (b : Nat) (r : Rec) : State × Bool :=
  let n := s.hq.seqTx.at 0 b
  let r := Rec.sealed { r with seq := BitVec.ofNat 8 n }
  let x := s.sendSlot b (recClass r) r.slot
  if x.2 then ({ x.1 with hq := { x.1.hq with seqTx := x.1.hq.seqTx.put 0 b ((n + 1) % 256) } }, true) else (x.1, false)

/-- An ABORT for module `b` (R84).  LATE is 1, so that check 5 lets one arrive after launch, as R86 needs (DEDUCED, log 59). -/
def abortRec (src orig tag time reason b : Nat) : Rec :=
  { time := BitVec.ofNat 40 time, target := BitVec.ofNat 16 (0x8000 + b % 64 * 512), src := BitVec.ofNat 8 src, opcode := 2, flags := 7,
    gtag := BitVec.ofNat 16 tag, gen := 0, payload := BitVec.ofNat 128 (orig % 256 + reason % 256 * 256), seq := 0, crc := 0 }

/-- ABORTs to a list of other modules. -/
def State.sendOut (s : State) (g : Group) (reason : Nat) : List Nat → State
  | [] => s
  | b :: t =>
    let s := if b = s.own then s
      else
        let r := abortRec s.own g.orig g.gtag g.time reason b
        let x := s.sendRemote b r
        if x.2 then x.1 else x.1.discard (0x8000 + b % 64 * 512) r 2
    s.sendOut g reason t

/-- The modules of a mask, ascending. -/
def maskList (m : Nat) : List Nat := (List.range 64).filter (fun b => bit m b)

/-- Check 1 of R75. -/
def wellMade (r : Rec) : Bool :=
  recCrc r == r.crc.toNat && r.flags.toNat < 8 && (bit r.flags.toNat 1 || r.gtag == 0#16)

/-- Checks 2–6 of R75 for a record at local queue `q`: the first that fails, or 0. -/
def State.screen (s : State) (q : Nat) (r : Rec) : Nat :=
  if ¬ s.qEnabled q then 2
  else if ¬ s.accepts q r.opcode.toNat r.payload then 3
  else if (s.qd q).genCheck ∧ (r.gen.toNat = 0 ∨ r.gen.toNat ≠ s.qGen q) then 4
  else if 2 ^ 39 < s.dOf r.time.toNat ∧ (isMember r ∨ ¬ bit r.flags.toNat 0) then 5
  else if (s.qd q).quota ≤ (s.qd q).held.length then 6
  else 0

/-- R87: the originator relays once, to every participant of the mask that did not send the ABORT. -/
def State.relayAbort (s : State) (orig tag reason sender : Nat) : State :=
  if orig ≠ s.own then s
  else match s.group orig tag with
    | some g =>
      if g.relayed then s
      else (s.putGroup { g with relayed := true }).sendOut g reason ((maskList g.mask.toNat).filter (fun b => b != sender))
    | none => s

/-- An ABORT this module sends to itself as the originator is delivered here (R70): it is relayed (R87), or finds the table full
(R88). -/
def State.abortSelf (s : State) (g : Group) (reason : Nat) : State :=
  let r := (abortRec s.own g.orig g.gtag g.time reason s.own).sealed
  match s.screen 0 r with
  | 0 => (match s.group g.orig g.gtag with
    | some _ => s.relayAbort g.orig g.gtag reason s.own
    | none => s.discard 0 r 10)
  | n => s.discard 0 r n

/-- An ABORT to the originator of a group. -/
def State.tellOriginator (s : State) (g : Group) (reason : Nat) : State :=
  if g.orig = s.own then s.abortSelf g reason else s.sendOut g reason [g.orig]

/-- Whom an entry to ABORTED tells (R86). -/
inductive Tell where
  | nobody | originator | everyone
deriving DecidableEq, Repr

/-- R273: a share Hoist of a lead of this module aborts: counted, 0x081B first in a 1 s window. -/
def State.noteShareAbort (s : State) (g : Group) : State :=
  s.each (fun s c =>
    if g.orig = s.own ∧ 0x8000 ≤ g.gtag ∧ s.on (fLE_CFG_LEAD c) ∧ s.fld (fLE_PAR_STATUS_SAMPLE c) % 32768 = g.gtag - 0x8000 then
      ((s.inc (rLE_PAR_CNT_ABORT c)).setBit (rLE_PAR_EVENTS c) 11).raiseSec 0x081B c
    else s) 4

/-- R86: entry to ABORTED. -/
def State.abortGroup (s : State) (g : Group) (reason : Nat) (tell : Tell) : State :=
  let toMask := tell == .everyone && g.mask != 0
  let g' := { g with state := .aborted, reason := reason, held := 0, relayed := g.relayed || toMask }
  let s := (s.discardGroup g.orig g.gtag).putGroup g'
  let s := ((s.inc rHQ_CNT_ABORTED).set1 fHQ_EVENTS_ABORT).raiseD 0x0203 255 (hqDetail g.queue g.orig g.idx)
  let s := s.noteShareAbort g
  match tell with
  | .nobody => s
  | .originator => s.tellOriginator g reason
  | .everyone =>
    let l := maskList g.mask.toNat
    s.sendOut g reason (if l.contains g.orig then l else l ++ [g.orig])

/-- States in which a group may still be lost. -/
def GState.live (x : GState) : Bool := x == .opened || x == .commitWait || x == .armed

/-! ### Firing -/

/-- Firing passes the payload on: to queue 0x0001's and queue 0x0002's duties, to the management firmware, whose queues are
0x0003–0x00FF, and to the units (R69, R81, R511). -/
def delivers (q op : Nat) : Bool := op != 0 && (q == 1 || (q == 2 && op == 0x10) || (3 ≤ q && q < 0x1000))

/-- A queue whose fired records wait for DEQ (R81). -/
def isFpQueue (q : Nat) : Bool := 0x1000 ≤ q && q < 0x8000

/-- A payload on its way to its unit. -/
def State.pass (s : State) (q : Nat) (r : Rec) : State :=
  if delivers q r.opcode.toNat then { s with hq := { s.hq with passed := s.hq.passed ++ [(q, r)] } } else s

/-- A held record is listed as fired, behind those that fired before it. -/
def fireList (h : Held) (l : List Held) : List Held :=
  let rest := l.filter (fun x => x.idx != h.idx)
  rest.filter Held.fired ++ [{ h with fired := true }] ++ rest.filter (fun x => !x.fired)

/-- A held record fires (R81). -/
def State.fireHeld (s : State) (q : Nat) (h : Held) : State :=
  let d := s.qd q
  if isFpQueue q then (s.setQd q { d with held := fireList h d.held }).noteFired d.owner
  else ((s.setQd q { d with held := d.held.filter (fun x => x.idx != h.idx) }).freeRec h.rsv).pass q h.r

/-- Launch-time order (R79): behind every record due no later. -/
def State.insertHeld (s : State) (h : Held) : List Held → List Held
  | [] => [h]
  | x :: t => if x.fired ∨ s.dOf x.r.time.toNat ≤ s.dOf h.r.time.toNat ∨ 2 ^ 39 < s.dOf x.r.time.toNat then x :: s.insertHeld h t else h :: x :: t

/-! ### Arrival -/

/-- The queue a target names here (R70): local, by selector, or none. -/
def State.localQueue (s : State) (t : Nat) : Option Nat :=
  if t < 0x8000 then some t
  else
    let sel := t % 512
    if sel < 2 then some sel
    else match s.hq.xmap.at 0 sel with
      | 0 => none
      | n + 1 => some n

/-- R86: a member refused at R75 loses a live group. -/
def State.refuseMember (s : State) (r : Rec) : State :=
  if isMember r then (match s.group r.src.toNat r.gtag.toNat with
    | some g => if g.state.live then s.abortGroup g 3 .everyone else s
    | none => s) else s

/-- A failed check of R75. -/
def State.refuse (s : State) (q : Nat) (r : Rec) (check : Nat) : State × Nat := ((s.discard q r check).refuseMember r, check)

/-- R84, R86: a COMMIT at the group table.  An entry its own COMMIT aborts keeps that COMMIT's expected count and FLAGS bit 0 (DESIGN
CHOICE, log 60). -/
def State.commitIn (s : State) (r : Rec) : State × Nat :=
  let orig := r.src.toNat
  let tag := r.gtag.toNat
  let p : Quad := r.payload
  let mask := BitVec.ofNat 64 (p.toNat % 2 ^ 64)
  match s.group orig tag with
  | none =>
    match s.newGroup orig tag r.time.toNat 0 with
    | none =>
      ((s.discard 0 r 10).tellOriginator (openGroup 0 orig tag r.time.toNat 0) 5, 10)
    | some (s, g) =>
      let g := { g with state := .commitWait, committed := true, expected := p.h 8, mask := mask }
      if s.beforeD g.time then (s.putGroup g, 0) else (s.abortGroup g 1 .everyone, 0)
  | some g =>
    if g.state = .opened ∨ g.state = .commitWait then
      if ¬ s.beforeD g.time then (s.abortGroup g 1 .everyone, 0)
      else if g.state = .commitWait then (s, 0)
      else
        let g := { g with committed := true, expected := p.h 8, mask := mask }
        if g.held < g.expected then (s.putGroup { g with state := .commitWait }, 0)
        else if g.held = g.expected then (s.putGroup { g with state := .armed }, 0)
        else (s.abortGroup g 2 .everyone, 0)
    else (s, 0)

/-- R86, R87: an ABORT at the group table. -/
def State.abortIn (s : State) (r : Rec) : State × Nat :=
  let p : Quad := r.payload
  let orig := p.b 0
  let tag := r.gtag.toNat
  let reason := p.b 1
  match s.group orig tag with
  | none =>
    if ¬ beforeT s.short (r.time.toNat + s.guard) then (s, 0)
    else match s.newGroup orig tag r.time.toNat 0 with
      | none => (s.discard 0 r 10, 10)
      | some (s, g) => ((s.abortGroup g reason .nobody).relayAbort orig tag reason r.src.toNat, 0)
  | some g =>
    let s := if g.state.live then s.abortGroup g reason .nobody
      else if g.state = .fired then ((s.inc rHQ_CNT_SPLIT).set1 fHQ_EVENTS_SPLIT).raise 0x0204 255
      else s
    (s.relayAbort orig tag reason r.src.toNat, 0)

/-- A record that passed every check of R75 joins its queue, or fires at once when due or late (R76). -/
def State.hold (s : State) (q : Nat) (r : Rec) (h : Held) : State :=
  let d := s.qd q
  let due := s.dOf r.time.toNat
  let s := s.setQd q { d with held := s.insertHeld h d.held }
  if isMember r then s
  else if 2 ^ 39 < due then (s.inc rHQ_CNT_LATE_EXEC).fireHeld q h
  else if due = 0 then s.fireHeld q h
  else s

/-- R86, R88: a member that passed R75, before it takes its pool record for good; 0 held, 8 or 5 discarded, 10 table full. -/
def State.memberIn (s : State) (q : Nat) (r : Rec) : State × Nat :=
  let orig := r.src.toNat
  let tag := r.gtag.toNat
  match s.group orig tag with
  | none =>
    match s.newGroup orig tag r.time.toNat q with
    | none => (s.discard q r 10, 10)
    | some (s, g) => (s.putGroup { g with held := 1 }, 0)
  | some g =>
    match g.state with
    | .aborted => (s.discard q r 8, 8)
    | .fired => (s.discard q r 5, 5)
    | .armed =>
      if g.time = r.time.toNat then ((s.abortGroup g 2 .everyone).discard q r 8, 8) else ((s.abortGroup g 3 .everyone).discard q r 8, 8)
    | _ =>
      if g.time ≠ r.time.toNat then ((s.abortGroup g 3 .everyone).discard q r 8, 8)
      else
        let n := g.held + 1
        (s.putGroup { g with held := n, state := if g.state = .commitWait ∧ n = g.expected then .armed else g.state }, 0)

/-- R74: the SEQ of a record from another module that passed check 1. -/
def State.checkSeq (s : State) (p : Nat) (r : Rec) : State :=
  let src := r.src.toNat
  let s := match s.hq.seqRef.at none src with
    | some (n, _) => if (n + 1) % 256 = r.seq.toNat then s else s.inc rHQ_SEQ_GAPS
    | none => s
  { s with hq := { s.hq with seqRef := s.hq.seqRef.put none src (some (r.seq.toNat, p)) } }

/-- R75 in order, for a record at this module; the number of the failed check, 8 or 10, or 0.  COMMITs and ABORTs enter the group
table and take no pool record (R78).  A member that its group then turns away has taken a pool record and gives it back, so
`HQ_POOL_MIN` and 0x0201 see it (DESIGN CHOICE, log 61). -/
def State.checks (s : State) (r : Rec) : State × Nat :=
  let t := r.target.toNat
  match s.localQueue t with
  | none => s.refuse t r 2
  | some q =>
    match s.screen q r with
    | 0 =>
      if q = 0 then (if r.opcode = 1#8 then s.commitIn r else s.abortIn r)
      else (match s.takeRec q with
        | none => s.refuse q r 7
        | some (s, idx, rsv) =>
          if isMember r then
            let x := s.memberIn q r
            if x.2 = 0 then (x.1.hold q r { idx := idx, rsv := rsv, r := r, fired := false }, 0) else (x.1.freeRec rsv, x.2)
          else (s.hold q r { idx := idx, rsv := rsv, r := r, fired := false }, 0))
    | n => s.refuse q r n

/-- R84, R86: this module is the originator and its HQ sends a COMMIT: the first one records the mask; where the module holds no member
yet, its entry is ARMED with counts 0. -/
def State.commitSent (s : State) (r : Rec) : State :=
  let p : Quad := r.payload
  let mask := BitVec.ofNat 64 (p.toNat % 2 ^ 64)
  match s.group s.own r.gtag.toNat with
  | some g => if g.committed ∨ g.mask ≠ 0 then s else s.putGroup { g with mask := mask }
  | none => match s.newGroup s.own r.gtag.toNat r.time.toNat 0 with
    | none => s.discard 0 r 10
    | some (s, g) => s.putGroup { g with state := .armed, committed := true, mask := mask }

/-- A unit of this module enqueues a record: local delivery, or sending to its module (R70, R73). -/
def State.enqueue (s : State) (r : Rec) : State × Nat :=
  let t := r.target.toNat
  let b := t / 512 % 64
  let r := { r with src := BitVec.ofNat 8 s.own, seq := 0 }
  if t < 0x8000 ∨ b = s.own then
    let r := r.sealed
    if wellMade r then s.checks r else s.refuse t r 1
  else
    let x := s.sendRemote b r
    if x.2 then (if r.opcode = 1#8 then x.1.commitSent r else x.1, 0) else x.1.refuse t r 2

/-- A record from another module, received on port `p` (R45, R74). -/
def State.receive (s : State) (p : Nat) (r : Rec) : State :=
  let s := s.modPort p (fun q => match q.rx with
    | (1, y) :: t => if y = r.slot then { q with rx := t, freed := q.freed + 1 } else q
    | _ => q)
  if ¬ s.crossOk then s
  else if wellMade r then ((s.checkSeq p r).checks r).1
  else (s.refuse r.target.toNat r 1).1

/-- The first record of a list that equals `r` leaves it. -/
def dropRec (r : Rec) : List Rec → List Rec
  | [] => []
  | x :: t => if x = r then t else x :: dropRec r t

/-- R75: a record arrives, from a unit of this module or by a Halyard port. -/
def recordArrival (s : State) (r : Rec) (via : Via) : State :=
  match via with
  | .unit => ({ s with hq := { s.hq with fabric := dropRec r s.hq.fabric } }.enqueue r).1
  | .port p => s.receive p.val r

def execRecordArrival (r : Rec) (via : Via) (s : State) : Outcome State Fault Refusal := .next (s.lit (recordArrival s r via))

/-- R86: a COMMIT arrives. -/
def commitArrival (s : State) (r : Rec) (via : Via) : State := if r.opcode = 1#8 then recordArrival s r via else s

def execCommitArrival (r : Rec) (via : Via) (s : State) : Outcome State Fault Refusal := .next (s.lit (commitArrival s r via))

/-- R87: an ABORT arrives. -/
def abortArrival (s : State) (r : Rec) (via : Via) : State := if r.opcode = 2#8 then recordArrival s r via else s

def execAbortArrival (r : Rec) (via : Via) (s : State) : Outcome State Fault Refusal := .next (s.lit (abortArrival s r via))

/-! ### Dispatch -/

/-- R427: no queue fires in PITCH; none is served before it. -/
def State.dispatches (s : State) : Bool := s.ps != psPITCH && !s.mute

/-- R77, R80: the head record of queue `q` fires, its generation checked again. -/
def recordFire (s : State) (q : Nat) : State :=
  if ¬ s.dispatches then s
  else match (s.qd q).held.find? (fun h => !h.fired && !isMember h.r) with
    | none => s
    | some h =>
      if (s.qd q).genCheck ∧ h.r.gen.toNat ≠ s.qGen q then s.discardHeld q 4 (fun x => x.idx == h.idx)
      else s.fireHeld q h

def execRecordFire (q : BitVec 16) (s : State) : Outcome State Fault Refusal := .next (s.lit (recordFire s q.toNat))

/-- The payload that queue `q` has passed with opcode `op` and payload `p` reaches its unit; false when none is on its way. -/
def takePassed (q op : Nat) (p : Quad) : List (Nat × Rec) → Option (Rec × List (Nat × Rec))
  | [] => none
  | (k, r) :: t =>
    if k = q ∧ r.opcode.toNat = op ∧ r.payload = p then some (r, t)
    else (takePassed q op p t).map (fun x => (x.1, (k, r) :: x.2))

/-- The state without the passed payload, if one was on its way. -/
def State.consume (s : State) (q op : Nat) (p : Quad) : State :=
  match takePassed q op p s.hq.passed with
  | some (_, l) => { s with hq := { s.hq with passed := l } }
  | none => s

/-- The launch time of the record whose payload is on its way to a unit; the present where none is (R71). -/
def State.launchOf (s : State) (q op : Nat) (p : Quad) : Nat :=
  match takePassed q op p s.hq.passed with
  | some (r, _) => r.time.toNat
  | none => s.short

/-- R304 DEQ: the earliest fired record of a queue leaves it. -/
def State.deq (s : State) (q : Nat) : Option (Rec × State) :=
  match (s.qd q).held with
  | h :: t => if h.fired then some (h.r, (s.setQd q { s.qd q with held := t }).freeRec h.rsv) else none
  | [] => none

/-! ### Group timers -/

/-- R86: D reached. -/
def groupDeadline (s : State) (orig tag : Nat) : State :=
  match s.group orig tag with
  | some g =>
    if g.state = .opened then s.abortGroup g 1 .originator
    else if g.state = .commitWait then s.abortGroup g 2 .everyone
    else s
  | none => s

def execGroupDeadline (orig : BitVec 8) (tag : BitVec 16) (s : State) : Outcome State Fault Refusal :=
  .next (s.lit (groupDeadline s orig.toNat tag.toNat))

/-- The members of a group in one queue fire. -/
def State.fireMembers (s : State) (orig tag q : Nat) : State :=
  s.forEach (fun s h => s.fireHeld q h) ((s.qd q).held.filter (heldOf orig tag))

/-- R86: launch time of an ARMED group.  The entry keeps its held count while FIRED (R514; DESIGN CHOICE, log 60). -/
def groupLaunch (s : State) (orig tag : Nat) : State :=
  match s.group orig tag with
  | some g =>
    if g.state = .armed then
      let s := (s.putGroup { g with state := .fired }).inc rHQ_CNT_COMMITTED
      s.forEach (fun s q => s.fireMembers orig tag q) s.busyQueues
    else s
  | none => s

def execGroupLaunch (orig : BitVec 8) (tag : BitVec 16) (s : State) : Outcome State Fault Refusal :=
  .next (s.lit (groupLaunch s orig.toNat tag.toNat))

/-- R86: launch time + GUARD. -/
def groupRelease (s : State) (orig tag : Nat) : State :=
  match s.group orig tag with
  | some g =>
    if g.state = .fired ∨ g.state = .aborted then s.setGroups (s.hq.groups.filter (fun e => !(e.orig == orig && e.gtag == tag))) else s
  | none => s

def execGroupRelease (orig : BitVec 8) (tag : BitVec 16) (s : State) : Outcome State Fault Refusal :=
  .next (s.lit (groupRelease s orig.toNat tag.toNat))

/-! ### Generations (R77) -/

/-- R77: queue `q` takes generation `g`; the records it holds with the old one are discarded. -/
def State.setGen (s : State) (q g : Nat) : State :=
  let old := s.qGen q
  if old = g then s
  else
    let members := s.hq.groups.filter (fun e => e.state.live && (s.qd q).held.any (heldOf e.orig e.gtag))
    let s := s.setQd q { s.qd q with genInc := (g + 65535) % 65536, stale := false }
    let s := s.discardHeld q 9 (fun h => h.r.gen.toNat == old)
    s.forEach (fun s e => s.abortGroup e 4 .everyone) members

/-! ### Commands -/

/-- The HQ counters. -/
def hqCounters : List Nat :=
  [rHQ_CNT_LATE_EXEC, rHQ_CNT_LATE_DISC, rHQ_CNT_STALE, rHQ_CNT_POOL, rHQ_CNT_QUOTA, rHQ_CNT_MALFORMED, rHQ_CNT_UNMAPPED,
    rHQ_CNT_COMMITTED, rHQ_CNT_ABORTED, rHQ_CNT_SPLIT, rHQ_SEQ_GAPS, rHQ_CNT_GROUPFULL]

/-- `HQ_CMD` 0x0001. -/
def hqClearCounters (s : State) : State :=
  s.cmd rHQ_CMD 0x0001 (fun s => (stDONE, (s.zero hqCounters).wr rHQ_POOL_MIN (s.rd rHQ_POOL_FREE)))

def execHqClearCounters (s : State) : Outcome State Fault Refusal := .next (s.lit (hqClearCounters s))

/-- R494: a requester writes a word of the staging area. -/
def hqEnqWrite (s : State) (k : Nat) (v : Word) (requester : Nat) : State :=
  if s.inBiv then s
  else
    let s := s.wr (rHQ_ENQ k) v
    if s.hq.stagers.contains requester then s else { s with hq := { s.hq with stagers := requester :: s.hq.stagers } }

def execHqEnqWrite (k : Fin 8) (v : Word) (requester : BitVec 16) (s : State) : Outcome State Fault Refusal :=
  .next (s.lit (hqEnqWrite s k.val v requester.toNat))

/-- The staged record. -/
def State.staged (s : State) : Rec :=
  recOfSlot (BitVec.ofNat 256 (ofBytes ([0, 1, 2, 3, 4, 5, 6, 7].flatMap (fun k => bytesOf 4 (s.rdN (rHQ_ENQ k))))))

/-- `HQ_ENQ_CMD` 0x0001 (R494). -/
def hqEnqueue (s : State) : State :=
  if s.inBiv then s
  else
    let mixed := 1 < s.hq.stagers.length
    let s := s.cmd rHQ_ENQ_CMD 0x0001 (fun s =>
      if mixed then (stREFUSED, s)
      else
        let x := s.enqueue s.staged
        (if x.2 = 0 then stDONE else stREFUSED, x.1))
    { s with hq := { s.hq with stagers := [] } }

def execHqEnqueue (s : State) : Outcome State Fault Refusal := .next (s.lit (hqEnqueue s))

end Sys2Proof.Machine
end

