-- ==== Sys2Proof/Machine/Auxiliary.lean ====
section
/-! DEFINITION. Auxiliary outputs: feeds and returns (R399–R403), states (R404), shorts and overload (R405, R406), off-state diagnostics
(R407, R408), records (R409), and the brakes as the island applies them (R327, R331, R335). -/
namespace Sys2Proof.Machine

open Host (Outcome)

def aOFF : Nat := 0
def aPENDING : Nat := 1
def aPULLIN : Nat := 2
def aHOLD : Nat := 3
def aON : Nat := 4
def aREFUSED : Nat := 5
def aLATCHED : Nat := 6
def aDIAG : Nat := 7
def aRETIRED : Nat := 8

def State.ast (s : State) (n : Nat) : Nat := s.fld (fAUX_STATUS_STATE n)
def State.amode (s : State) (n : Nat) : Nat := s.fld (fAUX_CFG_MODE n)
def State.auxO (s : State) (n : Nat) : AuxOut := s.aux.out.at AuxOut.init n
def State.modAux (s : State) (n : Nat) (f : AuxOut → AuxOut) : State :=
  { s with aux := { s.aux with out := s.aux.out.put AuxOut.init n (f (s.auxO n)) } }

/-- The other return of the feed of return `n`. -/
def partner (n : Nat) : Nat := if n % 2 = 0 then n + 1 else n - 1

/-- A return that calls for its feed (R399). -/
def State.feeds (s : State) (n : Nat) : Bool := aPENDING ≤ s.ast n && s.ast n ≤ aON

/-- R399, R406, R407: `HSF_STATUS` follows its returns: latched while a return is LATCHED through the feed, off during diagnostics. -/
def State.noteFeed (s : State) (h : Nat) : State :=
  let a := 2 * h
  let b := 2 * h + 1
  let lat := fun n => s.ast n == aLATCHED && s.fld (fAUX_STATUS_CAUSE n) == 3
  let st := if lat a || lat b then 2 else if s.ast a == aDIAG || s.ast b == aDIAG || (s.auxO a).feedDead then 0
    else if s.feeds a || s.feeds b then 1 else 0
  s.setF ⟨rHSF_STATUS h, 31, 28⟩ st

/-- An output enters a state: `HOLD_OK` lasts within HOLD, `REQ` shows whether a request stands. -/
def State.setAst (s : State) (n x : Nat) : State :=
  let s := (s.setF (fAUX_STATUS_STATE n) x).setB (fAUX_STATUS_REQ n) (aPENDING ≤ x && x ≤ aREFUSED)
  let s := if x = aHOLD then s else s.clr (fAUX_STATUS_HOLD_OK n)
  if n < 8 then s.noteFeed (n / 2) else s

/-- R404: the tries of the last 60 s. -/
def State.auxTries (s : State) (n : Nat) : List Nat := last60 s.now (s.auxO n).tries

/-- Fault 0x0D01 + k is raised by an output: its event bit. -/
def State.auxRaise (s : State) (n k : Nat) : State := (s.setBit (rAUX_EVENTS n) k).raise (0x0D01 + k) n

/-! ### Requests (R403, R404) -/

/-- R403: the sum of the hold currents of a return and of its partner, where that counts. -/
def State.holdSum (s : State) (n : Nat) : Nat :=
  let p := partner n
  s.fld (fAUX_CFG_I_HOLD n) + (if aPENDING ≤ s.ast p ∧ s.ast p ≤ aHOLD then s.fld (fAUX_CFG_I_HOLD p) else 0)

/-- A request to switch an output on fires. -/
def State.auxOn (s : State) (n : Nat) : State :=
  if s.ast n ≠ aOFF then s
  else if s.amode n = 1 then (s.setAst n aON).inc (rAUX_CNT_ON n)
  else if s.amode n = 2 then
    if s.fld (fHSF_CFG_FEED_LIM (n / 2)) < s.holdSum n then ((s.setAst n aREFUSED).inc rAUX_CNT_REFUSED).auxRaise n 5
    else (s.setAst n aPENDING).modAux n (fun q => { q with reqAt := s.busPeriod })
  else s

/-- A request to switch an output off fires. -/
def State.auxOff (s : State) (n : Nat) : State := if aPENDING ≤ s.ast n ∧ s.ast n ≤ aREFUSED then s.setAst n aOFF else s

/-- R404: an output runs its diagnostics after a wait or a clear: tries + 1. -/
def State.auxRetry (s : State) (n : Nat) : State :=
  (s.setAst n aDIAG).modAux n (fun q => { q with waiting := false, tries := s.now :: (last60 s.now q.tries).take 14 })

/-- R409: a SET record. -/
def auxSet (s : State) (n : Nat) (p : Quad) : State :=
  let s := s.consume (0x9F0 + 16 * n) 0x10 p
  if p.b 0 = 1 then s.auxOn n else s.auxOff n

def execAuxSet (n : Fin 12) (p : Quad) (s : State) : Outcome State Fault Refusal := .next (s.lit (auxSet s n.val p))

def auxRequestOn (s : State) (n : Nat) : State :=
  s.cmd rAUX_CMD (0x100 + n) (fun s => if s.amode n = 0 ∨ s.ast n ≠ aOFF then (stREFUSED, s) else (stDONE, s.auxOn n))

def execAuxRequestOn (n : Fin 12) (s : State) : Outcome State Fault Refusal := .next (s.lit (auxRequestOn s n.val))

def auxRequestOff (s : State) (n : Nat) : State :=
  s.cmd rAUX_CMD (0x200 + n) (fun s => if s.amode n = 0 then (stREFUSED, s) else (stDONE, s.auxOff n))

def execAuxRequestOff (n : Fin 12) (s : State) : Outcome State Fault Refusal := .next (s.lit (auxRequestOff s n.val))

def auxClearOutput (s : State) (n : Nat) : State :=
  s.cmdBiv rAUX_CMD (0x300 + n) (fun s =>
    if s.ast n = aRETIRED then (stREFUSED, s)
    else if s.ast n = aLATCHED then (stDONE, s.auxRetry n)
    else (stDONE, s))

def execAuxClearOutput (n : Fin 12) (s : State) : Outcome State Fault Refusal := .next (s.lit (auxClearOutput s n.val))

def auxClearCounters (s : State) : State :=
  s.cmd rAUX_CMD 1 (fun s => (stDONE, (s.each (fun s n => s.wr (rAUX_CNT_ON n) 0) 12).wr rAUX_CNT_REFUSED 0))

def execAuxClearCounters (s : State) : Outcome State Fault Refusal := .next (s.lit (auxClearCounters s))

/-! ### Cut switches and brakes (R400, R327, R335) -/

/-- The island opens the cut switch of a return: a request that pulls in or holds is dropped. -/
def State.cutOpen (s : State) (n : Nat) : State :=
  let s := s.set1 (fAUX_STATUS_CUT_OPEN n)
  if aPENDING ≤ s.ast n ∧ s.ast n ≤ aHOLD then s.setAst n aOFF else s

/-- The island closes it. -/
def State.cutClose (s : State) (n : Nat) : State := s.clr (fAUX_STATUS_CUT_OPEN n)

/-- Return `n` is a brake of cell `c`. -/
def State.isBrake (s : State) (c n : Nat) : Bool := bit (s.fld (fSI_CELL_CFG_BRK_OUT c)) n

/-- The brakes of a cell are applied: both switches of each return open. -/
def State.brakeApply (s : State) (c : Nat) : State :=
  if s.fld (fSI_CELL_CFG_BRK_OUT c) = 0 then s
  else (s.each (fun s n => if s.isBrake c n then (s.cutOpen n).auxOff n else s) 8).set1 (fSI_CELL_STATUS_BRAKE_APPLIED c)

/-- R400: while the island is not ACTIVE the cut switches of the returns that no cell names in `BRK_OUT` are open as well. -/
def State.cutOthers (s : State) : State :=
  s.each (fun s n => if (List.range 4).any (fun c => s.isBrake c n) then s else s.cutOpen n) 8

/-- R335: a released brake whose return has lost hold regulation is applied. -/
def State.brakeLost (s : State) (n : Nat) : State :=
  s.each (fun s c => if s.isBrake c n ∧ ¬ s.on (fSI_CELL_STATUS_BRAKE_APPLIED c) then s.brakeApply c else s) 4

/-! ### Pull-in and hold (R401, R402) -/

/-- R402: the pull-in of return `n` may start. -/
def State.mayPull (s : State) (n : Nat) : Bool :=
  let q := s.auxO n
  let p := s.auxO (partner n)
  let stag := s.fld (fHSF_CFG_STAGGER (n / 2)) * msU
  s.ast n == aPENDING && !s.on (fAUX_STATUS_CUT_OPEN n) && (!p.pulled || decide (p.pullAt + stag ≤ s.now))
    && !(n % 2 == 1 && s.ast (partner n) == aPENDING && q.reqAt == p.reqAt)

def pullinStart (s : State) (n : Nat) : State :=
  if s.mayPull n then
    ((s.setAst n aPULLIN).inc (rAUX_CNT_ON n)).modAux n (fun q => { q with pulled := true, pullAt := s.now })
  else s

def execPullinStart (n : Fin 8) (s : State) : Outcome State Fault Refusal := .next (s.lit (pullinStart s n.val))

/-- R401: `T_PEAK` passed. -/
def peakEnd (s : State) (n : Nat) : State := if s.ast n = aPULLIN then s.setAst n aHOLD else s

def execPeakEnd (n : Fin 8) (s : State) : Outcome State Fault Refusal := .next (s.lit (peakEnd s n.val))

def holdOkReached (s : State) (n mA : Nat) : State :=
  let s := s.wrN (rAUX_CURRENT n) mA
  if s.ast n = aHOLD then s.set1 (fAUX_STATUS_HOLD_OK n) else s

def execHoldOkReached (n : Fin 8) (mA : BitVec 16) (s : State) : Outcome State Fault Refusal := .next (s.lit (holdOkReached s n.val mA.toNat))

/-! ### Faults (R404–R406) -/

/-- N of R404. -/
def State.auxN (s : State) : Nat := s.fld fAUX_RETRY_CFG_TRIES

/-- An output enters LATCHED, with or without a wait. -/
def State.auxLatch (s : State) (n code : Nat) (wait : Bool) : State :=
  (s.setAst n aLATCHED).modAux n (fun q => { q with waiting := wait, owed := code })

/-- An output enters RETIRED, 0x0D07. -/
def State.auxRetire (s : State) (n : Nat) : State :=
  ((s.setAst n aRETIRED).modAux n (fun q => { q with waiting := false, owed := 0 })).auxRaise n 6

/-- R404: a fault of an output: LATCHED, or RETIRED at the last try; in BIVOUAC LATCHED without a wait. -/
def State.auxOut (s : State) (n cause code : Nat) : State :=
  let s := s.setF (fAUX_STATUS_CAUSE n) cause
  if s.auxN ≤ (s.auxTries n).length ∧ ¬ s.inBiv then s.auxRetire n else s.auxLatch n code (!s.inBiv)

/-- R406: a return of a feed that has latched off; one that is not switched on only enters LATCHED. -/
def State.auxFeedOut (s : State) (n : Nat) : State :=
  if s.ast n = aON ∨ s.ast n = aPULLIN ∨ s.ast n = aHOLD then s.auxOut n 3 0x0D02
  else (s.setF (fAUX_STATUS_CAUSE n) 3).auxLatch n 0x0D02 (!s.inBiv)

/-- R405: overcurrent. -/
def auxOvercurrent (s : State) (n mA : Nat) : State :=
  let s := s.wrN (rAUX_CURRENT n) mA
  if s.ast n = aON ∨ s.ast n = aPULLIN ∨ s.ast n = aHOLD then ((s.auxRaise n 0).auxOut n 1 0x0D01).brakeLost n else s

def execAuxOvercurrent (n : Fin 12) (mA : BitVec 16) (s : State) : Outcome State Fault Refusal := .next (s.lit (auxOvercurrent s n.val mA.toNat))

/-- R401, R405: hold regulation lost. -/
def holdRegulationLost (s : State) (n mA : Nat) : State :=
  let s := s.wrN (rAUX_CURRENT n) mA
  if s.ast n = aHOLD then ((s.auxRaise n 2).auxOut n 2 0x0D03).brakeLost n else s

def execHoldRegulationLost (n : Fin 8) (mA : BitVec 16) (s : State) : Outcome State Fault Refusal := .next (s.lit (holdRegulationLost s n.val mA.toNat))

/-- R406: a feed latches off, and both its returns with it. -/
def feedOvercurrent (s : State) (h mA : Nat) : State :=
  let s := s.setF ⟨rHSF_STATUS h, 15, 0⟩ mA
  if s.fld ⟨rHSF_STATUS h, 31, 28⟩ = 1 then
    (s.raise 0x0D02 (16 + h)).forEach (fun s n =>
      if s.amode n = 0 ∨ s.ast n = aRETIRED then s else ((s.setBit (rAUX_EVENTS n) 1).auxFeedOut n).brakeLost n) [2 * h, 2 * h + 1]
  else s

def execFeedOvercurrent (h : Fin 4) (mA : BitVec 16) (s : State) : Outcome State Fault Refusal := .next (s.lit (feedOvercurrent s h.val mA.toNat))

/-- R404: the wait ends. -/
def auxRetryWaitEnd (s : State) (n : Nat) : State := if s.ast n = aLATCHED ∧ (s.auxO n).waiting then s.auxRetry n else s

def execAuxRetryWaitEnd (n : Fin 12) (s : State) : Outcome State Fault Refusal := .next (s.lit (auxRetryWaitEnd s n.val))

/-! ### Diagnostics (R407, R408) -/

/-- The verdict of R407 for voltages in 10 mV. -/
def auxVerdict (low : Bool) (v1 v2 vaux : Nat) (wired : Bool) : Nat :=
  let a := if low then
      (if 600 < v1 ∨ 600 < v2 then 1 else if 450 ≤ v1 ∧ v2 < 50 then 2 else if v2 < 50 then 3 else 0)
    else if vaux < v2 + 50 then 1 else if 50 ≤ v1 ∧ v1 < 600 then 2 else if v1 < 50 then 3 else 0
  if a ≠ 0 then a else if wired then 4 else 5

/-- R404: diagnostics fail, in every power state alike: RETIRED at the last try, else LATCHED with a wait. -/
def State.auxFail (s : State) (n verdict : Nat) : State :=
  let s := (s.auxRaise n (if verdict = 4 then 4 else 3)).setF (fAUX_STATUS_CAUSE n) (if verdict = 4 then 5 else 4)
  if s.auxN ≤ (s.auxTries n).length then s.auxRetire n else s.auxLatch n (if verdict = 4 then 0x0D05 else 0x0D04) true

/-- R404, R360: diagnostics pass. -/
def State.auxPass (s : State) (n : Nat) : State :=
  let q := s.auxO n
  let p := s.auxO (partner n)
  let s := (s.setAst n aOFF).modAux n (fun q => { q with owed := 0 })
  if q.owed = 0 then s
  else if q.owed = 0x0D02 then (if p.owed = 0x0D02 then s else s.raiseCleared 0x0D02 (16 + n / 2) (s.auxTries n).length)
  else s.raiseCleared q.owed n (s.auxTries n).length

/-- R408: output `j` moves while `n` applies its test current: it fails as wired to `n`. -/
def State.auxWired (s : State) (n j : Nat) : State :=
  let s := (s.setBit (rAUX_DIAG_PEER j) n).setF ⟨rAUX_DIAG_RESULT j, 3, 0⟩ 4
  if s.ast j = aDIAG then s.auxFail j 4 else s

/-- R407, R408: the diagnostics of an output complete. -/
def auxDiagComplete (s : State) (n v1 v2 moved : Nat) : State :=
  if s.ast n ≠ aDIAG then s
  else
    let m := maskBelow (fun j => j != n && bit moved j && s.ast j == aDIAG) 12
    let v := auxVerdict (n < 8) v1 v2 (s.fld fPWR_AUX24_V) (m != 0)
    let s := (s.wrN (rAUX_DIAG_RESULT n) (v1 * 2 ^ 20 + v2 * 2 ^ 8 + v)).wrN (rAUX_DIAG_PEER n) m
    let s := if v = 5 then s.auxPass n else s.auxFail n v
    if v = 4 then s.each (fun s j => if bit m j then s.auxWired n j else s) 12 else s

def execAuxDiagComplete (n : Fin 12) (v1 v2 : BitVec 12) (moved : BitVec 12) (s : State) : Outcome State Fault Refusal :=
  .next (s.lit (auxDiagComplete s n.val v1.toNat v2.toNat moved.toNat))

end Sys2Proof.Machine
end

