-- ==== Sys2Proof/Machine/Sns.lean ====
section
/-! DEFINITION. Sensing: sample entries (R91–R95), sigma-delta inputs and decimators (R96–R106), SAR converters (R107–R113), on-state
voltage (R114–R116) and the references (R117–R121). -/
namespace Sys2Proof.Machine

open Host (Outcome)

/-! ### Sample entries -/

/-- FLAGS of an entry. -/
def flSETTLE : Nat := 1
def flCLIP : Nat := 2
def flINVALID : Nat := 4
def flDEGRADED : Nat := 8
def flDELAYED : Nat := 16
def flSUBST : Nat := 32

/-- An entry (R91). -/
def mkEntry (time raw value flags src seq cond reason : Nat) : Quad :=
  BitVec.ofNat 128 (ofBytes (bytesOf 5 time ++ bytesOf 3 raw ++ bytesOf 2 value ++ bytesOf 1 flags ++ bytesOf 1 src ++ bytesOf 2 seq
    ++ bytesOf 1 cond ++ bytesOf 1 reason))

/-- A flag of an entry. -/
def entryFlag (e : Quad) (k : Nat) : Bool := bit (e.b 10) k

/-- VALUE of an entry, signed. -/
def entryValue (e : Quad) : Int := sgn16 (e.h 8)

/-- Four words take an entry, `r` the address of word k. -/
def State.putEntry (s : State) (r : Nat → Nat) (e : Quad) : State :=
  (((s.wrN (r 0) (e.w 0)).wrN (r 1) (e.w 4)).wrN (r 2) (e.w 8)).wrN (r 3) (e.w 12)

/-- SEQ of the next entry of a source (R91): the count of its entries. -/
def State.nextSeq (s : State) (src : Nat) : Nat := (s.sns.seq.at 0 src + 1) % 65536

/-- An entry of source `src`, of cell `c`, is produced: its count, the last good value (R95), the inboxes (R293). -/
def State.produce (s : State) (src c : Nat) (e : Quad) : State :=
  let s := { s with sns := { s.sns with seq := s.sns.seq.put 0 src (s.nextSeq src) } }
  let s := if entryFlag e 0 || entryFlag e 2 then s else { s with sns := { s.sns with good := s.sns.good.put 0 src e } }
  s.toInbox c e

/-- R99: VALUE before saturation, in Q1.15 steps. -/
def scaleValue (raw : Int) (gain : Nat) (offset : Int) : Int := roundFree (raw * gain + offset * 4194304) 4194304

/-! ### Inputs -/

def State.decState (s : State) (d : Nat) : Nat := s.fld (fSNS_DEC_STATUS_STATE d)
def State.decInput (s : State) (d : Nat) : Nat := s.fld (fSNS_DEC_CFG_INPUT d)
def State.dec (s : State) (d : Nat) : DecSt := s.sns.dec.at DecSt.init d
def State.setDec (s : State) (d : Nat) (x : DecSt) : State := { s with sns := { s.sns with dec := s.sns.dec.put DecSt.init d x } }

/-- Decimator states. -/
def dIDLE : Nat := 0
def dSERVING : Nat := 1
def dSPARE : Nat := 2
def dSHADOW : Nat := 3
def dTEST : Nat := 4
def dRETIRED : Nat := 5

/-- The decimator that serves input `n`. -/
def State.serving (s : State) (n : Nat) : Option Nat := firstBelow (fun d => s.decState d == dSERVING && s.decInput d == n) 52

/-- R96: an input in use: enabled, in a group in use. -/
def State.sdUsed (s : State) (n : Nat) : Bool := s.on (fSNS_SD_CFG_ENABLE n) && s.on (fSNS_GROUP_CFG_ENABLE (n / 8))

/-- Cell of an SD input. -/
def State.sdCell (s : State) (n : Nat) : Nat := s.fld (fSNS_SD_CFG_CELL n)

/-- The counts of `SNS_SPARES`; the pool runs empty (`SPARE_EXHAUSTED`). -/
def State.noteSpares (s : State) : State :=
  let n := countBelow (fun d => s.decState d == dSPARE) 52
  let s := if n = 0 ∧ 0 < s.fld fSNS_SPARES_SPARES then s.set1 fFLT_EVENTS_SPARE_EXHAUSTED else s
  let s := (s.setF fSNS_SPARES_SPARES n).setF fSNS_SPARES_RETIRED (countBelow (fun d => s.decState d == dRETIRED) 52)
  s.setB fSNS_SPARES_TEST_SUSPENDED (n == 0)

def State.setDecState (s : State) (d x : Nat) : State := (s.setF (fSNS_DEC_STATUS_STATE d) x).noteSpares

/-- R94: at least `n` SETTLE-marked entries to come. -/
def State.settleDec (s : State) (d n : Nat) : State := s.setF (fSNS_DEC_STATUS_SETTLE_REM d) (max n (s.fld (fSNS_DEC_STATUS_SETTLE_REM d)))

/-- K of a decimator. -/
def State.decK (s : State) (d : Nat) : Nat := s.fld (fSNS_DEC_CFG_ORDER d)

/-- Values the comparators of input `n` ignore when it becomes active (R101). -/
def State.winIgnore (s : State) (n : Nat) : Nat := if s.on (fSNS_SD_CFG_FAST_OSR n) then 32 else 16

/-- The fast path and the comparators of an input start afresh. -/
def State.winRestart (s : State) (n : Nat) : State :=
  let s := { s with sns := { s.sns with fastBits := s.sns.fastBits.put [] n [], fastAt := s.sns.fastAt.put 0 n 0 } }
  { s with sns := { s.sns with outRun := s.sns.outRun.put 0 n 0, ignore := s.sns.ignore.put 0 n (s.winIgnore n) } }

/-- R97: the bit of one bit period from 16 levels of its line.  Clock-and-data coding: bit k of `w` is the level k × 2.5 ns after the rising
edge of the clock.  Manchester coding: bit k is the k-th of the 16 samples of the recovered bit period; a 1 is high before the middle and
low after it, and a period without the transition repeats the bit before it. -/
def lineBit (man : Bool) (dly : Nat) (prev : Bool) (w : BitVec 16) : Bool :=
  if man then (if w.getLsbD 7 = w.getLsbD 8 then prev else w.getLsbD 7) else w.getLsbD dly

/-- The bits of consecutive bit periods, newest first, after a bit `prev`. -/
def lineBits (man : Bool) (dly : Nat) (prev : Bool) : List (BitVec 16) → List Bool
  | [] => []
  | w :: t => let l := lineBits man dly prev t
    lineBit man dly (l.headD prev) w :: l

/-- The stream of input `n` from its line. -/
def State.sdBits (s : State) (n : Nat) (prev : Bool) (line : List (BitVec 16)) : List Bool :=
  lineBits (s.on (fSNS_GROUP_CFG_CODING (n / 8))) (s.fld (fSNS_GROUP_CFG_SAMPLE_DLY (n / 8))) prev line

/-- R98: an input loses its stream. -/
def sdInputLost (s : State) (n : Nat) : State :=
  if ¬ s.sdUsed n ∨ s.on (fSNS_SD_STATUS_LOST n) then s
  else
    let s := ((s.set1 (fSNS_SD_STATUS_LOST n)).clr (fSNS_SD_STATUS_ACTIVE n)).set1 fSNS_EVENTS_SD_LOST
    let role := s.fld (fSNS_SD_CFG_ROLE n)
    let s := if role = 1 ∨ role = 2 then { s with edg := { s.edg with lossRows := s.edg.lossRows ||| (1#48 <<< n) } } else s
    s.raise 0x0301 n

def execSdInputLost (n : Fin 48) (s : State) : Outcome State Fault Refusal := .next (s.lit (sdInputLost s n.val))

/-- R98: an input leaves LOST, or becomes active. -/
def sdInputRecovered (s : State) (n : Nat) : State :=
  if ¬ s.sdUsed n ∨ s.on (fSNS_SD_STATUS_ACTIVE n) then s
  else
    let was := s.on (fSNS_SD_STATUS_LOST n)
    let s := ((s.clr (fSNS_SD_STATUS_LOST n)).set1 (fSNS_SD_STATUS_ACTIVE n)).winRestart n
    let s := { s with edg := { s.edg with lossRows := s.edg.lossRows &&& ~~~ (1#48 <<< n) } }
    let s := match s.serving n with
      | some d => s.settleDec d (s.decK d + 1)
      | none => s
    if was then s.raiseCleared 0x0301 n 0 else s

def execSdInputRecovered (n : Fin 48) (s : State) : Outcome State Fault Refusal := .next (s.lit (sdInputRecovered s n.val))

/-- R97: a Manchester bit period without a mid-bit transition is counted; `lineBit` repeats the bit in the streams. -/
def codingError (s : State) (n : Nat) : State :=
  if s.sdUsed n ∧ s.on (fSNS_GROUP_CFG_CODING (n / 8)) then
    (s.incF (fSNS_SD_STATUS_CODING_ERRS n)).set1 fSNS_EVENTS_CODING_ERR
  else s

def execCodingError (n : Fin 48) (s : State) : Outcome State Fault Refusal := .next (s.lit (codingError s n.val))

/-- R106: the phase of input `n` can be had as the negative sum of the other two of its winding. -/
def State.reconstructs (s : State) (n : Nat) : Bool :=
  let p := s.fld (fSNS_SD_CFG_PHASE n)
  let good := fun q => (firstBelow (fun m => s.sdUsed m && s.fld (fSNS_SD_CFG_ROLE m) == 1 && s.sdCell m == s.sdCell n
    && s.fld (fSNS_SD_CFG_PHASE m) == q && !s.on (fSNS_SD_STATUS_RETIRED m)) 48).isSome
  let b := p / 3 * 3
  good (b + (p + 1) % 3) && good (b + (p + 2) % 3)

/-- The next enabled input after `n`, cyclically; 255 none. -/
def State.rotAfter (s : State) (n : Nat) : Nat :=
  match firstBelow (fun m => n < m && s.sdUsed m && !s.on (fSNS_SD_STATUS_RETIRED m)) 48 with
  | some m => m
  | none => (firstBelow (fun m => s.sdUsed m && !s.on (fSNS_SD_STATUS_RETIRED m)) 48).getD 255

/-- R106: an input is retired for lack of a decimator; a phase current that cannot be reconstructed stops its cell.
The rotation goes on with the next input. -/
def State.retireInput (s : State) (n : Nat) : State :=
  let s := (s.set1 (fSNS_SD_STATUS_RETIRED n)).set1 fSNS_EVENTS_INPUT_RETIRED
  let s := if s.fld fSNS_SPARES_ROT_NEXT = n then s.setF fSNS_SPARES_ROT_NEXT (s.rotAfter n) else s
  if s.fld (fSNS_SD_CFG_ROLE n) = 1 then
    if s.reconstructs n then (s.raise 0x0304 n).singlePath (s.sdCell n)
    else (s.raiseStop 0x0304 n).requestSs1 (s.sdCell n)
  else s.raise 0x0304 n

/-! ### Decimators (R99, R100, R105) -/

/-- The sums of every `m` consecutive values, newest first; values before the first count 0. -/
def slide (m : Nat) : List Int → List Int
  | [] => []
  | x :: t => ((x :: t).take m).foldl (· + ·) 0 :: slide m t

/-- `k` such sums in turn. -/
def slides (m : Nat) : Nat → List Int → List Int
  | 0, l => l
  | k + 1, l => slides m k (slide m l)

/-- R99: RAW of a stream, newest bit first: all ones give +2²³, saturating at 0x7F_FFFF. -/
def sincRaw (k mlog : Nat) (bits : List Bool) : Int :=
  let l := (bits.take (k * (2 ^ mlog - 1) + 1)).map (fun b => if b then (1 : Int) else -1)
  let sum := (slides (2 ^ mlog) k l).headD 0
  min 8388607 (roundFree (sum * 8388608) (2 ^ (mlog * k)))

/-- R101: the sinc2 sliding window of a fast path over its last 2M − 1 bits, in Q1.15 of full scale. -/
def fastValue (mlog : Nat) (bits : List Bool) : BitVec 16 :=
  let l := (bits.take (2 * 2 ^ mlog - 1)).map (fun b => if b then (1 : Int) else -1)
  BitVec.ofInt 16 (min 32767 (roundFree ((slides (2 ^ mlog) 2 l).headD 0 * 32768) (2 ^ (mlog * 2))))

/-- R105: a shadow's output beside the serving decimator's. -/
def State.shadowOut (s : State) (d : Nat) (raw : Int) : State :=
  let x := s.dec d
  let same := match s.serving x.shadowOf with
    | some e => sgnW 24 (s.rdN (rSNS_DEC_LAST e 1) / 256) == raw
    | none => false
  s.setDec d { x with outs := x.outs + 1, eqs := if same then x.eqs + 1 else 0 }

/-- R54, R92: TIME of an entry of input `n` for the modulator clock edge at short time `t`, by the bridge of its group. -/
def State.sdTime (s : State) (n t : Nat) : Nat := s.bridgedAt (.sdm (s.fld (fSNS_GROUP_CFG_FREQ (n / 8)))) (s.instantOf t)

/-- SETTLE of the next entry of decimator `d` (R94). -/
def State.decSettle (s : State) (d : Nat) : Nat := if 0 < s.fld (fSNS_DEC_STATUS_SETTLE_REM d) then flSETTLE else 0

/-- The entry of decimator `d` for input `n`. -/
def State.decEntry (s : State) (d n : Nat) (raw : Int) (t : Nat) : Quad :=
  let v := scaleValue raw (s.fld (fSNS_DEC_SCALE_GAIN d)) (s.fldI (fSNS_DEC_SCALE_OFFSET d))
  let lost := s.on (fSNS_SD_STATUS_LOST n)
  let fl := s.decSettle d + (if satQ15 v = v then 0 else flCLIP) + (if lost then flINVALID else 0)
  mkEntry (s.sdTime n t) (unsW 24 raw) (q15 (satQ15 v)) fl n (s.nextSeq n) (s.decK d * 16 + s.fld (fSNS_DEC_CFG_OSR_LOG d)) (if lost then 1 else 0)

/-- R106: the entry of a retired input, its result not stated. -/
def State.retiredEntry (s : State) (d n t : Nat) : Quad :=
  mkEntry (s.sdTime n t) (Config.freeAt s.free 3 % 16777216) (Config.freeAt s.free 4 % 65536) (flINVALID + s.decSettle d) n (s.nextSeq n)
    (s.decK d * 16 + s.fld (fSNS_DEC_CFG_OSR_LOG d)) 2

/-- Counters, latest entry and ring of a decimator, and the consumers. -/
def State.decPut (s : State) (d n : Nat) (e : Quad) : State :=
  let seq := s.nextSeq n
  let s := ((s.incMod (rSNS_DEC_COUNT d)).putEntry (rSNS_DEC_LAST d) e).putEntry (fun k => rSNS_DEC_RING d (seq % 16 * 4 + k)) e
  let s := s.setF (fSNS_DEC_STATUS_SETTLE_REM d) (s.fld (fSNS_DEC_STATUS_SETTLE_REM d) - 1)
  s.produce n (s.sdCell n) e

/-- R100: the pending filter takes effect at the output boundary. -/
def State.decBoundary (s : State) (d : Nat) : State :=
  let x := s.dec d
  match x.pend with
  | some (k, m) =>
    let s := s.setDec d { x with pend := none, aligned := false }
    ((s.setF (fSNS_DEC_CFG_ORDER d) k).setF (fSNS_DEC_CFG_OSR_LOG d) m).settleDec d (k + 1)
  | none => s.setDec d { x with aligned := false }

/-- R97, R99: RAW of decimator `d` from the line of its input; what a coding error in the oldest period of the history repeats is not
stated. -/
def State.decRaw (s : State) (d : Nat) (line : List (BitVec 16)) : Int :=
  sincRaw (s.decK d) (s.fld (fSNS_DEC_CFG_OSR_LOG d)) (s.sdBits (s.decInput d) (bit (Config.freeAt (s.decInput d) (s.nextSeq (s.decInput d))) 0) line)

/-- R99: an output boundary of decimator `d`. -/
def decOutput (s : State) (d : Nat) (line : List (BitVec 16)) (t : Nat) : State :=
  let n := s.decInput d
  let raw := s.decRaw d line
  if s.decState d = dSERVING then (s.decPut d n (s.decEntry d n raw t)).decBoundary d
  else if s.decState d = dSHADOW then (s.shadowOut d raw).decBoundary d
  else if s.decState d = dRETIRED ∧ n < 48 ∧ s.on (fSNS_SD_STATUS_RETIRED n) then
    { s with free := s.free + 1 }.decPut d n (s.retiredEntry d n t)
  else s

def execDecOutput (d : Fin 52) (line : List (BitVec 16)) (t : ShortTime) (s : State) : Outcome State Fault Refusal :=
  .next (s.lit (decOutput s d.val line t.toNat))

/-- R100 SET_FILTER. -/
def setFilter (s : State) (d : Nat) (p : Quad) : State :=
  let s := s.consume (0x140 + 16 * d) 0x10 p
  if decAccepts 0x10 p then s.setDec d { s.dec d with pend := some (p.b 0, p.b 1) } else s

def execSetFilter (d : Fin 52) (p : Quad) (s : State) : Outcome State Fault Refusal := .next (s.lit (setFilter s d.val p))

/-- R100 ALIGN: the filter state is kept. -/
def decAlign (s : State) (d : Nat) (p : Quad) : State :=
  let s := s.consume (0x140 + 16 * d) 0x11 p
  if decAccepts 0x11 p then s.setDec d { s.dec d with aligned := true } else s

def execDecAlign (d : Fin 52) (p : Quad) (s : State) : Outcome State Fault Refusal := .next (s.lit (decAlign s d.val p))

/-- The lowest-numbered decimator in SPARE. -/
def State.decSpare (s : State) : Option Nat := firstBelow (fun d => s.decState d == dSPARE) 52

/-- A rotation step is in progress. -/
def State.rotating (s : State) : Bool := (firstBelow (fun d => s.decState d == dSHADOW || s.decState d == dTEST) 52).isSome

/-- Filter, scale and input of decimator `e` copied to `d`. -/
def State.decCopy (s : State) (d e : Nat) : State :=
  (s.wr (rSNS_DEC_CFG d) (s.rd (rSNS_DEC_CFG e))).wr (rSNS_DEC_SCALE d) (s.rd (rSNS_DEC_SCALE e))

/-- R105: a rotation step starts: the spare shadows the decimator of input `ROT_NEXT`. -/
def State.rotate (s : State) : State :=
  let k := s.fld fSNS_SPARES_ROT_NEXT
  match s.decSpare, s.serving k with
  | some d, some e => ((s.decCopy d e).setDec d { DecSt.init with shadowOf := k }).setDecState d dSHADOW
  | _, _ => s.noteSpares

/-- R105: the rotation tick, outside BIVOUAC (R372). -/
def rotationTick (s : State) : State := if s.rotating ∨ s.inBiv then s else s.rotate

def execRotationTick (s : State) : Outcome State Fault Refusal := .next (s.lit (rotationTick s))

/-- R105: handover at the output boundary: the old decimator enters TEST, the handover adds no SETTLE mark.  A count still running is the
source's and goes on (R94). -/
def shadowHandover (s : State) (d : Nat) : State :=
  let x := s.dec d
  if s.decState d = dSHADOW ∧ (if x.retest then s.decK d + 1 ≤ x.outs else 4 ≤ x.eqs) then
    let s := match s.serving x.shadowOf with
      | some e =>
        let s := s.setF (fSNS_DEC_STATUS_SETTLE_REM d) (s.fld (fSNS_DEC_STATUS_SETTLE_REM e))
        (((s.setF (fSNS_DEC_CFG_INPUT e) 63).setF (fSNS_DEC_STATUS_SETTLE_REM e) 0).setDec e DecSt.init).setDecState e dTEST
      | none => s.setF (fSNS_DEC_STATUS_SETTLE_REM d) 0
    let s := (s.setDec d DecSt.init).setDecState d dSERVING
    (s.set1 fSNS_EVENTS_DEC_SWAP).setF fSNS_SPARES_ROT_NEXT (s.rotAfter x.shadowOf)
  else s

def execShadowHandover (d : Fin 52) (s : State) : Outcome State Fault Refusal := .next (s.lit (shadowHandover s d.val))

/-- R105: no match within K + 5 outputs. -/
def shadowMismatch (s : State) (d : Nat) : State :=
  let x := s.dec d
  if s.decState d = dSHADOW ∧ ¬ x.retest ∧ x.eqs < 4 ∧ s.decK d + 5 ≤ x.outs then
    ((s.setDec d { DecSt.init with shadowOf := x.shadowOf, retest := true }).setDecState d dTEST).raise 0x0302 d
  else s

def execShadowMismatch (d : Fin 52) (s : State) : Outcome State Fault Refusal := .next (s.lit (shadowMismatch s d.val))

/-- A decimator is retired; 0x0303. -/
def State.retireDec (s : State) (d : Nat) : State := ((s.setDecState d dRETIRED).set1 fSNS_EVENTS_DEC_RETIRED).raise 0x0303 d

/-- R105: the pattern test of a decimator in TEST ends. -/
def patternTestDone (s : State) (d : Nat) (pass : Bool) : State :=
  let x := s.dec d
  if s.decState d ≠ dTEST then s
  else if ¬ pass then ((s.setDec d DecSt.init).setF (fSNS_DEC_CFG_INPUT d) 63).retireDec d
  else if x.retest then
    match s.serving x.shadowOf with
    | some e => ((s.decCopy d e).setDec d { DecSt.init with shadowOf := x.shadowOf, retest := true }).setDecState d dSHADOW
    | none => ((s.setDec d DecSt.init).setF (fSNS_DEC_CFG_INPUT d) 63).setDecState d dSPARE
  else ((s.setDec d DecSt.init).setF (fSNS_DEC_CFG_INPUT d) 63).setDecState d dSPARE

def execPatternTestDone (d : Fin 52) (pass : Bool) (s : State) : Outcome State Fault Refusal := .next (s.lit (patternTestDone s d.val pass))

/-- R105, R366, R367: the decimator that can take over: a spare, else a shadow; none in BIVOUAC. -/
def State.decSubstitute (s : State) : Option Nat :=
  if s.inBiv then none
  else match s.decSpare with
    | some d => some d
    | none => firstBelow (fun d => s.decState d == dSHADOW) 52

/-- R105: an internal check of a serving decimator fails. -/
def decCheckError (s : State) (d : Nat) : State :=
  if s.decState d ≠ dSERVING then s
  else
    let n := s.decInput d
    let s := s.retireDec d
    match s.decSubstitute with
    | some e =>
      let s := ((s.decCopy e d).setDec e DecSt.init).setDecState e dSERVING
      let s := s.setF (fSNS_DEC_STATUS_SETTLE_REM e) (max (s.decK e + 1) (s.fld (fSNS_DEC_STATUS_SETTLE_REM d)))
      (s.setF (fSNS_DEC_CFG_INPUT d) 63).setF (fSNS_DEC_STATUS_SETTLE_REM d) 0
    | none => s.retireInput n

def execDecCheckError (d : Fin 52) (s : State) : Outcome State Fault Refusal := .next (s.lit (decCheckError s d.val))

/-! ### Window comparators (R101–R104) -/

/-- A comparator pair drives its row: not both sides retired. -/
def State.winLive (s : State) (n : Nat) : Bool :=
  s.on (fSNS_WIN_CFG_ENABLE n) && !(s.on (fSNS_WIN_STATUS_A_RETIRED n) && s.on (fSNS_WIN_STATUS_B_RETIRED n))

/-- R102: one value of the fast path. -/
def State.winValue (s : State) (n : Nat) (v : BitVec 16) : State :=
  let s := { s with sns := { s.sns with fast := s.sns.fast.put 0 n v.toNat } }
  let ig := s.sns.ignore.at 0 n
  if 0 < ig then { s with sns := { s.sns with ignore := s.sns.ignore.put 0 n (ig - 1) } }
  else
    let out := s.fldI (fSNS_WIN_LIM_HI n) < v.toInt ∨ v.toInt < s.fldI (fSNS_WIN_LIM_LO n)
    let run := if out then s.sns.outRun.at 0 n + 1 else 0
    let s := { s with sns := { s.sns with outRun := s.sns.outRun.put 0 n run } }
    let dec := s.winLive n && decide (s.fld (fSNS_WIN_CFG_QUAL n) + 1 ≤ run)
    let s := if dec ∧ ¬ s.on (fSNS_WIN_STATUS_OUT n) then s.incF (fSNS_WIN_STATUS_TRIPS n) else s
    s.setB (fSNS_WIN_STATUS_OUT n) dec

/-- R97, R101, R102: one bit period of the line of input `n`: its bit enters the filter, whose new value the comparators judge. -/
def State.fastBit (s : State) (n : Nat) (w : BitVec 16) : State :=
  let l := s.sns.fastBits.at [] n
  let bits := (s.sdBits n (l.headD (bit (Config.freeAt n (s.nextSeq n)) 1)) [w] ++ l).take 31
  let s := { s with sns := { s.sns with fastBits := s.sns.fastBits.put [] n bits } }
  s.winValue n (fastValue (if s.on (fSNS_SD_CFG_FAST_OSR n) then 4 else 3) bits)

/-- R96: the modulator clock period of input `n`, in units. -/
def State.modPeriod (s : State) (n : Nat) : Nat := 2560000 / s.fld (fSNS_GROUP_CFG_FREQ (n / 8))

/-- R101: the fast-path delay of input `n`, M − 1 modulator clocks. -/
def State.fastDelay (s : State) (n : Nat) : Nat := (if s.on (fSNS_SD_CFG_FAST_OSR n) then 15 else 7) * s.modPeriod n

/-- R104: the serving side of a pair fails as well: the cell stops. -/
def State.compLost (s : State) (n : Nat) : State :=
  (((((s.set1 (fSNS_WIN_STATUS_A_RETIRED n)).set1 (fSNS_WIN_STATUS_B_RETIRED n)).clr (fSNS_WIN_STATUS_OUT n)).set1
    fSNS_EVENTS_WIN_FAIL).raiseStop 0x0306 n).requestSs1 (s.sdCell n)

/-- R103, R104: what a housekeeping round reports of side B (`b`) or A of a pair.  Once the other side is retired this one is no longer
tested, and a failure reported of it is the loss of the serving side (DESIGN CHOICE, log 63). -/
def State.compTest (s : State) (n : Nat) (b pass : Bool) : State :=
  let me := if b then fSNS_WIN_STATUS_B_RETIRED n else fSNS_WIN_STATUS_A_RETIRED n
  let other := if b then fSNS_WIN_STATUS_A_RETIRED n else fSNS_WIN_STATUS_B_RETIRED n
  if pass ∨ ¬ s.on (fSNS_WIN_CFG_ENABLE n) ∨ s.on me then s
  else if s.on other then s.compLost n
  else (((s.set1 me).set1 fSNS_EVENTS_WIN_FAIL).set1 (fFLT_CELL_WIN_SINGLE (s.sdCell n))).raise 0x0305 n

/-! ### SAR converters (R107–R113) -/

def State.sar (s : State) (c : Nat) : SarSt := s.sns.sar.at SarSt.init c
def State.setSar (s : State) (c : Nat) (x : SarSt) : State := { s with sns := { s.sns with sar := s.sns.sar.put SarSt.init c x } }

/-- The input the multiplexer will stand at when a new conversion joins. -/
def State.sarLast (s : State) (c : Nat) : Nat × Nat :=
  match (s.sar c).convs.getLast? with
  | some v => (v.chan, v.gain)
  | none => (s.fld (fSNS_SAR_STATE_CHAN c), s.fld (fSNS_SAR_STATE_GAIN c))

/-- SUBST: the group of AN input `n` converts against the other reference (R119). -/
def State.anSubst (s : State) (n : Nat) : Bool := if n < 8 then s.on fSNS_REF_STATUS_A_ON_B else s.on fSNS_REF_STATUS_B_ON_A

/-- The first waiting conversion starts: its gain against the last one's (R110), its reference (R119), and what the status shows; with
none waiting, a calibration step that waited starts (R112). -/
def State.sarStart (s : State) (c : Nat) : State :=
  let x := s.sar c
  match x.convs with
  | v :: rest =>
    let settle := if v.gain = s.fld (fSNS_SAR_STATE_GAIN c) then x.settle else max 2 x.settle
    let s := s.setSar c { x with convs := { v with subst := s.anSubst v.chan } :: rest, settle := settle }
    ((s.setF (fSNS_SAR_STATE_CHAN c) v.chan).setF (fSNS_SAR_STATE_GAIN c) v.gain).set1 (fSNS_SAR_STATE_BUSY c)
  | [] =>
    let s := s.clr (fSNS_SAR_STATE_BUSY c)
    if x.calWait then (s.setSar c { x with calWait := false, calAt := s.now }).set1 (fSNS_SAR_STATE_CAL_ACTIVE c) else s

/-- One conversion joins (R109, R111), with the short launch time of its record. -/
def State.sarAdd (s : State) (c chan gain launch : Nat) (delayed : Bool) : State :=
  let x := s.sar c
  let idle := x.convs.isEmpty
  let acq := if (s.sarLast c).1 = chan then 0 else if idle then 60 else 200
  let s := s.setSar c { x with convs := x.convs ++
    [{ chan := chan, gain := gain, acq := acq, delayed := delayed, launch := launch, subst := false }] }
  if idle then s.sarStart c else s

/-- R112: a calibration step runs: it lasts 2 µs at most, and ends then (DESIGN CHOICE, log 64). -/
def State.calRunning (s : State) (c : Nat) : Bool := s.on (fSNS_SAR_STATE_CAL_ACTIVE c) && decide (s.now < (s.sar c).calAt + 2000 * nsU)

/-- R112: a calibration step in progress aborts and is owed; whether one did. -/
def State.sarAbortCal (s : State) (c : Nat) : State × Bool :=
  if s.calRunning c then
    let s := ((s.clr (fSNS_SAR_STATE_CAL_ACTIVE c)).inc (rSNS_SAR_CAL_ABORTS c)).set1 fSNS_EVENTS_SAR_CAL_ABORT
    (s.setSar c { s.sar c with owed := true }, true)
  else (s.clr (fSNS_SAR_STATE_CAL_ACTIVE c), false)

/-- SETTLE, DEGRADED and SUBST of an entry of AN input `n` that needs no conversion. -/
def State.anFlags (s : State) (n : Nat) : Nat :=
  (if 0 < s.sns.anSettle.at 0 n then flSETTLE else 0) + (if s.on fSNS_REF_STATUS_DEGRADED then flDEGRADED else 0)
    + (if s.anSubst n then flSUBST else 0)

/-- One SETTLE mark of AN input `n` is used up. -/
def State.anMarked (s : State) (n : Nat) : State :=
  { s with sns := { s.sns with anSettle := s.sns.anSettle.put 0 n (s.sns.anSettle.at 0 n - 1) } }

/-- R113: until another converter converts it, an input that a retired converter served gives INVALID entries, their results not stated:
one when the converter retires and one for each record that would have converted it (DEDUCED, log 65). -/
def State.sarOrphan (s : State) (c n : Nat) : State :=
  if s.sns.anBy.at 0 n = c + 1 then
    let e := mkEntry s.short (Config.freeAt s.free 3 % 16777216) (Config.freeAt s.free 4 % 65536) (flINVALID + s.anFlags n) (0x60 + n)
      (s.nextSeq (0x60 + n)) 0 2
    (({ s with free := s.free + 1 }.putEntry (rSNS_AN_LAST n) e).anMarked n).produce (0x60 + n) (s.fld (fSNS_AN_CFG_CELL n)) e
  else s

/-- R108 CONVERT; a retired converter discards it (R113). -/
def convert (s : State) (c : Nat) (p : Quad) : State :=
  let at_ := s.launchOf (0x480 + 16 * c) 0x10 p
  let s := s.consume (0x480 + 16 * c) 0x10 p
  if ¬ sarAccepts c 0x10 p then s
  else if s.on (fSNS_SAR_STATE_RETIRED c) then s.sarOrphan c (p.b 0)
  else
    let a := s.sarAbortCal c
    a.1.sarAdd c (p.b 0) (p.b 1) at_ (a.2 || a.1.on (fSNS_SAR_STATE_BUSY c))

def execConvert (c : Fin 4) (p : Quad) (s : State) : Outcome State Fault Refusal := .next (s.lit (convert s c.val p))

/-- The slots of a sequence, `n` of them from slot `k`; slots not valid are passed over. -/
def State.sarSeq (s : State) (c k launch : Nat) (delayed : Bool) : Nat → State
  | 0 => s
  | n + 1 =>
    let s := if s.on (fSNS_SAR_SEQ_VALID c (k % 16)) then
        if s.on (fSNS_SAR_STATE_RETIRED c) then s.sarOrphan c (s.fld (fSNS_SAR_SEQ_CHAN c (k % 16)))
        else s.sarAdd c (s.fld (fSNS_SAR_SEQ_CHAN c (k % 16))) (s.fld (fSNS_SAR_SEQ_GAIN c (k % 16))) launch delayed
      else s
    s.sarSeq c (k + 1) launch delayed n

/-- R108 RUN_SEQ; a retired converter discards it (R113). -/
def runSeq (s : State) (c : Nat) (p : Quad) : State :=
  let at_ := s.launchOf (0x480 + 16 * c) 0x11 p
  let s := s.consume (0x480 + 16 * c) 0x11 p
  if ¬ sarAccepts c 0x11 p then s
  else
    let a := s.sarAbortCal c
    a.1.sarSeq c (p.b 0) at_ (a.2 || a.1.on (fSNS_SAR_STATE_BUSY c)) (p.b 1)

def execRunSeq (c : Fin 4) (p : Quad) (s : State) : Outcome State Fault Refusal := .next (s.lit (runSeq s c.val p))

/-- R118: a 16-bit result with the trim of the reference it was converted against; `b` for REF_B. -/
def State.trimmed (s : State) (b : Bool) (raw : Int) : Int :=
  clamp (-32768) 32767 (roundFree (raw * (1000000 + s.fldI (if b then fSNS_REF_TRIM_B else fSNS_REF_TRIM_A))) 1000000)

/-- R93: a sample instant lies later than its launch time plus one conversion time. -/
def State.sarLate (s : State) (launch t : Nat) : Bool :=
  let d := (s.instantOf t + 2 ^ 40 - launch % 2 ^ 40) % 2 ^ 40
  200 * nsU < d && d < 2 ^ 39

/-- The entry of a conversion whose acquisition ended at short time `t`, TIME by the CORE bridge (R107).  The marks of a reference switch
are for conversions started after it (R119). -/
def State.sarEntry (s : State) (c : Nat) (v : Conv) (raw : BitVec 16) (t : Nat) : Quad :=
  let n := v.chan
  let res := s.trimmed (decide (8 ≤ n) != v.subst) raw.toInt
  let val := scaleValue res (s.fld (fSNS_AN_SCALE_GAIN n)) (s.fldI (fSNS_AN_SCALE_OFFSET n))
  let settle := 0 < (s.sar c).settle ∨ (v.subst = s.anSubst n ∧ 0 < s.sns.anSettle.at 0 n)
    ∨ (v.acq ≠ 0 ∧ v.acq < s.fld (fSNS_SAR_CFG_TACQ_MIN c) * 10)
  let fl := (if settle then flSETTLE else 0) + (if satQ15 val = val then 0 else flCLIP) + (if s.on fSNS_REF_STATUS_DEGRADED then flDEGRADED else 0)
    + (if v.delayed ∨ s.sarLate v.launch t then flDELAYED else 0) + (if v.subst then flSUBST else 0)
  mkEntry (s.bridgedAt .core (s.instantOf t)) (unsW 24 res) (q15 (satQ15 val)) fl (0x60 + n) (s.nextSeq (0x60 + n)) v.gain 0

/-- An entry of AN input `v.chan` by converter `c`. -/
def State.sarPut (s : State) (c : Nat) (v : Conv) (e : Quad) : State :=
  let n := v.chan
  let seq := s.nextSeq (0x60 + n)
  let s := (s.incMod (rSNS_SAR_COUNT c)).putEntry (rSNS_SAR_LAST c) e
  let s := (s.putEntry (fun k => rSNS_SAR_RING c (seq % 16 * 4 + k)) e).putEntry (rSNS_AN_LAST n) e
  let s := if v.subst = s.anSubst n then s.anMarked n else s
  let s := { s with sns := { s.sns with anBy := s.sns.anBy.put 0 n (c + 1) } }
  s.produce (0x60 + n) (s.fld (fSNS_AN_CFG_CELL n)) e

/-- R107: the running conversion ends; the next one of the converter starts. -/
def sarConversionEnd (s : State) (c : Nat) (raw : BitVec 16) (t : Nat) : State :=
  match (s.sar c).convs with
  | [] => s
  | v :: rest =>
    let e := s.sarEntry c v raw t
    let s := s.setSar c { s.sar c with convs := rest, settle := (s.sar c).settle - 1 }
    (s.sarPut c v e).sarStart c

def execSarConversionEnd (c : Fin 4) (raw : BitVec 16) (t : ShortTime) (s : State) : Outcome State Fault Refusal :=
  .next (s.lit (sarConversionEnd s c.val raw t.toNat))

/-- R112: a calibration pass is incomplete after 10 s. -/
def sarCalStall (s : State) (c : Nat) : State :=
  if s.on (fSNS_SAR_CFG_CAL_EN c) ∧ ¬ s.on (fSNS_SAR_STATE_RETIRED c) then s.raise 0x0308 (52 + c) else s

def execSarCalStall (c : Fin 4) (s : State) : Outcome State Fault Refusal := .next (s.lit (sarCalStall s c.val))

/-- R113: a converter is retired. -/
def State.sarRetire (s : State) (c : Nat) : State :=
  if s.on (fSNS_SAR_STATE_RETIRED c) then s
  else
    let s := ((s.set1 (fSNS_SAR_STATE_RETIRED c)).clr (fSNS_SAR_STATE_CAL_ACTIVE c)).setSar c SarSt.init
    let s := ((s.sarStart c).set1 fSNS_EVENTS_SAR_RETIRED).raise 0x0307 (52 + c)
    s.each (fun s n =>
      let diverse := s.sns.anBy.at 0 n = c + 1 ∧ s.fld (fSNS_AN_CFG_ROLE n) = 1
      let s := s.sarOrphan c n
      if diverse then s.singlePath (s.fld (fSNS_AN_CFG_CELL n)) else s) 16

/-- R112, R113: a housekeeping slot of a converter.  One that fails its calibration limits or its reference check is retired.  With
`CAL_EN` a calibration step starts, an aborted one again; while conversions run it waits for their end (DESIGN CHOICE, log 64). -/
def State.sarCalStep (s : State) (c : Nat) (pass : Bool) : State :=
  if s.on (fSNS_SAR_STATE_RETIRED c) then s
  else if ¬ pass then s.sarRetire c
  else if ¬ s.on (fSNS_SAR_CFG_CAL_EN c) then s
  else
    let x := s.sar c
    let x := { x with owed := false, calStep := if x.owed ∨ x.calWait then x.calStep else x.calStep + 1 }
    if s.on (fSNS_SAR_STATE_BUSY c) then s.setSar c { x with calWait := true }
    else (s.setSar c { x with calAt := s.now }).set1 (fSNS_SAR_STATE_CAL_ACTIVE c)

/-! ### On-state voltage (R114–R116) -/

def State.von (s : State) (g : Nat) : VonSt := s.sns.von.at VonSt.init g
def State.setVon (s : State) (g : Nat) (x : VonSt) : State := { s with sns := { s.sns with von := s.sns.von.put VonSt.init g x } }

/-- The last edge of an output. -/
def State.lastEdge (s : State) (o : Nat) : Nat := s.rdN (rEDG_EO_LAST_LO o) + s.rdN (rEDG_EO_LAST_HI o) * 4294967296

/-- The VON entry of channel `g`, TIME the start of its aperture by the GDI bridge (R114); VALUE has no stated base. -/
def State.vonEntry (s : State) (g : Nat) (raw start range reason : Nat) : Quad :=
  let v := Config.freeAt s.free 5
  let fl := (if reason = 0 then 0 else flINVALID) + (if bit v 16 then flCLIP else 0)
  mkEntry (s.bridgedAt .gdi start) raw (v % 65536) fl (0x80 + g) (s.nextSeq (0x80 + g)) (range % 2) reason

/-- Cell of a gate channel, by its leg. -/
def State.chanCell (s : State) (g : Nat) : Nat :=
  match s.legOf g with
  | some n => s.legCell n
  | none => 0

def State.vonPut (s : State) (g : Nat) (e : Quad) : State :=
  ({ s with free := s.free + 1 }.putEntry (rSNS_VON_LAST g) e).produce (0x80 + g) (s.chanCell g) e

/-- R114 VON_SAMPLE: the aperture opens. -/
def vonSample (s : State) (g : Nat) (p : Quad) : State :=
  let s := s.consume (0x6C8 + 16 * g) 0x10 p
  if ¬ s.on (fSNS_VON_CFG_ENABLE g) ∨ ¬ gdAccepts 8 0x10 p then s
  else if (s.von g).busy then s.vonPut g (s.vonEntry g (Config.freeAt s.free 3 % 4096) s.now (p.b 0) 5)
  else
    let on := s.on (fEDG_EO_STATUS_LEVEL g) ∧ s.fld (fSNS_VON_CFG_BLANK g) * 100 * nsU ≤ s.now - s.lastEdge g
    s.setVon g { busy := true, range := p.b 0, start := s.now, reason := if on then 0 else 3 }

def execVonSample (g : Fin 24) (p : Quad) (s : State) : Outcome State Fault Refusal := .next (s.lit (vonSample s g.val p))

/-- R115 reason 4: the output turned off, or a trip or desaturation acted, before the 200 ns aperture ended. -/
def State.vonCut (s : State) (g start : Nat) : Bool :=
  let hit := fun t => decide (start ≤ t ∧ t < start + 200 * nsU)
  hit (s.out g).offAt || (match s.legOf g with
    | some n => hit (s.leg n).tripAt
    | none => false) || hit (s.gate g).desatAt

/-- R114–R116: the VON entry is written. -/
def vonEntryWritten (s : State) (g : Nat) (raw : BitVec 12) (selfCheck : Bool) : State :=
  let v := s.von g
  if ¬ v.busy then s
  else
    let reason := if ¬ selfCheck then 2 else if v.reason ≠ 0 then v.reason else if s.vonCut g v.start then 4 else 0
    let s := (s.setVon g VonSt.init).vonPut g (s.vonEntry g raw.toNat v.start v.range reason)
    if selfCheck then s else (s.set1 fSNS_EVENTS_VON_FAIL).raise 0x030E (0x40 + g)

def execVonEntryWritten (g : Fin 24) (raw : BitVec 12) (selfCheck : Bool) (s : State) : Outcome State Fault Refusal :=
  .next (s.lit (vonEntryWritten s g.val raw selfCheck))

/-! ### References (R117–R121) -/

/-- Fields of a reference: state, deviation, trim, substitution; 0 for REF_A, 1 for REF_B. -/
def fRefState (b : Bool) : Fld := if b then fSNS_REF_STATUS_B_STATE else fSNS_REF_STATUS_A_STATE
def fRefDev (b : Bool) : Fld := if b then fSNS_REF_DEV_B else fSNS_REF_DEV_A
def fRefTrim (b : Bool) : Fld := if b then fSNS_REF_TRIM_B else fSNS_REF_TRIM_A
def fRefSub (b : Bool) : Fld := if b then fSNS_REF_STATUS_B_ON_A else fSNS_REF_STATUS_A_ON_B
def refIdx (b : Bool) : Nat := if b then 0x81 else 0x80

def State.refSt (s : State) (b : Bool) : RefSt := if b then s.sns.refB else s.sns.refA
def State.setRef (s : State) (b : Bool) (x : RefSt) : State :=
  if b then { s with sns := { s.sns with refB := x } } else { s with sns := { s.sns with refA := x } }

/-- Two SETTLE entries for each input of a group. -/
def State.settleGroup (s : State) (b : Bool) : State :=
  s.each (fun s k =>
    let n := if b then k + 8 else k
    { s with sns := { s.sns with anSettle := s.sns.anSettle.put 0 n (max 2 (s.sns.anSettle.at 0 n)) } }) 8

/-- R118: trim and warning of one reference. -/
def State.refTrim (s : State) (b : Bool) (dev : Int) : State :=
  let s := s.setFI (fRefDev b) dev
  if dev.natAbs ≤ 1000 then
    let t := s.fldI (fRefTrim b)
    let s := s.setFI (fRefTrim b) (clamp (-1000) 1000 (t + clamp (-20) 20 (-dev - t)))
    if s.fld (fRefState b) = 1 then s.setF (fRefState b) 0 else s
  else if s.fld (fRefState b) = 0 then ((s.setF (fRefState b) 1).set1 fSNS_EVENTS_REF_WARN).raise 0x0309 (refIdx b)
  else s

/-- R119: the group of a reference changes to the other. -/
def State.refSwitch (s : State) (b : Bool) : State :=
  let s := ((s.setF (fRefState b) 2).set1 (fRefSub b)).setRef b { good := 0, since := 0, bad := true }
  ((s.settleGroup b).set1 fSNS_EVENTS_REF_SWITCH).raise 0x030A (refIdx b)

/-- R120: a switched reference in one round. -/
def State.refSwitched (s : State) (b : Bool) (dev : Int) : State :=
  let x := s.refSt b
  let low := dev.natAbs ≤ 1000
  let x := { good := if low then x.good + 1 else 0, since := x.since + 1, bad := x.bad && !decide low }
  let s := s.setRef b x
  if 16 ≤ x.good then
    let s := ((s.setF (fRefState b) 0).clr (fRefSub b)).settleGroup b
    (s.set1 fSNS_EVENTS_REF_SWITCH).raiseCleared 0x030A (refIdx b) 0
  else if x.bad ∧ 1250 ≤ x.since then ((s.setF (fRefState b) 3).set1 fSNS_EVENTS_REF_RETIRED).raise 0x030B (refIdx b)
  else s

/-- R121: degraded references in one round. -/
def State.refDegraded (s : State) (deg : Bool) : State :=
  match s.sns.degSince, deg with
  | none, true =>
    let s := { s with sns := { s.sns with degSince := some 0, degPersist := false } }
    ((s.set1 fSNS_REF_STATUS_DEGRADED).set1 fSNS_EVENTS_REF_DEGRADED).raise 0x030C 0x82
  | some n, true =>
    let s := { s with sns := { s.sns with degSince := some (n + 1) } }
    if 1250 ≤ n + 1 ∧ ¬ s.sns.degPersist then { s with sns := { s.sns with degPersist := true } }.raise 0x030D 0x82 else s
  | some _, false => ({ s with sns := { s.sns with degSince := none } }.clr fSNS_REF_STATUS_DEGRADED).raiseCleared 0x030C 0x82 0
  | none, false => s

/-- The cells' reference bits (FLT_CELLn): they follow. -/
def State.noteRefCells (s : State) : State :=
  s.each (fun s c =>
    let used := fun n => s.fld (fSNS_AN_CFG_ROLE n) != 0 && s.fld (fSNS_AN_CFG_CELL n) == c
    let s := s.setB (fFLT_CELL_REF_SUBST c) (firstBelow (fun n => used n && s.anSubst n) 16).isSome
    s.setB (fFLT_CELL_REF_DEGRADED c) (s.on fSNS_REF_STATUS_DEGRADED && (firstBelow used 16).isSome)) 4

/-- R117–R121: the references in one housekeeping round, deviations in ppm. -/
def State.refRound (s : State) (da db : Int) : State :=
  let s := (s.refTrim false da).refTrim true db
  let subA := 2 ≤ s.fld (fRefState false)
  let subB := 2 ≤ s.fld (fRefState true)
  let hiA := 2000 < da.natAbs
  let hiB := 2000 < db.natAbs
  let s := if s.fld (fRefState false) = 2 then s.refSwitched false da else s
  let s := if s.fld (fRefState true) = 2 then s.refSwitched true db else s
  let s := if hiA ∧ ¬ hiB ∧ ¬ subA ∧ ¬ subB then s.refSwitch false else s
  let s := if hiB ∧ ¬ hiA ∧ ¬ subA ∧ ¬ subB then s.refSwitch true else s
  let deg := (hiA ∧ hiB ∧ ¬ subA ∧ ¬ subB) ∨ (subA ∧ hiB) ∨ (subB ∧ hiA)
  (s.refDegraded (decide deg)).noteRefCells

/-! ### SNS_CMD -/

/-- The SNS counters that do not count entries. -/
def State.snsClear (s : State) : State :=
  let s := s.each (fun s c => s.wr (rSNS_SAR_CAL_ABORTS c) 0) 4
  s.each (fun s n => (s.setF (fSNS_SD_STATUS_CODING_ERRS n) 0).setF (fSNS_WIN_STATUS_TRIPS n) 0) 48

def snsClearCounters (s : State) : State := s.cmd rSNS_CMD 0x0001 (fun s => (stDONE, s.snsClear))

def execSnsClearCounters (s : State) : Outcome State Fault Refusal := .next (s.lit (snsClearCounters s))

/-- `SNS_CMD` 0x0002: one rotation step. -/
def snsRotationStep (s : State) : State :=
  s.cmdBiv rSNS_CMD 0x0002 (fun s =>
    if s.decSpare = none ∨ s.rotating then (stREFUSED, s) else (stDONE, s.rotate))

def execSnsRotationStep (s : State) : Outcome State Fault Refusal := .next (s.lit (snsRotationStep s))

end Sys2Proof.Machine
end

