-- ==== Sys2Proof/Machine/Edg.lean ====
section
/-! DEFINITION. The edge generator: placement (R139), delay-line twins (R142, R143), carriers (R144–R146), legs, dead time and interlock
(R147–R153), trips and cuts (R154–R158). -/
namespace Sys2Proof.Machine

open Host (Outcome)

/-! ### Placement -/

/-- R139: the instant at which an edge requested for `t` is placed, in units: period ⌊t/512⌋ at tap ⌊((t mod 512) + 2)/4⌋. -/
def placeEdge (t : Nat) : Nat := t / 512 * 512 + (t % 512 + 2) / 4 * 4

/-- R139: the placement of a record that fires late, at `t`: tap 0 of the first period that begins at or after it. -/
def placeLate (t : Nat) : Nat := (t + 511) / 512 * 512

/-! ### Legs -/

def tNORMAL : Nat := 0
def tCUT : Nat := 1
def tLATCHED : Nat := 2
def tRETIRED : Nat := 3

def State.tst (s : State) (n : Nat) : Nat := s.fld (fEDG_LEG_STATUS_TSTATE n)
def State.setTst (s : State) (n x : Nat) : State := (s.setF (fEDG_LEG_STATUS_TSTATE n) x).noteChop
def State.target (s : State) (n : Nat) : Nat := s.fld (fEDG_LEG_STATUS_TARGET n)
def State.setTarget (s : State) (n x : Nat) : State := s.setF (fEDG_LEG_STATUS_TARGET n) x

/-- R151: whether a leg of a type may show a pattern; bit 0 is S1, T1 or the upper switch. -/
def patAllowed (ty p : Nat) : Bool :=
  match ty with
  | 1 => p < 3
  | 2 => p == 0 || p == 4 || p == 12 || p == 2 || p == 6 || p == 3
  | 3 => p == 0 || p == 8 || p == 4 || p == 12 || p == 2 || p == 6 || p == 1 || p == 3
  | 4 => p < 2
  | _ => p == 0

/-- The partner of a switch in its complementary pair (R147); none on a single switch. -/
def pairOf (ty k : Nat) : Option Nat :=
  match ty with
  | 1 => some (1 - k)
  | 2 => some ((k + 2) % 4)
  | 3 => some ((k + 2) % 4)
  | _ => none

/-- Switch `k` belongs to pair B. -/
def inPairB (ty k : Nat) : Bool := (ty == 2 || ty == 3) && k % 2 == 1

/-- The dead time for turning switch `k` on, in units: `DT_UP` for the upper switch of its pair, `DT_DN` for the lower (R149). -/
def State.deadTime (s : State) (n k : Nat) : Nat :=
  let ty := s.legType n
  let upper := if ty = 1 then k == 0 else k < 2
  let b := inPairB ty k
  (match upper, b with
    | true, false => s.fld (fEDG_LEG_DTA_DT_UP n)
    | false, false => s.fld (fEDG_LEG_DTA_DT_DN n)
    | true, true => s.fld (fEDG_LEG_DTB_DT_UP n)
    | false, true => s.fld (fEDG_LEG_DTB_DT_DN n)) * nsU

/-- A desaturation or gate miss of channel `o` holds legs off while it is LATCHED (R170, R173). -/
def State.flagHold (s : State) (o : Nat) : Bool :=
  s.gst o == gLATCHED && (s.fld (fGD_STATUS_CAUSE o) == 1 || s.fld (fGD_STATUS_CAUSE o) == 2)

/-- A hold of ranks 1–3 of R33 by one of the leg's own channels: gate enable removed, unplugged and not yet passed again (R179), FENCED,
another owner, desaturation. -/
def State.chanHold (s : State) (o : Nat) : Bool :=
  s.on (fGD_STATUS_SAFE_OFF o) || (s.gate o).plugHold || s.gst o == gFENCED || s.fld (fGD_OWN_OWNER o) != s.own || s.flagHold o

/-- Some channel of the cell holds every leg of the cell (`DESAT_SCOPE` 1, R170). -/
def State.scopeHold (s : State) (c : Nat) : Bool :=
  (firstBelow (fun o => s.cellHas c o && s.flagHold o && s.on (fGD_CFG_DESAT_SCOPE o)) 24).isSome

/-- A leg of `TYPE` 1–3 of the cell is retired, which holds every such leg of the cell off (R158). -/
def State.retHold (s : State) (c : Nat) : Bool :=
  (firstBelow (fun m => s.legN m ≠ 0 && s.legType m != 4 && s.legCell m == c && s.tst m == tRETIRED) 12).isSome

/-- Ranks 1–3 of R33 hold leg `n` off; GIVE (R280), fencing and an open double-ownership claim (R277) hold the cell's legs. -/
def State.legHeld (s : State) (n : Nat) : Bool :=
  let c := s.legCell n
  (firstBelow (fun o => s.inLeg n o && s.chanHold o) 24).isSome || s.scopeHold c || (s.legType n != 4 && s.retHold c)
    || s.fld (fLE_PAR_STATUS_PSTATE c) == 6 || s.fld (fLE_PAR_STATUS_PSTATE c) == 7

/-- The pattern the interlock goes by: the commanded one, with the switches treated as on until they are reported off (R170). -/
def State.effPat (s : State) (n : Nat) : Nat :=
  Nat.lor (s.pat n) (maskBelow (fun k => (s.gate (s.legBase n + k)).treatOn) (s.legN n))

/-- A switch counts as on. -/
def State.swOn (s : State) (n k : Nat) : Bool := bit (s.effPat n) k

/-- R150: the earliest turn-on of switch `k`. -/
def State.earliest (s : State) (n k : Nat) : Nat :=
  match pairOf (s.legType n) k with
  | some p => max (s.out (s.legBase n + p)).offAt (s.leg n).tripAt + s.deadTime n k
  | none => 0

/-- R150, R151: whether switch `k` may turn on, its time apart: the pattern must stay allowed as commanded and with the switches treated as
on (R170). -/
def State.mayTurnOn (s : State) (n k : Nat) : Bool :=
  bit (s.target n) k && !s.swOn n k && patAllowed (s.legType n) (s.effPat n + 2 ^ k)
    && patAllowed (s.legType n) (s.pat n + 2 ^ k)
    && (match pairOf (s.legType n) k with
      | some p => !s.swOn n p
      | none => true)

/-- R150: turn-ons wait while the leg is not NORMAL, is held, or waits for a period start (R152). -/
def State.onsAllowed (s : State) (n : Nat) : Bool := s.tst n == tNORMAL && !s.legHeld n && !(s.leg n).conflictHold

/-- The NPC outer neighbour of an inner switch. -/
def outerOf (ty k : Nat) : Option Nat := if ty = 2 ∧ k = 1 then some 0 else if ty = 2 ∧ k = 2 then some 3 else none

/-- `T3L_INNER` in units. -/
def State.t3l (s : State) : Nat := s.fld fEDG_CFG_T3L_INNER * nsU

/-- R150: the turn-offs of one period, at `t`; an inner switch that waits for T3L_INNER after a trip is left to it (R155). -/
def State.runOffs (s : State) (n t : Nat) : State :=
  s.each (fun s k =>
    if bit (s.pat n) k ∧ ¬ bit (s.target n) k ∧ ¬ bit (s.leg n).innerPend k ∧ patAllowed (s.legType n) (s.effPat n - 2 ^ k) then
      match outerOf (s.legType n) k with
      | some o =>
        if ¬ s.swOn n o ∧ (s.out (s.legBase n + o)).offAt + s.t3l ≤ t then s.switch n k false t else s
      | none => s.switch n k false t
    else s) (s.legN n)

/-- R150: switch `k` turns on at the later of its requested and its earliest time, never before `start`. -/
def State.onAt (s : State) (n k start : Nat) : Nat := max start (max (s.leg n).reqAt (s.earliest n k))

/-- R150: the turn-ons that fall between `start` and `stop`, placed at their exact times. -/
def State.runOns (s : State) (n start stop : Nat) : State :=
  s.each (fun s k =>
    if s.onsAllowed n ∧ s.mayTurnOn n k ∧ s.onAt n k start ≤ stop then s.switch n k true (placeEdge (s.onAt n k start)) else s) (s.legN n)

/-- R150 at the placed instant `t`: the leg moves toward its target. -/
def State.legRun (s : State) (n t : Nat) : State := (s.runOffs n t).runOns n t t

/-- R150 in the EDGE period that begins now. -/
def State.legPeriod (s : State) (n : Nat) : State := (s.runOffs n s.now).runOns n s.now (s.now + 511)

/-- R150 runs every EDGE period, on every leg. -/
def State.edgePeriod (s : State) : State := if s.mute then s else s.each State.legPeriod 12

/-- R150: the dead time of a pair has passed: its turn-ons are placed at their exact earliest times, never before the present EDGE
period. -/
def deadTimeElapsed (s : State) (n : Nat) (pairB : Bool) : State :=
  s.each (fun s k =>
    if inPairB (s.legType n) k = pairB ∧ s.onsAllowed n ∧ s.mayTurnOn n k then
      s.switch n k true (placeEdge (s.onAt n k (s.now / 512 * 512)))
    else s) (s.legN n)

def execDeadTimeElapsed (n : Fin 12) (pairB : Bool) (s : State) : Outcome State Fault Refusal := .next (s.lit (deadTimeElapsed s n.val pairB))

/-- One inner switch goes off `T3L_INNER` after its neighbour; by soft turn-off after a detection on the leg (R171). -/
def State.innerOff (s : State) (n k : Nat) : State :=
  let o := match outerOf (s.legType n) k with
    | some o => o
    | none => k
  let g := s.legBase n + k
  let soft := (s.leg n).innerSoft && bit (s.leg n).innerPend k
  let s := s.switch n k false ((s.out (s.legBase n + o)).offAt + s.t3l)
  if soft then
    (s.modGate g (fun q => { q with drive := .soft, awaitInner := false })).set1 (fGD_STATUS_SOFT_ACTIVE g)
  else s.sink g

/-- R150, R155, R171: T3L_INNER since the outer neighbour was off. -/
def t3lInnerElapsed (s : State) (n : Nat) : State :=
  let s := s.each (fun s k =>
    let due := bit (s.leg n).innerPend k || (!bit (s.target n) k && patAllowed (s.legType n) (s.effPat n - 2 ^ k))
    match outerOf (s.legType n) k with
    | some o => if bit (s.pat n) k ∧ due ∧ ¬ s.swOn n o then s.innerOff n k else s
    | none => s) (s.legN n)
  s.modLeg n (fun q => { q with innerPend := Nat.land q.innerPend (s.pat n) })

def execT3lInnerElapsed (n : Fin 12) (s : State) : Outcome State Fault Refusal := .next (s.lit (t3lInnerElapsed s n.val))

/-! ### Requests -/

/-- The target pattern a LEG_SET names (R148). -/
def legPattern (ty v : Nat) : Nat :=
  match ty, v with
  | 1, 1 => 1
  | 1, 2 => 2
  | 2, 1 => 3
  | 2, 2 => 6
  | 2, 3 => 12
  | 3, 1 => 3
  | 3, 2 => 6
  | 3, 3 => 12
  | 4, 1 => 1
  | _, _ => 0

/-- R152 or R153 is flagged on leg `n`. -/
def State.conflict (s : State) (n : Nat) : State :=
  (((s.set1 (fEDG_LEG_STATUS_LEG_CONFLICT n)).inc rEDG_CNT_CONFLICT).set1 fEDG_EVENTS_CONFLICT).raiseMs 0x0503 (0x20 + n)

/-- The edge of a discarded request is taken back. -/
def State.undoRaise (s : State) (n : Nat) : State :=
  match (s.leg n).undo with
  | some (k, last, cnt) =>
    let o := s.legBase n + k
    if bit (s.pat n) k then
      let s := (s.clr (fEDG_EO_STATUS_LEVEL o)).clr (fGD_STATUS_CMD_LEVEL o)
      let s := ((s.wrN (rEDG_EO_LAST_LO o) last).wrN (rEDG_EO_LAST_HI o) (last / 4294967296)).wrN (rEDG_EO_CNT_EDGES o) cnt
      let s := s.setOut o { s.out o with ons := (s.out o).ons - 1 }
      (s.setF (fEDG_LEG_STATUS_OUT n) (s.pat n - 2 ^ k)).modLeg n (fun q => { q with hist := q.hist.drop 1 })
    else s
  | none => s

/-- `CBC_PERIOD` of a leg in units (R156). -/
def State.cbcPeriod (s : State) (n : Nat) : Nat := s.fld (fEDG_LEG_CFG_CBC_PERIOD n) * usU

/-- R156: a cut or conflict at `t`: the switching periods that matter start after it. -/
def State.periodsFrom (s : State) (n t : Nat) : State :=
  s.modLeg n (fun q => { q with zeroDue := none, periodAt := t + s.cbcPeriod n })

/-- R152: both switches of a two-level leg are asked for while both are off. -/
def State.bothRaised (s : State) (n t : Nat) : State :=
  ((((s.undoRaise n).setTarget n 0).modLeg n (fun q => { q with conflictHold := true, undo := none })).periodsFrom n t).conflict n

/-- What leg `n` must remember of a raise in the EDGE period of `t` for R152: how to take back the period's first turn-on. -/
def State.noteRaise (s : State) (n k t : Nat) : State :=
  let q := s.leg n
  let o := s.legBase n + k
  let u := if s.pat n = 0 then
      some (k, s.rdN (rEDG_EO_LAST_LO o) + s.rdN (rEDG_EO_LAST_HI o) * 4294967296, s.rdN (rEDG_EO_CNT_EDGES o))
    else if q.raisedAt = t / 512 then q.undo
    else none
  s.setLeg n { q with raisedAt := t / 512, undo := u }

/-- The leg's target becomes `x`, requested for the placed instant `t`. -/
def State.setAim (s : State) (n x t : Nat) : State :=
  let s := (s.setTarget n x).modLeg n (fun q => { q with reqAt := t })
  if s.tst n = tCUT then s else s.legRun n t

/-- The placed instant of a request. -/
def placed (t : Nat) (late : Bool) : Nat := if late then placeLate t else placeEdge t

/-- A record for a leg that is LATCHED or RETIRED is discarded and counted (R158). -/
def State.suppress (s : State) (n : Nat) (f : State → State) : State :=
  if tLATCHED ≤ s.tst n then s.inc rEDG_CNT_SUPPRESSED else f s

/-- R148: LEG_SET at the `BASE` output. -/
def legSet (s : State) (o : Nat) (p : Quad) (t : Nat) (late : Bool) : State :=
  let s := s.consume (0x540 + 16 * o) 0x10 p
  match s.legOf o with
  | some n =>
    if s.eoAccepts o 0x10 p then
      s.suppress n (fun s =>
        let x := legPattern (s.legType n) (p.b 0)
        let s := if s.legType n = 1 ∧ x ≠ 0 then s.noteRaise n (x - 1) (placed t late) else s
        s.setAim n x (placed t late))
    else s
  | none => s

def execLegSet (o : Fin 24) (p : Quad) (t : Time) (late : Bool) (s : State) : Outcome State Fault Refusal :=
  .next (s.lit (legSet s o.val p t.toNat late))

/-- One bit of a pattern. -/
def withBit (x k : Nat) (v : Bool) : Nat := if v then Nat.lor x (2 ^ k) else if bit x k then x - 2 ^ k else x

/-- The switches of a two-level leg were both off before the EDGE period of `t`, or are now. -/
def State.bothOff (s : State) (n t : Nat) : Bool := s.effPat n == 0 || ((s.leg n).raisedAt == t / 512 && (s.leg n).undo.isSome)

/-- R148, R152: OUT_SET on a two-level leg.  A raise to both switches while both are off discards both; one while the partner is on waits
for the partner. -/
def State.outTwo (s : State) (n k : Nat) (v : Bool) (t : Nat) : State :=
  let x := withBit (s.target n) k v
  if ¬ v then s.setAim n x t
  else if x = 3 ∧ s.bothOff n t then s.bothRaised n t
  else if s.swOn n (1 - k) then (s.setAim n x t).conflict n
  else (s.noteRaise n k t).setAim n x t

/-- R148, R153: OUT_SET on a three-level leg. -/
def State.outThree (s : State) (n k : Nat) (v : Bool) (t : Nat) : State :=
  let x := withBit (s.target n) k v
  if patAllowed (s.legType n) x then s.setAim n x t
  else (((s.set1 (fEDG_LEG_STATUS_LEG_CONFLICT n)).inc rEDG_CNT_FORBIDDEN).set1 fEDG_EVENTS_FORBIDDEN).raiseMs 0x0504 (0x20 + n)

/-- R148: OUT_SET. -/
def outSet (s : State) (o : Nat) (p : Quad) (t : Nat) (late : Bool) : State :=
  let s := s.consume (0x540 + 16 * o) 0x11 p
  match s.legOf o with
  | some n =>
    if s.eoAccepts o 0x11 p then
      s.suppress n (fun s =>
        let k := o - s.legBase n
        let v := p.b 0 == 1
        match s.legType n with
        | 1 => s.outTwo n k v (placed t late)
        | 4 => s.setAim n (if v then 1 else 0) (placed t late)
        | _ => s.outThree n k v (placed t late))
    else s
  | none => s

def execOutSet (o : Fin 24) (p : Quad) (t : Time) (late : Bool) (s : State) : Outcome State Fault Refusal :=
  .next (s.lit (outSet s o.val p t.toNat late))

/-! ### Trips and cuts -/

/-- A qualified TRIP pin's row acts as a latched trip. -/
def State.pinLatch (s : State) (p : Nat) : Bool := bit (s.rdN rEDG_TRIPPIN_CFG) (8 * p + 2)

/-- R154: row `r` is active with a cut. -/
def State.rowCut (s : State) (r : Nat) : Bool :=
  if r < 48 then s.on (fSNS_WIN_STATUS_OUT r) && !s.on (fSNS_WIN_CFG_ACTION r)
  else bit (s.rdN rEDG_TRIPPIN_STATUS) (r - 48) && !s.pinLatch (r - 48)

/-- R154: row `r` is active with a latched trip; a loss always latches. -/
def State.rowLatch (s : State) (r : Nat) : Bool :=
  if r < 48 then (s.on (fSNS_WIN_STATUS_OUT r) && s.on (fSNS_WIN_CFG_ACTION r)) || bit s.edg.lossRows.toNat r
  else bit (s.rdN rEDG_TRIPPIN_STATUS) (r - 48) && s.pinLatch (r - 48)

/-- Row `r` selects leg `n`. -/
def State.rowSelects (s : State) (r n : Nat) : Bool := s.legN n != 0 && bit (s.fld (fEDG_TRIP_MASK_LEGS r)) n

/-- A cut row selecting leg `n` is active. -/
def State.cutActive (s : State) (n : Nat) : Bool := (firstBelow (fun r => s.rowSelects r n && s.rowCut r) 52).isSome

/-- `TRIP_ACTIVE` of leg `n` (R157): any selecting row is active. -/
def State.tripActive (s : State) (n : Nat) : Bool :=
  (firstBelow (fun r => s.rowSelects r n && (s.rowCut r || s.rowLatch r)) 52).isSome

/-- R158: the retirement of a leg holds the legs of `TYPE` 1–3 of its cell off and stops the cell; `giving` for a controller-side cause
(R280). -/
def State.retireLeg (s : State) (n : Nat) (giving : Bool) : State :=
  if s.tst n = tRETIRED then s
  else
    let c := s.legCell n
    let three := s.legType n != 4
    let s := ((s.legOff n s.now false).modLeg n (fun q => { q with waiting := false })).setTst n tRETIRED
    let s := (s.set1 fEDG_EVENTS_LEG_RETIRED).setF (fFLT_CELL_LEGS_RETIRED c) (Nat.lor (s.fld (fFLT_CELL_LEGS_RETIRED c)) (2 ^ n))
    let s := s.raiseWith 0x0506 (0x20 + n) 0 three
    if three then
      let s := s.each (fun s m => if s.legN m ≠ 0 ∧ s.legType m ≠ 4 ∧ s.legCell m = c then s.legHold m else s) 12
      let s := s.bndHalt c 5
      if giving then s.giveOrSs1 c else s.requestSs1 c
    else s

/-- R157: a latch, or the retirement at N clears within 60 s. -/
def State.tripLatch (s : State) (n : Nat) : State :=
  if s.fld fEDG_RETRY_CFG_TRIES ≤ (last60 s.now (s.leg n).clears).length then s.retireLeg n false
  else
    let s := ((s.legOff n s.now false).setTarget n 0).modLeg n (fun q => { q with waiting := !s.inBiv })
    ((s.setTst n tLATCHED).set1 fEDG_EVENTS_LATCHED).raise 0x0505 (0x20 + n)

/-- R157: a cut. -/
def State.tripCut (s : State) (n : Nat) : State :=
  let s := (((s.legOff n s.now false).periodsFrom n s.now).setTst n tCUT).setF (fEDG_LEG_STATUS_HELD n) 0
  (s.set1 fEDG_EVENTS_CUT).raiseMs 0x0507 (0x20 + n)

/-- R157, R168: an active row acts on the legs it selects. -/
def tripRowActive (s : State) (r : Nat) : State :=
  let cut := s.rowCut r
  let latch := s.rowLatch r
  s.each (fun s n =>
    if ¬ s.rowSelects r n then s
    else if latch ∧ s.tst n < tLATCHED then s.tripLatch n
    else if cut ∧ s.tst n = tNORMAL then s.tripCut n
    else s) 12

def execTripRowActive (r : Fin 52) (s : State) : Outcome State Fault Refusal := .next (s.lit (tripRowActive s r.val))

/-- R154: a TRIP pin has shown a level for `QUAL` + 1 samples. -/
def tripPinQualified (s : State) (p : Nat) (level : Bool) : State :=
  if bit (s.rdN rEDG_TRIPPIN_CFG) (8 * p) then
    if level = bit (s.rdN rEDG_TRIPPIN_CFG) (8 * p + 1) then s.setBit rEDG_TRIPPIN_STATUS p else s.clrBit rEDG_TRIPPIN_STATUS p
  else s

def execTripPinQualified (p : Fin 4) (level : Bool) (s : State) : Outcome State Fault Refusal := .next (s.lit (tripPinQualified s p.val level))

/-- R156: the leg is bound to a running carrier. -/
def State.legCarrier (s : State) (n : Nat) : Bool := s.on (fEDG_LEG_CFG_CAR_EN n) && s.fld (fEDG_CAR_STATUS_ST (s.fld (fEDG_LEG_CFG_CAR n))) == 1

/-- R156: the start of a switching period of leg `n` that has come: a zero of its running carrier; for any other leg the latest multiple of
`CBC_PERIOD` from its cut or conflict. -/
def State.periodDue (s : State) (n : Nat) : Option Nat :=
  if s.legCarrier n then (s.leg n).zeroDue
  else if s.now < (s.leg n).periodAt then none
  else some ((s.leg n).periodAt + (s.now - (s.leg n).periodAt) / s.cbcPeriod n * s.cbcPeriod n)

/-- R157: what the start of a period at `z` does to the leg. -/
def State.newPeriod (s : State) (n z : Nat) : State :=
  let s := s.modLeg n (fun q => { q with conflictHold := false, zeroDue := none, periodAt := z + s.cbcPeriod n })
  if s.tst n ≠ tCUT then s.legRun n (placeEdge z)
  else if s.cutActive n then
    let s := s.incF (fEDG_LEG_STATUS_HELD n)
    if s.fld fEDG_CFG_CBC_K ≤ s.fld (fEDG_LEG_STATUS_HELD n) then s.tripLatch n else s
  else
    let s := (s.setTst n tNORMAL).setF (fEDG_LEG_STATUS_HELD n) 0
    (s.modLeg n (fun q => { q with reqAt := placeEdge z })).legRun n (placeEdge z)

/-- R156, R157: a switching period of leg `n` starts. -/
def periodStart (s : State) (n : Nat) : State :=
  match s.periodDue n with
  | some z => s.newPeriod n z
  | none => s

def execPeriodStart (n : Fin 12) (s : State) : Outcome State Fault Refusal := .next (s.lit (periodStart s n.val))

/-- R157: LATCHED to NORMAL with one clear counted; a CLEARED Pennant (R360). -/
def State.legClear (s : State) (n : Nat) : State :=
  let l := s.now :: last60 s.now (s.leg n).clears
  let s := (s.modLeg n (fun q => { q with waiting := false, clears := l })).setTst n tNORMAL
  (s.setF (fEDG_LEG_STATUS_HELD n) 0).raiseCleared 0x0505 (0x20 + n) l.length

/-- R157: the retry wait ends; with a selecting row active it starts again. -/
def legRetryWaitEnd (s : State) (n : Nat) : State :=
  if s.tst n = tLATCHED ∧ (s.leg n).waiting ∧ ¬ s.tripActive n then s.legClear n else s

def execLegRetryWaitEnd (n : Fin 12) (s : State) : Outcome State Fault Refusal := .next (s.lit (legRetryWaitEnd s n.val))

/-- R157: a selecting row active without break for 60 s. -/
def legTripPersist (s : State) (n : Nat) : State :=
  if s.tst n = tLATCHED ∧ s.tripActive n then s.retireLeg n false else s

def execLegTripPersist (n : Fin 12) (s : State) : Outcome State Fault Refusal := .next (s.lit (legTripPersist s n.val))

/-- `EDG_CMD` 0x0100 + n. -/
def edgClearLeg (s : State) (n : Nat) : State :=
  s.cmdBiv rEDG_CMD (0x100 + n) (fun s =>
    if s.tst n = tRETIRED then (stREFUSED, s)
    else if s.tst n = tLATCHED then (if s.tripActive n then (stREFUSED, s) else (stDONE, s.legClear n))
    else (stDONE, s))

def execEdgClearLeg (n : Fin 12) (s : State) : Outcome State Fault Refusal := .next (s.lit (edgClearLeg s n.val))

/-- `EDG_CMD` 0x0001. -/
def edgClearCounters (s : State) : State :=
  s.cmd rEDG_CMD 1 (fun s =>
    let s := s.each (fun s o => s.zero [rEDG_EO_CNT_EDGES o, rEDG_EO_CNT_MERGED o, rEDG_EO_CNT_SWAPSKIP o]) 24
    let s := s.zero [rEDG_CNT_CONFLICT, rEDG_CNT_FORBIDDEN, rEDG_CNT_SUPPRESSED]
    (stDONE, s.each (fun s n => s.clr (fEDG_LEG_STATUS_LEG_CONFLICT n)) 12))

def execEdgClearCounters (s : State) : Outcome State Fault Refusal := .next (s.lit (edgClearCounters s))

/-! ### Delay lines -/

/-- R143: an output is retired, and its leg with it. -/
def State.retireOutput (s : State) (o : Nat) : State :=
  let s := ((s.set1 (fEDG_EO_STATUS_RETIRED o)).set1 fEDG_EVENTS_LINE_RETIRED).raise 0x0502 o
  match s.legOf o with
  | some n => s.retireLeg n true
  | none => s

/-- R143: the serving line fails its internal check. -/
def lineCheckError (s : State) (o : Nat) : State := if s.on (fEDG_EO_STATUS_RETIRED o) then s else s.retireOutput o

def execLineCheckError (o : Fin 24) (s : State) : Outcome State Fault Refusal := .next (s.lit (lineCheckError s o.val))

/-- R142: the lines of an output swap at a whole millisecond, or the swap is skipped. -/
def delayLineSwap (s : State) (o : Nat) (gap : Bool) : State :=
  if s.on (fEDG_EO_STATUS_RETIRED o) ∨ s.on (fEDG_EO_STATUS_SINGLE o) then s
  else if gap then s.setF (fEDG_EO_STATUS_SERVING o) (1 - s.fld (fEDG_EO_STATUS_SERVING o))
  else ((s.inc (rEDG_EO_CNT_SWAPSKIP o)).set1 fEDG_EVENTS_SWAP_SKIP).raiseSec 0x0508 o

def execDelayLineSwap (o : Fin 24) (gap : Bool) (s : State) : Outcome State Fault Refusal := .next (s.lit (delayLineSwap s o.val gap))

/-- R143: a line that failed three consecutive calibrations is retired. -/
def State.retireLine (s : State) (o k : Nat) : State :=
  let s := if k = 0 then s.set1 (fEDG_EO_STATUS_L0_RETIRED o) else s.set1 (fEDG_EO_STATUS_L1_RETIRED o)
  let s := ((s.set1 (fEDG_EO_STATUS_SINGLE o)).set1 fEDG_EVENTS_LINE_RETIRED).raise 0x0501 o
  match s.legOf o with
  | some n => s.set1 (fFLT_CELL_DELAY_SINGLE (s.legCell n))
  | none => s

/-- R143: a line's calibration ends with a worst residual in ps: the idle line's, or in `SINGLE` that of the line left, whose loss retires
the output. -/
def lineCalibrationDone (s : State) (o residual : Nat) : State :=
  if s.on (fEDG_EO_STATUS_RETIRED o) then s
  else
    let single := s.on (fEDG_EO_STATUS_SINGLE o)
    let k := if single then s.fld (fEDG_EO_STATUS_SERVING o) else 1 - s.fld (fEDG_EO_STATUS_SERVING o)
    let s := s.setF (if k = 0 then fEDG_EO_CAL_L0 o else fEDG_EO_CAL_L1 o) (min residual 255)
    let q := s.out o
    let fails := if residual ≤ 25 then 0 else (if k = 0 then q.fails0 else q.fails1) + 1
    let s := s.setOut o (if k = 0 then { q with fails0 := fails } else { q with fails1 := fails })
    if fails < 3 then s else if single then (s.retireLine o k).retireOutput o else s.retireLine o k

def execLineCalibrationDone (o : Fin 24) (residual : Nat) (s : State) : Outcome State Fault Refusal :=
  .next (s.lit (lineCalibrationDone s o.val residual))

/-! ### Carriers -/

def cIDLE : Nat := 0
def cRUNNING : Nat := 1
def cSTOPPED : Nat := 2

def State.carSt (s : State) (c : Nat) : Nat := s.fld (fEDG_CAR_STATUS_ST c)
def State.carP (s : State) (c : Nat) : Nat := s.rdN (rEDG_CAR_PERIOD c)
def State.triangular (s : State) (c : Nat) : Bool := !s.on (fEDG_CAR_CFG_SHAPE c)

/-- The next zero instant, in units. -/
def State.carZero (s : State) (c : Nat) : Nat := s.rdN (rEDG_CAR_ZERO_LO c) + s.rdN (rEDG_CAR_ZERO_HI c) * 4294967296
def State.setZero (s : State) (c z : Nat) : State := (s.wrN (rEDG_CAR_ZERO_LO c) z).wrN (rEDG_CAR_ZERO_HI c) (z / 4294967296)
def State.setPeak (s : State) (c : Nat) (b : Bool) : State := { s with edg := { s.edg with carPeak := s.edg.carPeak.put false c b } }
def State.setPend (s : State) (c : Nat) (x : Option (Nat × Nat)) : State :=
  { s with edg := { s.edg with carPend := s.edg.carPend.put none c x } }

/-- A carrier that can act: enabled in the image, its internal check not failed. -/
def State.carLive (s : State) (c : Nat) : Bool := s.on (fEDG_CAR_CFG_ENABLE c) && !s.edg.carFail.at false c

/-- R145 SYNC: z₀ = launch + round(`OFFSET` × P / 65,536) in steps of 4 units, a half step up. -/
def carrierSync (s : State) (c : Nat) (p : Quad) (launch : Nat) : State :=
  let s := s.consume (0x4C0 + 16 * c) 0x10 p
  if ¬ s.carLive c ∨ ¬ s.carAccepts c 0x10 p then s
  else
    let per := if p.w 0 = 0 then s.carP c else p.w 0
    let z := launch + 4 * ((s.fld (fEDG_CAR_CFG_OFFSET c) * per + 32768) / 65536)
    ((((s.wrN (rEDG_CAR_PERIOD c) per).setF (fEDG_CAR_STATUS_ST c) cRUNNING).setZero c z).setPeak c false).setPend c none

def execCarrierSync (c : Fin 8) (p : Quad) (launch : Time) (s : State) : Outcome State Fault Refusal :=
  .next (s.lit (carrierSync s c.val p launch.toNat))

/-- R145 SET_PERIOD. -/
def setPeriod (s : State) (c : Nat) (p : Quad) (launch : Nat) : State :=
  let s := s.consume (0x4C0 + 16 * c) 0x11 p
  if ¬ s.carLive c ∨ ¬ s.carAccepts c 0x11 p then s
  else if s.carSt c = cRUNNING then s.setPend c (some (launch, p.w 0))
  else s.wrN (rEDG_CAR_PERIOD c) (p.w 0)

/-- R145 STOP. -/
def carrierStop (s : State) (c : Nat) (p : Quad) : State :=
  let s := s.consume (0x4C0 + 16 * c) 0x12 p
  if s.carSt c = cRUNNING ∧ s.carAccepts c 0x12 p then (s.setF (fEDG_CAR_STATUS_ST c) cSTOPPED).setPend c none else s

def execCarrierStop (c : Fin 8) (p : Quad) (s : State) : Outcome State Fault Refusal := .next (s.lit (carrierStop s c.val p))

/-- R144: the next zero of a running carrier, or the peak before it, passes: the following zero stands in `EDG_CAR_ZERO`. -/
def State.carrierPass (s : State) (c : Nat) (peak : Bool) : State :=
  if peak then s.setPeak c false
  else
    let z := s.carZero c
    let s := match s.edg.carPend.at none c with
      | some (launch, per) => if launch ≤ z then (s.wrN (rEDG_CAR_PERIOD c) per).setPend c none else s
      | none => s
    (s.setZero c (z + 4 * s.carP c)).setPeak c (s.triangular c)

/-- R144: whether the carrier has that instant to pass. -/
def State.carrierDue (s : State) (c : Nat) (peak : Bool) : Bool := s.carSt c == cRUNNING && (!peak || s.edg.carPeak.at false c)

/-- R364: a carrier whose internal check fails stops producing instants. -/
def carrierCheckFail (s : State) (c : Nat) : State :=
  let s := { s with edg := { s.edg with carFail := s.edg.carFail.put false c true } }
  if s.carSt c = cRUNNING then (s.setF (fEDG_CAR_STATUS_ST c) cSTOPPED).setPend c none else s

def execCarrierCheckFail (c : Fin 8) (s : State) : Outcome State Fault Refusal := .next (s.lit (carrierCheckFail s c.val))

end Sys2Proof.Machine
end

