-- ==== Sys2Proof/Machine/Gd.lean ====
section
/-! DEFINITION. Gate channels: supplies (R161, R162), drive (R163–R167), desaturation and gate watch (R169–R174), channel states and retries
(R175–R178), harness interlock (R179), diagnostics (R180, R181) and the switching-rate watch (R183). -/
namespace Sys2Proof.Machine

open Host (Outcome)

/-! ### Supplies -/

/-- R161: the power states in which gate supplies are on; `diag` from the diagnostics step of PITCH. -/
def State.supplyState (s : State) (diag : Bool) : Bool := s.ps == psREADY || s.running || (s.ps == psPITCH && diag)

/-- R443: the isolated side's domain has failed since Pitch. -/
def State.isoFailed (s : State) (g : Nat) : Bool := bit (s.rdN (rPWR_DOM_FAIL ((61 + 2 * g) / 32))) ((61 + 2 * g) % 32)

/-- The channel's supply goes on or off (R161, R325); diagnostics have it on whatever the cell state (R326).  A soft turn-off in progress
runs on without it (R169; DEDUCED, log 72). -/
def State.gateSupply (s : State) (g : Nat) (diag : Bool) : State :=
  let q := s.gate g
  let on := s.supplyState diag && !s.isoFailed g && (q.gse || s.gst g == gDIAG || q.inRun || diag)
  if on = q.supplyOn then s
  else
    let s := if on then s else s.clr (fGD_STATUS_SUPPLY_READY g)
    (s.setGate g { q with supplyOn := on }).sink g

/-- R325: the island sets the two enables of a channel.  Without either the switch is off. -/
def State.setEnables (s : State) (g : Nat) (gse sen : Bool) : State :=
  let s := (s.modGate g (fun q => { q with gse := gse, sen := sen })).setB (fGD_STATUS_SAFE_OFF g) (!(gse && sen))
  ((if gse && sen then s else s.sink g).gateSupply g false).noteChop

/-- The nominal rails in 10 mV (R160). -/
def State.vposNom (s : State) (g : Nat) : Int := 1500 + 50 * s.fld (fGD_CFG_VPOS_CODE g)
def State.vnegNom (s : State) (g : Nat) : Int := -200 - 50 * s.fld (fGD_CFG_VNEG_CODE g)

/-- Both rails inside the window of R162. -/
def State.railsOk (s : State) (g : Nat) (vp vn : Int) : Bool :=
  decide (s.vposNom g - 150 ≤ vp ∧ vp ≤ s.vposNom g + 100 ∧ s.vnegNom g - 100 ≤ vn ∧ vn ≤ s.vnegNom g + 100)

def State.setRails (s : State) (g : Nat) (vp vn : BitVec 16) : State := s.wrN (rGD_SUPPLY g) (vp.toNat * 65536 + vn.toNat)

/-- R161: the rails have been inside their window for 1 ms. -/
def supplyReady (s : State) (g : Nat) (vp vn : BitVec 16) : State :=
  if ¬ (s.gate g).supplyOn then s
  else
    let s := s.setRails g vp vn
    if s.railsOk g vp.toInt vn.toInt then (s.set1 (fGD_STATUS_SUPPLY_READY g)).modGate g (fun q => { q with supplyBad := false }) else s

def execSupplyReady (g : Fin 24) (vpos vneg : BitVec 16) (s : State) : Outcome State Fault Refusal := .next (s.lit (supplyReady s g.val vpos vneg))

/-! ### Channel states (R175) -/

/-- `TRIES` allowed (N). -/
def State.gdN (s : State) : Nat := s.fld fGD_RETRY_CFG_TRIES

/-- Tries of the last 60 s. -/
def State.gdTries (s : State) (g : Nat) : List Nat := last60 s.now (s.gate g).tries

/-- The loop of the channel's harness group is open (R179). -/
def State.loopOpen (s : State) (g : Nat) : Bool := !bit (s.fld fGD_HARNESS_CLOSED) (g / 4)

/-- A cause that is active while the channel is off. -/
def State.causeActive (s : State) (g : Nat) : Bool := (s.gate g).supplyBad || (s.gate g).linkBad || s.loopOpen g

/-- The last cause, shown and remembered for the CLEARED Pennant. -/
def State.gdCause (s : State) (g cause code : Nat) : State :=
  (s.setF (fGD_STATUS_CAUSE g) cause).modGate g (fun q => { q with owed := code })

/-- R175, R176: RETIRED, with the effect of a retired output on the leg; by a link or supply fault a protected cell gives (R280). -/
def State.retireChan (s : State) (g cause : Nat) : State :=
  let s := (((s.setGst g gRETIRED).set1 (fGD_EVENTS_RETIRED g)).modGate g (fun q => { q with waiting := false })).sink g
  let s := s.raise 0x0609 g
  match s.legOf g with
  | some n => s.retireLeg n (cause == 3 || cause == 5)
  | none => s

/-- R175: entry to LATCHED; `wait` starts the retry wait. -/
def State.latchChan (s : State) (g : Nat) (wait : Bool) : State :=
  (((s.setGst g gLATCHED).inc (rGD_CNT_LATCH g)).modGate g (fun q => { q with waiting := wait })).sink g

/-- R175: a channel fault in ARMED. -/
def State.channelFault (s : State) (g cause code : Nat) : State :=
  if s.gst g ≠ gARMED then s
  else
    let s := s.gdCause g cause code
    if s.gdN ≤ (s.gdTries g).length then (s.raise code g).retireChan g cause
    else if s.inBiv then ((s.latchChan g false).raiseStop code g).requestSs1 (s.chanCell g)
    else (s.latchChan g true).raise code g

/-- R162: a rail outside its window for 1 µs. -/
def supplyFault (s : State) (g : Nat) (vp vn : BitVec 16) : State :=
  if ¬ (s.gate g).supplyOn ∨ ¬ s.on (fGD_STATUS_SUPPLY_READY g) then s
  else
    let s := s.setRails g vp vn
    if s.railsOk g vp.toInt vn.toInt then s
    else
      let s := ((s.clr (fGD_STATUS_SUPPLY_READY g)).set1 (fGD_EVENTS_SUPPLY g)).modGate g (fun q => { q with supplyBad := true })
      (s.sink g).channelFault g 3 0x0603

def execSupplyFault (g : Fin 24) (vpos vneg : BitVec 16) (s : State) : Outcome State Fault Refusal := .next (s.lit (supplyFault s g.val vpos vneg))

/-- R162: the 100 ms average of the supply's power; over 3.0 W is an overload. -/
def supplyOverload (s : State) (g mw : Nat) : State :=
  if ¬ (s.gate g).supplyOn then s
  else
    let s := s.setF (fGD_POWER_MW g) mw
    if 3000 < mw then ((s.set1 (fGD_EVENTS_OVERLOAD g)).sink g).channelFault g 4 0x0604 else s

def execSupplyOverload (g : Fin 24) (mw : BitVec 16) (s : State) : Outcome State Fault Refusal := .next (s.lit (supplyOverload s g.val mw.toNat))

/-! ### Drive -/

/-- The channel accepts a command level (R161, R174, R175, R177, R275, R325). -/
def State.chanAccepts (s : State) (g : Nat) : Bool :=
  (s.gate g).supplyOn && s.on (fGD_STATUS_SUPPLY_READY g) && s.running && s.gst g == gARMED && s.fld (fGD_OWN_OWNER g) == s.own
    && (s.gate g).gse && (s.gate g).sen && !(s.gate g).isoDown

/-- The driver holds or builds the on-level. -/
def Drive.isOn (d : Drive) : Bool := d == .on1 || d == .on2 || d == .on3

/-- R163, R169, R177: an on-level: the channel accepts and counts it, or ignores it; a soft turn-off runs on. -/
def State.gateOn (s : State) (g : Nat) : State :=
  if (s.gate g).drive = .soft then s
  else if s.chanAccepts g then
    s.modGate g (fun q => { q with drive := (if s.on (fGD_CFG_ON_MODE g) then .on1 else .on3), blanking := true, ons := q.ons + 1 })
  else s.sink g

/-- R163, R165: an off-level. -/
def State.gateOff (s : State) (g : Nat) : State :=
  if (s.gate g).drive.isOn then
    s.modGate g (fun q => { q with drive := (if s.on (fGD_CFG_OFF_MODE g) then .off1 else .strongSink), blanking := false })
  else s

/-- R163, R167, R174: a command level arrives at the isolated side, with its link up or still down.  An on-level that lasts less than
10 ns (`brief`) moves nothing. -/
def gateCommandArrival (s : State) (g : Nat) (level brief link : Bool) : State :=
  let s := s.modGate g (fun q => { q with isoDown := q.isoDown && !link })
  let q := s.gate g
  if q.isoLevel = level ∨ (level ∧ brief) then s
  else
    let s := s.setGate g { q with isoLevel := level, levelAt := s.now }
    if level then s.gateOn g else s.gateOff g

def execGateCommandArrival (g : Fin 24) (level brief link : Bool) (s : State) : Outcome State Fault Refusal :=
  .next (s.lit (gateCommandArrival s g.val level brief link))

/-- R173: `GATE_ON` by the comparison of GSNS, in 10 mV, with `VG_ON_TH`. -/
def State.gateSense (s : State) (g : Nat) (gsns : Int) : State :=
  s.setB (fGD_STATUS_GATE_ON g) (decide (25 * sgnW 8 (s.fld (fGD_VGMON_VG_ON_TH g)) < gsns))

/-- R163: a profile phase ends. -/
def profilePhaseEnd (s : State) (g : Nat) (gsns : Int) : State :=
  let s := s.gateSense g gsns
  s.modGate g (fun q => { q with drive := match q.drive with
    | .on1 => .on2
    | .on2 => .on3
    | .off1 => .off2
    | .off2 => .strongSink
    | d => d })

def execProfilePhaseEnd (g : Fin 24) (gsns : BitVec 16) (s : State) : Outcome State Fault Refusal :=
  .next (s.lit (profilePhaseEnd s g.val gsns.toInt))

/-- R164: the regulated current of a code in 1/126 A: 0.5 A + k × 7.5 A / 63. -/
def slopeCurrent (k : Nat) : Nat := 63 + 15 * k

/-- R163, R169: the regulated current the driver sources or sinks now; 0 outside the regulated phases. -/
def State.driverCurrent (s : State) (g : Nat) : Nat :=
  match (s.gate g).drive with
  | .on2 => slopeCurrent (s.fld (fGD_PROF_ON_I_SLOPE g))
  | .off2 => slopeCurrent (s.fld (fGD_PROF_OFF_I_SLOPE g))
  | .soft => slopeCurrent (s.fld (fGD_DESAT_SOFT_I g))
  | _ => 0

/-! ### Desaturation and gate watch -/

/-- R169: blanking ends. -/
def blankingEnd (s : State) (g : Nat) (gsns : Int) : State :=
  (s.gateSense g gsns).modGate g (fun q => { q with blanking := false })

def execBlankingEnd (g : Fin 24) (gsns : BitVec 16) (s : State) : Outcome State Fault Refusal := .next (s.lit (blankingEnd s g.val gsns.toInt))

/-- R169: soft turn-off starts. -/
def State.softOff (s : State) (g : Nat) : State :=
  (s.modGate g (fun q => { q with drive := .soft, blanking := false })).set1 (fGD_STATUS_SOFT_ACTIVE g)

/-- R169, R171: desaturation is detected while on and past blanking; without a local turn-off the flag goes alone. -/
def desatDetected (s : State) (g : Nat) : State :=
  let q := s.gate g
  if s.on (fGD_CFG_DESAT_EN g) ∧ q.drive.isOn ∧ ¬ q.blanking then
    let s := ((s.inc (rGD_CNT_DESAT g)).set1 (fGD_EVENTS_DESAT g)).setGate g { q with flag := 1, desatAt := s.now }
    if s.on (fGD_CFG_DESAT_LOCAL g) then s.softOff g else s.modGate g (fun q => { q with awaitInner := true })
  else s

def execDesatDetected (g : Fin 24) (s : State) : Outcome State Fault Refusal := .next (s.lit (desatDetected s g.val))

/-- R169: soft turn-off ends; the gate is held off. -/
def softTurnOffEnd (s : State) (g : Nat) : State :=
  if (s.gate g).drive = .soft then (s.modGate g (fun q => { q with drive := s.restDrive g })).clr (fGD_STATUS_SOFT_ACTIVE g) else s

def execSoftTurnOffEnd (g : Fin 24) (s : State) : Outcome State Fault Refusal := .next (s.lit (softTurnOffEnd s g.val))

/-- R171: the outer switches of an NPC leg that are on start soft turn-off; they count as on until their gates are reported off. -/
def State.softOuter (s : State) (n : Nat) : State :=
  s.each (fun s k =>
    let o := s.legBase n + k
    if (k = 0 ∨ k = 3) ∧ (s.gate o).drive.isOn then (s.softOff o).modGate o (fun q => { q with treatOn := true }) else s) (s.legN n)

/-- R170, R171: the flag acts on one leg as a latched-trip instant; `inner` for a detection without local turn-off. -/
def State.flagOff (s : State) (n g : Nat) (inner : Bool) : State :=
  if inner then
    let s := (s.softOuter n).legOff n s.now true
    -- an inner switch whose neighbour was off already has no T3L_INNER to wait for
    if bit (s.leg n).innerPend (g - s.legBase n) then s else s.softOff g
  else s.legOff n s.now false

/-- R170: the flag arrives at the edge generator. -/
def desatFlagArrival (s : State) (g : Nat) : State :=
  let q := s.gate g
  if q.flag = 0 then s
  else
    let s := s.setGate g { q with flag := 0, treatOn := true }
    let s := match s.legOf g with
      | some n =>
        let s := s.flagOff n g q.awaitInner
        if s.on (fGD_CFG_DESAT_SCOPE g) then
          let c := s.legCell n
          s.each (fun s m => if m ≠ n ∧ s.legN m ≠ 0 ∧ s.legCell m = c then s.legHold m else s) 12
        else s
      | none => s
    if q.flag = 1 then s.channelFault g 1 0x0601 else s

def execDesatFlagArrival (g : Fin 24) (s : State) : Outcome State Fault Refusal := .next (s.lit (desatFlagArrival s g.val))

/-- R170: the gate is reported below `VG_OFF_TH`: for a flagged channel the report counts as its off edge. -/
def gateOffReport (s : State) (g : Nat) (gsns : Int) : State :=
  let s := s.gateSense g gsns
  if (s.gate g).treatOn ∧ gsns < 25 * sgnW 8 (s.fld (fGD_VGMON_VG_OFF_TH g)) then
    (s.modGate g (fun q => { q with treatOn := false })).setOut g { s.out g with offAt := s.now }
  else s

def execGateOffReport (g : Fin 24) (gsns : BitVec 16) (s : State) : Outcome State Fault Refusal :=
  .next (s.lit (gateOffReport s g.val gsns.toInt))

/-- R173: a gate miss, in a channel whose watch is on. -/
def gateMiss (s : State) (g : Nat) (gsns : Int) : State :=
  let s := s.gateSense g gsns
  if ¬ s.on (fGD_CFG_VGMON_EN g) ∨ ¬ (s.gate g).supplyOn then s
  else
    let on := (s.gate g).drive.isOn
    let s := ((s.inc (rGD_CNT_GATEMISS g)).set1 (fGD_EVENTS_GATE_MISS g)).modGate g (fun q => { q with flag := 2 })
    (if on then s.softOff g else s.sink g).channelFault g 2 0x0602

def execGateMiss (g : Fin 24) (gsns : BitVec 16) (s : State) : Outcome State Fault Refusal := .next (s.lit (gateMiss s g.val gsns.toInt))

/-- R174: 100 ns without a valid word at the isolated side: soft turn-off, the gate held off until the link is up again. -/
def isolatedLinkLoss (s : State) (g : Nat) : State :=
  let on := (s.gate g).drive.isOn
  let s := s.modGate g (fun q => { q with isoLevel := false, levelAt := s.now, isoDown := true })
  if on then s.softOff g else s.sink g

def execIsolatedLinkLoss (g : Fin 24) (s : State) : Outcome State Fault Refusal := .next (s.lit (isolatedLinkLoss s g.val))

/-- R174: a link fault of the channel. -/
def primaryLinkFault (s : State) (g : Nat) : State :=
  ((s.set1 (fGD_EVENTS_LINK g)).modGate g (fun q => { q with linkBad := true })).channelFault g 5 0x0605

def execPrimaryLinkFault (g : Fin 24) (s : State) : Outcome State Fault Refusal := .next (s.lit (primaryLinkFault s g.val))

/-! ### Retries -/

/-- Valid words from the channel end its link fault. -/
def State.linkSeen (s : State) (g : Nat) (ok : Bool) : State :=
  if ok then s.modGate g (fun q => { q with linkBad := false, isoDown := false }) else s

/-- R180: a run begins: the channels found wired are those of this run. -/
def State.beginRun (s : State) (g : Nat) : State := ((s.modGate g (fun q => { q with inRun := true })).wr (rGD_DIAG_PEER g) 0).gateSupply g false

/-- R180: the test current of a run, 0.5 V / `RGE` (in 100 Ω) to the nearest 1 µA; 0 outside a run. -/
def State.testCurrent (s : State) (g : Nat) : Nat :=
  if (s.gate g).inRun then (10000 + s.fld (fGD_DIAG_CFG_RGE g)) / (2 * s.fld (fGD_DIAG_CFG_RGE g)) else 0

/-- R175, R177, R326: DIAG: the supply on, the signal enable removed for the run, the drivers high-impedance. -/
def State.enterDiag (s : State) (g : Nat) : State :=
  (((s.setGst g gDIAG).beginRun g).modGate g (fun q => { q with waiting := false })).sink g

/-- A diagnostic run that counts as a try. -/
def State.retryDiag (s : State) (g : Nat) : State :=
  let l := s.now :: s.gdTries g
  (s.enterDiag g).modGate g (fun q => { q with tries := l })

/-- R175: the wait ends. -/
def gdRetryWaitEnd (s : State) (g : Nat) (linkValid : Bool) : State :=
  if ¬ (s.gate g).waiting then s
  else
    let s := s.linkSeen g linkValid
    if s.gst g = gLATCHED then (if s.causeActive g then s else s.retryDiag g)
    else if s.gst g = gUNPLUGGED then (if s.loopOpen g then s else s.retryDiag g)
    else s

def execGdRetryWaitEnd (g : Fin 24) (linkValid : Bool) (s : State) : Outcome State Fault Refusal :=
  .next (s.lit (gdRetryWaitEnd s g.val linkValid))

/-- R178: a clear, its completion and the state it leaves. -/
def State.clearChan (s : State) (g : Nat) (linkValid : Bool) : Nat × State :=
  let s := s.linkSeen g linkValid
  if s.inBiv ∨ s.gst g = gFENCED ∨ s.gst g = gRETIRED then (stREFUSED, s)
  else if s.gst g ≠ gLATCHED then (stDONE, s)
  else if s.causeActive g then (stREFUSED, s)
  else (stDONE, s.retryDiag g)

/-- R178: the CLEAR record. -/
def gdClear (s : State) (g : Nat) (p : Quad) (linkValid : Bool) : State :=
  let s := s.consume (0x6C0 + 16 * g) 0x10 p
  if gdAccepts 0 0x10 p then (s.clearChan g linkValid).2 else s

def execGdClear (g : Fin 24) (p : Quad) (linkValid : Bool) (s : State) : Outcome State Fault Refusal := .next (s.lit (gdClear s g.val p linkValid))

/-- `GD_CMD` 0x0100 + g. -/
def gdClearChannel (s : State) (g : Nat) (linkValid : Bool) : State := s.cmdBiv rGD_CMD (0x100 + g) (fun s => s.clearChan g linkValid)

def execGdClearChannel (g : Fin 24) (linkValid : Bool) (s : State) : Outcome State Fault Refusal := .next (s.lit (gdClearChannel s g.val linkValid))

/-- `GD_CMD` 0x0200 + g: diagnostics on one channel, in READY. -/
def gdRunDiagnostics (s : State) (g : Nat) : State :=
  s.cmd rGD_CMD (0x200 + g) (fun s =>
    if s.ps ≠ psREADY ∨ (s.gst g ≠ gARMED ∧ s.gst g ≠ gUNOWNED) then (stREFUSED, s)
    else
      let s := s.modGate g (fun q => { q with diagRun := true })
      (stBUSY, if s.gst g = gARMED then s.enterDiag g else (s.beginRun g).sink g))

def execGdRunDiagnostics (g : Fin 24) (s : State) : Outcome State Fault Refusal := .next (s.lit (gdRunDiagnostics s g.val))

/-- `GD_CMD` 0x0001. -/
def gdClearCounters (s : State) : State :=
  s.cmd rGD_CMD 1 (fun s =>
    (stDONE, (s.each (fun s g => s.zero [rGD_CNT_DESAT g, rGD_CNT_GATEMISS g, rGD_CNT_LATCH g]) 24).wr rGD_CNT_UNPLUG 0))

def execGdClearCounters (s : State) : Outcome State Fault Refusal := .next (s.lit (gdClearCounters s))

/-! ### Harness interlock -/

/-- R175, R179: one channel of a group whose loop opens. -/
def State.unplugChan (s : State) (g : Nat) : State :=
  if s.gst g = gDIAG ∨ s.gst g = gARMED ∨ s.gst g = gLATCHED then
    let s := ((s.gdCause g 8 0x0608).setGst g gUNPLUGGED).set1 (fGD_EVENTS_UNPLUGGED g)
    ((s.modGate g (fun q => { q with waiting := false, inRun := false, plugHold := true })).sink g).raise 0x0608 g
  else if s.gst g = gUNPLUGGED then s.modGate g (fun q => { q with waiting := false })
  else s

/-- The legs with a switch in group `j` start a hold. -/
def State.groupHold (s : State) (j : Nat) : State :=
  s.each (fun s n => if (firstBelow (fun k => s.inLeg n (4 * j + k)) 4).isSome then s.legHold n else s) 12

/-- R179: the loop of group `j` opens. -/
def interlockOpen (s : State) (j : Nat) : State :=
  let s := (s.clrBit rGD_HARNESS j).inc rGD_CNT_UNPLUG
  (s.each (fun s k => s.unplugChan (4 * j + k)) 4).groupHold j

def execInterlockOpen (j : Fin 6) (s : State) : Outcome State Fault Refusal := .next (s.lit (interlockOpen s j.val))

/-- R179: the loop has been closed for 20 ms: the waits start from zero. -/
def interlockClosedSettled (s : State) (j : Nat) : State :=
  (s.setBit rGD_HARNESS j).each (fun s k =>
    let g := 4 * j + k
    if s.gst g = gUNPLUGGED then s.modGate g (fun q => { q with waiting := true }) else s) 4

def execInterlockClosedSettled (j : Fin 6) (s : State) : Outcome State Fault Refusal := .next (s.lit (interlockClosedSettled s j.val))

/-! ### Diagnostics (R180, R181) -/

/-- R181: channel `j` compares while another sources. -/
def State.comparesWired (s : State) (j : Nat) : Bool :=
  s.gst j == gDIAG || s.gst j == gUNOWNED || s.gst j == gLATCHED
    || (match s.legOf j with
      | some n => s.target n == 0 && !bit (s.pat n) (j - s.legBase n)
      | none => true)

/-- The verdict of R180 for voltages in 10 mV, a negative rail, and the presence of a wired channel. -/
def diagVerdict (v1 v2 neg : Int) (wired : Bool) : Nat :=
  if 200 < v1 ∨ 200 < v2 then 1
  else if v1 < neg + 50 ∧ v2 < neg + 50 then 2
  else if 95 ≤ v1 ∧ v2 ≤ neg + 50 then 3
  else if v1.natAbs < 10 ∧ v2.natAbs < 10 then 4
  else if v1 < 35 ∨ 65 < v1 ∨ v2 < -65 ∨ -35 < v2 then 5
  else if wired then 6
  else 7

/-- R175: a failed verdict on channel `g`. -/
def State.diagFail (s : State) (g verdict : Nat) : State :=
  let cause := if verdict = 6 then 7 else 6
  let code := if verdict = 6 then 0x0607 else 0x0606
  let s := if verdict = 6 then s.set1 (fGD_EVENTS_WIRED g) else s.set1 (fGD_EVENTS_DIAG_FAIL g)
  if s.gst g = gDIAG then
    let s := s.gdCause g cause code
    if s.gdN ≤ (s.gdTries g).length then (s.raise code g).retireChan g cause else (s.latchChan g true).raise code g
  else s.channelFault g cause code

/-- R175, R176: a pass: ARMED, the leg OFF until a record fires; a CLEARED Pennant after a retry (R360). -/
def State.diagPass (s : State) (g : Nat) : State :=
  let q := s.gate g
  let s := ((s.setGst g gARMED).modGate g (fun q => { q with owed := 0, plugHold := false })).sink g
  let s := match s.legOf g with
    | some n => (s.setTarget n 0).legRun n s.now
    | none => s
  if q.owed = 0 then s else s.raiseCleared q.owed g (s.gdTries g).length

/-- R181: channel `j` reads more than 0.15 V while `g` sources: it fails as wired to `g`, at the end of its own run if one is in progress. -/
def State.wiredTo (s : State) (g j : Nat) : State :=
  let s := s.setBit (rGD_DIAG_PEER j) g
  if (s.gate j).inRun then s else (s.setF (fGD_DIAG_RESULT_VERDICT j) 6).diagFail j 6

/-- The end of a run: the command's completion, the supply (R325). -/
def State.endDiag (s : State) (g : Nat) : State :=
  let s := if (s.gate g).diagRun then (s.modGate g (fun q => { q with diagRun := false })).cmdEnd rGD_CMD stDONE else s
  (s.sink g).gateSupply g false

/-- R180, R181: the diagnostics of a channel complete. -/
def State.diagResult (s : State) (g : Nat) (v1 v2 : BitVec 12) (wired : Nat) : State :=
  let m := maskBelow (fun j => j != g && bit wired j && s.comparesWired j) 24
  let peers := Nat.lor (s.rdN (rGD_DIAG_PEER g)) m
  let v := diagVerdict v1.toInt v2.toInt (s.vnegNom g) (peers != 0)
  let s := ((s.setF (fGD_DIAG_RESULT_V1 g) v1.toNat).setF (fGD_DIAG_RESULT_V2 g) v2.toNat).setF (fGD_DIAG_RESULT_VERDICT g) v
  let s := (s.wrN (rGD_DIAG_PEER g) peers).modGate g (fun q => { q with inRun := false })
  let s := if s.gst g = gDIAG then (if v = 7 then s.diagPass g else s.diagFail g v)
    else if v = 7 then s
    else if v = 6 then s.set1 (fGD_EVENTS_WIRED g)
    else s.set1 (fGD_EVENTS_DIAG_FAIL g)
  s.each (fun s j => if bit m j then s.wiredTo g j else s) 24

def diagnosticsComplete (s : State) (g : Nat) (v1 v2 : BitVec 12) (wired : Nat) : State :=
  if (s.gate g).inRun ∨ (s.gate g).diagRun then (s.diagResult g v1 v2 wired).endDiag g else s

def execDiagnosticsComplete (g : Fin 24) (v1 v2 : BitVec 12) (wired : BitVec 24) (s : State) : Outcome State Fault Refusal :=
  .next (s.lit (diagnosticsComplete s g.val v1 v2 wired.toNat))

/-- R183: 10 ms are over: the turn-on edges counted in them, against 1.1 × `FSW_MAX` during running.  `FSW` is set as 0x060A is raised. -/
def fswWindow (s : State) (g : Nat) : State :=
  let n := (s.gate g).ons
  let s := (s.setF (fGD_POWER_FREQ g) (min (n * 10) 65535)).modGate g (fun q => { q with ons := 0 })
  if s.running ∧ 11 * s.fld (fGD_ENVELOPE_FSW_MAX g) < 100 * n ∧ s.freshSec 0x060A g then (s.set1 (fGD_EVENTS_FSW g)).raiseSec 0x060A g else s

def execFswWindow (g : Fin 24) (s : State) : Outcome State Fault Refusal := .next (s.lit (fswWindow s g.val))

end Sys2Proof.Machine
end

