-- ==== Sys2Proof/Machine/Num.lean ====
section
/-! DEFINITION. Exact numbers of the control chapters: π, √3, sine, cosine and square root to 40 places as rationals, and their rounding.
What a rule computes is the exact value; 40 places decide every rounding and comparison at the sizes that occur. -/
namespace Sys2Proof.Machine

/-- Square root by digits: the greatest r with r² ≤ n, r of at most `k` bits. -/
def isqrt (n : Nat) : Nat → Nat → Nat
  | 0, r => r
  | k + 1, r => let c := r + 2 ^ k; isqrt n k (if c * c ≤ n then c else r)

/-- π to 60 places. -/
def piNum : Nat := 3141592653589793238462643383279502884197169399375105820974944
def piDen : Nat := 10 ^ 60
def piQ : Rat := (piNum : Rat) / (piDen : Rat)

/-- The scale of the fixed-point values below. -/
def fixS : Nat := 10 ^ 40

/-- √3. -/
def sqrt3 : Rat := ((isqrt (3 * fixS * fixS) 140 0 : Nat) : Rat) / (fixS : Rat)

/-- Square root of a rational, 0 below 0. -/
def sqrtQ (x : Rat) : Rat :=
  if x ≤ 0 then 0 else ((isqrt ((x * ((fixS * fixS : Nat) : Rat)).floor.toNat) 320 0 : Nat) : Rat) / (fixS : Rat)

/-- The terms of the cosine (from `t` = 1, `k` = 0) or sine (from `t` = x, `k` = 1) series in fixed point, `x2` the square of the angle. -/
def trigSum (x2 : Int) : Nat → Nat → Int → Int
  | 0, _, _ => 0
  | n + 1, k, t => t + trigSum x2 n (k + 2) (-(t * x2 / (fixS : Int)) / (((k + 1) * (k + 2) : Nat) : Int))

/-- An angle in radians, in fixed point, brought to −π…π. -/
def fixAngle (a : Rat) : Int :=
  let turns := (a / (2 * piQ) + 1 / 2).floor
  ((a - 2 * piQ * (turns : Rat)) * (fixS : Rat)).floor

def cosQ (a : Rat) : Rat := let x := fixAngle a; (trigSum (x * x / (fixS : Int)) 32 0 (fixS : Int) : Rat) / (fixS : Rat)
def sinQ (a : Rat) : Rat := let x := fixAngle a; (trigSum (x * x / (fixS : Int)) 32 1 x : Rat) / (fixS : Rat)

/-- The terms of the arctangent series in fixed point, `x2` the square of the argument. -/
def atanSum (x2 : Int) : Nat → Nat → Int → Int
  | 0, _, _ => 0
  | n + 1, k, t => t / (k : Int) + atanSum x2 n (k + 2) (-(t * x2 / (fixS : Int)))

/-- The arctangent of an argument of 0 to 1: the argument is halved in angle three times, which leaves it below 1/10. -/
def atanQ (x : Rat) : Rat :=
  let h := fun y : Rat => y / (1 + sqrtQ (1 + y * y))
  let y := (h (h (h x)) * (fixS : Rat)).floor
  8 * (atanSum (y * y / (fixS : Int)) 24 1 y : Rat) / (fixS : Rat)

/-- The angle of a vector, in −π…π; 0 for the zero vector. -/
def angleQ (v : Rat × Rat) : Rat :=
  let a := if v.1 < 0 then -v.1 else v.1
  let b := if v.2 < 0 then -v.2 else v.2
  let t := if a = 0 ∧ b = 0 then 0 else if b ≤ a then atanQ (b / a) else piQ / 2 - atanQ (a / b)
  let u := if v.1 < 0 then piQ - t else t
  if v.2 < 0 then -u else u

/-- An angle brought to −π…π. -/
def wrapAngle (a : Rat) : Rat := a - 2 * piQ * (((a / (2 * piQ) + 1 / 2).floor : Int) : Rat)

/-- Rounding where the spec names none. -/
def roundR (x : Rat) : Int := roundFree x.num x.den

/-- Rounding to nearest, ties away from zero. -/
def nearR (x : Rat) : Int := roundAway x.num x.den

/-- Rounding to nearest, ties toward +∞ (R243). -/
def halfUp (x : Rat) : Int := (x + 1 / 2).floor

/-- A value as a saturated 16-bit field. -/
def fieldR (x : Rat) : Nat := q15 (satQ15 (roundR x))

/-- Clamp of a rational. -/
def clampR (lo hi x : Rat) : Rat := if x < lo then lo else if hi < x then hi else x

end Sys2Proof.Machine
end

