-- ==== Sys2Proof/Machine/Pos.lean ====
section
/-! DEFINITION. Position and speed feedback: the commutation path (R125, R128), counting and speeds (R129–R131), SNAPSHOT and position
entries (R132, R133), index and probe latches (R134–R136) and the pass-through outputs (R137). -/
namespace Sys2Proof.Machine

open Host (Outcome)

/-- Triplet states of `POS_HALL_STATUS`. -/
def hUNUSED : Nat := 0
def hUNKNOWN : Nat := 1
def hTRACKING : Nat := 2
def hIMPOSSIBLE : Nat := 3
def hFAILED : Nat := 4

def State.hSt (s : State) (h : Nat) : Nat := s.fld (fPOS_HALL_STATUS_STATE h)
def State.hall (s : State) (h : Nat) : HallSt := s.pos.hall.at HallSt.init h
def State.setHall (s : State) (h : Nat) (x : HallSt) : State := { s with pos := { s.pos with hall := s.pos.hall.put HallSt.init h x } }
def State.modHall (s : State) (h : Nat) (f : HallSt → HallSt) : State := s.setHall h (f (s.hall h))
def State.hallCell (s : State) (h : Nat) : Nat := s.fld (fPOS_HALL_CFG_CELL h)

/-- A Hall state that the sensors can give (R125). -/
def hallValid (abc : Nat) : Bool := 1 ≤ abc && abc ≤ 6

/-- The sector of a valid state (R125). -/
def State.sectorOf (s : State) (h abc : Nat) : Nat := s.rdN (rPOS_HALL_MAP h) / 2 ^ (3 * (abc - 1)) % 8

/-- The levels that output `k` repeats: A, B, C of its triplet in bits 3–1, its index in bit 0; low without a source (R137). -/
def State.hptLevels (s : State) (k : Nat) : Nat :=
  let t := s.fld (fPOS_HPT_SRC_TRIPLET k)
  let i := s.fld (fPOS_HPT_SRC_INDEX k)
  (if t < 6 then s.fld (fPOS_HALL_STATUS_SYNC_ABC t) * 2 else 0) + (if i < 4 ∧ s.pos.idxLevel.at false i then 1 else 0)

/-- The pass-through outputs follow their sources. -/
def State.hptFollow (s : State) : State :=
  s.each (fun s k => { s with pos := { s.pos with hpt := s.pos.hpt.put 0 k (s.hptLevels k) } }) 2

/-- R127: `n` levels rejected on the inputs of triplet `h`, `chat` of them on its own signals (0x0405). -/
def State.rejectLevels (s : State) (h n chat : Nat) : State :=
  let s := s.incBy (rPOS_CNT_REJECT h) n
  let w := s.winMs + 1
  let x := s.hall h
  let old := if x.rejWin = w then x.rejCnt else 0
  let s := s.setHall h { x with rejWin := w, rejCnt := old + chat }
  if old ≤ 64 ∧ 64 < old + chat then (s.set1 (fPOS_EVENTS_CHATTER h)).raise 0x0405 h else s

/-- R125, R128, R138: a new synchronised state of a used triplet that has not failed. -/
def State.hallTrack (s : State) (h abc : Nat) : State :=
  if hallValid abc then
    ((s.setF (fPOS_HALL_STATUS_STATE h) hTRACKING).setF (fPOS_HALL_STATUS_SECTOR h) (s.sectorOf h abc)).set1 (fPOS_HALL_STATUS_VALID h)
  else
    let s := (((s.inc (rPOS_CNT_INVALID h)).set1 (fPOS_EVENTS_IMPOSSIBLE h))).raiseMs 0x0401 h
    if s.hSt h = hTRACKING then
      ((s.setF (fPOS_HALL_STATUS_STATE h) hIMPOSSIBLE).clr (fPOS_HALL_STATUS_VALID h)).modHall h (fun x => { x with tainted := 15 })
    else s

/-- The synchronised levels of the index inputs. -/
def State.idxSync (s : State) (lv : Nat) : State :=
  s.each (fun s i => { s with pos := { s.pos with idxLevel := s.pos.idxLevel.put false i (bit lv i) } }) 4

/-- R125, R127, R137: HALL_SYNC_CHANGE. -/
def hallSyncChange (s : State) (h abc rejected idx : Nat) : State :=
  let s := ((s.idxSync idx).setF (fPOS_HALL_STATUS_SYNC_ABC h) abc).hptFollow
  if s.hSt h = hUNUSED then s
  else
    let n := countBelow (bit rejected) 3
    let s := s.rejectLevels h n n
    if s.hSt h = hFAILED then s else s.hallTrack h abc

def execHallSyncChange (h : Fin 6) (abc rejected : BitVec 3) (idx : BitVec 4) (s : State) : Outcome State Fault Refusal :=
  .next (s.lit (hallSyncChange s h.val abc.toNat rejected.toNat idx.toNat))

/-- R128, R135: the triplet enters FAILED, `VALID` 0 (the regulator's loss of angle is R187's). -/
def State.hallFail (s : State) (h : Nat) : State :=
  if s.hSt h ≠ hUNUSED ∧ s.hSt h ≠ hFAILED then
    let s := if s.hSt h = hTRACKING then s.modHall h (fun x => { x with tainted := 15 }) else s
    let s := s.clr (fPOS_HALL_STATUS_VALID h)
    (((s.setF (fPOS_HALL_STATUS_STATE h) hFAILED).set1 (fPOS_EVENTS_FAILED h)).set1 (fFLT_CELL_HALL_FAILED (s.hallCell h))).raise 0x0402 h
  else s

/-! ### Speeds -/

/-- The Q1.15 value, before saturation, of a speed of `n` × π/3 rad in a time of `t` units of 2⁻⁸ ns, base `b` in 0.1 rad/s: rounded to
nearest (R130). -/
def hallSpeed (n t b : Nat) : Int := roundAway ((n * piNum * 32768 * 2560 * 1000000000 : Nat) : Int) (3 * piDen * t * b)

/-- The base of a triplet's speeds. -/
def State.hallBase (s : State) (h : Nat) : Nat := s.fld (fPOS_SPD_BASE_BASE h)

/-- A speed whose interval is zero, or whose base is, has no stated value. -/
def State.speedOf (s : State) (h n t : Nat) : Int :=
  if t * s.hallBase h = 0 then sgn16 (Config.freeAt s.free 6) else hallSpeed n t (s.hallBase h)

/-! ### Position entries (R133) -/

/-- REASON of a position entry. -/
def State.hallReason (s : State) (h : Nat) : Nat :=
  if s.hSt h = hIMPOSSIBLE then 1 else if s.hSt h = hFAILED then 2 else 0

/-- The entry of triplet `h`. -/
def State.posEntry (s : State) (h time value : Nat) (settle clip : Bool) : Quad :=
  let valid := s.on (fPOS_HALL_STATUS_VALID h)
  let cond := s.fld (fPOS_HALL_STATUS_SECTOR h) + (if s.on (fPOS_HALL_STATUS_REVERSE h) then 8 else 0)
    + (if s.on (fPOS_HALL_STATUS_STANDSTILL h) then 16 else 0) + (if valid then 32 else 0)
  let fl := (if settle then flSETTLE else 0) + (if clip then flCLIP else 0) + (if valid then 0 else flINVALID)
  mkEntry (time % 2 ^ 40) (min (s.hall h).lastDt 0x7FFFFF) value fl (0x40 + h) (s.nextSeq (0x40 + h)) cond (s.hallReason h)

/-- An entry goes to the loop engine, the regulator and the field processors of the triplet's cell. -/
def State.posPut (s : State) (h : Nat) (e : Quad) : State :=
  ({ s with free := s.free + 1 }.modHall h (fun x => { x with entry := e })).produce (0x40 + h) (s.hallCell h) e

/-! ### Counting (R129–R131) -/

/-- The signed step between two sectors; 3 is ambiguous. -/
def hallStep (old new : Nat) : Int :=
  match (new + 6 - old % 6) % 6 with
  | 1 => 1
  | 2 => 2
  | 4 => -2
  | 5 => -1
  | _ => 0

/-- The held edge time as a full count. -/
def State.hallEdge (s : State) (h : Nat) : Nat := s.rdN (rPOS_EDGE_TIME_LO h) + s.rdN (rPOS_EDGE_TIME_HI h) * 4294967296

/-- The held edge speed. -/
def State.setWe (s : State) (h : Nat) (v : Int) : State :=
  (s.setF (fPOS_SPEED_WE h) (q15 (satQ15 v))).modHall h (fun x => { x with clip := satQ15 v != v })

/-- A time as a 32-bit register shows it; what one too long shows is not stated. -/
def State.wide32 (s : State) (k v : Nat) : Nat := if v < 2 ^ 32 then v else Config.freeAt s.free k % 2 ^ 32

/-- The revolution speed: of the last six intervals when they are all of one direction; otherwise not valid, its value not stated. -/
def State.setWr (s : State) (h : Nat) (dir : Int) : State :=
  let l := (s.hall h).intervals
  let sum := l.foldl (· + ·) 0
  let s := s.wrN (rPOS_INTERVAL_REV h) (s.wide32 21 sum)
  let v := dir * s.speedOf h 6 (sum * 2560)
  if l.length = 6 then (s.setF (fPOS_SPEED_WR h) (q15 (satQ15 v))).modHall h (fun x => { x with clipR := satQ15 v != v })
  else (s.setF (fPOS_SPEED_WR h) (Config.freeAt s.free 7)).modHall h (fun x => { x with clipR := false })

/-- Steps of a direction since the last latch of each index (R135). -/
def HallSt.noteDir (x : HallSt) (dir : Int) (taint : Bool) : HallSt :=
  { x with fwd := if 0 < dir then 15 else x.fwd, rev := if dir < 0 then 15 else x.rev, tainted := if taint then 15 else x.tainted,
           lastDir := dir }

/-- A skip: counted, no speed, the six-interval sum restarts. -/
def State.hallSkip (s : State) (h : Nat) (dir : Int) : State :=
  let s := ((s.inc (rPOS_CNT_SKIP h)).set1 (fPOS_EVENTS_SKIP h)).raiseMs 0x0403 h
  (s.modHall h (fun x => { x with intervals := [] }.noteDir dir true)).setWr h dir

/-- A step of ±1 whose interval from the edge before is `dt`; none before the first edge. -/
def State.hallOne (s : State) (h : Nat) (dir : Int) (dt : Option Nat) : State :=
  let x := s.hall h
  let reversal := x.lastDir ≠ 0 ∧ x.lastDir ≠ dir
  match dt with
  | none => (s.setHall h (x.noteDir dir false)).setF (fPOS_SPEED_WE h) (Config.freeAt s.free 6)
  | some t =>
    let s := s.wrN (rPOS_INTERVAL h) (s.wide32 20 t)
    let x := { x with lastDt := t }
    if reversal then ((s.setHall h ({ x with intervals := [] }.noteDir dir true)).setWe h 0).setWr h dir
    else ((s.setHall h ({ x with intervals := (t :: x.intervals).take 6 }.noteDir dir false)).setWe h
      (dir * s.speedOf h 1 (t * 2560))).setWr h dir

/-- R129–R131: an accepted change to another valid filtered state; `t` its edge time. -/
def State.hallStepTo (s : State) (h abc t : Nat) : State :=
  let old := (s.hall h).lastValid
  let st := hallStep (s.sectorOf h old) (s.sectorOf h abc)
  let sg := if s.on (fPOS_HALL_CFG_DIR_INV h) then -st else st
  let dir : Int := if sg < 0 then -1 else if 0 < sg then 1 else 0
  let skip := sg ≠ 1 ∧ sg ≠ -1
  let dt := if (s.hall h).hasEdge then some (roundFree ((t : Int) - s.hallEdge h) 2560).toNat else none
  let s := s.wrI (rPOS_COUNT h) (s.rdI (rPOS_COUNT h) + sg)
  let s := s.setB (fPOS_HALL_STATUS_REVERSE h) (if dir = 0 then Config.freeAt s.free 8 % 2 = 1 else dir = -1)
  let s := if skip then s.hallSkip h dir else s.hallOne h dir dt
  let s := ((s.wrN (rPOS_EDGE_TIME_LO h) t).wrN (rPOS_EDGE_TIME_HI h) (t / 4294967296)).clr (fPOS_HALL_STATUS_STANDSTILL h)
  let s := s.modHall h (fun x => { x with hasEdge := true, lastValid := abc })
  let v := if skip then Config.freeAt s.free 9 % 65536 else s.fld (fPOS_SPEED_WE h)
  s.posPut h (s.posEntry h t v skip (!skip && ((s.hall h).clip || (s.hall h).clipR)))

/-- R127, R129: HALL_LEVEL_ACCEPTED. -/
def hallLevelAccepted (s : State) (h abc t : Nat) : State :=
  let old := (s.hall h).lastValid
  let s := s.setF (fPOS_HALL_STATUS_FILT_ABC h) abc
  if s.hSt h = hUNUSED ∨ s.hSt h = hFAILED ∨ ¬ hallValid abc ∨ old = abc then s
  else if old = 0 then s.modHall h (fun x => { x with lastValid := abc })
  else s.hallStepTo h abc t

def execHallLevelAccepted (h : Fin 6) (abc : BitVec 3) (edge : Time) (s : State) : Outcome State Fault Refusal :=
  .next (s.lit (hallLevelAccepted s h.val abc.toNat edge.toNat))

/-! ### SNAPSHOT (R132) -/

/-- The speed a SNAPSHOT reports, before saturation, at elapsed time `tau` (in 2⁻⁸ ns). -/
def State.snapSpeed (s : State) (h tau : Nat) : Int :=
  let we := s.fldI (fPOS_SPEED_WE h)
  if tau ≤ (s.hall h).lastDt * 2560 then we
  else
    -- the sign of a speed of 0 is not stated
    let sign : Int := if 0 < we then 1 else if we < 0 then -1 else (Config.freeAt s.free 10 % 3 : Nat) - 1
    sign * s.speedOf h 1 tau

/-- R132: SNAPSHOT; a failed triplet's speed is frozen (R128). -/
def snapshot (s : State) (h : Nat) (p : Quad) : State :=
  let s := s.consume (0xAB0 + 16 * h) 0x10 p
  let tau := s.now - s.hallEdge h
  let still := ¬ (s.hall h).hasEdge ∨ s.fld (fPOS_SPD_CFG_SPD_TMO h) * msU ≤ tau
  if s.hSt h = hFAILED then s.posPut h (s.posEntry h s.now (s.fld (fPOS_SPEED_WE h)) false (s.hall h).clip)
  else if still then
    let s := s.set1 (fPOS_HALL_STATUS_STANDSTILL h)
    s.posPut h (s.posEntry h s.now 0 false false)
  else
    let v := s.snapSpeed h tau
    let clip := satQ15 v ≠ v ∨ (tau ≤ (s.hall h).lastDt * 2560 ∧ (s.hall h).clip)
    s.posPut h (s.posEntry h s.now (q15 (satQ15 v)) false clip)

def execSnapshot (h : Fin 6) (p : Quad) (s : State) : Outcome State Fault Refusal := .next (s.lit (snapshot s h.val p))

/-! ### Index and probe (R134–R136) -/

/-- R135: the drift check of index `i` on triplet `h`, whose latch was `old` and is now `new`. -/
def State.driftCheck (s : State) (i h : Nat) (old new : Int) : State :=
  let x := s.hall h
  if bit x.tainted i then s.inc (rPOS_CNT_DRIFT_SKIP h)
  else
    -- with no step between the latches, c is not stated
    let back := bit x.rev i || (!bit x.fwd i && Config.freeAt s.free 11 % 2 == 1)
    let c : Int := if back then -1 else 1
    let d := sgnW 32 (unsW 32 (new - old)) - c * s.fld (fPOS_SPD_CFG_COUNTS_REV h)
    let shown := if -32768 ≤ d ∧ d ≤ 32767 then q15 d else Config.freeAt s.free 12
    let s := { s with free := s.free + 1 }.setF (fPOS_IDX_DRIFT_D i) shown
    if s.fld (fPOS_IDX_CFG_DRIFT_TOL i) < d.natAbs then
      ((s.incF (fPOS_IDX_DRIFT_EVTS i)).set1 (fPOS_EVENTS_DRIFT h)).raise 0x0404 (0x10 + i)
    else s

/-- R134: the latch. -/
def State.indexLatch (s : State) (i t : Nat) : State :=
  let h := s.fld (fPOS_IDX_CFG_TRIPLET i)
  let s := if s.pos.latched.at false i then s.driftCheck i h (s.rdI (rPOS_IDX_LATCH i)) (s.rdI (rPOS_COUNT h)) else s
  let s := (s.wr (rPOS_IDX_LATCH i) (s.rd (rPOS_COUNT h))).wrN (rPOS_IDX_TIME i) (t / 256)
  let m := 15 - 2 ^ i
  let s := s.modHall h (fun x => { x with fwd := Nat.land x.fwd m, rev := Nat.land x.rev m, tainted := Nat.land x.tainted m })
  { s with pos := { s.pos with latched := s.pos.latched.put false i true } }

/-- R134: the Hall state that triplet `h` accepts in the sampling clock of an index or probe edge comes first. -/
def State.hallFirst (s : State) (h : Nat) : Option (BitVec 3 × Time) → State
  | some x => hallLevelAccepted s h x.1.toNat x.2.toNat
  | none => s

/-- R134: INDEX_EDGE_ACCEPTED. -/
def indexEdgeAccepted (s : State) (i : Nat) (rising : Bool) (t rejected : Nat) (hall : Option (BitVec 3 × Time)) : State :=
  let s := { s with pos := { s.pos with idxLevel := s.pos.idxLevel.put false i rising } }.hptFollow
  if s.on (fPOS_IDX_CFG_ENABLE i) then
    let s := (s.rejectLevels (s.fld (fPOS_IDX_CFG_TRIPLET i)) rejected 0).hallFirst (s.fld (fPOS_IDX_CFG_TRIPLET i)) hall
    if rising = (s.fld (fPOS_IDX_CFG_POL i) == 0) then s.indexLatch i t else s
  else s

def execIndexEdgeAccepted (i : Fin 4) (rising : Bool) (edge : Time) (rejected : BitVec 16) (hall : Option (BitVec 3 × Time)) (s : State) :
    Outcome State Fault Refusal := .next (s.lit (indexEdgeAccepted s i.val rising edge.toNat rejected.toNat hall))

/-- A record that a unit of this module makes for a queue of this module, to launch at once: LATE = 1, GEN that of a queue that checks
it (R71), CRC by the hardware. -/
def State.unitRec (s : State) (target op payload : Nat) : Rec :=
  { time := BitVec.ofNat 40 s.now, target := BitVec.ofNat 16 target, src := BitVec.ofNat 8 s.own, opcode := BitVec.ofNat 8 op, flags := 1,
    gtag := 0, gen := BitVec.ofNat 16 (if (s.qd target).genCheck then s.qGen target else 0), payload := BitVec.ofNat 128 payload,
    seq := 0, crc := 0 }

/-- R136: a capture. -/
def State.probeCapture (s : State) (i t : Nat) : State :=
  let h := s.fld (fPOS_PRB_CFG_TRIPLET i)
  let seq := (s.fld (fPOS_PRB_STATUS_SEQ i) + 1) % 65536
  let cnt := s.rdN (rPOS_COUNT h)
  let since := if (s.hall h).hasEdge then s.wide32 22 (roundFree ((t : Int) - s.hallEdge h) 2560).toNat
    else Config.freeAt s.free 13 % 4294967296
  let s := { s with free := s.free + 1 }.setF (fPOS_PRB_STATUS_SEQ i) seq
  let r := fun k => rPOS_PRB_RING (i * 32 + seq % 8 * 4 + k)
  let s := (((s.wrN (r 0) cnt).wrN (r 1) (t / 256)).wrN (r 2) since).wrN (r 3) seq
  let q := s.fld (fPOS_PRB_CFG_DEST_Q i)
  if q = 0 then s
  else s.emit (s.unitRec q 0x10 (cnt + t % 2 ^ 40 * 2 ^ 32 + since * 2 ^ 72 + seq * 2 ^ 104))

/-- R136: PROBE_EDGE_ACCEPTED. -/
def probeEdgeAccepted (s : State) (i : Nat) (rising : Bool) (t rejected : Nat) (hall : Option (BitVec 3 × Time)) : State :=
  let s := { s with pos := { s.pos with prbLevel := s.pos.prbLevel.put false i rising } }
  if s.on (fPOS_PRB_CFG_ENABLE i) then
    let s := (s.rejectLevels (s.fld (fPOS_PRB_CFG_TRIPLET i)) rejected 0).hallFirst (s.fld (fPOS_PRB_CFG_TRIPLET i)) hall
    let pol := s.fld (fPOS_PRB_CFG_POL i)
    if 2 ≤ pol ∨ rising = (pol == 0) then s.probeCapture i t else s
  else s

def execProbeEdgeAccepted (i : Fin 4) (rising : Bool) (edge : Time) (rejected : BitVec 16) (hall : Option (BitVec 3 × Time)) (s : State) :
    Outcome State Fault Refusal := .next (s.lit (probeEdgeAccepted s i.val rising edge.toNat rejected.toNat hall))

/-! ### Pass-through and counters -/

/-- R137: SELECT. -/
def hptSelect (s : State) (o : Nat) (p : Quad) : State :=
  let s := s.consume (0xB10 + 16 * o) 0x10 p
  if hptAccepts 0x10 p then ((s.setF (fPOS_HPT_SRC_TRIPLET o) (p.b 0)).setF (fPOS_HPT_SRC_INDEX o) (p.b 1)).hptFollow else s

def execHptSelect (o : Fin 2) (p : Quad) (s : State) : Outcome State Fault Refusal := .next (s.lit (hptSelect s o.val p))

/-- R10: `POS_CMD` 0x0001 clears every POS counter. -/
def posClearCounters (s : State) : State :=
  s.cmd rPOS_CMD 1 (fun s => (stDONE, (s.each (fun s h => s.zero [rPOS_CNT_REJECT h, rPOS_CNT_INVALID h, rPOS_CNT_SKIP h,
    rPOS_CNT_DRIFT_SKIP h]) 6).each (fun s i => s.clr (fPOS_IDX_DRIFT_EVTS i)) 4))

def execPosClearCounters (s : State) : Outcome State Fault Refusal := .next (s.lit (posClearCounters s))

end Sys2Proof.Machine
end

