-- ==== Sys2Proof/Machine/Bnd.lean ====
section
/-! DEFINITION. Band regulators: inputs and frames (R185–R190), references and limits (R209–R212), states (R193), CARRIER (R194–R198), BAND
(R199–R203), OVERRIDE and RESYNC (R204–R206), records (R213) and the limit ratio (R214–R216). -/
namespace Sys2Proof.Machine

open Host (Outcome)

/-! ### States -/

def bOFF : Nat := 0
def bIDLE : Nat := 1
def bCARRIER : Nat := 2
def bBAND : Nat := 3
def bOVERRIDE : Nat := 4
def bRESYNC : Nat := 5
def bHALTED : Nat := 6

def State.bst (s : State) (c : Nat) : Nat := s.fld (fBND_STATUS_STATE c)
def State.setBst (s : State) (c x : Nat) : State := s.setF (fBND_STATUS_STATE c) x
/-- "Running" of R193. -/
def State.bRun (s : State) (c : Nat) : Bool := bCARRIER ≤ s.bst c && s.bst c ≤ bRESYNC
def State.bmode (s : State) (c : Nat) : Nat := s.fld (fBND_STATUS_MODE c)
def State.bndC (s : State) (c : Nat) : BndCell := s.bnd.cell.at BndCell.init c
def State.setBnd (s : State) (c : Nat) (x : BndCell) : State := { s with bnd := { s.bnd with cell := s.bnd.cell.put BndCell.init c x } }
def State.modBnd (s : State) (c : Nat) (f : BndCell → BndCell) : State := s.setBnd c (f (s.bndC c))
def State.topo (s : State) (c : Nat) : Nat := s.fld (fBND_CFG_TOPO c)

/-- Three-level, six-phase. -/
def topo3L (t : Nat) : Bool := t % 2 == 1
def topo6 (t : Nat) : Bool := 2 ≤ t
/-- Legs of a topology. -/
def topoN (t : Nat) : Nat := if topo6 t then 6 else 3

/-- The legs of `TYPE` 1–3 of a cell, ascending: phases a, b, c and those of the second set (R192). -/
def State.bLegs (s : State) (c : Nat) : List Nat := (List.range 12).filter (fun n => s.legN n != 0 && s.legType n != 4 && s.legCell n == c)

/-- The carrier of the cell's legs. -/
def State.bCar (s : State) (c : Nat) : Option Nat :=
  match s.bLegs c with
  | n :: _ => if s.on (fEDG_LEG_CFG_CAR_EN n) then some (s.fld (fEDG_LEG_CFG_CAR n)) else none
  | [] => none

/-- A leg of the cell is CUT or LATCHED (R208). -/
def State.bTripped (s : State) (c : Nat) : Bool := (s.bLegs c).any (fun n => s.tst n == tCUT || s.tst n == tLATCHED)

/-! ### Voltages, angle, currents -/

/-- The source code of R91 for an input coded as `VDC_SRC`. -/
def srcOf (v : Nat) : Nat := if v < 0x30 then v else 0x60 + v % 64

/-- The held value of an input coded as `VDC_SRC` (R95). -/
def State.held (s : State) (v : Nat) : Quad := s.sns.good.at 0 (srcOf v)

/-- The latest entry of an input coded as `VDC_SRC`. -/
def State.latest (s : State) (v : Nat) : Quad :=
  let r := fun k => if v < 0x30 then (match s.serving v with
      | some d => s.rdN (rSNS_DEC_LAST d k)
      | none => 0) else s.rdN (rSNS_AN_LAST (v % 64) k)
  BitVec.ofNat 128 (r 0 + r 1 * 2 ^ 32 + r 2 * 2 ^ 64 + r 3 * 2 ^ 96)

/-- The DC-link voltage in Q1.15 steps (R188). -/
def State.bVdc (s : State) (c : Nat) : Int := entryValue (s.held (s.fld (fBND_SRC_VDC_SRC c)))

/-- ΔV_np of a three-level cell (R188). -/
def State.bDnp (s : State) (c : Nat) : Int :=
  if topo3L (s.topo c) then s.bVdc c - 2 * entryValue (s.held (s.fld (fBND_SRC_VLO_SRC c))) else 0

def State.iBase (s : State) (c : Nat) : Rat := (s.fld (fBND_BASE_I_BASE c) : Rat)
def State.vBase (s : State) (c : Nat) : Rat := (s.fld (fBND_BASE_V_BASE c) : Rat)
def State.wBase (s : State) (c : Nat) : Rat := (s.fld (fBND_WBASE_W_BASE c) : Rat) / 10
/-- L_σ in H, R_s in Ω. -/
def State.lSig (s : State) (c : Nat) : Rat := (s.fld (fBND_MACH_L_SIGMA c) : Rat) / 10000000
def State.lXy (s : State) (c : Nat) : Rat := (s.fld (fBND_MACH2_L_XY c) : Rat) / 10000000
def State.rSt (s : State) (c : Nat) : Rat := (s.fld (fBND_MACH_R_S c) : Rat) / 10000

/-- R211: `PSI_M` and ψ_m(T), in Wb. -/
def State.psiM (s : State) (c : Nat) : Rat := (s.fld (fBND_MACH2_PSI_M c) : Rat) / 10000
def State.psiT (s : State) (c : Nat) : Rat :=
  let t : Int := sgn16 (s.rdN (rBND_TMAG_RT c)) - s.fldI (fBND_MAGNET_T_REF c)
  s.psiM c * (1 + (s.fldI (fBND_MAGNET_PSI_TC c) : Rat) / 1000000 * ((t : Rat) / 16))

/-- Volts to Q1.15 steps. -/
def State.puV (s : State) (c : Nat) (v : Rat) : Rat := v / s.vBase c * 32768
/-- Amperes of Q1.15 steps. -/
def State.amps (s : State) (c : Nat) (i : Rat) : Rat := i * s.iBase c / 32768

/-- Seconds between two short times, `b` after `a`. -/
def secs (a b : Nat) : Rat := (sgnW 40 (b % 2 ^ 40 + 2 ^ 40 - a % 2 ^ 40) : Rat) / 256000000000

/-- R187: the angle in radians and ω in rad/s at time `t`. -/
def State.bAngle (s : State) (c t : Nat) : Rat × Rat :=
  if s.fld (fBND_SRC_ANG_SRC c) = 1 then
    let h := s.fld (fBND_SRC_HALL c)
    let w := (s.fldI (fPOS_SPEED_WE h) : Rat) / 32768 * (s.hallBase h : Rat) / 10
    let centre := (Config.hallZero : Rat) / 32768 * piQ + (s.fld (fPOS_HALL_STATUS_SECTOR h) : Rat) * piQ / 3
    (centre + clampR (-piQ / 6) (piQ / 6) (w * (((t : Int) - s.hallEdge h : Int) : Rat) / 256000000000), w)
  else match (s.bndC c).angle with
    | some (ta, th, w) =>
      let w := (w : Rat) / 32768 * s.wBase c
      ((th : Rat) / 32768 * piQ + w * secs ta t, w)
    | none => (0, 0)

/-- The SD input of phase `p`, if served (R185, R106). -/
def State.phaseIn (s : State) (c p : Nat) : Option Nat :=
  firstBelow (fun n => s.sdUsed n && s.sdCell n == c && s.fld (fSNS_SD_CFG_ROLE n) == 1 && s.fld (fSNS_SD_CFG_PHASE n) == p
    && !s.on (fSNS_SD_STATUS_RETIRED n)) 48

/-- R186: the amplitude-invariant transform. -/
def clarke (x : Rat × Rat × Rat) : Rat × Rat := ((2 * x.1 - x.2.1 - x.2.2) / 3, (x.2.1 - x.2.2) / sqrt3)

/-- A vector turned by an angle. -/
def turn (a : Rat) (v : Rat × Rat) : Rat × Rat := (v.1 * cosQ a - v.2 * sinQ a, v.1 * sinQ a + v.2 * cosQ a)

def vadd (a b : Rat × Rat) : Rat × Rat := (a.1 + b.1, a.2 + b.2)
def vsub (a b : Rat × Rat) : Rat × Rat := (a.1 - b.1, a.2 - b.2)
def vscale (k : Rat) (a : Rat × Rat) : Rat × Rat := (k * a.1, k * a.2)
def vsq (a : Rat × Rat) : Rat := a.1 * a.1 + a.2 * a.2
def vdot (a b : Rat × Rat) : Rat := a.1 * b.1 + a.2 * b.2

/-- Displacement of the second set, in radians. -/
def State.setDisp (s : State) (c : Nat) : Rat := if s.on (fBND_CFG_SET_DISP c) then piQ / 6 else 0

/-- R186: the regulated αβ vector and the harmonic vector of six values; of three values, the vector and zero. -/
def State.vectors (s : State) (c : Nat) (x y : Rat × Rat × Rat) : (Rat × Rat) × (Rat × Rat) :=
  let v1 := clarke x
  if topo6 (s.topo c) then
    let v2 := turn (s.setDisp c) (clarke y)
    (vscale (1 / 2) (vadd v1 v2), vscale (1 / 2) (vsub v1 v2))
  else (v1, (0, 0))

/-- The three phases of a vector. -/
def axes (v : Rat × Rat) : List Rat := [v.1, -v.1 / 2 + sqrt3 / 2 * v.2, -v.1 / 2 - sqrt3 / 2 * v.2]

/-- The back-EMF vector in αβ, in V. -/
def State.bEmf (s : State) (c t : Nat) : Rat × Rat :=
  let a := s.bAngle c t
  vscale (a.2 * s.psiT c) (-sinQ a.1, cosQ a.1)

/-! ### The predictor (R190) -/

/-- The leg level (0 N, 1 O, 2 P) that a pattern gives for a positive and for a negative phase current: a complete pattern gives one, and in
dead time, or off, the current finds the path its sign leaves it. -/
def condLevels (ty p : Nat) : Nat × Nat :=
  if ty = 1 then (if bit p 0 then 2 else 0, if bit p 1 then 0 else 2)
  else (if bit p 0 then 2 else if bit p 1 then 1 else 0, if bit p 3 then 0 else if bit p 2 then 1 else 2)

/-- A change put into a list, latest first. -/
def lateFirst (l : List (Nat × Nat × Nat)) (x : Nat × Nat × Nat) : List (Nat × Nat × Nat) :=
  l.filter (fun y => x.1 < y.1) ++ [x] ++ l.filter (fun y => y.1 ≤ x.1)

/-- The levels of the cell's `j`-th leg over time, newest first: those of records sent or computed for after `t0`, then those of the patterns
it has shown. -/
def State.legLine (s : State) (c t0 j n : Nat) : List (Nat × Nat × Nat) :=
  let x := s.bndC c
  let future := ((x.sent ++ x.edges).filter (fun e => e.leg == j && t0 < e.at_)).map (fun e => (e.at_, e.level, e.level))
  let h := (s.leg n).hist
  let past := (if h.isEmpty then [(0, s.pat n)] else h ++ [(0, 0)]).map (fun h => (h.1, condLevels (s.legType n) h.2))
  future.foldl lateFirst [] ++ past

/-- The level of a line at `t` for a phase current of value `i`. -/
def lineLevel (l : List (Nat × Nat × Nat)) (t : Nat) (i : Rat) : Nat :=
  match l.find? (fun x => x.1 ≤ t) with
  | some x => if 0 < i ∨ (i = 0 ∧ Config.zeroSign) then x.2.1 else x.2.2
  | none => 1

/-- The leg lines of a cell. -/
def State.legLines (s : State) (c : Nat) : List (List (Nat × Nat × Nat)) := (s.bLegs c).zipIdx.map (fun (n, j) => s.legLine c s.now j n)

/-- The instants of a cell's leg changes between two instants, ascending, the second at the end. -/
def breaks (ls : List (List (Nat × Nat × Nat))) (more : List Nat) (a b : Nat) : List Nat :=
  let l := (more ++ ls.flatMap (fun l => l.map (·.1))).filter (fun t => a < t && t < b)
  l.foldl (fun o t => (o.filter (fun u => u < t)) ++ [t] ++ o.filter (fun u => t < u)) [] ++ [b]

/-- A triple of a list from position `k`. -/
def triple (l : List Rat) (k : Nat) : Rat × Rat × Rat := (l.getD k 0, l.getD (k + 1) 0, l.getD (k + 2) 0)

/-- R185, R106: the latest fast-path value of phase `p` in Q1.15 steps and the instant it represents; none on a phase without an input. -/
def State.fastIn (s : State) (c p : Nat) : Option (Rat × Nat) :=
  (s.phaseIn c p).map (fun n => ((sgn16 (s.sns.fast.at 0 n) : Rat), if s.sns.fastAt.at 0 n = 0 then s.now else s.sns.fastAt.at 0 n))

/-- R185: a phase without an input is the negative sum of the other two of its set. -/
def fillPhases (f : List (Option (Rat × Nat))) (l : List Rat) : List Rat :=
  l.zipIdx.map (fun (x, p) =>
    if (f.getD p none).isSome then x
    else let k := p / 3 * 3; -(((List.range 3).filter (fun q => k + q != p)).foldl (fun a q => a + l.getD (k + q) 0) 0))

/-- The regulated and harmonic voltage vectors, in Q1.15 steps, of leg levels. -/
def State.levelVec (s : State) (c : Nat) (l : List Nat) : (Rat × Rat) × (Rat × Rat) :=
  let u := l.map (fun (lv : Nat) => ((lv : Rat) - 1) * (s.bVdc c : Rat) / 2)
  s.vectors c (triple u 0) (triple u 3)

/-- R190: what each phase current gains from `a` to `b`, no leg changing between them, from currents `cur` at `a`.  The voltage term is exact;
the back-EMF is taken at the middle and the resistive drop at the start of the interval (log 78). -/
def State.gains (s : State) (c : Nat) (ls : List (List (Nat × Nat × Nat))) (a b : Nat) (cur : List Rat) : List Rat :=
  let dt : Rat := ((b - a : Nat) : Rat) / 256000000000
  let v := s.levelVec c (ls.zipIdx.map (fun (l, j) => lineLevel l a (cur.getD j 0)))
  let i := s.vectors c (triple cur 0) (triple cur 3)
  let kv := s.vBase c / s.iBase c
  let rs := s.rSt c
  let reg := vscale (dt / s.lSig c) (vsub (vsub (vscale kv v.1) (vscale (32768 / s.iBase c) (s.bEmf c ((a + b) / 2)))) (vscale rs i.1))
  if topo6 (s.topo c) then
    let xy := vscale (dt / s.lXy c) (vsub (vscale kv v.2) (vscale rs i.2))
    axes (vadd reg xy) ++ axes (turn (-(s.setDisp c)) (vsub reg xy))
  else axes reg

/-- R190 through the intervals that end at the instants of a list, from `a`: a phase advances from the instant its value represents. -/
def State.advance (s : State) (c : Nat) (ls : List (List (Nat × Nat × Nat))) (f : List (Option (Rat × Nat))) : List Nat → Nat → List Rat → List Rat
  | [], _, cur => cur
  | b :: bs, a, cur =>
    let g := s.gains c ls a b cur
    let next := cur.zipIdx.map (fun (x, p) => match f.getD p none with
      | some (_, t) => if t ≤ a then x + g.getD p 0 else x
      | none => x)
    s.advance c ls f bs b (fillPhases f next)

/-- R190: the phase currents of a cell predicted for `t`, in Q1.15 steps. -/
def State.phasesAt (s : State) (c t : Nat) : List Rat :=
  let f := (List.range (topoN (s.topo c))).map (fun p => s.fastIn c p)
  let ts := f.filterMap (fun x => x.map (·.2))
  let a := ts.foldl min t
  let ls := s.legLines c
  let cur := fillPhases f (f.map (fun x => (x.map (·.1)).getD 0))
  if a < t then s.advance c ls f (breaks ls ts a t) a cur else cur

/-- The estimate at `t`: αβ and xy (R186). -/
def State.bEst (s : State) (c t : Nat) : (Rat × Rat) × (Rat × Rat) :=
  let l := s.phasesAt c t
  s.vectors c (triple l 0) (triple l 3)

/-- The estimate at `t` in the dq frame. -/
def State.bEstDq (s : State) (c t : Nat) : Rat × Rat := turn (-(s.bAngle c t).1) (s.bEst c t).1

/-- The mean dq voltage, in Q1.15 steps, that the legs of the cell have applied from `a` to `b`, from their patterns and V_dc (R205, R210). -/
def State.meanVolt (s : State) (c a b : Nat) : Rat × Rat :=
  let ls := s.legLines c
  let cur := s.phasesAt c b
  let f := (breaks ls [] a b).foldl (fun (x : (Rat × Rat) × Nat) t =>
    let v := (s.levelVec c (ls.zipIdx.map (fun (l, j) => lineLevel l x.2 (cur.getD j 0)))).1
    (vadd x.1 (vscale ((t - x.2 : Nat) : Rat) (turn (-(s.bAngle c ((x.2 + t) / 2)).1) v)), t)) ((0, 0), a)
  vscale (1 / ((b - a : Nat) : Rat)) f.1

/-- R191: a new fast-path value `v` of input `n`, which stands for `tf`: its residual against the estimate for that instant. -/
def State.noteResidual (s : State) (n tf : Nat) (v : Int) : State :=
  let c := s.sdCell n
  let p := s.fld (fSNS_SD_CFG_PHASE n)
  if s.fld (fSNS_SD_CFG_ROLE n) = 1 ∧ s.bst c ≠ bOFF ∧ s.phaseIn c p = some n ∧ s.sns.fastAt.at 0 n ≠ 0 then
    let r := (roundR ((s.phasesAt c tf).getD p 0 - (v : Rat))).natAbs
    s.modBnd c (fun x => { x with resSum := x.resSum + r * r, resN := x.resN + 1 })
  else s

/-- R97, R101, R190, R191: one bit period of the line of input `n`, whose modulator clock edge is at `edge`. -/
def State.windowBit (s : State) (n edge : Nat) (w : BitVec 16) : State :=
  let tf := edge - s.fastDelay n
  let t := s.fastBit n w
  let t := { t with bnd := (s.noteResidual n tf (sgn16 (t.sns.fast.at 0 n))).bnd }
  { t with sns := { t.sns with fastAt := t.sns.fastAt.put 0 n tf } }

/-- R102: consecutive bit periods of the line of an input in use that is not lost, oldest first; the last one's clock edge is now. -/
def windowOut (s : State) (n : Nat) (line : List (BitVec 16)) : State :=
  if s.sdUsed n ∧ ¬ s.on (fSNS_SD_STATUS_LOST n) then
    s.forEach (fun s (w, k) => s.windowBit n (s.now - (line.length - 1 - k) * s.modPeriod n) w) line.zipIdx
  else s

def execWindowOut (n : Fin 48) (line : List (BitVec 16)) (s : State) : Outcome State Fault Refusal := .next (s.lit (windowOut s n.val line))

/-! ### References and limits -/

/-- R368, R455: the thermal-limit term. -/
def State.thermal (s : State) (c : Nat) : Nat :=
  let imax := s.fld (fBND_LIMITS_IMAX c)
  let thr := s.fld (fHK_THROTTLE_STEP c) * imax / 16
  if s.on (fFLT_CELL_TQ_CAP50 c) then min thr ((if s.on (fSI_CELL_CFG_TM_EN c) then s.fld (fSI_TQ_CFG_I_RATED c) else imax) / 2) else thr

/-- R212: the current limit in force. -/
def State.bLimit (s : State) (c : Nat) : Nat :=
  let m := min (s.fld (fBND_LIMITS_IMAX c)) (s.thermal c)
  match (s.bndC c).limit with
  | some l => min l m
  | none => m

/-- R212: the clamp of a reference, and whether it acted. -/
def clampRef (lim : Nat) (d q : Int) : Int × Int × Bool :=
  let d' := clamp (-(lim : Int)) lim d
  let room := ((lim : Int) * lim - d' * d').toNat
  let m := isqrt room 17 0
  let top : Int := if m * m = room ∨ ¬ Config.roundsUp room 1 then m else m + 1
  let q' := if q.natAbs ≤ m then q else if q < 0 then -top else top
  (d', q', decide (d' ≠ d ∨ q' ≠ q))

/-- R209: id and |iq| of |i_T| by the table. -/
def State.mtpa (s : State) (c : Nat) (it : Nat) : Int × Int :=
  let k := it / 512
  let f : Rat := ((it % 512 : Nat) : Rat) / 512
  let ip := fun (g : Nat → Int) => halfUp ((g k : Rat) * (1 - f) + (g (min (k + 1) 64) : Rat) * f)
  (ip (fun j => s.fldI (fBND_MTPA_ID c j)), ip (fun j => s.fldI (fBND_MTPA_IQ c j)))

/-- id before the field-weakening offset, under form 0 (R209). -/
def State.idMtpa (s : State) (c : Nat) : Int :=
  if s.on (fBND_CFG_MTPA_EN c) then (s.mtpa c (s.bndC c).ia.natAbs).1 else 0

/-- R209–R212: the reference in force (id, iq) and whether the limit clamps. -/
def State.bRef (s : State) (c : Nat) : Int × Int × Bool :=
  let x := s.bndC c
  if x.form = 1 then clampRef (s.bLimit c) x.ia x.ib
  else
    let iq : Int := if s.on (fBND_CFG_MTPA_EN c) then
        (let v := (s.mtpa c x.ia.natAbs).2
         if x.ia < 0 then -v else v) else x.ia
    let id := s.idMtpa c + (if s.on (fBND_CFG_FW_EN c) then s.fldI ⟨rBND_FW_DID c, 15, 0⟩ else 0)
    let iq := if s.psiT c = 0 then iq else roundR ((iq : Rat) * s.psiM c / s.psiT c)
    clampRef (s.bLimit c) id iq

/-- The reference as a dq vector. -/
def State.bRefV (s : State) (c : Nat) : Rat × Rat := (((s.bRef c).1 : Rat), ((s.bRef c).2.1 : Rat))

/-! ### Sending -/

/-- Payload byte 0 of LEG_SET for a level 0 N, 1 O, 2 P (R148). -/
def levelCode (three : Bool) (lv : Nat) : Nat := if three then 3 - lv else if lv = 2 then 1 else 2

/-- A LEG_SET to leg `n` with a launch time (R198). -/
def State.sendLeg (s : State) (n code at_ : Nat) : State :=
  s.emit { s.unitRec (0x540 + 16 * s.legBase n) 0x10 code with time := BitVec.ofNat 40 at_ }

/-- The `j`-th leg of the cell is sent a level. -/
def State.sendLevel (s : State) (c j lv at_ : Nat) : State :=
  match (s.bLegs c)[j]? with
  | some n =>
    let s := s.sendLeg n (levelCode (topo3L (s.topo c)) lv) at_
    s.modBnd c (fun x => { x with level := x.level.put 0 j (lv + 1), since := x.since.put 0 j at_ })
  | none => s

/-- The next tick (R189). -/
def State.nextTick (s : State) : Nat := (s.now / 2560 + 1) * 2560

/-- R193: LEG_SET OFF to every leg of the cell, launch at the next tick; computed edges are withdrawn. -/
def State.legsOff (s : State) (c : Nat) : State :=
  let s := s.forEach (fun s n => s.sendLeg n 0 s.nextTick) (s.bLegs c)
  s.modBnd c (fun x => { x with edges := [], code := 0, level := [], waitZero := false, owed := false, wait := false, refused := [] })

/-! ### The limit ratio -/

/-- A step ends with a code (R216); `trise` in ns when 90 % was reached. -/
def State.lrEnd (s : State) (c code : Nat) (trise : Option Rat) : State :=
  match (s.bndC c).lr with
  | none => s
  | some l =>
    let n := s.rdN (rBND_CNT_STEPS c)
    let d := s.draw
    let s := d.1.modBnd c (fun x => { x with lr := none })
    let tm := if l.tmin ≤ 0 then d.2 % 2 ^ 32 else (roundR l.tmin).toNat
    let tr := match trise with
      | some t => (roundR t).toNat
      | none => Config.freeAt d.2 14 % 2 ^ 32
    let ratio := match trise with
      | some t => min (nearR (t / l.tmin * 4096)).toNat 0xFFFF
      | none => Config.freeAt d.2 15 % 65536
    let bound := code == 1 && l.bound && l.left
    let ovr := bound && (match trise with
      | some t => decide (12 / 10 * l.tmin + 1200 < t)
      | none => false)
    let s := ((s.setF (fBND_LR_STATUS_RATIO c) ratio).setF (fBND_LR_STATUS_CODE c) code).setB (fBND_LR_STATUS_BOUND c) bound
    let s := (s.setB (fBND_LR_STATUS_OVER c) ovr).setF (fBND_LR_STATUS_STEP c) n
    let s := (s.wrN (rBND_LR_TMIN c) tm).wrN (rBND_LR_TRISE c) tr
    let s := if bound ∧ s.rdN (rBND_LR_MAX c) < ratio then s.wrN (rBND_LR_MAX c) ratio else s
    let s := if ovr then ((s.inc (rBND_CNT_LR_OVER c)).set1 (fBND_EVENTS_LR_OVER c)).raiseD 0x0702 c (BitVec.ofNat 64 (tr + tm * 2 ^ 32)) else s
    let s := if code = 6 then (s.set1 (fBND_EVENTS_LR_TIMEOUT c)).raise 0x0703 c else s
    let q := s.fld (fBND_LR_CFG_LR_DEST_Q c)
    if q = 0 then s
    else s.emit (s.unitRec q 0x10 (tm + tr * 2 ^ 32 + ratio * 2 ^ 64 + code * 2 ^ 80
      + ((if bound then 1 else 0) + (if ovr then 2 else 0)) * 2 ^ 88))

/-- R214: V_avail in V, in direction `u` of the dq frame. -/
def State.vAvail (s : State) (c : Nat) (uq : Rat) : Rat :=
  let kv : Rat := if topo6 (s.topo c) then min ((s.fld (fBND_FW2_K_V c) : Rat) / 32768) (2 / 3) else 2 / 3
  kv * ((s.bVdc c : Rat) * s.vBase c / 32768) - s.psiT c * (s.bAngle c s.now).2 * uq

/-- The bound may apply: CARRIER, OVERRIDE or RESYNC in mode 2 (R215). -/
def State.boundState (s : State) (c : Nat) : Bool :=
  s.bmode c == 2 && (s.bst c == bCARRIER || s.bst c == bOVERRIDE || s.bst c == bRESYNC)

/-- A vector outside the limit in force. -/
def State.outside (s : State) (c : Nat) (v : Rat × Rat) : Bool := decide ((((s.bLimit c * s.bLimit c : Nat)) : Rat) < vsq v)

/-- R214: a SET_CURRENT launched at `t0` opens a step when the reference has moved by `LR_STEP` or more from the estimate `i0` at launch. -/
def State.lrOpen (s : State) (c t0 : Nat) (form ia ib : Int) (i0 : Rat × Rat) : State :=
  let r := s.bRefV c
  let d := vsub r i0
  let ls : Rat := (s.fld (fBND_LR_CFG_LR_STEP c) : Rat)
  if vsq d < ls * ls ∨ vsq d = 0 then s
  else
    let mag := sqrtQ (vsq d)
    let u := vscale (1 / mag) d
    let va := s.vAvail c u.2
    let tmin := if va ≤ 0 then 0 else 9 / 10 * s.lSig c * s.amps c mag / va * 1000000000
    let l : LrStep := { t0 := t0, i0d := i0.1, i0q := i0.2, ud := u.1, uq := u.2, mag := mag, tmin := tmin, bound := s.boundState c, left := false, run := s.bRun c }
    let s := (s.modBnd c (fun x => { x with lr := some l })).inc (rBND_CNT_STEPS c)
    let e := s.latest (s.fld (fBND_SRC_VDC_SRC c))
    -- the reference before the limit (R212) tells whether the demand lay outside it
    let raw : Rat × Rat := if form = 1 then ((ia : Rat), (ib : Rat)) else r
    if va ≤ 0 then s.lrEnd c 2 none
    else if s.outside c i0 ∨ s.outside c raw ∨ (s.bRef c).2.2 then s.lrEnd c 4 none
    else if entryFlag e 0 ∨ entryFlag e 2 then s.lrEnd c 7 none
    else s

/-- R215 at a tick, with the error vector's square. -/
def State.lrTick (s : State) (c : Nat) (err2 : Rat) : State :=
  match (s.bndC c).lr with
  | none => s
  | some l =>
    let hov : Rat := (s.fld (fBND_BANDS_H_OVR c) : Rat)
    let left := l.left || decide (hov * hov < err2)
    let s := s.modBnd c (fun x => { x with lr := some { l with left := left } })
    let i := s.bEstDq c s.now
    if l.run ∧ ¬ s.bRun c then s.lrEnd c 7 none
    else if s.bTripped c then s.lrEnd c 3 none
    else if s.vAvail c l.uq ≤ 0 then s.lrEnd c 2 none
    else if 9 / 10 * l.mag ≤ (i.1 - l.i0d) * l.ud + (i.2 - l.i0q) * l.uq then
      s.lrEnd c 1 (some (((s.now - l.t0 : Nat) : Rat) / 256))
    else s

/-- R215: 90 % not reached within 4 × t_min + 20 µs. -/
def lrStepTimeout (s : State) (c : Nat) : State := s.lrEnd c 6 none

def execLrStepTimeout (c : Fin 4) (s : State) : Outcome State Fault Refusal := .next (s.lit (lrStepTimeout s c.val))

/-! ### Leaving the running states (R193) -/

/-- ENABLE 0 from a running state. -/
def State.bDisable (s : State) (c : Nat) : State := ((s.legsOff c).setBst c bIDLE).lrEnd c 7 none

/-- R193: a running regulator loses a source: HALTED as by ENABLE 0, SS1, the fault. -/
def State.bFault (s : State) (c cause code : Nat) : State :=
  if s.bRun c then ((((s.legsOff c).bndHalt c cause).lrEnd c 7 none).raiseStop code c).requestSs1 c else s

/-- The DC link is lost and no valid entry has come since (R188). -/
def State.vdcStands (s : State) (c : Nat) : Bool := (s.bndC c).vdcLost == some (s.held (s.fld (fBND_SRC_VDC_SRC c)))

/-- The angle is lost (R187). -/
def State.angStands (s : State) (c : Nat) : Bool :=
  if s.fld (fBND_SRC_ANG_SRC c) = 1 then s.hSt (s.fld (fBND_SRC_HALL c)) == hFAILED else (s.bndC c).angLost

/-- The neutral point went out of limit and |ΔV_np| still lies above `NP_LIM` (R202). -/
def State.npStands (s : State) (c : Nat) : Bool := (s.bndC c).npOut && decide (s.fld (fBND_LIMITS_NP_LIM c) < (s.bDnp c).natAbs)

/-- A cause of HALTED is present (R193). -/
def State.bCause (s : State) (c : Nat) : Bool :=
  let x := s.bndC c
  s.vdcStands c || s.angStands c
    || x.carLost || s.npStands c || (s.bLegs c).any (fun n => s.tst n == tRETIRED)

/-- R188: no valid DC-link entry for 100 µs. -/
def vdcTimeout (s : State) (c : Nat) : State :=
  if s.bst c = bOFF then s
  else
    let e := s.held (s.fld (fBND_SRC_VDC_SRC c))
    (s.modBnd c (fun x => { x with vdcLost := some e })).bFault c 1 0x0705

def execVdcTimeout (c : Fin 4) (s : State) : Outcome State Fault Refusal := .next (s.lit (vdcTimeout s c.val))

/-- R187: the angle is lost. -/
def State.angleLost (s : State) (c : Nat) : State :=
  if s.bst c = bOFF then s else (s.modBnd c (fun x => { x with angLost := true })).bFault c 2 0x0706

def angleTimeout (s : State) (c : Nat) : State := if s.fld (fBND_SRC_ANG_SRC c) = 1 then s else s.angleLost c

def execAngleTimeout (c : Fin 4) (s : State) : Outcome State Fault Refusal := .next (s.lit (angleTimeout s c.val))

/-- R128, R187: a triplet fails; the regulators that take their angle from it lose it. -/
def State.hallLost (s : State) (h : Nat) : State :=
  if s.hSt h = hUNUSED ∨ s.hSt h = hFAILED then s
  else (s.hallFail h).each (fun s c => if s.fld (fBND_SRC_ANG_SRC c) = 1 ∧ s.fld (fBND_SRC_HALL c) = h then s.angleLost c else s) 4

def hallImpossibleTimeout (s : State) (h : Nat) : State := if s.hSt h = hIMPOSSIBLE then s.hallLost h else s

def execHallImpossibleTimeout (h : Fin 6) (s : State) : Outcome State Fault Refusal := .next (s.lit (hallImpossibleTimeout s h.val))

/-- R193: no zero instant for 2 P in CARRIER or RESYNC. -/
def carrierLoss (s : State) (c : Nat) : State :=
  if s.bst c = bCARRIER ∨ s.bst c = bRESYNC then (s.modBnd c (fun x => { x with carLost := true })).bFault c 3 0x0708 else s

def execCarrierLoss (c : Fin 4) (s : State) : Outcome State Fault Refusal := .next (s.lit (carrierLoss s c.val))

/-- R202: |ΔV_np| above `NP_LIM` for 10 ms. -/
def npLimitTimeout (s : State) (c : Nat) : State :=
  if s.bst c = bOFF ∨ (s.bDnp c).natAbs ≤ s.fld (fBND_LIMITS_NP_LIM c) then s
  else
    let s := s.modBnd c (fun x => { x with npOut := true })
    if s.bRun c then s.bFault c 4 0x070A else s.raise 0x070A c

/-- R193: a running regulator whose DC link, angle or neutral point is lost already is HALTED. -/
def State.bStanding (s : State) (c : Nat) : State :=
  let s := if s.npStands c then s else s.modBnd c (fun x => { x with npOut := false })
  if s.vdcStands c then s.bFault c 1 0x0705
  else if s.angStands c then s.bFault c 2 0x0706
  else if s.npStands c then s.bFault c 4 0x070A
  else s

def execNpLimitTimeout (c : Fin 4) (s : State) : Outcome State Fault Refusal := .next (s.lit (npLimitTimeout s c.val))

/-- R280: an internal check of the regulator fails. -/
def bndCheckError (s : State) (c : Nat) : State := s.giveOrSs1 c

def execBndCheckError (c : Fin 4) (s : State) : Outcome State Fault Refusal := .next (s.lit (bndCheckError s c.val))

/-! ### BAND (R199–R201) -/

/-- The levels (0 N, 1 O, 2 P) of the legs in a state code (R201). -/
def codeLevels (t code : Nat) : List Nat :=
  if t = 1 then [code % 3, code / 3 % 3, code / 9 % 3]
  else (List.range (topoN t)).map (fun j => if bit code (topoN t - 1 - j) then 2 else 0)

/-- Number of codes of a topology. -/
def codeCount (t : Nat) : Nat := if t = 1 then 27 else 2 ^ topoN t

/-- The voltage vectors αβ and xy of a state. -/
def State.codeVec (s : State) (c code : Nat) : (Rat × Rat) × (Rat × Rat) := s.levelVec c (codeLevels (s.topo c) code)

/-- The 30° sector of a vector, counted from +α. -/
def sector12 (v : Rat × Rat) : Nat :=
  -- rotate by quadrants, then compare tan with 1/√3 and √3
  let q := if 0 < v.1 ∧ 0 ≤ v.2 then 0 else if v.1 ≤ 0 ∧ 0 < v.2 then 1 else if v.1 < 0 ∧ v.2 ≤ 0 then 2 else 3
  let w : Rat × Rat := match q with
    | 0 => v
    | 1 => (v.2, -v.1)
    | 2 => (-v.1, -v.2)
    | _ => (-v.2, v.1)
  3 * q + (if w.2 * sqrt3 < w.1 then 0 else if w.2 < w.1 * sqrt3 then 1 else 2)

/-- The facts of one BAND decision: error, harmonic error, estimate (Q1.15 steps), ω and back-EMF at a tick. -/
structure BandIn where
  e : Rat × Rat
  exy : Rat × Rat
  i : Rat × Rat
  ixy : Rat × Rat
deriving DecidableEq, Repr

/-- R199: the error lies inside its band of half-width `h`. -/
def State.inBand (s : State) (c : Nat) (b : BandIn) (h : Rat) : Bool :=
  let hx : Rat := (s.fld (fBND_ADAPT2_H_XY c) : Rat)
  let main := if s.on (fBND_CFG_SHAPE c) then decide (vsq b.e ≤ h * h)
    else
      let ea := b.e.1
      let eb := -b.e.1 / 2 + sqrt3 / 2 * b.e.2
      let ec := -b.e.1 / 2 - sqrt3 / 2 * b.e.2
      decide (-h ≤ ea ∧ ea ≤ h ∧ -h ≤ eb ∧ eb ≤ h ∧ -h ≤ ec ∧ ec ≤ h)
  main && (!topo6 (s.topo c) || decide (vsq b.exy ≤ hx * hx))

/-- The predicted errors after `T_MINP` in state `code` (R200). -/
def State.predict (s : State) (c : Nat) (b : BandIn) (code : Nat) : (Rat × Rat) × (Rat × Rat) :=
  let tm : Rat := (s.fld (fBND_TIMING_T_MINP c) : Rat) / 100000000
  let v := s.codeVec c code
  -- Q1.15 current steps per Q1.15 voltage step over T_MINP
  let k := fun l : Rat => s.vBase c * tm / (l * s.iBase c)
  let rs := s.rSt c * s.iBase c / s.vBase c
  let hold := vadd (vscale (32768 / s.vBase c) (s.bEmf c s.now)) (vscale rs b.i)
  (vsub b.e (vscale (k (s.lSig c)) (vsub v.1 hold)), vsub b.exy (vscale (k (s.lXy c)) (vsub v.2 (vscale rs b.ixy))))

/-- The holding voltage v* in Q1.15 steps (R200). -/
def State.holdV (s : State) (c : Nat) (b : BandIn) : Rat × Rat :=
  vadd (vscale (32768 / s.vBase c) (s.bEmf c s.now)) (vscale (s.rSt c * s.iBase c / s.vBase c) b.i)

/-- The level a pattern stands for (R151); none in dead time or off. -/
def patLevel (ty p : Nat) : Option Nat :=
  if ty = 1 then (if p = 1 then some 2 else if p = 2 then some 0 else none)
  else if p = 3 then some 2 else if p = 6 then some 1 else if p = 12 then some 0 else none

/-- The level that the cell's `j`-th leg holds or, in dead time, goes to, and the instant of its last change.  A BAND record that has not fired yet
counts from its launch (DEDUCED, log 79); a carrier record counts when it has fired. -/
def State.legHolds (s : State) (c j : Nat) : Option Nat × Nat :=
  let x := s.bndC c
  if x.code ≠ 0 ∧ s.now < x.since.at 0 j ∧ x.level.at 0 j ≠ 0 then (some (x.level.at 0 j - 1), x.since.at 0 j)
  else match (s.bLegs c)[j]? with
    | some n => (patLevel (s.legType n) (if s.tst n = tNORMAL then s.target n else s.pat n), ((s.leg n).hist.map (·.1)).headD 0)
    | none => (none, 0)

/-- The leg changes of a state, with the present level. -/
def State.changes (s : State) (c code : Nat) : List (Nat × Nat) :=
  ((codeLevels (s.topo c) code).zipIdx.map (fun (lv, j) => (j, lv))).filter (fun y => (s.legHolds c y.1).1 != some y.2)

/-- A leg has held its state for `T_MINP` (R200). -/
def State.heldLong (s : State) (c j : Nat) : Bool := decide ((s.legHolds c j).2 + s.fld (fBND_TIMING_T_MINP c) * 2560 ≤ s.now)

/-- The leg changes of a state that `T_MINP` refuses. -/
def State.tooSoon (s : State) (c code : Nat) : List (Nat × Nat) := (s.changes c code).filter (fun y => !s.heldLong c y.1)

/-- No three-level leg would step between P and N. -/
def State.stepOk (s : State) (c code : Nat) : Bool :=
  !topo3L (s.topo c) || (s.changes c code).all (fun y => match (s.legHolds c y.1).1 with
    | some was => !((was == 0 && y.2 == 2) || (was == 2 && y.2 == 0))
    | none => true)

def State.permitted (s : State) (c code : Nat) : Bool := (s.tooSoon c code).isEmpty && s.stepOk c code

/-- The bit a of R200. -/
def State.bandA (s : State) (c : Nat) (b : BandIn) : Bool :=
  let hx : Rat := (s.fld (fBND_ADAPT2_H_XY c) : Rat)
  (topo3L (s.topo c) && decide (0 < s.bDnp c)) || (topo6 (s.topo c) && decide (hx * hx < vsq b.exy))

/-- The valid candidates of the prediction-table entry, in order. -/
def State.candidates (s : State) (c : Nat) (b : BandIn) : List Nat :=
  let k := 24 * sector12 b.e + 2 * sector12 (s.holdV c b) + (if s.bandA c b then 1 else 0)
  let w := s.rdN (rBND_PTAB c k)
  ([0, 1, 2, 3].map (fun j => w / 2 ^ (8 * j) % 256)).filterMap (fun y => if 128 ≤ y then some (y % 64) else none)

/-- A candidate qualifies by its predicted errors. -/
def State.qualifies (s : State) (c : Nat) (b : BandIn) (code : Nat) : Bool :=
  let e := s.predict c b code
  decide (vsq e.1 < vsq b.e) && (!(topo6 (s.topo c) && s.bandA c b) || decide (vsq e.2 < vsq b.exy))

/-- The permitted state of smallest predicted error, of the codes below `n`. -/
def State.bestCode (s : State) (c : Nat) (b : BandIn) : Nat → Option Nat
  | 0 => none
  | n + 1 =>
    match s.bestCode c b n with
    | some k => if s.permitted c n ∧ vsq (s.predict c b n).1 < vsq (s.predict c b k).1 then some n else some k
    | none => if s.permitted c n then some n else none

/-- A minimum-pulse act (R197, R203). -/
def State.minpAct (s : State) (c : Nat) : State := (s.inc (rBND_CNT_MINP c)).set1 (fBND_EVENTS_MINP c)

/-- R203: the leg changes refused at a tick; each counts once, when its wait begins. -/
def State.noteRefused (s : State) (c : Nat) (l : List (Nat × Nat)) : State :=
  let was := (s.bndC c).refused
  let s := s.forEach (fun s y => if was.contains y then s else s.minpAct c) l
  s.modBnd c (fun x => { x with refused := l })

/-- The list without repeats. -/
def once : List (Nat × Nat) → List (Nat × Nat)
  | [] => []
  | x :: l => if l.contains x then once l else x :: once l

/-- The state of R200, with its counters. -/
def State.choose (s : State) (c : Nat) (b : BandIn) : State × Option Nat :=
  let good := fun k => s.permitted c k && s.qualifies c b k
  let l := s.candidates c b
  let early := (l.takeWhile (fun k => !good k)).filter (fun k => s.qualifies c b k && s.stepOk c k)
  let t := s.noteRefused c (once (early.flatMap (fun k => s.tooSoon c k)))
  match l.find? good with
  | some k => (t, some k)
  | none => ((t.inc (rBND_CNT_FALLBACK c)).set1 (fBND_EVENTS_FALLBACK c), s.bestCode c b (codeCount (s.topo c)))

/-- The records of a decision: each leg whose level changes, 40 ns after the tick. -/
def State.sendCode (s : State) (c code : Nat) : State :=
  let at_ := s.now + 40 * nsU
  let ch := s.changes c code
  let s := s.forEach (fun s (lv, j) =>
    if ch.contains (j, lv) then s.sendLevel c j lv at_
    else if (s.bndC c).code = 0 then s.modBnd c (fun x => { x with level := x.level.put 0 j (lv + 1), since := x.since.put 0 j (min (x.since.at 0 j) s.now) })
    else s)
    (codeLevels (s.topo c) code).zipIdx
  s.modBnd c (fun x => { x with code := code + 1 })

/-- R204: shadows for every carrier record sent and not yet fired; the computed edges are withdrawn. -/
def State.shadows (s : State) (c : Nat) : State :=
  let x := s.bndC c
  let s := s.forEach (fun s e =>
    match x.level.at 0 e.leg with
    | 0 => s
    | lv + 1 => match (s.bLegs c)[e.leg]? with
      | some n => s.sendLeg n (levelCode (topo3L (s.topo c)) lv) e.at_
      | none => s) (x.sent.filter (fun e => s.now < e.at_))
  s.modBnd c (fun x => { x with edges := [], sent := [], owed := false })

/-- A BAND decision at a tick; `first` forces one and sends the shadows. -/
def State.bandDecide (s : State) (c : Nat) (b : BandIn) (h : Rat) (first : Bool) : State :=
  if ¬ first ∧ s.inBand c b h ∧ (s.bndC c).code ≠ 0 then s.modBnd c (fun x => { x with refused := [] })
  else
    let x := s.choose c b
    let s := match x.2 with
      | some k => x.1.sendCode c k
      | none => x.1
    if first then s.shadows c else s

/-! ### The tick -/

/-- R204: entry to OVERRIDE; `count` on a new one (R206). -/
def State.override (s : State) (c : Nat) (b : BandIn) (count : Bool) : State :=
  let x := s.bndC c
  let old := x.ovrTimes.filter (fun t => s.now - t < secU)
  let s := s.setBnd c { x with ovrAt := s.now, ovrTimes := if count then s.now :: old else old }
  let s := s.setBst c bOVERRIDE
  let s := if count then (s.inc (rBND_CNT_OVR c)).set1 (fBND_EVENTS_OVERRIDE c) else s
  let s := if count ∧ old.length = 100 then (s.set1 (fBND_EVENTS_CHATTER c)).raise 0x0701 c else s
  s.bandDecide c b (s.fld (fBND_BANDS_H_CAR c) : Rat) true

/-- The live values of the tick: reference, estimate, voltages, angle and limit (R213). -/
def State.bShow (s : State) (c : Nat) : State :=
  let r := s.bRef c
  let i := s.bEstDq c s.now
  let a := s.bAngle c s.now
  let s := s.wrN (rBND_IREF c) (q15 r.2.1 * 65536 + q15 r.1)
  let s := s.wrN (rBND_IEST c) (fieldR i.2 * 65536 + fieldR i.1)
  let s := s.wrN (rBND_VDC c) (q15 (satQ15 (s.bDnp c)) * 65536 + q15 (s.bVdc c))
  let w : Rat := if s.wBase c = 0 then 0 else a.2 / s.wBase c * 32768
  let s := s.wrN (rBND_ANGLE c) (fieldR w * 65536 + q15 (roundR (a.1 / piQ * 32768)))
  let s := s.wrN (rBND_ILIM_RT c) ((s.bndC c).limit.getD 0 * 65536 + s.bLimit c)
  s.setB (fBND_STATUS_ILIM_ACTIVE c) r.2.2

/-- The errors at the present tick. -/
def State.bandIn (s : State) (c : Nat) : BandIn :=
  let est := s.bEst c s.now
  let ref := turn (s.bAngle c s.now).1 (s.bRefV c)
  { e := vsub ref est.1, exy := vscale (-1) est.2, i := est.1, ixy := est.2 }

/-! ### CARRIER (R194–R198) -/

/-- Gains of the active bank. -/
def State.bKp (s : State) (c : Nat) : Rat :=
  ((if s.on (fBND_STATUS_BANK c) then s.fld (fBND_GAIN_B_KP c) else s.fld (fBND_GAIN_A_KP c)) : Nat) / 4096
def State.bKi (s : State) (c : Nat) : Rat :=
  ((if s.on (fBND_STATUS_BANK c) then s.fld (fBND_GAIN_B_KI c) else s.fld (fBND_GAIN_A_KI c)) : Nat) / 4096

/-- R195: the feed-forward, in Q1.15 steps. -/
def State.bVff (s : State) (c t : Nat) (i : Rat × Rat) : Rat × Rat :=
  let w := (s.bAngle c t).2
  (s.puV c (-w * s.lSig c * s.amps c i.2), s.puV c (w * s.lSig c * s.amps c i.1 + w * s.psiT c))

/-- R210: Δid after one update with the modulation depth `m`. -/
def State.fwUpdate (s : State) (c : Nat) (m : Rat) : State :=
  if ¬ s.on (fBND_CFG_FW_EN c) then s
  else
    let d : Rat := (s.fldI ⟨rBND_FW_DID c, 15, 0⟩ : Rat)
    let k : Rat := (s.fld (fBND_FW2_K_FW c) : Rat) / 32768
    let m0 : Rat := (s.fld (fBND_FW_M_FW c) : Rat) / 32768
    let lo : Rat := ((s.fldI (fBND_FW_ID_FW_MIN c) - s.idMtpa c : Int) : Rat)
    let v := clampR lo 0 (d - k * (m - m0) * 32768)
    let s := s.wrN (rBND_FW_DID c) (fieldR v)
    s.setB (fBND_STATUS_FW_ACTIVE c) (roundR v != 0)

/-- R210: every 10 µs in the running states other than CARRIER, with the mean applied voltage of those 10 µs. -/
def fieldWeakeningUpdate (s : State) (c : Nat) : State :=
  if s.bRun c ∧ s.bst c ≠ bCARRIER ∧ s.bVdc c ≠ 0 then
    s.fwUpdate c (sqrtQ (vsq (s.meanVolt c (s.now - 10 * usU) s.now)) / ((s.bVdc c : Rat) / sqrt3))
  else s

def execFieldWeakeningUpdate (c : Fin 4) (s : State) : Outcome State Fault Refusal := .next (s.lit (fieldWeakeningUpdate s c.val))

/-- R195: the voltage limit is reached or left. -/
def State.noteVsat (s : State) (c : Nat) (sat : Bool) : State :=
  let s := s.setB (fBND_STATUS_VSAT c) sat
  if sat then (s.set1 (fBND_EVENTS_VSAT c)).raiseSec 0x0709 c else s

/-- R195 for one axis: the integrator after a sample. -/
def nextInt (i ki e v : Rat) (clip hold : Bool) : Rat := if hold || (clip && decide (0 < e * v)) then i else i + ki * e

/-- The output of the dq laws for error `e` and estimate `i` at `t`, before the limit (R195). -/
def State.piOut (s : State) (c t : Nat) (e i : Rat × Rat) : Rat × Rat :=
  vadd (vadd (vscale (s.bKp c) e) ((s.bndC c).intD, (s.bndC c).intQ)) (s.bVff c t i)

/-- R195: a vector limited to radius V_dc/√3 with its angle kept, and whether the limit acts. -/
def State.limitV (s : State) (c : Nat) (v0 : Rat × Rat) : (Rat × Rat) × Bool :=
  let r := (s.bVdc c : Rat) / sqrt3
  if r * r < vsq v0 then (vscale (r / sqrtQ (vsq v0)) v0, true) else (v0, false)

/-- R195: the dq laws at a sampling instant whose result takes effect at `t1`, with the estimate predicted for it (R194): the limited
voltage. -/
def State.piLaw (s : State) (c t1 : Nat) : State × (Rat × Rat) :=
  let i := s.bEstDq c t1
  let e := vsub (s.bRefV c) i
  let x := s.bndC c
  let v0 := s.piOut c t1 e i
  let r := (s.bVdc c : Rat) / sqrt3
  let v := (s.limitV c v0).1
  let clip := (s.limitV c v0).2
  let hold := s.bTripped c
  let s := s.setBnd c { x with intD := nextInt x.intD (s.bKi c) e.1 v0.1 clip hold, intQ := nextInt x.intQ (s.bKi c) e.2 v0.2 clip hold }
  let s := (s.wrN (rBND_VREF c) (fieldR v.2 * 65536 + fieldR v.1)).noteVsat c clip
  (if r = 0 then s else s.fwUpdate c (sqrtQ (vsq v) / r), v)

/-- R196: leg references of a set from its αβ voltage, with min–max injection. -/
def injected (v : Rat × Rat) : List Rat :=
  let l := axes v
  let m := (l.foldl max v.1 + l.foldl min v.1) / 2
  l.map (fun x => x - m)

/-- R195, R196: the leg references of the cell for an applied dq voltage at angle `th`. -/
def State.legRefs (s : State) (c : Nat) (v : Rat × Rat) (th : Rat) : List Rat :=
  let ab := turn th v
  if topo6 (s.topo c) then
    let k : Rat := (s.fld ⟨rBND_XY c, 15, 0⟩ : Rat) / 4096
    let xy := vscale (-k) (s.bEst c s.now).2
    injected (vadd ab xy) ++ injected (turn (-(s.setDisp c)) (vsub ab xy))
  else injected ab

/-- R196: the neutral-point term o of a set's references r, keeping |r| ≤ 1 on every leg. -/
def State.npOffset (s : State) (c : Nat) (l : List Rat) : Rat :=
  let i := s.bEstDq c s.now
  let vd := sgn16 (s.rdN (rBND_VREF c))
  let vq := sgn16 (s.rdN (rBND_VREF c) / 65536)
  let p : Rat := (vd : Rat) * i.1 + (vq : Rat) * i.2
  let sg : Rat := if 0 < p then 1 else if p < 0 then -1 else 0
  let o := -((s.fld (fBND_MISC_NP_GAIN c) : Rat) / 4096) * ((s.bDnp c : Rat) / 32768) * sg
  let hi := l.foldl max (-1)
  let lo := l.foldl min 1
  clampR (-1 - lo) (1 - hi) o

/-- Per leg the level it uses otherwise, the level of its duty, and the duty (R196): the duty of a two-level leg is that of P, the duty of a
three-level leg that of P for r ≥ 0 and that of N below. -/
def State.duties (s : State) (c : Nat) (refs : List Rat) : List (Nat × Nat × Rat) :=
  let vdc : Rat := (s.bVdc c : Rat)
  if topo3L (s.topo c) then
    let rs := refs.map (fun u => if vdc = 0 then 0 else u / (vdc / 2))
    let o1 := s.npOffset c (rs.take 3)
    let o2 := s.npOffset c (rs.drop 3)
    rs.zipIdx.map (fun (r, j) =>
      let r := clampR (-1) 1 (r + if j < 3 then o1 else o2)
      if 0 ≤ r then (1, 2, r) else (1, 0, -r))
  else refs.map (fun u => (0, 2, clampR 0 1 (1 / 2 + if vdc = 0 then 0 else u / vdc)))

/-- R197: the length of one state interval within a half period of `len` units after the minimum-pulse rule, and whether it acted. -/
def minPulse (a tm : Rat) : Rat × Bool :=
  if a = 0 then (0, false) else if a < tm / 4 then (0, true) else if a < tm / 2 then (tm / 2, true) else (a, false)

/-- R196, R197: the edges of leg `j` in one half period from `t`: `first` for `a` units, then `second`. -/
def halfEdges (j t : Nat) (len tm a : Rat) (first second : Nat) : List BndEdge × Bool :=
  let b := len - a
  let ma := minPulse a tm
  let mb := minPulse b tm
  if ma.1 = 0 then ([⟨t, j, second⟩], ma.2)
  else if mb.1 = 0 then ([⟨t, j, first⟩], mb.2)
  else
    let a' := if ma.2 then ma.1 else if mb.2 then len - mb.1 else a
    ([⟨t, j, first⟩, ⟨t + (roundR a').toNat, j, second⟩], ma.2 || mb.2)

/-- The edges of one half period (or sawtooth period) for every leg; `rising` from a zero of a triangular carrier. -/
def State.periodEdges (s : State) (c t : Nat) (len : Rat) (rising : Bool) (ds : List (Nat × Nat × Rat)) : State :=
  let tm : Rat := ((s.fld (fBND_TIMING_T_MINP c) * 2560 : Nat) : Rat)
  let rs := ds.zipIdx.map (fun (d, j) =>
    if rising then halfEdges j t len tm ((1 - d.2.2) * len) d.1 d.2.1 else halfEdges j t len tm (d.2.2 * len) d.2.1 d.1)
  let s := s.forEach (fun s r => if r.2 then s.minpAct c else s) rs
  s.modBnd c (fun x => { x with edges := x.edges ++ rs.flatMap (·.1) })

/-- R194, R196: the edges of the voltage `v` from the carrier instant `t1` (a peak when `peak`) to the next sampling instant.  With `DUAL_UPD` = 0
on a triangular carrier the duties of the first half period hold in the second (DEDUCED, log 80). -/
def State.applyVolt (s : State) (c k t1 : Nat) (peak : Bool) (v : Rat × Rat) : State :=
  let per := 4 * s.carP k
  let tri := s.triangular k
  let half : Rat := (per : Rat) / 2
  let a := s.bAngle c t1
  let ds := s.duties c (s.legRefs c v (a.1 + a.2 * ((if tri then half else (per : Rat)) / 2) / 256000000000))
  if ¬ tri then s.periodEdges c t1 per false ds
  else if s.on (fBND_CFG_DUAL_UPD c) then s.periodEdges c t1 half (!peak) ds
  else (s.periodEdges c t1 half true ds).periodEdges c (t1 + per / 2) half false ds

/-- R194–R197: the sample at a carrier instant `t` (zero, or peak when `peak`). -/
def State.carrierSample (s : State) (c k t : Nat) (peak : Bool) : State :=
  let per := 4 * s.carP k
  let dual := s.triangular k && s.on (fBND_CFG_DUAL_UPD c)
  let t1 := if dual then t + per / 2 else t + per
  let r := s.piLaw c t1
  r.1.applyVolt c k t1 (dual && !peak) r.2

/-- R205: the zero `t` of carrier `k` that ends RESYNC.  The integrators are preset from the mean voltage applied over the half carrier period
before it; they hold while a leg is CUT or LATCHED (R208).  The first carrier edges follow from this zero. -/
def State.preset (s : State) (c k t : Nat) : State :=
  let i := s.bEstDq c s.now
  let e := vsub (s.bRefV c) i
  let ff := s.bVff c s.now i
  let m := s.meanVolt c (t - 2 * s.carP k) t
  let s := if s.bTripped c then s
    else s.modBnd c (fun x => { x with intD := m.1 - s.bKp c * e.1 - ff.1, intQ := m.2 - s.bKp c * e.2 - ff.2 })
  s.applyVolt c k t false (s.limitV c (s.piOut c s.now e i)).1

/-- A carrier instant at one regulator (R193, R194, R205). -/
def State.bndInstant (s : State) (c k t : Nat) (peak : Bool) : State :=
  let s := s.modBnd c (fun x => { x with carLost := false })
  if s.bst c = bCARRIER then
    if peak ∧ ¬ s.on (fBND_CFG_DUAL_UPD c) then s else s.carrierSample c k t peak
  else if peak then s
  else if s.bst c = bRESYNC then
    (((s.modBnd c (fun x => { x with code := 0, refused := [] })).setBst c bCARRIER).preset c k t).carrierSample c k t false
  else if s.bst c = bIDLE ∧ (s.bndC c).waitZero then
    ((s.modBnd c (fun x => { x with waitZero := false, intD := 0, intQ := 0 })).setBst c bCARRIER).carrierSample c k t false
  else s

/-- R156: a zero at `t` of carrier `k` is a period start of the legs bound to it. -/
def State.legZeros (s : State) (k t : Nat) (peak : Bool) : State :=
  if peak then s
  else s.each (fun s n => if s.on (fEDG_LEG_CFG_CAR_EN n) ∧ s.fld (fEDG_LEG_CFG_CAR n) = k then
      s.modLeg n (fun q => { q with zeroDue := some t }) else s) 12

/-- R144: CARRIER_INSTANT: the carrier passes it to the regulators of the legs bound to it. -/
def carrierInstant (s : State) (k : Nat) (peak : Bool) : State :=
  if ¬ s.carrierDue k peak then s
  else
    let t := if peak then s.carZero k - 2 * s.carP k else s.carZero k
    let cells := (List.range 4).filter (fun c => s.bCar c == some k)
    ((s.carrierPass k peak).legZeros k t peak).forEach (fun s c => s.bndInstant c k t peak) cells

def execCarrierInstant (c : Fin 8) (peak : Bool) (s : State) : Outcome State Fault Refusal := .next (s.lit (carrierInstant s c.val peak))

/-- The earliest edge of a list. -/
def earliestEdge : List BndEdge → Option BndEdge
  | [] => none
  | e :: t => match earliestEdge t with
    | some f => if f.at_ < e.at_ then some f else some e
    | none => some e

/-- The list without the first edge equal to `e`. -/
def dropEdge (e : BndEdge) : List BndEdge → List BndEdge
  | [] => []
  | x :: t => if x = e then t else x :: dropEdge e t

/-- The level the `j`-th leg of a cell goes to: that of the last record sent while it has not fired, else the leg's target. -/
def State.goal (s : State) (c j : Nat) : Option Nat :=
  let x := s.bndC c
  if s.now < x.since.at 0 j ∧ x.level.at 0 j ≠ 0 then some (x.level.at 0 j - 1)
  else match (s.bLegs c)[j]? with
    | some n => patLevel (s.legType n) (s.target n)
    | none => none

/-- R198: the earliest computed edge is sent; one that changes no level needs no record. -/
def edgeRecordIssue (s : State) (c : Nat) : State :=
  match earliestEdge (s.bndC c).edges with
  | some e =>
    let same := s.goal c e.leg = some e.level
    let s := s.modBnd c (fun x => { x with edges := dropEdge e x.edges })
    if same then s
    else (s.sendLevel c e.leg e.level e.at_).modBnd c (fun x => { x with sent := e :: x.sent.filter (fun f => s.now < f.at_) })
  | none => s

def execEdgeRecordIssue (c : Fin 4) (s : State) : Outcome State Fault Refusal := .next (s.lit (edgeRecordIssue s c.val))

/-! ### Records (R213) -/

/-- ENABLE, byte 0 = 1 or 0 (R193). -/
def State.bEnable (s : State) (c : Nat) (v : Bool) : State :=
  let st := s.bst c
  if v then
    if st ≠ bIDLE ∨ (s.bndC c).waitZero then s
    else if s.bmode c = 1 then (s.setBst c bBAND).modBnd c (fun x => { x with wait := true, code := 0, sent := [], edges := [] })
    else s.modBnd c (fun x => { x with waitZero := true, intD := 0, intQ := 0, edges := [], sent := [] })
  else if s.bRun c then s.bDisable c
  else if st = bIDLE then s.modBnd c (fun x => { x with waitZero := false })
  else if st = bHALTED ∧ ¬ s.bCause c then (s.setBst c bIDLE).setF (fBND_STATUS_CAUSE c) 0
  else s

/-- SET_MODE (R193). -/
def State.bSetMode (s : State) (c m : Nat) : State :=
  let st := s.bst c
  let s := s.setF (fBND_STATUS_MODE c) m
  if m = 1 ∧ (st = bCARRIER ∨ st = bOVERRIDE ∨ st = bRESYNC) then (s.setBst c bBAND).modBnd c (fun x => { x with owed := true })
  else if m ≠ 1 ∧ st = bBAND then (s.setBst c bRESYNC).modBnd c (fun x => { x with wait := false })
  else s

/-- The effect of a record at the tick (R213): SET_CURRENT, SET_MODE, SWAP_BANK, ENABLE, SET_ANGLE, SET_LIMIT, SET_TMAG. -/
def State.bAct (s : State) (c : Nat) (r : BndRec) : State :=
  let p := r.p
  match r.q, r.op with
  | 0, 0x10 =>
    ((s.lrEnd c 5 none).modBnd c (fun x => { x with form := p.b 0, ia := sgn16 (p.h 1), ib := sgn16 (p.h 3) })).lrOpen c r.launch
      (p.b 0) (sgn16 (p.h 1)) (sgn16 (p.h 3)) (r.id, r.iq)
  | 0, 0x11 => s.bSetMode c (p.b 0)
  | 0, 0x12 => s.setF (fBND_STATUS_BANK c) (p.b 0)
  | 0, 0x13 => s.bEnable c (p.b 0 == 1)
  | 1, _ => s.modBnd c (fun x => { x with angle := some (p.from 0 % 2 ^ 40, p.h 5, sgn16 (p.h 7)), angLost := false })
  | 2, 0x10 => s.modBnd c (fun x => { x with limit := some (p.h 0) })
  | _, _ => ((s.wrN (rBND_TMAG_RT c) (p.h 0)).clr (fBND_STATUS_TMAG_STALE c)).modBnd c (fun x => { x with tmagSet := true })

/-- R213: the records fired since the last tick take effect. -/
def State.bActs (s : State) (c : Nat) : State :=
  let l := (s.bndC c).recs
  (s.modBnd c (fun x => { x with recs := [] })).forEach (fun s r => s.bAct c r) l

/-- The last instant for which every fast-path value of a cell speaks. -/
def State.fastFrom (s : State) (c : Nat) : Nat :=
  ((List.range (topoN (s.topo c))).filterMap (fun p => (s.fastIn c p).map (·.2))).foldl max 0

/-- R213: a record of queue `k` of regulator `c` fires: it waits for the next tick; in OFF it has no effect.  With it go its launch and the
estimate at launch, for a record fired late the earliest that the present values give (R214; DEDUCED, log 81). -/
def State.bndRecord (s : State) (c k op : Nat) (p : Quad) : State :=
  let q := 0x840 + 16 * c + k
  let t0 := s.instantOf (s.launchOf q op p)
  let s := s.consume q op p
  if s.bst c = bOFF ∨ ¬ bndAccepts k op p then s
  else
    let i := s.bEstDq c (min s.now (max t0 (s.fastFrom c)))
    s.modBnd c (fun x => { x with recs := x.recs ++ [⟨k, op, p, t0, i.1, i.2⟩] })

/-- SET_CURRENT. -/
def setCurrent (s : State) (c : Nat) (p : Quad) : State := s.bndRecord c 0 0x10 p

def execSetCurrent (c : Fin 4) (p : Quad) (s : State) : Outcome State Fault Refusal := .next (s.lit (setCurrent s c.val p))

/-- SET_MODE (R193). -/
def bndSetMode (s : State) (c : Nat) (p : Quad) : State := s.bndRecord c 0 0x11 p

def execBndSetMode (c : Fin 4) (p : Quad) (s : State) : Outcome State Fault Refusal := .next (s.lit (bndSetMode s c.val p))

/-- SWAP_BANK (R195). -/
def bndSwapBank (s : State) (c : Nat) (p : Quad) : State := s.bndRecord c 0 0x12 p

def execBndSwapBank (c : Fin 4) (p : Quad) (s : State) : Outcome State Fault Refusal := .next (s.lit (bndSwapBank s c.val p))

/-- ENABLE (R193). -/
def bndEnable (s : State) (c : Nat) (p : Quad) : State := s.bndRecord c 0 0x13 p

def execBndEnable (c : Fin 4) (p : Quad) (s : State) : Outcome State Fault Refusal := .next (s.lit (bndEnable s c.val p))

/-- SET_ANGLE (R187). -/
def setAngle (s : State) (c : Nat) (p : Quad) : State := s.bndRecord c 1 0x10 p

def execSetAngle (c : Fin 4) (p : Quad) (s : State) : Outcome State Fault Refusal := .next (s.lit (setAngle s c.val p))

/-- SET_LIMIT (R212). -/
def bndSetLimit (s : State) (c : Nat) (p : Quad) : State := s.bndRecord c 2 0x10 p

def execBndSetLimit (c : Fin 4) (p : Quad) (s : State) : Outcome State Fault Refusal := .next (s.lit (bndSetLimit s c.val p))

/-- SET_TMAG (R211). -/
def setTmag (s : State) (c : Nat) (p : Quad) : State := s.bndRecord c 2 0x11 p

def execSetTmag (c : Fin 4) (p : Quad) (s : State) : Outcome State Fault Refusal := .next (s.lit (setTmag s c.val p))

/-! ### The tick -/

/-- R189: one tick: records, losses that stand, displays, then the comparisons. -/
def regulatorTick (s : State) (c : Nat) : State :=
  if s.bst c = bOFF then s
  else
    let s := (s.bActs c).bStanding c
    let b := s.bandIn c
    let s := (s.bShow c).lrTick c (vsq b.e)
    let hov : Rat := (s.fld (fBND_BANDS_H_OVR c) : Rat)
    let hcar : Rat := (s.fld (fBND_BANDS_H_CAR c) : Rat)
    let far := s.bmode c == 2 && decide (hov * hov < vsq b.e)
    let st := s.bst c
    if st = bCARRIER then (if far then s.override c b true else s)
    else if st = bOVERRIDE then
      if vsq b.e ≤ hcar * hcar ∧ (s.bndC c).ovrAt + s.fld (fBND_TIMING_T_MINP c) * 2560 ≤ s.now then s.setBst c bRESYNC
      else s.bandDecide c b hcar false
    else if st = bRESYNC then (if far then s.override c b false else s.bandDecide c b hcar false)
    else if st = bBAND then
      if (s.bndC c).wait then s.modBnd c (fun x => { x with wait := false })
      else s.bandDecide c b ((s.rdN (rBND_HBAND c) % 65536 : Nat) : Rat) (s.bndC c).owed
    else s

def execRegulatorTick (c : Fin 4) (s : State) : Outcome State Fault Refusal := .next (s.lit (regulatorTick s c.val))

/-- R211: no SET_TMAG for `TMAG_TMO` seconds. -/
def tmagTimeout (s : State) (c : Nat) : State :=
  if s.bst c = bOFF then s else ((s.set1 (fBND_STATUS_TMAG_STALE c)).set1 (fBND_EVENTS_TMAG_STALE c)).raise 0x0707 c

def execTmagTimeout (c : Fin 4) (s : State) : Outcome State Fault Refusal := .next (s.lit (tmagTimeout s c.val))

/-! ### Windows and counters -/

/-- The switches of the cell's legs. -/
def State.bSwitches (s : State) (c : Nat) : Nat := ((s.bLegs c).map s.legN).foldl (· + ·) 0

/-- The turn-ons of the cell's switches since Pitch. -/
def State.bOns (s : State) (c : Nat) : Nat :=
  ((s.bLegs c).flatMap (fun n => (List.range (s.legN n)).map (fun k => (s.out (s.legBase n + k)).ons))).foldl (· + ·) 0

/-- R203: f_meas in 10 Hz units from the turn-ons of the millisecond that has passed, and the adaptive band. -/
def bandAdapt (s : State) (c : Nat) : State :=
  let n := s.bSwitches c
  if s.bst c = bOFF ∨ n = 0 then s
  else
    let turnOns := s.bOns c - (s.bndC c).onsBase
    let s := s.modBnd c (fun x => { x with onsBase := s.bOns c })
    let f : Rat := ((turnOns * 100 : Nat) : Rat) / (n : Rat)
    let h := s.rdN (rBND_HBAND c) % 65536
    let tgt : Rat := (s.fld (fBND_ADAPT2_F_TGT c) : Rat)
    let step := roundFree h 16
    let lo : Int := s.fld (fBND_ADAPT_H_MIN c)
    let hi : Int := s.fld (fBND_ADAPT_H_MAX c)
    let h' : Int := if ¬ s.on (fBND_CFG_ADAPT_EN c) then lo
      else if s.bTripped c then h
      else clamp lo hi (if 103 / 100 * tgt < f then h + step else if f < 97 / 100 * tgt then h - step else h)
    s.wrN (rBND_HBAND c) (min (roundR f).toNat 65535 * 65536 + h'.toNat)

def execBandAdapt (c : Fin 4) (s : State) : Outcome State Fault Refusal := .next (s.lit (bandAdapt s c.val))

/-- R191: the RMS of the residuals of the millisecond that has passed, of all phases together, against `RES_LIM` / 256 per unit. -/
def residualWindow (s : State) (c : Nat) : State :=
  let x := s.bndC c
  if s.bst c = bOFF ∨ x.resN = 0 then s
  else
    let rms := min (roundR (sqrtQ ((x.resSum : Rat) / (x.resN : Rat)))).toNat 65535
    let s := (s.setBnd c { x with resSum := 0, resN := 0 }).wrN (rBND_PRED_RES c) rms
    if s.fld (fBND_MISC_RES_LIM c) * 128 < rms then (s.set1 (fBND_EVENTS_RESIDUAL c)).raiseSec 0x0704 c else s

def execResidualWindow (c : Fin 4) (s : State) : Outcome State Fault Refusal := .next (s.lit (residualWindow s c.val))

/-- `BND_CMD` 0x0001. -/
def bndClearCounters (s : State) (c : Nat) : State :=
  s.cmd (rBND_CMD c) 1 (fun s =>
    (stDONE, s.zero [rBND_CNT_STEPS c, rBND_CNT_LR_OVER c, rBND_CNT_OVR c, rBND_CNT_MINP c, rBND_CNT_FALLBACK c, rBND_LR_MAX c]))

def execBndClearCounters (c : Fin 4) (s : State) : Outcome State Fault Refusal := .next (s.lit (bndClearCounters s c.val))

end Sys2Proof.Machine
end

