-- ==== Sys2Proof/Machine/Binary32.lean ====
section
/-! DEFINITION. Binary32 (R308–R310): every result is the exact value rounded once to nearest, ties to even, with gradual underflow and
tininess detected after rounding.  Each operation answers the result word and the flags it sets. -/
namespace Sys2Proof.Machine

/-- Flag masks of `FPSTAT` (R308). -/
def flNV : Nat := 16
def flDZ : Nat := 8
def flOF : Nat := 4
def flUF : Nat := 2
def flNX : Nat := 1

/-- Every NaN result (R309). -/
def fNaN : Word := 0x7FC00000

def fSign (x : Word) : Bool := x.msb
def fExp (x : Word) : Nat := x.toNat / 8388608 % 256
def fFrac (x : Word) : Nat := x.toNat % 8388608
def fIsNaN (x : Word) : Bool := fExp x == 255 && fFrac x != 0
def fIsSNaN (x : Word) : Bool := fIsNaN x && fFrac x < 4194304
def fIsInf (x : Word) : Bool := fExp x == 255 && fFrac x == 0
def fIsZero (x : Word) : Bool := fExp x == 0 && fFrac x == 0

/-- A finite value is mantissa × 2^exponent. -/
def fMant (x : Word) : Nat := if fExp x = 0 then fFrac x else fFrac x + 8388608
def fPow (x : Word) : Int := if fExp x = 0 then -149 else (fExp x : Int) - 150

def fInf (sg : Bool) : Word := if sg then 0xFF800000 else 0x7F800000
def fZero (sg : Bool) : Word := if sg then 0x80000000 else 0

/-- A sign and a magnitude word. -/
def fWord (sg : Bool) (m : Nat) : Word := BitVec.ofNat 32 (if sg then m + 2147483648 else m)

/-- `m` × 2^e to a multiple of 2^q, nearest, ties to even: the multiple, and whether it is inexact. -/
def rneAt (m : Nat) (e q : Int) : Nat × Bool :=
  if q ≤ e then (m * 2 ^ (e - q).toNat, false)
  else
    let d := 2 ^ (q - e).toNat
    let lo := m / d
    let r := m % d
    (if 2 * r < d then lo else if d < 2 * r then lo + 1 else lo + lo % 2, r != 0)

/-- The magnitude word of n × 2^q, q the weight of the last place of its binade, n at most 2²⁴; none when it overflows. -/
def packMag (n : Nat) (q : Int) : Option Nat :=
  if n < 8388608 then some n
  else
    let n' := if n = 16777216 then 8388608 else n
    let q' := if n = 16777216 then q + 1 else q
    let ex := (q' + 150).toNat
    if 255 ≤ ex then none else some (ex * 8388608 + (n' - 8388608))

/-- The value ± m × 2^e, m positive, rounded (R308). -/
def fRound (sg : Bool) (m : Nat) (e : Int) : Word × Nat :=
  let top : Int := (Nat.log2 m : Int) + e
  let q := max (top - 23) (-149)
  let r := rneAt m e q
  -- tiny after rounding: the 24-bit rounding with unbounded exponent lies below 2^-126
  let r24 := rneAt m e (top - 23)
  let tiny := decide ((if r24.1 = 16777216 then top + 1 else top) < -126)
  match packMag r.1 q with
  | none => (fInf sg, flOF + flNX)
  | some w => (fWord sg w, (if r.2 then flNX else 0) + (if r.2 && tiny then flUF else 0))

/-- A signed dyadic value rounded; an exact zero takes the sign `zsg`. -/
def fRoundI (v : Int) (e : Int) (zsg : Bool) : Word × Nat :=
  if v = 0 then (fZero zsg, 0) else fRound (decide (v < 0)) v.natAbs e

/-- Signed mantissa. -/
def fInt (x : Word) : Int := if fSign x then -(fMant x : Int) else (fMant x : Int)

/-- NV when a listed operand is a signalling NaN. -/
def fSig (l : List Word) : Nat := if l.any fIsSNaN then flNV else 0

/-- Two dyadic values added at the lesser exponent. -/
def addDy (a : Int) (ea : Int) (b : Int) (eb : Int) : Int × Int :=
  let e := min ea eb
  (a * 2 ^ (ea - e).toNat + b * 2 ^ (eb - e).toNat, e)

/-- FADD. -/
def fAdd (a b : Word) : Word × Nat :=
  if fIsNaN a || fIsNaN b then (fNaN, fSig [a, b])
  else if fIsInf a then (if fIsInf b && fSign a != fSign b then (fNaN, flNV) else (a, 0))
  else if fIsInf b then (b, 0)
  else
    let s := addDy (fInt a) (fPow a) (fInt b) (fPow b)
    fRoundI s.1 s.2 (fSign a && fSign b)

def fNegW (x : Word) : Word := x ^^^ 0x80000000
def fAbsW (x : Word) : Word := x &&& 0x7FFFFFFF

/-- FSUB. -/
def fSub (a b : Word) : Word × Nat := if fIsNaN b then (fNaN, fSig [a, b]) else fAdd a (fNegW b)

/-- FMUL. -/
def fMul (a b : Word) : Word × Nat :=
  let sg := fSign a != fSign b
  if fIsNaN a || fIsNaN b then (fNaN, fSig [a, b])
  else if (fIsInf a && fIsZero b) || (fIsZero a && fIsInf b) then (fNaN, flNV)
  else if fIsInf a || fIsInf b then (fInf sg, 0)
  else fRoundI (fInt a * fInt b) (fPow a + fPow b) sg

/-- FMA: a × b + c with one rounding. -/
def fFma (a b c : Word) : Word × Nat :=
  let sg := fSign a != fSign b
  let badMul := (fIsInf a && fIsZero b) || (fIsZero a && fIsInf b)
  if fIsNaN a || fIsNaN b || fIsNaN c then (fNaN, if badMul then flNV else fSig [a, b, c])
  else if badMul then (fNaN, flNV)
  else if fIsInf a || fIsInf b then (if fIsInf c && fSign c != sg then (fNaN, flNV) else (fInf sg, 0))
  else if fIsInf c then (c, 0)
  else
    let s := addDy (fInt a * fInt b) (fPow a + fPow b) (fInt c) (fPow c)
    fRoundI s.1 s.2 (sg && fSign c)

/-- FMS: a × b − c with one rounding. -/
def fFms (a b c : Word) : Word × Nat := if fIsNaN c then fFma a b c else fFma a b (fNegW c)

/-- FDIV. -/
def fDiv (a b : Word) : Word × Nat :=
  let sg := fSign a != fSign b
  if fIsNaN a || fIsNaN b then (fNaN, fSig [a, b])
  else if (fIsInf a && fIsInf b) || (fIsZero a && fIsZero b) then (fNaN, flNV)
  else if fIsInf a then (fInf sg, 0)
  else if fIsInf b then (fZero sg, 0)
  else if fIsZero b then (fInf sg, flDZ)
  else if fIsZero a then (fZero sg, 0)
  else
    -- 64 extra quotient bits, and a last bit that stands for the remainder
    let n := fMant a * 2 ^ 64
    let q := n / fMant b
    let st := if n % fMant b = 0 then 0 else 1
    fRound sg (2 * q + st) (fPow a - fPow b - 65)

/-- FSQRT. -/
def fSqrt (a : Word) : Word × Nat :=
  if fIsNaN a then (fNaN, fSig [a])
  else if fIsZero a then (a, 0)
  else if fSign a then (fNaN, flNV)
  else if fIsInf a then (a, 0)
  else
    let odd := (fPow a) % 2 != 0
    let m := (if odd then 2 * fMant a else fMant a) * 2 ^ 64
    let e := (if odd then fPow a - 1 else fPow a) - 64
    let r := isqrt m 48 0
    let st := if r * r = m then 0 else 1
    fRound false (2 * r + st) (e / 2 - 1)

/-- FSCALE: fa × 2^n, n clamped. -/
def fScale (a b : Word) : Word × Nat :=
  let n := clamp (-512) 511 b.toInt
  if fIsNaN a then (fNaN, fSig [a])
  else if fIsInf a || fIsZero a then (a, 0)
  else fRound (fSign a) (fMant a) (fPow a + n)

/-- Order of two values that are no NaN: −0 below +0. -/
def fKey (x : Word) : Int := if fSign x then -((x.toNat % 2147483648 : Nat) : Int) - 1 else (x.toNat : Int)

/-- FMIN: minimumNumber (R309). -/
def fMinN (a b : Word) : Word × Nat :=
  if fIsNaN a then (if fIsNaN b then fNaN else b, fSig [a, b])
  else if fIsNaN b then (a, fSig [a, b])
  else (if fKey b < fKey a then b else a, 0)

/-- FMAX: maximumNumber (R309). -/
def fMaxN (a b : Word) : Word × Nat :=
  if fIsNaN a then (if fIsNaN b then fNaN else b, fSig [a, b])
  else if fIsNaN b then (a, fSig [a, b])
  else (if fKey a < fKey b then b else a, 0)

/-- Comparison as a number, −0 equal to +0; for operands that are no NaN. -/
def fCmp (a b : Word) : Int :=
  let k := fun x => if fIsZero x then (0 : Int) else if fSign x then -((x.toNat % 2147483648 : Nat) : Int) else (x.toNat : Int)
  k a - k b

def bW (b : Bool) : Word := if b then 1 else 0

def fCeq (a b : Word) : Word × Nat := if fIsNaN a || fIsNaN b then (0, fSig [a, b]) else (bW (fCmp a b == 0), 0)
def fClt (a b : Word) : Word × Nat := if fIsNaN a || fIsNaN b then (0, flNV) else (bW (decide (fCmp a b < 0)), 0)
def fCle (a b : Word) : Word × Nat := if fIsNaN a || fIsNaN b then (0, flNV) else (bW (decide (fCmp a b ≤ 0)), 0)

/-- FCVT.S.W. -/
def fOfInt (a : Word) : Word × Nat := fRoundI a.toInt 0 false

/-- A finite value × 2^k rounded to an integer, nearest even, and whether inexact. -/
def fToInt (a : Word) (k : Int) : Int × Bool :=
  let r := rneAt (fMant a) (fPow a + k) 0
  (if fSign a then -(r.1 : Int) else (r.1 : Int), r.2)

/-- Conversion to an integer in `lo…hi` (R309). -/
def fCvt (a : Word) (k lo hi : Int) : Int × Nat :=
  if fIsNaN a then (0, flNV)
  else if fIsInf a then (if fSign a then lo else hi, flNV)
  else
    let r := fToInt a k
    if r.1 < lo then (lo, flNV) else if hi < r.1 then (hi, flNV) else (r.1, if r.2 then flNX else 0)

/-- FCVT.W.S. -/
def fToW (a : Word) : Word × Nat := let r := fCvt a 0 (-2147483648) 2147483647; (BitVec.ofInt 32 r.1, r.2)

/-- FCVT.S.Q15, exact: the low half of ra. -/
def fOfQ15 (a : Word) : Word × Nat := fRoundI (sgn16 a.toNat) (-15) false

/-- FCVT.Q15.S, the result sign-extended as ACCRD's is. -/
def fToQ15 (a : Word) : Word × Nat := let r := fCvt a 15 (-32768) 32767; (BitVec.ofInt 32 r.1, r.2)

/-- EXPX. -/
def fExpX (a : Word) : Int :=
  if fExp a = 255 then 128
  else if fIsZero a then -150
  else if fExp a = 0 then (Nat.log2 (fFrac a) : Int) - 149
  else (fExp a : Int) - 127

end Sys2Proof.Machine
end

