-- ==== Sys2Proof/Machine/FpIssue.lean ====
section
/-! DEFINITION. Issue in a field processor: what one operation asks for, the rules of a bundle (R299, R300), traps (R311, R312),
the sandbox (R314, R315), loops (R303) and the commit of a bundle's results. -/
namespace Sys2Proof.Machine

/-- The slots of R299. -/
inductive FpSlot where
  | m | l | s | b
deriving DecidableEq, Repr

/-- What an operation does beyond registers, accumulators and flags. -/
inductive FpAct where
  | none
  /-- A special register takes a value. -/
  | spr (n : Nat) (v : Word)
  /-- The high word of the Halyard time is captured. -/
  | capture (v : Word)
  | store (e : SbEnt)
  | deq (rd q a : Nat)
  | enq (rd : Nat) (r : Rec)
  | wspill (a : Nat)
  | wfill (a : Nat)
  | jump (t : Nat)
  | call (t : Nat)
  | ret
  | xret
  | loop (n : Nat) (last : Nat) (rot : Nat)
  | wait (rd : Nat)
deriving DecidableEq, Repr

/-- One operation at issue: slot, use of the floating-point unit, the physical registers and the SRAM words it reads, what it writes, the flags it sets,
the trap it meets (cause and data address), whether it must wait, whether the wait is for a buffered store, and whether it took a free
value. -/
structure OpRes where
  slot : FpSlot
  fpu : Bool
  reads : List (Option Nat)
  mem : List Nat
  regs : List (Option Nat × Word)
  accs : List (Nat × Int)
  flags : Nat
  trap : Option (Nat × Option Nat)
  stall : Bool
  fwd : Bool
  drew : Bool
  act : FpAct
deriving DecidableEq, Repr

/-- An operation that does nothing, in a slot. -/
def OpRes.idle (sl : FpSlot) : OpRes :=
  { slot := sl, fpu := false, reads := [], mem := [], regs := [], accs := [], flags := 0, trap := none, stall := false, fwd := false, drew := false, act := .none }

/-- An operation that raises a trap. -/
def OpRes.raising (sl : FpSlot) (cause : Nat) : OpRes := { OpRes.idle sl with trap := some (cause, none) }

/-! ### Modes and regions -/

def State.trapm (s : State) (f : Nat) : Bool := s.on (fFP_STATUS_TRAPM f)
def State.sbxm (s : State) (f : Nat) : Bool := s.on (fFP_STATUS_SBXM f)

/-- R314: the code region of the sandbox. -/
def State.inCode (s : State) (f a : Nat) : Bool :=
  s.on (fFP_CFG_SBX_EN f) && s.fld (fFP_SBX_CODE_CFIRST f) ≤ a / 256 && a / 256 ≤ s.fld (fFP_SBX_CODE_CLAST f)

/-- R314: bytes `a … a+n−1` lie in the data region. -/
def State.inData (s : State) (f a n : Nat) : Bool :=
  s.fld (fFP_SBX_DATA_DFIRST f) ≤ a / 256 && (a + n - 1) / 256 ≤ s.fld (fFP_SBX_DATA_DLAST f)

/-- Bytes in the inbox region (R293). -/
def inInbox (a n : Nat) : Bool := 0x1E000 ≤ a + n - 1 && a < 0x20000

/-! ### Halt and traps -/

/-- A processor halts (R292, R312, R313): every register and SRAM word is kept; records it was sending are not sent (R316). -/
def State.fpHalt (s : State) (f cause : Nat) : State :=
  let pc := (s.core f).pc
  let s := ((s.setF (fFP_STATUS_STATE f) fpHALTED).setF (fFP_HALT_CAUSE f) cause).setF (fFP_HALT_PC f) pc
  let s := (s.set1 (fFP_EVENTS_HALTED f)).modCore f (fun c => { c with bundle := [], stalled := false, enqs := [], haltAt := s.now })
  let s := s.raiseD 0x0901 f (BitVec.ofNat 64 (cause + pc % 65536 * 65536))
  { s with fp := { s.fp with owed := s.fp.owed ++ [f] } }

/-- The trap word of `XCAUSE`: cause and sandbox mode (R311). -/
def xcauseWord (cause : Nat) (sbx : Bool) : Word :=
  BitVec.ofNat 32 (cause + (if sbx then 2 ^ (8 + Config.xcauseBit % 24) else 0))

/-- The sandbox mode a word of `XCAUSE` holds. -/
def xcauseSbx (w : Word) : Bool := bit w.toNat (8 + Config.xcauseBit % 24)

/-- The counts and faults of the sandbox traps (R315). -/
def State.noteSbx (s : State) (f cause : Nat) : State :=
  let n := s.rdN (rFP_CNT_SBX f)
  if cause = 8 then ((s.wrN (rFP_CNT_SBX f) (min (n / 65536 + 1) 65535 * 65536 + n % 65536)).set1 (fFP_EVENTS_SBX_VIOL f)).raise 0x0909 f
  else if cause = 9 then ((s.wrN (rFP_CNT_SBX f) (n / 65536 * 65536 + min (n % 65536 + 1) 65535)).set1 (fFP_EVENTS_SBX_BUDGET f)).raise 0x090A f
  else s

/-- R311: trap entry, `ret` the address `XPC` saves; in trap mode a double fault (R312). -/
def State.fpTrapAt (s : State) (f cause : Nat) (addr : Option Nat) (ret : Nat) : State :=
  if s.trapm f then s.fpHalt f 1
  else
    let xa := (match addr with
      | some a => a
      | none => Config.freeAt s.free 0) % 131072
    let s := match addr with
      | some _ => s
      | none => { s with free := s.free + 1 }
    let wcur := s.fld (fFP_STATUS_WCUR f)
    let sbx := s.sbxm f
    let s := s.modCore f (fun c => { c with
      bundle := [], stalled := false, xpc := ret, xwin := wcur, xcause := xcauseWord cause sbx, xaddr := xa,
      pc := c.xvec + 64 * cause })
    let s := ((s.setF (fFP_STATUS_WCUR f) 15).set1 (fFP_STATUS_TRAPM f)).clr (fFP_STATUS_SBXM f)
    let s := ((s.wrN (rFP_TRAP f) cause).wrN (rFP_TRAP_PC f) (ret % 65536)).wrN (rFP_TRAP_ADDR f) xa
    ((s.inc (rFP_CNT_TRAPS f)).set1 (fFP_EVENTS_TRAP f)).noteSbx f cause

/-! ### The rules of a bundle -/

/-- Physical registers an operation writes, each once. -/
def OpRes.dests (o : OpRes) : List Nat :=
  let extra := match o.act with
    | .deq rd _ _ => [rd]
    | .enq rd _ => [rd]
    | .wait rd => [rd]
    | _ => []
  ((o.regs.filterMap Prod.fst) ++ (extra.filter (fun x => x != 0)).map (fun x => x - 1)).eraseDups

/-- R299. -/
def bundleOk (ops : List OpRes) : Bool :=
  let n := fun sl => (ops.filter (fun o => o.slot == sl)).length
  let ds := ops.flatMap OpRes.dests
  let as := ops.flatMap (fun o => o.accs.map Prod.fst)
  ops.length ≤ 6 && n .m ≤ 2 && n .l ≤ 2 && n .s ≤ 1 && n .b ≤ 1 && (ops.filter OpRes.fpu).length ≤ 1
    && ds.eraseDups.length == ds.length && as.eraseDups.length == as.length

/-- Registers whose value a DEQ or ENQ in progress still owes. -/
def FpCore.busy (c : FpCore) (p : Nat) : Bool := c.deqs.any (fun d => d.1 == p + 1) || c.enqs.any (fun d => d.1 == p + 1)

/-- Some operation needs a value that is not ready (R300). -/
def FpCore.notReady (c : FpCore) (ops : List OpRes) : Bool :=
  ops.any (fun o => o.reads.any (fun r => match r with
    | some p => c.busy p
    | none => false))

/-! ### Special registers (R298) -/

/-- Value of special register `n`, where it has one. -/
def State.sprRead (s : State) (f n : Nat) : Option Word :=
  let c := s.core f
  let lc := fun k => match c.loops.reverse[k]? with
    | some l => BitVec.ofNat 32 l.left
    | none => 0#32
  let ofN := fun (x : Nat) => some (BitVec.ofNat 32 x)
  match n with
  | 0x00 => some (s.rd (rFP_FPSTAT f))
  | 0x01 => ofN (s.fld (fFP_STATUS_WCUR f))
  | 0x02 => ofN (c.wold * 256 + s.fld (fFP_STATUS_WRES f))
  | 0x03 => ofN (s.fld (fFP_STATUS_QOFS f))
  | 0x04 => some (lc 0)
  | 0x05 => some (lc 1)
  | 0x06 => some c.cbase
  | 0x07 => some c.clen
  | 0x08 => ofN c.xpc
  | 0x09 => ofN c.xwin
  | 0x0A => some c.xcause
  | 0x0B => ofN c.xaddr
  | 0x0C => ofN c.xvec
  | 0x0D => ofN (s.fld (fFP_INBOX_INBOX_WR f))
  | 0x0E => ofN (s.fld (fFP_INBOX_INBOX_RD f))
  | 0x0F => ofN (Config.freeAt s.free (0x100 + f))
  | 0x10 => ofN (s.bridged .core % 2 ^ 32)
  | 0x11 => some c.htimeHi
  | 0x12 => ofN (s.fld (fFP_GEN_FGEN f))
  | 0x13 => ofN (Config.freeAt s.free (0x200 + f))
  | 0x14 => ofN (if c.sbxLeft = 0 then 0 else Config.freeAt s.free (0x300 + f) % (c.sbxLeft + 1))
  | 0x15 => ofN (f + s.fld (fFP_STATUS_CELL f) * 256 + s.fld (fFP_STATUS_ROLE f) % 2 * 4096)
  | _ => none

/-- The special registers whose reading is a free value: cycles are not kept (CYCLE, KICK, SBX_LEFT). -/
def sprFree (n : Nat) : Bool := n == 0x0F || n == 0x13 || n == 0x14

/-- The write access of a special register: 0 all, 1 priv, 2 trap, 3 none. -/
def sprAccess (n : Nat) : Nat :=
  match n with
  | 0x00 => 0
  | 0x02 | 0x08 | 0x09 | 0x0A | 0x0B => 2
  | 0x03 | 0x06 | 0x07 | 0x0C | 0x0E | 0x13 => 1
  | _ => 3

/-- A special register takes a value, reserved bits apart. -/
def State.sprWrite (s : State) (f n : Nat) (v : Word) : State :=
  let x := v.toNat
  match n with
  | 0x00 => s.wr (rFP_FPSTAT f) (v &&& 0x71F#32)
  | 0x02 => (s.setF (fFP_STATUS_WRES f) (x % 16)).modCore f (fun c => { c with wold := x / 256 % 16 })
  | 0x03 => s.setF (fFP_STATUS_QOFS f) (x % 32)
  | 0x06 => s.modCore f (fun c => { c with cbase := v &&& 0xFFFFFFFC#32 })
  | 0x07 => s.modCore f (fun c => { c with clen := v &&& 0xFFFFFFFC#32 })
  | 0x08 => s.modCore f (fun c => { c with xpc := x % 65536 })
  | 0x09 => s.modCore f (fun c => { c with xwin := x % 16 })
  | 0x0A => s.modCore f (fun c => { c with xcause := v })
  | 0x0B => s.modCore f (fun c => { c with xaddr := x % 131072 })
  | 0x0C => s.modCore f (fun c => { c with xvec := x % 65536 / 1024 * 1024 })
  | 0x0E => (s.setF (fFP_INBOX_INBOX_RD f) (x % 512)).modCore f (fun c => { c with inFull := false })
  | _ => s

/-! ### Commit -/

/-- Registers written in order. -/
def FpCore.putRegs (c : FpCore) : List (Option Nat × Word) → FpCore
  | [] => c
  | (some p, v) :: t => (c.setPhys p v).putRegs t
  | (none, _) :: t => c.putRegs t

def FpCore.putAccs (c : FpCore) : List (Nat × Int) → FpCore
  | [] => c
  | (n, v) :: t => (c.setAcc n v).putAccs t

/-- The registers of window `w`, `k` of them, written to data SRAM from `a`. -/
def FpCore.spill (c : FpCore) (w a : Nat) : Nat → FpCore
  | 0 => c
  | k + 1 => (c.spill w a k).setBytes (a + 4 * k) (c.phys (8 + 16 * w + k)).toNat 4

/-- The registers of window `w`, `k` of them, loaded from `a`. -/
def FpCore.fill (c : FpCore) (w a : Nat) : Nat → FpCore
  | 0 => c
  | k + 1 => (c.fill w a k).setPhys (8 + 16 * w + k) (BitVec.ofNat 32 (c.seenN (a + 4 * k) 4))

/-- R303: the levels a taken branch to `t` ends. -/
def cutLoops (t depth : Nat) (tm : Bool) (l : List FpLevel) : List FpLevel :=
  l.filter (fun e => !(e.depth == depth && e.inTrap == tm && (t < e.first || e.last < t)))

/-- A taken branch. -/
def State.fpJump (s : State) (f t : Nat) : State :=
  let tm := s.trapm f
  s.modCore f (fun c => { c with pc := t, loops := cutLoops t c.rets.length tm c.loops })

/-- Words of the bundle at address `a` of instruction SRAM: up to the word whose bit 31 is set, at most `n`. -/
def FpCore.bundleLen (c : FpCore) (a : Nat) : Nat → Nat
  | 0 => 0
  | n + 1 => if (c.imem.at 0 (a / 4)).msb then 1 else 1 + c.bundleLen (a + 4) n

/-- R295, R315: a CALL from the bundle at `here` to `t`, `next` the address it returns to. -/
def State.fpDoCall (s : State) (f here t next : Nat) : State :=
  let wcur := s.fld (fFP_STATUS_WCUR f)
  let s := (s.setF (fFP_STATUS_WCUR f) ((wcur + 1) % 15)).setF (fFP_STATUS_WRES f) (s.fld (fFP_STATUS_WRES f) + 1)
  let s := s.modCore f (fun c => { c with pc := t, rets := next :: c.rets })
  if s.inCode f t ∧ ¬ s.inCode f here then
    (s.set1 (fFP_STATUS_SBXM f)).modCore f (fun c => { c with sbxLeft := s.rdN (rFP_SBX_BUDGET f), sbxDepth := c.rets.length })
  else s

/-- R295, R315: a RET. -/
def State.fpDoRet (s : State) (f : Nat) : State :=
  let wcur := s.fld (fFP_STATUS_WCUR f)
  let c := s.core f
  let s := (s.setF (fFP_STATUS_WCUR f) ((wcur + 14) % 15)).setF (fFP_STATUS_WRES f) (s.fld (fFP_STATUS_WRES f) - 1)
  let s := if s.sbxm f ∧ c.rets.length = c.sbxDepth then s.clr (fFP_STATUS_SBXM f) else s
  match c.rets with
  | r :: t => s.modCore f (fun c => { c with pc := r, rets := t })
  | [] => { s with free := s.free + 1 }.modCore f (fun c => { c with pc := Config.freeAt s.free 1 % 65536 })

/-- The act of an operation of the bundle at `here`, the next bundle at `next`. -/
def State.fpAct (s : State) (f here next : Nat) (a : FpAct) : State :=
  match a with
  | .none => s
  | .spr n v => s.sprWrite f n v
  | .capture v => s.modCore f (fun c => { c with htimeHi := v })
  | .store e => s.modCore f (fun c => { c with sb := c.sb ++ [e] })
  | .deq rd q x => s.modCore f (fun c => { c with deqs := c.deqs ++ [(rd, q, x)] })
  | .enq rd r => s.modCore f (fun c => { c with enqs := c.enqs ++ [(rd, r)] })
  | .wspill x =>
    (s.setF (fFP_STATUS_WRES f) (s.fld (fFP_STATUS_WRES f) - 1)).modCore f (fun c =>
      let c := (c.drainAll c.sb.length).spill c.wold x 16
      { c with wold := (c.wold + 1) % 15 })
  | .wfill x =>
    (s.setF (fFP_STATUS_WRES f) (s.fld (fFP_STATUS_WRES f) + 1)).modCore f (fun c =>
      let w := (c.wold + 14) % 15
      { c.fill w x 16 with wold := w })
  | .jump t => s.fpJump f t
  | .call t => s.fpDoCall f here t next
  | .ret => s.fpDoRet f
  | .xret =>
    let c := s.core f
    let s := (s.setF (fFP_STATUS_WCUR f) c.xwin).clr (fFP_STATUS_TRAPM f)
    (s.setB (fFP_STATUS_SBXM f) (xcauseSbx c.xcause)).modCore f (fun c => { c with pc := c.xpc })
  | .loop n last rot =>
    let tm := s.trapm f
    if n = 0 then s.modCore f (fun c => { c with pc := last + 4 * c.bundleLen last 6 })
    else s.modCore f (fun c => { c with
      loops := { first := next, last := last, left := n, rot := rot, depth := c.rets.length, inTrap := tm } :: c.loops })
  | .wait rd => (s.set1 (fFP_STATUS_WAITING f)).modCore f (fun c => { c with waitRd := rd, evRec := false, evInbox := false })

/-- The act moves control by itself, so no loop end is taken. -/
def FpAct.moves : FpAct → Bool
  | .jump _ | .call _ | .ret | .xret => true
  | .loop n _ _ => n == 0
  | _ => false

/-- R296, R303: the bundle at `here` ends the body of the innermost level, or not. -/
def State.fpLoopEnd (s : State) (f here : Nat) : State :=
  let c := s.core f
  match c.loops with
  | l :: t =>
    if l.last = here ∧ l.depth = c.rets.length ∧ l.inTrap = s.trapm f then
      if 1 < l.left then
        (s.setF (fFP_STATUS_QOFS f) ((s.fld (fFP_STATUS_QOFS f) + l.rot) % 32)).setCore f
          { c with pc := l.first, loops := { l with left := l.left - 1 } :: t }
      else s.setCore f { c with loops := t }
    else s
  | [] => s

/-- R292: the registers under parity that a bundle reads. -/
def FpCore.readRegs (c : FpCore) (ops : List OpRes) : List Nat :=
  ops.flatMap (fun o => o.reads.filterMap id ++ (match o.act with
    | .wspill _ => (List.range 16).map (fun k => 8 + 16 * c.wold + k)
    | _ => []))

/-- The results of a bundle take effect (R300). -/
def State.fpCommit (s : State) (f : Nat) (ops : List OpRes) : State :=
  let here := (s.core f).pc
  let next := here + 4 * ops.length
  let fl := ops.foldl (fun m o => Nat.lor m o.flags) 0
  let s := if ops.any OpRes.drew then { s with free := s.free + 1 } else s
  let s := s.modCore f (fun c => { (c.putRegs (ops.flatMap OpRes.regs)).putAccs (ops.flatMap OpRes.accs) with
    bundle := [], stalled := false, pc := next, issuedAt := s.now + 1 })
  let s := (s.wrN (rFP_PC f) here).wrN (rFP_FPSTAT f) (Nat.lor (s.rdN (rFP_FPSTAT f)) fl)
  let s := s.forEach (fun s o => s.fpAct f here next o.act) ops
  if ops.any (fun o => o.act.moves) then s else s.fpLoopEnd f here

/-- The first trap of a bundle, in the order of its operations. -/
def firstTrap : List OpRes → Option (Nat × Option Nat)
  | [] => none
  | o :: t => match o.trap with
    | some x => some x
    | none => firstTrap t

/-- R292, R299, R300: a bundle whose words have been fetched: the rules of a bundle, readiness, parity, traps, stalls, the data words it
reads, commit. -/
def State.fpFetched (s : State) (f : Nat) (is : List Instr) (ops : List OpRes) : State :=
  let c := s.core f
  let wait := fun (s : State) => s.modCore f (fun c => { c with bundle := is, stalled := true })
  let data := ops.flatMap OpRes.mem
  if ¬ bundleOk ops then s.fpTrapAt f 3 none c.pc
  else if c.notReady ops then wait s
  else if (c.readRegs ops).any (fun p => c.parity.at false p) then s.fpHalt f 4
  else match firstTrap ops with
    | some (cause, a) => s.fpTrapAt f cause a (if 0x10 ≤ cause then c.pc + 4 * ops.length else c.pc)
    | none =>
      if ops.any OpRes.stall then wait s
      else if c.lost data then s.fpHalt f 2
      else (s.eccRead f data).fpCommit f ops

/-- Issue of a bundle whose operations stand evaluated: fetch range, the words fetched (R292), and what follows. -/
def State.fpIssue (s : State) (f : Nat) (is : List Instr) (ops : List OpRes) : State :=
  let c := s.core f
  let words := (List.range ops.length).map (fun k => c.pc / 4 + k)
  if 0x10000 < c.pc + 4 * ops.length then s.fpTrapAt f 6 none c.pc
  else if c.lost words then s.fpHalt f 2
  else (s.eccRead f words).fpFetched f is ops

end Sys2Proof.Machine
end

