-- ==== Sys2Proof/Machine/FpOps.lean ====
section
/-! DEFINITION. What each operation of a field processor asks for at issue (R296–R311): its operands as they read, its results, its traps. -/
namespace Sys2Proof.Machine

/-- Value of a register-or-immediate operand. -/
def State.srcVal (s : State) (f : Nat) (b : FpSrc) : Word :=
  match b with
  | .reg r => s.fpReg f r
  | .imm v => v

/-- Registers a register-or-immediate operand reads. -/
def State.srcReads (s : State) (f : Nat) (b : FpSrc) : List (Option Nat) :=
  match b with
  | .reg r => [s.fpPhys f r]
  | .imm _ => []

/-- R315: a write to g7 in the sandbox. -/
def State.g7Guard (s : State) (f : Nat) (rd : FpReg) (o : OpRes) : OpRes :=
  match rd with
  | .g n => if n.val = 7 ∧ s.sbxm f then { o with trap := some (8, none) } else o
  | _ => o

/-- An M-slot operation: what it reads, its destination and its value. -/
def State.alu (s : State) (f : Nat) (rd : FpReg) (reads : List (Option Nat)) (v : Word) : OpRes :=
  s.g7Guard f rd { OpRes.idle .m with reads := reads, regs := [(s.fpPhys f rd, v)] }

/-- An M-slot operation of two registers. -/
def State.alu2 (s : State) (f : Nat) (rd ra rb : FpReg) (g : Word → Word → Word) : OpRes :=
  s.alu f rd [s.fpPhys f ra, s.fpPhys f rb] (g (s.fpReg f ra) (s.fpReg f rb))

/-- An M-slot operation of a register and a register or immediate. -/
def State.aluB (s : State) (f : Nat) (rd ra : FpReg) (b : FpSrc) (g : Word → Word → Word) : OpRes :=
  s.alu f rd (s.fpPhys f ra :: s.srcReads f b) (g (s.fpReg f ra) (s.srcVal f b))

/-- An M-slot operation of one register. -/
def State.alu1 (s : State) (f : Nat) (rd ra : FpReg) (g : Word → Word) : OpRes := s.alu f rd [s.fpPhys f ra] (g (s.fpReg f ra))

/-- A result with flags. -/
def OpRes.withFlags (o : OpRes) (fl : Nat) : OpRes := { o with flags := fl }
/-- An operation of the floating-point unit. -/
def OpRes.onFpu (o : OpRes) : OpRes := { o with fpu := true }

/-- Flag masks of `FPSTAT` for the fixed-point instructions (R297). -/
def flQSAT : Nat := 1024
def flSAT (n : Nat) : Nat := if n = 0 then 256 else 512

/-! ### Integer operations -/

/-- ADD. -/
def evOpAdd (s : State) (f : Nat) (rd ra : FpReg) (b : FpSrc) : OpRes :=
  s.aluB f rd ra b (fun a b => a + b)

/-- SUB. -/
def evOpSub (s : State) (f : Nat) (rd ra : FpReg) (b : FpSrc) : OpRes :=
  s.aluB f rd ra b (fun a b => a - b)

/-- AND. -/
def evOpAnd (s : State) (f : Nat) (rd ra : FpReg) (b : FpSrc) : OpRes :=
  s.aluB f rd ra b (fun a b => a &&& b)

/-- OR. -/
def evOpOr (s : State) (f : Nat) (rd ra : FpReg) (b : FpSrc) : OpRes :=
  s.aluB f rd ra b (fun a b => a ||| b)

/-- XOR. -/
def evOpXor (s : State) (f : Nat) (rd ra : FpReg) (b : FpSrc) : OpRes :=
  s.aluB f rd ra b (fun a b => a ^^^ b)

/-- ANDN. -/
def evAndn (s : State) (f : Nat) (rd ra : FpReg) (b : FpSrc) : OpRes :=
  s.aluB f rd ra b (fun a b => a &&& ~~~b)

/-- A shift by `n`; by 32 or more the result is free. -/
def shiftBy (k : Nat) (a n : Word) : Word :=
  if n.toNat < 32 then (match k with
    | 0 => a <<< n.toNat
    | 1 => a >>> n.toNat
    | _ => a.sshiftRight n.toNat)
  else Config.fpShift k a n

/-- SHL. -/
def evShl (s : State) (f : Nat) (rd ra : FpReg) (b : FpSrc) : OpRes :=
  s.aluB f rd ra b (shiftBy 0)

/-- SHR. -/
def evShr (s : State) (f : Nat) (rd ra : FpReg) (b : FpSrc) : OpRes :=
  s.aluB f rd ra b (shiftBy 1)

/-- SHRA. -/
def evShra (s : State) (f : Nat) (rd ra : FpReg) (b : FpSrc) : OpRes :=
  s.aluB f rd ra b (shiftBy 2)

/-- MIN, signed. -/
def evFpMin (s : State) (f : Nat) (rd ra rb : FpReg) : OpRes :=
  s.alu2 f rd ra rb (fun a b => if b.slt a then b else a)

/-- MAX, signed. -/
def evFpMax (s : State) (f : Nat) (rd ra rb : FpReg) : OpRes :=
  s.alu2 f rd ra rb (fun a b => if a.slt b then b else a)

/-- ABS; of the most negative word free. -/
def evFpAbs (s : State) (f : Nat) (rd ra : FpReg) : OpRes :=
  s.alu1 f rd ra (fun a => if a = 0x80000000#32 then Config.fpAbsMin else if a.msb then -a else a)

/-- SEQ. -/
def evSeq (s : State) (f : Nat) (rd ra : FpReg) (b : FpSrc) : OpRes :=
  s.aluB f rd ra b (fun a b => bW (a == b))

/-- SLT. -/
def evSlt (s : State) (f : Nat) (rd ra : FpReg) (b : FpSrc) : OpRes :=
  s.aluB f rd ra b (fun a b => bW (a.slt b))

/-- SLTU. -/
def evSltu (s : State) (f : Nat) (rd ra : FpReg) (b : FpSrc) : OpRes :=
  s.aluB f rd ra b (fun a b => bW (a.ult b))

/-- MOVI. -/
def evMovi (s : State) (f : Nat) (rd : FpReg) (imm : BitVec 16) : OpRes :=
  s.alu f rd [] (imm.signExtend 32)

/-- MOVHI: bits 15:0 are kept. -/
def evMovhi (s : State) (f : Nat) (rd : FpReg) (imm : BitVec 16) : OpRes :=
  s.alu f rd [s.fpPhys f rd] (imm ++ (s.fpReg f rd).setWidth 16)

/-- MUL. -/
def evOpMul (s : State) (f : Nat) (rd ra rb : FpReg) : OpRes :=
  s.alu2 f rd ra rb (fun a b => a * b)

/-- Two saturating lanes, the low one first, and whether one saturated. -/
def lanes (g : Int → Int → Int) (a b : Word) : Word × Bool :=
  let lo := g (sgn16 a.toNat) (sgn16 b.toNat)
  let hi := g (sgn16 (a.toNat / 65536)) (sgn16 (b.toNat / 65536))
  (BitVec.ofNat 32 (q15 (satQ15 hi) * 65536 + q15 (satQ15 lo)), satQ15 lo != lo || satQ15 hi != hi)

/-- ADDS.H and SUBS.H. -/
def State.laneOp (s : State) (f : Nat) (rd ra rb : FpReg) (g : Int → Int → Int) : OpRes :=
  let r := lanes g (s.fpReg f ra) (s.fpReg f rb)
  (s.alu f rd [s.fpPhys f ra, s.fpPhys f rb] r.1).withFlags (if r.2 then flQSAT else 0)

/-- ADDS.H. -/
def evAddsH (s : State) (f : Nat) (rd ra rb : FpReg) : OpRes :=
  s.laneOp f rd ra rb (fun a b => a + b)

/-- SUBS.H. -/
def evSubsH (s : State) (f : Nat) (rd ra rb : FpReg) : OpRes :=
  s.laneOp f rd ra rb (fun a b => a - b)

/-! ### Accumulators (R297) -/

/-- Saturation to Q9.31. -/
def sat40 (x : Int) : Int := clamp (-549755813888) 549755813887 x

/-- A half of a register as Q1.15. -/
def State.half (s : State) (f : Nat) (h : FpHalf) : Int :=
  let w := (s.fpReg f h.r).toNat
  sgn16 (if h.high then w / 65536 else w)

/-- The product of two halves in Q9.31. -/
def State.halfProd (s : State) (f : Nat) (a b : FpHalf) : Int := 2 * (s.half f a * s.half f b)

/-- An accumulator takes a value, saturating. -/
def accRes (n : Nat) (reads : List (Option Nat)) (v : Int) : OpRes :=
  { OpRes.idle .m with reads := reads, accs := [(n, sat40 v)], flags := if sat40 v = v then 0 else flSAT n }

/-- MPY. -/
def evMpy (s : State) (f : Nat) (n : Fin 2) (a b : FpHalf) : OpRes :=
  accRes n [s.fpPhys f a.r, s.fpPhys f b.r] (s.halfProd f a b)

/-- MAC. -/
def evMac (s : State) (f : Nat) (n : Fin 2) (a b : FpHalf) : OpRes :=
  accRes n [s.fpPhys f a.r, s.fpPhys f b.r, some (accPhys n)] ((s.core f).acc n + s.halfProd f a b)

/-- MSU. -/
def evMsu (s : State) (f : Nat) (n : Fin 2) (a b : FpHalf) : OpRes :=
  accRes n [s.fpPhys f a.r, s.fpPhys f b.r, some (accPhys n)] ((s.core f).acc n - s.halfProd f a b)

/-- ACCADD. -/
def evAccadd (s : State) (f : Nat) (n : Fin 2) : OpRes :=
  accRes n [some (accPhys 0), some (accPhys 1)] ((s.core f).acc 0 + (s.core f).acc 1)

/-- ACCSET: Q1.31 as Q9.31. -/
def evAccset (s : State) (f : Nat) (n : Fin 2) (ra : FpReg) : OpRes :=
  accRes n [s.fpPhys f ra] (s.fpReg f ra).toInt

/-- ACCSHL. -/
def evAccshl (s : State) (f : Nat) (n : Fin 2) (imm : Fin 32) : OpRes :=
  accRes n [some (accPhys n)] ((s.core f).acc n * 2 ^ imm.val)

/-- ACCSHR, toward −∞. -/
def evAccshr (s : State) (f : Nat) (n : Fin 2) (imm : Fin 32) : OpRes :=
  accRes n [some (accPhys n)] ((s.core f).acc n / 2 ^ imm.val)

/-- R243: Q9.31 rounded to Q1.15, ties toward +∞, and saturated. -/
def roundQ15 (x : Int) : Int := satQ15 ((x + 32768) / 65536)

/-- ACCRD. -/
def evAccrd (s : State) (f : Nat) (rd : FpReg) (n : Fin 2) (imm : Fin 9) : OpRes :=
  let x := (s.core f).acc n * 2 ^ imm.val
  let v := roundQ15 x
  (s.alu f rd [some (accPhys n)] (BitVec.ofInt 32 v)).withFlags (if v = (x + 32768) / 65536 then 0 else flQSAT)

/-- ACCRD.W. -/
def evAccrdW (s : State) (f : Nat) (rd : FpReg) (n : Fin 2) : OpRes :=
  let x := (s.core f).acc n
  let v := clamp (-2147483648) 2147483647 x
  (s.alu f rd [some (accPhys n)] (BitVec.ofInt 32 v)).withFlags (if v = x then 0 else flQSAT)

/-- Redundant sign bits of a `w`-bit value: bits below the sign equal to it, counted from the top. -/
def redundant (w : Nat) (x : Int) : Nat :=
  let m := if x < 0 then (-x - 1).toNat else x.toNat
  if m = 0 then w - 1 else w - 2 - Nat.log2 m

/-- The least of the two halves' counts. -/
def normH (a : Word) : Nat := min (redundant 16 (sgn16 a.toNat)) (redundant 16 (sgn16 (a.toNat / 65536)))

/-- NORM. -/
def evNorm (s : State) (f : Nat) (rd ra : FpReg) : OpRes :=
  s.alu1 f rd ra (fun a => BitVec.ofNat 32 (redundant 32 a.toInt))

/-- NORM.H. -/
def evNormH (s : State) (f : Nat) (rd ra : FpReg) : OpRes :=
  s.alu1 f rd ra (fun a => BitVec.ofNat 32 (normH a))

/-- NORMACC. -/
def evNormacc (s : State) (f : Nat) (rd : FpReg) (n : Fin 2) : OpRes :=
  s.alu f rd [some (accPhys n)] (BitVec.ofInt 32 ((redundant 40 ((s.core f).acc n) : Int) - 8))

/-- BEXP. -/
def evBexp (s : State) (f : Nat) (rd ra : FpReg) : OpRes :=
  let n : Word := BitVec.ofNat 32 (normH (s.fpReg f ra))
  let d := s.fpReg f rd
  s.alu f rd [s.fpPhys f rd, s.fpPhys f ra] (if n.slt d then n else d)

/-! ### Binary32 (R308–R310) -/

/-- EXPX. -/
def evExpx (s : State) (f : Nat) (rd fa : FpReg) : OpRes :=
  s.alu1 f rd fa (fun a => BitVec.ofInt 32 (fExpX a))

/-- A result of the floating-point unit. -/
def State.fpu (s : State) (f : Nat) (rd : FpReg) (reads : List FpReg) (r : Word × Nat) : OpRes :=
  ((s.alu f rd (reads.map (s.fpPhys f)) r.1).withFlags r.2).onFpu

/-- FADD. -/
def evFadd (s : State) (f : Nat) (fd fa fb : FpReg) : OpRes :=
  s.fpu f fd [fa, fb] (fAdd (s.fpReg f fa) (s.fpReg f fb))

/-- FSUB. -/
def evFsub (s : State) (f : Nat) (fd fa fb : FpReg) : OpRes :=
  s.fpu f fd [fa, fb] (fSub (s.fpReg f fa) (s.fpReg f fb))

/-- FMUL. -/
def evFmul (s : State) (f : Nat) (fd fa fb : FpReg) : OpRes :=
  s.fpu f fd [fa, fb] (fMul (s.fpReg f fa) (s.fpReg f fb))

/-- FDIV. -/
def evFdiv (s : State) (f : Nat) (fd fa fb : FpReg) : OpRes :=
  s.fpu f fd [fa, fb] (fDiv (s.fpReg f fa) (s.fpReg f fb))

/-- FMIN. -/
def evFmin (s : State) (f : Nat) (fd fa fb : FpReg) : OpRes :=
  s.fpu f fd [fa, fb] (fMinN (s.fpReg f fa) (s.fpReg f fb))

/-- FMAX. -/
def evFmax (s : State) (f : Nat) (fd fa fb : FpReg) : OpRes :=
  s.fpu f fd [fa, fb] (fMaxN (s.fpReg f fa) (s.fpReg f fb))

/-- FMA. -/
def evFma (s : State) (f : Nat) (fd fa fb fc : FpReg) : OpRes :=
  s.fpu f fd [fa, fb, fc] (fFma (s.fpReg f fa) (s.fpReg f fb) (s.fpReg f fc))

/-- FMS. -/
def evFms (s : State) (f : Nat) (fd fa fb fc : FpReg) : OpRes :=
  s.fpu f fd [fa, fb, fc] (fFms (s.fpReg f fa) (s.fpReg f fb) (s.fpReg f fc))

/-- FSQRT. -/
def evFsqrt (s : State) (f : Nat) (fd fa : FpReg) : OpRes :=
  s.fpu f fd [fa] (fSqrt (s.fpReg f fa))

/-- FSCALE. -/
def evFscale (s : State) (f : Nat) (fd fa rb : FpReg) : OpRes :=
  s.fpu f fd [fa, rb] (fScale (s.fpReg f fa) (s.fpReg f rb))

/-- FABS. -/
def evFabs (s : State) (f : Nat) (fd fa : FpReg) : OpRes :=
  s.alu1 f fd fa fAbsW

/-- FNEG. -/
def evFneg (s : State) (f : Nat) (fd fa : FpReg) : OpRes :=
  s.alu1 f fd fa fNegW

/-- FCEQ. -/
def evFceq (s : State) (f : Nat) (rd fa fb : FpReg) : OpRes :=
  s.fpu f rd [fa, fb] (fCeq (s.fpReg f fa) (s.fpReg f fb))

/-- FCLT. -/
def evFclt (s : State) (f : Nat) (rd fa fb : FpReg) : OpRes :=
  s.fpu f rd [fa, fb] (fClt (s.fpReg f fa) (s.fpReg f fb))

/-- FCLE. -/
def evFcle (s : State) (f : Nat) (rd fa fb : FpReg) : OpRes :=
  s.fpu f rd [fa, fb] (fCle (s.fpReg f fa) (s.fpReg f fb))

/-- FCVT.S.W. -/
def evFcvtSW (s : State) (f : Nat) (rd ra : FpReg) : OpRes :=
  s.fpu f rd [ra] (fOfInt (s.fpReg f ra))

/-- FCVT.W.S. -/
def evFcvtWS (s : State) (f : Nat) (rd ra : FpReg) : OpRes :=
  s.fpu f rd [ra] (fToW (s.fpReg f ra))

/-- FCVT.S.Q15. -/
def evFcvtSQ15 (s : State) (f : Nat) (rd ra : FpReg) : OpRes :=
  s.fpu f rd [ra] (fOfQ15 (s.fpReg f ra))

/-- FCVT.Q15.S. -/
def evFcvtQ15S (s : State) (f : Nat) (rd ra : FpReg) : OpRes :=
  s.fpu f rd [ra] (fToQ15 (s.fpReg f ra))

/-! ### Special registers (R298) -/

/-- MFS; an undefined special register is an undefined operation. -/
def evMfs (s : State) (f : Nat) (rd : FpReg) (n : Nat) : OpRes :=
  match s.sprRead f n with
  | some v =>
    let o := s.alu f rd [] v
    { o with drew := sprFree n, act := if n = 0x10 then .capture (BitVec.ofNat 32 (s.bridged .core / 2 ^ 32)) else .none }
  | none => OpRes.raising .m 3

/-- MTS. -/
def evMts (s : State) (f : Nat) (n : Nat) (ra : FpReg) : OpRes :=
  if s.sbxm f ∧ n ≠ 0 then OpRes.raising .m 8
  else if sprAccess n = 3 ∨ (sprAccess n = 2 ∧ ¬ s.trapm f) then OpRes.raising .m 3
  else { OpRes.idle .m with reads := [s.fpPhys f ra], act := .spr n (s.fpReg f ra) }

/-! ### Loads and stores (R302, R305, R306) -/

/-- Bit-reversed addition: the carry runs from bit 15 down to bit 2. -/
def revBits (x : Nat) : Nat → Nat
  | 0 => 0
  | n + 1 => x % 2 * 2 ^ n + revBits (x / 2) n

def revAdd (a b : Word) : Word :=
  let x := a.toNat
  let m := revBits ((revBits (x / 4 % 16384) 14 + revBits (b.toNat / 4 % 16384) 14) % 16384) 14
  BitVec.ofNat 32 (x / 65536 * 65536 + m * 4 + x % 4)

/-- The circular update: wrapped into [`CBASE`, `CBASE` + `CLEN`). -/
def circAdd (cbase clen a i : Word) : Word :=
  if clen = 0 then Config.fpCirc a i
  else BitVec.ofInt 32 ((cbase.toNat : Int) + ((a.toNat : Int) + i.toInt - cbase.toNat) % (clen.toNat : Int))

/-- The address of an access, the registers it reads, and the update of ra. -/
def State.addrOf (s : State) (f : Nat) (a : FpAddr) : Nat × List (Option Nat) × List (Option Nat × Word) :=
  match a with
  | .off ra i => ((s.fpReg f ra + i).toNat, [s.fpPhys f ra], [])
  | .post ra i => ((s.fpReg f ra).toNat, [s.fpPhys f ra], [(s.fpPhys f ra, s.fpReg f ra + i)])
  | .circ ra i =>
    ((s.fpReg f ra).toNat, [s.fpPhys f ra], [(s.fpPhys f ra, circAdd (s.core f).cbase (s.core f).clen (s.fpReg f ra) i)])
  | .rev ra rb => ((s.fpReg f ra).toNat, [s.fpPhys f ra, s.fpPhys f rb], [(s.fpPhys f ra, revAdd (s.fpReg f ra) (s.fpReg f rb))])

/-- The base register an address form writes. -/
def baseOf : FpAddr → FpReg
  | .off ra _ => ra
  | .post ra _ => ra
  | .circ ra _ => ra
  | .rev ra _ => ra

/-- The trap of an access of `n` bytes at `a`, natural alignment `al` (R302, R293, R315). -/
def State.accessTrap (s : State) (f a n al : Nat) (store : Bool) : Option (Nat × Option Nat) :=
  if a % al ≠ 0 then some (4, some a)
  else if 0x20000 < a + n then some (5, some a)
  else if store ∧ inInbox a n then some (5, some a)
  else if s.sbxm f ∧ ¬ s.inData f a n ∧ (store ∨ ¬ inInbox a n) then some (8, some a)
  else none

/-- Two byte ranges overlap. -/
def overlap (a n b m : Nat) : Bool := a < b + m && b < a + n

/-- R306: a load must wait for buffered stores: the youngest that overlaps it does not hold it whole. -/
def FpCore.loadWaits (c : FpCore) (a n : Nat) : Bool :=
  match c.sb.reverse.find? (fun e => overlap a n e.addr e.size) with
  | some e => !(e.addr ≤ a && a + n ≤ e.addr + e.size)
  | none => false

/-- A load overlaps the destination of a DEQ in progress (R305). -/
def FpCore.deqWaits (c : FpCore) (a n : Nat) : Bool := c.deqs.any (fun d => overlap a n d.2.2 32)

/-- R315: an address form that writes g7 in the sandbox. -/
def State.baseGuard (s : State) (f : Nat) (a : FpAddr) (o : OpRes) : OpRes :=
  match a with
  | .off _ _ => o
  | _ => s.g7Guard f (baseOf a) o

/-- The SRAM words a load reads: none when the youngest buffered store that overlaps it holds it (R306). -/
def FpCore.loadWords (c : FpCore) (a n : Nat) : List Nat :=
  match c.sb.reverse.find? (fun e => overlap a n e.addr e.size) with
  | some _ => []
  | none => wordsOf a n

/-- A load of `n` bytes; `ext` forms the register from them. -/
def State.load (s : State) (f : Nat) (rd : FpReg) (a : FpAddr) (n : Nat) (ext : Nat → Word) : OpRes :=
  let x := s.addrOf f a
  let c := s.core f
  let fwd := c.loadWaits x.1 n
  let o : OpRes := { OpRes.idle .l with
    reads := x.2.1, mem := c.loadWords x.1 n, regs := x.2.2 ++ [(s.fpPhys f rd, ext (c.seenN x.1 n))], trap := s.accessTrap f x.1 n n false,
    stall := fwd || c.deqWaits x.1 n, fwd := fwd }
  s.baseGuard f a (s.g7Guard f rd o)

/-- The next register of a file; none after the last global and the last of a window. -/
def nextReg : FpReg → Option FpReg
  | .g n => if h : n.val + 1 < 8 then some (.g ⟨n.val + 1, h⟩) else none
  | .w n => if h : n.val + 1 < 16 then some (.w ⟨n.val + 1, h⟩) else none
  | .q n => some (.q (n + 1))

/-- A store of `n` bytes aligned to `al`. -/
def State.fpStore (s : State) (f : Nat) (a : FpAddr) (n al : Nat) (reads : List (Option Nat)) (v : Nat) : OpRes :=
  let x := s.addrOf f a
  let o : OpRes := { OpRes.idle .s with
    reads := x.2.1 ++ reads, regs := x.2.2, trap := s.accessTrap f x.1 n al true, stall := 8 ≤ (s.core f).sb.length,
    act := .store { addr := x.1, size := n, data := v % 2 ^ (8 * n) } }
  s.baseGuard f a o

/-- LD.B. -/
def evLdB (s : State) (f : Nat) (rd : FpReg) (a : FpAddr) : OpRes :=
  s.load f rd a 1 (fun x => (BitVec.ofNat 8 x).signExtend 32)

/-- LD.BU. -/
def evLdBu (s : State) (f : Nat) (rd : FpReg) (a : FpAddr) : OpRes :=
  s.load f rd a 1 (fun x => BitVec.ofNat 32 x)

/-- LD.H. -/
def evLdH (s : State) (f : Nat) (rd : FpReg) (a : FpAddr) : OpRes :=
  s.load f rd a 2 (fun x => (BitVec.ofNat 16 x).signExtend 32)

/-- LD.HU. -/
def evLdHu (s : State) (f : Nat) (rd : FpReg) (a : FpAddr) : OpRes :=
  s.load f rd a 2 (fun x => BitVec.ofNat 32 x)

/-- LD.W. -/
def evLdW (s : State) (f : Nat) (rd : FpReg) (a : FpAddr) : OpRes :=
  s.load f rd a 4 (fun x => BitVec.ofNat 32 x)

/-- LD.D: rd and the next register of its file; a file's last register has none. -/
def evLdD (s : State) (f : Nat) (rd : FpReg) (a : FpAddr) : OpRes :=
  match nextReg rd with
  | none => OpRes.raising .l 3
  | some r2 =>
    let x := s.addrOf f a
    let c := s.core f
    let fwd := c.loadWaits x.1 8
    let v := c.seenN x.1 8
    let o : OpRes := { OpRes.idle .l with
      reads := x.2.1, mem := c.loadWords x.1 8, regs := x.2.2 ++ [(s.fpPhys f rd, BitVec.ofNat 32 v), (s.fpPhys f r2, BitVec.ofNat 32 (v / 2 ^ 32))],
      trap := s.accessTrap f x.1 8 4 false, stall := fwd || c.deqWaits x.1 8, fwd := fwd }
    s.baseGuard f a (s.g7Guard f r2 (s.g7Guard f rd o))

/-- ST.B. -/
def evStB (s : State) (f : Nat) (a : FpAddr) (rs : FpReg) : OpRes :=
  s.fpStore f a 1 1 [s.fpPhys f rs] (s.fpReg f rs).toNat

/-- ST.H. -/
def evStH (s : State) (f : Nat) (a : FpAddr) (rs : FpReg) : OpRes :=
  s.fpStore f a 2 2 [s.fpPhys f rs] (s.fpReg f rs).toNat

/-- ST.W. -/
def evStW (s : State) (f : Nat) (a : FpAddr) (rs : FpReg) : OpRes :=
  s.fpStore f a 4 4 [s.fpPhys f rs] (s.fpReg f rs).toNat

/-- ST.D. -/
def evStD (s : State) (f : Nat) (a : FpAddr) (rs : FpReg) : OpRes :=
  match nextReg rs with
  | none => OpRes.raising .s 3
  | some r2 => s.fpStore f a 8 4 [s.fpPhys f rs, s.fpPhys f r2] ((s.fpReg f rs).toNat + (s.fpReg f r2).toNat * 2 ^ 32)

/-- FENCE. -/
def evFpFence (s : State) (f : Nat)  : OpRes :=
  { OpRes.idle .s with stall := !(s.core f).sb.isEmpty }

/-! ### Queues (R304), windows (R311) -/

/-- A destination as the deferred acts hold it: the physical register plus 1, 0 for g0. -/
def State.dest (s : State) (f : Nat) (rd : FpReg) : Nat :=
  match s.fpPhys f rd with
  | some p => p + 1
  | none => 0

/-- DEQ. -/
def evDeq (s : State) (f : Nat) (rd ra rb : FpReg) : OpRes :=
  let a := (s.fpReg f rb).toNat
  s.g7Guard f rd { OpRes.idle .l with
    reads := [s.fpPhys f ra, s.fpPhys f rb], trap := s.accessTrap f a 32 32 true, act := .deq (s.dest f rd) (s.fpReg f ra).toNat a }

/-- ENQ: the 32 bytes are read once every older store that overlaps them has drained. -/
def evEnq (s : State) (f : Nat) (rd ra : FpReg) : OpRes :=
  let a := (s.fpReg f ra).toNat
  let c := s.core f
  let r := recOfSlot (BitVec.ofNat 256 (c.bytes a 32))
  let r := if r.gen = 0 then { r with gen := BitVec.ofNat 16 (s.fld (fFP_GEN_FGEN f)) } else r
  let t := r.target.toNat
  let out := s.sbxm f && !(s.fld (fFP_SBX_QUEUE_QFIRST f) ≤ t && t ≤ s.fld (fFP_SBX_QUEUE_QLAST f))
  let tr := match s.accessTrap f a 32 1 false with
    | some x => some x
    | none => if out then some (8, none) else none
  s.g7Guard f rd { OpRes.idle .s with
    reads := [s.fpPhys f ra], mem := wordsOf a 32, trap := tr, stall := c.sb.any (fun e => overlap a 32 e.addr e.size), act := .enq (s.dest f rd) r }

/-- WSPILL. -/
def evWspill (s : State) (f : Nat) (ra : FpReg) : OpRes :=
  let a := (s.fpReg f ra).toNat
  if ¬ s.trapm f ∨ s.fld (fFP_STATUS_WRES f) = 1 then OpRes.raising .s 3
  else { OpRes.idle .s with reads := [s.fpPhys f ra], trap := s.accessTrap f a 64 4 true, act := .wspill a }

/-- WFILL. -/
def evWfill (s : State) (f : Nat) (ra : FpReg) : OpRes :=
  let a := (s.fpReg f ra).toNat
  if ¬ s.trapm f ∨ s.fld (fFP_STATUS_WRES f) = 15 then OpRes.raising .l 3
  else { OpRes.idle .l with reads := [s.fpPhys f ra], mem := wordsOf a 64, trap := s.accessTrap f a 64 4 false, act := .wfill a }

/-! ### Control (R295, R301, R303) -/

/-- R315: control passes by a branch into the code region, or out of it. -/
def State.crosses (s : State) (f t : Nat) : Bool := s.inCode f (s.core f).pc != s.inCode f t

/-- A branch, taken or not. -/
def State.branch (s : State) (f t : Nat) (reads : List (Option Nat)) (taken : Bool) : OpRes :=
  if taken ∧ s.crosses f t then { OpRes.raising .b 8 with reads := reads }
  else { OpRes.idle .b with reads := reads, act := if taken then .jump t else .none }

/-- A call to `t`: a double fault in trap mode, WIN_OVERFLOW with the ring full, SANDBOX out of the region. -/
def State.callTo (s : State) (f t : Nat) (reads : List (Option Nat)) : OpRes :=
  let o : OpRes := { OpRes.idle .b with reads := reads, act := .call t }
  if s.trapm f then { o with trap := some (3, none) }
  else if s.inCode f (s.core f).pc ∧ ¬ s.inCode f t then { o with trap := some (8, none) }
  else if 15 ≤ s.fld (fFP_STATUS_WRES f) then { o with trap := some (1, none) }
  else o

/-- BR. -/
def evFpBr (s : State) (f : Nat) (t : Nat) : OpRes :=
  s.branch f t [] true

/-- CALL. -/
def evFpCall (s : State) (f : Nat) (t : Nat) : OpRes :=
  s.callTo f t []

/-- CALLR. -/
def evCallr (s : State) (f : Nat) (ra : FpReg) : OpRes :=
  s.callTo f (s.fpReg f ra).toNat [s.fpPhys f ra]

/-- BEQZ. -/
def evBeqz (s : State) (f : Nat) (ra : FpReg) (t : Nat) : OpRes :=
  s.branch f t [s.fpPhys f ra] (s.fpReg f ra == 0#32)

/-- BNEZ. -/
def evBnez (s : State) (f : Nat) (ra : FpReg) (t : Nat) : OpRes :=
  s.branch f t [s.fpPhys f ra] (s.fpReg f ra != 0#32)

/-- BLTZ. -/
def evBltz (s : State) (f : Nat) (ra : FpReg) (t : Nat) : OpRes :=
  s.branch f t [s.fpPhys f ra] ((s.fpReg f ra).msb)

/-- BGEZ. -/
def evBgez (s : State) (f : Nat) (ra : FpReg) (t : Nat) : OpRes :=
  s.branch f t [s.fpPhys f ra] (!(s.fpReg f ra).msb)

/-- RET. -/
def evFpRet (s : State) (f : Nat)  : OpRes :=
  { OpRes.idle .b with act := .ret, trap := if s.fld (fFP_STATUS_WRES f) ≤ 1 then some (2, none) else none }

/-- XRET. -/
def evXret (s : State) (f : Nat)  : OpRes :=
  { OpRes.idle .b with act := .xret, trap := if s.trapm f then none else some (3, none) }

/-- A loop count: a value above 65,535 is not stated. -/
def loopCount (v : Word) : Nat := if v.toNat < 65536 then v.toNat else (Config.fpCount v).toNat

/-- LOOP and LOOPR: LOOP_NEST when both levels are taken. -/
def State.loopOp (s : State) (f : Nat) (b : FpSrc) (last rot : Nat) : OpRes :=
  { OpRes.idle .b with
    reads := s.srcReads f b, act := .loop (loopCount (s.srcVal f b)) last rot,
    trap := if 2 ≤ (s.core f).loops.length then some (7, none) else none }

/-- LOOP. -/
def evFpLoop (s : State) (f : Nat) (b : FpSrc) (last : Nat) : OpRes :=
  s.loopOp f b last 0

/-- LOOPR. -/
def evLoopr (s : State) (f : Nat) (b : FpSrc) (last : Nat) (k : Nat) : OpRes :=
  s.loopOp f b last (k + 1)

/-- WAIT. -/
def evFpWait (s : State) (f : Nat) (rd ra : FpReg) : OpRes :=
  s.g7Guard f rd { OpRes.idle .b with reads := [s.fpPhys f ra], act := .wait (s.dest f rd), trap := if s.sbxm f then some (8, none) else none }

/-- TRAP. -/
def evFpTrap (_s : State) (_f : Nat) (imm : Nat) : OpRes := OpRes.raising .b (0x10 + imm)

/-- The operation a command stands for, evaluated at issue. -/
def fpEval (s : State) (f : Nat) (i : Instr) : OpRes :=
  match i with
  | .opAdd _ _ rd ra b => evOpAdd s f rd ra b
  | .opSub _ _ rd ra b => evOpSub s f rd ra b
  | .opAnd _ _ rd ra b => evOpAnd s f rd ra b
  | .opOr _ _ rd ra b => evOpOr s f rd ra b
  | .opXor _ _ rd ra b => evOpXor s f rd ra b
  | .andn _ _ rd ra b => evAndn s f rd ra b
  | .shl _ _ rd ra b => evShl s f rd ra b
  | .shr _ _ rd ra b => evShr s f rd ra b
  | .shra _ _ rd ra b => evShra s f rd ra b
  | .fpMin _ _ rd ra rb => evFpMin s f rd ra rb
  | .fpMax _ _ rd ra rb => evFpMax s f rd ra rb
  | .fpAbs _ _ rd ra => evFpAbs s f rd ra
  | .seq _ _ rd ra b => evSeq s f rd ra b
  | .slt _ _ rd ra b => evSlt s f rd ra b
  | .sltu _ _ rd ra b => evSltu s f rd ra b
  | .movi _ _ rd imm => evMovi s f rd imm
  | .movhi _ _ rd imm => evMovhi s f rd imm
  | .opMul _ _ rd ra rb => evOpMul s f rd ra rb
  | .addsH _ _ rd ra rb => evAddsH s f rd ra rb
  | .subsH _ _ rd ra rb => evSubsH s f rd ra rb
  | .mpy _ _ n a b => evMpy s f n a b
  | .mac _ _ n a b => evMac s f n a b
  | .msu _ _ n a b => evMsu s f n a b
  | .accadd _ _ n => evAccadd s f n
  | .accset _ _ n ra => evAccset s f n ra
  | .accshl _ _ n imm => evAccshl s f n imm
  | .accshr _ _ n imm => evAccshr s f n imm
  | .accrd _ _ rd n imm => evAccrd s f rd n imm
  | .accrdW _ _ rd n => evAccrdW s f rd n
  | .norm _ _ rd ra => evNorm s f rd ra
  | .normH _ _ rd ra => evNormH s f rd ra
  | .normacc _ _ rd n => evNormacc s f rd n
  | .bexp _ _ rd ra => evBexp s f rd ra
  | .expx _ _ rd fa => evExpx s f rd fa
  | .fadd _ _ fd fa fb => evFadd s f fd fa fb
  | .fsub _ _ fd fa fb => evFsub s f fd fa fb
  | .fmul _ _ fd fa fb => evFmul s f fd fa fb
  | .fma _ _ fd fa fb fc => evFma s f fd fa fb fc
  | .fms _ _ fd fa fb fc => evFms s f fd fa fb fc
  | .fdiv _ _ fd fa fb => evFdiv s f fd fa fb
  | .fsqrt _ _ fd fa => evFsqrt s f fd fa
  | .fscale _ _ fd fa rb => evFscale s f fd fa rb
  | .fmin _ _ fd fa fb => evFmin s f fd fa fb
  | .fmax _ _ fd fa fb => evFmax s f fd fa fb
  | .fabs _ _ fd fa => evFabs s f fd fa
  | .fneg _ _ fd fa => evFneg s f fd fa
  | .fceq _ _ rd fa fb => evFceq s f rd fa fb
  | .fclt _ _ rd fa fb => evFclt s f rd fa fb
  | .fcle _ _ rd fa fb => evFcle s f rd fa fb
  | .fcvtSW _ _ rd ra => evFcvtSW s f rd ra
  | .fcvtWS _ _ rd ra => evFcvtWS s f rd ra
  | .fcvtSQ15 _ _ rd ra => evFcvtSQ15 s f rd ra
  | .fcvtQ15S _ _ rd ra => evFcvtQ15S s f rd ra
  | .mfs _ _ rd spr => evMfs s f rd spr.toNat
  | .mts _ _ spr ra => evMts s f spr.toNat ra
  | .ldB _ _ rd a => evLdB s f rd a
  | .ldBu _ _ rd a => evLdBu s f rd a
  | .ldH _ _ rd a => evLdH s f rd a
  | .ldHu _ _ rd a => evLdHu s f rd a
  | .ldW _ _ rd a => evLdW s f rd a
  | .ldD _ _ rd a => evLdD s f rd a
  | .stB _ _ a rs => evStB s f a rs
  | .stH _ _ a rs => evStH s f a rs
  | .stW _ _ a rs => evStW s f a rs
  | .stD _ _ a rs => evStD s f a rs
  | .fpFence _ _ => evFpFence s f
  | .deq _ _ rd ra rb => evDeq s f rd ra rb
  | .enq _ _ rd ra => evEnq s f rd ra
  | .wspill _ _ ra => evWspill s f ra
  | .wfill _ _ ra => evWfill s f ra
  | .fpBr _ _ label => evFpBr s f label.toNat
  | .fpCall _ _ label => evFpCall s f label.toNat
  | .callr _ _ ra => evCallr s f ra
  | .beqz _ _ ra label => evBeqz s f ra label.toNat
  | .bnez _ _ ra label => evBnez s f ra label.toNat
  | .bltz _ _ ra label => evBltz s f ra label.toNat
  | .bgez _ _ ra label => evBgez s f ra label.toNat
  | .fpRet _ _ => evFpRet s f
  | .xret _ _ => evXret s f
  | .fpLoop _ _ count label => evFpLoop s f count label.toNat
  | .loopr _ _ count label k => evLoopr s f count label.toNat k.val
  | .fpWait _ _ rd ra => evFpWait s f rd ra
  | .fpTrap _ _ imm => evFpTrap s f imm.val
  | _ => OpRes.raising .m 3

end Sys2Proof.Machine
end

