-- ==== Sys2Proof/Machine/FpExec.lean ====
section
/-! DEFINITION. The operations of the field processors as commands: each joins the bundle being gathered, and the one marked last issues
it (R299, R300). -/
namespace Sys2Proof.Machine

open Host (Outcome)

/-- The bundle so far, issued. -/
def State.fpIssueAll (s : State) (f : Nat) (is : List Instr) : State := s.fpIssue f is (is.map (fpEval s f))

/-- An operation reaches processor `f`: nothing issues unless it runs and neither waits nor stalls. -/
def State.fpSubmit (s : State) (f : Nat) (last : Bool) (i : Instr) : State :=
  if s.fpState f ≠ fpRUNNING ∨ s.on (fFP_STATUS_WAITING f) ∨ (s.core f).stalled then s
  else
    let is := (s.core f).bundle ++ [i]
    if last ∨ 6 < is.length then s.fpIssueAll f is else s.modCore f (fun c => { c with bundle := is })

/-- ADD. -/
def execOpAdd (f : Fin 10) (last : Bool) (rd ra : FpReg) (b : FpSrc) (s : State) : Outcome State Fault Refusal :=
  .next (s.fpSubmit f.val last (.opAdd f last rd ra b))

/-- SUB. -/
def execOpSub (f : Fin 10) (last : Bool) (rd ra : FpReg) (b : FpSrc) (s : State) : Outcome State Fault Refusal :=
  .next (s.fpSubmit f.val last (.opSub f last rd ra b))

/-- AND. -/
def execOpAnd (f : Fin 10) (last : Bool) (rd ra : FpReg) (b : FpSrc) (s : State) : Outcome State Fault Refusal :=
  .next (s.fpSubmit f.val last (.opAnd f last rd ra b))

/-- OR. -/
def execOpOr (f : Fin 10) (last : Bool) (rd ra : FpReg) (b : FpSrc) (s : State) : Outcome State Fault Refusal :=
  .next (s.fpSubmit f.val last (.opOr f last rd ra b))

/-- XOR. -/
def execOpXor (f : Fin 10) (last : Bool) (rd ra : FpReg) (b : FpSrc) (s : State) : Outcome State Fault Refusal :=
  .next (s.fpSubmit f.val last (.opXor f last rd ra b))

/-- ANDN. -/
def execAndn (f : Fin 10) (last : Bool) (rd ra : FpReg) (b : FpSrc) (s : State) : Outcome State Fault Refusal :=
  .next (s.fpSubmit f.val last (.andn f last rd ra b))

/-- SHL. -/
def execShl (f : Fin 10) (last : Bool) (rd ra : FpReg) (b : FpSrc) (s : State) : Outcome State Fault Refusal :=
  .next (s.fpSubmit f.val last (.shl f last rd ra b))

/-- SHR. -/
def execShr (f : Fin 10) (last : Bool) (rd ra : FpReg) (b : FpSrc) (s : State) : Outcome State Fault Refusal :=
  .next (s.fpSubmit f.val last (.shr f last rd ra b))

/-- SHRA. -/
def execShra (f : Fin 10) (last : Bool) (rd ra : FpReg) (b : FpSrc) (s : State) : Outcome State Fault Refusal :=
  .next (s.fpSubmit f.val last (.shra f last rd ra b))

/-- MIN. -/
def execFpMin (f : Fin 10) (last : Bool) (rd ra rb : FpReg) (s : State) : Outcome State Fault Refusal :=
  .next (s.fpSubmit f.val last (.fpMin f last rd ra rb))

/-- MAX. -/
def execFpMax (f : Fin 10) (last : Bool) (rd ra rb : FpReg) (s : State) : Outcome State Fault Refusal :=
  .next (s.fpSubmit f.val last (.fpMax f last rd ra rb))

/-- ABS. -/
def execFpAbs (f : Fin 10) (last : Bool) (rd ra : FpReg) (s : State) : Outcome State Fault Refusal :=
  .next (s.fpSubmit f.val last (.fpAbs f last rd ra))

/-- SEQ. -/
def execSeq (f : Fin 10) (last : Bool) (rd ra : FpReg) (b : FpSrc) (s : State) : Outcome State Fault Refusal :=
  .next (s.fpSubmit f.val last (.seq f last rd ra b))

/-- SLT. -/
def execSlt (f : Fin 10) (last : Bool) (rd ra : FpReg) (b : FpSrc) (s : State) : Outcome State Fault Refusal :=
  .next (s.fpSubmit f.val last (.slt f last rd ra b))

/-- SLTU. -/
def execSltu (f : Fin 10) (last : Bool) (rd ra : FpReg) (b : FpSrc) (s : State) : Outcome State Fault Refusal :=
  .next (s.fpSubmit f.val last (.sltu f last rd ra b))

/-- MOVI. -/
def execMovi (f : Fin 10) (last : Bool) (rd : FpReg) (imm : BitVec 16) (s : State) : Outcome State Fault Refusal :=
  .next (s.fpSubmit f.val last (.movi f last rd imm))

/-- MOVHI. -/
def execMovhi (f : Fin 10) (last : Bool) (rd : FpReg) (imm : BitVec 16) (s : State) : Outcome State Fault Refusal :=
  .next (s.fpSubmit f.val last (.movhi f last rd imm))

/-- MUL. -/
def execOpMul (f : Fin 10) (last : Bool) (rd ra rb : FpReg) (s : State) : Outcome State Fault Refusal :=
  .next (s.fpSubmit f.val last (.opMul f last rd ra rb))

/-- ADDS_H. -/
def execAddsH (f : Fin 10) (last : Bool) (rd ra rb : FpReg) (s : State) : Outcome State Fault Refusal :=
  .next (s.fpSubmit f.val last (.addsH f last rd ra rb))

/-- SUBS_H. -/
def execSubsH (f : Fin 10) (last : Bool) (rd ra rb : FpReg) (s : State) : Outcome State Fault Refusal :=
  .next (s.fpSubmit f.val last (.subsH f last rd ra rb))

/-- MPY. -/
def execMpy (f : Fin 10) (last : Bool) (n : Fin 2) (a b : FpHalf) (s : State) : Outcome State Fault Refusal :=
  .next (s.fpSubmit f.val last (.mpy f last n a b))

/-- MAC. -/
def execMac (f : Fin 10) (last : Bool) (n : Fin 2) (a b : FpHalf) (s : State) : Outcome State Fault Refusal :=
  .next (s.fpSubmit f.val last (.mac f last n a b))

/-- MSU. -/
def execMsu (f : Fin 10) (last : Bool) (n : Fin 2) (a b : FpHalf) (s : State) : Outcome State Fault Refusal :=
  .next (s.fpSubmit f.val last (.msu f last n a b))

/-- ACCADD. -/
def execAccadd (f : Fin 10) (last : Bool) (n : Fin 2) (s : State) : Outcome State Fault Refusal :=
  .next (s.fpSubmit f.val last (.accadd f last n))

/-- ACCSET. -/
def execAccset (f : Fin 10) (last : Bool) (n : Fin 2) (ra : FpReg) (s : State) : Outcome State Fault Refusal :=
  .next (s.fpSubmit f.val last (.accset f last n ra))

/-- ACCSHL. -/
def execAccshl (f : Fin 10) (last : Bool) (n : Fin 2) (imm : Fin 32) (s : State) : Outcome State Fault Refusal :=
  .next (s.fpSubmit f.val last (.accshl f last n imm))

/-- ACCSHR. -/
def execAccshr (f : Fin 10) (last : Bool) (n : Fin 2) (imm : Fin 32) (s : State) : Outcome State Fault Refusal :=
  .next (s.fpSubmit f.val last (.accshr f last n imm))

/-- ACCRD. -/
def execAccrd (f : Fin 10) (last : Bool) (rd : FpReg) (n : Fin 2) (imm : Fin 9) (s : State) : Outcome State Fault Refusal :=
  .next (s.fpSubmit f.val last (.accrd f last rd n imm))

/-- ACCRD_W. -/
def execAccrdW (f : Fin 10) (last : Bool) (rd : FpReg) (n : Fin 2) (s : State) : Outcome State Fault Refusal :=
  .next (s.fpSubmit f.val last (.accrdW f last rd n))

/-- NORM. -/
def execNorm (f : Fin 10) (last : Bool) (rd ra : FpReg) (s : State) : Outcome State Fault Refusal :=
  .next (s.fpSubmit f.val last (.norm f last rd ra))

/-- NORM_H. -/
def execNormH (f : Fin 10) (last : Bool) (rd ra : FpReg) (s : State) : Outcome State Fault Refusal :=
  .next (s.fpSubmit f.val last (.normH f last rd ra))

/-- NORMACC. -/
def execNormacc (f : Fin 10) (last : Bool) (rd : FpReg) (n : Fin 2) (s : State) : Outcome State Fault Refusal :=
  .next (s.fpSubmit f.val last (.normacc f last rd n))

/-- BEXP. -/
def execBexp (f : Fin 10) (last : Bool) (rd ra : FpReg) (s : State) : Outcome State Fault Refusal :=
  .next (s.fpSubmit f.val last (.bexp f last rd ra))

/-- EXPX. -/
def execExpx (f : Fin 10) (last : Bool) (rd fa : FpReg) (s : State) : Outcome State Fault Refusal :=
  .next (s.fpSubmit f.val last (.expx f last rd fa))

/-- FADD. -/
def execFadd (f : Fin 10) (last : Bool) (fd fa fb : FpReg) (s : State) : Outcome State Fault Refusal :=
  .next (s.fpSubmit f.val last (.fadd f last fd fa fb))

/-- FSUB. -/
def execFsub (f : Fin 10) (last : Bool) (fd fa fb : FpReg) (s : State) : Outcome State Fault Refusal :=
  .next (s.fpSubmit f.val last (.fsub f last fd fa fb))

/-- FMUL. -/
def execFmul (f : Fin 10) (last : Bool) (fd fa fb : FpReg) (s : State) : Outcome State Fault Refusal :=
  .next (s.fpSubmit f.val last (.fmul f last fd fa fb))

/-- FMA. -/
def execFma (f : Fin 10) (last : Bool) (fd fa fb fc : FpReg) (s : State) : Outcome State Fault Refusal :=
  .next (s.fpSubmit f.val last (.fma f last fd fa fb fc))

/-- FMS. -/
def execFms (f : Fin 10) (last : Bool) (fd fa fb fc : FpReg) (s : State) : Outcome State Fault Refusal :=
  .next (s.fpSubmit f.val last (.fms f last fd fa fb fc))

/-- FDIV. -/
def execFdiv (f : Fin 10) (last : Bool) (fd fa fb : FpReg) (s : State) : Outcome State Fault Refusal :=
  .next (s.fpSubmit f.val last (.fdiv f last fd fa fb))

/-- FSQRT. -/
def execFsqrt (f : Fin 10) (last : Bool) (fd fa : FpReg) (s : State) : Outcome State Fault Refusal :=
  .next (s.fpSubmit f.val last (.fsqrt f last fd fa))

/-- FSCALE. -/
def execFscale (f : Fin 10) (last : Bool) (fd fa rb : FpReg) (s : State) : Outcome State Fault Refusal :=
  .next (s.fpSubmit f.val last (.fscale f last fd fa rb))

/-- FMIN. -/
def execFmin (f : Fin 10) (last : Bool) (fd fa fb : FpReg) (s : State) : Outcome State Fault Refusal :=
  .next (s.fpSubmit f.val last (.fmin f last fd fa fb))

/-- FMAX. -/
def execFmax (f : Fin 10) (last : Bool) (fd fa fb : FpReg) (s : State) : Outcome State Fault Refusal :=
  .next (s.fpSubmit f.val last (.fmax f last fd fa fb))

/-- FABS. -/
def execFabs (f : Fin 10) (last : Bool) (fd fa : FpReg) (s : State) : Outcome State Fault Refusal :=
  .next (s.fpSubmit f.val last (.fabs f last fd fa))

/-- FNEG. -/
def execFneg (f : Fin 10) (last : Bool) (fd fa : FpReg) (s : State) : Outcome State Fault Refusal :=
  .next (s.fpSubmit f.val last (.fneg f last fd fa))

/-- FCEQ. -/
def execFceq (f : Fin 10) (last : Bool) (rd fa fb : FpReg) (s : State) : Outcome State Fault Refusal :=
  .next (s.fpSubmit f.val last (.fceq f last rd fa fb))

/-- FCLT. -/
def execFclt (f : Fin 10) (last : Bool) (rd fa fb : FpReg) (s : State) : Outcome State Fault Refusal :=
  .next (s.fpSubmit f.val last (.fclt f last rd fa fb))

/-- FCLE. -/
def execFcle (f : Fin 10) (last : Bool) (rd fa fb : FpReg) (s : State) : Outcome State Fault Refusal :=
  .next (s.fpSubmit f.val last (.fcle f last rd fa fb))

/-- FCVT_S_W. -/
def execFcvtSW (f : Fin 10) (last : Bool) (rd ra : FpReg) (s : State) : Outcome State Fault Refusal :=
  .next (s.fpSubmit f.val last (.fcvtSW f last rd ra))

/-- FCVT_W_S. -/
def execFcvtWS (f : Fin 10) (last : Bool) (rd ra : FpReg) (s : State) : Outcome State Fault Refusal :=
  .next (s.fpSubmit f.val last (.fcvtWS f last rd ra))

/-- FCVT_S_Q15. -/
def execFcvtSQ15 (f : Fin 10) (last : Bool) (rd ra : FpReg) (s : State) : Outcome State Fault Refusal :=
  .next (s.fpSubmit f.val last (.fcvtSQ15 f last rd ra))

/-- FCVT_Q15_S. -/
def execFcvtQ15S (f : Fin 10) (last : Bool) (rd ra : FpReg) (s : State) : Outcome State Fault Refusal :=
  .next (s.fpSubmit f.val last (.fcvtQ15S f last rd ra))

/-- MFS. -/
def execMfs (f : Fin 10) (last : Bool) (rd : FpReg) (spr : BitVec 8) (s : State) : Outcome State Fault Refusal :=
  .next (s.fpSubmit f.val last (.mfs f last rd spr))

/-- MTS. -/
def execMts (f : Fin 10) (last : Bool) (spr : BitVec 8) (ra : FpReg) (s : State) : Outcome State Fault Refusal :=
  .next (s.fpSubmit f.val last (.mts f last spr ra))

/-- LD_B. -/
def execLdB (f : Fin 10) (last : Bool) (rd : FpReg) (a : FpAddr) (s : State) : Outcome State Fault Refusal :=
  .next (s.fpSubmit f.val last (.ldB f last rd a))

/-- LD_BU. -/
def execLdBu (f : Fin 10) (last : Bool) (rd : FpReg) (a : FpAddr) (s : State) : Outcome State Fault Refusal :=
  .next (s.fpSubmit f.val last (.ldBu f last rd a))

/-- LD_H. -/
def execLdH (f : Fin 10) (last : Bool) (rd : FpReg) (a : FpAddr) (s : State) : Outcome State Fault Refusal :=
  .next (s.fpSubmit f.val last (.ldH f last rd a))

/-- LD_HU. -/
def execLdHu (f : Fin 10) (last : Bool) (rd : FpReg) (a : FpAddr) (s : State) : Outcome State Fault Refusal :=
  .next (s.fpSubmit f.val last (.ldHu f last rd a))

/-- LD_W. -/
def execLdW (f : Fin 10) (last : Bool) (rd : FpReg) (a : FpAddr) (s : State) : Outcome State Fault Refusal :=
  .next (s.fpSubmit f.val last (.ldW f last rd a))

/-- LD_D. -/
def execLdD (f : Fin 10) (last : Bool) (rd : FpReg) (a : FpAddr) (s : State) : Outcome State Fault Refusal :=
  .next (s.fpSubmit f.val last (.ldD f last rd a))

/-- ST_B. -/
def execStB (f : Fin 10) (last : Bool) (a : FpAddr) (rs : FpReg) (s : State) : Outcome State Fault Refusal :=
  .next (s.fpSubmit f.val last (.stB f last a rs))

/-- ST_H. -/
def execStH (f : Fin 10) (last : Bool) (a : FpAddr) (rs : FpReg) (s : State) : Outcome State Fault Refusal :=
  .next (s.fpSubmit f.val last (.stH f last a rs))

/-- ST_W. -/
def execStW (f : Fin 10) (last : Bool) (a : FpAddr) (rs : FpReg) (s : State) : Outcome State Fault Refusal :=
  .next (s.fpSubmit f.val last (.stW f last a rs))

/-- ST_D. -/
def execStD (f : Fin 10) (last : Bool) (a : FpAddr) (rs : FpReg) (s : State) : Outcome State Fault Refusal :=
  .next (s.fpSubmit f.val last (.stD f last a rs))

/-- FP_FENCE. -/
def execFpFence (f : Fin 10) (last : Bool) (s : State) : Outcome State Fault Refusal :=
  .next (s.fpSubmit f.val last (.fpFence f last))

/-- DEQ. -/
def execDeq (f : Fin 10) (last : Bool) (rd ra rb : FpReg) (s : State) : Outcome State Fault Refusal :=
  .next (s.fpSubmit f.val last (.deq f last rd ra rb))

/-- ENQ. -/
def execEnq (f : Fin 10) (last : Bool) (rd ra : FpReg) (s : State) : Outcome State Fault Refusal :=
  .next (s.fpSubmit f.val last (.enq f last rd ra))

/-- WSPILL. -/
def execWspill (f : Fin 10) (last : Bool) (ra : FpReg) (s : State) : Outcome State Fault Refusal :=
  .next (s.fpSubmit f.val last (.wspill f last ra))

/-- WFILL. -/
def execWfill (f : Fin 10) (last : Bool) (ra : FpReg) (s : State) : Outcome State Fault Refusal :=
  .next (s.fpSubmit f.val last (.wfill f last ra))

/-- BR. -/
def execFpBr (f : Fin 10) (last : Bool) (label : BitVec 16) (s : State) : Outcome State Fault Refusal :=
  .next (s.fpSubmit f.val last (.fpBr f last label))

/-- CALL. -/
def execFpCall (f : Fin 10) (last : Bool) (label : BitVec 16) (s : State) : Outcome State Fault Refusal :=
  .next (s.fpSubmit f.val last (.fpCall f last label))

/-- CALLR. -/
def execCallr (f : Fin 10) (last : Bool) (ra : FpReg) (s : State) : Outcome State Fault Refusal :=
  .next (s.fpSubmit f.val last (.callr f last ra))

/-- BEQZ. -/
def execBeqz (f : Fin 10) (last : Bool) (ra : FpReg) (label : BitVec 16) (s : State) : Outcome State Fault Refusal :=
  .next (s.fpSubmit f.val last (.beqz f last ra label))

/-- BNEZ. -/
def execBnez (f : Fin 10) (last : Bool) (ra : FpReg) (label : BitVec 16) (s : State) : Outcome State Fault Refusal :=
  .next (s.fpSubmit f.val last (.bnez f last ra label))

/-- BLTZ. -/
def execBltz (f : Fin 10) (last : Bool) (ra : FpReg) (label : BitVec 16) (s : State) : Outcome State Fault Refusal :=
  .next (s.fpSubmit f.val last (.bltz f last ra label))

/-- BGEZ. -/
def execBgez (f : Fin 10) (last : Bool) (ra : FpReg) (label : BitVec 16) (s : State) : Outcome State Fault Refusal :=
  .next (s.fpSubmit f.val last (.bgez f last ra label))

/-- RET. -/
def execFpRet (f : Fin 10) (last : Bool) (s : State) : Outcome State Fault Refusal :=
  .next (s.fpSubmit f.val last (.fpRet f last))

/-- XRET. -/
def execXret (f : Fin 10) (last : Bool) (s : State) : Outcome State Fault Refusal :=
  .next (s.fpSubmit f.val last (.xret f last))

/-- LOOP. -/
def execFpLoop (f : Fin 10) (last : Bool) (count : FpSrc) (label : BitVec 16) (s : State) : Outcome State Fault Refusal :=
  .next (s.fpSubmit f.val last (.fpLoop f last count label))

/-- LOOPR. -/
def execLoopr (f : Fin 10) (last : Bool) (count : FpSrc) (label : BitVec 16) (k : Fin 8) (s : State) : Outcome State Fault Refusal :=
  .next (s.fpSubmit f.val last (.loopr f last count label k))

/-- WAIT. -/
def execFpWait (f : Fin 10) (last : Bool) (rd ra : FpReg) (s : State) : Outcome State Fault Refusal :=
  .next (s.fpSubmit f.val last (.fpWait f last rd ra))

/-- TRAP. -/
def execFpTrap (f : Fin 10) (last : Bool) (imm : Fin 16) (s : State) : Outcome State Fault Refusal :=
  .next (s.fpSubmit f.val last (.fpTrap f last imm))

end Sys2Proof.Machine
end

