-- ==== Sys2Proof/Machine/Sign.lean ====
section
/-! DEFINITION. The signatures of the image (R421): SHA-256 (FIPS 180-4) and the verification of ECDSA over P-256 (FIPS 186), both named
by the rule and laid down outside the spec (PRESUMED). -/
namespace Sys2Proof.Machine

/-- The numbers of FIPS 180-4 that the constants come from: the primes below `n`. -/
def primesBelow (n : Nat) : List Nat :=
  (List.range n).filter (fun p => decide (2 ≤ p) && (List.range p).all (fun d => decide (d < 2) || p % d != 0))

/-- The greatest number below `2 ^ b`, from `r` on, whose `k`-th power is at most `x`, found bit by bit. -/
def rootFrom (k x : Nat) : Nat → Nat → Nat
  | 0, r => r
  | b + 1, r => rootFrom k x b (if (r + 2 ^ b) ^ k ≤ x then r + 2 ^ b else r)

/-- The first 32 bits of the fraction of the `k`-th root of `p`. -/
def rootFraction (k p : Nat) : Nat := rootFrom k (p * 2 ^ (32 * k)) 37 0 % 2 ^ 32

/-- The round constants: cube roots of the first 64 primes. -/
def shaK : List Nat := (primesBelow 312).map (rootFraction 3)

/-- The initial words: square roots of the first eight primes. -/
def shaH (i : Nat) : Word := BitVec.ofNat 32 (rootFraction 2 ((primesBelow 20).getD i 0))

/-- The eight working words. -/
structure Sha where
  a : Word
  b : Word
  c : Word
  d : Word
  e : Word
  f : Word
  g : Word
  h : Word
deriving DecidableEq, Repr

def Sha.init : Sha :=
  { a := shaH 0, b := shaH 1, c := shaH 2, d := shaH 3, e := shaH 4, f := shaH 5, g := shaH 6, h := shaH 7 }

/-- One round with a message word and its constant. -/
def shaRound (x : Sha) (w k : Word) : Sha :=
  let s1 := x.e.rotateRight 6 ^^^ x.e.rotateRight 11 ^^^ x.e.rotateRight 25
  let ch := (x.e &&& x.f) ^^^ (~~~x.e &&& x.g)
  let t1 := x.h + s1 + ch + k + w
  let s0 := x.a.rotateRight 2 ^^^ x.a.rotateRight 13 ^^^ x.a.rotateRight 22
  let maj := (x.a &&& x.b) ^^^ (x.a &&& x.c) ^^^ (x.b &&& x.c)
  { a := t1 + (s0 + maj), b := x.a, c := x.b, d := x.c, e := x.d + t1, f := x.e, g := x.f, h := x.g }

/-- The message schedule, newest word first: `n` further words. -/
def shaSchedule : Nat → List Word → List Word
  | 0, l => l
  | n + 1, l =>
    let w := fun k => l.getD (k - 1) 0
    let s0 := (w 15).rotateRight 7 ^^^ (w 15).rotateRight 18 ^^^ ((w 15) >>> 3)
    let s1 := (w 2).rotateRight 17 ^^^ (w 2).rotateRight 19 ^^^ ((w 2) >>> 10)
    shaSchedule n ((w 16 + s0 + w 7 + s1) :: l)

/-- All rounds over one block of 16 words. -/
def shaBlock (x : Sha) (ws : List Word) : Sha :=
  let sched := (shaSchedule 48 ws.reverse).reverse
  let y := (sched.zip shaK).foldl (fun z p => shaRound z p.1 (BitVec.ofNat 32 p.2)) x
  { a := x.a + y.a, b := x.b + y.b, c := x.c + y.c, d := x.d + y.d, e := x.e + y.e, f := x.f + y.f, g := x.g + y.g, h := x.h + y.h }

/-- Bytes as big-endian words. -/
def beWords : List Nat → List Word
  | a :: b :: c :: d :: t => BitVec.ofNat 32 (((a * 256 + b) * 256 + c) * 256 + d) :: beWords t
  | _ => []

/-- The blocks of a message of words, at most `n` of them. -/
def shaBlocks : Nat → Sha → List Word → Sha
  | 0, x, _ => x
  | n + 1, x, l => if l.isEmpty then x else shaBlocks n (shaBlock x (l.take 16)) (l.drop 16)

/-- `n` bytes of a number, highest first. -/
def beBytes : Nat → Nat → List Nat
  | 0, _ => []
  | n + 1, x => x / 256 ^ n % 256 :: beBytes n x

/-- Bytes as a number, the first highest (ECDSA integers and coordinates of the image). -/
def ofBE (l : List Nat) : Nat := l.foldl (fun a b => a * 256 + b % 256) 0

/-- SHA-256 of a list of bytes, as a number. -/
def sha256 (m : List Nat) : Nat :=
  let n := m.length
  let padded := m ++ [0x80] ++ List.replicate ((119 - n % 64) % 64) 0 ++ beBytes 8 (8 * n)
  let x := shaBlocks (padded.length / 64) Sha.init (beWords padded)
  ofBE ([x.a, x.b, x.c, x.d, x.e, x.f, x.g, x.h].flatMap (fun w => beBytes 4 w.toNat))

/-! ### P-256 -/

def p256p : Nat := 0xFFFFFFFF00000001000000000000000000000000FFFFFFFFFFFFFFFFFFFFFFFF
/-- The group order n. -/
def p256n : Nat := 0xFFFFFFFF00000000FFFFFFFFFFFFFFFFBCE6FAADA7179E84F3B9CAC2FC632551
def p256b : Nat := 0x5AC635D8AA3A93E7B3EBBD55769886BC651D06B0CC53B0F63BCE3C3E27D2604B
def p256g : Nat × Nat :=
  (0x6B17D1F2E12C4247F8BCE6E563A440F277037D812DEB33A0F4A13945D898C296,
   0x4FE342E2FE1A7F9B8EE7EB4A7C0F9E162BCE33576B315ECECBB6406837BF51F5)

/-- `b ^ e` modulo `m` over the low `k` bits of `e`. -/
def powMod : Nat → Nat → Nat → Nat → Nat
  | 0, _, _, m => 1 % m
  | k + 1, b, e, m =>
    let r := powMod k (b * b % m) (e / 2) m
    if e % 2 = 1 then r * b % m else r

/-- The inverse modulo a prime. -/
def invMod (x m : Nat) : Nat := powMod 256 (x % m) (m - 2) m

/-- A point of the curve, none at infinity. -/
abbrev EcPoint := Option (Nat × Nat)

/-- Subtraction modulo the field prime. -/
def subP (a b : Nat) : Nat := (a + p256p - b % p256p) % p256p

/-- The sum of two points. -/
def ecAdd (a b : EcPoint) : EcPoint :=
  match a, b with
  | none, q => q
  | p, none => p
  | some (x1, y1), some (x2, y2) =>
    if x1 = x2 ∧ (y1 + y2) % p256p = 0 then none
    else
      let l := if x1 = x2 then subP (3 * x1 * x1 % p256p) 3 * invMod (2 * y1) p256p % p256p
        else subP y2 y1 * invMod (subP x2 x1) p256p % p256p
      let x3 := subP (subP (l * l % p256p) x1) x2
      some (x3, subP (l * subP x1 x3 % p256p) y1)

/-- A multiple of a point over the low `k` bits of the factor. -/
def ecMul : Nat → Nat → EcPoint → EcPoint
  | 0, _, _ => none
  | k + 1, e, p =>
    let r := ecMul k (e / 2) (ecAdd p p)
    if e % 2 = 1 then ecAdd r p else r

/-- A public key lies on the curve. -/
def onCurve (q : Nat × Nat) : Bool :=
  decide (q.1 < p256p ∧ q.2 < p256p) && (q.2 * q.2) % p256p == (subP (q.1 * q.1 % p256p * q.1 % p256p) (3 * q.1) + p256b) % p256p

/-- R421: the verification of a signature r, s over a message; r and s lie in 1…n − 1. -/
def ecdsaOk (key : Nat × Nat) (r s : Nat) (msg : List Nat) : Bool :=
  if 1 ≤ r ∧ r < p256n ∧ 1 ≤ s ∧ s < p256n ∧ onCurve key = true then
    let e := sha256 msg % p256n
    let w := invMod s p256n
    match ecAdd (ecMul 256 (e * w % p256n) (some p256g)) (ecMul 256 (r * w % p256n) (some key)) with
    | none => false
    | some (x, _) => x % p256n == r
  else false

end Sys2Proof.Machine
end

