-- ==== Sys2Proof/Machine/Image.lean ====
section
/-! DEFINITION. The Pitch key as bytes (R412–R414), and the checks of an image that need nothing but its bytes: orders 1–9 of R424 over the
header, the section table and the signatures (R416, R417, R421, R422). -/
namespace Sys2Proof.Machine

/-! ### Flash -/

/-- `n` bytes from address `a` of a table whose keys are all `a` or above. -/
def flashRun : Nat → Nat → Sparse Byte → List Nat
  | 0, _, _ => []
  | n + 1, a, [] => 255 :: flashRun n (a + 1) []
  | n + 1, a, (k, b) :: t => if k = a then b.toNat :: flashRun n (a + 1) t else 255 :: flashRun n (a + 1) ((k, b) :: t)

/-- The `n` bytes of the key from address `a`. -/
def keyBytes (m : Sparse Byte) (a n : Nat) : List Nat := flashRun n a (m.dropWhile (fun p => decide (p.1 < a)))

/-- Programming: bytes at consecutive addresses, into erased cells. -/
def flashPut (m : Sparse Byte) (a : Nat) : List Nat → Sparse Byte
  | [] => m
  | b :: t => flashPut (m.put (255#8) a (BitVec.ofNat 8 b)) (a + 1) t

/-- Erase of `n` bytes from `a`. -/
def flashErase (m : Sparse Byte) (a n : Nat) : Sparse Byte := m.filter (fun p => decide (p.1 < a ∨ a + n ≤ p.1))

/-- A flash from its bytes. -/
def flashOf : List (Nat × Byte) → Sparse Byte
  | [] => []
  | (a, b) :: t => (flashOf t).put (255#8) a b

/-- Bytes `k`… of a list as an `n`-byte number. -/
def leAt (l : List Nat) (k n : Nat) : Nat := ofBytes ((l.drop k).take n)

/-- Bytes `a`…`b − 1` of a list are 0. -/
def zeros (l : List Nat) (a b : Nat) : Bool := ((l.drop a).take (b - a)).all (· == 0)

/-- The lowest address of a list in `a`…`a + n − 1`. -/
def lowest (l : List Nat) (a n : Nat) : Option Nat :=
  l.foldl (fun m x => if a ≤ x ∧ x < a + n then (match m with
    | some y => some (min x y)
    | none => some x) else m) none

/-! ### Descriptor and journal (R413, R414) -/

/-- The 64 bytes of a descriptor. -/
def Desc.bytes (d : Desc) : List Nat :=
  let body := [0x50, 0x4B, 0x45, 0x59] ++ bytesOf 8 d.uid ++ [d.floor % 256, d.stA % 256, d.stB % 256, 0] ++ bytesOf 2 d.dseq ++ List.replicate 42 0
  body ++ bytesOf 4 (crc32c body)

/-- A valid copy. -/
def descOf (l : List Nat) : Option Desc :=
  if l.take 4 = [0x50, 0x4B, 0x45, 0x59] ∧ crc32c (l.take 60) = leAt l 60 4 then
    some { uid := leAt l 4 8, floor := leAt l 12 1, stA := leAt l 13 1, stB := leAt l 14 1, dseq := leAt l 16 2 }
  else none

/-- Copy `k` of the descriptor. -/
def descCopy (m : Sparse Byte) (k : Nat) : Option Desc := descOf (keyBytes m (4096 * k) 64)

/-- A blank key: both slots EMPTY, both floors 0. -/
def Desc.blank : Desc := { uid := 0, floor := 0, stA := 0, stB := 0, dseq := 0 }

/-- The descriptor in force and its copy, 2 when there is none; bytes 4–11 of copy 0 are the identity of a key without a valid copy. -/
def descInForce (m : Sparse Byte) : Nat × Desc :=
  match descCopy m 0, descCopy m 1 with
  | some a, some b => if newer16 b.dseq a.dseq then (1, b) else (0, a)
  | some a, none => (0, a)
  | none, some b => (1, b)
  | none, none => (2, { Desc.blank with uid := leAt (keyBytes m 4 8) 0 8 })

/-- The first address of the journal, and its sectors. -/
def journalAt : Nat := 0x10000
def journalSector : Nat := 0x10000

/-- Entry indexes of the journal with a byte that is not erased, ascending. -/
def journalUsed (m : Sparse Byte) : List Nat :=
  ((m.filter (fun p => decide (journalAt ≤ p.1 ∧ p.1 < 0x30000))).map (fun p => (p.1 - journalAt) / 16)).eraseReps

/-- A valid entry's count. -/
def journalEntry (m : Sparse Byte) (bad : List Nat) (i : Nat) : Option Nat :=
  let l := keyBytes m (journalAt + 16 * i) 16
  let c := leAt l 0 4
  if lowest bad (journalAt + 16 * i) 16 = none ∧ leAt l 4 4 = 0xFFFFFFFF - c ∧ zeros l 8 12 ∧ crc32c (l.take 8) = leAt l 12 4 then some c else none

/-- The largest valid entry, with its index. -/
def journalTop (m : Sparse Byte) (bad : List Nat) : Option (Nat × Nat) :=
  (journalUsed m).foldl (fun best i => match journalEntry m bad i, best with
    | some c, some (x, j) => if x < c then some (c, i) else some (x, j)
    | some c, none => some (c, i)
    | none, b => b) none

/-- The count of this power cycle (R414), modulo 2³². -/
def journalCount (m : Sparse Byte) (bad : List Nat) : Nat :=
  match journalTop m bad with
  | some (c, _) => (c + 1) % 4294967296
  | none => 1

/-- The journal with a count appended in the active sector, the one that holds the largest entry, or in the other one, erased, when that is full. -/
def journalAppend (m : Sparse Byte) (c : Nat) : Sparse Byte :=
  let sec := match journalTop m [] with
    | some (_, i) => i / 4096
    | none => 0
  let used := (journalUsed m).filter (fun i => i / 4096 == sec)
  let next := used.foldl (fun n i => max n (i + 1)) (sec * 4096)
  let body := bytesOf 4 c ++ bytesOf 4 (0xFFFFFFFF - c)
  let entry := body ++ [0, 0, 0, 0] ++ bytesOf 4 (crc32c body)
  if next < (sec + 1) * 4096 then flashPut m (journalAt + 16 * next) entry
  else
    let o := journalAt + (1 - sec) * journalSector
    flashPut (flashErase m o journalSector) o entry

/-! ### Slots (R412, R423) -/

def slotBase (k : Nat) : Nat := if k = 0 then 0x01000000 else 0x03000000
def slotSize : Nat := 0x2000000

def slEMPTY : Nat := 0
def slWRITING : Nat := 1
def slPENDING : Nat := 2
def slACTIVE : Nat := 3
def slINACTIVE : Nat := 4
def slBAD : Nat := 5

def Desc.st (d : Desc) (k : Nat) : Nat := if k = 0 then d.stA else d.stB
def Desc.setSt (d : Desc) (k x : Nat) : Desc := if k = 0 then { d with stA := x } else { d with stB := x }

/-- The slots in the order they are tried (R423). -/
def slotOrder (d : Desc) : List Nat :=
  [slPENDING, slACTIVE, slINACTIVE].flatMap (fun x => [0, 1].filter (fun k => d.st k == x))

/-! ### The image (R416, R417, R421, R424) -/

/-- A refusal: code of R424, register or key address at fault, entry index where an entry is at fault. -/
structure Refuse where
  code : Nat
  addr : Nat
  idx : Option Nat
deriving DecidableEq, Repr

/-- A section-table entry: its number, type, offset, length and CRC. -/
structure Sect where
  i : Nat
  type : Nat
  ofs : Nat
  len : Nat
  crc : Nat
deriving DecidableEq, Repr

def hdrSections (h : List Nat) : Nat := leAt h 9 1
def hdrLen (h : List Nat) : Nat := leAt h 12 4
def hdrRollback (h : List Nat) : Nat := leAt h 16 1

/-- Entry `i` of the section table. -/
def sectAt (h : List Nat) (i : Nat) : Sect :=
  let l := (h.drop (192 + 32 * i)).take 32
  { i := i, type := leAt l 0 2, ofs := leAt l 4 4, len := leAt l 8 4, crc := leAt l 12 4 }

/-- The entries in use. -/
def sects (h : List Nat) : List Sect := (List.range (min (hdrSections h) 96)).map (sectAt h)

/-- The bytes of a section. -/
def sectBytes (m : Sparse Byte) (base : Nat) (s : Sect) : List Nat := keyBytes m (base + s.ofs) s.len

/-- Bytes 8–11 of the reserved fields of the header, and the others that read 0 (R416), by offset and end. -/
def hdrReserved : List (Nat × Nat) := [(10, 12), (17, 24), (32, 40), (176, 192), (3264, 4096)]

/-- Check 2: the offset at fault. -/
def checkFormat (h : List Nat) : Option Nat :=
  if h.take 4 ≠ [0x50, 0x54, 0x43, 0x48] then some 0
  else if hdrLen h % 4 ≠ 0 ∨ hdrLen h < 8192 ∨ slotSize < hdrLen h then some 12
  else (hdrReserved.find? (fun p => !zeros h p.1 p.2)).map (·.1)

/-- Checks 1–4 on the header of the slot at `base`; `bad` are the key addresses whose reads do not complete. -/
def checkHeader (m : Sparse Byte) (bad : List Nat) (base : Nat) : Option Refuse :=
  let h := keyBytes m base 4096
  match lowest bad base 4096 with
  | some a => some ⟨1, a, none⟩
  | none => match checkFormat h with
    | some o => some ⟨2, base + o, none⟩
    | none =>
      if leAt h 8 1 ≠ 3 ∨ Config.revision.toNat / 256 ≠ 3 then some ⟨3, base + 8, none⟩
      else if leAt h 4 2 ≠ 2 then some ⟨4, base + 4, none⟩
      else none

/-- Check 1 on the rest of the image. -/
def checkRead (m : Sparse Byte) (bad : List Nat) (base : Nat) : Option Refuse :=
  (lowest bad base (hdrLen (keyBytes m base 4096))).map (fun a => ⟨1, a, none⟩)

/-- A signature r, s in 64 bytes, under a key. -/
def signed (key : Nat × Nat) (sig msg : List Nat) : Bool := ecdsaOk key (ofBE (sig.take 32)) (ofBE ((sig.drop 32).take 32)) msg

/-- The integrator's key (R416). -/
def intKey (h : List Nat) : Nat × Nat := (ofBE ((h.drop 48).take 32), ofBE ((h.drop 80).take 32))

/-- A firmware section carries a signature of the root key over the rest of the section. -/
def fwSigned (root : Nat × Nat) (b : List Nat) : Bool := 64 ≤ b.length && signed root (b.drop (b.length - 64)) (b.take (b.length - 64))

/-- Checks 5–8. -/
def checkSigned (root : Nat × Nat) (floor : Nat) (m : Sparse Byte) (base : Nat) : Option Refuse :=
  let h := keyBytes m base 4096
  let n := hdrLen h
  if ¬ signed root ((h.drop 112).take 64) ((h.drop 40).take 72) then some ⟨5, base + 112, none⟩
  else if ¬ signed (intKey h) (keyBytes m (base + n - 64) 64) (keyBytes m base (n - 64)) then some ⟨6, base + n - 64, none⟩
  else match (sects h).find? (fun s => (s.type == 4 || s.type == 5) && !fwSigned root (sectBytes m base s)) with
    | some s => some ⟨7, base + s.ofs, some s.i⟩
    | none => if hdrRollback h < floor then some ⟨8, base + 16, none⟩ else none

/-- The types of R417. -/
def typeKnown (t : Nat) : Bool := (1 ≤ t && t ≤ 7) || (0xF0 ≤ t && t ≤ 0xFF)

/-- A section lies inside the image, ends before its signature, and keeps the rules of R417 for one entry. -/
def sectOk (h : List Nat) (s : Sect) : Bool :=
  typeKnown s.type && s.ofs % 4 == 0 && 4096 ≤ s.ofs && s.ofs + s.len ≤ hdrLen h - 64 && zeros h (192 + 32 * s.i + 16) (192 + 32 * s.i + 32)

/-- Two sections overlap. -/
def Sect.overlaps (a b : Sect) : Bool := a.ofs < b.ofs + b.len && b.ofs < a.ofs + a.len

def sectCount (h : List Nat) (t : Nat) : Nat := ((sects h).filter (·.type == t)).length

/-- The counts of R417: exactly one of types 1, 3, 4, 5, at most one of 2, 6, 7. -/
def countsOk (h : List Nat) : Bool :=
  [1, 3, 4, 5].all (fun t => sectCount h t == 1) && [2, 6, 7].all (fun t => decide (sectCount h t ≤ 1))

/-- Check 9. -/
def checkSections (m : Sparse Byte) (base : Nat) : Option Refuse :=
  let h := keyBytes m base 4096
  let l := sects h
  if hdrSections h = 0 ∨ 96 < hdrSections h then some ⟨9, base + 9, none⟩
  else match l.find? (fun s => !sectOk h s || l.any (fun b => decide (b.i < s.i) && s.overlaps b) || crc32c (sectBytes m base s) != s.crc) with
    | some s => some ⟨9, base + 192 + 32 * s.i, some s.i⟩
    | none =>
      if ¬ zeros h (192 + 32 * hdrSections h) 3264 then some ⟨9, base + 192 + 32 * hdrSections h, some (hdrSections h)⟩
      else if ¬ countsOk h then some ⟨9, base + 192, none⟩
      else none

/-- The bytes of the section of a type, none where the image has no such section. -/
def sectOf (m : Sparse Byte) (base t : Nat) : List Nat :=
  match (sects (keyBytes m base 4096)).find? (·.type == t) with
  | some s => sectBytes m base s
  | none => []

/-- The key address of the section of a type. -/
def sectPlace (m : Sparse Byte) (base t : Nat) : Nat :=
  match (sects (keyBytes m base 4096)).find? (·.type == t) with
  | some s => base + s.ofs
  | none => base

end Sys2Proof.Machine
end

