-- ==== Sys2Proof/Machine/Fp.lean ====
section
/-! DEFINITION. What happens to the field processors from outside their instruction stream: stalls, drains, queue completions, the inbox,
the watchdog, the spares policy and the peek port (R293, R300, R304–R307, R313–R318). -/
namespace Sys2Proof.Machine

open Host (Outcome)

/-- Some operation of a stalled bundle waits for a buffered store (R306). -/
def waitsForStore (ops : List OpRes) : Bool := ops.any OpRes.fwd

/-- R300: a stalled bundle issues when nothing holds it any more.  The cycles a store overlap cost, at most 11 (R306), are counted; their
number is free. -/
def stallRelease (s : State) (f : Nat) : State :=
  let c := s.core f
  if ¬ c.stalled ∨ s.fpState f ≠ fpRUNNING then s
  else
    let ops := c.bundle.map (fpEval s f)
    if c.notReady ops ∨ ops.any OpRes.stall then s
    else s.fpIssue f c.bundle ops

def execStallRelease (f : Fin 10) (s : State) : Outcome State Fault Refusal := .next (s.lit (stallRelease s f.val))

/-- R306: the bundle of `f` waits for a buffered store that drains now. -/
def State.fwdStalled (s : State) (f : Nat) : Bool :=
  let c := s.core f
  c.stalled && waitsForStore (c.bundle.map (fpEval s f))

/-- R305: the oldest buffered store drains; the last one a stalled load waits for ends a stall of 1 to 11 cycles. -/
def storeDrain (s : State) (f : Nat) : State :=
  let was := s.fwdStalled f
  let s := s.modCore f FpCore.drain
  if was ∧ ¬ s.fwdStalled f then { s with free := s.free + 1 }.incBy (rFP_CNT_FWDSTALL f) (1 + Config.freeAt s.free 2 % 11) else s

def execStoreDrain (f : Fin 10) (s : State) : Outcome State Fault Refusal := .next (s.lit (storeDrain s f.val))

/-- A deferred destination takes a value: a physical register plus 1, 0 for g0. -/
def FpCore.setDest (c : FpCore) (d : Nat) (v : Word) : FpCore := if d = 0 then c else c.setPhys (d - 1) v

/-- R304: the oldest DEQ completes. -/
def deqComplete (s : State) (f : Nat) : State :=
  match (s.core f).deqs with
  | [] => s
  | (rd, q, a) :: t =>
    let s := s.modCore f (fun c => { c with deqs := t })
    if (s.qd q).owner = f ∧ isFpQueue q then
      match s.deq q with
      | some (r, s) => s.modCore f (fun c => (c.setBytes a r.slot.toNat 32).setDest rd 1)
      | none => s.modCore f (fun c => c.setDest rd 0)
    else s.modCore f (fun c => c.setDest rd 0)

def execDeqComplete (f : Fin 10) (s : State) : Outcome State Fault Refusal := .next (s.lit (deqComplete s f.val))

/-- R304: the oldest ENQ completes; rd reads 1, or the failed check in bits 7:4. -/
def enqComplete (s : State) (f : Nat) : State :=
  match (s.core f).enqs with
  | [] => s
  | (rd, r) :: t =>
    let x := (s.modCore f (fun c => { c with enqs := t })).enqueue r
    x.1.modCore f (fun c => c.setDest rd (if x.2 = 0 then 1 else BitVec.ofNat 32 (x.2 * 16)))

def execEnqComplete (f : Fin 10) (s : State) : Outcome State Fault Refusal := .next (s.lit (enqComplete s f.val))

/-- R293: the oldest entry on its way is written into the inbox ring, before `INBOX_WR` advances; one that overwrites the entry at
`INBOX_RD` advances that too. -/
def inboxWrite (s : State) (f : Nat) : State :=
  match (s.core f).inPend with
  | [] => s
  | e :: t =>
    let w := s.fld (fFP_INBOX_INBOX_WR f)
    let r := s.fld (fFP_INBOX_INBOX_RD f)
    let full := (s.core f).inFull
    let r' := if full then (r + 1) % 512 else r
    let s := s.modCore f (fun c => { c.setBytes (0x1E000 + 16 * w) e.toNat 16 with inPend := t, inFull := (w + 1) % 512 == r' })
    let s := s.setF (fFP_INBOX_INBOX_WR f) ((w + 1) % 512)
    let s := if s.on (fFP_STATUS_WAITING f) then s.modCore f (fun c => { c with evInbox := true }) else s
    if full then
      (((s.setF (fFP_INBOX_INBOX_RD f) r').inc (rFP_CNT_INBOX_OVR f)).set1 (fFP_EVENTS_INBOX_OVR f)).raiseSec 0x0908 f
    else s

def execInboxWrite (f : Fin 10) (s : State) : Outcome State Fault Refusal := .next (s.lit (inboxWrite s f.val))

/-- R304: a wake condition of WAIT; rd reads what has come. -/
def waitWake (s : State) (f : Nat) (cycle : Bool) : State :=
  let c := s.core f
  let v := (if c.evRec then 1 else 0) + (if c.evInbox then 2 else 0) + (if cycle then 4 else 0)
  if s.on (fFP_STATUS_WAITING f) ∧ v ≠ 0 then
    (s.clr (fFP_STATUS_WAITING f)).setCore f { c.setDest c.waitRd (BitVec.ofNat 32 v) with evRec := false, evInbox := false }
  else s

def execWaitWake (f : Fin 10) (cycle : Bool) (s : State) : Outcome State Fault Refusal := .next (s.lit (waitWake s f.val cycle))

/-- R313. -/
def watchdogExpiry (s : State) (f : Nat) : State :=
  if s.fpState f = fpRUNNING ∧ s.fld (fFP_CFG_WDOG f) ≠ 0 then s.fpHalt f 3 else s

def execWatchdogExpiry (f : Fin 10) (s : State) : Outcome State Fault Refusal := .next (s.lit (watchdogExpiry s f.val))

/-- R315: `SBX_LEFT` reaches 0: BUDGET, before the next bundle. -/
def sandboxBudget (s : State) (f : Nat) : State :=
  if s.fpState f = fpRUNNING ∧ s.sbxm f then
    let s := s.modCore f (fun c => { c with sbxLeft := 0 })
    s.fpTrapAt f 9 none (s.core f).pc
  else s

def execSandboxBudgetExhausted (f : Fin 10) (s : State) : Outcome State Fault Refusal := .next (s.lit (sandboxBudget s f.val))

/-! ### Spares (R316–R318) -/

/-- The cell and role of a processor leave it. -/
def State.fpRelieve (s : State) (f : Nat) : State := (s.clr (fFP_STATUS_CELL_VALID f)).setF (fFP_STATUS_ROLE f) 2

/-- Processor `t` enters LOADING for role `r` of cell `c`, from the SRAMs of `f`. -/
def State.fpLoadFrom (s : State) (t f c r : Nat) : State :=
  let s := ((s.setF (fFP_STATUS_STATE t) fpLOADING).setF (fFP_STATUS_CELL t) c).setF (fFP_STATUS_ROLE t) r
  let s := (s.set1 (fFP_STATUS_CELL_VALID t)).modCore t (fun c => { c with bundle := [], stalled := false })
  { s with fp := { s.fp with loads := s.fp.loads ++ [(t, f)] } }

/-- A spare the policy can take: in SPARE, a self-test in progress aborting. -/
def State.fpSpare (s : State) : Option Nat :=
  if s.fpState 8 = fpSPARE ∨ s.fpState 8 = fpTESTING then some 8
  else if s.fpState 9 = fpSPARE ∨ s.fpState 9 = fpTESTING then some 9 else none

/-- R316: the policy for processor `f`, halted in role `r` of cell `c`. -/
def State.fpPolicy (s : State) (f c r : Nat) : State :=
  let promoted := s.on (fFLT_CELL_PROMOTED c)
  if s.inBiv then
    let s := (s.fpRelieve f).raiseStop 0x0905 f
    if promoted ∧ r = 0 then s.giveOrSs1 c else s.requestSs1 c
  else match s.fpSpare with
    | some t =>
      let s := (((s.fpRelieve f).fpLoadFrom t f c r).set1 (fFP_EVENTS_SPARE_IN t)).set1 (fFLT_CELL_FP_SPARE_USED c)
      (if s.fpSpare = none then s.set1 fFLT_EVENTS_SPARE_EXHAUSTED else s).raise 0x0902 t
    | none =>
      if r = 0 then
        match s.fpOf c 1 with
        | some t =>
          let s := ((s.fpRelieve f).fpLoadFrom t f c 0).set1 (fFP_EVENTS_PROMOTED t)
          ((s.set1 (fFLT_CELL_PROMOTED c)).obsStopped c).raise 0x0903 t
        | none =>
          let s := (s.fpRelieve f).raiseStop 0x0905 f
          if promoted then s.giveOrSs1 c else s.requestSs1 c
      else ((s.fpRelieve f).obsStopped c).raise 0x0904 f

/-- R316: the policy acts on the halted processor `f`. -/
def State.servePolicy (s : State) (f : Nat) : State :=
  let s := { s with fp := { s.fp with owed := s.fp.owed.filter (fun x => x != f) } }
  if s.on (fFP_STATUS_CELL_VALID f) then s.fpPolicy f (s.fld (fFP_STATUS_CELL f)) (s.fld (fFP_STATUS_ROLE f)) else s

/-- The place of a halted processor in the policy's order: the MGMT period of its halt (5 ns of the count, DEDUCED, log 104), then cell, then
control before observer (R365). -/
def State.policyKey (s : State) (f : Nat) : Nat :=
  ((s.core f).haltAt / 1280 * 4 + s.fld (fFP_STATUS_CELL f)) * 4 + s.fld (fFP_STATUS_ROLE f)

/-- The halted processor that the policy serves next. -/
def State.nextOwed (s : State) : List Nat → Option Nat
  | [] => none
  | f :: t => match s.nextOwed t with
    | none => some f
    | some g => if s.policyKey g < s.policyKey f then some g else some f

/-- The policy serves what stands before `f`, then `f`. -/
def State.serveThrough (s : State) (f : Nat) : Nat → State
  | 0 => s.servePolicy f
  | n + 1 => match s.nextOwed s.fp.owed with
    | none => s
    | some g => if g = f then s.servePolicy f else (s.servePolicy g).serveThrough f n

/-- R316, R365: the policy acts on a halted processor, after those whose turn comes first. -/
def sparesPolicy (s : State) (f : Nat) : State :=
  if s.fp.owed.contains f then s.serveThrough f s.fp.owed.length else s

def execSparesPolicy (f : Fin 10) (s : State) : Outcome State Fault Refusal := .next (s.lit (sparesPolicy s f.val))

/-- The queues with an owner `f` in their descriptor. -/
def State.ownedBy (s : State) (f : Nat) : List Nat := (s.hq.queues.filter (fun e => e.2.owner == f)).map Prod.fst

/-- R304, R317: processor `t` takes generation `g`, and with it the queues it owns and the one it feeds. -/
def State.fpTakeGen (s : State) (t c r g : Nat) : State :=
  let s := s.setF (fFP_GEN_FGEN t) g
  let s := s.forEach (fun s q => s.setGen q g) (s.ownedBy t)
  if r = 0 then (if s.fld (fBND_ST_CFG_METHOD c) = 2 then s else s.setGen (0x841 + 16 * c) g) else s.setGen (0x881 + 16 * s.leOf c) g

/-- R295, R317: the processor starts at its warm entry. -/
def FpCore.warm (c : FpCore) : FpCore :=
  { c with
    pc := (Config.fpEntry true).toNat, wold := 0, rets := [], loops := [], sb := [], bundle := [], stalled := false, deqs := [], enqs := [],
    inPend := [], parity := [] }

/-- SRAM words listed by word number. -/
def sramOf (l : List (Nat × Word)) : Sparse Word := l.foldl (fun m p => m.put 0 p.1 p.2) []

/-- The SRAMs as the firmware section `fw` and the sandbox section `sbx` of an image fill them, with codes of their own. -/
def FpCore.filled (c : FpCore) (fw sbx : List Nat) : FpCore :=
  { c with imem := sramOf (Config.fpImem fw sbx), dmem := sramOf (Config.fpDmem fw), flips := [] }

/-- R317: the SRAMs of `src` copied with correction; an SRAM (`keyI`, `keyD`) that holds an uncorrectable error comes from the sections
of the key.  The spec does not bound the "region" of the rule: an SRAM is one (DESIGN CHOICE, log 96). -/
def FpCore.copied (c src : FpCore) (keyI keyD : Bool) (fw sbx : List Nat) : FpCore :=
  let k := c.filled fw sbx
  { c with imem := if keyI then k.imem else src.imem, dmem := if keyD then k.dmem else src.dmem, flips := [] }

/-- An SRAM word beyond correction, below word 16384 of `FpCore.flips` or from it on. -/
def FpCore.sramLost (c : FpCore) (data : Bool) : Bool := c.flips.any (fun e => decide (2 ≤ e.2) && (decide (16384 ≤ e.1) == data))

/-- R317: the copy is complete: SRAMs, queue owners, generation, warm entry.  `keyI`, `keyD`: the copy has met an uncorrectable error in the
instruction or the data SRAM. -/
def spareLoadDone (s : State) (t : Nat) (keyI keyD : Bool) : State :=
  match s.fp.loads.find? (fun e => e.1 == t) with
  | none => s
  | some (_, f) =>
    let src := s.core f
    let keyI := keyI || src.sramLost false
    let keyD := keyD || src.sramLost true
    let sect := sectOf s.key.flash (slotBase (s.fld fPCH_STATUS_SLOT))
    let s := { s with fp := { s.fp with loads := s.fp.loads.filter (fun e => e.1 != t) } }
    let s := s.eccRead f (src.flips.map Prod.fst)
    let s := s.modCore t (fun c => c.warm.copied src keyI keyD (sect 5) (sect 6))
    let s := if keyI ∨ keyD then s.raise 0x0907 t else s
    let s := s.forEach (fun s q => s.setQd q { s.qd q with owner := t }) (s.ownedBy f)
    let c := s.fld (fFP_STATUS_CELL t)
    let r := s.fld (fFP_STATUS_ROLE t)
    let s := s.fpTakeGen t c r (nextGen (s.fld (fFP_GEN_FGEN f)))
    let s := ((s.setF (fFP_STATUS_WCUR t) 0).setF (fFP_STATUS_WRES t) 1).clr (fFP_STATUS_TRAPM t)
    ((s.clr (fFP_STATUS_SBXM t)).clr (fFP_STATUS_WAITING t)).setF (fFP_STATUS_STATE t) fpRUNNING

def execSpareLoadDone (f : Fin 10) (keyI keyD : Bool) (s : State) : Outcome State Fault Refusal := .next (s.lit (spareLoadDone s f.val keyI keyD))

/-- R318: a spare's pattern self-test begins (`none`), or ends with its verdict. -/
def spareSelfTest (s : State) (f : Nat) (verdict : Option Bool) : State :=
  if s.fpState f = fpSPARE ∨ s.fpState f = fpTESTING then
    match verdict with
    | none => s.setF (fFP_STATUS_STATE f) fpTESTING
    | some true => s.setF (fFP_STATUS_STATE f) fpSPARE
    | some false => ((s.setF (fFP_STATUS_STATE f) fpRETIRED).setF (fFP_HALT_CAUSE f) 5).raise 0x090B f
  else s

def execSpareSelfTest (f : Fin 10) (verdict : Option Bool) (s : State) : Outcome State Fault Refusal := .next (s.lit (spareSelfTest s f.val verdict))

/-! ### The peek port (R307) -/

/-- The SRAM word `FP_PEEK_ADDR` names, in `FpCore.flips`. -/
def State.peekWords (s : State) (f : Nat) : List Nat :=
  let w := s.fld (fFP_PEEK_ADDR_WORD f)
  match s.fld (fFP_PEEK_ADDR_SPACE f) with
  | 0 => if w < 16384 then [w] else []
  | 1 => if w < 32768 then [16384 + w] else []
  | _ => []

/-- The word `FP_PEEK_ADDR` names. -/
def State.peekWord (s : State) (f : Nat) : Word :=
  let c := s.core f
  let w := s.fld (fFP_PEEK_ADDR_WORD f)
  match s.fld (fFP_PEEK_ADDR_SPACE f) with
  | 0 => if w < 16384 then c.imem.at 0 w else 0
  | 1 => if w < 32768 then c.dmem.at 0 w else 0
  | 2 => if w < 296 then c.phys w else 0
  | 3 => (s.sprRead f w).getD 0
  | 4 => match w with
    | 0 => c.acc0.setWidth 32
    | 1 => (c.acc0 >>> 32).setWidth 32
    | 2 => c.acc1.setWidth 32
    | 3 => (c.acc1 >>> 32).setWidth 32
    | _ => 0
  | _ => 0

/-- The microsecond sample of the peek port. -/
def peekSample (s : State) (f : Nat) : State :=
  if s.fpState f = fpOFF then s
  else
    let s := s.eccRead f (s.peekWords f)
    let v := s.peekWord f
    let n := s.rdN (rFP_PEEK_STAT f) / 65536
    let s := { s with free := s.free + 1 }
    (s.wr (rFP_PEEK_DATA f) v).wrN (rFP_PEEK_STAT f) ((n + 1) % 65536 * 65536 + 1)

def execPeekSample (f : Fin 10) (s : State) : Outcome State Fault Refusal := .next (s.lit (peekSample s f.val))

/-! ### FP_CMD -/

/-- The counters of a processor. -/
def fpCounters (f : Nat) : List Nat :=
  [rFP_CNT_FWDSTALL f, rFP_CNT_TRAPS f, rFP_CNT_ECC f, rFP_CNT_INBOX_OVR f, rFP_CNT_SBX f]

/-- `FP_CMD` 0x0001 of processor `f`. -/
def fpClearCounters (s : State) (f : Nat) : State := s.cmd (rFP_CMD f) 0x0001 (fun s => (stDONE, s.zero (fpCounters f)))

def execFpClearCounters (f : Fin 10) (s : State) : Outcome State Fault Refusal := .next (s.lit (fpClearCounters s f.val))

end Sys2Proof.Machine
end

