-- ==== Sys2Proof/Machine/Island.lean ====
section
/-! DEFINITION. What the safety island does to a cell (R325, R331, R333, R335), its FAULT state (R351), the power domains (R440) and the
entry to HALT (R438), which the two share. -/
namespace Sys2Proof.Machine

/-! ### Cells of the island -/

/-- `CSTATE`. -/
def cHELD : Nat := 0
def cCLEAR : Nat := 1
def cNORMAL : Nat := 2
def cSS1 : Nat := 3

def State.cst (s : State) (c : Nat) : Nat := s.fld (fSI_CELL_STATUS_CSTATE c)
def State.setCst (s : State) (c x : Nat) : State := s.setF (fSI_CELL_STATUS_CSTATE c) x
def State.siC (s : State) (c : Nat) : SiCell := s.si.cell.at SiCell.init c
def State.modSi (s : State) (c : Nat) (f : SiCell → SiCell) : State := { s with si := { s.si with cell := s.si.cell.put SiCell.init c (f (s.siC c)) } }

/-- `ISTATE`. -/
def iINIT : Nat := 0
def iACTIVE : Nat := 1
def iFAULT : Nat := 2
def State.ist (s : State) : Nat := s.fld fSI_STATUS_ISTATE

/-- R349: the SAFE_OK pair; a removal counts as confirmed unless `ENABLE_CONFIRM_TIMEOUT` comes. -/
def State.safeOk (s : State) : Bool :=
  s.ist == iACTIVE && (List.range 4).all (fun c => !bit (s.fld fSI_CFG_STO_CELLS) c || decide (s.cst c ≤ cCLEAR))

def State.noteSafe (s : State) : State := s.setB fSI_STATUS_SAFE_OK s.safeOk

/-- R325: both enables of every channel of a cell. -/
def State.cellEnables (s : State) (c : Nat) (on : Bool) : State :=
  s.each (fun s o => if s.cellHas c o then s.setEnables o on on else s) 24

/-- R331: a cell enters STO_HELD; from NORMAL or SS1 its legs are held, the brakes applied and 0x0A01 raised. -/
def State.siHeld (s : State) (c : Nat) : State :=
  let ran := s.cst c = cNORMAL ∨ s.cst c = cSS1
  let s := ((s.setCst c cHELD).modSi c (fun q => { q with lead := false, ss1r := false })).cellEnables c false
  let s := if s.on (fSI_CELL_CFG_SBC_EN c) then s.brakeApply c else s
  (if ran then ((s.cellHold c).stHalt c).siRaise 0x0A01 c else s).noteSafe

/-! ### Power domains (R441) -/

/-- R441: the domains that stay on in HALT, of those that are on. -/
def domHalt (d : Nat) : Bool := decide (d < 28) || (48 ≤ d && d < 60) || d == 131

/-- R442: the units of a power-down: gate supplies, auxiliary outputs, legs, regulators, engines, processors, carriers, converters. -/
def State.unitsOff (s : State) : State :=
  let s := s.each (fun s g => s.setEnables g false false) 24
  let s := s.each (fun s n => if s.legN n = 0 then s else s.legHold n) 12
  let s := s.each (fun s n => if s.ast n = aDIAG then s.setAst n aOFF else s.auxOff n) 12
  let s := s.each (fun s c => (s.setF (fBND_STATUS_STATE c) 0).stHalt c) 4
  let s := s.each (fun s n => if s.fld (fLE_STATUS_STATE n) = 4 then s else s.setF (fLE_STATUS_STATE n) 0) 5
  let s := s.each (fun s f => if s.fld (fFP_STATUS_STATE f) = 4 ∨ s.fld (fFP_STATUS_STATE f) = 5 then s else s.setF (fFP_STATUS_STATE f) 0) 10
  let s := s.each (fun s k => if s.fld (fEDG_CAR_STATUS_ST k) = 1 then s.setF (fEDG_CAR_STATUS_ST k) 2 else s) 8
  let s := if s.fld fBND_DCL_STATUS_DSTATE = 0 then s else s.setF fBND_DCL_STATUS_DSTATE 1
  let s := s.each (fun s d => if s.fld (fSNS_DEC_STATUS_STATE d) = 5 then s else s.setF (fSNS_DEC_STATUS_STATE d) 0) 52
  { s with sns := { s.sns with sar := [], von := [] } }

/-- R434, R438: entry to HALT with its cause; nothing in HALT, STOW and LISTEN. -/
def State.haltEntry (s : State) (cause : Nat) : State :=
  if s.ps = psHALT ∨ s.mute then s
  else
    let s := s.each (fun s c => if cNORMAL ≤ s.cst c then s.siHeld c else s) 4
    let s := s.each State.brakeApply 4
    let s := (s.setF fPWR_STATUS_STATE psHALT).setF fPWR_STATUS_LAST_CAUSE cause
    let s := (s.unitsOff).each (fun s d => if domHalt d then s else s.setDom d false) 132
    s.set1 fSI_STATUS_FLT_LOW

/-- R351: the island enters FAULT. -/
def State.islandFault (s : State) : State :=
  if s.ist = iFAULT ∨ s.mute then s
  else
    let s := s.setF fSI_STATUS_ISTATE iFAULT
    let s := s.each (fun s c => (s.siHeld c).setF (fSI_CELL_STATUS_DEMAND c) (Nat.lor (s.fld (fSI_CELL_STATUS_DEMAND c)) 64)) 4
    let s := (s.each State.brakeApply 4).cutOthers
    let s := s.each (fun s g => s.setEnables g false false) 24
    ((s.set1 fSI_STATUS_FLT_LOW).siRaise 0x0A11 255).haltEntry 11

/-! ### Degradation summary (R369) -/

/-- A leg of the cell is retired. -/
def State.legLost (s : State) (c : Nat) : Bool :=
  (firstBelow (fun n => s.legN n != 0 && s.legCell n == c && s.fld (fEDG_LEG_STATUS_TSTATE n) == 3) 12).isSome

/-- `CLEVEL`. -/
def State.clevel (s : State) (c : Nat) : Nat :=
  if ¬ s.cellUsed c then 0
  else if s.cellOwner c ≠ s.own ∨ s.fld (fLE_PAR_STATUS_PSTATE c) = 7 then 3
  else if (s.cst c = cHELD ∧ 16 ≤ s.fld (fSI_CELL_STATUS_DEMAND c)) ∨ s.legLost c then 2
  else if s.rdN (rFLT_CELL c) % 8192 ≠ 0 ∨ s.fld (fFLT_CELL_LEGS_RETIRED c) ≠ 0 then 1
  else 0

end Sys2Proof.Machine
end

