-- ==== Sys2Proof/Machine/Si.lean ====
section
/-! DEFINITION. The safety island: inputs, pairs and reset (R328–R330), cell safety states (R331–R335), speed and torque monitoring
(R336–R341), safety frames (R342–R347), supervision (R321, R322, R327, R350, R351) and brake release (R335). -/
namespace Sys2Proof.Machine

open Host (Outcome)

/-! ### Demands (R331) -/

/-- Demand of pair `k`, 0 the STO pair, p + 1 SIN pair p. -/
def State.pairDem (s : State) (k : Nat) : Bool := bit (s.rdN rSI_PAIR_STATUS) k
def State.pairDisc (s : State) (k : Nat) : Bool := bit (s.rdN rSI_PAIR_STATUS) (8 + k)
def State.setPair (s : State) (k : Nat) (dem disc : Bool) : State :=
  (s.setB ⟨rSI_PAIR_STATUS, k, k⟩ dem).setB ⟨rSI_PAIR_STATUS, 8 + k, 8 + k⟩ disc

/-- The byte of SIN pair `p` in `SI_PAIR_CFG`: function, antivalent, cells. -/
def State.pairFunc (s : State) (p : Nat) : Nat := s.rdN rSI_PAIR_CFG / 2 ^ (8 * p) % 8
def State.pairAnti (s : State) (p : Nat) : Bool := bit (s.rdN rSI_PAIR_CFG) (8 * p + 3)
def State.pairActs (s : State) (p c : Nat) : Bool := bit (s.rdN rSI_PAIR_CFG) (8 * p + 4 + c)

/-- A SIN pair with function `f` demands on cell `c`. -/
def State.sinDemand (s : State) (c f : Nat) : Bool := (List.range 4).any (fun p => s.pairFunc p == f && s.pairActs p c && s.pairDem (p + 1))

def State.sfBound (s : State) (c : Nat) : Bool := s.on (fSI_CELL_CFG_SF_BIND c)

/-- The reaction of a monitoring function: true SS1, false STO (R337, R338, R340). -/
def State.reactSs1 (s : State) (c k : Nat) : Bool :=
  match k with
  | 0 => s.on (fSI_CELL_CFG_SLS_REACT c)
  | 1 => s.on (fSI_CELL_CFG_SLT_REACT c)
  | 2 => s.on (fSI_CELL_CFG_TM_REACT c)
  | 3 => s.on (fSI_CELL_CFG_TM_REACT c)
  | _ => true

/-- The sources that demand STO on a cell, as `DEMAND` shows them. -/
def State.wantsSto (s : State) (c : Nat) : Nat :=
  let sf := s.si.sf
  let b := fun (x : Bool) (k : Nat) => if x then 2 ^ k else 0
  b (s.pairDem 0 && bit (s.fld fSI_CFG_STO_CELLS) c) 0 + b (s.sinDemand c 1) 1 + b (s.sfBound c && bit sf.sto c) 2
    + b (s.sfBound c && (sf.tmo || sf.tmoHold) && !s.on (fSI_CELL_CFG_SF_REACT c)) 3
    + b ((List.range 7).any (fun k => bit (s.siC c).react k && !s.reactSs1 c k)) 4 + b (s.ist == iFAULT) 6

/-- The sources that demand SS1. -/
def State.wantsSs1 (s : State) (c : Nat) : Nat :=
  let sf := s.si.sf
  let b := fun (x : Bool) (k : Nat) => if x then 2 ^ k else 0
  b (s.sinDemand c 2) 1 + b (s.sfBound c && bit sf.ss1 c) 2
    + b (s.sfBound c && (sf.tmo || sf.tmoHold) && s.on (fSI_CELL_CFG_SF_REACT c)) 3
    + b ((List.range 7).any (fun k => bit (s.siC c).react k && s.reactSs1 c k)) 4
    + b (bit (s.fld (fSI_CELL_STATUS_DEMAND c)) 5) 5

/-- R331, R334: a cell enters SS1: the stop line, v₀ and the mode; a speed mismatch or a torque monitor without paths makes it SS1-t. -/
def State.siSs1 (s : State) (c : Nat) : State :=
  let timed := !s.on (fSI_CELL_CFG_SS1_MODE c) || 16 ≤ (s.siC c).react
  let v0 := s.rdN (rSI_SPEED c) % 65536
  let s := (s.setCst c cSS1).modSi c (fun q => { q with stopLine := true, lead := false, ss1r := !timed, t0 := s.now, v0 := v0 })
  ((s.stHalt c).siRaise 0x0A02 c).noteSafe

/-- R338: SLS and SLT activation; an inactive function has no reaction. -/
def State.siLimits (s : State) (c : Nat) : State :=
  let sf := s.si.sf
  let sls := s.on (fSI_CELL_CFG_SLS_EN c) && (s.sinDemand c 3 || (s.sfBound c && bit sf.sls c))
  let slt := s.on (fSI_CELL_CFG_SLT_EN c) && (s.sinDemand c 4 || (s.sfBound c && bit sf.slt c))
  let keep := 124 + (if sls then 1 else 0) + (if slt then 2 else 0)
  ((s.setB (fSI_CELL_STATUS_SLS_ON c) sls).setB (fSI_CELL_STATUS_SLT_ON c) slt).modSi c (fun q => { q with react := Nat.land q.react keep })

/-- The demands of a cell, and what they bring about in its present state (R331). -/
def State.siRefresh (s : State) (c : Nat) : State :=
  let s := s.siLimits c
  let sto := s.wantsSto c
  let ss1 := s.wantsSs1 c
  let s := s.setF (fSI_CELL_STATUS_DEMAND c) (Nat.lor sto ss1)
  let x := s.cst c
  if s.ist ≠ iACTIVE ∨ x = cHELD then s
  else if sto ≠ 0 ∨ (ss1 ≠ 0 ∧ x = cCLEAR) then s.siHeld c
  else if ss1 ≠ 0 ∧ x = cNORMAL then s.siSs1 c
  else s

def State.siAll (s : State) : State := s.each State.siRefresh 4

/-- R331: a cell returns to NORMAL: enables restored, the stop line down, brakes as they are; not in BIVOUAC (R372). -/
def State.siNormal (s : State) (c : Nat) : State :=
  if s.cst c ≠ cCLEAR ∨ s.ist ≠ iACTIVE ∨ s.inBiv then s
  else (((s.setCst c cNORMAL).modSi c (fun q => { q with stopLine := false })).cellEnables c true).noteSafe

/-! ### Two-contact inputs and reset (R328–R330) -/

/-- A filtered level of `SI_INPUTS`, with the raw level behind it. -/
def State.setInput (s : State) (k : Nat) (b : Bool) : State := (s.setB ⟨rSI_INPUTS, k, k⟩ b).setB ⟨rSI_INPUTS, 16 + k, 16 + k⟩ b
def State.input (s : State) (k : Nat) : Bool := bit (s.rdN rSI_INPUTS) (16 + k)

/-- The demand each channel of pair `k` shows. -/
def State.channels (s : State) (k : Nat) : Bool × Bool :=
  (!s.input (2 * k), if k ≠ 0 ∧ s.pairAnti (k - 1) then s.input (2 * k + 1) else !s.input (2 * k + 1))

/-- R328, R329: a pair's demand and its release from discrepancy. -/
def State.pairEval (s : State) (k : Nat) : State :=
  let x := s.channels k
  let both := s.pairDisc k && ((x.1 && x.2) || bit s.si.both k)
  let disc := s.pairDisc k && !(bit s.si.both k && !x.1 && !x.2)
  let m := if both && disc then Nat.lor s.si.both (2 ^ k) else Nat.land s.si.both (31 - 2 ^ k)
  let s := { s with si := { s.si with both := m } }
  s.setPair k (x.1 || x.2 || disc) disc

def stoPairDemand (s : State) (a b : Bool) : State := ((((s.setInput 0 a).setInput 1 b)).pairEval 0).siAll

def execStoPairDemand (a b : Bool) (s : State) : Outcome State Fault Refusal := .next (s.lit (stoPairDemand s a b))

def sinPairDemand (s : State) (p : Nat) (x y : Bool) : State :=
  ((((s.setInput (2 * p + 2) x).setInput (2 * p + 3) y)).pairEval (p + 1)).siAll

def execSinPairDemand (p : Fin 4) (x y : Bool) (s : State) : Outcome State Fault Refusal := .next (s.lit (sinPairDemand s p.val x y))

/-- R329: `DISC_T` of difference. -/
def pairDiscrepancy (s : State) (k : Nat) : State :=
  let x := s.channels k
  if x.1 = x.2 ∨ s.pairDisc k then s
  else
    let s := { s with si := { s.si with both := Nat.land s.si.both (31 - 2 ^ k) } }
    ((s.setPair k true true).siRaise 0x0A03 255).siAll

def execPairDiscrepancy (k : Fin 5) (s : State) : Outcome State Fault Refusal := .next (s.lit (pairDiscrepancy s k.val))

/-- R330: a reset. -/
def State.siReset (s : State) : State :=
  if s.ist ≠ iACTIVE then s
  else if (List.range 4).any (fun c => s.cst c == cCLEAR) then s.each (fun s c => if s.on (fSI_CELL_CFG_MAN_RST c) then s.siNormal c else s) 4
  else (s.inc rSI_CNT_RST_IGN).siRaise 0x0A10 255

/-- R330: an edge of STO_RST. -/
def resetEdge (s : State) (rising low50 : Bool) : State :=
  let s := s.setInput 10 rising
  if rising && low50 then s.siReset else s

def execResetEdge (rising low50 : Bool) (s : State) : Outcome State Fault Refusal := .next (s.lit (resetEdge s rising low50))

/-- R330: STO_RST stays high; the next reset edge follows 50 ms of low level as every one does. -/
def stoRstStuck (s : State) : State := if s.input 10 then s.siRaise 0x0A10 255 else s

def execStoRstStuck (s : State) : Outcome State Fault Refusal := .next (s.lit (stoRstStuck s))

/-! ### Timers of the cell states (R331) -/

def stoClearTimer (s : State) (c : Nat) : State :=
  if s.ist = iACTIVE ∧ s.cst c = cHELD ∧ s.fld (fSI_CELL_STATUS_DEMAND c) = 0 then (s.setCst c cCLEAR).noteSafe else s

def execStoClearTimer (c : Fin 4) (s : State) : Outcome State Fault Refusal := .next (s.lit (stoClearTimer s c.val))

def normalRestore (s : State) (c : Nat) : State := if s.on (fSI_CELL_CFG_MAN_RST c) then s else s.siNormal c

def execNormalRestore (c : Fin 4) (s : State) : Outcome State Fault Refusal := .next (s.lit (normalRestore s c.val))

/-- R331: SBC applies the brakes and the lead starts; without SBC or lead the cell is held at once. -/
def State.brakeLead (s : State) (c : Nat) : State :=
  if ¬ s.on (fSI_CELL_CFG_SBC_EN c) ∨ s.fld (fSI_SS1_CFG_SBC_LEAD c) = 0 then s.siHeld c
  else (s.brakeApply c).modSi c (fun q => { q with lead := true })

def ss1TimeEnd (s : State) (c : Nat) : State :=
  if s.cst c = cSS1 ∧ ¬ (s.siC c).ss1r ∧ ¬ (s.siC c).lead then s.brakeLead c else s

def execSs1TimeEnd (c : Fin 4) (s : State) : Outcome State Fault Refusal := .next (s.lit (ss1TimeEnd s c.val))

def ss1TmaxEnd (s : State) (c : Nat) : State := if s.cst c = cSS1 then s.siHeld c else s

def execSs1TmaxEnd (c : Fin 4) (s : State) : Outcome State Fault Refusal := .next (s.lit (ss1TmaxEnd s c.val))

/-- R334: standstill in SS1-r. -/
def standstillDetected (s : State) (c : Nat) : State :=
  if s.cst c = cSS1 ∧ (s.siC c).ss1r ∧ ¬ (s.siC c).lead ∧ s.rdN (rSI_SPEED c) % 65536 ≤ s.fld (fSI_SPD_CFG_W_ZERO_S c) then s.brakeLead c else s

def execStandstillDetected (c : Fin 4) (s : State) : Outcome State Fault Refusal := .next (s.lit (standstillDetected s c.val))

def sbcLeadEnd (s : State) (c : Nat) : State := if s.cst c = cSS1 ∧ (s.siC c).lead then s.siHeld c else s

def execSbcLeadEnd (c : Fin 4) (s : State) : Outcome State Fault Refusal := .next (s.lit (sbcLeadEnd s c.val))

/-- R331: an internal request. -/
def internalSs1Request (s : State) (c : Nat) : State := (s.requestSs1 c).siRefresh c

def execInternalSs1Request (c : Fin 4) (s : State) : Outcome State Fault Refusal := .next (s.lit (internalSs1Request s c.val))

/-! ### Speed (R334, R336–R338) -/

/-- A monitoring reaction `k` starts with fault `code`, 0 none raised; the fault carries CELLSTOP when it starts an SS1 (R357). -/
def State.react (s : State) (c k cause code : Nat) : State :=
  if bit (s.siC c).react k then s
  else
    let stops := s.cst c == cNORMAL && s.reactSs1 c k
    let s := (s.inc (rSI_CNT_REACT c)).setF (fSI_CELL_STATUS_LAST_CAUSE c) cause
    let s := if code = 0 then s else (s.setF fSI_STATUS_LAST_FAULT code).raiseWith code c 0 stops
    (s.modSi c (fun q => { q with react := Nat.lor q.react (2 ^ k) })).siRefresh c

/-- A reaction's demand is withdrawn. -/
def State.unreact (s : State) (c k : Nat) : State :=
  if bit (s.siC c).react k then (s.modSi c (fun q => { q with react := Nat.land q.react (127 - 2 ^ k) })).siRefresh c else s

/-- R336: (π/3) / t in 0.1 rad/s for t in ns, rounded up so that the bound is never low, as far as `SI_SPEED` goes. -/
def islandSpeed (t : Nat) : Nat := if t = 0 then 65535 else min 65535 (piQ * 10000000000 / (3 * (t : Rat))).ceil.toNat

/-- The POS revolution speed of the cell's triplet, magnitude in 0.1 rad/s. -/
def State.posSpeed (s : State) (c : Nat) : Nat :=
  let h := s.fld (fSI_CELL_CFG_HALL_S c)
  min 65535 (roundFree (((s.fldI (fPOS_SPEED_WR h)).natAbs * s.hallBase h : Nat) : Int) 32768).toNat

/-- R334: the ramp in force, in 0.1 rad/s. -/
def State.rampLimit (s : State) (c : Nat) : Rat :=
  let q := s.siC c
  let fall : Rat := ((s.fld (fSI_SS1R_CFG_SS1_DEC c) * 10 * (s.now - q.t0) : Nat) : Rat) / (secU : Rat)
  let r : Rat := ((q.v0 + s.fld (fSI_SS1R_CFG_SS1_OFS c) : Nat) : Rat) - fall
  let z : Rat := (s.fld (fSI_SPD_CFG_W_ZERO_S c) : Rat)
  if r < z then z else r

/-- R337: the two speeds agree. -/
def State.speedsAgree (s : State) (c : Nat) : Bool :=
  let vb := s.rdN (rSI_SPEED c) % 65536
  let vp := s.rdN (rSI_SPEED c) / 65536
  decide (10 * ((vb : Int) - vp).natAbs ≤ vb + 10 * s.fld (fSI_SPD_CFG_W_ZERO_S c))

/-- R334, R331: the checks of an evaluation. -/
def State.speedChecks (s : State) (c vb : Nat) (impossible : Bool) : State :=
  let q := s.siC c
  let lim := s.rampLimit c
  let s := if vb ≤ s.fld (fSI_SPD_CFG_SLS_LIM c) then s.unreact c 0 else s
  let s := if s.speedsAgree c then s.unreact c 4 else s
  let s := if impossible then s else s.unreact c 5
  if s.cst c ≠ cSS1 then s
  else if q.ss1r ∧ lim < (vb : Rat) then
    (((s.inc (rSI_CNT_REACT c)).setF (fSI_CELL_STATUS_LAST_CAUSE c) 4).siRaise 0x0A04 c).siHeld c
  else if q.lead ∧ s.fld (fSI_SPD_CFG_W_ZERO_S c) < vb then s.siHeld c
  else s

/-- R336: an evaluation of the speed; an `interval` of 0 is none held. -/
def State.siSpeedEval (s : State) (c interval tau : Nat) (impossible : Bool) : State :=
  if ¬ s.on (fSI_CELL_CFG_HALL_SEN c) then s
  else
    let vb := max (if interval = 0 then 0 else islandSpeed interval) (islandSpeed tau)
    (s.wrN (rSI_SPEED c) (s.posSpeed c * 65536 + vb)).speedChecks c vb impossible

/-- R337. -/
def speedMismatch (s : State) (c : Nat) (impossible : Bool) : State :=
  if s.ist ≠ iACTIVE ∨ ¬ s.on (fSI_CELL_CFG_HALL_SEN c) ∨ (¬ impossible ∧ s.speedsAgree c) then s
  else s.react c (if impossible then 5 else 4) 9 0x0A09

def execSpeedMismatch (c : Fin 4) (impossible : Bool) (s : State) : Outcome State Fault Refusal := .next (s.lit (speedMismatch s c.val impossible))

/-- R338. -/
def slsToleranceEnd (s : State) (c : Nat) : State :=
  if s.ist = iACTIVE ∧ s.on (fSI_CELL_STATUS_SLS_ON c) ∧ s.fld (fSI_SPD_CFG_SLS_LIM c) < s.rdN (rSI_SPEED c) % 65536 then s.react c 0 5 0x0A05
  else s

def execSlsToleranceEnd (c : Fin 4) (s : State) : Outcome State Fault Refusal := .next (s.lit (slsToleranceEnd s c.val))

/-! ### The torque monitor (R338–R341) -/

/-- τ_m as `SI_TORQUE` shows its two parts. -/
def State.tauM (s : State) (c : Nat) : Nat := max (s.rdN (rSI_TORQUE c) / 65536) (s.rdN (rSI_TORQUE c) % 65536)

def sltToleranceEnd (s : State) (c : Nat) : State :=
  if s.ist = iACTIVE ∧ s.on (fSI_CELL_STATUS_SLT_ON c) ∧ s.fld (fSI_TQ_CFG_SLT_LIM c) < s.tauM c then s.react c 1 6 0x0A06 else s

def execSltToleranceEnd (c : Fin 4) (s : State) : Outcome State Fault Refusal := .next (s.lit (sltToleranceEnd s c.val))

/-- A diverse input: an AN input of the cell with `ROLE` 1. -/
def State.isDiverse (s : State) (c n : Nat) : Bool := s.fld (fSNS_AN_CFG_ROLE n) == 1 && s.fld (fSNS_AN_CFG_CELL n) == c

/-- A diverse input whose converters are retired gives entries with reason 2 (R113). -/
def State.diverseLost (s : State) (c : Nat) : Bool :=
  (firstBelow (fun n => s.isDiverse c n && s.rdN (rSNS_AN_LAST n 3) / 16777216 != 2) 16).isNone

/-- Every phase-current decimator path of the cell is retired. -/
def State.sigmaLost (s : State) (c : Nat) : Bool :=
  (firstBelow (fun n => s.sdUsed n && s.fld (fSNS_SD_CFG_CELL n) == c && s.fld (fSNS_SD_CFG_ROLE n) == 1
    && !s.on (fSNS_SD_STATUS_RETIRED n)) 48).isNone

/-- The diverse input of phase `p`. -/
def State.diverseOf (s : State) (c p : Nat) : Option Nat :=
  firstBelow (fun n => s.isDiverse c n && s.fld (fSNS_AN_CFG_PHASE n) == p && s.rdN (rSNS_AN_LAST n 3) / 16777216 != 2) 16

/-- The instant of an entry's TIME. -/
def State.entryAt (s : State) (e : Quad) : Nat := s.instantOf (e.toNat % 2 ^ 40)

/-- R339: |i| of up to three phase values, one of which may be missing; none with fewer than two. -/
def vectorMag (a b c : Option Rat) : Option Nat :=
  let v := match a, b, c with
    | some x, some y, some z => some (x, y, z)
    | some x, some y, none => some (x, y, -(x + y))
    | some x, none, some z => some (x, -(x + z), z)
    | none, some y, some z => some (-(y + z), y, z)
    | _, _, _ => none
  v.map (fun v => min 65535 (roundR (sqrtQ (vsq (clarke v)))).toNat)

/-- The last valid entries of the diverse phases, those within 1 µs of the newest: its time and |i_dv|. -/
def State.diverseVec (s : State) (c : Nat) : Option (Nat × Nat) :=
  let e := fun p => (s.diverseOf c p).map (fun n => s.sns.good.at 0 (0x60 + n))
  let t := (([0, 1, 2].filterMap e).map s.entryAt).foldl max 0
  let v := fun p => ((e p).filter (fun q => decide (t ≤ s.entryAt q + usU))).map (fun q => (entryValue q : Rat))
  (vectorMag (v 0) (v 1) (v 2)).map (fun m => (t, m))

/-- Half the group delay of decimator `d` doubled: K (M − 1) / 2 modulator clocks in units (R99). -/
def State.groupDelay (s : State) (d n : Nat) : Nat :=
  let f := s.fld (fSNS_GROUP_CFG_FREQ (n / 8))
  if f = 0 then 0 else s.fld (fSNS_DEC_CFG_ORDER d) * (2 ^ s.fld (fSNS_DEC_CFG_OSR_LOG d) - 1) * 10000 * nsU / (2 * f)

/-- Entry `k` of the ring of decimator `d`. -/
def State.decRing (s : State) (d k : Nat) : Quad :=
  BitVec.ofNat 128 (s.rdN (rSNS_DEC_RING d (4 * k)) + s.rdN (rSNS_DEC_RING d (4 * k + 1)) * 2 ^ 32 + s.rdN (rSNS_DEC_RING d (4 * k + 2)) * 2 ^ 64
    + s.rdN (rSNS_DEC_RING d (4 * k + 3)) * 2 ^ 96)

/-- R339: linear interpolation at `t` between the entries of a ring that lie before and after it, each at its TIME less the group delay. -/
def interpolate (l : List (Nat × Int)) (t : Nat) : Option Rat :=
  let before := (l.filter (fun e => decide (e.1 ≤ t))).foldl (fun m e => match m with
    | some x => if x.1 < e.1 then some e else some x
    | none => some e) (none : Option (Nat × Int))
  let after := (l.filter (fun e => decide (t < e.1))).foldl (fun m e => match m with
    | some x => if e.1 < x.1 then some e else some x
    | none => some e) (none : Option (Nat × Int))
  match before, after with
  | some a, some b => some ((a.2 : Rat) + ((b.2 - a.2 : Int) : Rat) * ((t - a.1 : Nat) : Rat) / ((b.1 - a.1 : Nat) : Rat))
  | _, _ => none

/-- The sigma-delta value of phase `p` at a diverse instant, from the entries without SETTLE and INVALID. -/
def State.sigmaAt (s : State) (c p t : Nat) : Option Rat :=
  match s.phaseIn c p with
  | none => none
  | some n =>
    match firstBelow (fun d => s.fld (fSNS_DEC_STATUS_STATE d) == 1 && s.fld (fSNS_DEC_CFG_INPUT d) == n) 52 with
    | none => none
    | some d =>
      let gd := s.groupDelay d n
      let ok := fun e => e != 0 && !entryFlag e 0 && !entryFlag e 2
      interpolate ((((List.range 16).map (s.decRing d)).filter ok).map (fun e => (s.entryAt e - gd, entryValue e))) t

/-- R340, R341: demands of the monitor that no longer hold are withdrawn. -/
def State.torqueAgain (s : State) (c : Nat) : State :=
  let sd := s.rdN (rSI_TORQUE c) % 65536
  let dv := s.rdN (rSI_TORQUE c) / 65536
  let tol := s.fld (fSI_TM_CFG_TM_TOL c)
  let s := if s.tauM c ≤ s.fld (fSI_TQ_CFG_SLT_LIM c) then s.unreact c 1 else s
  let s := if ((sd : Int) - dv).natAbs ≤ tol then s.unreact c 2 else s
  if 2 * s.tauM c ≤ s.fld (fSI_TQ_CFG_I_RATED c) + 2 * tol then s.unreact c 3 else s

/-- R341: single-path running begins when one path is wholly retired; without either the cell performs SS1-t. -/
def State.torquePaths (s : State) (c : Nat) : State :=
  let a := s.diverseLost c
  let b := s.sigmaLost c
  let s := if a || b then s.singlePath c else s
  if a && b then s.react c 6 8 0 else s

/-- R336, R341: the evaluation of every 250 µs. -/
def siEvaluation (s : State) (c interval tau : Nat) (impossible : Bool) : State :=
  if s.ist ≠ iACTIVE then s
  else
    let s := s.siSpeedEval c interval tau impossible
    if s.on (fSI_CELL_CFG_TM_EN c) then s.torquePaths c else s

def execSiEvaluation (c : Fin 4) (interval tau : Nat) (impossible : Bool) (s : State) : Outcome State Fault Refusal :=
  .next (s.lit (siEvaluation s c.val interval tau impossible))

/-- R339: a diverse sample; a path that is retired contributes nothing, and without diverse inputs the latest sigma-delta values count. -/
def diverseSample (s : State) (c : Nat) : State :=
  if s.ist ≠ iACTIVE ∨ ¬ s.on (fSI_CELL_CFG_TM_EN c) then s
  else
    let s := s.torquePaths c
    let dv := if s.diverseLost c then some (s.now, 0) else s.diverseVec c
    match dv with
    | none => s
    | some (t, m) =>
      let v := fun p => if s.diverseLost c then (s.phaseIn c p).map (fun n => (entryValue (s.sns.good.at 0 n) : Rat)) else s.sigmaAt c p t
      let sd := if s.sigmaLost c then some 0 else vectorMag (v 0) (v 1) (v 2)
      match sd with
      | none => s
      | some i => (s.wrN (rSI_TORQUE c) (m * 65536 + i)).torqueAgain c

def execDiverseSample (c : Fin 4) (s : State) : Outcome State Fault Refusal := .next (s.lit (diverseSample s c.val))

/-- R340, R341. -/
def torqueMismatch (s : State) (c : Nat) (missing : Bool) : State :=
  if s.ist ≠ iACTIVE ∨ ¬ s.on (fSI_CELL_CFG_TM_EN c) then s
  else
    let s := s.torquePaths c
    let tol := s.fld (fSI_TM_CFG_TM_TOL c)
    let sd := s.rdN (rSI_TORQUE c) % 65536
    let dv := s.rdN (rSI_TORQUE c) / 65536
    if s.on (fSI_CELL_STATUS_SINGLE_PATH c) then
      (if s.fld (fSI_TQ_CFG_I_RATED c) + 2 * tol < 2 * s.tauM c then s.react c 3 8 0 else s)
    else if missing ∨ tol < ((sd : Int) - dv).natAbs then s.react c 2 7 0x0A07
    else s

def execTorqueMismatch (c : Fin 4) (missing : Bool) (s : State) : Outcome State Fault Refusal := .next (s.lit (torqueMismatch s c.val missing))

/-! ### Safety frames (R342–R347) -/

def frameByte (f : SafetyFrame) (k : Nat) : Nat := (f >>> (8 * k)).toNat % 256
def frameHalf (f : SafetyFrame) (k : Nat) : Nat := (f >>> (8 * k)).toNat % 65536

/-- R343: CHECK of bytes 0–59 under a connection identity. -/
def frameCheck (ident : Nat) (f : SafetyFrame) : Nat := crc32c (bytesOf 2 ident ++ bytesOf 60 f.toNat)

/-- R344 check 1. -/
def State.frameOk (s : State) (f : SafetyFrame) : Bool :=
  let len := frameByte f 4
  frameCheck (s.fld fSI_SF_ID_SF_ID_CMD) f == f.toNat / 2 ^ 480 && 1 ≤ len && len ≤ 48 && frameByte f 5 == 1
    && f.toNat % 2 ^ 480 / 2 ^ (8 * (6 + len)) == 0

def State.modSf (s : State) (f : SfSt → SfSt) : State := { s with si := { s.si with sf := f s.si.sf } }

/-- `SF_MODE` follows the connection. -/
def State.noteMode (s : State) : State :=
  s.setF fSI_STATUS_SF_MODE (if ¬ s.on fSI_SF_CFG_SF_EN ∨ s.ist ≠ iACTIVE then 0 else if s.si.sf.tmo then 4 else s.si.sf.mode)

/-- R346: TIMEOUT. -/
def State.sfTimeout (s : State) : State :=
  if s.si.sf.tmo then s
  else
    let s := s.modSf (fun q => { q with tmo := true, first := true, tmoHold := false, reset := 0, held := none })
    ((s.siRaise 0x0A0A 255).siAll).noteMode

/-- R345: network `n` is lost. -/
def State.netLose (s : State) (n : Nat) : State :=
  let q := s.si.sf
  if bit q.lost n then s
  else
    let s := s.modSf (fun q => { q with lost := q.lost + 2 ^ n, held := none })
    if q.mode = 1 ∧ s.on fSI_SF_CFG_FALLBACK_EN ∧ ¬ bit q.lost (1 - n) then
      ((s.modSf (fun q => { q with mode := 3 - n, pairs := 0, acc := none, shadow := none })).siRaise 0x0A0C 255).noteMode
    else if q.mode = 1 ∨ q.mode = 2 + n then s.sfTimeout
    else s

/-- R345: the held copy has found no partner. -/
def State.sfUnpaired (s : State) : State :=
  match s.si.sf.held with
  | none => s
  | some (n, _, _) =>
    let m := s.si.sf.miss.at 0 (1 - n) + 1
    let s := (s.modSf (fun q => { q with held := none, miss := q.miss.put 0 (1 - n) m })).inc rSI_CNT_MISMATCH
    if s.fld fSI_SF_CFG_NET_MISS ≤ m then s.netLose (1 - n) else s

/-- `PAIR_WIN` in units. -/
def State.pairWin (s : State) : Nat := s.fld fSI_SF_CFG_PAIR_WIN * 500 * usU

/-- R345: a frame of the other network has paired while SINGLE; the sixteenth in a row returns to DUAL. -/
def State.sfPaired (s : State) : State :=
  let q := s.si.sf
  let other := 3 - q.mode
  if 16 ≤ q.pairs + 1 then
    (s.modSf (fun q => { q with
      mode := 1, pairs := 0, acc := none, shadow := none, miss := [],
      lost := if bit q.busOff other then q.lost else Nat.land q.lost (3 - 2 ^ other) })).noteMode
  else s.modSf (fun q => { q with pairs := q.pairs + 1 })

/-- R330, R335, R338, R347: an accepted frame acts. -/
def State.sfAccept (s : State) (f : SafetyFrame) (t : Nat) : State :=
  let q := s.si.sf
  let len := frameByte f 4
  let b := fun k => if k < len then frameByte f (6 + k) else 0
  let inv := fun x => 15 - x % 16
  let first := q.first
  let old := fun x => if first then x else 0
  let r := b 4 % 2
  let rst := q.reset = 1 ∧ r = 1 ∧ ¬ first
  let s := s.modSf (fun q => { q with
    any := true, first := false, accTs := frameHalf f 2, accAt := t, reset := r + 1, tmo := false, tmoHold := q.tmo,
    sto := Nat.lor (inv (b 0)) (old q.sto), ss1 := Nat.lor (inv (b 1)) (old q.ss1), sls := Nat.lor (inv (b 2)) (old q.sls),
    slt := Nat.lor (inv (b 2 / 16)) (old q.slt), brake := Nat.land (b 3 % 16) (if first then q.brake else 15) })
  let s := (s.setF ⟨rSI_SF_SEQ, 15, 0⟩ (frameHalf f 0)).siAll
  let s := s.each (fun s c =>
    if s.sfBound c ∧ s.on (fSI_CELL_CFG_SBC_EN c) ∧ ¬ bit s.si.sf.brake c ∧ ¬ s.on (fSI_CELL_STATUS_BRAKE_APPLIED c) then s.brakeApply c else s) 4
  let s := if rst then s.siReset else s
  let s := if s.si.sf.mode = 1 then s
    else
      match s.si.sf.shadow with
      | some (g, t1) =>
        if g = f ∧ t ≤ t1 + s.pairWin then (s.modSf (fun q => { q with acc := some (f, t, true) })).sfPaired
        else s.modSf (fun q => { q with acc := some (f, t, false) })
      | none => s.modSf (fun q => { q with acc := some (f, t, false) })
  s.noteMode

/-- R344 checks 3 and 4. -/
def State.sfChecks (s : State) (f : SafetyFrame) (t : Nat) : State :=
  let q := s.si.sf
  let d := (frameHalf f 0 + 65536 - s.rdN rSI_SF_SEQ % 65536) % 65536
  let dts := (frameHalf f 2 + 65536 - q.accTs) % 65536 * 16 * usU
  let dr := t - q.accAt
  if q.first then s.sfAccept f t
  else if d = 0 ∨ s.fld fSI_SF_CFG_SEQ_WIN < d then s.inc rSI_CNT_SEQ
  else if 100 * (s.fld fSI_SF_CFG_TS_TOL * 16 * usU) + dr < 100 * ((dts : Int) - dr).natAbs then s.inc rSI_CNT_TS
  else s.sfAccept f t

/-- SINGLE: a copy on the network not in use counts toward the return to DUAL. -/
def State.sfPartner (s : State) (f : SafetyFrame) (t : Nat) : State :=
  match s.si.sf.acc with
  | some (g, t1, paired) =>
    if g = f ∧ ¬ paired ∧ t ≤ t1 + s.pairWin then (s.modSf (fun q => { q with acc := some (g, t1, true) })).sfPaired
    else s.modSf (fun q => { q with shadow := some (f, t) })
  | none => s.modSf (fun q => { q with shadow := some (f, t) })

/-- A valid copy that no other copy is held for. -/
def State.sfTake (s : State) (n : Nat) (f : SafetyFrame) (t : Nat) : State :=
  let q := s.si.sf
  if q.mode = 1 then s.modSf (fun q => { q with held := some (n, f, t) })
  else if q.mode = 2 + n then s.sfChecks f t
  else s.sfPartner f t

/-- R344, R345: a copy of a command frame. -/
def safetyFrameReceive (s : State) (n : Nat) (f : SafetyFrame) : State :=
  let q := s.si.sf
  let t := s.now
  if ¬ s.on fSI_SF_CFG_SF_EN ∨ s.ist ≠ iACTIVE ∨ bit q.busOff n then s
  else if ¬ s.frameOk f then s.inc rSI_CNT_CRC
  else if q.mode ≠ 1 ∧ q.mode ≠ 2 + n then s.sfPartner f t
  else if q.any ∧ frameHalf f 0 = s.rdN rSI_SF_SEQ % 65536 then s
  else match q.held with
    | none => s.sfTake n f t
    | some (m, g, t1) =>
      if m = n then s.sfUnpaired.sfTake n f t
      else if g ≠ f then ((s.modSf (fun q => { q with held := none, miss := [] })).incBy rSI_CNT_MISMATCH 2).siRaise 0x0A0B 255
      else (s.modSf (fun q => { q with held := none, miss := [], lost := q.busOff })).sfChecks f t1

def execSafetyFrameReceive (net : Fin 2) (f : BitVec 512) (s : State) : Outcome State Fault Refusal := .next (s.lit (safetyFrameReceive s net.val f))

/-- R345: `PAIR_WIN` has passed; in SINGLE an accepted frame without a partner ends the row of pairs. -/
def pairWindowEnd (s : State) : State :=
  match s.si.sf.held with
  | some _ => s.sfUnpaired
  | none => match s.si.sf.acc with
    | some (_, _, false) => s.modSf (fun q => { q with pairs := 0 })
    | _ => s

def execPairWindowEnd (s : State) : Outcome State Fault Refusal := .next (s.lit (pairWindowEnd s))

/-- R346. -/
def sfTimeoutStep (s : State) : State := if s.on fSI_SF_CFG_SF_EN ∧ s.ist = iACTIVE then s.sfTimeout else s

def execSfTimeout (s : State) : Outcome State Fault Refusal := .next (s.lit (sfTimeoutStep s))

/-- R347, R348: the payload of a status frame. -/
def State.statusPayload (s : State) : List Nat :=
  let m := fun (p : Nat → Bool) => maskBelow p 4
  [m (fun c => decide (s.cst c ≤ cCLEAR)), m (fun c => s.cst c == cSS1),
    m (fun c => s.on (fSI_CELL_STATUS_SLS_ON c)) + 16 * m (fun c => s.on (fSI_CELL_STATUS_SLT_ON c)),
    m (fun c => s.on (fSI_CELL_STATUS_BRAKE_APPLIED c)), m (fun c => s.on (fSI_CELL_STATUS_SINGLE_PATH c)),
    s.fld fSI_STATUS_SF_MODE * 16 + s.ist, s.fld fSI_STATUS_LAST_FAULT % 256, s.fld fSI_STATUS_LAST_FAULT / 256,
    s.rdN rSI_SF_SEQ % 256, s.rdN rSI_SF_SEQ / 256 % 256, s.rdN rSI_PAIR_STATUS / 256 % 32, s.fld fSI_STATUS_MP_LOST]

/-- R342, R343, R348: the status frame with sequence `seq`. -/
def State.statusFrame (s : State) (seq : Nat) : SafetyFrame :=
  let body := ofBytes (bytesOf 2 seq ++ bytesOf 2 (s.now / (16 * usU)) ++ [12, 2] ++ s.statusPayload)
  BitVec.ofNat 512 (body + frameCheck (s.fld fSI_SF_ID_SF_ID_STS) (BitVec.ofNat 512 body) * 2 ^ 480)

/-! ### Supervision (R321, R322, R327, R350, R351) -/

/-- R350: the management processor is lost. -/
def heartbeatLoss (s : State) : State := if s.on fSI_STATUS_MP_LOST then s else (s.set1 fSI_STATUS_MP_LOST).siRaise 0x0A12 255

def execHeartbeatLoss (s : State) : Outcome State Fault Refusal := .next (s.lit (heartbeatLoss s))

/-- R321: a clock window. -/
def siClockWindow (s : State) (dev : BitVec 16) : State :=
  let bad := if 500 < dev.toInt.natAbs then s.si.clkBad + 1 else 0
  let s := { s with si := { s.si with clkBad := bad } }.wrN rSI_CLOCK dev.toNat
  if 2 ≤ bad then s.islandFault else s

def execSiClockWindow (dev : BitVec 16) (s : State) : Outcome State Fault Refusal := .next (s.lit (siClockWindow s dev))

def siSupplyFault (s : State) : State := s.islandFault

def execSiSupplyFault (s : State) : Outcome State Fault Refusal := .next (s.lit (siSupplyFault s))

def lockstepMismatch (s : State) : State := s.islandFault

def execLockstepMismatch (s : State) : Outcome State Fault Refusal := .next (s.lit (lockstepMismatch s))

/-- R327: a removal at a channel is not confirmed; nothing to confirm where both enables are granted. -/
def enableConfirmTimeout (s : State) (g : Nat) : State :=
  if ((s.gate g).gse && (s.gate g).sen) = true ∨ s.ist = iFAULT then s else (s.siRaise 0x0A0E 255).islandFault

def execEnableConfirmTimeout (g : Fin 24) (s : State) : Outcome State Fault Refusal := .next (s.lit (enableConfirmTimeout s g.val))

/-- The island's LOCK registers in address order, `SI_CFG_CRC` apart (R351). -/
def siLockRegs : List Nat :=
  [rSI_CFG, rSI_PAIR_CFG, rSI_DISC_T, rSI_SF_CFG, rSI_SF_ID, rSI_SF_CANID]
    ++ [0, 1, 2, 3].flatMap (fun c => [rSI_CELL_CFG c, rSI_SS1_CFG c, rSI_SS1R_CFG c, rSI_SPD_CFG c, rSI_TQ_CFG c, rSI_TM_CFG c, rSI_TM_CFG2 c])

/-- R351. -/
def State.siCrcOk (s : State) : Bool := crc32c (siLockRegs.flatMap (fun a => bytesOf 4 (s.rdN a))) == s.rdN rSI_CFG_CRC

def cfgCrcCheck (s : State) : State := if s.siCrcOk ∨ s.ist = iFAULT then s else (s.siRaise 0x0A14 255).islandFault

def execCfgCrcCheck (s : State) : Outcome State Fault Refusal := .next (s.lit (cfgCrcCheck s))

def siSelfTest (s : State) (pass : Bool) : State := if pass then s else s.islandFault

def execSiSelfTest (pass : Bool) (s : State) : Outcome State Fault Refusal := .next (s.lit (siSelfTest s pass))

/-! ### Brakes (R335) -/

/-- A release is refused: the cut switches stay open. -/
def State.brakeRefuse (s : State) (c : Nat) : State := ((s.brakeApply c).modSt c (fun q => { q with ask := 3 })).siRaise 0x0A0F c

/-- R335: the island answers the starting procedure's ask; the coils' report comes within `T_BRK_REL` (R229). -/
def brakeReleaseRequest (s : State) (c : Nat) : State :=
  if (s.stC c).ask ≠ 1 then s
  else if s.on (fSI_CELL_CFG_SBC_EN c) ∧ (s.cst c ≠ cNORMAL ∨ s.ist ≠ iACTIVE ∨ (s.sfBound c ∧ ¬ bit s.si.sf.brake c)) then s.brakeRefuse c
  else
    let t := s.each (fun s n => if s.isBrake c n then (s.cutClose n).auxOn n else s) 8
    if (List.range 8).any (fun n => s.isBrake c n && t.ast n == aREFUSED) then t.brakeRefuse c
    else (t.clr (fSI_CELL_STATUS_BRAKE_APPLIED c)).modSt c (fun q => { q with ask := 2 })

def execBrakeReleaseRequest (c : Fin 4) (s : State) : Outcome State Fault Refusal := .next (s.lit (brakeReleaseRequest s c.val))

end Sys2Proof.Machine
end

