-- ==== Sys2Proof/Machine/Can.lean ====
section
/-! DEFINITION. The CAN FD channels: error confinement (R381), reception (R382–R385), transmission (R387–R390), status frames (R348, R391) and
time-triggered operation (R392–R396). -/
namespace Sys2Proof

/-- Length in bytes by length code. -/
def dlcLen (fdf : Bool) (d : Nat) : Nat :=
  if d ≤ 8 then d
  else if fdf then
    match d with
    | 9 => 12
    | 10 => 16
    | 11 => 20
    | 12 => 24
    | 13 => 32
    | 14 => 48
    | _ => 64
  else 8

def CanFrame.len (f : CanFrame) : Nat := dlcLen f.fdf f.dlc.toNat

/-- The data bytes of a frame, those beyond its length 0 (R383). -/
def CanFrame.bytes (f : CanFrame) : Nat := f.data.toNat % 2 ^ (8 * f.len)

/-- R387: order on the bus: the top 11 bits, a base identifier before an extended one, then the rest. -/
def CanFrame.order (f : CanFrame) : Nat :=
  let i := f.ident.toNat
  i / 262144 * 524288 + (if f.ide then 262144 + i % 262144 else 0)

/-- PRESUMED (ISO 11898-1:2015 frame formats): bits of a frame at maximum stuffing, nominal phase and data phase, from start-of-frame to the
end of end-of-frame. -/
def CanFrame.bits (f : CanFrame) : Nat × Nat :=
  if f.fdf then
    let head := if f.ide then 36 else 17
    let body := 5 + 8 * f.len
    let stuffHead := (head - 1) / 4
    let stuff := (head + body - 1) / 4
    let tail := if f.len ≤ 16 then 21 + 6 else 25 + 7
    (head + stuffHead + 10, body + (stuff - stuffHead) + tail)
  else
    let body := (if f.ide then 54 else 34) + 8 * f.len
    (body + (body - 1) / 4 + 10, 0)

end Sys2Proof

namespace Sys2Proof.Machine

open Host (Outcome)

/-! ### Channels and frames -/

def State.canC (s : State) (n : Nat) : CanCh := s.can.ch.at CanCh.init n
def State.modCan (s : State) (n : Nat) (f : CanCh → CanCh) : State := { s with can := { s.can with ch := s.can.ch.put CanCh.init n (f (s.canC n)) } }

/-- `FCS`. -/
def fcACTIVE : Nat := 0
def fcPASSIVE : Nat := 1
def fcOFF : Nat := 2
def fcRECOVER : Nat := 3

def State.fcs (s : State) (n : Nat) : Nat := s.fld (fCAN_STATUS_FCS n)

/-- The channel is in use and its domain is on (R441). -/
def State.canLive (s : State) (n : Nat) : Bool := s.on (fCAN_CFG_ENABLE n) && s.domOn (56 + n)

/-- The channel takes part on the bus. -/
def State.canOnBus (s : State) (n : Nat) : Bool := s.canLive n && decide (s.fcs n ≤ fcPASSIVE)

def State.canTT (s : State) (n : Nat) : Bool := s.canLive n && s.on (fCAN_CFG_TT_EN n)

/-- The data registers of a buffer take 64 bytes. -/
def State.canLoad (s : State) (n b x : Nat) : State := s.each (fun s k => s.wrN (rCAN_MB_DATA n b k) (x / 2 ^ (32 * k))) 16

/-- The 64 data bytes of a buffer. -/
def State.canData (s : State) (n b : Nat) : Nat := ofBytes ((List.range 16).flatMap (fun k => bytesOf 4 (s.rdN (rCAN_MB_DATA n b k))))

/-- R387: the frame of a transmit buffer, ESI recessive while error-passive (R378). -/
def State.canFrame (s : State) (n b : Nat) : CanFrame :=
  let fdf := s.on (fCAN_MB_CFG_FDF n b)
  let d := s.fld (fCAN_MB_CFG_DLC n b)
  { ident := BitVec.ofNat 29 (s.fld (fCAN_MB_ID_V n b)), ide := s.on (fCAN_MB_CFG_IDE n b), fdf := fdf, brs := s.on (fCAN_MB_CFG_BRS n b),
    esi := fdf && s.fcs n == fcPASSIVE, rtr := false, dlc := BitVec.ofNat 4 d, data := BitVec.ofNat 512 (s.canData n b % 2 ^ (8 * dlcLen fdf d)) }

/-- Units per bit of the nominal and of the data phase (R379). -/
def State.canBit (s : State) (n : Nat) : Nat := (s.fld (fCAN_NBT_TSEG1 n) + s.fld (fCAN_NBT_TSEG2 n) + 3) * (s.fld (fCAN_NBT_BRP n) + 1) * 3200
def State.canDataBit (s : State) (n : Nat) : Nat := (s.fld (fCAN_DBT_TSEG1 n) + s.fld (fCAN_DBT_TSEG2 n) + 3) * (s.fld (fCAN_DBT_BRP n) + 1) * 3200

/-- R395: the time of a frame at maximum stuffing. -/
def State.canTime (s : State) (n : Nat) (f : CanFrame) : Nat :=
  f.bits.1 * s.canBit n + f.bits.2 * (if f.brs then s.canDataBit n else s.canBit n)


/-! ### Transmit status -/

def State.txPend (s : State) (n b : Nat) : Bool := s.on (fCAN_MB_STAT_TXPEND n b)

/-- A transmission fails for good with a `FAILCODE`; ONESHOT raises 0x0C03 (R388), an abort does not. -/
def State.canFail (s : State) (n b code : Nat) : State :=
  let s := (((s.set1 (fCAN_MB_STAT_TXFAIL n b)).setF (fCAN_MB_STAT_FAILCODE n b) code).clr (fCAN_MB_STAT_TXPEND n b)).set1 (fCAN_EVENTS_TX_FAIL n)
  if s.on (fCAN_MB_CFG_ONESHOT n b) ∧ code ≠ 3 ∧ code ≠ 4 then s.raiseSec 0x0C03 n else s

/-! ### Time-triggered levels (R396) -/

def State.ttLevel (s : State) (n : Nat) : Nat := s.fld (fCAN_STATUS_TTLEVEL n)

/-- The level shown changes. -/
def State.setTtLevel (s : State) (n x : Nat) : State :=
  if s.ttLevel n = x then s else (s.setF (fCAN_STATUS_TTLEVEL n) x).set1 (fCAN_EVENTS_TT_LEVEL n)

/-- A miss: S1 unless a higher level applies. -/
def State.ttMiss (s : State) (n : Nat) : State :=
  let s := (s.inc (rCAN_CNT_TTMISS n)).modCan n (fun q => { q with missed := true })
  if s.ttLevel n = 0 then (s.setTtLevel n 1).raise 0x0C07 n else s

/-- S2: exclusive transmissions stop. -/
def State.ttError (s : State) (n : Nat) : State :=
  if 2 ≤ s.ttLevel n then s else ((s.setTtLevel n 2).modCan n (fun q => { q with exclStop := true })).raise 0x0C08 n

/-- S3: every transmission stops, and this module is no longer current master. -/
def State.ttSevere (s : State) (n : Nat) : State :=
  if s.ttLevel n = 3 then s
  else (((s.setTtLevel n 3).clr (fCAN_STATUS_TTMASTER n)).modCan n (fun q => { q with refPend := false })).raise 0x0C09 n

/-! ### Error confinement (R381) -/

/-- Entry to bus-off. -/
def State.canBusOff (s : State) (n : Nat) : State :=
  let s := ((s.setF (fCAN_STATUS_FCS n) fcOFF).clr (fCAN_STATUS_SYNC n)).inc (rCAN_CNT_BOFF n)
  let s := ((s.set1 (fCAN_EVENTS_BUS_OFF n)).modCan n (fun q => { q with bus := none })).raise 0x0C02 n
  let s := s.each (fun s b => if s.txPend n b ∧ s.on (fCAN_MB_CFG_ONESHOT n b) then s.canFail n b 5 else s) 128
  let s := if s.on (fCAN_CFG_TT_EN n) then s.ttSevere n else s
  if n < 2 then
    let s := s.modSf (fun q => { q with busOff := Nat.lor q.busOff (2 ^ n) })
    if s.on fSI_SF_CFG_SF_EN ∧ s.ist = iACTIVE then s.netLose n else s
  else s

/-- The error counters take values, and the channel its error state. -/
def State.canErrors (s : State) (n tec rec : Nat) : State :=
  let s := (s.modCan n (fun q => { q with tec := tec, rxe := rec })).wrN (rCAN_ERRCNT n) (min rec 255 * 256 + min tec 255)
  let s := s.setB (fCAN_STATUS_WARN n) (decide (96 ≤ tec ∨ 96 ≤ rec))
  if 255 < tec then s.canBusOff n
  else if 128 ≤ tec ∨ 128 ≤ rec then
    (if s.fcs n = fcACTIVE then ((s.setF (fCAN_STATUS_FCS n) fcPASSIVE).set1 (fCAN_EVENTS_ERR_PASSIVE n)).raise 0x0C01 n else s)
  else s.setF (fCAN_STATUS_FCS n) fcACTIVE

/-- An error on the bus: `CAN_CNT_ERR`, the error code, the counter it steps. -/
def State.canError (s : State) (n : Nat) (tx : Bool) (step lec : Nat) (data : Bool) : State :=
  let s := s.inc (rCAN_CNT_ERR n)
  let s := if data then s.setF (fCAN_STATUS_DLEC n) lec else s.setF (fCAN_STATUS_LEC n) lec
  let q := s.canC n
  if tx then s.canErrors n (q.tec + step) q.rxe else s.canErrors n q.tec (q.rxe + step)

def canBusError (s : State) (n : Nat) (tx : Bool) (step lec : Nat) (data : Bool) : State :=
  if s.canOnBus n then s.canError n tx step lec data else s

def execCanBusError (n : Fin 4) (tx : Bool) (step : Fin 9) (lec : Fin 7) (data : Bool) (s : State) : Outcome State Fault Refusal :=
  .next (s.lit (canBusError s n.val tx step.val lec.val data))

/-- R381: recovery starts. -/
def busOffWaitEnd (s : State) (n : Nat) : State :=
  if s.canLive n ∧ s.fcs n = fcOFF ∧ s.on (fCAN_CFG_BOFF_AUTO n) then s.setF (fCAN_STATUS_FCS n) fcRECOVER else s

def execBusOffWaitEnd (n : Fin 4) (s : State) : Outcome State Fault Refusal := .next (s.lit (busOffWaitEnd s n.val))

/-- R381, R384: recovery completes. -/
def busOffRecoveryDone (s : State) (n : Nat) : State :=
  if s.canLive n ∧ s.fcs n = fcRECOVER then
    let s := ((s.setF (fCAN_STATUS_FCS n) fcACTIVE).canErrors n 0 0).modCan n (fun q => { q with seqRef := [] })
    let s := ((s.set1 (fCAN_STATUS_SYNC n)).set1 (fCAN_EVENTS_RECOVERED n)).raiseCleared 0x0C02 n 0
    if n < 2 then s.modSf (fun q => { q with busOff := Nat.land q.busOff (3 - 2 ^ n) }) else s
  else s

def execBusOffRecoveryDone (n : Fin 4) (s : State) : Outcome State Fault Refusal := .next (s.lit (busOffRecoveryDone s n.val))

def canStartRecovery (s : State) (n : Nat) : State :=
  s.cmd (rCAN_CMD n) 0x300 (fun s => if s.fcs n = fcOFF ∧ s.domOn (56 + n) then (stDONE, s.setF (fCAN_STATUS_FCS n) fcRECOVER) else (stREFUSED, s))

def execCanStartRecovery (n : Fin 4) (s : State) : Outcome State Fault Refusal := .next (s.lit (canStartRecovery s n.val))

/-- R378: the channel integrates to the bus again. -/
def protocolException (s : State) (n : Nat) : State :=
  if s.canOnBus n then
    ((((s.clr (fCAN_STATUS_SYNC n)).modCan n (fun q => { q with bus := none })).set1 (fCAN_EVENTS_PXE n))).raiseSec 0x0C06 n
  else s

def execProtocolException (n : Fin 4) (s : State) : Outcome State Fault Refusal := .next (s.lit (protocolException s n.val))

/-! ### Time-triggered cycle (R393–R395) -/

/-- Units of one NTU and of one basic cycle. -/
def State.ttNtu (s : State) (n : Nat) : Nat := s.fld (fCAN_TT_TIMING_NTU n) * 3200
def State.ttLen (s : State) (n : Nat) : Nat := s.fld (fCAN_TT_TIMING_CYCLE_LEN n) * s.ttNtu n

/-- R393: the cycle count of the basic cycle that holds an instant, on Halyard time's own grid. -/
def State.ttCountAt (s : State) (n t : Nat) : Nat := t / s.ttLen n % 2 ^ s.fld (fCAN_TT_CFG_CYC_EXP n)

/-- A sync mark: cycle time starts at `t`; at count 0 the matrix cycle that ends decides S1 and S2 (R396). -/
def State.ttSyncMark (s : State) (n t count mark : Nat) : State :=
  let q := s.canC n
  let clean := count = 0 ∧ q.whole ∧ ¬ q.missed
  let lv := s.ttLevel n
  let s := if clean ∧ (lv = 1 ∨ lv = 2) then
      let s := (s.setTtLevel n 0).modCan n (fun q => { q with exclStop := false })
      if lv = 2 then s.raiseCleared 0x0C08 n 0 else s
    else s
  s.modCan n (fun q => { q with
    sync := t + 1, count := count, mark := mark, refSeen := true, missed := if count = 0 then false else q.missed, whole := q.whole || count == 0 })

/-- R396: the current master is the node of priority `p`. -/
def State.ttMaster (s : State) (n p : Nat) : State :=
  let old := (s.canC n).master
  let s := (s.setF (fCAN_STATUS_TTPRIO n) p).modCan n (fun q => { q with master := p + 1 })
  if old = 0 ∨ old = p + 1 then s else (s.set1 (fCAN_EVENTS_TT_MASTER n)).raise 0x0C0A n

/-- PRESUMED (ISO 11898-4 reference message): cycle count in byte 0, discontinuity in byte 1 bit 0, Master_Ref_Mark in bytes 2–3.  The mark is
Halyard time at the start of the frame through the BUS bridge, the cycle count that of t_c (R393). -/
def State.refFrame (s : State) (n : Nat) : CanFrame :=
  let t := s.bridged .bus
  let mprio := s.fld (fCAN_TT_CFG_MPRIO n)
  let ident := (s.fld (fCAN_TT_CFG_REF_ID n) / 8 * 8 + mprio) * 262144
  let disc := if s.on (fCAN_STATUS_TTMASTER n) then 0 else 1
  { ident := BitVec.ofNat 29 ident, ide := false, fdf := false, brs := false, esi := false, rtr := false, dlc := 4,
    data := BitVec.ofNat 512 ((s.canC n).cyc + disc * 256 + t / s.ttNtu n % 65536 * 65536) }

/-- R393: a received reference message: one of higher priority ends this module's mastership; the current master keeps its own sync mark. -/
def State.refReceive (s : State) (n : Nat) (f : CanFrame) (t : Nat) : State :=
  let id := f.ident.toNat / 262144
  if ¬ s.canTT n ∨ f.ide ∨ id / 8 ≠ s.fld (fCAN_TT_CFG_REF_ID n) / 8 ∨ f.len < 4 then s
  else
    let p := id % 8
    if s.on (fCAN_STATUS_TTMASTER n) ∧ s.fld (fCAN_TT_CFG_MPRIO n) ≤ p then s.modCan n (fun q => { q with refSeen := true })
    else
      let s := (s.clr (fCAN_STATUS_TTMASTER n)).modCan n (fun q => { q with refPend := false })
      (s.ttMaster n p).ttSyncMark n t (f.bytes % 64) (f.bytes / 65536 % 65536)

/-- R393: this module's own reference message has gone out with its start-of-frame at `t`. -/
def State.refSent (s : State) (n : Nat) (f : CanFrame) (t : Nat) : State :=
  ((s.set1 (fCAN_STATUS_TTMASTER n)).ttMaster n (s.fld (fCAN_TT_CFG_MPRIO n))).ttSyncMark n t (f.bytes % 64) (f.bytes / 65536 % 65536)

/-- R393: a basic cycle starts. -/
def ttCycleStart (s : State) (n : Nat) : State :=
  if s.canTT n ∧ s.ttLevel n ≠ 3 ∧ s.clk.counting then
    s.modCan n (fun q => { q with
      refSeen := false, refPend := s.on (fCAN_STATUS_TTMASTER n) && s.on (fCAN_TT_CFG_MASTER_EN n), cyc := s.ttCountAt n s.now })
  else s

def execTtCycleStart (n : Fin 4) (s : State) : Outcome State Fault Refusal := .next (s.lit (ttCycleStart s n.val))

/-- R393: a potential master that has heard none since t_c. -/
def masterPrioritySend (s : State) (n : Nat) : State :=
  if s.canTT n ∧ s.on (fCAN_TT_CFG_MASTER_EN n) ∧ s.ttLevel n ≠ 3 ∧ ¬ s.on (fCAN_STATUS_TTMASTER n) ∧ ¬ (s.canC n).refSeen ∧ s.clk.counting then
    s.modCan n (fun q => { q with refPend := true, cyc := s.ttCountAt n s.now })
  else s

def execMasterPrioritySend (n : Fin 4) (s : State) : Outcome State Fault Refusal := .next (s.lit (masterPrioritySend s n.val))

/-- R394: the fields of trigger `t`. -/
def State.trigMark (s : State) (n t : Nat) : Nat := s.rdN (rCAN_TRIG n (2 * t)) / 65536
def State.trigWord (s : State) (n t : Nat) : Nat := s.rdN (rCAN_TRIG n (2 * t + 1))
def State.trigValid (s : State) (n t : Nat) : Bool := bit (s.trigWord n t) 31
def State.trigType (s : State) (n t : Nat) : Nat := s.trigWord n t / 2 ^ 28 % 8
def State.trigRep (s : State) (n t : Nat) : Nat := s.trigWord n t / 2 ^ 24 % 8
def State.trigOfs (s : State) (n t : Nat) : Nat := s.trigWord n t / 2 ^ 16 % 64
def State.trigBuf (s : State) (n t : Nat) : Nat := s.trigWord n t % 128

/-- The next distinct mark after that of trigger `t`; the end of the cycle when there is none. -/
def State.trigNext (s : State) (n t : Nat) : Nat :=
  (List.range 256).foldl (fun m k => if s.trigValid n k ∧ s.trigMark n t < s.trigMark n k then min m (s.trigMark n k) else m) (s.fld (fCAN_TT_TIMING_CYCLE_LEN n))

/-- R394: trigger `t` acts in the present basic cycle. -/
def State.trigActs (s : State) (n t : Nat) : Bool :=
  let q := s.canC n
  s.canTT n && s.ttLevel n != 3 && q.sync != 0 && s.trigValid n t && q.count % 2 ^ s.trigRep n t == s.trigOfs n t

/-- R395. -/
def ttTrigger (s : State) (n t : Nat) : State :=
  let q := s.canC n
  let b := s.trigBuf n t
  if ¬ s.trigActs n t then s
  else match s.trigType n t with
    | 0 => if q.exclStop then s else (s.modCan n (fun q => { q with excl := q.excl ++ [(b, t)] })).set1 (fCAN_MB_STAT_TXPEND n b)
    | 1 =>
      let took := q.taken.at 0 b + 1
      let last := q.seen.at 0 t
      let s := s.modCan n (fun q => { q with seen := q.seen.put 0 t took })
      if last = took then s.ttMiss n else s
    | 2 => s.modCan n (fun q => { q with winEnd := q.sync - 1 + s.trigNext n t * s.ttNtu n })
    | _ => s

def execTtTrigger (n : Fin 4) (t : Fin 256) (s : State) : Outcome State Fault Refusal := .next (s.lit (ttTrigger s n.val t.val))

/-- R395, R396: an exclusive frame has not started in time; the second miss in a row brings S2. -/
def ttTxWindowMiss (s : State) (n t : Nat) : State :=
  match (s.canC n).excl.find? (fun p => p.2 == t) with
  | some (b, _) =>
      let k := (s.canC n).runs.at 0 t + 1
      let s := (s.modCan n (fun q => { q with excl := q.excl.filter (fun p => p.2 != t), runs := q.runs.put 0 t k })).canFail n b 4
      let s := s.ttMiss n
      if 2 ≤ k then s.ttError n else s
  | none => s

def execTtTxWindowMiss (n : Fin 4) (t : Fin 256) (s : State) : Outcome State Fault Refusal := .next (s.lit (ttTxWindowMiss s n.val t.val))

def ttReferenceLoss (s : State) (n : Nat) : State := if s.canTT n then s.ttSevere n else s

def execTtReferenceLoss (n : Fin 4) (s : State) : Outcome State Fault Refusal := .next (s.lit (ttReferenceLoss s n.val))

/-- `CAN_CMD` 0x0500. -/
def canRestartTt (s : State) (n : Nat) : State :=
  s.cmd (rCAN_CMD n) 0x500 (fun s =>
    if ¬ s.on (fCAN_CFG_TT_EN n) then (stREFUSED, s)
    else
      let lv := s.ttLevel n
      let s := s.forEach (fun s p => s.clr (fCAN_MB_STAT_TXPEND n p.1)) (s.canC n).excl
      let s := (s.setTtLevel n 0).modCan n (fun q => { q with
        sync := 0, refSeen := false, refPend := false, excl := [], exclStop := false, missed := false, whole := false, runs := [], winEnd := 0 })
      (stDONE, if lv = 3 then s.raiseCleared 0x0C09 n 0 else if lv = 2 then s.raiseCleared 0x0C08 n 0 else s))

def execCanRestartTt (n : Fin 4) (s : State) : Outcome State Fault Refusal := .next (s.lit (canRestartTt s n.val))

/-! ### Reception (R383–R385) -/

/-- R383: the buffer a frame matches. -/
def State.canMatch (s : State) (n : Nat) (f : CanFrame) : Option Nat :=
  firstBelow (fun b => s.on (fCAN_MB_CFG_EN n b) && !s.on (fCAN_MB_CFG_DIR n b) && s.on (fCAN_MB_CFG_IDE n b) == f.ide
    && Nat.land (Nat.xor f.ident.toNat (s.fld (fCAN_MB_ID_V n b))) (s.fld (fCAN_MB_MASK_V n b)) == 0) 128

/-- R385: the forward record. -/
def State.canForward (s : State) (n b : Nat) (f : CanFrame) : State :=
  let q := s.fld (fCAN_MB_FWD_FWD_Q n b)
  if q = 0 then s
  else s.emit (s.unitRec q 0x10 (f.ident.toNat + (if f.ide then 2 ^ 31 else 0) + f.len * 2 ^ 32 + f.bytes % 2 ^ 88 * 2 ^ 40))

/-- R54, R383: the time of an SOF instant through the BUS bridge. -/
def State.sofTime (s : State) (sof : Nat) : Nat := s.bridgedAt .bus (s.instantOf sof)

/-- R383: a buffer takes a frame: contents first, then `ND` and `CNT`. -/
def State.canTake (s : State) (n b : Nat) (f : CanFrame) (sof : Nat) : State :=
  let info := (if f.ide then 2 ^ 31 else 0) + (if f.fdf then 2 ^ 30 else 0) + (if f.brs then 2 ^ 29 else 0) + (if f.esi then 2 ^ 28 else 0)
    + f.dlc.toNat * 2 ^ 24
  let s := ((s.wrN (rCAN_MB_RXINFO n b) info).wrN (rCAN_MB_RXID n b) f.ident.toNat).canLoad n b f.bytes
  let s := (s.wrN (rCAN_MB_TIME_LO n b) sof).wrN (rCAN_MB_TIME_HI n b) (sof / 2 ^ 32)
  let s := if s.on (fCAN_MB_STAT_ND n b) then
      (((s.set1 (fCAN_MB_STAT_MSGLOST n b)).inc (rCAN_CNT_OVR n)).set1 (fCAN_EVENTS_OVERRUN n)).raiseSec 0x0C04 n
    else s
  let s := (s.set1 (fCAN_MB_STAT_ND n b)).setF (fCAN_MB_STAT_CNT n b) (s.fld (fCAN_MB_STAT_CNT n b) + 1)
  (s.modCan n (fun q => { q with taken := q.taken.put 0 b (q.taken.at 0 b + 1) })).canForward n b f

/-- R384: the sequence check of a buffer. -/
def State.canSeqStale (s : State) (n b : Nat) (f : CanFrame) : Bool :=
  let last := (s.canC n).seqRef.at 0 b
  s.on (fCAN_MB_CFG_SEQ_CHK n b) && last != 0 && !newer16 (f.bytes % 65536) (last - 1)

/-- PRESUMED (ISO 11898-1): the receive counter after a good frame: one less up to 127, above that a value from 119 to 127. -/
def State.recAfter (s : State) (n : Nat) : State × Nat :=
  let r := (s.canC n).rxe
  if r ≤ 127 then (s, r - 1)
  else ({ s with free := s.free + 1 }, 119 + Config.freeAt s.free 27 % 9)

def canFrameReceive (s : State) (n : Nat) (f : CanFrame) (sof : Nat) : State :=
  if ¬ s.canOnBus n ∨ (f.fdf ∧ ¬ s.on (fCAN_CFG_FD_EN n)) then s
  else
    let (s, r) := s.recAfter n
    let s := ((s.set1 (fCAN_STATUS_SYNC n)).canErrors n (s.canC n).tec r).inc (rCAN_CNT_RXOK n)
    if f.rtr then s
    else
      let t := s.sofTime sof
      let s := s.refReceive n f t
      match s.canMatch n f with
      | none => s.inc (rCAN_CNT_NOMATCH n)
      | some b =>
        if s.canSeqStale n b f then ((s.inc (rCAN_CNT_STALE n)).set1 (fCAN_EVENTS_STALE n)).raiseSec 0x0C05 n
        else
          let s := if s.on (fCAN_MB_CFG_SEQ_CHK n b) then s.modCan n (fun q => { q with seqRef := q.seqRef.put 0 b (f.bytes % 65536 + 1) }) else s
          s.canTake n b f (t % 2 ^ 40)

def execCanFrameReceive (n : Fin 4) (f : CanFrame) (sof : BitVec 40) (s : State) : Outcome State Fault Refusal :=
  .next (s.lit (canFrameReceive s n.val f sof.toNat))

/-! ### Requests and aborts (R387–R390) -/

/-- R387: a request; an abort in the same BUS period wins (R389); a ONESHOT buffer of a channel that is bus-off or monitoring fails at once
(R388). -/
def State.canRequest (s : State) (n b : Nat) : State :=
  if s.txPend n b then s
  else
    let s := s.set1 (fCAN_MB_STAT_TXPEND n b)
    if (s.canC n).abortAt.at 0 b = s.busPeriod + 1 then s.canFail n b 3
    else if s.on (fCAN_MB_CFG_ONESHOT n b) ∧ (fcOFF ≤ s.fcs n ∨ s.on (fCAN_CFG_LISTEN_ONLY n)) then s.canFail n b 5 else s

/-- R389. -/
def State.canAbort (s : State) (n b : Nat) : State :=
  match (s.canC n).bus with
  | some o =>
    if o.buf = some b then s.modCan n (fun q => { q with bus := some { o with aborted := true } })
    else if s.txPend n b then s.canFail n b 3 else s
  | none => if s.txPend n b then s.canFail n b 3 else s

/-- An abort also drops the exclusive transmissions of the buffer that wait. -/
def State.canAbortAll (s : State) (n b : Nat) : State :=
  (s.canAbort n b).modCan n (fun q => { q with excl := q.excl.filter (fun p => p.1 != b), abortAt := q.abortAt.put 0 b (s.busPeriod + 1) })

/-- `CAN_CMD` 0x0100 + b and 0x0200 + b: INVALID for a reserved buffer (R382). -/
def State.canBufCmd (s : State) (n b val : Nat) (act : State → State) : State :=
  s.cmd (rCAN_CMD n) val (fun s =>
    if s.canReserved n b then (stINVALID, s)
    else if s.canTxBuf n b ∧ ¬ s.on (fCAN_MB_CFG_TT n b) then (stDONE, act s)
    else (stREFUSED, s))

def canRequestBuffer (s : State) (n b : Nat) : State := s.canBufCmd n b (0x100 + b) (fun s => s.canRequest n b)

def execCanRequestBuffer (n : Fin 4) (b : Fin 128) (s : State) : Outcome State Fault Refusal := .next (s.lit (canRequestBuffer s n.val b.val))

def canAbortBuffer (s : State) (n b : Nat) : State := s.canBufCmd n b (0x200 + b) (fun s => s.canAbortAll n b)

def execCanAbortBuffer (n : Fin 4) (b : Fin 128) (s : State) : Outcome State Fault Refusal := .next (s.lit (canAbortBuffer s n.val b.val))

def canCounters (n : Nat) : List Nat :=
  [rCAN_CNT_RXOK n, rCAN_CNT_TXOK n, rCAN_CNT_ERR n, rCAN_CNT_BOFF n, rCAN_CNT_OVR n, rCAN_CNT_STALE n, rCAN_CNT_TXBUSY n, rCAN_CNT_NOMATCH n,
    rCAN_CNT_TTMISS n]

def canClearCounters (s : State) (n : Nat) : State := s.cmd (rCAN_CMD n) 1 (fun s => (stDONE, s.zero (canCounters n)))

def execCanClearCounters (n : Fin 4) (s : State) : Outcome State Fault Refusal := .next (s.lit (canClearCounters s n.val))

/-- Queue 0 of the channel. -/
def canQueue (n : Nat) : Nat := 0x970 + 16 * n

def transmit (s : State) (n : Nat) (p : Quad) : State :=
  let s := s.consume (canQueue n) 0x10 p
  if s.canAccepts n 0x10 p then s.canRequest n (p.b 0) else s

def execTransmit (n : Fin 4) (p : Quad) (s : State) : Outcome State Fault Refusal := .next (s.lit (transmit s n.val p))

/-- R390: SEND8 replaces `DLC` and data bytes 0–7. -/
def send8 (s : State) (n : Nat) (p : Quad) : State :=
  let s := s.consume (canQueue n) 0x11 p
  let b := p.b 0
  if ¬ s.canAccepts n 0x11 p then s
  else if s.txPend n b then (s.inc (rCAN_CNT_TXBUSY n)).set1 (fCAN_EVENTS_TXBUSY n)
  else
    let s := ((s.setF (fCAN_MB_CFG_DLC n b) (p.b 1)).wrN (rCAN_MB_DATA n b 0) (p.w 2)).wrN (rCAN_MB_DATA n b 1) (p.w 6)
    (s.modCan n (fun q => { q with send8At := q.send8At.put 0 b (s.busPeriod + 1) })).canRequest n b

def execSend8 (n : Fin 4) (p : Quad) (s : State) : Outcome State Fault Refusal := .next (s.lit (send8 s n.val p))

def canAbortRecord (s : State) (n : Nat) (p : Quad) : State :=
  let s := s.consume (canQueue n) 0x12 p
  if s.canAccepts n 0x12 p then s.canAbortAll n (p.b 0) else s

def execCanAbortRecord (n : Fin 4) (p : Quad) (s : State) : Outcome State Fault Refusal := .next (s.lit (canAbortRecord s n.val p))

/-- R382, R387: a write to a transmit buffer's data; in BIVOUAC every write is ignored (R376).  One in the BUS period of a SEND8 record acts
before it, so that of its bytes those beyond byte 7 stand (R495). -/
def canMbDataWrite (s : State) (n b k : Nat) (v : Word) : State :=
  if s.inBiv ∨ ¬ s.on (fCAN_MB_CFG_DIR n b) ∨ s.canReserved n b then s
  else if (s.canC n).send8At.at 0 b = s.busPeriod + 1 then (if k < 2 then s else s.wr (rCAN_MB_DATA n b k) v)
  else if s.txPend n b then s.inc (rCAN_CNT_TXBUSY n)
  else s.wr (rCAN_MB_DATA n b k) v

def execCanMbDataWrite (n : Fin 4) (b : Fin 128) (k : Fin 16) (v : Word) (s : State) : Outcome State Fault Refusal :=
  .next (s.lit (canMbDataWrite s n.val b.val k.val v))

/-! ### Hardware's own frames (R348, R375, R391) -/

/-- Hardware loads a reserved buffer and requests it; a frame of it that is on the bus completes first. -/
def State.canOwn (s : State) (n b x : Nat) : State :=
  let s := (s.canLoad n b x).set1 (fCAN_MB_STAT_TXPEND n b)
  match (s.canC n).bus with
  | some o => if o.buf = some b then s.modCan n (fun q => { q with bus := some { o with again := true } }) else s
  | none => s

/-- R348: the island's status frame on both networks, while SI_IO is powered. -/
def siStatusFrame (s : State) : State :=
  if s.on fSI_SF_CFG_SF_EN ∧ s.domOn 4 ∧ ¬ s.mute then
    let f := (s.statusFrame s.si.sf.stsSeq).toNat
    let s := (s.canOwn 0 1 f).canOwn 1 1 f
    (s.setF ⟨rSI_SF_SEQ, 31, 16⟩ s.si.sf.stsSeq).modSf (fun q => { q with stsSeq := (q.stsSeq + 1) % 65536 })
  else s

def execSiStatusFrame (s : State) : Outcome State Fault Refusal := .next (s.lit (siStatusFrame s))

/-- Observer word `k` of cell `c` (R391). -/
def State.obsWord (s : State) (c k : Nat) : Nat :=
  if s.on (fFLT_CELL_OBS_STOPPED c) then 0
  else match s.fpOf c 1 with
    | some f => ((s.core f).dmem.at 0 (Config.obsAddr k / 4)).toNat
    | none => 0

/-- R391: the 48 bytes of a cell's status frame, sampled now. -/
def State.cellStatus (s : State) (n c : Nat) : Nat :=
  let e := s.leOf c
  let b := fun (x : Bool) (k : Nat) => if x then 2 ^ k else 0
  ofBytes (bytesOf 2 ((s.canC n).stsSeq.at 0 c) ++ [s.own, c, s.fld (fBND_STATUS_STATE c) * 16 + s.fld (fBND_ST_STATUS_STATE c),
      s.fld (fLE_STATUS_STATE e) * 16 + s.fld (fLE_STATUS_MODE e) % 4 * 4 + s.cst c, s.fld (fLE_PAR_STATUS_PSTATE c) * 16 + s.clevel c * 4,
      b (s.on (fLE_PAR_STATUS_SHORTFALL c)) 0 + b (s.on (fBND_STATUS_VSAT c)) 1 + b (s.on (fBND_STATUS_ILIM_ACTIVE c)) 2
        + b (s.on (fBND_STATUS_TMAG_STALE c)) 3 + b (s.on (fFLT_CELL_OBS_STOPPED c)) 4]
    ++ bytesOf 2 (s.rdN (rLE_FB_SPD e)) ++ bytesOf 2 (s.rdN (rLE_TORQUE e) / 65536) ++ bytesOf 2 (s.rdN (rBND_IEST c) / 65536)
    ++ bytesOf 2 (s.rdN (rBND_VDC c)) ++ bytesOf 2 (s.rdN (rBND_ILIM_RT c)) ++ bytesOf 2 (s.fld (fBND_KE_EST_KE_RATIO c))
    ++ bytesOf 4 (s.rdN (rBND_LR_STATUS c)) ++ bytesOf 8 (s.bridged .bus) ++ (List.range 4).flatMap (fun k => bytesOf 4 (s.obsWord c k)))

/-- R391: a cell's status frame falls due. -/
def statusFrameSend (s : State) (n c : Nat) : State :=
  if s.on (fCAN_STS_CFG_STS_EN n) ∧ bit (s.fld (fCAN_STS_CFG_CELLS n)) c ∧ (s.ps = psREADY ∨ s.running) then s.set1 (fCAN_MB_STAT_TXPEND n (3 + c)) else s

def execStatusFrameSend (n c : Fin 4) (s : State) : Outcome State Fault Refusal := .next (s.lit (statusFrameSend s n.val c.val))

/-! ### Transmission (R387, R393, R395) -/

/-- Buffer `b` carries a status frame of R391. -/
def State.isStatus (s : State) (n b : Nat) : Bool := 3 ≤ b && b ≤ 6 && s.on (fCAN_STS_CFG_STS_EN n)

/-- R395: a buffer with `TT` = 0 may start now. -/
def State.canMayStart (s : State) (n b : Nat) : Bool :=
  s.txPend n b && !s.on (fCAN_MB_CFG_TT n b)
    && (!s.on (fCAN_CFG_TT_EN n) || decide (s.now < (s.canC n).winEnd ∧ s.now + s.canTime n (s.canFrame n b) ≤ (s.canC n).winEnd))

/-- R387: the pending buffer whose frame wins, the lowest-numbered of equal ones. -/
def State.canWinner (s : State) (n : Nat) : Option Nat :=
  ((List.range 128).filter (fun b => s.canMayStart n b)).foldl (fun m b => match m with
    | none => some b
    | some x => if (s.canFrame n b).order < (s.canFrame n x).order then some b else some x) none

/-- A buffer's frame is built and enters arbitration; a status frame samples its fields. -/
def State.canStart (s : State) (n b : Nat) : State :=
  let s := if s.isStatus n b then s.canLoad n b (s.cellStatus n (b - 3)) else s
  s.modCan n (fun q => { q with bus := some { buf := some b, frame := s.canFrame n b, aborted := false, again := false } })

/-- R387: the reference message first, then an exclusive transmission, then the winner; nothing starts in S3. -/
def canArbitrationStart (s : State) (n : Nat) : State :=
  let q := s.canC n
  if ¬ s.canOnBus n ∨ s.on (fCAN_CFG_LISTEN_ONLY n) ∨ q.bus.isSome then s
  else
    let s := s.set1 (fCAN_STATUS_SYNC n)
    if s.canTT n ∧ s.ttLevel n = 3 then s
    else if q.refPend then
      s.modCan n (fun q => { q with refPend := false, bus := some { buf := none, frame := s.refFrame n, aborted := false, again := false } })
    else match if q.exclStop then [] else q.excl with
      | (b, t) :: l => (s.modCan n (fun q => { q with excl := l, runs := q.runs.put 0 t 0 })).canStart n b
      | [] => match s.canWinner n with
        | some b => s.canStart n b
        | none => s

def execCanArbitrationStart (n : Fin 4) (s : State) : Outcome State Fault Refusal := .next (s.lit (canArbitrationStart s n.val))

/-- R387: success of a buffer's frame. -/
def State.canSent (s : State) (n b sof : Nat) (again : Bool) : State :=
  let s := (s.set1 (fCAN_MB_STAT_TXOK n b)).setB (fCAN_MB_STAT_TXPEND n b) again
  let s := (s.setF (fCAN_MB_STAT_CNT n b) (s.fld (fCAN_MB_STAT_CNT n b) + 1)).wrN (rCAN_MB_TIME_LO n b) sof
  let s := s.wrN (rCAN_MB_TIME_HI n b) (sof / 2 ^ 32)
  if s.isStatus n b then s.modCan n (fun q => { q with stsSeq := q.stsSeq.put 0 (b - 3) ((q.stsSeq.at 0 (b - 3) + 1) % 65536) }) else s

/-- R387–R389, R392: a buffer's frame has lost arbitration (1) or met an error (2). -/
def State.canUnsent (s : State) (n b code : Nat) (aborted : Bool) : State :=
  if aborted then s.canFail n b 3
  else if s.on (fCAN_MB_CFG_ONESHOT n b) ∨ s.on (fCAN_CFG_TT_EN n) then s.canFail n b code
  else s

def canTxEnd (s : State) (n : Nat) (r : TxEnd) (sof tdcv : Nat) : State :=
  match (s.canC n).bus with
  | none => s
  | some o =>
    let s := s.modCan n (fun q => { q with bus := none })
    let s := if o.frame.fdf ∧ s.on (fCAN_DBT_TDC_EN n) then s.setF (fCAN_STATUS_TDCV n) tdcv else s
    match r, o.buf with
    | .success, some b =>
      let s := (s.inc (rCAN_CNT_TXOK n)).canErrors n ((s.canC n).tec - 1) (s.canC n).rxe
      s.canSent n b (s.sofTime sof % 2 ^ 40) o.again
    | .success, none =>
      let s := (s.inc (rCAN_CNT_TXOK n)).canErrors n ((s.canC n).tec - 1) (s.canC n).rxe
      s.refSent n o.frame (s.sofTime sof)
    | .lost, some b => s.canUnsent n b 1 o.aborted
    | .lost, none => s.clr (fCAN_STATUS_TTMASTER n)
    | .error step lec data, some b => (s.canUnsent n b 2 o.aborted).canError n true step.val lec.val data
    | .error step lec data, none => s.canError n true step.val lec.val data

def execCanTxEnd (n : Fin 4) (r : TxEnd) (sof : BitVec 40) (tdcv : BitVec 8) (s : State) : Outcome State Fault Refusal :=
  .next (s.lit (canTxEnd s n.val r sof.toNat tdcv.toNat))

end Sys2Proof.Machine
end

