-- ==== Sys2Proof/Machine/Flt.lean ====
section
/-! DEFINITION. FLT: Pennants (R353–R361, R374), the occurrence table (R358), BIVOUAC (R371–R377). -/
namespace Sys2Proof.Machine

open Host (Outcome)

def State.modFlt (s : State) (f : FltSt → FltSt) : State := { s with flt := f s.flt }

/-! ### Order of raises (R361) -/

/-- Whether raise `a` is written before raise `b`: TIME, then UCLASS, UINDEX and CODE; of one TIME and unit CLEARED has the highest code. -/
def Raise.before (a b : Raise) : Bool :=
  if a.time ≠ b.time then decide (a.time < b.time)
  else if a.code / 256 ≠ b.code / 256 then decide (a.code / 256 < b.code / 256)
  else if a.uidx ≠ b.uidx then decide (a.uidx < b.uidx)
  else decide (a.code < b.code)

/-- The first raise in that order, and the others. -/
def firstRaise : List Raise → Option (Raise × List Raise)
  | [] => none
  | a :: t => match firstRaise t with
    | none => some (a, [])
    | some (b, l) => if b.before a then some (b, a :: l) else some (a, b :: l)

/-- R360: CLEARED `a` is that of the fault raised in `b`. -/
def Raise.clears (a b : Raise) : Bool :=
  a.code % 256 == 0xF0 && a.code / 256 == b.code / 256 && a.uidx == b.uidx && a.detail.toNat % 65536 == b.code

/-- The first raise of a list that CLEARED `r` clears, and the others. -/
def takeCleared (r : Raise) : List Raise → Option (Raise × List Raise)
  | [] => none
  | a :: t => if r.clears a then some (a, t) else (takeCleared r t).map (fun p => (p.1, a :: p.2))

/-- R361: the raise to write next, and the others; a CLEARED waits for the Pennants of its fault. -/
def nextRaise (l : List Raise) : Option (Raise × List Raise) :=
  match firstRaise l with
  | none => none
  | some (r, t) => match takeCleared r t with
    | none => some (r, t)
    | some (x, u) => some (x, r :: u)

/-! ### The occurrence table (R358) -/

/-- The table after a raise, the count after it, and whether the table was full. -/
def occCount (code uidx : Nat) : List (Nat × Nat × Nat) → Nat → List (Nat × Nat × Nat) × Nat × Bool
  | [], n => if n < 2048 then ([(code, uidx, 1)], 1, false) else ([], 0, true)
  | (c, u, k) :: t, n =>
    if c = code ∧ u = uidx then ((c, u, min (k + 1) 65535) :: t, min (k + 1) 65535, false)
    else
      let r := occCount code uidx t (n + 1)
      ((c, u, k) :: r.1, r.2.1, r.2.2)

/-! ### Cells bound to a unit (R373) -/

/-- The cell of a decimator's input. -/
def State.decCell (s : State) (d c : Nat) : Bool := let n := s.fld (fSNS_DEC_CFG_INPUT d); n < 48 && s.sdUsed n && s.sdCell n == c

/-- Cell `c` has an AN input in the group of converter `k`. -/
def State.sarCell (s : State) (k c : Nat) : Bool :=
  (List.range 8).any (fun j => let n := k / 2 * 8 + j; s.fld (fSNS_AN_CFG_ROLE n) != 0 && s.fld (fSNS_AN_CFG_CELL n) == c)

/-- The unit that a code and UINDEX name is bound to cell `c` (R356, R373). -/
def State.boundTo (s : State) (code u c : Nat) : Bool :=
  s.cellUsed c &&
  match code / 256 with
  | 0x03 =>
    if code = 0x0302 ∨ code = 0x0303 then s.decCell u c
    else if u < 48 then s.sdUsed u && s.sdCell u == c
    else if 52 ≤ u ∧ u < 56 then s.sarCell (u - 52) c
    else 64 ≤ u && u < 88 && s.cellHas c (u - 64)
  | 0x04 => u < 6 && s.fld (fPOS_HALL_CFG_CELL u) == c && s.on (fPOS_HALL_CFG_ENABLE u)
  | 0x05 => (u < 24 && s.cellHas c u) || (32 ≤ u && u < 44 && s.legN (u - 32) != 0 && s.legCell (u - 32) == c)
  | 0x06 => u < 24 && s.cellHas c u
  | 0x07 => u == c
  | 0x08 => u == c
  | 0x09 => u < 10 && (decide (u < 8) || s.on (fFP_STATUS_CELL_VALID u)) && s.fld (fFP_STATUS_CELL u) == c
  | 0x0D => u < 8 && bit (s.fld (fSI_CELL_CFG_BRK_OUT c)) u
  | _ => false

/-- R373: the raise stops every running cell. -/
def stopsAll (code : Nat) : Bool := code == 0x0108 || code == 0x0202 || (code / 256 == 0x0F && faultClass code == 2)

/-- R373: the internal request of FLT in BIVOUAC; whether it starts a stop. -/
def State.bivStop (s : State) (want : Nat → Bool) : State × Bool :=
  let hit := (List.range 4).filter want
  let starts := hit.any (fun c => s.cst c == cNORMAL && !bit (s.fld (fSI_CELL_STATUS_DEMAND c)) 5)
  (if hit.isEmpty then s else (s.forEach State.requestSs1 hit).set1 fFLT_EVENTS_BIV_STOP, starts)

/-- The cells that run. -/
def State.cellRuns (s : State) (c : Nat) : Bool := s.cst c == cNORMAL

/-! ### Writing a Pennant (R353–R358, R374) -/

/-- R354: bytes 0–29. -/
def Pennant.body (p : Pennant) : List Nat :=
  bytesOf 4 p.pcc ++ bytesOf 2 p.epoch.toNat ++ bytesOf 8 p.time.toNat ++ [p.burgee, p.code / 256, p.uidx] ++ bytesOf 2 p.code ++ [p.flags]
    ++ bytesOf 2 p.occ ++ bytesOf 8 p.detail.toNat

/-- R354, R355: the 32 bytes, CRC in the last two. -/
def Pennant.bytes (p : Pennant) : List Nat := p.body ++ bytesOf 2 (crc16 p.body)

/-- R353: the ring takes a Pennant; one that overwrites an unflushed one is counted (R374). -/
def State.ringPut (s : State) (p : Pennant) : State :=
  let n := s.rdN rFLT_RING_WR
  let behind := (n + 2 ^ 32 - s.rdN rFLT_RING_FLUSH) % 2 ^ 32
  let s := if 4096 ≤ behind then (s.inc rFLT_CNT_LOST).set1 fFLT_EVENTS_LOST else s
  (s.modFlt (fun q => { q with ring := q.ring.put none (n % 4096) (some p) })).incMod rFLT_RING_WR

/-- One raise is written. -/
def State.writePennant (s : State) (r : Raise) : State :=
  let cls := faultClass r.code
  let (s, starts) := if s.inBiv ∧ cls ≠ 0 then
      s.bivStop (fun c => s.boundTo r.code r.uidx c || (stopsAll r.code && s.cellRuns c))
    else (s, false)
  let (tab, occ, full) := occCount r.code r.uidx s.flt.occ 0
  let s := s.modFlt (fun q => { q with occ := tab, bivWritten := if s.inBiv then min 65535 (q.bivWritten + 1) else q.bivWritten })
  let s := if full then (s.inc rFLT_CNT_OCCFULL).set1 fFLT_EVENTS_OCC_FULL else s
  let s := if cls = 2 then (s.inc rFLT_CNT_PERM).set1 fFLT_EVENTS_PERMANENT else if cls = 1 then s.inc rFLT_CNT_TRANS else s
  let flags := (if s.inBiv ∨ s.hk.deferred then 32 else 0) + (if s.inBiv then 16 else 0) + (if r.stop ∨ starts then 8 else 0)
    + (if r.code % 256 = 0xF0 then 4 else 0) + cls
  let s := s.ringPut
    { pcc := s.rdN rPCH_PCC, epoch := r.epoch, time := r.time, burgee := if s.hq.loaded then s.own else 255, code := r.code, uidx := r.uidx, flags := flags,
      occ := occ, detail := r.detail }
  s.wrN rFLT_LAST (r.uidx % 256 * 2 ^ 24 + flags * 2 ^ 16 + r.code)

/-- R353: FLT writes the next raise. -/
def pennantWrite (s : State) : State :=
  match nextRaise s.flt.raised with
  | none => s
  | some (r, l) => (s.modFlt (fun q => { q with raised := l })).writePennant r

def execPennantWrite (s : State) : Outcome State Fault Refusal := .next (s.lit (pennantWrite s))

def State.drainRaises (s : State) : Nat → State
  | 0 => s
  | n + 1 => (pennantWrite s).drainRaises n

/-- FLT writes every raise that waits. -/
def State.writeRaises (s : State) : State := s.drainRaises s.flt.raised.length

/-! ### BIVOUAC -/

/-- R371, R434: the management processor is lost: BIVOUAC from RUN and READY, HALT otherwise.  The retry waits of legs end (R157), the xSPI domain goes off
(R441). -/
def bivouacEntry (s : State) : State :=
  if ¬ s.on fSI_STATUS_MP_LOST ∨ s.mute ∨ s.inBiv then s
  else if s.ps = psRUN ∨ s.ps = psREADY then
    let s := (s.setF fPWR_STATUS_STATE psBIVOUAC).setF fPWR_STATUS_LAST_CAUSE 10
    let s := ((s.set1 fFLT_STATUS_BIVOUAC).set1 fFLT_EVENTS_BIVOUAC).wrN rFLT_BIV_TIME_LO (s.bridged .mgmt)
    let s := (s.wrN rFLT_BIV_TIME_HI (s.bridged .mgmt / 2 ^ 32)).modFlt (fun q => { q with bivWritten := 0, bivSeq := 0 })
    let s := s.each (fun s n => s.modLeg n (fun q => { q with waiting := false })) 12
    (s.setDom 8 false).clr fCLK_STATUS_TCOMP_ACTIVE
  else if s.ps = psHALT then s.setF fPWR_STATUS_LAST_CAUSE 10
  else s.haltEntry 10

def execBivouacEntry (s : State) : Outcome State Fault Refusal := .next (s.lit (bivouacEntry s))

/-- R375: the 16 bytes. -/
def State.bivBytes (s : State) : Nat :=
  ofBytes ([s.own, s.flt.bivSeq] ++ bytesOf 4 (s.rdN rPCH_PCC) ++ bytesOf 4 (s.bridged .mgmt / 2 ^ 32)
    ++ [s.clevel 0 + 4 * s.clevel 1 + 16 * s.clevel 2 + 64 * s.clevel 3, maskBelow (fun c => s.cst c == cHELD || s.cst c == cSS1) 4]
    ++ bytesOf 2 (s.rdN rFLT_LAST) ++ bytesOf 2 s.flt.bivWritten)

/-- R375: a BIVOUAC frame goes to buffer 2 of CAN0 and CAN1, in place of one that still waits. -/
def bivouacFrame (s : State) : State :=
  if s.inBiv then
    let x := s.bivBytes
    let s := s.modFlt (fun q => { q with bivSeq := (q.bivSeq + 1) % 256, bivFrame := BitVec.ofNat 128 x })
    (s.canOwn 0 2 x).canOwn 1 2 x
  else s

def execBivouacFrame (s : State) : Outcome State Fault Refusal := .next (s.lit (bivouacFrame s))

/-- R373: `BIV_TMAX` minutes since entry. -/
def bivTmaxExpiry (s : State) : State :=
  if s.inBiv ∧ s.fld fFLT_CFG_BIV_TMAX ≠ 0 then (s.bivStop s.cellRuns).1 else s

def execBivTmaxExpiry (s : State) : Outcome State Fault Refusal := .next (s.lit (bivTmaxExpiry s))

def fltCounters : List Nat := [rFLT_CNT_LOST, rFLT_CNT_PERM, rFLT_CNT_TRANS, rFLT_CNT_OCCFULL]

/-- `FLT_CMD` 0x0001, refused in BIVOUAC. -/
def fltClearCounters (s : State) : State := s.cmdBiv rFLT_CMD 1 (fun s => (stDONE, s.zero fltCounters))

def execFltClearCounters (s : State) : Outcome State Fault Refusal := .next (s.lit (fltClearCounters s))

end Sys2Proof.Machine
end

