-- ==== Sys2Proof/Machine/Hal.lean ====
section
/-! DEFINITION. Halyard time and links: the time-state machine (R41–R50), two-way time transfer (R51, R52), codewords and slots
(R57–R61), route cells (R512) and the port state machine (R63–R65). -/
namespace Sys2Proof.Machine

open Host (Outcome)

/-! ### The time slot (R59) -/

def tsSender (x : Slot) : Nat := slotN x 0 1
def tsMaster (x : Slot) : Nat := slotN x 1 1
def tsCand (x : Slot) : Nat := slotN x 2 1
def tsDepth (x : Slot) : Nat := slotN x 3 1 / 16
def tsElig (x : Slot) : Bool := bit (slotN x 3 1) 3
def tsXseq (x : Slot) : Nat := slotN x 4 2
def tsAlive (x : Slot) : Nat := slotN x 6 2
def tsTx (x : Slot) : Nat := slotN x 8 8
def tsRx (x : Slot) : Nat := slotN x 16 8
def tsEcho (x : Slot) : Nat := slotN x 24 2
def tsEpoch (x : Slot) : Nat := slotN x 26 2
def tsTag (x : Slot) : Nat := slotN x 28 4

/-- The lowest candidate this module announces: itself while it stands, or the lowest heard (R59). -/
def State.candidate (s : State) : Nat :=
  if s.on fHAL_CFG_MASTER_ELIG && (s.ts == tFREE || s.ts == tHOLDOVER) then min s.own s.hal.cand else s.hal.cand

/-- The time slot port `p` sends now (R59); outside MASTER and the states that follow one it names no master. -/
def State.mkTimeSlot (s : State) (p : Nat) : Slot :=
  let q := s.port p
  let elig := if s.on fHAL_CFG_MASTER_ELIG then 8 else 0
  BitVec.ofNat 256 (ofBytes (bytesOf 1 s.own ++ bytesOf 1 (s.fld fHAL_STATUS_MASTER) ++ bytesOf 1 s.candidate
    ++ bytesOf 1 (s.fld fHAL_STATUS_DEPTH * 16 + elig + s.ts) ++ bytesOf 2 q.xseq ++ bytesOf 2 s.hal.alive ++ bytesOf 8 s.now
    ++ bytesOf 8 q.peerStamp ++ bytesOf 2 q.peerXseq ++ bytesOf 2 s.clk.epoch.toNat ++ bytesOf 4 (s.rdN rHAL_NET_TAG)))

/-- Up to `n` slots from a port's transmit queues, in class order, against receive credit (R61); `all` false: management only
(R45, R63). -/
def takeSlots (all : Bool) : Nat → PortSt → List (Nat × Slot) × PortSt
  | 0, q => ([], q)
  | n + 1, q =>
    if q.credit = 0 then ([], q)
    else
      let d := { q with credit := q.credit - 1 }
      match all, q.txSafety, q.txCommit, q.txRecord, q.txMirror, q.txMgmt with
      | true, x :: t, _, _, _, _ => let r := takeSlots all n { d with txSafety := t }; ((3, x) :: r.1, r.2)
      | true, [], x :: t, _, _, _ => let r := takeSlots all n { d with txCommit := t }; ((1, x) :: r.1, r.2)
      | true, [], [], x :: t, _, _ => let r := takeSlots all n { d with txRecord := t }; ((1, x) :: r.1, r.2)
      | true, [], [], [], x :: t, _ => let r := takeSlots all n { d with txMirror := t }; ((2, x) :: r.1, r.2)
      | true, [], [], [], [], x :: t => let r := takeSlots all n { d with txMgmt := t }; ((4, x) :: r.1, r.2)
      | false, _, _, _, _, x :: t => let r := takeSlots all n { d with txMgmt := t }; ((4, x) :: r.1, r.2)
      | _, _, _, _, _, _ => ([], q)

/-- SLOTK: three bits a slot, slot 0 lowest (R57). -/
def slotKinds : List (Nat × Slot) → Nat
  | [] => 0
  | (k, _) :: t => k + 8 * slotKinds t

/-- R59, R61: port `p`, in UP or PROVE, sends its time slot in slot 0 and fills the five others.  DESIGN CHOICE (log 44): the time slot takes no
receive credit and returns none; (log 45): a master's alive count advances by 1 with every time slot it sends, on whatever port, in PROVE too. -/
def timeSlotSend (s : State) (p : Nat) : State :=
  if s.pst p = pUP ∨ s.pst p = pPROVE then
    let x := s.mkTimeSlot p
    let q := s.port p
    let r := takeSlots (s.pst p == pUP && s.crossOk) 5 q
    let slots : List (Nat × Slot) := (5, x) :: r.1
    let cr := min q.freed 1023
    let hdr := q.lseqTx * 2 ^ 48 + slotKinds slots * 2 ^ 30 + cr * 2 ^ 20 + s.own * 2 ^ 12
    let cw : Codeword := { header := BitVec.ofNat 64 hdr, slots := (slots.map Prod.snd ++ List.replicate 5 0#256).take 6, corrected := 0 }
    let s := s.setPort p { r.2 with
      lseqTx := (q.lseqTx + 1) % 4096, xseq := (q.xseq + 1) % 65536, sent := ((q.xseq, s.now) :: q.sent).take 16,
      freed := q.freed - cr, lane := some cw }
    if s.ts = tMASTER then { s with hal := { s.hal with alive := (s.hal.alive + 1) % 65536 } } else s
  else s

def execTimeSlotSend (p : Fin 4) (s : State) : Outcome State Fault Refusal := .next (s.lit (timeSlotSend s p))

/-! ### Time states -/

/-- PLL B's correction: discipline and temperature terms clamped to ±200 ppm, the slew in the room they leave (R48, R444). -/
def State.showFreq (s : State) : State :=
  let base := clamp (-200000) 200000 (s.hal.discipline + s.fldI fCLK_TCOMP_TERM)
  s.wrI rHAL_FREQ_ADJ (clamp (-200000) 200000 (base + s.hal.slew))

/-- The slew for an offset still to remove: at most 20 ppm, against the offset, in the room left (R48). -/
def State.setSlew (s : State) (off : Int) : State :=
  let base := clamp (-200000) 200000 (s.hal.discipline + s.fldI fCLK_TCOMP_TERM)
  let v : Int := if off = 0 then 0 else if 0 < off then max (-20000) (-200000 - base) else min 20000 (200000 - base)
  { s with hal := { s.hal with slew := v } }

/-- A change of time state. -/
def State.setTs (s : State) (t : Nat) : State := s.setF fHAL_STATUS_TSTATE t

/-- ACQUIRE toward the peer on port `p`: upstream port, depth, master and tag follow it (R42, R47); the exchange counts restart. -/
def State.acquire (s : State) (p : Nat) : State :=
  let q := s.port p
  let s := (s.setTs tACQUIRE).setF fHAL_STATUS_UPPORT p
  let s := (s.setF fHAL_STATUS_DEPTH (q.peerDepth + 1)).setF fHAL_STATUS_MASTER q.peerMaster
  let s := s.wrN rHAL_NET_TAG q.peerTag
  { s with hal := { s.hal with lockCnt := 0, unlockCnt := 0, stepped := false, deep := false } }

/-- A peer in UP that reports a master other than this module. -/
def State.reports (s : State) (p : Nat) : Bool :=
  s.pst p == pUP && (s.port p).peerMaster != 255 && (s.port p).peerMaster != s.own && decide ((s.port p).peerDepth < 15) && !(s.port p).conflict

/-- The order of R42: depth first, then the peer's Burgee number. -/
def State.upKey (s : State) (p : Nat) : Nat := (s.port p).peerDepth * 256 + s.peer p

/-- R42: the UP port whose peer reports a master at the smallest depth, the lowest Burgee number among equals; `some p` or none. -/
def State.bestUp (s : State) : Option Nat :=
  firstBelow (fun p => s.reports p && (firstBelow (fun o => s.reports o && decide (s.upKey o < s.upKey p)) 4).isNone) 4

/-- R42: the master lies beyond depth 8 on the way through port `p`. -/
def State.tooDeep (s : State) (p : Nat) : Bool := decide (8 < (s.port p).peerDepth + 1)

/-- R42: the depth limit is reached; 0x0109 as it is. -/
def State.noteDeep (s : State) : State :=
  let s := s.set1 fHAL_EVENTS_DEPTH_EXCEEDED
  if s.hal.deep then s else { s with hal := { s.hal with deep := true } }.raise 0x0109 255

/-- R42: entry to ACQUIRE toward the best peer, or the depth limit. -/
def State.follow (s : State) (p : Nat) : State := if s.tooDeep p then s.noteDeep else s.acquire p

/-- HOLDOVER: the frequency correction freezes; 0x0106 (R43, R50). -/
def State.enterHoldover (s : State) : State :=
  let s := (s.setTs tHOLDOVER).set1 fHAL_EVENTS_HOLDOVER_ENTRY
  let s := (s.setF fHAL_STATUS_DEPTH 15).setF fHAL_STATUS_MASTER 255
  let s := s.each (fun s p => s.modPort p (fun q => { q with peerCand := 255 })) 4
  { s with hal := { s.hal with holdSince := s.now, cand := 255, slew := 0 } }.showFreq.raise 0x0106 255

/-- DIVERGED: time is out of order, cross-module records are refused, no master is followed, and the count keeps the frequency correction without
the slew; 0x0108 (R43, R46). -/
def State.enterDiverged (s : State) : State :=
  let s := (((s.setTs tDIVERGED).clr fHAL_STATUS_RUN_TIME_OK).setF fHAL_STATUS_DEPTH 15).setF fHAL_STATUS_MASTER 255
  (({ s with hal := { s.hal with slew := 0 } }.showFreq).set1 fHAL_EVENTS_DIVERGED).raise 0x0108 255

/-- R49: the master's frequency is steered by J14 while the reference is enabled and an input present; by how much is a free value.  DESIGN CHOICE
(log 46): either input alone steers. -/
def State.steer (s : State) : State :=
  let on := s.ts == tMASTER && s.on fHAL_CFG_REF_IN_EN && (s.on fHAL_REF_STATUS_REF10_PRESENT || s.on fHAL_REF_STATUS_PPS_PRESENT)
  let s := s.setB fHAL_REF_STATUS_REF_LOCKED on
  if on then { s with free := s.free + 1, hal := { s.hal with discipline := clamp (-200000) 200000 (Config.refLaw s.free) } }.showFreq else s

/-- MASTER: this module's count is the network's time (R43); 0x0107. -/
def State.enterMaster (s : State) : State :=
  let s := (s.setTs tMASTER).setF fHAL_STATUS_MASTER s.own
  let s := (s.setF fHAL_STATUS_DEPTH 0).set1 fHAL_STATUS_RUN_TIME_OK
  let s := ((s.wrN rHAL_OFFSET 0).wrN rHAL_SLEW_REM 0)
  let s := { s with hal := { s.hal with slew := 0 } }
  s.steer.raise 0x0107 255

/-- R47: the network tag of the master that wins formation. -/
def State.formTag (s : State) : State :=
  s.wrN rHAL_NET_TAG (Config.serial.toNat % 65536 * 65536 + s.rdN rPCH_PCC % 65536)

/-- R43 FREE: eligible, no master and no lower candidate heard. -/
def freeElection (s : State) : State :=
  if s.ts = tFREE ∧ s.on fHAL_CFG_MASTER_ELIG ∧ s.bestUp = none ∧ s.own ≤ s.hal.cand then s.formTag.enterMaster else s

def execFreeElectionTimeout (s : State) : Outcome State Fault Refusal := .next (s.lit (freeElection s))

/-- R42, R43: a module that follows has lost its way and chooses the best peer anew, without a step: ACQUIRE, or HOLDOVER beyond depth 8. -/
def State.reacquire (s : State) (p : Nat) : State :=
  if s.tooDeep p then s.noteDeep.enterHoldover
  else
    let was := s.ts
    let s := s.acquire p
    let s := { s with hal := { s.hal with stepped := true } }
    if was = tLOCKED then (s.set1 fHAL_EVENTS_UNLOCK).raise 0x0105 255 else s

/-- R43 LOCKED, ACQUIRE without an upstream exchange for 8 µs: a new upstream neighbour, or HOLDOVER. -/
def upstreamSilence (s : State) : State :=
  if s.ts = tLOCKED ∨ s.ts = tACQUIRE then
    let up := s.fld fHAL_STATUS_UPPORT
    let s1 := s.modPort up (fun q => { q with peerMaster := 255 })
    match s1.bestUp with
    | some p => s1.reacquire p
    | none => s1.enterHoldover
  else s

def execUpstreamSilence (s : State) : Outcome State Fault Refusal := .next (s.lit (upstreamSilence s))

/-- R43: no newer alive count for 8 µs on every port: HOLDOVER, failover begins. -/
def masterAliveStale (s : State) : State :=
  if s.ts = tLOCKED ∨ s.ts = tACQUIRE then
    (s.each (fun s p => s.modPort p (fun q => { q with peerMaster := 255 })) 4).enterHoldover
  else s

def execMasterAliveStale (s : State) : Outcome State Fault Refusal := .next (s.lit (masterAliveStale s))

/-- R43 HOLDOVER: eligible and the election is won: the count and the tag are kept. -/
def electionWon (s : State) : State :=
  if s.ts = tHOLDOVER ∧ s.on fHAL_CFG_MASTER_ELIG ∧ s.own ≤ s.hal.cand then s.enterMaster.set1 fHAL_EVENTS_FAILOVER else s

def execCandidateElectionWon (s : State) : Outcome State Fault Refusal := .next (s.lit (electionWon s))

/-- R38, R40: the EDGE period in which the count passes 2⁶⁴ − 1: it continues modulo 2⁶⁴ and the epoch increments modulo 2¹⁶. -/
def countWrap (s : State) : State :=
  if s.clk.counting ∧ 2 ^ 64 ≤ s.now + 512 then
    { s with clk := { s.clk with count := s.clk.count + 512, epoch := s.clk.epoch + 1 } }.set1 fHAL_EVENTS_EPOCH_WRAP
  else s

def execCountWrap (s : State) : Outcome State Fault Refusal := .next (s.lit (countWrap s))

/-- R40: one EDGE clock period, 512 units; the wrap is that of R38. -/
def tick (s : State) : State :=
  if s.clk.counting then
    if s.now + 512 < 2 ^ 64 then { s with clk := { s.clk with count := s.clk.count + 512 } } else countWrap s
  else s

/-- R49: an input of J14 is lost; a master steered by it goes on on its crystal. -/
def refInputLost (s : State) (i : RefInput) : State :=
  let was := s.on fHAL_REF_STATUS_REF_LOCKED
  let s := match i with
    | .mhz10 => s.clr fHAL_REF_STATUS_REF10_PRESENT
    | .pps1 => s.clr fHAL_REF_STATUS_PPS_PRESENT
  let s := s.steer
  if was ∧ ¬ s.on fHAL_REF_STATUS_REF_LOCKED then (s.set1 fHAL_EVENTS_REF_LOST).raise 0x010B 255 else s

def execRefInputLost (i : RefInput) (s : State) : Outcome State Fault Refusal := .next (s.lit (refInputLost s i))

/-- R49: an input of J14 returns. -/
def referenceReturn (s : State) (i : RefInput) : State :=
  (match i with
    | .mhz10 => s.set1 fHAL_REF_STATUS_REF10_PRESENT
    | .pps1 => s.set1 fHAL_REF_STATUS_PPS_PRESENT).steer

def execReferenceReturn (i : RefInput) (s : State) : Outcome State Fault Refusal := .next (s.lit (referenceReturn s i))

/-! ### Time transfer (R52) -/

/-- Offset × 2 and delay × 2 of an exchange: t1, t2, t3, t4 and the declared asymmetry. -/
def exchange (t1 t2 t3 t4 : Nat) (asym : Int) : Int × Int :=
  let d21 := sgnW 64 (t2 + 2 ^ 64 - t1)
  let d43 := sgnW 64 (t4 + 2 ^ 64 - t3)
  (d21 - d43 - asym, d21 + d43)

/-- The counts of consecutive exchanges below 200 ps and above 1 ns. -/
def State.setLockCnt (s : State) (l u : Nat) : State := { s with hal := { s.hal with lockCnt := l, unlockCnt := u } }

/-- R40, R43, R48: a module out of RUN takes the network's count, in whole EDGE periods, and its epoch in one step; what is left of the offset is
still to remove. -/
def State.stepCount (s : State) (x : Slot) (off : Int) : State :=
  let whole := ((s.now : Int) - off) / 512 * 512
  let s := { s with clk := { count := BitVec.ofInt 64 whole, epoch := BitVec.ofNat 16 (tsEpoch x), counting := true } }
  let s := { s with hal := { s.hal with stepped := true, slew := 0 } }
  ((s.wrI rHAL_OFFSET (clamp (-2147483648) 2147483647 off)).wrI rHAL_SLEW_REM (whole - ((s.now : Int) - off))).showFreq

/-- R48, R52: the control law takes the offset; in RUN the phase is slewed. -/
def State.disciplineBy (s : State) (off : Int) : State :=
  let s := { s with hal := { s.hal with discipline := Config.pllLaw s.hal.discipline off } }
  let s := (s.wrI rHAL_OFFSET (clamp (-2147483648) 2147483647 off)).wrI rHAL_SLEW_REM (clamp (-2147483648) 2147483647 off)
  (if s.running then s.setSlew off else { s with hal := { s.hal with slew := 0 } }).showFreq

/-- R43 ACQUIRE: 64 consecutive exchanges below 200 ps lock.  `a2` is twice the absolute offset. -/
def State.acquireCheck (s : State) (a2 : Nat) : State :=
  if 1024 ≤ a2 * 10 then s.setLockCnt 0 s.hal.unlockCnt
  else if 64 ≤ s.hal.lockCnt + 1 then ((s.setLockCnt 0 0).setTs tLOCKED).set1 fHAL_STATUS_RUN_TIME_OK
  else s.setLockCnt (s.hal.lockCnt + 1) s.hal.unlockCnt

/-- R43 LOCKED: 8 consecutive exchanges above 1 ns unlock; the peak is kept. -/
def State.lockedCheck (s : State) (off a2 : Nat) : State :=
  let s := if s.rdN rHAL_OFFSET_PEAK < off then s.wrN rHAL_OFFSET_PEAK (min off 0xFFFFFFFF) else s
  if a2 ≤ 512 then s.setLockCnt s.hal.lockCnt 0
  else if 8 ≤ s.hal.unlockCnt + 1 then ({ s.setLockCnt 0 0 with hal := { (s.setLockCnt 0 0).hal with stepped := false } }.setTs tACQUIRE
    |>.set1 fHAL_EVENTS_UNLOCK).raise 0x0105 255
  else s.setLockCnt s.hal.lockCnt (s.hal.unlockCnt + 1)

/-- R42, R43, R46, R48 for an exchange with the upstream neighbour on port `p`: `n2` is twice the offset.  A neighbour that has moved beyond depth 7
is given up; an offset above 50 µs in RUN diverges before the law takes it. -/
def State.upstreamExchange (s : State) (p : Nat) (x : Slot) (n2 : Int) : State :=
  let off := roundFree n2 2
  if s.tooDeep p then s.reacquire (s.bestUp.getD p)
  else
    let s := { s with hal := { s.hal with alive := tsAlive x } }
    let s := (s.setF fHAL_STATUS_DEPTH (tsDepth x + 1)).setF fHAL_STATUS_MASTER (tsMaster x)
    let s := s.wrN rHAL_NET_TAG (tsTag x)
    if s.ts = tACQUIRE ∧ ¬ s.running ∧ ¬ s.hal.stepped then s.stepCount x off
    else if s.ts = tACQUIRE ∧ s.running ∧ 25600000 < n2.natAbs then s.enterDiverged
    else if s.ts = tACQUIRE then (s.disciplineBy off).acquireCheck n2.natAbs
    else (s.disciplineBy off).lockedCheck off.natAbs n2.natAbs

/-- R42: a module that follows its master moves to a peer that reports the same master at a smaller depth, or at the same depth under a lower Burgee
number.  DESIGN CHOICE (log 47): the time state stays, no rule names one for the move, and the counts of consecutive exchanges start anew. -/
def State.climb (s : State) : State :=
  match s.bestUp with
  | some p =>
    let up := s.fld fHAL_STATUS_UPPORT
    if (s.ts = tACQUIRE ∨ s.ts = tLOCKED) ∧ s.reports up ∧ (s.port p).peerMaster = (s.port up).peerMaster ∧ s.upKey p < s.upKey up then
      ((s.setF fHAL_STATUS_UPPORT p).setF fHAL_STATUS_DEPTH ((s.port p).peerDepth + 1)).setLockCnt 0 0
    else s
  | none => s

/-- R43 for a slot whose peer reports a master, before the exchange is used: FREE, HOLDOVER and MASTER. -/
def State.hearMaster (s : State) (p : Nat) (x : Slot) (n2 : Option Int) : State :=
  let far := match n2 with
    | some v => s.running && decide (25600000 < v.natAbs)
    | none => false
  if tsMaster x = 255 ∨ s.pst p ≠ pUP then s
  else if s.ts = tFREE then
    if s.rdN rHAL_NET_TAG = 0 ∨ tsTag x = 0 ∨ tsTag x = s.rdN rHAL_NET_TAG then s.follow (s.bestUp.getD p) else s
  else if s.ts = tHOLDOVER then
    if far then s.enterDiverged
    else
      let s := s.follow (s.bestUp.getD p)
      if s.ts = tACQUIRE then s.set1 fHAL_EVENTS_FAILOVER else s
  else if s.ts = tMASTER ∧ ¬ s.on fHAL_CFG_STANDALONE ∧ tsTag x = s.rdN rHAL_NET_TAG ∧ tsMaster x < s.own then
    if s.tooDeep p then s.noteDeep
    else
      let s := ((s.set1 fHAL_EVENTS_MERGE).clr fHAL_REF_STATUS_REF_LOCKED).raise 0x0107 255
      if far then s.enterDiverged else s.acquire p
  else s.climb

/-- R277: the stages of this module that a peer's claim bears on.  `true` where both claim one stage with equal G. -/
def State.claimClash (s : State) (k : StageClaim) (sender : Nat) (c : Nat) : Bool :=
  s.cellUsed c && s.fld (fLE_PAR_STAGE_STAGE_ID c) == k.stage.toNat && s.cellOwner c == s.own && k.owner.toNat == sender
    && s.fld (fLE_PAR_GEN_G c) == k.gen.toNat

/-- R277: one claim against one cell: a double owner holds the stage off; a newer G fences the cell; an older one is owed a FENCE. -/
def State.proveClaim (s : State) (p sender : Nat) (k : StageClaim) (c : Nat) : State :=
  if s.cellUsed c ∧ s.fld (fLE_PAR_STAGE_STAGE_ID c) = k.stage.toNat ∧ s.cellOwner c = s.own ∧ k.owner.toNat = sender then
    let g := s.fld (fLE_PAR_GEN_G c)
    if k.gen.toNat = g then
      if s.fld (fLE_PAR_STATUS_PSTATE c) = 7 then s
      else (((s.cellHold c).setF (fLE_PAR_STATUS_PSTATE c) 7).set1 (fLE_PAR_EVENTS_DOUBLE c)).raise 0x0819 c
    else if newer16 k.gen.toNat g then s.fenceCell c sender k.gen.toNat
    else if (s.port p).fenceOwed.contains (c, g) then s
    else s.modPort p (fun q => { q with fenceOwed := q.fenceOwed ++ [(c, g)] })
  else s

/-- R277: a FENCE record with reason 2 for a stage this module holds with the newer G. -/
def State.fenceRec (s : State) (c dest gen owner reason : Nat) : Rec :=
  { time := BitVec.ofNat 40 s.now, target := BitVec.ofNat 16 (0x8000 + dest * 512 + 1), src := BitVec.ofNat 8 s.own, opcode := 3,
    flags := 1, gtag := 0, gen := 0,
    payload := BitVec.ofNat 128 (s.fld (fLE_PAR_STAGE_STAGE_ID c) + gen * 65536 + owner * 2 ^ 32 + reason * 2 ^ 40),
    seq := 0, crc := 0 }

/-- R63: 16 consistent time slots: the port enters UP; SEQ references by this port restart (R74); owed FENCEs are sent (R277). -/
def State.portUp (s : State) (p sender : Nat) : State :=
  let owed := (s.port p).fenceOwed
  let s := (s.setPst p pUP).setF (fHAL_PORT_STATE_PEER p) sender
  let s := (s.set1 (fHAL_PORT_EVENTS_PEER_NEW p)).modPort p
    (fun q => { q with trainFails := 0, fenceOwed := [], reach := BitVec.ofNat 64 (2 ^ (sender % 64)), namesUs := false })
  let s := { s with hq := { s.hq with seqRef := s.hq.seqRef.filter (fun e => match e.2 with
    | some (_, q) => q != p
    | none => true) } }
  s.forEach (fun s e => s.emit (s.fenceRec e.1 sender e.2 s.own 2)) owed

/-- R36: a peer carries this module's number: neither accepts anything from the other, and the larger serial may not enter RUN.  DESIGN CHOICE
(log 48): a module already in RUN when it first sees the conflict stays there; no rule takes it out. -/
def State.burgeeConflict (s : State) (p serial : Nat) : State :=
  let was := (s.port p).conflict
  let s := (s.modPort p (fun q => { q with conflict := true, proveCnt := 0 })).set1 (fHAL_PORT_EVENTS_PROVE_FAIL p)
  let s := s.set1 fHAL_EVENTS_BURGEE_CONFLICT
  let s := if was then s else s.raise 0x010D p
  if serial < Config.serial.toNat then { s with hal := { s.hal with barred := true } } else s

/-- R47: a peer in PROVE reports another network's tag; 0x010A as it first does. -/
def State.foreignPeer (s : State) (p tag : Nat) : State :=
  let was := (s.port p).foreignTag
  let s := (s.modPort p (fun q => { q with proveCnt := 0, foreignTag := tag })).set1 (fHAL_PORT_EVENTS_PROVE_FAIL p)
  let s := s.set1 fHAL_EVENTS_FOREIGN
  if was = tag then s else s.raise 0x010A p

/-- R52: a time slot received on port `p`, stamped to 4 units (R40).  DESIGN CHOICE (log 49): a T_RX of 0 says that the peer has stamped no slot yet. -/
def timeSlotReceive (s : State) (p : Nat) (x : Slot) (stamp serial : Nat) (claims : List StageClaim) : State :=
  if s.pst p ≠ pPROVE ∧ s.pst p ≠ pUP then s
  else
    let stamp := stamp / 4 * 4
    let s := s.modPort p (fun q => match q.rx with
      | (5, y) :: t => if y = x then { q with rx := t } else q
      | _ => q)
    let sender := tsSender x
    if sender = s.own then
      s.burgeeConflict p serial
    else
      let q := s.port p
      let foreign := tsTag x ≠ 0 ∧ s.rdN rHAL_NET_TAG ≠ 0 ∧ tsTag x ≠ s.rdN rHAL_NET_TAG
      let echo := (q.sent.find? (fun e => e.1 == tsEcho x)).map (·.2)
      let s := s.modPort p (fun q => { q with
        conflict := false, peerMaster := tsMaster x, peerDepth := tsDepth x, peerCand := tsCand x, peerTag := tsTag x,
        peerXseq := tsXseq x, peerStamp := stamp })
      let s := s.showCand
      -- the exchange
      let ex : Option (Int × Int) := match echo with
        | some t3 => if tsRx x = 0 then none else some (exchange (tsTx x) stamp t3 (tsRx x) (s.rdI (rHAL_PORT_ASYM p)))
        | none => none
      let s := match ex with
        | some (n2, d2) =>
          let s := (s.wrI (rHAL_PORT_OFFSET p) (clamp (-2147483648) 2147483647 (roundFree n2 2))).wrI (rHAL_PORT_DELAY p) (roundFree d2 2)
          let m := s.fld (fHAL_PORT_CFG_CABLE_M p)
          let bad := m ≠ 0 ∧ 2 * 50 * 256 < (d2 - 2 * 5 * 256 * (m : Int)).natAbs
          let was := (s.port p).delayBad
          let s := s.modPort p (fun q => { q with delayBad := decide bad })
          if bad ∧ ¬ was then (s.set1 (fHAL_PORT_EVENTS_DELAY_MISMATCH p)).raise 0x010E p else s
        | none => s
      let s := if s.pst p = pPROVE then
          let clash := claims.any (fun k => (firstBelow (s.claimClash k sender) 4).isSome)
          let s := s.forEach (fun s k => s.each (fun s c => s.proveClaim p sender k c) 4) claims
          if foreign then s.foreignPeer p (tsTag x)
          else if clash then (s.modPort p (fun q => { q with proveCnt := 0 })).set1 (fHAL_PORT_EVENTS_PROVE_FAIL p)
          else
            let id := some (sender, serial)
            let n := if (s.port p).identity = id then (s.port p).proveCnt + 1 else 1
            let s := if (s.port p).identity = none ∨ (s.port p).identity = id then s else s.set1 (fHAL_PORT_EVENTS_PROVE_FAIL p)
            let s := s.modPort p (fun q => { q with identity := id, proveCnt := n })
            if 16 ≤ n then s.portUp p sender else s
        else s
      if s.pst p ≠ pUP then s
      else
        let s := s.hearMaster p x (ex.map (·.1))
        match ex with
        | some (n2, _) =>
          if (s.ts = tACQUIRE ∨ s.ts = tLOCKED) ∧ s.fld fHAL_STATUS_UPPORT = p ∧ tsMaster x ≠ 255 then s.upstreamExchange p x n2 else s
        | none => s

def execTimeSlotReceive (p : Fin 4) (slot : Slot) (stamp : Time) (serial : BitVec 48) (claims : List StageClaim) (s : State) :
    Outcome State Fault Refusal := .next (s.lit (timeSlotReceive s p slot stamp.toNat serial.toNat claims))

/-! ### Codewords (R57–R62) -/

/-- The Burgee number a slot of kind `k` is addressed to, none when it names none: records by target (R70), mirrored streams by
byte 0 (R278), management cells by DST unless 0xFF (R462), safety slots as a layout not in the spec says (a free value, log 50). -/
def slotDest (k : Nat) (x : Slot) : Option Nat :=
  match k with
  | 1 => let t := slotN x 5 2; if 0x8000 ≤ t then some (t / 512 % 64) else none
  | 2 => some (slotN x 0 1)
  | 3 => some (Config.safetyDest x % 64)
  | 4 => if slotN x 0 1 = 255 then none else some (slotN x 0 1)
  | _ => none

def slotClass (k : Nat) (x : Slot) : TxClass :=
  match k with
  | 1 => if bit (slotN x 9 1) 2 then .commit else .record
  | 2 => .mirror
  | 3 => .safety
  | _ => .mgmt

/-- One received slot: relayed to the port of its route (R62), delivered to the receive buffer, or dropped and counted. -/
def State.takeSlot (s : State) (p k : Nat) (x : Slot) : State :=
  let drop := fun (s : State) => (s.inc (rHAL_SLOT_DROP p)).modPort p (fun q => { q with freed := q.freed + 1 })
  if k = 0 then s
  else if 6 ≤ k then drop s
  else if k = 5 then s.modPort p (fun q => { q with rx := q.rx ++ [(k, x)] })
  else if k ≠ 4 ∧ (s.pst p ≠ pUP ∨ ¬ s.crossOk ∨ (s.port p).conflict) then drop s
  else match slotDest k x with
    | some b =>
      if b = s.own then s.modPort p (fun q => { q with rx := q.rx ++ [(k, x)] })
      else
        let r := s.sendSlot b (slotClass k x) x
        if r.2 then r.1.modPort p (fun q => { q with freed := q.freed + 1 }) else drop s
    | none => s.modPort p (fun q => { q with rx := q.rx ++ [(k, x)] })

/-- The slots of a data codeword, slot 0 first. -/
def State.takeAll (s : State) (p : Nat) : Nat → List Slot → State
  | _, [] => s
  | kinds, x :: t => (s.takeSlot p (kinds % 8) x).takeAll p (kinds / 8) t

/-- R57, R60: a codeword at port `p`; `none`: the code cannot correct it, and it is discarded whole.  Every header returns credit.  On entry to PROVE
the whole receive buffer counts as freed (log 41). -/
def codewordReceive (s : State) (p : Nat) (cw : Option Codeword) : State :=
  if s.pst p < pALIGN ∨ s.pst p = pRETIRED then s
  else match cw with
  | none =>
    let s := ((s.inc (rHAL_FEC_UNCORR p)).set1 (fHAL_PORT_EVENTS_UNCORR p)).raiseMs 0x0104 p
    if s.pst p = pALIGN then s.modPort p (fun q => { q with alignCnt := 0 })
    else
      let ts := s.now :: (s.port p).uncorrTimes.filter (fun t => s.now - t < msU)
      let s := s.modPort p (fun q => { q with uncorrTimes := ts.take 17 })
      if s.pst p = pUP ∧ 16 < ts.length then s.portRetrain p false else s
  | some c =>
    let h := c.header.toNat
    let ty := h / 2 ^ 60
    let s := if c.corrected.val = 0 then s else s.inc (rHAL_FEC_CORR p)
    if 4 ≤ ty then s
    else
    let s := s.modPort p (fun q => { q with credit := q.credit + h / 2 ^ 20 % 1024 })
    if s.pst p = pALIGN then
      let n := (s.port p).alignCnt + 1
      let s := s.modPort p (fun q => { q with alignCnt := n })
      if 64 ≤ n then (s.modPort p (fun q => { q with proveCnt := 0, identity := none, freed := Config.rxSlots })).setPst p pPROVE else s
    else if ty = 3 then (if s.pst p = pUP then s.portRetrain p true else s)
    else if ty ≠ 0 then s
    else
      let seq := h / 2 ^ 48 % 4096
      let s := match (s.port p).lseqRx with
        | some l => if (l + 1) % 4096 = seq then s else s.inc (rHAL_LSEQ_GAPS p)
        | none => s
      let s := s.modPort p (fun q => { q with lseqRx := some seq })
      s.takeAll p (h / 2 ^ 30 % 2 ^ 18) (c.slots.take 6)

def execCodewordReceive (p : Fin 4) (cw : Option Codeword) (s : State) : Outcome State Fault Refusal :=
  .next (s.lit (codewordReceive s p cw))

/-! ### Route cells (R512) -/

/-- The subtree mask: own bit and the reach masks of the ports whose peers name this module as upstream. -/
def State.subtree (s : State) : Nat :=
  ([0, 1, 2, 3].filter (fun p => s.pst p == pUP && (s.port p).namesUs)).foldl (fun m p => Nat.lor m (s.port p).reach.toNat) (2 ^ (s.own % 64))

/-- This module's upstream neighbour, 255 for the master or a module without one. -/
def State.upstream (s : State) : Nat :=
  let d := s.fld fHAL_STATUS_DEPTH
  if s.ts ≠ tMASTER ∧ 1 ≤ d ∧ d ≤ 8 then s.peer (s.fld fHAL_STATUS_UPPORT) else 255

/-- R512: one route cell on each UP port. -/
def routeCellSend (s : State) : State :=
  let cell := mkCell 255 s.own 0x30 0 0 0 s.upstream s.subtree
  s.each (fun s p => if s.pst p = pUP then s.transmit p .mgmt cell else s) 4

def execRouteCellSend (s : State) : Outcome State Fault Refusal := .next (s.lit (routeCellSend s))

/-- R512: a route cell on an UP port sets its reach mask. -/
def routeCellReceive (s : State) (p : Nat) (x : Slot) : State :=
  let s := s.modPort p (fun q => match q.rx with
    | (4, y) :: t => if y = x then { q with rx := t, freed := q.freed + 1 } else q
    | _ => q)
  if s.pst p = pUP ∧ cellOk x ∧ slotN x 2 1 = 0x30 then
    if slotN x 8 1 = s.own then s.modPort p (fun q => { q with reach := BitVec.ofNat 64 (slotN x 12 8), namesUs := true })
    else s.modPort p (fun q => { q with reach := BitVec.ofNat 64 (2 ^ (s.peer p % 64)), namesUs := false })
  else s

def execRouteCellReceive (p : Fin 4) (cell : Slot) (s : State) : Outcome State Fault Refusal := .next (s.lit (routeCellReceive s p cell))

/-- R512: 1 ms without a route cell: the peer's bit alone. -/
def routeCellTimeout (s : State) (p : Nat) : State :=
  if s.pst p = pUP then s.modPort p (fun q => { q with reach := BitVec.ofNat 64 (2 ^ (s.peer p % 64)), namesUs := false }) else s

def execRouteCellTimeout (p : Fin 4) (s : State) : Outcome State Fault Refusal := .next (s.lit (routeCellTimeout s p))

/-! ### Cages and training (R55, R56, R63–R65) -/

/-- R55: the pluggable is one the port accepts. -/
def acceptable (ident : Nat) (m : Medium) (rated : Bool) (exp : Nat) : Bool :=
  ident == 3 && rated && (match m with
    | .optical => exp != 2
    | .copper l => decide (l ≤ 3) && exp != 1
    | .other => false)

/-- R55: a pluggable becomes present: accepted (and trained when the port is DOWN without RX_LOS), or refused. -/
def pluggablePresent (s : State) (p : Nat) (ident : Nat) (m : Medium) (rated rxLos : Bool) (temp : Nat) : State :=
  let ok := acceptable ident m rated (s.fld (fHAL_PORT_CFG_MEDIA_EXP p))
  let s := (s.setF (fHAL_SFP_INFO_IDENT p) ident).setF (fHAL_SFP_INFO_TEMP p) temp
  let s := s.modPort p (fun q => { q with present := true, accepted := ok, rxLos := rxLos })
  if ok then
    let s := (s.setF (fHAL_PORT_STATE_MEDIA p) (match m with
      | .optical => 1
      | _ => 2))
    let s := s.modPort p (fun q => { q with txDisable := s.pst p == pDISABLED })
    s.portTryTrain p
  else
    ((s.setF (fHAL_PORT_STATE_MEDIA p) 3).modPort p (fun q => { q with txDisable := true })).set1 (fHAL_PORT_EVENTS_SFP_FAULT p)
      |>.raise 0x010C p

def execPluggablePresent (p : Fin 4) (ident : BitVec 8) (medium : Medium) (rated rxLos : Bool) (temp : BitVec 16) (s : State) :
    Outcome State Fault Refusal := .next (s.lit (pluggablePresent s p ident.toNat medium rated rxLos temp.toNat))

/-- R491: the cage supply goes on. -/
def cageSupplyOn (s : State) (p : Nat) : State := s.modPort p (fun q => { q with cagePower := true })

def execCageSupplyOn (p : Fin 4) (s : State) : Outcome State Fault Refusal := .next (s.lit (cageSupplyOn s p))

/-- R63: RX_LOS deasserts. -/
def rxLosCleared (s : State) (p : Nat) : State := (s.modPort p (fun q => { q with rxLos := false })).portTryTrain p

def execRxLosCleared (p : Fin 4) (s : State) : Outcome State Fault Refusal := .next (s.lit (rxLosCleared s p))

/-- R63 TRAIN: settled. -/
def trainingSettled (s : State) (p : Nat) : State :=
  if s.pst p = pTRAIN then (s.modPort p (fun q => { q with coeffs := true, alignCnt := 0 })).setPst p pALIGN |>.sendBare p 1 else s

def execTrainingSettled (p : Fin 4) (s : State) : Outcome State Fault Refusal := .next (s.lit (trainingSettled s p))

/-- R63 TRAIN: not settled within 40 ms. -/
def trainingTimeout (s : State) (p : Nat) : State :=
  if s.pst p = pTRAIN then ((s.portLeave p pDOWN).set1 (fHAL_PORT_EVENTS_DOWN p)).trainFail p else s

def execTrainingTimeout (p : Fin 4) (s : State) : Outcome State Fault Refusal := .next (s.lit (trainingTimeout s p))

/-- R63, R64: MOD_ABS, RX_LOS or TX_FAULT. -/
def portLinkLoss (s : State) (p : Nat) (why : LinkLoss) : State :=
  let live := pTRAIN ≤ s.pst p ∧ s.pst p ≤ pUP
  let wasUp := s.pst p = pUP
  let s := if live then (s.portLeave p pDOWN).set1 (fHAL_PORT_EVENTS_DOWN p) else s
  let s := if wasUp then s.raise 0x0101 p else s
  match why with
  | .modAbs =>
    ((s.modPort p (fun q => { q with present := false, accepted := false, cagePower := false, coeffs := false })).setF
      (fHAL_PORT_STATE_MEDIA p) 0).wrN (rHAL_SFP_INFO p) 0
  | .rxLos => s.modPort p (fun q => { q with rxLos := true })
  | .txFault =>
    let s := s.set1 (fHAL_PORT_EVENTS_SFP_FAULT p)
    if live then s.trainFail p else s

/-! ### HAL_CMD -/

/-- Every HAL counter, and HAL_OFFSET_PEAK. -/
def halCounters : List Nat :=
  rHAL_OFFSET_PEAK :: ([0, 1, 2, 3].flatMap (fun p =>
    [rHAL_FEC_CORR p, rHAL_FEC_UNCORR p, rHAL_LSEQ_GAPS p, rHAL_SLOT_DROP p]))

def halClearCounters (s : State) : State := s.cmd rHAL_CMD 0x0001 (fun s => (stDONE, s.zero halCounters))

def execHalClearCounters (s : State) : Outcome State Fault Refusal := .next (s.lit (halClearCounters s))

def halRetrainPort (s : State) (p : Nat) : State :=
  s.cmd rHAL_CMD (0x0010 + p) (fun s =>
    if s.pst p = pDISABLED ∨ s.pst p = pDOWN ∨ s.pst p = pRETIRED then (stREFUSED, s)
    else (stDONE, ((s.portLeave p pTRAIN).set1 (fHAL_PORT_EVENTS_RETRAIN p)).sendBare p 3))

def execHalRetrainPort (p : Fin 4) (s : State) : Outcome State Fault Refusal := .next (s.lit (halRetrainPort s p))

def halDisablePort (s : State) (p : Nat) : State :=
  s.cmd rHAL_CMD (0x0020 + p) (fun s =>
    if s.pst p = pRETIRED then (stREFUSED, s)
    else (stDONE, (s.portLeave p pDISABLED).modPort p (fun q => { q with txDisable := true })))

def execHalDisablePort (p : Fin 4) (s : State) : Outcome State Fault Refusal := .next (s.lit (halDisablePort s p))

/-- R63: ENABLE takes a DISABLED port to DOWN, and on to TRAIN where a pluggable waits; TX_DISABLE stays only for a refused pluggable. -/
def State.portEnable (s : State) (p : Nat) : State :=
  if s.pst p = pDISABLED then
    ((s.setPst p pDOWN).modPort p (fun q => { q with txDisable := q.present && !q.accepted })).portTryTrain p
  else s

def halEnablePort (s : State) (p : Nat) : State :=
  s.cmd rHAL_CMD (0x0030 + p) (fun s =>
    if s.pst p = pRETIRED ∨ s.on fHAL_CFG_STANDALONE then (stREFUSED, s) else (stDONE, s.portEnable p))

def execHalEnablePort (p : Fin 4) (s : State) : Outcome State Fault Refusal := .next (s.lit (halEnablePort s p))

end Sys2Proof.Machine
end

