-- ==== Sys2Proof/Machine/Prelude.lean ====
section
/-! DEFINITION. How a life of the module begins and ends: entry to PITCH through the prelude (R434, R442, R459), the states without power (R433,
R436), and what each keeps. -/
namespace Sys2Proof.Machine

/-- The management processor is powered and its clock has not stopped it (R443, R446). -/
def State.mpRuns (s : State) : Bool := s.domOn 2 && !s.pwr.mpStopped

/-- What every new life keeps: the commands that wait, the count of free values, and the key on J15 with the module's fuses. -/
def State.reborn (s : State) : State :=
  { State.reset with
    pending := s.pending, free := s.free,
    key := { KeySt.init with flash := s.key.flash, present := s.key.present, answers := s.key.answers, fuses := s.key.fuses } }

/-- R437, R377: a restart keeps SRAM0: the Pennant ring and its pointers. -/
def State.keepRing (t s : State) : State :=
  ((t.modFlt (fun q => { q with ring := s.flt.ring })).wr rFLT_RING_WR (s.rd rFLT_RING_WR)).wr rFLT_RING_FLUSH (s.rd rFLT_RING_FLUSH)

/-- The diode permits entry to PITCH (R459). -/
def dieCool (diode : Option (BitVec 16)) : Bool :=
  match diode with
  | some t => decide (t.toInt < 1760)
  | none => false

/-- R442, R434: the prelude for a cause from a state, 15 power-on; it holds entry to PITCH while the die is hot. -/
def State.prelude (s : State) (cause prev : Nat) (diode : Option (BitVec 16)) : State :=
  let t := s.reborn.wrN rPWR_WAKE (prev * 2 ^ 28 + cause)
  let t := if prev = 15 then t else t.wr rPWR_CFG (s.rd rPWR_CFG)
  let t := if cause = 7 ∨ cause = 8 then t.keepRing s else t
  if dieCool diode then t
  else { t.setF fPWR_STATUS_STATE psSTOW with pwr := { PwrSt.init with prelude := some (cause, prev) } }

/-- A held prelude ends. -/
def State.preludeEnd (s : State) : State :=
  { s.setF fPWR_STATUS_STATE psPITCH with pwr := { s.pwr with prelude := none } }

/-- R437: a restart: the raises that wait are written, then the power-down and the prelude. -/
def State.restart (s : State) (cause : Nat) (diode : Option (BitVec 16)) : State := s.writeRaises.prelude cause s.ps diode

/-- A domain of STOW or LISTEN (R441): the wake domain, in LISTEN CAN0 and CAN1. -/
def State.sleepDoms (s : State) (listen : Bool) : State :=
  let s := s.each (fun s k => s.wr (rPWR_DOM_ON k) 0) 5
  let s := s.setDom 0 true
  if listen then s.each (fun s n => s.setDom (56 + n) true) 2 else s

/-- The wake-frame registers of CAN0 and CAN1, which LISTEN needs (R397). -/
def wakeRegs : List Nat :=
  [0, 1].flatMap (fun n => [rCAN_CFG n, rCAN_WUF_CFG n, rCAN_WUF_ID n, rCAN_WUF_MASK n, rCAN_WUF_DATA n 0, rCAN_WUF_DATA n 1])

/-- R436, R442: power-down to LISTEN or STOW. -/
def State.sleep (s : State) (listen : Bool) : State :=
  let t := s.reborn.wr rPWR_CFG (s.rd rPWR_CFG)
  let t := (t.setF fPWR_STATUS_STATE (if listen then psLISTEN else psSTOW)).setF fPWR_STATUS_LAST_CAUSE 9
  let t := if listen then t.forEach (fun t a => t.wr a (s.rd a)) wakeRegs else t
  t.sleepDoms listen

/-- R434: AUX24 below 12.0 V. -/
def aux24Cutoff (s : State) : State :=
  let t := s.reborn.setF fPWR_STATUS_STATE psSTOW
  let t := (t.wr rPWR_WAKE 0).each (fun s k => s.wr (rPWR_DOM_ON k) 0) 5
  { t with pwr := { PwrSt.init with powered := false } }

def execAux24Cutoff (s : State) : Host.Outcome State Fault Refusal := .next (aux24Cutoff s)

/-- R442: AUX24 above 16.5 V powers a module that had no power. -/
def aux24PowerUp (s : State) (diode : Option (BitVec 16)) : State := if s.pwr.powered then s else s.prelude 1 15 diode

def execAux24PowerUp (diode : Option (BitVec 16)) (s : State) : Host.Outcome State Fault Refusal := .next (aux24PowerUp s diode)

/-- Asleep in STOW or LISTEN, not in a prelude and not without power. -/
def State.asleep (s : State) (ps : Nat) : Bool := s.pwr.powered && s.pwr.prelude.isNone && s.ps == ps

/-- R434: a WAKE edge. -/
def wakeEdge (s : State) (diode : Option (BitVec 16)) : State :=
  if s.asleep psSTOW ∨ s.asleep psLISTEN then s.prelude 2 s.ps diode else s

def execWakeEdge (diode : Option (BitVec 16)) (s : State) : Host.Outcome State Fault Refusal := .next (wakeEdge s diode)

/-- R397, R434: a dominant phase on CAN0 in STOW. -/
def can0DominantWake (s : State) (diode : Option (BitVec 16)) : State :=
  if s.asleep psSTOW ∧ s.on fPWR_CFG_STOW_CAN0 then s.prelude 3 psSTOW diode else s

def execCan0DominantWake (diode : Option (BitVec 16)) (s : State) : Host.Outcome State Fault Refusal := .next (can0DominantWake s diode)

/-- The selective-wake decoder of CAN0 or CAN1 works. -/
def State.listens (s : State) (n : Nat) : Bool :=
  s.asleep psLISTEN && (if n = 0 then s.on fPWR_CFG_LSN_CAN0 else s.on fPWR_CFG_LSN_CAN1)

/-- Data byte `k` of the wake-frame mask. -/
def State.wufByte (s : State) (n k : Nat) : Nat := s.rdN (rCAN_WUF_DATA n (k / 4)) / 2 ^ (8 * (k % 4)) % 256

/-- R397: a frame is the wake frame of channel `n`; a base identifier stands in bits 28:18. -/
def State.wakes (s : State) (n : Nat) (ide : Bool) (ident dlc data : Nat) : Bool :=
  let bytes := min dlc 8
  ide == s.on (fCAN_WUF_CFG_IDE n)
    && Nat.land (Nat.xor ident (s.fld (fCAN_WUF_ID_V n))) (s.fld (fCAN_WUF_MASK_V n)) == 0
    && (!s.on (fCAN_WUF_CFG_WUF_DATA_EN n)
      || (dlc == s.fld (fCAN_WUF_CFG_WUF_DLC n)
        && (List.range bytes).any (fun k => Nat.land (data / 2 ^ (8 * k) % 256) (s.wufByte n k) != 0)))

/-- R397, R434. -/
def wakeFrame (s : State) (n : Nat) (fd ide : Bool) (ident dlc data : Nat) (diode : Option (BitVec 16)) : State :=
  if s.listens n ∧ ¬ fd ∧ s.wakes n ide ident dlc data then s.prelude (4 + n) psLISTEN diode else s

def execWakeFrame (n : Fin 2) (fd ide : Bool) (ident : BitVec 29) (dlc : BitVec 4) (data : BitVec 64) (diode : Option (BitVec 16)) (s : State) :
    Host.Outcome State Fault Refusal := .next (wakeFrame s n.val fd ide ident.toNat dlc.toNat data.toNat diode)

/-- R397, R434. -/
def wakeFrameErrors (s : State) (n : Nat) (diode : Option (BitVec 16)) : State := if s.listens n then s.prelude 6 psLISTEN diode else s

def execWakeFrameErrors (n : Fin 2) (diode : Option (BitVec 16)) (s : State) : Host.Outcome State Fault Refusal := .next (wakeFrameErrors s n.val diode)

end Sys2Proof.Machine
end

