-- ==== Sys2Proof/Machine/Hk.lean ====
section
/-! DEFINITION. Housekeeping: the round (R450, R451), temperature channels (R452–R454), throttling (R455), the key-write window (R457), thermal
shutdown (R458, R459) and the compensation of the clocks (R447, R448). -/
namespace Sys2Proof.Machine

open Host (Outcome)

def State.modHk (s : State) (f : HkSt → HkSt) : State := { s with hk := f s.hk }

/-- A fault 0x1001 + k with its event bit. -/
def State.hkRaise (s : State) (k u : Nat) : State := (s.setBit rHK_EVENTS k).raise (0x1001 + k) u

/-! ### Conversion (R452) -/

/-- ln 2 in the scale of `fixS`. -/
def ln2Fix : Int := 6931471805599453094172321214581765680755

/-- A fixed-point number brought to 2/3…4/3 by powers of 2: the number and the power. -/
def lnScale : Nat → Int → Int → Int × Int
  | 0, x, k => (x, k)
  | n + 1, x, k =>
    if 4 * (fixS : Int) < 3 * x then lnScale n (x / 2) (k + 1)
    else if 3 * x < 2 * (fixS : Int) then lnScale n (x * 2) (k - 1)
    else (x, k)

/-- y + y³/3 + y⁵/5 + …, `t` the present power of y. -/
def atanhSum (y2 : Int) : Nat → Nat → Int → Int
  | 0, _, _ => 0
  | n + 1, k, t => t / (k : Int) + atanhSum y2 n (k + 2) (t * y2 / (fixS : Int))

/-- Natural logarithm of a quotient, in the scale of `fixS`. -/
def lnFix (num den : Nat) : Int :=
  let (x, k) := lnScale 80 ((num : Int) * (fixS : Int) / (den : Int)) 0
  let y := (x - (fixS : Int)) * (fixS : Int) / (x + (fixS : Int))
  k * ln2Fix + 2 * atanhSum (y * y / (fixS : Int)) 32 1 y

/-- A thermistor of `mohm` mΩ in 1/16 °C, to nearest; none without a finite result. -/
def ntcTemp (b r25 mohm : Nat) : Option Int :=
  if b = 0 ∨ r25 = 0 ∨ mohm = 0 then none
  else
    let d := (fixS : Int) * 100 / 29815 + lnFix mohm (r25 * 10000) / (b : Int)
    if d ≤ 0 then none else some (roundAway ((16 * (fixS : Int) * (fixS : Int)) * 100 - 437040 * (fixS : Int) * d) (100 * (fixS : Int) * d).toNat)

/-- PRESUMED (IEC 60751): resistance of a PT1000 in mΩ at a temperature. -/
def ptOhm (t : Rat) : Rat :=
  let c : Rat := if t < 0 then -4183 / 1000000000000000 else 0
  1000000 * (1 + 39083 / 10000000 * t - 5775 / 10000000000 * t * t + c * (t - 100) * t * t * t)

/-- The greatest k ≥ `lo` below `lo` + 2ⁿ whose lower rounding limit is not above the resistance. -/
def ptSearch (r : Rat) : Nat → Int → Int
  | 0, k => k
  | n + 1, k =>
    let m := k + (2 ^ n : Nat)
    ptSearch r n (if ptOhm ((2 * m - 1 : Int) / 32) ≤ r then m else k)

/-- A TEMP channel's result in 1/16 °C; none when it is invalid. -/
def State.tempOf (s : State) (n : Nat) (r : Option (BitVec 40)) : Option Int :=
  match r with
  | none => none
  | some r =>
    let t := if s.fld (fHK_TEMP_CFG_TYPE n) = 1 then ntcTemp (s.fld (fHK_TEMP_PAR_B n)) (s.fld (fHK_TEMP_PAR_R25 n)) r.toNat
      else some (ptSearch (r.toNat : Rat) 13 (-1000))
    match t with
    | some x => if -880 ≤ x ∧ x ≤ 4000 then some x else none
    | none => none

/-- R452: one channel; CLEARED when it is valid again. -/
def State.hkTemp (s : State) (n : Nat) (r : Option (BitVec 40)) : State :=
  if s.fld (fHK_TEMP_CFG_TYPE n) = 0 then s
  else
    let was := s.on (fHK_TEMP_VAL_INVALID n)
    match s.tempOf n r with
    | some x =>
      let s := (s.setFI (fHK_TEMP_VAL_VALUE n) x).clr (fHK_TEMP_VAL_INVALID n)
      if was then s.raiseCleared 0x1004 n 0 else s
    | none => if was then s else (s.set1 (fHK_TEMP_VAL_INVALID n)).hkRaise 3 n

/-! ### Rates, over and below (R453, R454) -/

/-- The present value of channel `n`, 16 the die; none when it is invalid. -/
def State.hkValue (s : State) (n : Nat) : Option Int :=
  if n = 16 then (if s.on fHK_DIE_INVALID then none else some (s.fldI fHK_DIE_T))
  else if s.on (fHK_TEMP_VAL_INVALID n) then none else some (s.fldI (fHK_TEMP_VAL_VALUE n))

/-- R453: the rate in 1/16 K/s, 0 unless the 125 intervening values are valid. -/
def hkRate (l : List (Option Int)) : Int :=
  if l.length < 126 ∨ l.any (fun v => v.isNone) then 0
  else match l.head?, l.getLast? with
    | some (some a), some (some b) => a - b
    | _, _ => 0

/-- The 12-bit rate field; the register of a rate outside it is not stated. -/
def State.hkRateField (s : State) (r : Int) : State × Nat :=
  if -2048 ≤ r ∧ r ≤ 2047 then (s, unsW 12 r) else ({ s with free := s.free + 1 }, Config.freeAt s.free 28 % 4096)

/-- R454: over and below by value, limit, hysteresis, rate limit and what an invalid value counts as. -/
def hkOver (v : Option Int) (thr : Int) (ror act : Bool) : Bool :=
  match v with
  | some x => ror || decide (thr < x)
  | none => ror || act
def hkBelow (v : Option Int) (thr hys : Int) (ror : Bool) : Bool :=
  match v with
  | some x => !ror && decide (x < thr - hys)
  | none => false

/-- The values of a channel with the present one. -/
def State.hkPush (s : State) (n : Nat) : State :=
  s.modHk (fun q => { q with hist := q.hist.put [] n ((s.hkValue n :: q.hist.at [] n).take 126) })

/-- R453, R454: one TEMP channel. -/
def State.hkEvalTemp (s : State) (n : Nat) : State :=
  if s.fld (fHK_TEMP_CFG_TYPE n) = 0 then s
  else
    let s := s.hkPush n
    let rate := hkRate (s.hk.hist.at [] n)
    let ror := s.on (fHK_TEMP_CFG_ROR_EN n) && decide ((s.fld (fHK_TEMP_THR_ROR_LIM n) : Int) < rate)
    let thr := s.fldI (fHK_TEMP_THR_T_THR n)
    let ovr := hkOver (s.hkValue n) thr ror (s.on (fHK_TEMP_CFG_INV_ACT n))
    let below := hkBelow (s.hkValue n) thr (s.fld (fHK_TEMP_THR_T_HYS n)) ror
    let (s, f) := s.hkRateField rate
    let wasR := s.on (fHK_TEMP_VAL_ROR n)
    let wasO := s.on (fHK_TEMP_VAL_OVER n)
    let s := (((s.setF (fHK_TEMP_VAL_RATE n) f).setB (fHK_TEMP_VAL_ROR n) ror).setB (fHK_TEMP_VAL_OVER n) ovr).setB (fHK_TEMP_VAL_BELOW n) below
    let s := if ror ∧ ¬ wasR then s.hkRaise 2 n else if wasR ∧ ¬ ror then s.raiseCleared 0x1003 n 0 else s
    if ovr ∧ ¬ wasO then s.hkRaise 4 n else s

/-- The die diode, whose rate limit is always enabled and which counts as over when invalid. -/
def State.hkEvalDie (s : State) : State :=
  let s := s.hkPush 16
  let rate := hkRate (s.hk.hist.at [] 16)
  let ror := decide ((s.fld fHK_CFG_DIE_ROR : Int) < rate)
  let thr := s.fldI fHK_CFG_DIE_THR
  let ovr := hkOver (s.hkValue 16) thr ror true
  let below := hkBelow (s.hkValue 16) thr 32 ror
  let (s, f) := s.hkRateField rate
  let wasR := s.hk.dieRor
  let wasO := s.hk.dieOver
  let s := (s.setF fHK_DIE_RATE f).modHk (fun q => { q with dieOver := ovr, dieBelow := below, dieRor := ror })
  let s := if ror ∧ ¬ wasR then s.hkRaise 2 0x20 else if wasR ∧ ¬ ror then s.raiseCleared 0x1003 0x20 0 else s
  if ovr ∧ ¬ wasO then s.hkRaise 4 0x20 else s

/-- Channel `n` acts on cell `c`. -/
def State.hkActs (s : State) (n c : Nat) : Bool := s.fld (fHK_TEMP_CFG_TYPE n) != 0 && bit (s.fld (fHK_TEMP_CFG_CELLS n)) c

/-- A channel acting on the cell is over; every one is below. -/
def State.cellOver (s : State) (c : Nat) : Bool := s.hk.dieOver || (List.range 16).any (fun n => s.hkActs n c && s.on (fHK_TEMP_VAL_OVER n))
def State.cellBelow (s : State) (c : Nat) : Bool := s.hk.dieBelow && (List.range 16).all (fun n => !s.hkActs n c || s.on (fHK_TEMP_VAL_BELOW n))

/-- R455: the release timer and the flags of a used cell after a round's evaluation. -/
def State.hkCell (s : State) (c : Nat) : State :=
  if ¬ s.cellUsed c then s
  else
    let below := s.cellBelow c
    let t := s.hk.rel.at 0 c
    let s := s.modHk (fun q => { q with rel := q.rel.put 0 c (if ¬ below then 0 else if t = 0 then s.now + 1 else t) })
    (s.setB (fHK_THROTTLE_EXCEEDED c) (s.cellOver c)).setB (fHK_THROTTLE_RELEASING c) below

/-- Slot 29. -/
def State.hkEvaluate (s : State) : State := ((s.each State.hkEvalTemp 16).hkEvalDie).each State.hkCell 4

/-! ### Throttling (R455) -/

/-- A cell's throttle step with its limit and `THROTTLED`. -/
def State.setStep (s : State) (c k : Nat) : State :=
  let s := (s.setF (fHK_THROTTLE_STEP c) k).setF (fHK_THROTTLE_LIMIT c) (k * s.fld (fBND_LIMITS_IMAX c) / 16)
  s.setB (fFLT_CELL_THROTTLED c) (decide (k < 16))

def State.throttle (s : State) (c : Nat) : State :=
  if ¬ s.cellUsed c then s
  else
    let k := s.fld (fHK_THROTTLE_STEP c)
    let t := s.hk.rel.at 0 c
    if s.cellOver c then
      let s := (s.setStep c (max (k - 1) (s.fld fHK_CFG_THR_FLOOR))).modHk (fun q => { q with rel := q.rel.put 0 c 0 })
      let s := s.clr (fHK_THROTTLE_RELEASING c)
      if k = 16 ∧ s.fld (fHK_THROTTLE_STEP c) < 16 then s.hkRaise 1 c else s
    else if t ≠ 0 ∧ 10 * secU ≤ s.now - (t - 1) then s.setStep c (min (k + 1) 16)
    else s

/-- R455: a whole 100 ms; the steps stop in BIVOUAC. -/
def throttleTick (s : State) : State := if s.inBiv ∨ s.mute then s else s.each State.throttle 4

def execThrottleTick (s : State) : Outcome State Fault Refusal := .next (s.lit (throttleTick s))

/-! ### Key-write window (R457) and compensation (R447, R448) -/

/-- Slot 0: the die diode, and whether the key may be written. -/
def State.hkDie (s : State) (t : Option (BitVec 16)) : State :=
  let s := match t with
    | some x => (s.setF fHK_DIE_T x.toNat).clr fHK_DIE_INVALID
    | none => s.set1 fHK_DIE_INVALID
  let ok := match s.hkValue 16 with
    | none => false
    | some x => if s.hk.deferred then decide (-368 ≤ x ∧ x ≤ 1488) else decide (-400 ≤ x ∧ x ≤ 1520)
  (s.modHk (fun q => { q with deferred := !ok })).setB fHK_STATUS_KEY_OK ok

/-- Linear interpolation of a factory table of −40 °C to +110 °C at `t` in 1/16 °C, the end entries extended. -/
def tableAt (tab : Nat → Int) (t : Int) : Rat :=
  let x := clamp 0 2400 (t + 640)
  let k := (x / 160).toNat
  if 15 ≤ k then (tab 15 : Rat) else (tab k : Rat) + ((tab (k + 1) - tab k : Int) : Rat) * ((x - 160 * k : Int) : Rat) / 160

/-- R447: the temperature term moves toward the negative of the table, by at most 0.010 ppm. -/
def State.compPll (s : State) : State :=
  let on := s.on fCLK_CFG_TCOMP_EN
  let s := s.setB fCLK_STATUS_TCOMP_ACTIVE on
  if ¬ on then s
  else
    let t := s.fldI fHK_DIE_T
    let goal := clamp (-32768) 32767 (roundR (-10 * tableAt (fun k => sgn16 (s.rdN (rCLK_TC_XTAL k) % 65536)) t))
    let now := s.fldI fCLK_TCOMP_TERM
    ((s.setFI fCLK_TCOMP_DIE t).setFI fCLK_TCOMP_TERM (now + clamp (-10) 10 (goal - now))).showFreq

/-- R448: the interpolated trim, one code toward zero deviation above 0.25 %. -/
def State.compMgmt (s : State) : State :=
  let c := roundR (tableAt (fun k => ((s.rdN (rCLK_TC_MGMT k) % 256 : Nat) : Int)) (s.fldI fHK_DIE_T))
  let dev := s.fldI fCLK_MGMT_DEV_V
  let up : Int := if Config.trimUp then 1 else -1
  s.setFI fCLK_MGMT_TRIM_V (clamp 0 255 (c + (if 25 < dev then -up else if dev < -25 then up else 0)))

/-! ### The round (R450, R451) -/

/-- The task of the slot is the one measured. -/
def taskFits (k : Nat) (x : HkTask) : Bool :=
  match x with
  | .die _ => k == 0
  | .temp _ => 1 ≤ k && k ≤ 16
  | .rail _ => 17 ≤ k && k ≤ 24
  | .ref => 25 ≤ k && k ≤ 27
  | .compare _ _ => k == 28
  | .evaluate => k == 29
  | .comparators _ => 30 ≤ k && k ≤ 37
  | .sar _ => 40 ≤ k && k ≤ 55
  | .clocks => k == 56
  | .idle => k == 38 || k == 39 || 57 ≤ k

/-- What a finished task brings about. -/
def State.hkTask (s : State) (k : Nat) (x : HkTask) : State :=
  match x with
  | .die t => s.hkDie t
  | .temp r => s.hkTemp (k - 1) r
  | .rail mV => s.wrN (rHK_RAIL (k - 17)) mV.toNat
  | .ref => s
  | .compare a b => s.refRound a.toInt b.toInt
  | .evaluate => s.hkEvaluate
  | .comparators pass => s.each (fun s i => s.compTest (6 * (k - 30) + i) (s.rdN rHK_ROUND % 2 == 1) (bit pass.toNat i)) 6
  | .sar pass => s.sarCalStep ((k - 40) / 4) pass
  | .clocks => if s.mpRuns then s.compPll.compMgmt else s
  | .idle => s

/-- The next slot; slot 0 begins a round. -/
def State.hkNext (s : State) (k : Nat) : State :=
  let s := s.setF fHK_STATUS_SLOT ((k + 1) % 64)
  if k = 63 then s.incMod rHK_ROUND else s

/-- R450, R451: a slot ends, from PITCH to HALT but not in BIVOUAC, while the domain and the MGMT oscillator have power; a task that does not fit the slot is no event of this module. -/
def hkSlot (s : State) (x : HkTask) (finished : Bool) : State :=
  let k := s.fld fHK_STATUS_SLOT
  if s.mute ∨ s.inBiv ∨ ¬ s.domOn 1 ∨ ¬ s.domOn 2 ∨ ¬ taskFits k x then s
  else
    let s := if finished then s.hkTask k x
      else ((s.inc rHK_CNT_OVERRUN).setBit rHK_EVENTS 6).raiseSec 0x1007 255
    s.hkNext k

def execHkSlot (task : HkTask) (finished : Bool) (s : State) : Outcome State Fault Refusal := .next (s.lit (hkSlot s task finished))

/-! ### Hardware thermal shutdown (R458, R459) -/

/-- The trip. -/
def State.tsdTrip (s : State) (fail : Bool) : State :=
  let s := ((s.set1 fHK_TSD_TRIPPED).clr fHK_TSD_RESTART_OK).inc rHK_CNT_TSD
  let s := (s.modHk (fun q => { q with reads := 0, hot := 0, dieFail := fail })).setF fHK_TSD_SECONDS 0
  (s.hkRaise (if fail then 5 else 0) 0x20).haltEntry 14

/-- The seconds since the trip, 100,000 readings to one; they count on after `TRIPPED` has cleared. -/
def State.tsdCount (s : State) : State :=
  if s.on fHK_TSD_TRIPPED ∨ s.on fHK_TSD_RESTART_OK then
    (s.modHk (fun q => { q with reads := q.reads + 1 })).setF fHK_TSD_SECONDS (min 65535 ((s.hk.reads + 1) / 100000))
  else s

/-- R459: a reading while tripped. -/
def State.tsdWait (s : State) (diode : Option (BitVec 16)) : State :=
  match diode with
  | some t =>
    if t.toInt < 1760 ∧ 1000000 ≤ s.hk.reads ∧ ¬ s.hk.dieFail then ((s.clr fHK_TSD_TRIPPED).set1 fHK_TSD_RESTART_OK).raiseCleared 0x1001 0x20 0 else s
  | none => s

/-- R458, R459: a reading of the die diode; one below 110 °C ends a prelude that waits. -/
def thermalShutdownReading (s : State) (diode : Option (BitVec 16)) : State :=
  if s.pwr.prelude.isSome then (if dieCool diode then s.preludeEnd else s)
  else if s.mute ∨ ¬ s.domOn 1 then s
  else
    let s := s.tsdCount
    if s.on fHK_TSD_TRIPPED then s.tsdWait diode
    else match diode with
      | none => s.tsdTrip true
      | some t =>
        if 2160 < t.toInt then
          (if 3 ≤ s.hk.hot + 1 then s.tsdTrip false else s.modHk (fun q => { q with hot := q.hot + 1 }))
        else s.modHk (fun q => { q with hot := 0 })

def execThermalShutdownReading (diode : Option (BitVec 16)) (s : State) : Outcome State Fault Refusal := .next (thermalShutdownReading s diode)

def hkClearCounters (s : State) : State := s.cmd rHK_CMD 1 (fun s => (stDONE, s.zero [rHK_CNT_OVERRUN, rHK_CNT_TSD]))

def execHkClearCounters (s : State) : Outcome State Fault Refusal := .next (s.lit (hkClearCounters s))

end Sys2Proof.Machine
end

