-- ==== Sys2Proof/Machine/Start.lean ====
section
/-! DEFINITION. The start procedures (R218–R231) and the DC-link procedure (R232–R236). -/
namespace Sys2Proof.Machine

open Host (Outcome)

def sOFF : Nat := 0
def sSTOPPED : Nat := 1
def sCHECK : Nat := 2
def sSENSE : Nat := 3
def sCATCH : Nat := 4
def sALIGN : Nat := 5
def sRAMP : Nat := 6
def sHANDOVER : Nat := 7
def sPROOF : Nat := 8
def sRUNNING : Nat := 9
def sPASS : Nat := 10
def sSTOPPING : Nat := 11
def sFAILED : Nat := 12
def sLOCKED : Nat := 13

def State.sst (s : State) (c : Nat) : Nat := s.fld (fBND_ST_STATUS_STATE c)
/-- The procedure enters a state. -/
def State.setSst (s : State) (c x : Nat) : State := (s.setF (fBND_ST_STATUS_STATE c) x).modSt c (fun q => { q with since := s.now })
def State.stCause (s : State) (c k : Nat) : State := s.setF (fBND_ST_STATUS_CAUSE c) k
def State.method (s : State) (c : Nat) : Nat := s.fld (fBND_ST_CFG_METHOD c)

/-- A loop engine outside its registers. -/
def State.leE (s : State) (n : Nat) : LeEng := s.le.eng.at LeEng.init n
def State.modLe (s : State) (n : Nat) (f : LeEng → LeEng) : State := { s with le := { s.le with eng := s.le.eng.put LeEng.init n (f (s.leE n)) } }

/-! ### Volts of the DC link (R188, R232) -/

/-- The cell an input coded as `VDC_SRC` is bound to: its per-unit base is that cell's. -/
def State.srcCell (s : State) (v : Nat) : Nat := if v < 0x30 then s.sdCell v else s.fld (fSNS_AN_CFG_CELL (v % 64))

/-- The held value of an input in V. -/
def State.srcVolts (s : State) (v : Nat) : Rat := ((entryValue (s.held v) : Int) : Rat) * s.vBase (s.srcCell v) / 32768

def State.dclVdc (s : State) : Rat := s.srcVolts (s.fld fBND_DCL_CFG_DCL_VDC)
def State.dclVsrc (s : State) : Rat := s.srcVolts (s.fld fBND_DCL_CFG_DCL_VSRC)

/-- The DC-link entry is valid. -/
def State.linkValid (s : State) : Bool :=
  let e := s.latest (s.fld fBND_DCL_CFG_DCL_VDC)
  e != 0 && !entryFlag e 0 && !entryFlag e 2

def State.dst (s : State) : Nat := s.fld fBND_DCL_STATUS_DSTATE
def State.setDst (s : State) (x : Nat) : State := s.setF fBND_DCL_STATUS_DSTATE x

/-! ### Records of the procedure -/

/-- ENABLE to the regulator. -/
def State.stEnable (s : State) (c v : Nat) : State := s.emit (s.unitRec (0x840 + 16 * c) 0x13 v)

/-- SET_CURRENT form 1 with launch time `t`. -/
def State.stCurrent (s : State) (c : Nat) (id iq : Int) (t : Nat) : State :=
  s.emit { s.unitRec (0x840 + 16 * c) 0x10 (1 + q15 id * 2 ^ 8 + q15 iq * 2 ^ 24) with time := BitVec.ofNat 40 t }

/-- SET_ANGLE, valid from now. -/
def State.stAngle (s : State) (c theta : Nat) (omega : Int) : State :=
  (s.emit (s.unitRec (0x841 + 16 * c) 0x10 (s.short + theta % 65536 * 2 ^ 40 + q15 omega * 2 ^ 56))).modSt c (fun q => { q with sentAt := s.now })

/-- A record to queue 0 of the cell's loop engine. -/
def State.stLe (s : State) (c op payload : Nat) : State := s.emit (s.unitRec (0x880 + 16 * s.leOf c) op payload)

/-- ENABLE 1 to the loop engine with a preset speed, or the speed feedback; the preset torque is stated nowhere. -/
def State.stLeOn (s : State) (c : Nat) (speed : Int) (fromFb : Bool) : State :=
  let d := s.draw
  d.1.stLe c 0x16 (1 + q15 speed * 2 ^ 8 + Config.freeAt d.2 18 % 65536 * 2 ^ 24 + (if fromFb then 2 ^ 40 else 0))

/-- The direction of the speed demand. -/
def State.dirOf (s : State) (c : Nat) : Int := if (s.leE (s.leOf c)).vTgt < 0 then -1 else 1

def State.wHand (s : State) (c : Nat) : Int := s.fld (fBND_ST_HAND_W_HAND c)

/-- `W_HAND` in rad/s. -/
def State.wHandR (s : State) (c : Nat) : Rat := ((s.wHand c : Int) : Rat) / 32768 * s.wBase c

/-- An angle in rad as θ of SET_ANGLE, and a speed in rad/s as ω. -/
def thetaCode (a : Rat) : Nat := (roundR (a / piQ * 32768) % 65536).toNat
def State.omegaCode (s : State) (c : Nat) (w : Rat) : Int := satQ15 (if s.wBase c = 0 then 0 else roundR (w / s.wBase c * 32768))

/-! ### The ramp generator (R225, R226) -/

/-- The angle (rad) and speed (rad/s) of the ramp now: the speed has moved to its target at `RAMP_ACC` and stays there. -/
def State.ramp (s : State) (c : Nat) : Rat × Rat :=
  let x := s.stC c
  let dt : Rat := ((s.now - x.rampAt : Nat) : Rat) / 256000000000
  let acc : Rat := (s.fld (fBND_ST_RAMP_RAMP_ACC c) : Rat)
  let d := x.rampTo - x.rampW
  let full := (if d < 0 then -d else d) / acc
  let t := if acc = 0 then dt else min dt full
  let w := if t < full then x.rampW + (if d < 0 then -acc else acc) * t else x.rampTo
  (x.rampTh + (x.rampW + w) / 2 * t + w * (dt - t), w)

/-- The ramp gives the angle from `th` and `w` on, toward the speed `to_`. -/
def State.rampFrom (s : State) (c : Nat) (th w to_ : Rat) : State :=
  s.modSt c (fun x => { x with rampOn := true, rampTh := th, rampW := w, rampTo := to_, rampAt := s.now })

/-- The ramp moves to another speed from where it is. -/
def State.rampAim (s : State) (c : Nat) (to_ : Rat) : State := s.rampFrom c (s.ramp c).1 (s.ramp c).2 to_

/-- SET_ANGLE with the ramp's angle and speed. -/
def State.rampSend (s : State) (c : Nat) : State := s.stAngle c (thetaCode (s.ramp c).1) (s.omegaCode c (s.ramp c).2)

/-- R225: id in ALIGN, rising linearly over the first half of `T_ALIGN`. -/
def State.alignId (s : State) (c : Nat) : Int :=
  let half : Rat := ((s.fld (fBND_ST_ALIGN_T_ALIGN c) * msU : Nat) : Rat) / 2
  let t : Rat := ((s.now - (s.stC c).since : Nat) : Rat)
  let i : Rat := (s.fld (fBND_ST_ALIGN_I_ALIGN c) : Rat)
  if half ≤ t then s.fld (fBND_ST_ALIGN_I_ALIGN c) else roundR (i * t / half)

/-- R225: the records of ALIGN: angle 0, ω 0, the present id. -/
def State.alignSend (s : State) (c : Nat) : State := (s.stAngle c 0 0).stCurrent c (s.alignId c) 0 s.now

/-- ALIGN is entered. -/
def State.align (s : State) (c : Nat) : State := ((s.setSst c sALIGN).stEnable c 1).alignSend c

/-- The procedure's records between events: in ALIGN, and while the ramp gives the angle, they are renewed whenever half of `ANG_TMO` has passed
since the last (the spec states no cadence: DESIGN CHOICE, log 86). -/
def State.stRenew (s : State) (c : Nat) : State :=
  let x := s.sst c
  if s.now < (s.stC c).sentAt + s.fld (fBND_WBASE_ANG_TMO c) * 5 * usU then s
  else if x = sALIGN then s.alignSend c
  else if (s.stC c).rampOn ∧ (x = sRAMP ∨ x = sHANDOVER ∨ x = sPASS ∨ x = sSTOPPING) then s.rampSend c
  else s

/-- The start procedures of all cells as time passes. -/
def State.stPeriod (s : State) : State := if s.mute then s else s.each State.stRenew 4

/-- RUNNING is entered after a start. -/
def State.stRunning (s : State) (c : Nat) : State :=
  ((s.setSst c sRUNNING).inc (rBND_ST_CNT_STARTS c)).modSt c (fun x => { x with ask := 0, brakeWait := false, rampOn := false })

/-- "Disable", and STOPPED with a cause. -/
def State.stStop (s : State) (c cause : Nat) : State :=
  (((s.stEnable c 0).setSst c sSTOPPED).stCause c cause).modSt c (fun x => { x with retry := false, ask := 0, brakeWait := false, rampOn := false })

/-! ### START and CHECK (R220–R222) -/

/-- R236: the link is being charged or discharged. -/
def State.linkBusy (s : State) (c : Nat) : Bool := s.onLink c && (s.dst == 2 || s.dst == 3 || s.dst == 5)

/-- R221: the first condition that fails, as `CAUSE`; 0 when all hold. -/
def State.checkCause (s : State) (c : Nat) : Nat :=
  let chans := (List.range 24).filter (fun o => s.cellHas c o)
  let legs := (List.range 12).filter (fun n => s.legN n != 0 && s.legCell n == c)
  if s.ps ≠ psRUN then 1
  else if s.bst c ≠ bIDLE then 4
  else if chans.any (fun o => s.gst o != gARMED) then 2
  else if legs.any (fun n => s.tst n == tLATCHED || s.tst n == tRETIRED) then 2
  else if ¬ (s.dst = 4 ∨ (s.dst = 0 ∧ s.linkValid ∧ (s.fld fBND_DCL_VMIN_VMIN : Rat) ≤ s.dclVdc)) then 3
  else if s.method c = 1 ∧ ¬ (s.hSt (s.fld (fBND_SRC_HALL c)) = hTRACKING ∧ s.on (fPOS_HALL_STATUS_VALID (s.fld (fBND_SRC_HALL c)))) then 11
  else 0

/-- A START refused by CHECK or by R236. -/
def State.startRefused (s : State) (c cause : Nat) : State :=
  (((s.setSst c sSTOPPED).stCause c cause).set1 (fBND_ST_EVENTS_REFUSED c)).raise 0x0710 c

/-- START. -/
def stStart (s : State) (c : Nat) : State :=
  s.cmd (rBND_ST_CMD c) 1 (fun s =>
    if s.sst c ≠ sSTOPPED then (stREFUSED, s)
    else if s.linkBusy c then (stREFUSED, s.startRefused c 3)
    else (stDONE, (((s.setSst c sCHECK).stCause c 0).setF (fBND_ST_STATUS_TRIES c) 0).modSt c
      (fun x => { x with retry := false, judged := false, keLost := false })))

def execStStart (c : Fin 4) (s : State) : Outcome State Fault Refusal := .next (s.lit (stStart s c.val))

/-- CHECK holds: the next state by method and options. -/
def State.checkPass (s : State) (c : Nat) : State :=
  if s.on (fBND_ST_CFG_FLY_EN c) then s.setSst c sSENSE
  else if s.method c = 0 then s.align c
  else if s.on (fBND_ST_CFG_BRK_EN c) then
    (((s.setSst c sPROOF).stEnable c 1).stCurrent c 0 (s.fldI (fBND_ST_BRAKE_I_PROOF c)) (s.now + 50 * msU)).modSt c (fun x => { x with ask := 0 })
  else if s.method c = 1 then ((s.stRunning c).stEnable c 1).stLeOn c 0 true
  else s.stRunning c

def checkComplete (s : State) (c : Nat) : State :=
  if s.sst c ≠ sCHECK then s
  else
    let k := s.checkCause c
    if k = 0 then s.checkPass c
    else
      let s := s.startRefused c k
      if s.rdN (rBND_ST_CMD c) % 65536 = 1 then s.cmdEnd (rBND_ST_CMD c) stREFUSED else s

def execCheckComplete (c : Fin 4) (s : State) : Outcome State Fault Refusal := .next (s.lit (checkComplete s c.val))

/-- STOP: STOPPING (R228 step 1); a ramp that gives the angle runs down to zero (R226, R228 step 2). -/
def State.stStopping (s : State) (c : Nat) : State :=
  let held := s.sst c = sPASS
  let s := if (s.stC c).rampOn then (s.rampAim c 0).rampSend c else s
  let s := ((s.setSst c sSTOPPING).modSt c (fun x => { x with ask := 0, brakeWait := false })).stLe c 0x10 0
  if held then s.stLe c 0x18 0 else s

def stStop (s : State) (c : Nat) : State :=
  s.cmd (rBND_ST_CMD c) 2 (fun s =>
    let x := s.sst c
    if x = sSTOPPED then (stDONE, s)
    else if x = sCHECK ∨ x = sSENSE ∨ x = sALIGN then (stDONE, s.stStop c 0)
    else if x = sRUNNING ∨ x = sPASS ∨ x = sCATCH ∨ x = sRAMP ∨ x = sHANDOVER ∨ x = sPROOF then (stDONE, s.stStopping c)
    else (stREFUSED, s))

def execStStop (c : Fin 4) (s : State) : Outcome State Fault Refusal := .next (s.lit (stStop s c.val))

/-- COAST. -/
def stCoast (s : State) (c : Nat) : State :=
  s.cmd (rBND_ST_CMD c) 3 (fun s =>
    if s.sst c = sOFF ∨ s.sst c = sLOCKED then (stREFUSED, s)
    else
      let s := s.stStop c 0
      (stDONE, if s.on (fBND_ST_CFG_BRK_EN c) then s.brakeApply c else s))

def execStCoast (c : Fin 4) (s : State) : Outcome State Fault Refusal := .next (s.lit (stCoast s c.val))

def stClearCounters (s : State) (c : Nat) : State :=
  s.cmd (rBND_ST_CMD c) 4 (fun s => (stDONE, s.zero [rBND_ST_CNT_STARTS c, rBND_ST_CNT_FAIL c]))

def execStClearCounters (c : Fin 4) (s : State) : Outcome State Fault Refusal := .next (s.lit (stClearCounters s c.val))

/-- RESET. -/
def stReset (s : State) (c : Nat) : State :=
  s.cmd (rBND_ST_CMD c) 5 (fun s =>
    if s.sst c = sFAILED then (stDONE, (s.setSst c sSTOPPED).setF (fBND_ST_STATUS_TRIES c) 0)
    else if s.sst c = sSTOPPED then (stDONE, s)
    else (stREFUSED, s))

def execStReset (c : Fin 4) (s : State) : Outcome State Fault Refusal := .next (s.lit (stReset s c.val))

/-! ### Tries (R227) -/

/-- A failed attempt. -/
def State.tryFailed (s : State) (c cause : Nat) : State :=
  let s := s.stStop c cause
  let n := s.fld (fBND_ST_STATUS_TRIES c) + 1
  let s := (((s.setF (fBND_ST_STATUS_TRIES c) (min n 15)).inc (rBND_ST_CNT_FAIL c)).set1 (fBND_ST_EVENTS_TRY_FAIL c)).raise 0x0711 c
  if n < s.fld (fBND_ST_CFG_ST_TRIES c) then s.modSt c (fun x => { x with retry := true })
  else (s.setSst c sFAILED).raise 0x0712 c

/-- R227: 2 s later. -/
def startRetryWaitEnd (s : State) (c : Nat) : State :=
  let k := s.fld (fBND_ST_STATUS_CAUSE c)
  if s.sst c = sSTOPPED ∧ (s.stC c).retry ∧ (k = 5 ∨ k = 6) then (s.setSst c sCHECK).modSt c (fun x => { x with retry := false }) else s

def execStartRetryWaitEnd (c : Fin 4) (s : State) : Outcome State Fault Refusal := .next (s.lit (startRetryWaitEnd s c.val))

/-! ### Flying start (R223, R224) -/

/-- The phase an AN input names. -/
def State.anPhase (s : State) (n : Nat) : Nat := s.fld (fSNS_AN_CFG_PHASE n) % 3

/-- R223: the vector of one conversion of both terminal voltages, in Q1.15 steps; none where an entry is marked SETTLE or INVALID.  The third
phase is the negative sum of the two (DEDUCED, log 87). -/
def State.flyVector (s : State) (x : Quad × Quad) : Option (Rat × Rat) :=
  let bad := fun e => entryFlag e 0 || entryFlag e 2
  if bad x.1 ∨ bad x.2 then none
  else
    let p := s.anPhase (x.1.b 11 % 16)
    let q := s.anPhase (x.2.b 11 % 16)
    let v := fun k => if k = p then (entryValue x.1 : Rat) else if k = q then (entryValue x.2 : Rat) else -((entryValue x.1 + entryValue x.2 : Int) : Rat)
    some (clarke (v 0, v 1, v 2))

/-- The turn from one vector to another, in −π…π. -/
def turnOf (a b : Rat × Rat) : Rat := angleQ (vdot a b, a.1 * b.2 - a.2 * b.1)

/-- The sum of the turns along a list of vectors. -/
def turns : List (Nat × (Rat × Rat)) → Rat
  | a :: b :: l => turnOf a.2 b.2 + turns (b :: l)
  | _ => 0

/-- R223: the remaining vectors with their places in the window. -/
def State.flyVectors (s : State) (conv : List (Quad × Quad)) : List (Nat × (Rat × Rat)) :=
  conv.zipIdx.filterMap (fun (x, k) => (s.flyVector x).map (fun v => (k, v)))

/-- R223: the window ends: `conv` holds its conversions of both inputs, 25 µs apart, oldest first. -/
def senseWindowEnd (s : State) (c : Nat) (conv : List (Quad × Quad)) : State :=
  if s.sst c ≠ sSENSE then s
  else
    let l := s.flyVectors conv
    if 2 * l.length < s.fld (fBND_ST_FLY_FLY_WIN c) * 40 then s.tryFailed c 6
    else
      let amp := (l.map (fun x => sqrtQ (vsq x.2))).foldl (· + ·) 0 / (l.length : Rat)
      let first := (l.map (·.1)).headD 0
      let final := l.getLastD (0, (0, 0))
      let span : Rat := ((final.1 - first : Nat) : Rat) * 25 / 1000000
      let w := if span = 0 then 0 else turns l / span
      let rest : Rat := ((conv.length - 1 - final.1 : Nat) : Rat) * 25 / 1000000
      let th := angleQ final.2 + w * rest - piQ / 2
      let a : Nat := (min (roundR amp) 32767).toNat
      let s := s.wrN (rBND_ST_FLYRES c) (q15 (s.omegaCode c w) * 65536 + a)
      if (s.fld (fBND_ST_FLY_FLY_VMIN c) : Rat) ≤ amp then
        ((((s.setSst c sCATCH).rampFrom c th w w).stEnable c 1).stCurrent c 0 0 s.now).rampSend c
      else s.align c

def execSenseWindowEnd (c : Fin 4) (conv : List (Quad × Quad)) (s : State) : Outcome State Fault Refusal :=
  .next (s.lit (senseWindowEnd s c.val conv))

/-- θ and ω of an observer output in rad and rad/s. -/
def State.obsAngle (theta : BitVec 16) : Rat := (theta.toNat : Rat) / 32768 * piQ
def State.obsSpeed (s : State) (c : Nat) (omega : BitVec 16) : Rat := ((omega.toInt : Int) : Rat) / 32768 * s.wBase c

/-- A speed within ±10 % of another. -/
def near10 (w r : Rat) : Bool := decide ((w - r) * (w - r) * 100 ≤ r * r)

/-- R224: an observer output (short time, θ, ω) agrees with the catch angle extrapolated to its time and with the caught speed. -/
def State.catchAgrees (s : State) (c : Nat) (o : Time × BitVec 16 × BitVec 16) : Bool :=
  let x := s.stC c
  let t := o.1.toNat
  let d := wrapAngle (State.obsAngle o.2.1 - (x.rampTh + x.rampW * (((t : Int) - x.rampAt : Int) : Rat) / 256000000000))
  decide (-piQ / 12 ≤ d ∧ d ≤ piQ / 12) && near10 (s.obsSpeed c o.2.2) x.rampW

/-- R224: `FLY_SYNC` has passed and every observer output of the last 1 ms agrees: RUNNING from the caught speed. -/
def catchSyncEnd (s : State) (c : Nat) (obs : List (Time × BitVec 16 × BitVec 16)) : State :=
  let l := obs.filter (fun o => decide (o.1.toNat ≤ s.now ∧ s.now ≤ o.1.toNat + msU))
  if s.sst c = sCATCH ∧ (s.stC c).since + s.fld (fBND_ST_FLY_FLY_SYNC c) * msU ≤ s.now ∧ l ≠ [] ∧ l.all (fun o => s.catchAgrees c o) then
    (s.stRunning c).stLeOn c (sgn16 (s.rdN (rBND_ST_FLYRES c) / 65536)) false
  else s

def execCatchSyncEnd (c : Fin 4) (obs : List (Time × BitVec 16 × BitVec 16)) (s : State) : Outcome State Fault Refusal :=
  .next (s.lit (catchSyncEnd s c.val obs))

def catchTimeout (s : State) (c : Nat) : State := if s.sst c = sCATCH then s.tryFailed c 6 else s

def execCatchTimeout (c : Fin 4) (s : State) : Outcome State Fault Refusal := .next (s.lit (catchTimeout s c.val))

/-! ### Align, ramp and handover (R225, R226) -/

/-- R225: RAMP from the aligned angle, in the direction of the speed demand. -/
def alignTimeEnd (s : State) (c : Nat) : State :=
  if s.sst c = sALIGN then
    (((s.setSst c sRAMP).rampFrom c 0 0 ((s.dirOf c : Int) * s.wHandR c)).rampSend c).stCurrent c (s.fld (fBND_ST_RAMP_I_RAMP c)) 0 s.now
  else s

def execAlignTimeEnd (c : Fin 4) (s : State) : Outcome State Fault Refusal := .next (s.lit (alignTimeEnd s c.val))

/-- R225, R226: the ramp speed has reached its target of magnitude `W_HAND`: HANDOVER, in which it stays there. -/
def rampReached (s : State) (c : Nat) : State :=
  if (s.sst c = sRAMP ∨ s.sst c = sPASS) ∧ (s.ramp c).2 = (s.stC c).rampTo then (s.setSst c sHANDOVER).rampSend c else s

def execRampReached (c : Fin 4) (s : State) : Outcome State Fault Refusal := .next (s.lit (rampReached s c.val))

/-- R225: HANDOVER has lasted `T_HAND` and the observer's outputs `obs` (θ, ω) over it, oldest first, have all stayed within ±10 % of the ramp
speed: the observer takes over with the last of them. -/
def handoverConfirmed (s : State) (c : Nat) (obs : List (BitVec 16 × BitVec 16)) : State :=
  let o := obs.getLastD (0, 0)
  if s.sst c ≠ sHANDOVER ∨ s.now < (s.stC c).since + s.fld (fBND_ST_HAND_T_HAND c) * msU ∨ obs = []
      ∨ ¬ obs.all (fun o => near10 (s.obsSpeed c o.2) (s.ramp c).2) then s
  else
    -- the present reference (I_RAMP on the ramp d axis) seen from the observer frame
    let v := turn ((s.ramp c).1 - State.obsAngle o.1) ((s.fld (fBND_ST_RAMP_I_RAMP c) : Rat), 0)
    let w := s.omegaCode c (s.stC c).rampTo
    let s := ((s.stRunning c).stAngle c o.1.toNat o.2.toInt).stCurrent c (roundR v.1) (roundR v.2) s.now
    (s.stLe c 0x18 0).stLeOn c w false

def execHandoverConfirmed (c : Fin 4) (obs : List (BitVec 16 × BitVec 16)) (s : State) : Outcome State Fault Refusal :=
  .next (s.lit (handoverConfirmed s c.val obs))

def handoverTimeout (s : State) (c : Nat) : State := if s.sst c = sHANDOVER then s.tryFailed c 5 else s

def execHandoverTimeout (c : Fin 4) (s : State) : Outcome State Fault Refusal := .next (s.lit (handoverTimeout s c.val))

/-- R226: the procedure takes the angle back from the observer's last angle and speed; the ramp runs to `to_` at `I_RAMP` on its d axis, and the
loop engine, whose demand holds, hands no current over meanwhile: it is disabled until the handover (DEDUCED, log 88). -/
def State.takeBack (s : State) (c : Nat) (theta omega : BitVec 16) (to_ : Rat) : State :=
  ((((s.rampFrom c (State.obsAngle theta) (s.obsSpeed c omega) to_).stLe c 0x16 0).rampSend c).stCurrent c (s.fld (fBND_ST_RAMP_I_RAMP c)) 0 s.now)

/-- R226, R228 step 2: the observer speed magnitude has fallen to `W_HAND`, in RUNNING with a demand of opposite sign. -/
def passEntry (s : State) (c : Nat) (theta omega : BitVec 16) : State :=
  let opp := (s.leE (s.leOf c)).vTgt * omega.toInt < 0
  if s.method c ≠ 0 ∨ s.wHand c < omega.toInt.natAbs then s
  else if s.sst c = sRUNNING ∧ opp then ((s.setSst c sPASS).stLe c 0x18 1).takeBack c theta omega ((s.dirOf c : Int) * s.wHandR c)
  else if s.sst c = sSTOPPING ∧ ¬ (s.stC c).rampOn then s.takeBack c theta omega 0
  else s

def execPassEntry (c : Fin 4) (theta omega : BitVec 16) (s : State) : Outcome State Fault Refusal :=
  .next (s.lit (passEntry s c.val theta omega))

/-! ### Brake and torque proof (R228, R229) -/

/-- The proof fails, or the release is refused: the brake stays applied. -/
def State.proofFail (s : State) (c cause : Nat) : State :=
  ((s.brakeApply c).stStop c cause).set1 (fBND_ST_EVENTS_PROOF_FAIL c) |>.raise 0x0719 c

/-- R229: the estimated iq lies within ±10 % of `I_PROOF`. -/
def State.proofIq (s : State) (c : Nat) : Bool := near10 (s.bEstDq c s.now).2 ((s.fldI (fBND_ST_BRAKE_I_PROOF c) : Int) : Rat)

/-- R229: 20 ms within ±10 %, before 100 ms have passed: the proof passes, and the island is asked to release the brake. -/
def proofPassed (s : State) (c : Nat) : State :=
  if s.sst c = sPROOF ∧ (s.stC c).ask = 0 ∧ s.now ≤ (s.stC c).since + 100 * msU ∧ s.proofIq c then s.modSt c (fun x => { x with ask := 1 }) else s

def execProofPassed (c : Fin 4) (s : State) : Outcome State Fault Refusal := .next (s.lit (proofPassed s c.val))

def proofTimeout (s : State) (c : Nat) : State := if s.sst c = sPROOF ∧ (s.stC c).ask = 0 then s.proofFail c 7 else s

def execProofTimeout (c : Fin 4) (s : State) : Outcome State Fault Refusal := .next (s.lit (proofTimeout s c.val))

/-- R335: every return of the cell reports its coil in hold regulation, or on. -/
def State.brakesHeld (s : State) (c : Nat) : Bool :=
  (List.range 8).all (fun n => !s.isBrake c n || (s.ast n == aHOLD && s.on (fAUX_STATUS_HOLD_OK n)) || s.ast n == aON)

/-- R229, R335: `T_BRK_REL` after the ask. -/
def brakeReleaseWaitEnd (s : State) (c : Nat) : State :=
  if s.sst c ≠ sPROOF ∨ (s.stC c).ask < 2 then s
  else if (s.stC c).ask = 2 ∧ s.brakesHeld c then (s.stRunning c).stLeOn c 0 false
  else if (s.stC c).ask = 2 then ((s.brakeApply c).siRaise 0x0A0F c).proofFail c 8
  else s.proofFail c 8

def execBrakeReleaseWaitEnd (c : Fin 4) (s : State) : Outcome State Fault Refusal := .next (s.lit (brakeReleaseWaitEnd s c.val))

/-- R228 step 3: the speed, the ramp's while it gives the angle, is below `W_ZERO` and has been for `T_ZERO`. -/
def State.atRest (s : State) (c : Nat) : Bool :=
  let w := if (s.stC c).rampOn then (s.ramp c).2 else (s.bAngle c s.now).2
  let lim : Rat := (s.fld (fBND_ST_STOP_W_ZERO c) : Rat) / 32768 * s.wBase c
  decide (-lim < w ∧ w < lim)

def standstillReached (s : State) (c : Nat) : State :=
  if s.sst c ≠ sSTOPPING ∨ ¬ s.atRest c then s
  else if s.on (fBND_ST_CFG_BRK_EN c) then (s.brakeApply c).modSt c (fun x => { x with brakeWait := true })
  else s.stStop c 0

def execStandstillReached (c : Fin 4) (s : State) : Outcome State Fault Refusal := .next (s.lit (standstillReached s c.val))

/-- R228 step 4. -/
def brakeApplyWaitEnd (s : State) (c : Nat) : State := if s.sst c = sSTOPPING ∧ (s.stC c).brakeWait then s.stStop c 0 else s

def execBrakeApplyWaitEnd (c : Fin 4) (s : State) : Outcome State Fault Refusal := .next (s.lit (brakeApplyWaitEnd s c.val))

/-! ### Back-EMF constant (R230, R231) -/

/-- R230: tracking is valid. -/
def State.keValid (s : State) (c : Nat) : Bool :=
  let w := (s.bAngle c s.now).2
  let lim := ((s.wHand c : Int) : Rat) / 32768 * s.wBase c
  s.sst c == sRUNNING && !(s.stC c).keLost && (decide (lim ≤ w) || decide (w ≤ -lim)) && !s.on (fBND_STATUS_VSAT c) && !s.on (fFLT_CELL_OBS_STOPPED c)
    && (List.range 6).all (fun p => match s.phaseIn c p with
      | some n => !entryFlag (s.latest n) 0 && !entryFlag (s.latest n) 2
      | none => true)

/-- R230: `KE_RATIO` in Q4.12: the estimates of a second, in 0.1 mWb, over ψ_m(T), averaged. -/
def State.keRatio (s : State) (c : Nat) (ests : List (BitVec 16)) : Nat :=
  if s.psiT c = 0 then Config.freeAt s.free 33 % 65536
  else
    let sum : Nat := (ests.map (·.toNat)).foldl (· + ·) 0
    (clamp 0 65535 (roundR ((sum : Rat) / 10000 / s.psiT c / (ests.length : Rat) * 4096))).toNat

/-- R230: 1 s of valid tracking, with the observer's estimates of it, oldest first. -/
def keTrackingWindow (s : State) (c : Nat) (ests : List (BitVec 16)) : State :=
  if ¬ s.keValid c ∨ ests = [] then s
  else
    let ratio := s.keRatio c ests
    let est := (ests.getLastD 0).toNat
    let s := s.wrN (rBND_KE_EST c) (ratio * 65536 + est)
    let x := s.stC c
    let w := if ratio < s.fld (fBND_ST_KE_KE_WARN c) * 16 then min (x.warnRun + 1) 11 else 0
    let g := if ratio < s.fld (fBND_ST_KE_KE_DEMAG c) * 16 then min (x.demagRun + 1) 11 else 0
    let s := s.modSt c (fun x => { x with warnRun := w, demagRun := g })
    let s := if w = 10 then (s.set1 (fBND_ST_STATUS_KE_WARN c)).raise 0x0715 c else s
    if g = 10 then ((s.set1 (fBND_ST_STATUS_DEMAG c)).set1 (fBND_ST_EVENTS_DEMAG c)).raise 0x0716 c else s

def execKeTrackingWindow (c : Fin 4) (ests : List (BitVec 16)) (s : State) : Outcome State Fault Refusal :=
  .next (s.lit (keTrackingWindow s c.val ests))

/-- R231: the verdict after 2 s of valid tracking, by `KE_RATIO`. -/
def keVerdict (s : State) (c : Nat) : State :=
  if ¬ s.keValid c ∨ (s.stC c).judged then s
  else
    let ratio := s.rdN (rBND_KE_EST c) / 65536
    let s := s.modSt c (fun x => { x with judged := true })
    if s.fld (fBND_ST_KE_KE_WRONG c) * 16 < ((ratio : Int) - 4096).natAbs then
      (((((s.setSst c sLOCKED).stCause c 10).set1 (fBND_ST_EVENTS_WRONG c)).raiseStop 0x0717 c)).requestSs1 c
    else s

def execKeVerdict (c : Fin 4) (s : State) : Outcome State Fault Refusal := .next (s.lit (keVerdict s c.val))

/-! ### The DC link (R232–R236) -/

/-- A command of the DC-link procedure; refused in BIVOUAC (R233). -/
def State.dclCmd (s : State) (val : Nat) (act : State → Nat × State) : State :=
  s.cmdBiv rBND_DCL_CMD val act

/-- The precharge resistor's temperature is valid and in range. -/
def State.preTempOk (s : State) : Bool :=
  let n := s.fld fBND_DCL_CFG_PRE_TEMP
  let t := s.fldI (fHK_TEMP_VAL_VALUE n)
  s.fld (fHK_TEMP_CFG_TYPE n) != 0 && !s.on (fHK_TEMP_VAL_INVALID n) && decide (s.fldI fBND_DCL_TEMP_PRE_TMIN ≤ t ∧ t ≤ s.fldI fBND_DCL_TEMP_PRE_TMAX)

def State.preOn (s : State) : State := s.auxOn (s.fld fBND_DCL_CFG_PRE_AUX)
def State.preOff (s : State) : State := s.auxOff (s.fld fBND_DCL_CFG_PRE_AUX)
def State.mainOn (s : State) : State := s.auxOn (s.fld fBND_DCL_CFG_MAIN_AUX)
def State.mainOff (s : State) : State := s.auxOff (s.fld fBND_DCL_CFG_MAIN_AUX)

/-- The link is below `DIS_V`. -/
def State.linkLow (s : State) : Bool := decide (s.dclVdc < (s.fld fBND_DCL_DIS_DIS_V : Rat))

/-- Every cell on the link is STOPPED or OFF. -/
def State.linkIdle (s : State) : Bool := (List.range 4).all (fun c => !s.onLink c || s.sst c == sSTOPPED || s.sst c == sOFF)

def dclPrecharge (s : State) : State :=
  s.dclCmd 1 (fun s =>
    if s.dst = 1 then
      (if s.preTempOk then (stDONE, ((s.setDst 2).preOn).inc rBND_DCL_CNT_PRE) else (stREFUSED, s.dclRaise 0))
    else if s.dst = 4 then (stDONE, s)
    else (stREFUSED, s))

def execDclPrecharge (s : State) : Outcome State Fault Refusal := .next (s.lit (dclPrecharge s))

def dclOpen (s : State) : State :=
  s.dclCmd 2 (fun s => if s.dst = 4 ∧ s.linkIdle then (stDONE, (s.setDst 1).mainOff) else (stREFUSED, s))

def execDclOpen (s : State) : Outcome State Fault Refusal := .next (s.lit (dclOpen s))

def dclDischarge (s : State) : State :=
  s.dclCmd 3 (fun s =>
    if s.dst = 1 ∧ s.linkLow then (stDONE, s)
    else if s.dst = 1 ∧ s.ps = psRUN ∧ s.linkIdle ∧ s.chopAvail then (stDONE, s.setDst 5)
    else (stREFUSED, s))

def execDclDischarge (s : State) : Outcome State Fault Refusal := .next (s.lit (dclDischarge s))

def dclClearCounters (s : State) : State := s.dclCmd 4 (fun s => (stDONE, s.wr rBND_DCL_CNT_PRE 0))

def execDclClearCounters (s : State) : Outcome State Fault Refusal := .next (s.lit (dclClearCounters s))

def dclReset (s : State) : State := s.dclCmd 5 (fun s => if s.dst = 6 then (stDONE, s.setDst 1) else (stREFUSED, s))

def execDclReset (s : State) : Outcome State Fault Refusal := .next (s.lit (dclReset s))

def mainConfirmed (s : State) : State :=
  s.dclCmd 0x10 (fun s => if s.dst = 3 then (stDONE, (s.setDst 4).preOff) else (stREFUSED, s))

def execMainConfirmed (s : State) : Outcome State Fault Refusal := .next (s.lit (mainConfirmed s))

/-- R232: `PRE_T1` passed. -/
def prechargeT1Check (s : State) : State :=
  if s.dst = 2 ∧ s.dclVdc < (s.fld fBND_DCL_PRE2_PRE_V1 : Rat) then ((s.setDst 6).preOff).dclRaise 2 else s

def execPrechargeT1Check (s : State) : Outcome State Fault Refusal := .next (s.lit (prechargeT1Check s))

/-- R232: V_src − V_dc below `PRE_DV` for 20 ms. -/
def prechargeSettled (s : State) : State :=
  if s.dst = 2 ∧ s.dclVsrc - s.dclVdc < (s.fld fBND_DCL_PRE_PRE_DV : Rat) then (s.setDst 3).mainOn else s

def execPrechargeSettled (s : State) : Outcome State Fault Refusal := .next (s.lit (prechargeSettled s))

def prechargeTimeout (s : State) : State := if s.dst = 2 then ((s.setDst 6).preOff).dclRaise 1 else s

def execPrechargeTimeout (s : State) : Outcome State Fault Refusal := .next (s.lit (prechargeTimeout s))

def mainTimeout (s : State) : State := if s.dst = 3 then (((s.setDst 6).preOff).mainOff).dclRaise 3 else s

def execMainTimeout (s : State) : Outcome State Fault Refusal := .next (s.lit (mainTimeout s))

def dischargeDone (s : State) : State := if s.dst = 5 ∧ s.linkLow then s.setDst 1 else s

def execDischargeDone (s : State) : Outcome State Fault Refusal := .next (s.lit (dischargeDone s))

def dischargeTimeout (s : State) : State := if s.dst = 5 then (s.setDst 6).dclRaise 6 else s

def execDischargeTimeout (s : State) : Outcome State Fault Refusal := .next (s.lit (dischargeTimeout s))

end Sys2Proof.Machine
end

