-- ==== Sys2Proof/Machine/Loop.lean ====
section
/-! DEFINITION. The loop engine's laws: arithmetic (R243), inputs (R241, R242), profile generator (R248–R250), stages (R251–R255),
min-select and torque (R256, R257), compensation tables (R261, R262). -/
namespace Sys2Proof.Machine

def eOFF : Nat := 0
def eIDLE : Nat := 1
def eRUNNING : Nat := 2
def eSPARE : Nat := 3
def eFAILED : Nat := 4

def State.est (s : State) (n : Nat) : Nat := s.fld (fLE_STATUS_STATE n)
def State.setEst (s : State) (n x : Nat) : State := s.setF (fLE_STATUS_STATE n) x

/-- The cell engine `n` serves: its own; LE4 the one it took over. -/
def State.leCell (s : State) (n : Nat) : Nat := if n < 4 then n else s.fld (fLE_STATUS_SERVES n)

/-! ### Arithmetic (R243) -/

/-- The range of a 40-bit Q9.31 value. -/
def clamp40 (x : Int) : Int := clamp (-549755813888) 549755813887 x

/-- Q9.31 to Q1.15: ties toward +∞, saturating. -/
def toQ15 (x : Int) : Int := satQ15 ((x + 32768) / 65536)

/-- A value as Q9.31; a product that no 40 bits hold exactly has no stated rounding. -/
def q31 (x : Rat) : Int := clamp40 (roundR (x * 2147483648))

/-- A Q1.15 signal times a gain of mantissa `m` and shift `sh`, exact in Q9.31. -/
def gainMul (x : Int) (m sh : Nat) : Int := x * ((m * 2 ^ (sh + 1) : Nat) : Int)

def sgn (x : Int) : Int := if x < 0 then -1 else if x = 0 then 0 else 1

/-- A sticky flag of `LE_SAT` is set; 0x0806 when it was clear. -/
def State.satFlag (s : State) (n : Nat) (f : Fld) (b : Bool) : State :=
  if b then
    let s := s.modLe n (fun e => { e with satNow := e.satNow ||| 2 ^ f.lo })
    if s.on f then s else (s.set1 f).raiseSec 0x0806 (s.leCell n)
  else s

/-- A signed 32-bit reading. -/
def wrap32 (x : Int) : Int := sgnW 32 (x % 4294967296).toNat

/-! ### Descriptors (R253, R254) -/

def State.dw (s : State) (n d w : Nat) : Nat := s.rdN (rLE_DESC n (8 * d + w))
def State.dEN (s : State) (n d : Nat) : Bool := bit (s.dw n d 0) 31
def State.dLAW (s : State) (n d : Nat) : Nat := s.dw n d 0 / 2 ^ 29 % 4
def State.dAPPLY (s : State) (n d : Nat) : Nat := s.dw n d 0 / 2 ^ 27 % 4
def State.dPOL (s : State) (n d : Nat) : Bool := bit (s.dw n d 0) 26
def State.dSRC (s : State) (n d : Nat) : Nat := s.dw n d 0 / 2 ^ 16 % 256
def State.dMAX (s : State) (n d : Nat) : Int := sgn16 (s.dw n d 5 / 65536)
def State.dMIN (s : State) (n d : Nat) : Int := sgn16 (s.dw n d 5)
def State.dHI (s : State) (n d : Nat) : Int := sgn16 (s.dw n d 6 / 65536)
def State.dLO (s : State) (n d : Nat) : Int := sgn16 (s.dw n d 6)
/-- Word of a gain of the active bank: 1 K_P, 2 K_I, and two further for bank B. -/
def State.dGain (s : State) (n d w : Nat) : Nat := s.dw n d (w + (if s.on (fLE_STATUS_BANK n) then 2 else 0))

def State.leAcc (s : State) (n d : Nat) : Int := (s.leE n).acc.at 0 d
def State.leY (s : State) (n d : Nat) : Int := (s.leE n).y.at 0 d

/-- An integrator takes a value; R243: it saturates with `ACC`. -/
def State.setAcc (s : State) (n d : Nat) (x : Int) : State :=
  let v := clamp40 x
  let s := s.modLe n (fun e => { e with acc := e.acc.put 0 d v })
  let u := unsW 40 v
  let s := (s.wrN (rLE_ACC_LO n d) u).wrI (rLE_ACC_HI n d) (v / 4294967296)
  s.satFlag n (fLE_SAT_ACC n) (v != x)

/-- A stage's output: y, the direction past the limit (0: none), and whether it saturated. -/
structure StageOut where
  y : Int
  dir : Int
  sat : Bool
deriving DecidableEq, Repr

/-- R251, R252: the output of stage `d` for input `x`; upper and lower threshold of HYST given. -/
def State.stage (s : State) (n d : Nat) (x hi lo : Int) : StageOut :=
  if s.dLAW n d = 1 then
    { y := if hi < x then s.dMAX n d else if x < lo then s.dMIN n d else s.leY n d, dir := 0, sat := false }
  else
    let g := s.dGain n d 1
    let raw := gainMul x (g / 65536) (g % 16) + s.leAcc n d
    let sum := clamp40 raw
    let u := toQ15 sum
    let y := clamp (s.dMIN n d) (s.dMAX n d) u
    let satd := sum != raw || (sum + 32768) / 65536 != u
    { y := y, dir := if y ≠ u then sgn (u - y) else if satd then sgn raw else 0, sat := satd || y != u }

/-- R251: a stage integrates. -/
def State.integrate (s : State) (n d : Nat) (x : Int) : State :=
  if s.dLAW n d = 1 then s
  else
    let g := s.dGain n d 2
    s.setAcc n d (s.leAcc n d + gainMul x (g / 65536) (g % 16))

/-- A stage's output is kept for the next sample. -/
def State.keepY (s : State) (n d : Nat) (y : Int) : State := s.modLe n (fun e => { e with y := e.y.put 0 d y })

/-! ### Inputs (R241, R242) -/

/-- A measured input of a limiter or of the chopper, and whether it is held.  `SRC` 0x7F names none: no value is stated. -/
def State.leMeas (s : State) (n v : Nat) : Int × Bool :=
  if v < 0x30 ∨ (0x40 ≤ v ∧ v < 0x50) then
    let e := s.latest v
    (entryValue (s.held v), entryFlag e 0 || entryFlag e 2)
  else if 0x50 ≤ v ∧ v < 0x60 then (s.fldI (fHK_TEMP_VAL_VALUE (v % 16)), s.on (fHK_TEMP_VAL_INVALID (v % 16)))
  else if v = 0x60 then ((s.leE n).fbAux, (s.leE n).fbHeld)
  else (sgn16 (Config.freeAt s.free 20), false)

/-- R241: the speed feedback, and whether it is held. -/
def State.leSpeed (s : State) (n : Nat) : Int × Bool :=
  let h := s.fld (fLE_SRC_HALL n)
  match s.fld (fLE_SRC_SPD_SRC n) with
  | 0 => ((s.leE n).fbSpd, (s.leE n).fbHeld)
  | 1 =>
    let e := (s.pos.hall.at HallSt.init h).entry
    if entryFlag e 0 ∨ entryFlag e 2 then ((s.leE n).hallSpd, true) else (entryValue e, false)
  | _ =>
    let c := s.leCell n
    (satQ15 (if s.wBase c = 0 then 0 else roundR ((s.bAngle c s.now).2 / s.wBase c * 32768)), false)

/-- R241: the position feedback, and whether it is held. -/
def State.lePos (s : State) (n : Nat) : Int × Bool :=
  let h := s.fld (fLE_SRC_HALL n)
  match s.fld (fLE_SRC_POS_SRC n) with
  | 1 =>
    let r := s.fld (fPOS_SPD_CFG_COUNTS_REV h)
    (wrap32 (if r = 0 then (Config.freeAt s.free 21 : Int) else nearR ((s.rdI (rPOS_COUNT h) * 65536 : Int) / (r : Rat))), false)
  | 2 => ((s.leE n).fbPos, (s.leE n).fbHeld)
  | _ => (0, false)

/-! ### Profile (R248–R250) -/

/-- T_s in seconds. -/
def State.tS (s : State) (n : Nat) : Rat := (s.fld (fLE_TIMING_T_S n) : Rat) / 100000000

/-- The limits of the profile: J_MAX × T, A_ACC, A_DEC, V_MAX in Q9.31; J_MAX per second²; T. -/
structure ProfLim where
  jt : Int
  acc : Int
  dec : Int
  vmax : Int
  j : Rat
  t : Rat
deriving DecidableEq, Repr

def State.profLim (s : State) (n : Nat) : ProfLim :=
  let j : Rat := (s.fld (fLE_PROF_J_J_MAX n) : Rat) / 16
  { jt := q31 (j * s.tS n), acc := clamp40 (s.fld (fLE_PROF_A_A_ACC n) * 8388608), dec := clamp40 (s.fld (fLE_PROF_A_A_DEC n) * 8388608),
    vmax := (s.fld (fLE_PROF_V_V_MAX n) : Int) * 65536, j := j, t := s.tS n }

/-- x / (2 J_MAX); with J_MAX 0 the quotient `fr`, for the spec states none. -/
def overJ (l : ProfLim) (x fr : Rat) : Rat := if l.j = 0 then fr else x / (2 * l.j)

def q31R (x : Int) : Rat := (x : Rat) / 2147483648

/-- A rational in Q9.31, and whether it saturates. -/
def q31s (x : Rat) : Int × Bool := (q31 x, decide (q31 x ≠ roundR (x * 2147483648)))

/-- A sum in Q9.31, and whether it saturates. -/
def add31 (x y : Int × Bool) : Int × Bool := (clamp40 (x.1 + y.1), x.2 || y.2 || decide (clamp40 (x.1 + y.1) ≠ x.1 + y.1))

/-- R248: one step of v and a toward `vt` (Q9.31), before the clamp; every product and sum is in Q9.31, and the third value tells whether one
saturated (R243). -/
def profStep (l : ProfLim) (v a vt : Int) (hold : Bool) (fr : Rat) : Int × Int × Bool :=
  let dv := clamp40 (vt - v)
  let g := sgn dv
  if hold then (v, 0, false)
  else if g = 0 then (v, a - sgn a * min (a.natAbs : Int) l.jt, false)
  else
    let amax := if v = 0 ∨ sgn v = g then l.acc else l.dec
    let sq := q31s (q31R a * q31R a)
    let brake := q31s (overJ l (q31R sq.1) fr)
    let near := add31 (brake.1, sq.2 || brake.2) (q31s (q31R a.natAbs * l.t))
    let ease := decide (0 < a * g ∧ (dv.natAbs : Int) ≤ near.1)
    let next := add31 (a, false) (g * l.jt, false)
    let a' := if ease then a - g * min (a.natAbs : Int) l.jt else clamp (-amax) amax next.1
    let v' := add31 (v, false) (q31s ((q31R a + q31R a') / 2 * l.t))
    let satd := (decide (0 < a * g) && near.2) || (!ease && next.2) || v'.2
    if sgn (vt - v'.1) ≠ g ∧ (a'.natAbs : Int) ≤ l.jt then (vt, 0, satd) else (v'.1, a', satd)

/-- G of R248: position units per per-unit-second. -/
def State.leG (s : State) (n : Nat) : Rat :=
  s.wBase (s.leCell n) * 65536 / (2 * piQ * ((s.fld (fLE_PROF_J_POLE_PAIRS n) : Nat) : Rat))

/-- A position modulo 2³² revolutions/65,536, in −2³¹…2³¹. -/
def wrapP (x : Rat) : Rat := x - 4294967296 * (((x + 2147483648) / 4294967296).floor : Rat)

/-- R249: the speed target from the remaining distance, in Q9.31, and whether an operation on the way saturated (R243). -/
def State.posTarget (s : State) (n : Nat) (l : ProfLim) (dp fr : Rat) : Int × Bool :=
  let e := s.leE n
  let g := s.leG n
  let d := dp / g
  let ad := if d < 0 then -d else d
  let adec := q31R l.dec
  let va := q31s (q31R e.v.natAbs * adec)
  let brake := q31s (overJ l (q31R va.1) fr)
  let far := q31s ad
  let room := add31 (far.1, va.2 || brake.2 || far.2) (-brake.1, false)
  let prod := q31s (2 * adec * q31R (max 0 room.1))
  let m := min l.vmax (q31 (sqrtQ (q31R prod.1)))
  (if dp < 0 then -m else if dp = 0 then 0 else m, room.2 || prod.2)

/-- v* in Q1.15, and a* in signed Q8.8 (R257). -/
def vStar (e : LeEng) : Int := toQ15 e.v
def aStar (e : LeEng) : Int := satQ15 ((e.a + 4194304) / 8388608)

/-- The conversion of a profile acceleration to a* saturates. -/
def aStarSat (a : Int) : Bool := decide (satQ15 ((a + 4194304) / 8388608) ≠ (a + 4194304) / 8388608)

/-- R248–R250: the profile generator, toward the speed target `vt` (Q1.15), or in POSITION mode toward the position target. -/
def State.profile (s : State) (n : Nat) (vt : Int) (posMode : Bool) : State :=
  let e := s.leE n
  let l := s.profLim n
  let fr : Rat := ((Config.freeAt s.free 19 : Nat) : Rat)
  let hold := s.on (fLE_STATUS_HOLD n)
  let dp := wrapP ((e.pTgt : Rat) - e.pStar)
  let tgt := if posMode then s.posTarget n l dp fr else (clamp40 (vt * 65536), false)
  let x := profStep l e.v e.a tgt.1 hold fr
  let v := clamp (-l.vmax) l.vmax x.1
  let s := s.satFlag n (fLE_SAT_PROF n) (v != x.1 || tgt.2 || x.2.2 || aStarSat x.2.1)
  let g := s.leG n
  let pw : Rat := (s.fld (fLE_PROF_V_P_WIN n) : Rat)
  let p := wrapP (e.pStar + q31R v * l.t * g)
  let adp := if dp < 0 then -dp else dp
  if posMode ∧ ¬ hold ∧ adp ≤ pw ∧ q31R v.natAbs * l.t * g ≤ pw then
    (s.modLe n (fun e => { e with v := 0, a := 0, pStar := (e.pTgt : Rat) })).set1 (fLE_STATUS_ARRIVED n)
  else s.modLe n (fun e => { e with v := v, a := x.2.1, pStar := p })


/-! ### Compensation tables (R261, R262) -/

/-- The register of word `j` of a table: cogging, bank B. -/
def tabReg (n : Nat) (cog b : Bool) (j : Nat) : Nat :=
  if cog then (if b then rLE_TAB_COG_B n j else rLE_TAB_COG_A n j) else (if b then rLE_TAB_FRIC_B n j else rLE_TAB_FRIC_A n j)

/-- Entry `i` of a table. -/
def State.tabEntry (s : State) (n : Nat) (cog b : Bool) (i : Nat) : Int :=
  sgn16 (s.rdN (tabReg n cog b (i % 4096 / 2)) / (if i % 2 = 1 then 65536 else 1))

/-- `SERVES` of an engine. -/
def State.setServes (s : State) (n c : Nat) : State := (s.setF (fLE_STATUS_SERVES n) c).set1 (fLE_STATUS_SERVES_VALID n)

/-- R263: the state mirror takes what engine `n` holds. -/
def State.leMirror (s : State) (n : Nat) : State :=
  let m : LeMirror := { eng := s.leE n, bank := s.fld (fLE_STATUS_BANK n), tab := s.fld (fLE_STATUS_TAB_BANK n), hold := s.fld (fLE_STATUS_HOLD n) }
  { s with le := { s.le with mirror := s.le.mirror.put LeMirror.init n m } }

/-- R262: the buffer of a table takes line `l` of the active bank. -/
def State.fillLine (s : State) (n : Nat) (cog : Bool) (l : Nat) : State :=
  let b := s.on (fLE_STATUS_TAB_BANK n)
  let buf := (List.range 16).map (fun k => s.tabEntry n cog b (16 * l + k))
  let s := s.inc (rLE_CNT_TAB_LINE n)
  s.modLe n (fun e => if cog then { e with lineC := l + 1, bufC := buf } else { e with lineF := l + 1, bufF := buf })

/-- The index position of R261. -/
def State.tabQ (s : State) (n : Nat) (p : Int) : Nat := ((p + s.fld (fLE_TAB_CFG_TAB_OFS n)) % 65536).toNat

/-- The buffer of a table takes the line of `p` unless it holds it. -/
def State.needLine (s : State) (n : Nat) (cog : Bool) (p : Int) : State :=
  let l := s.tabQ n p / 256
  let held := if cog then (s.leE n).lineC else (s.leE n).lineF
  if held = l + 1 then s else s.fillLine n cog l

/-- R261: the interpolated value, in Q9.31. -/
def State.interp (s : State) (n : Nat) (cog : Bool) (p : Int) : Int :=
  let q := s.tabQ n p
  let i := q / 16
  let w := q % 16
  let e := s.leE n
  let at_ := fun j => if j / 16 = i / 16 then (if cog then e.bufC else e.bufF).getD (j % 16) 0
    else s.tabEntry n cog (s.on (fLE_STATUS_TAB_BANK n)) j
  let t0 := at_ i
  let t1 := at_ ((i + 1) % 4096)
  t0 * 65536 + (t1 - t0) * (w : Int) * 4096

/-- R262: in a sample the buffer of each enabled table holds the line of the position. -/
def State.needLines (s : State) (n : Nat) (p : Int) : State :=
  let s := if s.on (fLE_TAB_CFG_FRIC_EN n) then s.needLine n false p else s
  if s.on (fLE_TAB_CFG_COG_EN n) then s.needLine n true p else s

/-- R261: T_comp, with `COMP` when the sum saturates. -/
def State.tComp (s : State) (n : Nat) (p vfb : Int) : State × Int :=
  let fe := s.on (fLE_TAB_CFG_FRIC_EN n)
  let ce := s.on (fLE_TAB_CFG_COG_EN n)
  let db : Int := s.fld (fLE_FF_FRIC_DB n)
  let f : Int := if ¬ fe then 0
    else
      let x := toQ15 (s.interp n false p)
      if db < vfb.natAbs then sgn vfb * x
      else if db = 0 then sgn16 (Config.freeAt s.free 22)
      else halfUp ((x * vfb : Int) / (db : Rat))
  let c : Int := if ce then toQ15 (s.interp n true p) else 0
  (s.satFlag n (fLE_SAT_COMP n) (satQ15 (f + c) != f + c), satQ15 (f + c))

/-! ### Limiters and min-select (R255, R256) -/

/-- One limiter: its ceiling, with its integration.  A HYST limiter has no set-point besides its thresholds: its margin counts from 0. -/
def State.limiter (s : State) (n d : Nat) (vfb : Int) : State × Int × Bool :=
  if ¬ s.dEN n d then (s, 0, false)
  else
    let sp : Int := if s.dLAW n d = 1 then 0 else s.dHI n d
    let m := if d = 3 then (toQ15 (((s.leE n).t * vfb).natAbs * 2 : Int), false) else s.leMeas n (s.dSRC n d)
    -- P_est of −1 × −1 saturates (R243, R255)
    let full := d == 3 && decide (32767 < (((s.leE n).t * vfb).natAbs * 2 + 32768) / 65536)
    let raw := if d = 3 ∨ ¬ s.dPOL n d then sp - m.1 else m.1 - sp
    let x := satQ15 raw
    let s := s.satFlag n (fLE_SAT_ERR n) (x != raw)
    let o := s.stage n d x (s.dHI n d) (s.dLO n d)
    let s := s.satFlag n (fLE_SAT_LIM n) (o.sat || full)
    let s := if o.dir ≠ 0 ∧ sgn x = o.dir then s else s.integrate n d x
    ((s.keepY n d o.y).wrN (rLE_LIM_OUT n (d - 2)) (q15 o.y), o.y, m.2)

/-- R256 over descriptors 2–6: the magnitude and the winner. -/
def minSelect (en : Nat → Bool) (apply : Nat → Nat) (l : Nat → Int) (regen block : Bool) (t : Int) : Int × Nat :=
  let f := fun (x : Int × Nat) (d : Nat) =>
    if en d ∧ (apply d = 0 ∨ (apply d = 1 ∧ ¬ regen) ∨ (apply d = 2 ∧ regen)) ∧ l d < x.1 then (l d, d) else x
  let r := [2, 3, 4, 5, 6].foldl f (t, 0)
  if regen ∧ block then (0, 7) else r

/-- R256: regeneration is blocked on the DC link of the engine's cell. -/
def State.regenBlock (s : State) (n : Nat) : Bool :=
  s.fld (fBND_SRC_VDC_SRC (s.leCell n)) == s.fld fBND_DCL_CFG_DCL_VDC && !s.on fBND_DCL_STATUS_CHOP_AVAIL

end Sys2Proof.Machine
end

