-- ==== Sys2Proof/Machine/Le.lean ====
section
/-! DEFINITION. The loop engine's samples and records: torque shares (R270–R273), the chopper (R234, R258), mirrored streams (R278), the
sample (R238–R257), the records of R259, banks (R260) and the spare (R263). -/
namespace Sys2Proof.Machine

open Host (Outcome)

/-! ### Members of a machine (R266–R272) -/

def State.parC (s : State) (c : Nat) : ParCell := s.par.cell.at ParCell.init c
def State.modPar (s : State) (c : Nat) (f : ParCell → ParCell) : State := { s with par := { s.par with cell := s.par.cell.put ParCell.init c (f (s.parC c)) } }
def State.member (s : State) (c j : Nat) : Member := (s.parC c).mem.at Member.init j
def State.modMember (s : State) (c j : Nat) (f : Member → Member) : State :=
  s.modPar c (fun q => { q with mem := q.mem.put Member.init j (f (q.mem.at Member.init j)) })
/-- The role a cell plays: as configured; a standby cell that has taken its stage over plays the protected cell's, which its equal engine
settings show (R265, R282). -/
def State.role (s : State) (c : Nat) : Nat :=
  if s.fld (fLE_PAR_CFG_ROLE c) = 3 ∧ (s.parC c).took then
    (if s.on (fLE_CFG_LEAD c) then 1 else if s.fld (fLE_CFG_MODE c) = 3 then 2 else 0)
  else s.fld (fLE_PAR_CFG_ROLE c)
def State.pstate (s : State) (c : Nat) : Nat := s.fld (fLE_PAR_STATUS_PSTATE c)
def State.setPstate (s : State) (c x : Nat) : State := s.setF (fLE_PAR_STATUS_PSTATE c) x
/-- Member `j` is active. -/
def State.memActive (s : State) (c j : Nat) : Bool := bit (s.fld (fLE_PAR_ACTIVE_ACT c)) j
def State.memBurgee (s : State) (c j : Nat) : Nat := s.fld (fLE_PAR_MEMBER_MBURGEE c j)
def State.memCell (s : State) (c j : Nat) : Nat := s.fld (fLE_PAR_MEMBER_MCELL c j)
/-- The ceiling of a member in Q1.15. -/
def State.memMax (s : State) (c j : Nat) : Nat := s.fld (fLE_PAR_MEMBER_SHARE_MAX c j) * 128

/-- Fault 0x0810 + k of cell `c`: event bit and raise. -/
def State.parRaise (s : State) (c k : Nat) : State := (s.setBit (rLE_PAR_EVENTS c) k).raise (0x0810 + k) c
def State.parRaiseSec (s : State) (c k : Nat) : State := (s.setBit (rLE_PAR_EVENTS c) k).raiseSec (0x0810 + k) c

/-- `ACTIVE_N` follows the mask of active members. -/
def State.setActive (s : State) (c m : Nat) : State :=
  (s.setF (fLE_PAR_ACTIVE_ACT c) m).setF (fLE_PAR_STATUS_ACTIVE_N c) (countBelow (bit m) 8)

/-- R270: the division of `r` over members (index, weight, cap): shares, and what remains with no member left. -/
def divide : Nat → Nat → List (Nat × Nat × Nat) → List (Nat × Nat) × Nat
  | 0, r, _ => ([], r)
  | f + 1, r, u =>
    match u with
    | [] => ([], r)
    | (j0, w0, _) :: rest =>
      let w := (u.map (fun m => m.2.1)).foldl (· + ·) 0
      let hit := u.filter (fun m => decide (m.2.2 * w ≤ r * m.2.1))
      if hit.isEmpty then
        let given := (rest.map (fun m => (m.1, r * m.2.1 / w)))
        let own := r * w0 / w
        let sum := own + (given.map Prod.snd).foldl (· + ·) 0
        ((j0, own + (r - sum)) :: given, 0)
      else
        let taken := (hit.map (fun m => m.2.2)).foldl (· + ·) 0
        let x := divide f (r - taken) (u.filter (fun m => !decide (m.2.2 * w ≤ r * m.2.1)))
        (hit.map (fun m => (m.1, m.2.2)) ++ x.1, x.2)

/-- The active members of a lead, ascending: index, weight, cap. -/
def State.activeMembers (s : State) (c : Nat) : List (Nat × Nat × Nat) :=
  ((List.range 8).filter (fun j => s.memActive c j)).map (fun j => (j, s.fld (fLE_PAR_MEMBER_WEIGHT c j), s.fld (fLE_PAR_CAP_CAP c j)))

/-- R272: a cap moves, by the report of the last sample or upward. -/
def State.moveCap (s : State) (c j : Nat) : State :=
  let m := s.member c j
  let cap := s.fld (fLE_PAR_CAP_CAP c j)
  match m.clip with
  | some (_, x) => ((s.setF (fLE_PAR_CAP_CAP c j) (m.share.natAbs - x)).modMember c j (fun m => { m with clip := none })).setF
      ⟨rLE_PAR_ACTIVE c, 8 + j, 8 + j⟩ 1
  | none => (s.setF (fLE_PAR_CAP_CAP c j) (min (s.memMax c j) (cap + s.fld (fLE_PAR_TIMING_CAP_RISE c)))).setF ⟨rLE_PAR_ACTIVE c, 8 + j, 8 + j⟩ 0

/-- The target of a record for queue `q` of module `b`: local, or by the selector that module maps to the queue, which no rule
states. -/
def State.xTarget (s : State) (b q : Nat) : Nat :=
  if b = s.own then q else 0x8000 + b % 64 * 512 + (2 + Config.parSelector b q % 510)

/-- A member or COMMIT of a Hoist of this module. -/
def State.hoistRec (s : State) (target op tag time flags gen payload : Nat) : Rec :=
  { time := BitVec.ofNat 40 time, target := BitVec.ofNat 16 target, src := BitVec.ofNat 8 s.own, opcode := BitVec.ofNat 8 op,
    flags := BitVec.ofNat 8 flags, gtag := BitVec.ofNat 16 tag, gen := BitVec.ofNat 16 gen, payload := BitVec.ofNat 128 payload, seq := 0,
    crc := 0 }

/-- The members of a Hoist (module, record), then one COMMIT for each participant (R84). -/
def State.sendHoist (s : State) (tag time : Nat) (l : List (Nat × Rec)) : State :=
  let mods := (List.range 64).filter (fun b => l.any (fun m => m.1 == b))
  let mask := (mods.map (fun b => 2 ^ b)).foldl (· + ·) 0
  let s := s.forEach (fun s m => s.emit m.2) l
  s.forEach (fun s b =>
    let cnt := (l.filter (fun m => m.1 == b)).length
    s.emit (s.hoistRec (0x8000 + b * 512) 1 tag time 6 0 (mask + cnt * 2 ^ 64))) mods

/-- R274: a SYNC Hoist to the carriers and engines of every active member; its launch is the first zero of the lead's carrier at least 1 ms
ahead.  Its tag is not stated. -/
def State.syncHoist (s : State) (c : Nat) : State :=
  match s.bCar c with
  | none => s
  | some k =>
    let per := 4 * s.carP k
    let z := s.carZero k
    let least := s.now + msU
    let launch := if least ≤ z ∨ per = 0 then z else z + (least - z + per - 1) / per * per
    let recs := ((List.range 8).filter (fun j => s.memActive c j)).flatMap (fun j =>
      let b := s.memBurgee c j
      let m := s.memCell c j
      let car := if b = s.own ∧ m = c then 0x4C0 + 16 * k else s.xTarget b (0x4C0 + 16 * m)
      let eng := if b = s.own ∧ m = c then 0x880 + 16 * s.leOf c else s.xTarget b (0x880 + 16 * m)
      let tag := Config.freeAt s.free 26 % 32768
      [(b, s.hoistRec car 0x10 tag launch 2 0 0), (b, s.hoistRec eng 0x17 tag launch 2 0 0)])
    if recs.isEmpty then s
    else
      let t := s.sendHoist (Config.freeAt s.free 26 % 32768) launch recs
      { t with free := t.free + 1 }

/-- R269, R288: accepted members become active at a sample, each with its cap; the SYNC Hoist follows. -/
def State.joinMembers (s : State) (c : Nat) : State :=
  let new := (List.range 8).filter (fun j => (s.member c j).join.isSome)
  let s := s.forEach (fun s j =>
    let cap := (s.member c j).join.getD 0
    let s := (s.setActive c (Nat.lor (s.fld (fLE_PAR_ACTIVE_ACT c)) (2 ^ j))).clrBit (rLE_PAR_ACTIVE c) (16 + j)
    ((s.setF (fLE_PAR_CAP_CAP c j) cap).modMember c j (fun m => { m with join := none, share := 0, clip := none })).parRaise c 0) new
  if new.isEmpty then s else s.syncHoist c

/-- R270–R273: the lead divides T and sends the shares as a Hoist; own share, and whether a shortfall remains. -/
def State.shareOut (s : State) (c : Nat) (t : Int) (tk : Nat) : State × Int × Bool :=
  let s := s.each (fun s j => if s.memActive c j then s.moveCap c j else s) 8
  let k := (s.fld (fLE_PAR_STATUS_SAMPLE c) + 1) % 65536
  let x := divide 9 t.natAbs (s.activeMembers c)
  let short := decide (0 < x.2)
  let s := s.setF (fLE_PAR_STATUS_SAMPLE c) k
  let s := s.forEach (fun s m => (s.setF (fLE_PAR_CAP_SHARE c m.1) m.2).modMember c m.1 (fun q => { q with share := sgn t * (m.2 : Int) })) x.1
  let s := s.setB (fLE_PAR_STATUS_SHORTFALL c) short
  let s := if short then (s.inc (rLE_PAR_CNT_SHORT c)).parRaiseSec c 4 else s
  let launch := tk + s.fld (fLE_PAR_TIMING_SHARE_DELAY c) * 2560
  let tag := 0x8000 + k % 32768
  let followers := (List.range 8).filter (fun j => s.memActive c j && !(s.memBurgee c j == s.own && s.memCell c j == c))
  let recs := followers.map (fun j =>
    (s.memBurgee c j, s.hoistRec (s.xTarget (s.memBurgee c j) (0x884 + 16 * s.memCell c j)) 0x10 tag launch 2 (s.member c j).gen
      (q15 (s.member c j).share + k * 65536)))
  let own := (List.range 8).find? (fun j => s.memActive c j && s.memBurgee c j == s.own && s.memCell c j == c)
  let mine := match own with
    | some j => (s.member c j).share
    | none => 0
  (if recs.isEmpty then s else s.sendHoist tag launch recs, mine, short)

/-! ### The chopper (R234, R258) -/

/-- V_BASE of the engine's cell. -/
def State.leV (s : State) (n : Nat) : Rat := s.vBase (s.leCell n)

/-- R254: a voltage as a Q1.15 code of `V_BASE`. -/
def voltCode (x : Nat) (base : Rat) (fr : Nat) : Int :=
  if base = 0 then sgn16 fr else min (halfUp ((x : Rat) * 32768 / base)) 32767

/-- R234: E after a sample of `t` seconds with the switch on or off. -/
def State.chopEnergy (s : State) (n : Nat) (v : Int) (on : Bool) (t : Rat) : Rat :=
  let volts : Rat := (v : Rat) * s.leV n / 32768
  let r : Rat := (s.fld fBND_DCL_CHOP3_CH_R : Rat) / 100
  let heat : Rat := if ¬ on then 0 else if r = 0 then (Config.freeAt s.free 23 : Rat) else volts * volts / r
  let e := s.dcl.e + (heat - (s.fld fBND_DCL_CHOP2_CH_PMAX : Rat) * 100) * t
  if e < 0 then 0 else e

/-- The engine's cell owns the chopper leg. -/
def State.ownsChop (s : State) (n : Nat) : Bool :=
  let l := s.fld fBND_DCL_CFG_CH_LEG
  l != 15 && s.legN l != 0 && s.legCell l == s.leCell n

/-- The level of the chopper law: the stage's output, its lower limit while the chopper is hot or unavailable (R258). -/
def State.chopY (s : State) (n : Nat) : Int :=
  let vdc := entryValue (s.held (s.fld fBND_DCL_CFG_DCL_VDC))
  let hi := if s.fld fBND_DCL_STATUS_DSTATE = 5 then voltCode (s.fld fBND_DCL_DIS_DIS_V) (s.leV n) (Config.freeAt s.free 24) else s.dHI n 7
  if ¬ s.dEN n 7 then 0
  else if s.on fBND_DCL_STATUS_CHOP_HOT ∨ ¬ s.chopAvail then s.dMIN n 7
  else (s.stage n 7 vdc hi (s.dLO n 7)).y

/-- R258: the LEG_SET when y changes. -/
def State.chopSwitch (s : State) (n tk : Nat) (y : Int) : State :=
  if s.dEN n 7 ∧ y ≠ s.leY n 7 then
    s.emit { s.unitRec (0x540 + 16 * s.legBase (s.fld fBND_DCL_CFG_CH_LEG)) 0x10 (if 0 < y then 1 else 0) with
      time := BitVec.ofNat 40 (tk + s.fld (fLE_TIMING_OUT_DELAY n) * 2560) }
  else s

/-- The energy estimate takes a value. -/
def State.setE (s : State) (e : Rat) : State := { s with dcl := { e := e } }

/-- R234: `CHOP_HOT` follows E. -/
def State.chopHot (s : State) (e : Rat) : State :=
  let emax : Rat := (s.fld fBND_DCL_CHOP2_CH_EMAX : Rat) * 1000
  let hot := s.on fBND_DCL_STATUS_CHOP_HOT
  if emax ≤ e ∧ ¬ hot then ((s.set1 fBND_DCL_STATUS_CHOP_HOT).dclRaise 4).noteChop
  else if e < emax / 2 ∧ hot then (s.clr fBND_DCL_STATUS_CHOP_HOT).noteChop
  else s

/-- R234, R258: the chopper law and its energy at sample time `tk`; whether the link voltage is held. -/
def State.chopper (s : State) (n : Nat) (tk : Nat) : State × Bool :=
  if ¬ s.ownsChop n then (s, false)
  else
    let held := (s.leMeas n (s.fld fBND_DCL_CFG_DCL_VDC)).2 && s.dEN n 7
    let vdc := entryValue (s.held (s.fld fBND_DCL_CFG_DCL_VDC))
    let y := s.chopY n
    let s := ((s.chopSwitch n tk y).keepY n 7 y).setB (fLE_STATUS_CHOP_OUT n) (decide (0 < y))
    let e := s.chopEnergy n vdc (decide (0 < y)) (s.tS n)
    (((s.setE e).wrN rBND_DCL_CHOPE (min (e / 100).floor.toNat 65535)).chopHot e, held)

/-! ### Mirrored streams (R278) -/

/-- The content of part `k`, bytes 8–29 of its slot. -/
def State.mirrorPart (s : State) (n c k : Nat) : Nat :=
  let e := s.leE n
  let acc := fun d => unsW 40 (e.acc.at 0 d)
  let b := s.bndC c
  match k with
  | 0 =>
    let fl := (if s.pstate c = 6 then 1 else 0) + (if s.est n = eRUNNING then 2 else 0) + s.fld (fLE_STATUS_MODE n) * 4
      + s.fld (fLE_STATUS_BANK n) * 16 + s.fld (fLE_STATUS_TAB_BANK n) * 32 + s.fld (fLE_STATUS_HOLD n) * 64
    fl + q15 e.vTgt * 2 ^ 16 + unsW 32 e.pTgt * 2 ^ 32 + unsW 32 (roundR e.pStar) * 2 ^ 64 + s.fld (fLE_PAR_STATUS_SAMPLE c) * 2 ^ 96
  | 1 => q15 (vStar e) + q15 (aStar e) * 2 ^ 16 + acc 0 * 2 ^ 32 + acc 1 * 2 ^ 72
  | 2 => acc 2 + acc 3 * 2 ^ 40 + acc 4 * 2 ^ 80 + acc 5 * 2 ^ 120
  | 3 =>
    let hy := maskBelow (fun d => s.dLAW n d == 1 && decide (s.leY n d = s.dMAX n d)) 8
    acc 6 + hy * 2 ^ 40 + s.rdN rBND_DCL_CHOPE % 65536 * 2 ^ 48 + q15 e.share * 2 ^ 64 + s.fld (fLE_PAR_GEN_MGEN c) * 2 ^ 80
      + (s.parC c).lead % 256 * 2 ^ 96
  | 4 =>
    let a := s.bAngle c s.now
    let w : Rat := if s.wBase c = 0 then 0 else a.2 / s.wBase c * 32768
    let r := s.bRef c
    s.bst c + q15 (roundR (a.1 / piQ * 32768)) * 2 ^ 8 + fieldR w * 2 ^ 24 + q15 r.1 * 2 ^ 40 + q15 r.2.1 * 2 ^ 56
      + unsW 32 (roundR (b.intD * 65536)) * 2 ^ 72 + unsW 32 (roundR (b.intQ * 65536)) * 2 ^ 104 + s.rdN (rBND_FW_DID c) % 65536 * 2 ^ 136
  | _ => s.fld (fLE_PAR_GEN_G c) + s.rdN (rLE_PAR_DIGEST c) * 2 ^ 16 + s.fld (fLE_PAR_CFG_MACHINE c) * 2 ^ 48 + s.fld (fLE_PAR_STAGE_STAGE_ID c) * 2 ^ 56

/-- A mirrored-stream slot. -/
def State.mirrorSlot (s : State) (n c k tk seq : Nat) : Slot :=
  let body := s.fld (fLE_PAR_STAGE_PARTNER c) + s.own * 2 ^ 8 + (c * 64 + k) * 2 ^ 16 + tk % 2 ^ 40 * 2 ^ 24
    + s.mirrorPart n c k % 2 ^ 176 * 2 ^ 64 + seq % 256 * 2 ^ 240
  BitVec.ofNat 256 (body + crc8 (bytesOf 31 body) * 2 ^ 248)

/-- R278: a protected cell sends its six parts. -/
def State.mirrorSend (s : State) (n c tk : Nat) : State :=
  let b := s.fld (fLE_PAR_STAGE_PARTNER c)
  if b = 255 ∨ s.fld (fLE_PAR_CFG_ROLE c) = 3 ∨ s.pstate c = 7 then s
  else
    let seq := ((s.parC c).seq + 1) % 256
    (s.modPar c (fun q => { q with seq := seq })).each (fun s k => (s.sendSlot b .mirror (s.mirrorSlot n c k tk seq)).1) 6

/-! ### The sample (R238–R240, R244, R246) -/

/-- The instant of the next sample, in units (R238). -/
def State.nextSample (s : State) (n : Nat) : Nat :=
  let ts := s.fld (fLE_TIMING_T_S n) * 2560
  (s.leE n).t0 + s.fld (fLE_PHASE_PHASE n) * ts / 65536 + (s.leE n).k * ts

/-- Swaps and a mode that take effect at this sample (R244, R260, R262). -/
def State.leTake (s : State) (n : Nat) (p : Int) : State :=
  let e := s.leE n
  let s := if e.swap = 0 then s else s.setF (fLE_STATUS_BANK n) (e.swap - 1)
  let s := if e.modeNext = 0 then s else s.setF (fLE_STATUS_MODE n) (e.modeNext - 1)
  let s := if e.tab = 0 then s
    else
      let s := s.setF (fLE_STATUS_TAB_BANK n) (e.tab - 1)
      let l := s.tabQ n p / 256
      let s := if s.on (fLE_TAB_CFG_FRIC_EN n) then s.fillLine n false l else s
      if s.on (fLE_TAB_CFG_COG_EN n) then s.fillLine n true l else s
  s.modLe n (fun e => { e with swap := 0, modeNext := 0, tab := 0 })

/-- R242: a sample with a held input. -/
def State.noteHeld (s : State) (n : Nat) (b : Bool) : State :=
  let s := s.modLe n (fun e => { e with heldIn := b })
  if b then ((s.inc (rLE_CNT_HELD n)).set1 (fLE_EVENTS_HELD n)).raiseSec 0x0805 (s.leCell n) else s

/-- R333: the stop line of the cell: SS1 started, and not yet NORMAL again. -/
def State.stopLine (s : State) (c : Nat) : Bool := (s.si.cell.at SiCell.init c).stopLine

/-- R286: the droop law of a follower. -/
def State.droopT (s : State) (n c : Nat) (vfb : Int) : Int :=
  let own := (List.range 8).find? (fun j => s.memBurgee c j == s.own && s.memCell c j == c)
  let w := match own with
    | some j => s.fld (fLE_PAR_MEMBER_WEIGHT c j)
    | none => 0
  let tot := (((List.range 8).filter (fun j => s.memBurgee c j != 255)).map (fun j => s.fld (fLE_PAR_MEMBER_WEIGHT c j))).foldl (· + ·) 0
  let k := s.fld (fLE_PAR_DROOP_DROOP c)
  let e := s.leE n
  if tot * k = 0 then sgn16 (Config.freeAt s.free 25)
  else satQ15 (e.share + halfUp ((w : Rat) / (tot : Rat) * ((e.vTgt - vfb : Int) : Rat) * 32768 / (k : Rat)))

/-- What the profile, the position loop and the speed loop of one sample give: the reference speed, the errors, the outputs. -/
structure LoopPart where
  vref : Int
  x0 : Int
  o0 : StageOut
  x1 : Int
  o1 : StageOut

/-- The profile, the position loop and the speed loop (R239). -/
def State.loopPart (s : State) (n : Nat) (vfb p : Int) (speedy posMode stop : Bool) : State × LoopPart :=
  let vmax : Int := s.fld (fLE_PROF_V_V_MAX n)
  let s := if speedy then s.profile n (if stop then 0 else (s.leE n).vTgt) posMode else s
  let e := s.leE n
  let dpos := wrap32 (roundR e.pStar - p)
  let x0 := satQ15 dpos
  let on0 := posMode && s.dEN n 0
  let o0 := if on0 then s.stage n 0 x0 (s.dHI n 0) (s.dLO n 0) else { y := 0, dir := 0, sat := false }
  let s := s.satFlag n (fLE_SAT_ERR n) (on0 && x0 != dpos)
  let s := s.satFlag n (fLE_SAT_POS n) o0.sat
  let vref := if posMode then clamp (-vmax) vmax (vStar e + o0.y) else vStar e
  let x1 := satQ15 (vref - vfb)
  let on1 := speedy && s.dEN n 1
  let o1 := if on1 then s.stage n 1 x1 (s.dHI n 1) (s.dLO n 1) else { y := 0, dir := 0, sat := false }
  let s := s.satFlag n (fLE_SAT_ERR n) (on1 && x1 != vref - vfb)
  (s.satFlag n (fLE_SAT_SPD n) o1.sat, { vref := vref, x0 := x0, o0 := o0, x1 := x1, o1 := o1 })

/-- The limits of the limiters d2–d6. -/
structure Limits where
  l2 : Int
  l3 : Int
  l4 : Int
  l5 : Int
  l6 : Int

def Limits.of (l : Limits) : Nat → Int
  | 2 => l.l2
  | 3 => l.l3
  | 4 => l.l4
  | 5 => l.l5
  | _ => l.l6

/-- The limiters (R239, R253), and whether one of them holds its last entry. -/
def State.limitPart (s : State) (n : Nat) (vfb : Int) : State × Limits × Bool :=
  let l2 := s.limiter n 2 vfb
  let l3 := l2.1.limiter n 3 vfb
  let l4 := l3.1.limiter n 4 vfb
  let l5 := l4.1.limiter n 5 vfb
  let l6 := l5.1.limiter n 6 vfb
  (l6.1, { l2 := l2.2.1, l3 := l3.2.1, l4 := l4.2.1, l5 := l5.2.1, l6 := l6.2.1 }, l2.2.2 || l4.2.2 || l5.2.2 || l6.2.2)

/-- What the torque of one sample comes from: the demand, the torque in force, the compensation, and whether the speed loop may not integrate for it. -/
structure TorquePart where
  td : Int
  t : Int
  tOut : Int
  cmp : Int
  hold : Bool

/-- Compensation, demand, minimum selection and shares (R239, R255). -/
def State.torquePart (s : State) (n c : Nat) (vfb p : Int) (tk : Nat) (speedy stop : Bool) (e : LeEng) (o1 : Int) (lims : Limits) :
    State × TorquePart :=
  let mode := s.fld (fLE_STATUS_MODE n)
  let tspd : Int := if speedy then o1
    else if stop then 0
    else if mode = 3 then (if s.pstate c = 3 then s.droopT n c vfb else e.share)
    else e.trq
  let ka := aStar e * ((s.fld (fLE_FF_KA n) * 2 ^ s.fld (fLE_FF_KA_SH n) * 256 : Nat) : Int)
  let tff : Int := if speedy then toQ15 (clamp40 ka) else 0
  let ffSat := speedy && (clamp40 ka != ka || (clamp40 ka + 32768) / 65536 != tff)
  let cmp := if mode = 3 then (s, 0) else s.tComp n p vfb
  let s := cmp.1
  let sum := tspd + tff + cmp.2
  let td := satQ15 sum
  let s := s.satFlag n (fLE_SAT_COMP n) (td != sum || ffSat)
  let regen := decide (sgn td * sgn vfb < 0)
  let block := s.regenBlock n
  let ms := minSelect (fun d => s.dEN n d) (fun d => s.dAPPLY n d) lims.of regen block (td.natAbs : Int)
  let t := sgn td * ms.1
  let s := (s.setF (fLE_STATUS_WINNER n) ms.2).setB (fLE_STATUS_REGEN_BLOCK n) block
  let s := s.satFlag n (fLE_SAT_MINSEL n) (ms.2 != 0)
  let sh := if s.role c = 1 ∧ s.on (fLE_CFG_LEAD n) then s.shareOut c t tk else (s, t, false)
  (sh.1, { td := td, t := t, tOut := sh.2.1, cmp := cmp.2, hold := ms.2 != 0 || sh.2.2 })

/-- The integrators of the speed and the position loop (R239). -/
def State.integratePart (s : State) (n : Nat) (l : LoopPart) (td : Int) (hold speedy posMode : Bool) : State :=
  let on1 := speedy && s.dEN n 1
  let skip := decide ((l.o1.dir ≠ 0 ∧ sgn l.x1 = l.o1.dir) ∨ (hold = true ∧ sgn l.x1 = sgn td))
  let s := if on1 ∧ ¬ skip then s.integrate n 1 l.x1 else s
  let skip0 := decide ((l.o0.dir ≠ 0 ∧ sgn l.x0 = l.o0.dir) ∨ (skip = true ∧ sgn l.x0 = sgn l.x1))
  let s := if posMode ∧ s.dEN n 0 ∧ ¬ skip0 then s.integrate n 0 l.x0 else s
  let s := if on1 then s.keepY n 1 l.o1.y else s
  if posMode then s.keepY n 0 l.o0.y else s

/-- Torque to current, the clip report, and the displays (R239). -/
def State.outputPart (s : State) (n c : Nat) (vfb : Int) (tk mode : Nat) (e : LeEng) (vref : Int) (q : TorquePart) : State :=
  let raw := gainMul q.tOut (s.fld (fLE_KTI_KTI_M n)) (s.fld (fLE_KTI_KTI_SH n))
  let it := toQ15 (clamp40 raw)
  let s := s.satFlag n (fLE_SAT_ITREF n) (clamp40 raw != raw || (clamp40 raw + 32768) / 65536 != it)
  let out := tk + s.fld (fLE_TIMING_OUT_DELAY n) * 2560
  let s := s.emit { s.unitRec (0x840 + 16 * c) 0x10 (q15 it * 256) with time := BitVec.ofNat 40 out }
  let clipQ := s.fld (fLE_SHARE_CFG_CLIP_Q n)
  let s := if mode = 3 ∧ q.t.natAbs < q.td.natAbs ∧ clipQ ≠ 0 then
      ((s.emit { s.unitRec clipQ 0x10 (s.own + q15 (q.td - q.t) * 256 + e.shareN * 2 ^ 24) with
        time := BitVec.ofNat 40 out, flags := 0 }).inc (rLE_CNT_CLIP n)).set1 (fLE_EVENTS_CLIP_SENT n)
    else s
  let s := s.modLe n (fun e => { e with t := q.t })
  let e := s.leE n
  let s := ((s.wrN (rLE_PROF_POS n) (unsW 32 (roundR e.pStar))).wrN (rLE_PROF_VA n) (q15 (aStar e) * 65536 + q15 (vStar e)))
  let s := (s.wrN (rLE_FB_SPD n) (q15 vref * 65536 + q15 vfb)).wrN (rLE_TORQUE n) (q15 q.t * 65536 + q15 q.td)
  s.wrN (rLE_ITREF n) (q15 q.cmp * 65536 + q15 it)

/-- The pipeline of R239 in RUNNING. -/
def State.pipeline (s : State) (n c : Nat) (vfb p : Int) (tk : Nat) : State × Bool :=
  let stop := s.stopLine c
  let mode := s.fld (fLE_STATUS_MODE n)
  let speedy := mode == 1 || mode == 2
  let posMode := mode == 2 && !stop
  let a := s.loopPart n vfb p speedy posMode stop
  let e := a.1.leE n
  let b := a.1.limitPart n vfb
  let d := b.1.torquePart n c vfb p tk speedy stop e a.2.o1.y b.2.1
  let s := d.1.integratePart n a.2 d.2.td d.2.hold speedy posMode
  (s.outputPart n c vfb tk mode e a.2.vref d.2, b.2.2)

/-- R239 step 1: the SNAPSHOT for the next sample, when a source is Hall. -/
def State.leSnap (s : State) (n : Nat) : State :=
  if s.fld (fLE_SRC_SPD_SRC n) = 1 ∨ s.fld (fLE_SRC_POS_SRC n) = 1 then
    s.emit { s.unitRec (0xAB0 + 16 * s.fld (fLE_SRC_HALL n)) 0x10 0 with time := BitVec.ofNat 40 (s.nextSample n - 200 * nsU) }
  else s

/-- R239: a sample of engine `n`, when it is due and the engine runs a grid. -/
def leSample (s : State) (n : Nat) : State :=
  if ¬ s.clk.counting ∨ s.now < s.nextSample n then s
  else if s.est n = eFAILED ∧ s.pstate (s.leCell n) = 6 then
    -- R280: a failed engine's cell gives: its part sets still go out
    (s.modLe n (fun e => { e with k := e.k + 1 })).mirrorSend n (s.leCell n) (s.nextSample n)
  else if s.est n ≠ eIDLE ∧ s.est n ≠ eRUNNING then s
  else
    let c := s.leCell n
    let tk := s.nextSample n
    let v := s.leSpeed n
    let p := s.lePos n
    let s := s.modLe n (fun e => { e with k := e.k + 1, satNow := 0, hallSpd := if s.fld (fLE_SRC_SPD_SRC n) = 1 then v.1 else e.hallSpd })
    let s := ((s.leTake n p.1).needLines n p.1).joinMembers c
    let s := if s.est n = eRUNNING ∧ (s.bst c = bIDLE ∨ s.bst c = bHALTED) then s.setEst n eIDLE else s
    let s := if s.est n = eRUNNING ∧ s.fld (fLE_STATUS_MODE n) = 3 then s.modPar c (fun q => { q with silent := q.silent + 1 }) else s
    let s := (s.wrN (rLE_FB_POS n) (unsW 32 p.1)).wrN (rLE_FB_SPD n) (s.rdN (rLE_FB_SPD n) / 65536 * 65536 + q15 v.1)
    let x := if s.est n = eRUNNING then s.pipeline n c v.1 p.1 tk else (s, false)
    let y := x.1.chopper n tk
    let s := (y.1.noteHeld n (v.2 || p.2 || x.2 || y.2)).inc (rLE_CNT_SAMPLES n)
    let s := ((s.mirrorSend n c tk).leSnap n).leMirror n
    { s with free := s.free + 1 }

def execLeSample (n : Fin 5) (s : State) : Outcome State Fault Refusal := .next (s.lit (leSample s n.val))

/-! ### Records (R259) -/

/-- A record of queue `k` of engine `n` is consumed; an engine OFF, in SPARE or FAILED acts on none that is not a runtime value. -/
def State.leRecord (s : State) (n k op : Nat) (p : Quad) (f : State → State) : State :=
  let s := s.consume (0x880 + 16 * n + k) op p
  if s.est n = eIDLE ∨ s.est n = eRUNNING then f s else s

/-- R246: a record of a runtime value (gain, set-point, target, table entry) acts in any state. -/
def State.leRuntime (s : State) (n k op : Nat) (p : Quad) (f : State → State) : State := f (s.consume (0x880 + 16 * n + k) op p)

/-- R271: the lead forwards a SET_SPEED to its active followers. -/
def State.forwardSpeed (s : State) (n : Nat) (p : Quad) : State :=
  let c := s.leCell n
  if s.role c = 1 ∧ s.on (fLE_CFG_LEAD n) then
    s.each (fun s j =>
      if s.memActive c j ∧ ¬ (s.memBurgee c j = s.own ∧ s.memCell c j = c) then
        s.emit { s.unitRec (s.xTarget (s.memBurgee c j) (0x880 + 16 * s.memCell c j)) 0x10 p.toNat with gen := BitVec.ofNat 16 (s.member c j).gen }
      else s) 8
  else s

def setSpeed (s : State) (n : Nat) (p : Quad) : State :=
  s.leRuntime n 0 0x10 p (fun s => (s.modLe n (fun e => { e with vTgt := sgn16 (p.h 0) })).forwardSpeed n p)

def execSetSpeed (n : Fin 5) (p : Quad) (s : State) : Outcome State Fault Refusal := .next (s.lit (setSpeed s n.val p))

def setPosition (s : State) (n : Nat) (p : Quad) : State :=
  s.leRuntime n 0 0x11 p (fun s => (s.modLe n (fun e => { e with pTgt := sgnW 32 (p.w 0) })).clr (fLE_STATUS_ARRIVED n))

def execSetPosition (n : Fin 5) (p : Quad) (s : State) : Outcome State Fault Refusal := .next (s.lit (setPosition s n.val p))

def setTorque (s : State) (n : Nat) (p : Quad) : State := s.leRuntime n 0 0x12 p (fun s => s.modLe n (fun e => { e with trq := sgn16 (p.h 0) }))

def execSetTorque (n : Fin 5) (p : Quad) (s : State) : Outcome State Fault Refusal := .next (s.lit (setTorque s n.val p))

/-- R260. -/
def leSwapBank (s : State) (n : Nat) (p : Quad) : State := s.leRecord n 0 0x13 p (fun s => s.modLe n (fun e => { e with swap := p.b 0 % 2 + 1 }))

def execLeSwapBank (n : Fin 5) (p : Quad) (s : State) : Outcome State Fault Refusal := .next (s.lit (leSwapBank s n.val p))

/-- R262. -/
def swapTable (s : State) (n : Nat) (p : Quad) : State := s.leRecord n 0 0x14 p (fun s => s.modLe n (fun e => { e with tab := p.b 0 % 2 + 1 }))

def execSwapTable (n : Fin 5) (p : Quad) (s : State) : Outcome State Fault Refusal := .next (s.lit (swapTable s n.val p))

/-- R244: SET_MODE, refused while RUNNING. -/
def leSetMode (s : State) (n : Nat) (p : Quad) : State :=
  s.leRecord n 0 0x15 p (fun s =>
    if s.est n = eRUNNING then ((s.inc (rLE_CNT_REFUSED n)).set1 (fLE_EVENTS_STRUCT_REFUSED n)).raise 0x0803 (s.leCell n)
    else s.modLe n (fun e => { e with modeNext := p.b 0 % 4 + 1 }))

def execLeSetMode (n : Fin 5) (p : Quad) (s : State) : Outcome State Fault Refusal := .next (s.lit (leSetMode s n.val p))

/-- R245, R252: the preset of an ENABLE. -/
def State.lePreset (s : State) (n : Nat) (speed torque : Int) (fromFb : Bool) : State :=
  let v := if fromFb then (s.leSpeed n).1 else speed
  let p := (s.lePos n).1
  let s := s.modLe n (fun e => { e with v := v * 65536, a := 0, pStar := (p : Rat), vTgt := speed })
  let s := (s.setAcc n 1 (torque * 65536)).setAcc n 0 0
  let s := [2, 3, 4, 5, 6].foldl (fun s d => s.setAcc n d (s.dMAX n d * 65536)) s
  [0, 1, 2, 3, 4, 5, 6, 7].foldl (fun s d => if s.dLAW n d = 1 then s.keepY n d (s.dMIN n d) else s) s

/-- R244: ENABLE. -/
def leEnable (s : State) (n : Nat) (p : Quad) : State :=
  s.leRecord n 0 0x16 p (fun s =>
    if p.b 0 = 1 then
      (if s.est n = eIDLE then (s.lePreset n (sgn16 (p.h 1)) (sgn16 (p.h 3)) (bit (p.b 5) 0)).setEst n eRUNNING else s)
    else s.setEst n eIDLE)

def execLeEnable (n : Fin 5) (p : Quad) (s : State) : Outcome State Fault Refusal := .next (s.lit (leEnable s n.val p))

/-- R238: SYNC sets t₀ to its launch time. -/
def leSync (s : State) (n : Nat) (p : Quad) (launch : Nat) : State :=
  s.leRecord n 0 0x17 p (fun s => (s.modLe n (fun e => { e with t0 := launch, k := 0 })).leSnap n)

def execLeSync (n : Fin 5) (p : Quad) (launch : Time) (s : State) : Outcome State Fault Refusal := .next (s.lit (leSync s n.val p launch.toNat))

/-- R250. -/
def leHold (s : State) (n : Nat) (p : Quad) : State := s.leRecord n 0 0x18 p (fun s => s.setB (fLE_STATUS_HOLD n) (p.b 0 == 1))

def execLeHold (n : Fin 5) (p : Quad) (s : State) : Outcome State Fault Refusal := .next (s.lit (leHold s n.val p))

/-- FEEDBACK; values marked SETTLE or INVALID leave the held ones (R242). -/
def feedback (s : State) (n : Nat) (p : Quad) : State :=
  s.leRecord n 1 0x10 p (fun s =>
    if p.b 13 % 4 ≠ 0 then s.modLe n (fun e => { e with fbHeld := true })
    else s.modLe n (fun e => { e with fbSpd := sgn16 (p.h 5), fbPos := sgnW 32 (p.w 7), fbAux := sgn16 (p.h 11), fbHeld := false }))

def execFeedback (n : Fin 5) (p : Quad) (s : State) : Outcome State Fault Refusal := .next (s.lit (feedback s n.val p))

/-- R255. -/
def leSetLimit (s : State) (n : Nat) (p : Quad) : State :=
  s.leRuntime n 2 0x10 p (fun s =>
    let d := p.b 0
    if 2 ≤ d ∧ d ≤ 6 then s.setF ⟨rLE_DESC n (8 * d + 6), 31, 16⟩ (p.h 1) else s)

def execLeSetLimit (n : Fin 5) (p : Quad) (s : State) : Outcome State Fault Refusal := .next (s.lit (leSetLimit s n.val p))

/-- The gain bank active at the next sample (R260). -/
def State.bankNext (s : State) (n : Nat) : Nat := if (s.leE n).swap = 0 then s.fld (fLE_STATUS_BANK n) else (s.leE n).swap - 1

/-- R260: GAIN_WRITE. -/
def gainWrite (s : State) (n : Nat) (p : Quad) : State :=
  s.leRuntime n 2 0x11 p (fun s =>
    let d := p.b 0
    let b := p.b 2
    if 6 < d ∨ 1 < p.b 1 ∨ 1 < b ∨ 32767 < p.h 3 ∨ 8 < p.b 5 then s
    else if b = s.bankNext n then ((s.inc (rLE_CNT_REFUSED n)).set1 (fLE_EVENTS_GAIN_REFUSED n)).raise 0x0804 (s.leCell n)
    else s.wrN (rLE_DESC n (8 * d + 1 + p.b 1 + 2 * b)) (p.h 3 * 65536 + p.b 5))

def execGainWrite (n : Fin 5) (p : Quad) (s : State) : Outcome State Fault Refusal := .next (s.lit (gainWrite s n.val p))

/-- One entry of a table. -/
def State.tabPut (s : State) (n : Nat) (cog b : Bool) (i v : Nat) : State :=
  let r := tabReg n cog b (i / 2)
  if i % 2 = 1 then s.setF ⟨r, 31, 16⟩ v else s.setF ⟨r, 15, 0⟩ v

/-- R262: TAB_WRITE. -/
def tabWrite (s : State) (n : Nat) (p : Quad) : State :=
  s.leRuntime n 3 0x10 p (fun s =>
    let cog := bit (p.b 0) 0
    let b := bit (p.b 0) 1
    let cnt := p.b 1
    let i := p.h 2
    if cnt = 0 ∨ 6 < cnt ∨ 4096 < i + cnt then s
    else
      let s := s.each (fun s k => s.tabPut n cog b (i + k) (p.h (4 + 2 * k))) cnt
      if b = s.on (fLE_STATUS_TAB_BANK n) then (s.set1 (fLE_EVENTS_TAB_ACTIVE_WRITE n)).raise 0x0807 (s.leCell n) else s)

def execTabWrite (n : Fin 5) (p : Quad) (s : State) : Outcome State Fault Refusal := .next (s.lit (tabWrite s n.val p))

/-- R271, R286, R288: TORQUE_SHARE; in DROOP the frozen share stays until one comes with the generation of an ACCEPT. -/
def torqueShare (s : State) (n : Nat) (p : Quad) : State :=
  s.leRecord n 4 0x10 p (fun s =>
    let c := s.leCell n
    if s.pstate c = 3 ∧ ¬ (s.parC c).rejoin then s
    else
      let s := s.modLe n (fun e => { e with share := sgn16 (p.h 0), shareN := p.h 2 })
      let s := (s.setF (fLE_PAR_STATUS_SAMPLE c) (p.h 2)).modPar c (fun q => { q with silent := 0, rejoin := false })
      if s.pstate c = 3 then s.setPstate c 2 else s)

def execTorqueShare (n : Fin 5) (p : Quad) (s : State) : Outcome State Fault Refusal := .next (s.lit (torqueShare s n.val p))

/-- R272: CLIP_REPORT at the lead. -/
def clipReport (s : State) (n : Nat) (p : Quad) : State :=
  s.leRecord n 5 0x10 p (fun s =>
    let c := s.leCell n
    if ¬ s.on (fLE_CFG_LEAD n) then s
    else if p.h 3 ≠ s.fld (fLE_PAR_STATUS_SAMPLE c) then s.inc (rLE_PAR_CNT_STALE c)
    else match firstBelow (fun j => s.memActive c j && s.memBurgee c j == p.b 0) 8 with
      | some j => s.modMember c j (fun m => { m with clip := some (p.h 3, (sgn16 (p.h 1)).natAbs) })
      | none => s)

def execClipReport (n : Fin 5) (p : Quad) (s : State) : Outcome State Fault Refusal := .next (s.lit (clipReport s n.val p))

/-! ### Failure and spare (R263) -/

/-- The registers of engine `n` that LE4 takes over: configuration, descriptors, live values and tables, not the paralleling ones. -/
def leCopied (off : Nat) : Bool := off < 0x300 || (0x310 ≤ off && off < 0x380) || (0x4000 ≤ off && off < 0xC000)

/-- LE4 takes the registers of engine `n` and its mirrored state, on the grid of the engine. -/
def State.leCopy (s : State) (n : Nat) : State :=
  let base := 0x8000000 + n * 0x10000
  let s := s.forEach (fun s e => if 0x8040000 ≤ e.1 ∧ e.1 < 0x8050000 ∧ leCopied (e.1 - 0x8040000) then s.wr e.1 0 else s) s.regs
  let s := s.forEach (fun s e => if base ≤ e.1 ∧ e.1 < base + 0x10000 ∧ leCopied (e.1 - base) then s.wr (0x8040000 + (e.1 - base)) e.2 else s) s.regs
  let m := s.le.mirror.at LeMirror.init n
  let s := s.modLe 4 (fun _ => { m.eng with t0 := (s.leE n).t0, k := (s.leE n).k + 1, swap := 0, tab := 0, modeNext := 0 })
  ((s.setF (fLE_STATUS_BANK 4) m.bank).setF (fLE_STATUS_TAB_BANK 4) m.tab).setF (fLE_STATUS_HOLD 4) m.hold

/-- R82: a generation one newer, 65,535 followed by 1. -/
def State.bumpGen (s : State) (q : Nat) : State := s.setGen q (nextGen (s.qGen q))

/-- R263: an internal check of engine `n` finds an error. -/
def leCheckError (s : State) (n : Nat) : State :=
  if s.est n ≠ eIDLE ∧ s.est n ≠ eRUNNING then s
  else
    let c := s.leCell n
    let was := s.est n
    let s := (s.setEst n eFAILED).set1 (fLE_EVENTS_FAILED n)
    if n < 4 ∧ s.est 4 = eSPARE ∧ ¬ s.inBiv then
      let s := ((s.leCopy n).setF (fLE_STATUS_MODE 4) (s.fld (fLE_STATUS_MODE n))).setF (fLE_STATUS_ARRIVED 4) (s.fld (fLE_STATUS_ARRIVED n))
      let s := { s with le := { s.le with resume := some (n, was) } }
      let s := ((s.set1 (fFLT_CELL_LE_SPARE_USED c)).set1 fFLT_EVENTS_SPARE_EXHAUSTED).raise 0x0801 c
      s.each (fun s k => (s.bumpGen (0x880 + 16 * n + k)).setGen (0x8C0 + k) ((s.bumpGen (0x880 + 16 * n + k)).qGen (0x880 + 16 * n + k))) 6
    else (s.raiseStop 0x0802 c).giveOrSs1 c

def execLeCheckError (n : Fin 5) (s : State) : Outcome State Fault Refusal := .next (s.lit (leCheckError s n.val))

/-- R263: LE4 resumes the failed engine's cell. -/
def leSpareResume (s : State) : State :=
  match s.le.resume with
  | some (n, was) =>
    let s := { s with le := { s.le with resume := none } }
    (((s.setServes 4 n).clr (fLE_STATUS_SERVES_VALID n)).setEst 4 was).set1 (fLE_EVENTS_SPARE_IN 4)
  | none => s

def execLeSpareResume (s : State) : Outcome State Fault Refusal := .next (s.lit (leSpareResume s))

def leCounters (n : Nat) : List Nat := [rLE_CNT_SAMPLES n, rLE_CNT_HELD n, rLE_CNT_REFUSED n, rLE_CNT_TAB_LINE n, rLE_CNT_CLIP n]

def leClearCounters (s : State) (n : Nat) : State := s.cmd (rLE_CMD n) 1 (fun s => (stDONE, s.zero (leCounters n)))

def execLeClearCounters (n : Fin 5) (s : State) : Outcome State Fault Refusal := .next (s.lit (leClearCounters s n.val))

end Sys2Proof.Machine
end

