-- ==== Sys2Proof/Machine/RegTable.lean ====
section
/-! DEFINITION. The register table: for every register its place, access code (R10) and the fields the image sets, each
with its range and default (R418, R419, R424 check 11), as the register and field tables of the chapters give them. -/
namespace Sys2Proof.Machine

/-- One field that the image can set: bits `hi:lo`, range `mn`…`mx`, default `df`, and one further value `ex` that the field may
hold outside that range (its "none" value), and whether the field is runtime (R418: access RO with reset "image"). -/
structure ImgField where
  hi : Nat
  lo : Nat
  mn : Nat
  mx : Nat
  df : Nat
  ex : Option Nat
  runtime : Bool
deriving DecidableEq, Repr

/-- One row of a register table: `n` instances from `base`, `cnt` copies at `stride`, each of `words` words. -/
structure RegRow where
  base : Nat
  n : Nat
  stride : Nat
  cnt : Nat
  words : Nat
  acc : Access
  img : List ImgField
deriving DecidableEq, Repr

def regRows_hal0 : List RegRow := [
  ⟨0x1000000, 1, 4, 1, 1, .ro, []⟩,
  ⟨0x1000004, 1, 4, 1, 1, .ro, []⟩,
  ⟨0x1000008, 1, 4, 1, 1, .ro, []⟩,
  ⟨0x100000C, 1, 4, 1, 1, .ro, []⟩,
  ⟨0x1000010, 1, 4, 1, 1, .lock, [⟨15, 8, 0, 63, 0, none, false⟩, ⟨2, 2, 0, 1, 0, none, false⟩, ⟨1, 1, 0, 1, 0, none, false⟩, ⟨0, 0, 0, 1, 0, none, false⟩]⟩,
  ⟨0x1000014, 1, 4, 1, 1, .ro, []⟩,
  ⟨0x1000018, 1, 4, 1, 1, .ro, []⟩,
  ⟨0x100001C, 1, 4, 1, 1, .ro, []⟩,
  ⟨0x1000020, 1, 4, 1, 1, .ro, []⟩,
  ⟨0x1000024, 1, 4, 1, 1, .w1c, []⟩,
  ⟨0x1000028, 1, 4, 1, 1, .cmd, []⟩,
  ⟨0x100002C, 1, 4, 1, 1, .ro, []⟩,
  ⟨0x1000030, 1, 4, 1, 1, .ro, []⟩,
  ⟨0x1000034, 1, 4, 1, 1, .ro, []⟩,
  ⟨0x1000100, 4, 4, 1, 1, .ro, []⟩,
  ⟨0x1000104, 4, 4, 1, 1, .lock, [⟨15, 8, 0, 255, 0, none, false⟩, ⟨2, 1, 0, 2, 0, none, false⟩, ⟨0, 0, 0, 1, 0, none, false⟩]⟩,
  ⟨0x1000108, 4, 4, 1, 1, .lock, [⟨31, 0, 0, 4294967295, 0, none, false⟩]⟩,
  ⟨0x100010C, 4, 4, 1, 1, .ro, []⟩,
  ⟨0x1000110, 4, 4, 1, 1, .ro, []⟩,
  ⟨0x1000114, 4, 4, 1, 1, .ro, []⟩,
  ⟨0x1000118, 4, 4, 1, 1, .ro, []⟩,
  ⟨0x100011C, 4, 4, 1, 1, .ro, []⟩,
  ⟨0x1000120, 4, 4, 1, 1, .ro, []⟩,
  ⟨0x1000124, 4, 4, 1, 1, .ro, []⟩]
def regRows_hal1 : List RegRow := [
  ⟨0x1000128, 4, 4, 1, 1, .w1c, []⟩]
/-- The registers of the HAL block. -/
def regRows_hal : List RegRow := regRows_hal0 ++ regRows_hal1

def regRows_hq0 : List RegRow := [
  ⟨0x2000000, 1, 4, 1, 1, .lock, [⟨19, 12, 0, 255, 64, none, false⟩, ⟨11, 0, 1, 4095, 125, none, false⟩]⟩,
  ⟨0x2000004, 1, 4, 1, 1, .ro, []⟩,
  ⟨0x2000008, 1, 4, 1, 1, .ro, []⟩,
  ⟨0x200000C, 1, 4, 1, 1, .ro, []⟩,
  ⟨0x2000010, 1, 4, 1, 1, .w1c, []⟩,
  ⟨0x2000014, 1, 4, 1, 1, .cmd, []⟩,
  ⟨0x2000018, 1, 4, 1, 1, .ro, []⟩,
  ⟨0x200001C, 1, 4, 1, 1, .ro, []⟩,
  ⟨0x2000020, 1, 4, 1, 1, .ro, []⟩,
  ⟨0x2000024, 1, 4, 1, 1, .ro, []⟩,
  ⟨0x2000028, 1, 4, 1, 1, .ro, []⟩,
  ⟨0x200002C, 1, 4, 1, 1, .ro, []⟩,
  ⟨0x2000030, 1, 4, 1, 1, .ro, []⟩,
  ⟨0x2000034, 1, 4, 1, 1, .ro, []⟩,
  ⟨0x2000038, 1, 4, 1, 1, .ro, []⟩,
  ⟨0x200003C, 1, 4, 1, 1, .ro, []⟩,
  ⟨0x2000040, 1, 4, 1, 1, .ro, []⟩,
  ⟨0x2000044, 1, 4, 1, 1, .ro, []⟩,
  ⟨0x2000048, 1, 4, 1, 1, .ro, []⟩,
  ⟨0x2000050, 1, 4, 8, 1, .rw, []⟩,
  ⟨0x2000070, 1, 4, 1, 1, .cmd, []⟩]
/-- The registers of the HQ block. -/
def regRows_hq : List RegRow := regRows_hq0

def regRows_sns0 : List RegRow := [
  ⟨0x3000000, 52, 4, 1, 1, .ro, [⟨21, 16, 0, 47, 63, some 63, true⟩, ⟨10, 8, 1, 4, 0, none, true⟩, ⟨3, 0, 3, 10, 0, none, true⟩]⟩,
  ⟨0x3000004, 52, 4, 1, 1, .lock, [⟨31, 16, 0, 65535, 0, none, false⟩, ⟨15, 0, 0, 65535, 0, none, false⟩]⟩,
  ⟨0x3000008, 52, 4, 1, 1, .ro, []⟩,
  ⟨0x300000C, 52, 4, 1, 1, .ro, []⟩,
  ⟨0x3000010, 52, 4, 4, 1, .ro, []⟩,
  ⟨0x3000100, 52, 4, 64, 1, .ro, []⟩,
  ⟨0x3340000, 4, 4, 1, 1, .lock, [⟨15, 8, 4, 100, 10, none, false⟩, ⟨0, 0, 0, 1, 0, none, false⟩]⟩,
  ⟨0x3340004, 4, 4, 1, 1, .ro, []⟩,
  ⟨0x3340008, 4, 4, 1, 1, .ro, []⟩,
  ⟨0x334000C, 4, 4, 1, 1, .ro, []⟩,
  ⟨0x3340010, 4, 4, 4, 1, .ro, []⟩,
  ⟨0x3340040, 4, 4, 16, 1, .lock, [⟨31, 31, 0, 1, 0, none, false⟩, ⟨10, 8, 0, 4, 0, none, false⟩, ⟨4, 0, 0, 15, 0, none, false⟩]⟩,
  ⟨0x3340100, 4, 4, 64, 1, .ro, []⟩,
  ⟨0x3380000, 1, 4, 6, 1, .lock, [⟨15, 8, 50, 250, 200, none, false⟩, ⟨7, 4, 0, 15, 0, none, false⟩, ⟨1, 1, 0, 1, 0, none, false⟩, ⟨0, 0, 0, 1, 0, none, false⟩]⟩,
  ⟨0x3380020, 1, 4, 1, 1, .lock, [⟨15, 0, 1, 600, 10, none, false⟩]⟩,
  ⟨0x3380024, 1, 4, 1, 1, .w1c, []⟩,
  ⟨0x3380028, 1, 4, 1, 1, .cmd, []⟩,
  ⟨0x338002C, 1, 4, 1, 1, .ro, []⟩,
  ⟨0x3380030, 1, 4, 1, 1, .ro, []⟩,
  ⟨0x3380034, 1, 4, 1, 1, .ro, []⟩,
  ⟨0x3380038, 1, 4, 1, 1, .ro, []⟩,
  ⟨0x3380100, 1, 4, 48, 1, .lock, [⟨13, 12, 0, 3, 0, none, false⟩, ⟨10, 8, 0, 5, 0, none, false⟩, ⟨6, 4, 0, 3, 0, none, false⟩, ⟨1, 1, 0, 1, 0, none, false⟩, ⟨0, 0, 0, 1, 0, none, false⟩]⟩,
  ⟨0x3380200, 1, 4, 48, 1, .ro, []⟩,
  ⟨0x3380400, 1, 16, 48, 1, .lock, [⟨31, 16, 0, 65535, 0, none, false⟩, ⟨15, 0, 0, 65535, 0, none, false⟩]⟩]
def regRows_sns1 : List RegRow := [
  ⟨0x3380404, 1, 16, 48, 1, .lock, [⟨3, 2, 0, 3, 0, none, false⟩, ⟨1, 1, 0, 1, 0, none, false⟩, ⟨0, 0, 0, 1, 0, none, false⟩]⟩,
  ⟨0x3380408, 1, 16, 48, 1, .ro, []⟩,
  ⟨0x3380800, 1, 8, 16, 1, .lock, [⟨10, 8, 0, 5, 0, none, false⟩, ⟨5, 4, 0, 3, 0, none, false⟩, ⟨2, 0, 0, 4, 0, none, false⟩]⟩,
  ⟨0x3380804, 1, 8, 16, 1, .lock, [⟨31, 16, 0, 65535, 0, none, false⟩, ⟨15, 0, 0, 65535, 0, none, false⟩]⟩,
  ⟨0x3380900, 1, 16, 16, 4, .ro, []⟩,
  ⟨0x3380A00, 1, 32, 24, 1, .lock, [⟨15, 8, 5, 200, 30, none, false⟩, ⟨0, 0, 0, 1, 0, none, false⟩]⟩,
  ⟨0x3380A10, 1, 32, 24, 4, .ro, []⟩]
/-- The registers of the SNS block. -/
def regRows_sns : List RegRow := regRows_sns0 ++ regRows_sns1

def regRows_pos0 : List RegRow := [
  ⟨0x4000000, 6, 4, 1, 1, .lock, [⟨31, 24, 1, 255, 50, none, false⟩, ⟨23, 16, 1, 255, 0, none, false⟩, ⟨5, 4, 0, 3, 0, none, false⟩, ⟨1, 1, 0, 1, 0, none, false⟩, ⟨0, 0, 0, 1, 0, none, false⟩]⟩,
  ⟨0x4000004, 6, 4, 1, 1, .lock, [⟨17, 0, 0, 262143, 0, none, false⟩]⟩,
  ⟨0x4000008, 6, 4, 1, 1, .lock, [⟨27, 16, 0, 4095, 0, none, false⟩, ⟨15, 0, 1, 10000, 100, none, false⟩]⟩,
  ⟨0x400000C, 6, 4, 1, 1, .lock, [⟨19, 0, 0, 1048575, 0, none, false⟩]⟩,
  ⟨0x4000010, 6, 4, 1, 1, .ro, []⟩,
  ⟨0x4000014, 6, 4, 1, 1, .ro, []⟩,
  ⟨0x4000018, 6, 4, 1, 1, .ro, []⟩,
  ⟨0x400001C, 6, 4, 1, 1, .ro, []⟩,
  ⟨0x4000020, 6, 4, 1, 1, .ro, []⟩,
  ⟨0x4000024, 6, 4, 1, 1, .ro, []⟩,
  ⟨0x4000028, 6, 4, 1, 1, .ro, []⟩,
  ⟨0x400002C, 6, 4, 1, 1, .ro, []⟩,
  ⟨0x4000030, 6, 4, 1, 1, .ro, []⟩,
  ⟨0x4000034, 6, 4, 1, 1, .ro, []⟩,
  ⟨0x4000038, 6, 4, 1, 1, .w1c, []⟩,
  ⟨0x400003C, 6, 4, 1, 1, .ro, []⟩,
  ⟨0x4060000, 1, 16, 4, 1, .lock, [⟨31, 24, 0, 255, 1, none, false⟩, ⟨23, 16, 0, 255, 0, none, false⟩, ⟨6, 4, 0, 5, 0, none, false⟩, ⟨1, 1, 0, 1, 0, none, false⟩, ⟨0, 0, 0, 1, 0, none, false⟩]⟩,
  ⟨0x4060004, 1, 16, 4, 1, .ro, []⟩,
  ⟨0x4060008, 1, 16, 4, 1, .ro, []⟩,
  ⟨0x406000C, 1, 16, 4, 1, .ro, []⟩,
  ⟨0x4060100, 1, 16, 4, 1, .lock, [⟨31, 16, 0, 65535, 0, none, false⟩, ⟨15, 8, 0, 255, 0, none, false⟩, ⟨6, 4, 0, 5, 0, none, false⟩, ⟨2, 1, 0, 3, 0, none, false⟩, ⟨0, 0, 0, 1, 0, none, false⟩]⟩,
  ⟨0x4060104, 1, 16, 4, 1, .ro, []⟩,
  ⟨0x4060200, 1, 4, 128, 1, .ro, []⟩,
  ⟨0x4060400, 1, 4, 2, 1, .ro, [⟨15, 8, 0, 3, 255, some 255, true⟩, ⟨7, 0, 0, 5, 255, some 255, true⟩]⟩]
def regRows_pos1 : List RegRow := [
  ⟨0x4060410, 1, 4, 1, 1, .cmd, []⟩]
/-- The registers of the POS block. -/
def regRows_pos : List RegRow := regRows_pos0 ++ regRows_pos1

def regRows_edg0 : List RegRow := [
  ⟨0x5000000, 8, 4, 1, 1, .lock, [⟨31, 16, 0, 65535, 0, none, false⟩, ⟨1, 1, 0, 1, 0, none, false⟩, ⟨0, 0, 0, 1, 0, none, false⟩]⟩,
  ⟨0x5000004, 8, 4, 1, 1, .ro, [⟨31, 0, 0, 4294967295, 0, none, true⟩]⟩,
  ⟨0x5000008, 8, 4, 1, 1, .ro, []⟩,
  ⟨0x500000C, 8, 4, 1, 1, .ro, []⟩,
  ⟨0x5000010, 8, 4, 1, 1, .ro, []⟩,
  ⟨0x5080000, 24, 4, 1, 1, .ro, []⟩,
  ⟨0x5080004, 24, 4, 1, 1, .ro, []⟩,
  ⟨0x5080008, 24, 4, 1, 1, .ro, []⟩,
  ⟨0x508000C, 24, 4, 1, 1, .ro, []⟩,
  ⟨0x5080010, 24, 4, 1, 1, .ro, []⟩,
  ⟨0x5080014, 24, 4, 1, 1, .ro, []⟩,
  ⟨0x5080018, 24, 4, 1, 1, .ro, []⟩,
  ⟨0x5200000, 1, 4, 1, 1, .lock, [⟨23, 8, 500, 10000, 1000, none, false⟩, ⟨7, 0, 1, 255, 8, none, false⟩]⟩,
  ⟨0x5200004, 1, 4, 1, 1, .lock, [⟨19, 16, 1, 15, 3, none, false⟩, ⟨9, 0, 1, 1000, 100, none, false⟩]⟩,
  ⟨0x5200008, 1, 4, 1, 1, .lock, [⟨4, 3, 0, 3, 0, none, false⟩, ⟨12, 11, 0, 3, 0, none, false⟩, ⟨20, 19, 0, 3, 0, none, false⟩, ⟨28, 27, 0, 3, 0, none, false⟩, ⟨2, 2, 0, 1, 0, none, false⟩, ⟨10, 10, 0, 1, 0, none, false⟩, ⟨18, 18, 0, 1, 0, none, false⟩, ⟨26, 26, 0, 1, 0, none, false⟩, ⟨1, 1, 0, 1, 0, none, false⟩, ⟨9, 9, 0, 1, 0, none, false⟩, ⟨17, 17, 0, 1, 0, none, false⟩, ⟨25, 25, 0, 1, 0, none, false⟩, ⟨0, 0, 0, 1, 0, none, false⟩, ⟨8, 8, 0, 1, 0, none, false⟩, ⟨16, 16, 0, 1, 0, none, false⟩, ⟨24, 24, 0, 1, 0, none, false⟩]⟩,
  ⟨0x520000C, 1, 4, 1, 1, .ro, []⟩,
  ⟨0x5200010, 1, 4, 1, 1, .w1c, []⟩,
  ⟨0x5200014, 1, 4, 1, 1, .cmd, []⟩,
  ⟨0x5200018, 1, 4, 1, 1, .ro, []⟩,
  ⟨0x520001C, 1, 4, 1, 1, .ro, []⟩,
  ⟨0x5200020, 1, 4, 1, 1, .ro, []⟩,
  ⟨0x5200100, 1, 16, 12, 1, .lock, [⟨31, 24, 1, 255, 10, none, false⟩, ⟨20, 16, 0, 23, 0, none, false⟩, ⟨11, 11, 0, 1, 0, none, false⟩, ⟨10, 8, 0, 7, 0, none, false⟩, ⟨5, 4, 0, 3, 0, none, false⟩, ⟨2, 0, 0, 4, 0, none, false⟩]⟩,
  ⟨0x5200104, 1, 16, 12, 1, .lock, [⟨31, 16, 0, 20000, 0, none, false⟩, ⟨15, 0, 0, 20000, 0, none, false⟩]⟩,
  ⟨0x5200108, 1, 16, 12, 1, .lock, [⟨31, 16, 0, 20000, 0, none, false⟩, ⟨15, 0, 0, 20000, 0, none, false⟩]⟩]
def regRows_edg1 : List RegRow := [
  ⟨0x520010C, 1, 16, 12, 1, .ro, []⟩,
  ⟨0x5200200, 1, 4, 52, 1, .lock, [⟨11, 0, 0, 4095, 0, none, false⟩]⟩]
/-- The registers of the EDG block. -/
def regRows_edg : List RegRow := regRows_edg0 ++ regRows_edg1

def regRows_gd0 : List RegRow := [
  ⟨0x6000000, 24, 4, 1, 1, .lock, [⟨27, 24, 0, 12, 0, none, false⟩, ⟨23, 20, 0, 10, 0, none, false⟩, ⟨15, 15, 0, 1, 0, none, false⟩, ⟨14, 14, 0, 1, 1, none, false⟩, ⟨13, 13, 0, 1, 0, none, false⟩, ⟨12, 12, 0, 1, 0, none, false⟩, ⟨9, 9, 0, 1, 0, none, false⟩, ⟨8, 8, 0, 1, 0, none, false⟩, ⟨0, 0, 0, 1, 0, none, false⟩]⟩,
  ⟨0x6000004, 24, 4, 1, 1, .lock, [⟨31, 24, 0, 255, 0, none, false⟩, ⟨23, 16, 0, 255, 0, none, false⟩, ⟨13, 8, 0, 63, 0, none, false⟩, ⟨7, 0, 1, 255, 0, none, false⟩]⟩,
  ⟨0x6000008, 24, 4, 1, 1, .lock, [⟨31, 24, 0, 255, 0, none, false⟩, ⟨23, 16, 0, 255, 0, none, false⟩, ⟨13, 8, 0, 63, 0, none, false⟩, ⟨7, 0, 1, 255, 0, none, false⟩]⟩,
  ⟨0x600000C, 24, 4, 1, 1, .lock, [⟨31, 26, 0, 63, 0, none, false⟩, ⟨23, 16, 5, 80, 0, none, false⟩, ⟨15, 10, 0, 63, 0, none, false⟩, ⟨7, 0, 2, 100, 0, none, false⟩]⟩,
  ⟨0x6000010, 24, 4, 1, 1, .lock, [⟨31, 24, 0, 255, 0, none, false⟩, ⟨23, 16, 0, 255, 0, none, false⟩, ⟨15, 8, 0, 255, 0, none, false⟩, ⟨7, 0, 2, 100, 0, none, false⟩]⟩,
  ⟨0x6000014, 24, 4, 1, 1, .lock, [⟨31, 16, 1, 65535, 0, none, false⟩, ⟨15, 0, 1, 10000, 0, none, false⟩]⟩,
  ⟨0x6000018, 24, 4, 1, 1, .lock, [⟨7, 0, 50, 250, 0, none, false⟩]⟩,
  ⟨0x600001C, 24, 4, 1, 1, .ro, []⟩,
  ⟨0x6000020, 24, 4, 1, 1, .ro, []⟩,
  ⟨0x6000024, 24, 4, 1, 1, .ro, []⟩,
  ⟨0x6000028, 24, 4, 1, 1, .ro, []⟩,
  ⟨0x600002C, 24, 4, 1, 1, .ro, []⟩,
  ⟨0x6000030, 24, 4, 1, 1, .ro, []⟩,
  ⟨0x6000034, 24, 4, 1, 1, .ro, []⟩,
  ⟨0x6000038, 24, 4, 1, 1, .ro, []⟩,
  ⟨0x600003C, 24, 4, 1, 1, .ro, []⟩,
  ⟨0x6000040, 24, 4, 1, 1, .w1c, []⟩,
  ⟨0x6000044, 24, 4, 1, 1, .ro, []⟩,
  ⟨0x6180000, 1, 4, 1, 1, .lock, [⟨19, 16, 1, 15, 3, none, false⟩, ⟨9, 0, 1, 1000, 100, none, false⟩]⟩,
  ⟨0x6180004, 1, 4, 1, 1, .ro, []⟩,
  ⟨0x6180008, 1, 4, 1, 1, .cmd, []⟩,
  ⟨0x618000C, 1, 4, 1, 1, .ro, []⟩,
  ⟨0x6180010, 1, 4, 1, 1, .ro, []⟩]
/-- The registers of the GD block. -/
def regRows_gd : List RegRow := regRows_gd0

def regRows_bnd0 : List RegRow := [
  ⟨0x7000000, 4, 4, 1, 1, .lock, [⟨23, 20, 0, 3, 0, none, false⟩, ⟨16, 16, 0, 1, 0, none, false⟩, ⟨15, 15, 0, 1, 0, none, false⟩, ⟨14, 14, 0, 1, 0, none, false⟩, ⟨13, 13, 0, 1, 0, none, false⟩, ⟨12, 12, 0, 1, 0, none, false⟩, ⟨9, 8, 0, 2, 0, none, false⟩, ⟨4, 4, 0, 1, 0, none, false⟩, ⟨0, 0, 0, 1, 0, none, false⟩]⟩,
  ⟨0x7000004, 4, 4, 1, 1, .lock, [⟨30, 24, 0, 127, 0, none, false⟩, ⟨22, 16, 0, 127, 0, none, false⟩, ⟨6, 4, 0, 5, 0, none, false⟩, ⟨1, 0, 0, 2, 0, none, false⟩]⟩,
  ⟨0x7000008, 4, 4, 1, 1, .lock, [⟨31, 16, 0, 65535, 0, none, false⟩, ⟨15, 0, 0, 65535, 0, none, false⟩]⟩,
  ⟨0x700000C, 4, 4, 1, 1, .lock, [⟨31, 24, 1, 255, 0, none, false⟩, ⟨19, 0, 0, 1048575, 0, none, false⟩]⟩,
  ⟨0x7000010, 4, 4, 1, 1, .lock, [⟨31, 16, 0, 65535, 0, none, false⟩, ⟨15, 0, 0, 65535, 0, none, false⟩]⟩,
  ⟨0x7000014, 4, 4, 1, 1, .lock, [⟨31, 16, 0, 65535, 0, none, false⟩, ⟨15, 0, 0, 65535, 0, none, false⟩]⟩,
  ⟨0x7000018, 4, 4, 1, 1, .lock, [⟨31, 16, 0, 65535, 0, none, false⟩, ⟨15, 0, 0, 65535, 0, none, false⟩]⟩,
  ⟨0x700001C, 4, 4, 1, 1, .lock, [⟨31, 16, 0, 65535, 0, none, false⟩, ⟨15, 0, 0, 65535, 0, none, false⟩]⟩,
  ⟨0x7000020, 4, 4, 1, 1, .lock, [⟨31, 16, 0, 65535, 0, none, false⟩, ⟨15, 0, 0, 65535, 0, none, false⟩]⟩,
  ⟨0x7000024, 4, 4, 1, 1, .lock, [⟨31, 16, 0, 65535, 0, none, false⟩, ⟨15, 0, 0, 65535, 0, none, false⟩]⟩,
  ⟨0x7000028, 4, 4, 1, 1, .lock, [⟨31, 16, 0, 65535, 0, none, false⟩, ⟨15, 0, 0, 65535, 0, none, false⟩]⟩,
  ⟨0x700002C, 4, 4, 1, 1, .lock, [⟨31, 16, 0, 65535, 0, none, false⟩, ⟨15, 0, 0, 65535, 0, none, false⟩]⟩,
  ⟨0x7000030, 4, 4, 1, 1, .lock, [⟨31, 16, 20, 1000, 0, none, false⟩, ⟨15, 0, 10, 100, 30, none, false⟩]⟩,
  ⟨0x7000034, 4, 4, 1, 1, .lock, [⟨31, 16, 0, 65535, 0, none, false⟩, ⟨15, 0, 0, 65535, 0, none, false⟩]⟩,
  ⟨0x7000038, 4, 4, 1, 1, .lock, [⟨31, 16, 0, 65535, 31130, none, false⟩, ⟨15, 0, 0, 65535, 0, none, false⟩]⟩,
  ⟨0x700003C, 4, 4, 1, 1, .lock, [⟨31, 16, 0, 65535, 0, none, false⟩, ⟨15, 0, 0, 65535, 0, none, false⟩]⟩,
  ⟨0x7000040, 4, 4, 1, 1, .lock, [⟨31, 16, 0, 65535, 0, none, false⟩, ⟨15, 8, 1, 255, 10, none, false⟩, ⟨7, 0, 0, 255, 0, none, false⟩]⟩,
  ⟨0x7000044, 4, 4, 1, 1, .lock, [⟨31, 16, 0, 65535, 0, none, false⟩, ⟨15, 0, 0, 65535, 0, none, false⟩]⟩,
  ⟨0x7000048, 4, 4, 1, 1, .lock, [⟨15, 0, 0, 65535, 0, none, false⟩]⟩,
  ⟨0x7000080, 4, 4, 1, 1, .ro, []⟩,
  ⟨0x7000084, 4, 4, 1, 1, .ro, []⟩,
  ⟨0x7000088, 4, 4, 1, 1, .ro, []⟩,
  ⟨0x700008C, 4, 4, 1, 1, .ro, []⟩,
  ⟨0x7000090, 4, 4, 1, 1, .ro, []⟩]
def regRows_bnd1 : List RegRow := [
  ⟨0x7000094, 4, 4, 1, 1, .ro, []⟩,
  ⟨0x7000098, 4, 4, 1, 1, .ro, []⟩,
  ⟨0x700009C, 4, 4, 1, 1, .ro, []⟩,
  ⟨0x70000A0, 4, 4, 1, 1, .ro, []⟩,
  ⟨0x70000A4, 4, 4, 1, 1, .ro, []⟩,
  ⟨0x70000A8, 4, 4, 1, 1, .ro, []⟩,
  ⟨0x70000C0, 4, 4, 1, 1, .ro, []⟩,
  ⟨0x70000C4, 4, 4, 1, 1, .ro, []⟩,
  ⟨0x70000C8, 4, 4, 1, 1, .ro, []⟩,
  ⟨0x70000CC, 4, 4, 1, 1, .ro, []⟩,
  ⟨0x70000D0, 4, 4, 1, 1, .ro, []⟩,
  ⟨0x70000D4, 4, 4, 1, 1, .ro, []⟩,
  ⟨0x70000D8, 4, 4, 1, 1, .ro, []⟩,
  ⟨0x70000DC, 4, 4, 1, 1, .ro, []⟩,
  ⟨0x70000E0, 4, 4, 1, 1, .ro, []⟩,
  ⟨0x70000E4, 4, 4, 1, 1, .w1c, []⟩,
  ⟨0x70000E8, 4, 4, 1, 1, .cmd, []⟩,
  ⟨0x7000400, 4, 4, 65, 1, .lock, [⟨31, 16, 0, 65535, 0, none, false⟩, ⟨15, 0, 0, 65535, 0, none, false⟩]⟩,
  ⟨0x7001000, 4, 4, 288, 1, .lock, [⟨31, 0, 0, 4294967295, 0, none, false⟩]⟩,
  ⟨0x7002000, 4, 4, 1, 1, .lock, [⟨11, 8, 1, 15, 3, none, false⟩, ⟨5, 5, 0, 1, 0, none, false⟩, ⟨4, 4, 0, 1, 0, none, false⟩, ⟨1, 0, 0, 3, 0, none, false⟩]⟩,
  ⟨0x7002004, 4, 4, 1, 1, .lock, [⟨31, 16, 0, 65535, 0, none, false⟩, ⟨15, 0, 10, 10000, 0, none, false⟩]⟩,
  ⟨0x7002008, 4, 4, 1, 1, .lock, [⟨31, 16, 0, 65535, 0, none, false⟩, ⟨15, 0, 1, 65535, 0, none, false⟩]⟩,
  ⟨0x700200C, 4, 4, 1, 1, .lock, [⟨31, 16, 0, 65535, 0, none, false⟩, ⟨15, 0, 10, 5000, 0, none, false⟩]⟩,
  ⟨0x7002010, 4, 4, 1, 1, .lock, [⟨31, 16, 0, 65535, 0, none, false⟩, ⟨15, 8, 5, 255, 0, none, false⟩, ⟨7, 0, 1, 255, 0, none, false⟩]⟩]
def regRows_bnd2 : List RegRow := [
  ⟨0x7002014, 4, 4, 1, 1, .lock, [⟨31, 24, 0, 255, 243, none, false⟩, ⟨23, 16, 0, 255, 230, none, false⟩, ⟨15, 8, 0, 255, 64, none, false⟩]⟩,
  ⟨0x7002018, 4, 4, 1, 1, .lock, [⟨31, 16, 0, 65535, 0, none, false⟩, ⟨15, 8, 0, 255, 0, none, false⟩, ⟨7, 0, 0, 255, 0, none, false⟩]⟩,
  ⟨0x700201C, 4, 4, 1, 1, .lock, [⟨31, 16, 0, 65535, 0, none, false⟩, ⟨15, 0, 0, 65535, 0, none, false⟩]⟩,
  ⟨0x7002040, 4, 4, 1, 1, .ro, []⟩,
  ⟨0x7002044, 4, 4, 1, 1, .ro, []⟩,
  ⟨0x7002048, 4, 4, 1, 1, .ro, []⟩,
  ⟨0x700204C, 4, 4, 1, 1, .w1c, []⟩,
  ⟨0x7002050, 4, 4, 1, 1, .ro, []⟩,
  ⟨0x7002054, 4, 4, 1, 1, .ro, []⟩,
  ⟨0x7002058, 4, 4, 1, 1, .cmd, []⟩,
  ⟨0x7040000, 1, 4, 1, 1, .lock, [⟨31, 28, 0, 15, 0, none, false⟩, ⟨27, 24, 0, 11, 15, some 15, false⟩, ⟨23, 20, 0, 11, 15, some 15, false⟩, ⟨19, 16, 0, 11, 15, some 15, false⟩, ⟨14, 8, 0, 127, 0, none, false⟩, ⟨6, 0, 0, 127, 127, none, false⟩]⟩,
  ⟨0x7040004, 1, 4, 1, 1, .lock, [⟨31, 16, 0, 65535, 0, none, false⟩, ⟨15, 0, 0, 65535, 0, none, false⟩]⟩,
  ⟨0x7040008, 1, 4, 1, 1, .lock, [⟨31, 16, 0, 65535, 0, none, false⟩, ⟨15, 8, 0, 255, 0, none, false⟩, ⟨7, 0, 0, 255, 0, none, false⟩]⟩,
  ⟨0x704000C, 1, 4, 1, 1, .lock, [⟨31, 16, 0, 65535, 0, none, false⟩, ⟨15, 0, 0, 65535, 0, none, false⟩]⟩,
  ⟨0x7040010, 1, 4, 1, 1, .lock, [⟨31, 16, 0, 65535, 0, none, false⟩, ⟨15, 0, 0, 65535, 0, none, false⟩]⟩,
  ⟨0x7040014, 1, 4, 1, 1, .lock, [⟨31, 16, 0, 65535, 0, none, false⟩, ⟨15, 0, 0, 65535, 0, none, false⟩]⟩,
  ⟨0x7040018, 1, 4, 1, 1, .lock, [⟨15, 0, 0, 65535, 0, none, false⟩]⟩,
  ⟨0x704001C, 1, 4, 1, 1, .lock, [⟨31, 16, 0, 65535, 0, none, false⟩, ⟨15, 0, 0, 65535, 0, none, false⟩]⟩,
  ⟨0x7040020, 1, 4, 1, 1, .lock, [⟨15, 0, 0, 65535, 0, none, false⟩]⟩,
  ⟨0x7040040, 1, 4, 1, 1, .ro, []⟩,
  ⟨0x7040044, 1, 4, 1, 1, .ro, []⟩,
  ⟨0x7040048, 1, 4, 1, 1, .ro, []⟩,
  ⟨0x704004C, 1, 4, 1, 1, .w1c, []⟩,
  ⟨0x7040050, 1, 4, 1, 1, .cmd, []⟩]
def regRows_bnd3 : List RegRow := [
  ⟨0x7040054, 1, 4, 1, 1, .ro, []⟩]
/-- The registers of the BND block. -/
def regRows_bnd : List RegRow := regRows_bnd0 ++ regRows_bnd1 ++ regRows_bnd2 ++ regRows_bnd3

def regRows_le0 : List RegRow := [
  ⟨0x8000000, 5, 4, 1, 1, .lock, [⟨25, 24, 0, 3, 0, none, false⟩, ⟨16, 16, 0, 1, 0, none, false⟩, ⟨4, 4, 0, 1, 0, none, false⟩, ⟨0, 0, 0, 1, 0, none, false⟩]⟩,
  ⟨0x8000004, 5, 4, 1, 1, .lock, [⟨31, 16, 3125, 25000, 0, none, false⟩, ⟨15, 0, 0, 65535, 500, none, false⟩]⟩,
  ⟨0x8000008, 5, 4, 1, 1, .lock, [⟨15, 0, 0, 65535, 0, none, false⟩]⟩,
  ⟨0x800000C, 5, 4, 1, 1, .lock, [⟨10, 8, 0, 5, 0, none, false⟩, ⟨5, 4, 0, 2, 0, none, false⟩, ⟨1, 0, 0, 2, 0, none, false⟩]⟩,
  ⟨0x8000010, 5, 4, 1, 1, .lock, [⟨31, 16, 0, 32767, 0, none, false⟩, ⟨3, 0, 0, 8, 0, none, false⟩]⟩,
  ⟨0x8000014, 5, 4, 1, 1, .lock, [⟨31, 16, 0, 65535, 0, none, false⟩, ⟨15, 0, 0, 65535, 0, none, false⟩]⟩,
  ⟨0x8000018, 5, 4, 1, 1, .lock, [⟨31, 16, 0, 65535, 0, none, false⟩, ⟨15, 0, 0, 65535, 0, none, false⟩]⟩,
  ⟨0x800001C, 5, 4, 1, 1, .lock, [⟨31, 24, 1, 255, 0, none, false⟩, ⟨15, 0, 0, 65535, 0, none, false⟩]⟩,
  ⟨0x8000020, 5, 4, 1, 1, .lock, [⟨31, 16, 0, 32767, 0, none, false⟩, ⟨15, 12, 0, 8, 0, none, false⟩, ⟨11, 0, 0, 4095, 0, none, false⟩]⟩,
  ⟨0x8000024, 5, 4, 1, 1, .lock, [⟨31, 16, 0, 65535, 0, none, false⟩, ⟨1, 1, 0, 1, 0, none, false⟩, ⟨0, 0, 0, 1, 0, none, false⟩]⟩,
  ⟨0x8000028, 5, 4, 1, 1, .lock, [⟨31, 16, 0, 65535, 0, none, false⟩]⟩,
  ⟨0x8000100, 5, 4, 64, 1, .desc, [⟨31, 0, 0, 4294967295, 0, none, false⟩]⟩,
  ⟨0x8000300, 5, 4, 1, 1, .ro, []⟩,
  ⟨0x8000304, 5, 4, 1, 1, .w1c, []⟩,
  ⟨0x8000308, 5, 4, 1, 1, .w1c, []⟩,
  ⟨0x800030C, 5, 4, 1, 1, .cmd, []⟩,
  ⟨0x8000310, 5, 4, 1, 1, .ro, []⟩,
  ⟨0x8000314, 5, 4, 1, 1, .ro, []⟩,
  ⟨0x8000318, 5, 4, 1, 1, .ro, []⟩,
  ⟨0x800031C, 5, 4, 1, 1, .ro, []⟩,
  ⟨0x8000320, 5, 4, 1, 1, .ro, []⟩,
  ⟨0x8000324, 5, 4, 1, 1, .ro, []⟩,
  ⟨0x8000328, 5, 4, 5, 1, .ro, []⟩,
  ⟨0x8000340, 5, 8, 7, 1, .ro, []⟩]
def regRows_le1 : List RegRow := [
  ⟨0x8000344, 5, 8, 7, 1, .ro, []⟩,
  ⟨0x8000380, 5, 4, 1, 1, .ro, []⟩,
  ⟨0x8000384, 5, 4, 1, 1, .ro, []⟩,
  ⟨0x8000388, 5, 4, 1, 1, .ro, []⟩,
  ⟨0x800038C, 5, 4, 1, 1, .ro, []⟩,
  ⟨0x8000390, 5, 4, 1, 1, .ro, []⟩,
  ⟨0x8004000, 5, 4, 2048, 1, .ro, [⟨31, 0, 0, 4294967295, 0, none, true⟩]⟩,
  ⟨0x8006000, 5, 4, 2048, 1, .ro, [⟨31, 0, 0, 4294967295, 0, none, true⟩]⟩,
  ⟨0x8008000, 5, 4, 2048, 1, .ro, [⟨31, 0, 0, 4294967295, 0, none, true⟩]⟩,
  ⟨0x800A000, 5, 4, 2048, 1, .ro, [⟨31, 0, 0, 4294967295, 0, none, true⟩]⟩,
  ⟨0x8000400, 5, 4, 1, 1, .lock, [⟨31, 24, 0, 255, 0, none, false⟩, ⟨8, 8, 0, 1, 0, none, false⟩, ⟨2, 0, 0, 3, 0, none, false⟩]⟩,
  ⟨0x8000404, 5, 4, 1, 1, .lock, [⟨31, 16, 200, 10000, 0, none, false⟩, ⟨15, 8, 2, 32, 4, none, false⟩, ⟨7, 0, 0, 255, 64, none, false⟩]⟩,
  ⟨0x8000408, 5, 4, 1, 1, .lock, [⟨23, 16, 2, 32, 3, none, false⟩, ⟨15, 0, 0, 65535, 655, none, false⟩]⟩,
  ⟨0x800040C, 5, 4, 1, 1, .lock, [⟨31, 16, 0, 65535, 0, none, false⟩, ⟨15, 8, 0, 63, 255, some 255, false⟩, ⟨1, 0, 0, 3, 0, none, false⟩]⟩,
  ⟨0x8000410, 5, 4, 1, 1, .lock, [⟨31, 16, 0, 5000, 0, none, false⟩, ⟨3, 0, 0, 11, 15, some 15, false⟩]⟩,
  ⟨0x8000420, 5, 4, 8, 1, .lock, [⟨31, 24, 0, 255, 0, none, false⟩, ⟨23, 16, 0, 255, 0, none, false⟩, ⟨9, 8, 0, 3, 0, none, false⟩, ⟨7, 0, 0, 63, 255, some 255, false⟩]⟩,
  ⟨0x8000440, 5, 4, 1, 1, .ro, []⟩,
  ⟨0x8000444, 5, 4, 1, 1, .ro, []⟩,
  ⟨0x8000448, 5, 4, 1, 1, .ro, []⟩,
  ⟨0x800044C, 5, 4, 1, 1, .ro, []⟩,
  ⟨0x8000450, 5, 4, 1, 1, .w1c, []⟩,
  ⟨0x8000454, 5, 4, 1, 1, .cmd, []⟩,
  ⟨0x8000458, 5, 4, 1, 1, .ro, []⟩,
  ⟨0x800045C, 5, 4, 1, 1, .ro, []⟩]
def regRows_le2 : List RegRow := [
  ⟨0x8000460, 5, 4, 1, 1, .ro, []⟩,
  ⟨0x8000480, 5, 4, 8, 1, .ro, []⟩]
/-- The registers of the LE block. -/
def regRows_le : List RegRow := regRows_le0 ++ regRows_le1 ++ regRows_le2

def regRows_fp0 : List RegRow := [
  ⟨0x9000000, 10, 4, 1, 1, .lock, [⟨31, 16, 10, 10000, 0, some 0, false⟩, ⟨8, 8, 0, 1, 0, none, false⟩, ⟨5, 4, 0, 3, 0, none, false⟩, ⟨1, 0, 0, 2, 0, none, false⟩]⟩,
  ⟨0x9000004, 10, 4, 1, 1, .ro, []⟩,
  ⟨0x9000008, 10, 4, 1, 1, .ro, []⟩,
  ⟨0x900000C, 10, 4, 1, 1, .ro, []⟩,
  ⟨0x9000010, 10, 4, 1, 1, .ro, []⟩,
  ⟨0x9000014, 10, 4, 1, 1, .ro, []⟩,
  ⟨0x9000018, 10, 4, 1, 1, .ro, []⟩,
  ⟨0x900001C, 10, 4, 1, 1, .ro, []⟩,
  ⟨0x9000020, 10, 4, 1, 1, .ro, []⟩,
  ⟨0x9000024, 10, 4, 1, 1, .lock, [⟨15, 8, 0, 255, 0, none, false⟩, ⟨7, 0, 0, 255, 0, none, false⟩]⟩,
  ⟨0x9000028, 10, 4, 1, 1, .lock, [⟨24, 16, 0, 511, 0, none, false⟩, ⟨8, 0, 0, 511, 0, none, false⟩]⟩,
  ⟨0x900002C, 10, 4, 1, 1, .lock, [⟨31, 16, 0, 65535, 0, none, false⟩, ⟨15, 0, 0, 65535, 0, none, false⟩]⟩,
  ⟨0x9000030, 10, 4, 1, 1, .lock, [⟨31, 0, 1, 1000000, 0, none, false⟩]⟩,
  ⟨0x9000034, 10, 4, 1, 1, .ro, []⟩,
  ⟨0x9000038, 10, 4, 1, 1, .ro, []⟩,
  ⟨0x900003C, 10, 4, 1, 1, .ro, []⟩,
  ⟨0x9000040, 10, 4, 1, 1, .ro, []⟩,
  ⟨0x9000044, 10, 4, 1, 1, .ro, []⟩,
  ⟨0x9000048, 10, 4, 1, 1, .ro, []⟩,
  ⟨0x900004C, 10, 4, 1, 1, .ro, []⟩,
  ⟨0x9000050, 10, 4, 1, 1, .w1c, []⟩,
  ⟨0x9000054, 10, 4, 1, 1, .cmd, []⟩,
  ⟨0x9000060, 10, 4, 1, 1, .rw, []⟩,
  ⟨0x9000064, 10, 4, 1, 1, .ro, []⟩]
def regRows_fp1 : List RegRow := [
  ⟨0x9000068, 10, 4, 1, 1, .ro, []⟩]
/-- The registers of the FP block. -/
def regRows_fp : List RegRow := regRows_fp0 ++ regRows_fp1

def regRows_si0 : List RegRow := [
  ⟨0xA000000, 1, 4, 1, 1, .ro, []⟩,
  ⟨0xA000004, 1, 4, 1, 1, .lock, [⟨27, 24, 0, 15, 0, none, false⟩, ⟨4, 0, 1, 20, 10, none, false⟩]⟩,
  ⟨0xA000008, 1, 4, 1, 1, .lock, [⟨31, 0, 0, 4294967295, 0, none, false⟩]⟩,
  ⟨0xA00000C, 1, 4, 1, 1, .ro, []⟩,
  ⟨0xA000010, 1, 4, 1, 1, .lock, [⟨7, 4, 0, 15, 0, none, false⟩, ⟨15, 12, 0, 15, 0, none, false⟩, ⟨23, 20, 0, 15, 0, none, false⟩, ⟨31, 28, 0, 15, 0, none, false⟩, ⟨3, 3, 0, 1, 0, none, false⟩, ⟨11, 11, 0, 1, 0, none, false⟩, ⟨19, 19, 0, 1, 0, none, false⟩, ⟨27, 27, 0, 1, 0, none, false⟩, ⟨2, 0, 0, 4, 0, none, false⟩, ⟨10, 8, 0, 4, 0, none, false⟩, ⟨18, 16, 0, 4, 0, none, false⟩, ⟨26, 24, 0, 4, 0, none, false⟩]⟩,
  ⟨0xA000014, 1, 4, 1, 1, .lock, [⟨9, 0, 10, 1000, 100, none, false⟩]⟩,
  ⟨0xA000018, 1, 4, 1, 1, .ro, []⟩,
  ⟨0xA00001C, 1, 4, 1, 1, .lock, [⟨31, 31, 0, 1, 0, none, false⟩, ⟨30, 30, 0, 1, 0, none, false⟩, ⟨29, 24, 0, 63, 63, none, false⟩, ⟨23, 20, 1, 15, 4, none, false⟩, ⟨19, 16, 1, 15, 4, none, false⟩, ⟨15, 8, 1, 250, 15, none, false⟩, ⟨7, 4, 1, 15, 4, none, false⟩, ⟨3, 0, 1, 15, 2, none, false⟩]⟩,
  ⟨0xA000020, 1, 4, 1, 1, .lock, [⟨31, 16, 0, 65535, 0, none, false⟩, ⟨15, 0, 0, 65535, 0, none, false⟩]⟩,
  ⟨0xA000024, 1, 4, 1, 1, .lock, [⟨26, 16, 0, 2047, 0, none, false⟩, ⟨10, 0, 0, 2047, 0, none, false⟩]⟩,
  ⟨0xA000028, 1, 4, 1, 1, .ro, []⟩,
  ⟨0xA00002C, 1, 4, 1, 1, .ro, []⟩,
  ⟨0xA000030, 1, 4, 1, 1, .ro, []⟩,
  ⟨0xA000034, 1, 4, 1, 1, .ro, []⟩,
  ⟨0xA000038, 1, 4, 1, 1, .ro, []⟩,
  ⟨0xA00003C, 1, 4, 1, 1, .ro, []⟩,
  ⟨0xA000040, 1, 4, 1, 1, .ro, []⟩,
  ⟨0xA000044, 1, 4, 1, 1, .ro, []⟩,
  ⟨0xA000048, 1, 4, 1, 1, .ro, []⟩,
  ⟨0xA000100, 1, 64, 4, 1, .lock, [⟨23, 16, 0, 255, 0, none, false⟩, ⟨15, 15, 0, 1, 0, none, false⟩, ⟨14, 14, 0, 1, 1, none, false⟩, ⟨13, 13, 0, 1, 0, none, false⟩, ⟨12, 12, 0, 1, 0, none, false⟩, ⟨11, 11, 0, 1, 0, none, false⟩, ⟨10, 8, 0, 5, 0, none, false⟩, ⟨6, 6, 0, 1, 0, none, false⟩, ⟨5, 5, 0, 1, 0, none, false⟩, ⟨4, 4, 0, 1, 0, none, false⟩, ⟨3, 3, 0, 1, 0, none, false⟩, ⟨2, 2, 0, 1, 0, none, false⟩, ⟨1, 1, 0, 1, 0, none, false⟩, ⟨0, 0, 0, 1, 0, none, false⟩]⟩,
  ⟨0xA000104, 1, 64, 4, 1, .lock, [⟨31, 16, 1, 6000, 0, none, false⟩, ⟨15, 8, 0, 255, 0, none, false⟩, ⟨7, 0, 0, 50, 0, none, false⟩]⟩,
  ⟨0xA000108, 1, 64, 4, 1, .lock, [⟨31, 16, 0, 65535, 0, none, false⟩, ⟨15, 0, 0, 65535, 0, none, false⟩]⟩,
  ⟨0xA00010C, 1, 64, 4, 1, .lock, [⟨31, 16, 0, 65535, 0, none, false⟩, ⟨15, 0, 0, 65535, 0, none, false⟩]⟩,
  ⟨0xA000110, 1, 64, 4, 1, .lock, [⟨31, 16, 0, 65535, 0, none, false⟩, ⟨15, 0, 0, 65535, 0, none, false⟩]⟩]
def regRows_si1 : List RegRow := [
  ⟨0xA000114, 1, 64, 4, 1, .lock, [⟨31, 16, 0, 65535, 0, none, false⟩, ⟨15, 8, 1, 255, 0, none, false⟩, ⟨7, 0, 0, 255, 0, none, false⟩]⟩,
  ⟨0xA000118, 1, 64, 4, 1, .lock, [⟨7, 0, 1, 255, 0, none, false⟩]⟩,
  ⟨0xA00011C, 1, 64, 4, 1, .ro, []⟩,
  ⟨0xA000120, 1, 64, 4, 1, .ro, []⟩,
  ⟨0xA000124, 1, 64, 4, 1, .ro, []⟩,
  ⟨0xA000128, 1, 64, 4, 1, .ro, []⟩]
/-- The registers of the SI block. -/
def regRows_si : List RegRow := regRows_si0 ++ regRows_si1

def regRows_flt0 : List RegRow := [
  ⟨0xB000000, 1, 4, 1, 1, .ro, []⟩,
  ⟨0xB000004, 1, 4, 1, 1, .lock, [⟨26, 16, 0, 2047, 0, none, false⟩, ⟨7, 0, 0, 255, 0, none, false⟩]⟩,
  ⟨0xB000008, 1, 4, 1, 1, .ro, []⟩,
  ⟨0xB00000C, 1, 4, 1, 1, .ro, []⟩,
  ⟨0xB000010, 1, 4, 1, 1, .ro, []⟩,
  ⟨0xB000014, 1, 4, 1, 1, .ro, []⟩,
  ⟨0xB000018, 1, 4, 1, 1, .ro, []⟩,
  ⟨0xB00001C, 1, 4, 1, 1, .ro, []⟩,
  ⟨0xB000020, 1, 4, 1, 1, .ro, []⟩,
  ⟨0xB000024, 1, 4, 4, 1, .ro, []⟩,
  ⟨0xB000040, 1, 4, 1, 1, .ro, []⟩,
  ⟨0xB000044, 1, 4, 1, 1, .w1c, []⟩,
  ⟨0xB000048, 1, 4, 1, 1, .cmd, []⟩,
  ⟨0xB000050, 1, 4, 1, 1, .ro, []⟩,
  ⟨0xB000054, 1, 4, 1, 1, .ro, []⟩]
/-- The registers of the FLT block. -/
def regRows_flt : List RegRow := regRows_flt0

def regRows_can0 : List RegRow := [
  ⟨0xC000000, 4, 4, 1, 1, .lock, [⟨31, 24, 1, 255, 10, none, false⟩, ⟨7, 7, 0, 1, 0, none, false⟩, ⟨6, 6, 0, 1, 0, none, false⟩, ⟨5, 5, 0, 1, 0, none, false⟩, ⟨4, 4, 0, 1, 1, none, false⟩, ⟨3, 3, 0, 1, 0, none, false⟩, ⟨2, 2, 0, 1, 0, none, false⟩, ⟨0, 0, 0, 1, 0, none, false⟩]⟩,
  ⟨0xC000004, 4, 4, 1, 1, .lock, [⟨31, 25, 0, 127, 0, none, false⟩, ⟨24, 16, 0, 511, 0, none, false⟩, ⟨15, 9, 0, 127, 0, none, false⟩, ⟨8, 0, 0, 511, 0, none, false⟩]⟩,
  ⟨0xC000008, 4, 4, 1, 1, .lock, [⟨31, 28, 0, 15, 0, none, false⟩, ⟨27, 23, 0, 31, 0, none, false⟩, ⟨22, 19, 0, 15, 0, none, false⟩, ⟨18, 14, 0, 31, 0, none, false⟩, ⟨13, 13, 0, 1, 0, none, false⟩, ⟨12, 6, 0, 127, 0, none, false⟩]⟩,
  ⟨0xC00000C, 4, 4, 1, 1, .ro, []⟩,
  ⟨0xC000010, 4, 4, 1, 1, .ro, []⟩,
  ⟨0xC000014, 4, 4, 1, 1, .w1c, []⟩,
  ⟨0xC000018, 4, 4, 1, 1, .cmd, []⟩,
  ⟨0xC000020, 4, 4, 4, 1, .ro, []⟩,
  ⟨0xC000030, 4, 4, 4, 1, .ro, []⟩,
  ⟨0xC000040, 4, 4, 1, 1, .ro, []⟩,
  ⟨0xC000044, 4, 4, 1, 1, .ro, []⟩,
  ⟨0xC000048, 4, 4, 1, 1, .ro, []⟩,
  ⟨0xC00004C, 4, 4, 1, 1, .ro, []⟩,
  ⟨0xC000050, 4, 4, 1, 1, .ro, []⟩,
  ⟨0xC000054, 4, 4, 1, 1, .ro, []⟩,
  ⟨0xC000058, 4, 4, 1, 1, .ro, []⟩,
  ⟨0xC00005C, 4, 4, 1, 1, .ro, []⟩,
  ⟨0xC000060, 4, 4, 1, 1, .ro, []⟩,
  ⟨0xC000080, 4, 4, 1, 1, .lock, [⟨31, 21, 0, 2047, 0, none, false⟩, ⟨20, 18, 0, 7, 0, none, false⟩, ⟨17, 17, 0, 1, 0, none, false⟩, ⟨15, 8, 1, 255, 0, none, false⟩, ⟨2, 0, 0, 6, 0, none, false⟩]⟩,
  ⟨0xC000084, 4, 4, 1, 1, .lock, [⟨31, 16, 100, 65535, 0, none, false⟩, ⟨15, 0, 8, 8000, 0, none, false⟩]⟩,
  ⟨0xC000088, 4, 4, 1, 1, .ro, []⟩,
  ⟨0xC00008C, 4, 4, 1, 1, .ro, []⟩,
  ⟨0xC000090, 4, 4, 1, 1, .lock, [⟨31, 21, 0, 2047, 0, none, false⟩, ⟨15, 8, 1, 255, 0, none, false⟩, ⟨7, 4, 0, 15, 0, none, false⟩, ⟨0, 0, 0, 1, 0, none, false⟩, ⟨1, 1, 0, 1, 0, none, false⟩]⟩,
  ⟨0xC000094, 4, 4, 1, 1, .lock, [⟨7, 6, 0, 3, 0, none, false⟩, ⟨5, 2, 0, 15, 0, none, false⟩, ⟨1, 1, 0, 1, 0, none, false⟩, ⟨0, 0, 0, 1, 0, none, false⟩]⟩]
def regRows_can1 : List RegRow := [
  ⟨0xC000098, 4, 4, 1, 1, .lock, [⟨28, 0, 0, 536870911, 0, none, false⟩]⟩,
  ⟨0xC00009C, 4, 4, 1, 1, .lock, [⟨28, 0, 0, 536870911, 0, none, false⟩]⟩,
  ⟨0xC0000A0, 4, 4, 2, 1, .lock, [⟨31, 0, 0, 4294967295, 0, none, false⟩]⟩,
  ⟨0xC000800, 4, 4, 512, 1, .lock, [⟨31, 0, 0, 4294967295, 0, none, false⟩]⟩,
  ⟨0xC001000, 4, 128, 128, 1, .lock, [⟨31, 31, 0, 1, 0, none, false⟩, ⟨30, 30, 0, 1, 0, none, false⟩, ⟨29, 29, 0, 1, 0, none, false⟩, ⟨28, 28, 0, 1, 0, none, false⟩, ⟨27, 27, 0, 1, 0, none, false⟩, ⟨26, 26, 0, 1, 0, none, false⟩, ⟨25, 25, 0, 1, 0, none, false⟩, ⟨24, 24, 0, 1, 0, none, false⟩, ⟨3, 0, 0, 15, 0, none, true⟩]⟩,
  ⟨0xC001004, 4, 128, 128, 1, .lock, [⟨28, 0, 0, 536870911, 0, none, false⟩]⟩,
  ⟨0xC001008, 4, 128, 128, 1, .lock, [⟨28, 0, 0, 536870911, 0, none, false⟩]⟩,
  ⟨0xC00100C, 4, 128, 128, 1, .lock, [⟨31, 16, 0, 65535, 0, none, false⟩]⟩,
  ⟨0xC001010, 4, 128, 128, 1, .mix, []⟩,
  ⟨0xC001014, 4, 128, 128, 1, .ro, []⟩,
  ⟨0xC001018, 4, 128, 128, 1, .ro, []⟩,
  ⟨0xC00101C, 4, 128, 128, 1, .ro, []⟩,
  ⟨0xC001020, 4, 128, 128, 1, .ro, []⟩,
  ⟨0xC001040, 4, 128, 128, 16, .mbd, []⟩]
/-- The registers of the CAN block. -/
def regRows_can : List RegRow := regRows_can0 ++ regRows_can1

def regRows_aux0 : List RegRow := [
  ⟨0xD000000, 12, 4, 1, 1, .lock, [⟨31, 24, 1, 255, 0, none, false⟩, ⟨23, 16, 0, 255, 0, none, false⟩, ⟨15, 8, 0, 255, 0, none, false⟩, ⟨1, 0, 0, 2, 0, none, false⟩]⟩,
  ⟨0xD000004, 12, 4, 1, 1, .ro, []⟩,
  ⟨0xD000008, 12, 4, 1, 1, .ro, []⟩,
  ⟨0xD00000C, 12, 4, 1, 1, .ro, []⟩,
  ⟨0xD000010, 12, 4, 1, 1, .ro, []⟩,
  ⟨0xD000014, 12, 4, 1, 1, .w1c, []⟩,
  ⟨0xD000018, 12, 4, 1, 1, .ro, []⟩,
  ⟨0xD0C0000, 4, 4, 1, 1, .lock, [⟨15, 8, 1, 255, 20, none, false⟩, ⟨7, 0, 1, 60, 60, none, false⟩]⟩,
  ⟨0xD0C0004, 4, 4, 1, 1, .ro, []⟩,
  ⟨0xD100000, 1, 4, 1, 1, .lock, [⟨19, 16, 1, 15, 3, none, false⟩, ⟨9, 0, 1, 1000, 100, none, false⟩]⟩,
  ⟨0xD100004, 1, 4, 1, 1, .cmd, []⟩,
  ⟨0xD100008, 1, 4, 1, 1, .ro, []⟩]
/-- The registers of the AUX block. -/
def regRows_aux : List RegRow := regRows_aux0

def regRows_pch0 : List RegRow := [
  ⟨0xE000000, 1, 4, 1, 1, .ro, []⟩,
  ⟨0xE000004, 1, 4, 1, 1, .ro, []⟩,
  ⟨0xE000008, 1, 4, 1, 1, .ro, []⟩,
  ⟨0xE00000C, 1, 4, 1, 1, .ro, []⟩,
  ⟨0xE000010, 1, 4, 1, 1, .ro, []⟩,
  ⟨0xE000014, 1, 4, 1, 1, .ro, []⟩,
  ⟨0xE000018, 1, 4, 1, 1, .ro, []⟩,
  ⟨0xE00001C, 1, 4, 1, 1, .ro, []⟩,
  ⟨0xE000020, 1, 4, 1, 1, .ro, []⟩,
  ⟨0xE000024, 1, 4, 1, 1, .ro, []⟩,
  ⟨0xE000028, 1, 4, 1, 1, .ro, []⟩,
  ⟨0xE00002C, 1, 4, 1, 1, .ro, []⟩,
  ⟨0xE000030, 1, 4, 1, 1, .ro, []⟩,
  ⟨0xE000034, 1, 4, 1, 1, .w1c, []⟩,
  ⟨0xE000038, 1, 4, 1, 1, .cmd, []⟩,
  ⟨0xE00003C, 1, 4, 1, 1, .ro, []⟩,
  ⟨0xE000040, 1, 4, 1, 1, .ro, []⟩,
  ⟨0xE000044, 1, 4, 1, 1, .ro, []⟩,
  ⟨0xE001000, 1, 4, 2048, 1, .lock, [⟨31, 0, 0, 4294967295, 0, none, false⟩]⟩,
  ⟨0xE004000, 1, 4, 256, 1, .ro, []⟩]
/-- The registers of the PCH block. -/
def regRows_pch : List RegRow := regRows_pch0

def regRows_pwr0 : List RegRow := [
  ⟨0xF000000, 1, 4, 1, 1, .ro, []⟩,
  ⟨0xF000004, 1, 4, 1, 1, .ro, []⟩,
  ⟨0xF000008, 1, 4, 1, 1, .lock, [⟨3, 3, 0, 1, 0, none, false⟩, ⟨2, 2, 0, 1, 1, none, false⟩, ⟨1, 1, 0, 1, 0, none, false⟩, ⟨0, 0, 0, 1, 0, none, false⟩]⟩,
  ⟨0xF00000C, 1, 4, 1, 1, .cmd, []⟩,
  ⟨0xF000010, 1, 4, 1, 1, .ro, []⟩,
  ⟨0xF000014, 1, 4, 1, 1, .w1c, []⟩,
  ⟨0xF000018, 1, 4, 1, 1, .ro, []⟩,
  ⟨0xF00001C, 1, 4, 1, 1, .ro, []⟩,
  ⟨0xF000020, 1, 4, 5, 1, .ro, []⟩,
  ⟨0xF000040, 1, 4, 5, 1, .ro, []⟩,
  ⟨0xF010000, 1, 4, 1, 1, .ro, []⟩,
  ⟨0xF010004, 1, 4, 1, 1, .ro, []⟩,
  ⟨0xF010008, 1, 4, 1, 1, .ro, []⟩,
  ⟨0xF01000C, 1, 4, 1, 1, .ro, []⟩,
  ⟨0xF010010, 1, 4, 1, 1, .ro, []⟩,
  ⟨0xF010014, 1, 4, 1, 1, .lock, [⟨0, 0, 0, 1, 1, none, false⟩]⟩,
  ⟨0xF010018, 1, 4, 1, 1, .w1c, []⟩,
  ⟨0xF01001C, 1, 4, 1, 1, .cmd, []⟩,
  ⟨0xF010020, 1, 4, 1, 1, .ro, []⟩,
  ⟨0xF010100, 1, 4, 16, 1, .ro, []⟩,
  ⟨0xF010140, 1, 4, 16, 1, .ro, []⟩]
/-- The registers of the PWR block. -/
def regRows_pwr : List RegRow := regRows_pwr0

def regRows_hk0 : List RegRow := [
  ⟨0x10000000, 1, 4, 1, 1, .ro, []⟩,
  ⟨0x10000004, 1, 4, 1, 1, .lock, [⟨31, 16, 0, 65535, 1840, none, false⟩, ⟨15, 8, 0, 255, 32, none, false⟩, ⟨3, 0, 0, 15, 4, none, false⟩]⟩,
  ⟨0x10000008, 1, 4, 1, 1, .ro, []⟩,
  ⟨0x1000000C, 1, 4, 1, 1, .ro, []⟩,
  ⟨0x10000010, 1, 4, 1, 1, .ro, []⟩,
  ⟨0x10000014, 1, 4, 1, 1, .w1c, []⟩,
  ⟨0x10000018, 1, 4, 1, 1, .cmd, []⟩,
  ⟨0x1000001C, 1, 4, 1, 1, .ro, []⟩,
  ⟨0x10000020, 1, 4, 1, 1, .ro, []⟩,
  ⟨0x10000040, 1, 4, 4, 1, .ro, []⟩,
  ⟨0x10000100, 1, 16, 16, 1, .lock, [⟨19, 16, 0, 15, 0, none, false⟩, ⟨8, 8, 0, 1, 1, none, false⟩, ⟨4, 4, 0, 1, 0, none, false⟩, ⟨1, 0, 0, 2, 0, none, false⟩]⟩,
  ⟨0x10000104, 1, 16, 16, 1, .lock, [⟨31, 16, 0, 65535, 0, none, false⟩, ⟨15, 0, 0, 65535, 0, none, false⟩]⟩,
  ⟨0x10000108, 1, 16, 16, 1, .lock, [⟨31, 16, 0, 65535, 0, none, false⟩, ⟨15, 8, 1, 255, 32, none, false⟩, ⟨7, 0, 1, 255, 32, none, false⟩]⟩,
  ⟨0x1000010C, 1, 16, 16, 1, .ro, []⟩,
  ⟨0x10000200, 1, 4, 8, 1, .ro, []⟩]
/-- The registers of the HK block. -/
def regRows_hk : List RegRow := regRows_hk0

def regRows_mgt0 : List RegRow := [
  ⟨0x11000000, 1, 4, 1, 1, .ro, []⟩,
  ⟨0x11000004, 1, 4, 1, 1, .lock, [⟨31, 21, 0, 2047, 0, none, false⟩, ⟨20, 10, 0, 2047, 0, none, false⟩, ⟨2, 2, 0, 1, 1, none, false⟩, ⟨1, 1, 0, 1, 1, none, false⟩]⟩,
  ⟨0x11000008, 1, 4, 1, 1, .ro, []⟩,
  ⟨0x1100000C, 1, 4, 1, 1, .ro, []⟩,
  ⟨0x11000010, 1, 4, 1, 1, .ro, []⟩,
  ⟨0x11000014, 1, 4, 1, 1, .ro, []⟩,
  ⟨0x11000018, 1, 4, 1, 1, .ro, []⟩,
  ⟨0x1100001C, 1, 4, 1, 1, .ro, []⟩,
  ⟨0x11000020, 1, 4, 1, 1, .ro, []⟩,
  ⟨0x11000024, 1, 4, 1, 1, .ro, []⟩,
  ⟨0x11000028, 1, 4, 1, 1, .ro, []⟩,
  ⟨0x1100002C, 1, 4, 1, 1, .ro, []⟩,
  ⟨0x11000030, 1, 4, 1, 1, .ro, []⟩,
  ⟨0x11000034, 1, 4, 1, 1, .ro, []⟩,
  ⟨0x11000038, 1, 4, 1, 1, .w1c, []⟩,
  ⟨0x1100003C, 1, 4, 1, 1, .cmd, []⟩]
/-- The registers of the MGT block. -/
def regRows_mgt : List RegRow := regRows_mgt0

/-- Every register of R492, by block number (bits 31:24 of its address). -/
def regRowsOf (blk : Nat) : List RegRow :=
  match blk with
  | 0x1 => regRows_hal
  | 0x2 => regRows_hq
  | 0x3 => regRows_sns
  | 0x4 => regRows_pos
  | 0x5 => regRows_edg
  | 0x6 => regRows_gd
  | 0x7 => regRows_bnd
  | 0x8 => regRows_le
  | 0x9 => regRows_fp
  | 0xA => regRows_si
  | 0xB => regRows_flt
  | 0xC => regRows_can
  | 0xD => regRows_aux
  | 0xE => regRows_pch
  | 0xF => regRows_pwr
  | 0x10 => regRows_hk
  | 0x11 => regRows_mgt
  | _ => []

end Sys2Proof.Machine
end

