-- ==== Sys2Proof/Machine/Fields.lean ====
section
/-! DEFINITION. The loadable sections of an image (R418–R420, R429) as they build the candidate configuration: defaults, field entries, table
contents, queue descriptors and the set-point map; check 10 of R424 on each. -/
namespace Sys2Proof.Machine

/-! ### The register table by address -/

/-- The number of the copy and word of row `r` that address `a` names, if any. -/
def RegRow.has (r : RegRow) (a : Nat) : Bool :=
  decide (r.base ≤ a) &&
    (let d := a - r.base
     decide (d / 65536 < r.n ∧ d % 65536 / r.stride < r.cnt ∧ d % 65536 % r.stride < 4 * r.words) && d % 4 == 0)

/-- The row of a register address. -/
def rowAt (a : Nat) : Option RegRow := (regRowsOf (a / 16777216)).find? (fun r => r.has a)

/-- The fields of the descriptor words (R254): `EN`, `LAW`, `APPLY`, `POL`, `SRC`; the gains (R243); the limits; set-point or thresholds. -/
def descFields (w : Nat) : List ImgField :=
  match w with
  | 0 => [⟨31, 31, 0, 1, 0, none, false⟩, ⟨30, 29, 0, 1, 0, none, false⟩, ⟨28, 27, 0, 2, 0, none, false⟩, ⟨26, 26, 0, 1, 0, none, false⟩,
      ⟨23, 16, 0, 127, 0, none, false⟩]
  | 5 => [⟨31, 16, 0, 65535, 0, none, false⟩, ⟨15, 0, 0, 65535, 0, none, false⟩]
  | 6 => [⟨31, 16, 0, 65535, 0, none, true⟩, ⟨15, 0, 0, 65535, 0, none, true⟩]
  | 7 => []
  | _ => [⟨31, 16, 0, 32767, 0, none, true⟩, ⟨3, 0, 0, 8, 0, none, true⟩]

/-- The fields of the trigger words (R394). -/
def trigFields (w : Nat) : List ImgField :=
  if w = 0 then [⟨31, 16, 0, 65535, 0, none, false⟩]
  else [⟨31, 31, 0, 1, 0, none, false⟩, ⟨30, 28, 0, 2, 0, none, false⟩, ⟨26, 24, 0, 7, 0, none, false⟩, ⟨21, 16, 0, 63, 0, none, false⟩,
    ⟨6, 0, 0, 127, 0, none, false⟩]

/-- The fields of the register at address `a` of row `r` that the image sets. -/
def RegRow.fieldsAt (r : RegRow) (a : Nat) : List ImgField :=
  if r.acc = .desc then descFields (a / 4 % 8)
  else if r.base = rCAN_TRIG 0 0 then trigFields (a / 4 % 2)
  else r.img

/-- The addresses of a row. -/
def RegRow.addrs (r : RegRow) : List Nat :=
  (List.range r.n).flatMap (fun i => (List.range r.cnt).flatMap (fun c => (List.range r.words).map (fun w => r.base + i * 65536 + c * r.stride + 4 * w)))

/-- The rows with fields that the image sets. -/
def imgRows : List RegRow := (List.range 18).flatMap (fun b => (regRowsOf b).filter (fun r => !r.img.isEmpty))

/-- The mask of a field. -/
def ImgField.mask (f : ImgField) : Nat := 2 ^ (f.hi + 1) - 2 ^ f.lo

/-- R419: every field at its default. -/
def State.fieldDefaults (s : State) : State :=
  s.forEach (fun s r => s.forEach (fun s f => if f.df = 0 then s else s.forEach (fun s a => s.setF ⟨a, f.hi, f.lo⟩ f.df) r.addrs) r.img) imgRows

/-! ### Sections cut into entries -/

/-- A list in pieces of `k`, at most `fuel` of them, the last one shorter if the length is no multiple of `k`. -/
def chunks (k : Nat) : Nat → List Nat → List (List Nat)
  | 0, _ => []
  | n + 1, l => if l.isEmpty then [] else l.take k :: chunks k n (l.drop k)

/-- A configuration under construction: the state with the fields set so far, the bits that entries have set by address, the first refusal. -/
structure Build where
  s : State
  cov : Sparse Nat
  bad : Option (Nat × Nat)
deriving DecidableEq, Repr

/-- `f` on each entry with its number until one refuses. -/
def Build.run (f : Build → Nat → List Nat → Build) : Build → Nat → List (List Nat) → Build
  | b, _, [] => b
  | b, i, e :: t => if b.bad.isSome then b else (f b i e).run f (i + 1) t

/-- The next part, unless an entry has been refused. -/
def Build.andThen (b : Build) (f : Build → Build) : Build := if b.bad.isSome then b else f b

/-- R418: the mask covers whole fields of a register and nothing else, and the mark is that of each field covered. -/
def maskOk (fs : List ImgField) (mask mark : Nat) : Bool :=
  fs.all (fun f => Nat.land mask f.mask == 0 || (Nat.land mask f.mask == f.mask && f.runtime == (mark == 1)))
    && fs.foldl (fun m f => if Nat.land mask f.mask = 0 then m else m - f.mask) mask == 0

/-- R418: one REG entry. -/
def Build.regEntry (b : Build) (i : Nat) (e : List Nat) : Build :=
  let a := leAt e 0 4
  let mask := leAt e 4 4
  let v := leAt e 8 4
  let mark := leAt e 12 1
  let fs := match rowAt a with
    | some r => r.fieldsAt a
    | none => []
  let seen := b.cov.at 0 a
  if e.length = 16 ∧ fs ≠ [] ∧ maskOk fs mask mark ∧ Nat.land v mask = v ∧ Nat.land mask seen = 0 ∧ mark ≤ 1 ∧ zeros e 13 16 then
    { b with s := b.s.wrN a (b.s.rdN a - Nat.land (b.s.rdN a) mask + v), cov := b.cov.put 0 a (seen + mask) }
  else { b with bad := some (a, i) }

/-- The tables a BLOCK run may lie in (R420), by address and length. -/
def blockTables : List (Nat × Nat) :=
  (List.range 5).flatMap (fun e => [(rLE_TAB_FRIC_A e 0, 8192), (rLE_TAB_FRIC_B e 0, 8192), (rLE_TAB_COG_A e 0, 8192), (rLE_TAB_COG_B e 0, 8192)])
    ++ (List.range 4).flatMap (fun c => [(rBND_MTPA c 0, 260), (rBND_PTAB c 0, 1152), (rCAN_TRIG c 0, 2048)])

/-- R15: the bits of the byte at `a` of a table that are not reserved: bit 6 of a prediction candidate (R201), the gaps of a CAN trigger
(R394). -/
def tableMask (a : Nat) : Nat :=
  if (List.range 4).any (fun c => rBND_PTAB c 0 ≤ a && a < rBND_PTAB c 0 + 1152) then 0xBF
  else if (List.range 4).any (fun c => rCAN_TRIG c 0 ≤ a && a < rCAN_TRIG c 0 + 2048) then [0, 0, 0xFF, 0xFF, 0x7F, 0, 0x3F, 0xF7].getD (a % 8) 0
  else 0xFF

/-- Bytes written from address `a`; reserved bits stay 0. -/
def State.putTable (s : State) (a : Nat) : List Nat → State
  | [] => s
  | x :: t => (s.setF ⟨a / 4 * 4, a % 4 * 8 + 7, a % 4 * 8⟩ (Nat.land x (tableMask a))).putTable (a + 1) t

/-- R420: the runs of a BLOCK section, which stands at key address `at`; at most `fuel` of them. -/
def Build.block (b : Build) : Nat → Nat → Nat → List Nat → Build
  | 0, _, _, _ => b
  | n + 1, i, place, l =>
    if l.isEmpty then b
    else
      let a := leAt l 0 4
      let len := leAt l 4 4
      let padded := (len + 3) / 4 * 4
      if l.length < 8 + padded ∨ ¬ (blockTables.any (fun t => decide (t.1 ≤ a ∧ a + len ≤ t.1 + t.2))) then { b with bad := some (place, i) }
      else ({ b with s := b.s.putTable a ((l.drop 8).take len) } : Build).block n (i + 1) (place + 8 + padded) (l.drop (8 + padded))

/-- R420: a descriptor entry of the QUEUE section. -/
def Build.queueEntry (place : Nat) (b : Build) (i : Nat) (e : List Nat) : Build :=
  let q := leAt e 0 2
  let x := leAt e 2 1
  let own := x % 16
  if q < 0x8000 ∧ x / 16 % 4 = 0 ∧ (own ≤ 9 ∨ own = 15) ∧ leAt e 3 1 = 0 ∧ zeros e 6 8 ∧ b.cov.at 0 q = 0 ∧ ¬ (bit x 7 ∧ b.s.neverEnabled q) then
    let d : QDesc := { QDesc.init with enable := bit x 7, genCheck := bit x 6, owner := own, quota := leAt e 4 2 }
    { b with s := { b.s with hq := { b.s.hq with queues := b.s.hq.queues.put QDesc.init q d } }, cov := b.cov.put 0 q 1 }
  else { b with bad := some (place + 4 + 8 * i, i) }

/-- R420: a selector entry. -/
def Build.selEntry (place : Nat) (b : Build) (i : Nat) (e : List Nat) : Build :=
  let k := leAt e 0 2
  let q := leAt e 2 2
  if e.length = 4 ∧ 2 ≤ k ∧ k ≤ 511 ∧ q < 0x8000 then
    { b with s := { b.s with hq := { b.s.hq with xmap := b.s.hq.xmap.put 0 k (q + 1) } } }
  else { b with bad := some (place + 4 * i, i) }

/-- R420: the QUEUE section at key address `place`. -/
def Build.queues (b : Build) (place : Nat) (l : List Nat) : Build :=
  let c := leAt l 0 4
  if l.length < 4 + 8 * c then { b with bad := some (place, 0) }
  else
    let b := ({ b with cov := [] } : Build).run (Build.queueEntry place) 0 (chunks 8 c ((l.drop 4).take (8 * c)))
    b.run (Build.selEntry (place + 4 + 8 * c)) 0 (chunks 4 l.length (l.drop (4 + 8 * c)))

/-! ### The set-point map (R429) -/

/-- The opcodes that a queue lists, whatever the payload (R68, R511). -/
def listsOp (q op : Nat) : Bool :=
  let k := q % 16
  let upTo := fun n => decide (0x10 ≤ op ∧ op ≤ n)
  if 0x8000 ≤ q then true
  else if 0x1000 ≤ q then op == 0 || decide (0x10 ≤ op)
  else if op = 0 then true
  else if 0x140 ≤ q ∧ q < 0x4C0 then k == 0 && upTo 0x11
  else if 0x4C0 ≤ q ∧ q < 0x540 then k == 0 && upTo 0x12
  else if 0x540 ≤ q ∧ q < 0x6C0 then k == 0 && upTo 0x11
  else if 0x6C0 ≤ q ∧ q < 0x840 then (k == 0 || k == 8) && upTo 0x10
  else if 0x840 ≤ q ∧ q < 0x880 then (k == 0 && upTo 0x13) || (k == 1 && upTo 0x10) || (k == 2 && upTo 0x11)
  else if 0x880 ≤ q ∧ q < 0x8D0 then (k == 0 && upTo 0x18) || (k == 2 && upTo 0x11) || ((k == 1 || k == 3 || k == 4 || k == 5) && upTo 0x10)
  else if 0x970 ≤ q ∧ q < 0x9B0 then k == 0 && upTo 0x12
  else if 0x9F0 ≤ q ∧ q < 0xB30 then k == 0 && upTo 0x10
  else false

/-- The fields of map entry `e`, read from its words as the module holds them (`PCH_SPMAP`). -/
def State.spN (s : State) (e k n : Nat) : Nat := leAt (bytesOf 4 (s.rdN (rPCH_SPMAP (8 * e + k / 4))) ++ bytesOf 4 (s.rdN (rPCH_SPMAP (8 * e + k / 4 + 1)))) (k % 4) n

/-- The bytes of an item's width. -/
def fmtBytes (fmt : Nat) : Nat := 2 ^ (fmt % 4)

/-- R429: the buffer is an enabled, unreserved receive buffer with no forwarding. -/
def State.spBuf (s : State) (n b : Nat) : Bool :=
  decide (b < 128) && s.on (fCAN_MB_CFG_EN n b) && !s.on (fCAN_MB_CFG_DIR n b) && !s.canReserved n b && s.fld (fCAN_MB_FWD_FWD_Q n b) == 0

/-- R429: one map entry. -/
def Build.spEntry (place : Nat) (b : Build) (i : Nat) (e : List Nat) : Build :=
  let src := leAt e 0 1
  let buf := leAt e 1 1
  let fmt := leAt e 3 1
  let tgt := leAt e 4 2
  let fits := if src = 0x10 then 15 else if b.s.on (fCAN_MB_CFG_FDF src buf) then 64 else 8
  if e.length = 32 ∧ i < 256 ∧ (src = 0x10 ∨ (src < 4 ∧ b.s.spBuf src buf)) ∧ fmt % 4 ≠ 3 ∧ fmt < 16 ∧ leAt e 2 1 + fmtBytes fmt ≤ fits
      ∧ 0x100 ≤ tgt ∧ listsOp tgt (leAt e 6 1) ∧ leAt e 18 1 ≤ 1 ∧ leAt e 19 1 = 0 ∧ zeros e 30 32 then
    { b with s := (b.s.putTable (rPCH_SPMAP (8 * i)) e) }
  else { b with bad := some (place + 32 * i, i) }

/-! ### Check 10 -/

/-- R171: a channel whose `DESAT_LOCAL` no entry sets takes the value its switch requires. -/
def State.desatRequired (s : State) (o : Nat) : Nat :=
  match s.legOf o with
  | some n => if s.legType n = 2 ∧ (o - s.legBase n = 1 ∨ o - s.legBase n = 2) then 0 else 1
  | none => 1

def Build.desatDefaults (b : Build) : Build :=
  { b with s := b.s.each (fun s g => if bit (b.cov.at 0 (rGD_CFG g)) 15 then s else s.setF (fGD_CFG_DESAT_LOCAL g) (s.desatRequired g)) 24 }

/-- The set-point map holds `k` entries. -/
def State.withSpCount (s : State) (k : Nat) : State := { s with key := { s.key with spN := k } }

/-- The candidate configuration of the image in the slot at `base`, built on state `s`, whether `HAL_CFG.BURGEE` was set (R419, check 12),
and the first refusal of check 10: address and entry. -/
def buildImage (s : State) (base : Nat) : Build × Bool :=
  let m := s.key.flash
  let reg := sectOf m base 1
  let b : Build := { s := (s.wr rPWR_CFG 0).fieldDefaults, cov := [], bad := none }
  let b := b.run Build.regEntry 0 (chunks 16 reg.length reg)
  let named := bit (b.cov.at 0 rHAL_CFG) 8
  let b := b.desatDefaults
  let blk := sectOf m base 2
  let b := b.andThen (fun b => b.block blk.length 0 (sectPlace m base 2) blk)
  let b := b.andThen (fun b => b.queues (sectPlace m base 3) (sectOf m base 3))
  let sp := sectOf m base 7
  let b := b.andThen (fun b => b.run (Build.spEntry (sectPlace m base 7)) 0 (chunks 32 sp.length sp))
  ({ b with s := b.s.withSpCount (sp.length / 32) }, named)

end Sys2Proof.Machine
end

