-- ==== Sys2Proof/Machine/Checker.lean ====
section
/-! DEFINITION. The configuration checker, checks 11–15 of R424: ranges, required fields, bindings, cross-field refusals and the gate-power
envelope, each on the candidate configuration and answering the address at fault. -/
namespace Sys2Proof.Machine

/-- The address of the first condition that holds. -/
def firstBad : List (Bool × Nat) → Option Nat
  | [] => none
  | (b, a) :: t => if b then some a else firstBad t

def cells4 : List Nat := [0, 1, 2, 3]
def legs12 : List Nat := List.range 12
def gates24 : List Nat := List.range 24

/-! ### Check 11: ranges -/

/-- A field in its range. -/
def State.inRange (s : State) (a : Nat) (f : ImgField) : Bool :=
  let v := s.fld ⟨a, f.hi, f.lo⟩
  (f.mn ≤ v && v ≤ f.mx) || f.ex == some v

/-- A source coded as `VLO_SRC`. -/
def srcCoded (v : Nat) : Bool := v < 0x30 || (0x40 ≤ v && v < 0x50) || v == 0x7F

/-- A descriptor source (R254). -/
def descSrc (v : Nat) : Bool := v < 0x30 || (0x40 ≤ v && v ≤ 0x60) || v == 0x7F

/-- The ranges that the register tables give. -/
def State.rowRanges (s : State) : Option Nat :=
  firstBad (imgRows.flatMap (fun r => r.addrs.map (fun a => ((r.fieldsAt a).any (fun f => !s.inRange a f), a))))

/-- The ranges that rules give beside them: sources (R188, R225, R254), bit timing (R379), members (R268), periods of enabled carriers (R144), and
of the position inputs in use the filters (R127), the probe queues (R136) and the counts of a revolution (R135). -/
def State.ruleRanges (s : State) : Option Nat :=
  firstBad (
    cells4.flatMap (fun c => [
      (!srcCoded (s.fld (fBND_SRC_VLO_SRC c)) || s.fld (fBND_SRC_VDC_SRC c) == 0x7F || !srcCoded (s.fld (fBND_SRC_VDC_SRC c)), rBND_SRC c),
      (topo6 (s.topo c) && decide (21845 < s.fld (fBND_FW2_K_V c)), rBND_FW2 c),
      (s.fld (fCAN_NBT_TSEG1 c) == 0 || 255 < s.fld (fCAN_NBT_TSEG1 c) || s.fld (fCAN_NBT_TSEG2 c) == 0 || 255 < s.fld (fCAN_NBT_BRP c), rCAN_NBT c)])
    ++ [(!srcCoded (s.fld fBND_DCL_CFG_DCL_VSRC) || s.fld fBND_DCL_CFG_DCL_VDC == 0x7F || !srcCoded (s.fld fBND_DCL_CFG_DCL_VDC), rBND_DCL_CFG)]
    ++ (List.range 5).flatMap (fun n => (List.range 8).map (fun d => (!descSrc (s.dSRC n d), rLE_DESC n (8 * d))))
    ++ (List.range 5).flatMap (fun n => (List.range 8).map (fun j =>
        (s.fld (fLE_PAR_MEMBER_MBURGEE n j) != 255 && (s.fld (fLE_PAR_MEMBER_SHARE_MAX n j) == 0 || s.fld (fLE_PAR_MEMBER_WEIGHT n j) == 0), rLE_PAR_MEMBER n j)))
    ++ (List.range 8).map (fun k => (s.on (fEDG_CAR_CFG_ENABLE k) && !perOk (s.rdN (rEDG_CAR_PERIOD k)), rEDG_CAR_PERIOD k))
    ++ (List.range 4).flatMap (fun i => [
        (s.on (fPOS_IDX_CFG_ENABLE i) && s.fld (fPOS_IDX_CFG_FILT_N i) == 0, rPOS_IDX_CFG i),
        (s.on (fPOS_PRB_CFG_ENABLE i) && s.fld (fPOS_PRB_CFG_FILT_N i) == 0, rPOS_PRB_CFG i),
        (s.on (fPOS_PRB_CFG_ENABLE i) && s.fld (fPOS_PRB_CFG_DEST_Q i) != 0 && !isFpQueue (s.fld (fPOS_PRB_CFG_DEST_Q i)), rPOS_PRB_CFG i)])
    ++ (List.range 6).map (fun h => (s.on (fPOS_HALL_CFG_ENABLE h)
        && decide (s.fld (fPOS_SPD_CFG_COUNTS_REV h) < 6 ∨ 1530 < s.fld (fPOS_SPD_CFG_COUNTS_REV h)), rPOS_SPD_CFG h)))

def State.checkRange (s : State) : Option Nat := s.rowRanges <|> s.ruleRanges

/-! ### Check 13: bindings -/

/-- Legs of `TYPE` 1–3 of a cell. -/
def State.stageLegs (s : State) (c : Nat) : List Nat :=
  legs12.filter (fun n => s.legCell n == c && decide (1 ≤ s.legType n ∧ s.legType n ≤ 3))

/-- R147. -/
def State.bindLegs (s : State) : Option Nat :=
  firstBad (
    legs12.map (fun n =>
      (decide (s.legType n = 1 ∧ s.legBase n % 2 = 1) || decide ((s.legType n = 2 ∨ s.legType n = 3) ∧ s.legBase n % 4 ≠ 0)
        || (s.legN n != 0 && decide (24 < s.legBase n + s.legN n))
        || (List.range n).any (fun m => decide (s.legBase m < s.legBase n + s.legN n ∧ s.legBase n < s.legBase m + s.legN m ∧ s.legN m ≠ 0 ∧ s.legN n ≠ 0)),
       rEDG_LEG_CFG n))
    ++ gates24.map (fun g => (s.on (fGD_CFG_OWNED g) != (s.legOf g).isSome, rGD_CFG g)))

/-- R24: a carrier of two cells, by legs of any type. -/
def State.bindCarriers (s : State) : Option Nat :=
  let carLeg := fun n => s.legN n != 0 && s.on (fEDG_LEG_CFG_CAR_EN n)
  firstBad (legs12.map (fun n =>
    (carLeg n && (List.range n).any (fun m => carLeg m && s.fld (fEDG_LEG_CFG_CAR m) == s.fld (fEDG_LEG_CFG_CAR n) && s.legCell m != s.legCell n),
     rEDG_LEG_CFG n)))

/-- Cell `c` is bound to Hall triplet `h`: by the triplet's own cell, its regulator's angle, or the island's speed. -/
def State.bindsHall (s : State) (c h : Nat) : Bool :=
  (s.on (fPOS_HALL_CFG_ENABLE h) && s.hallCell h == c) || (s.cellUsed c && s.fld (fBND_SRC_ANG_SRC c) == 1 && s.fld (fBND_SRC_HALL c) == h)
    || (s.on (fSI_CELL_CFG_HALL_SEN c) && s.fld (fSI_CELL_CFG_HALL_S c) == h)

/-- R24: a Hall triplet of two cells. -/
def State.bindHalls (s : State) : Option Nat :=
  firstBad ((List.range 6).map (fun h => (decide (1 < (cells4.filter (fun c => s.bindsHall c h)).length), rPOS_HALL_CFG h)))

/-- The largest dead time of a leg in ns (R149). -/
def State.legDead (s : State) (n : Nat) : Nat :=
  let a := max (s.fld (fEDG_LEG_DTA_DT_UP n)) (s.fld (fEDG_LEG_DTA_DT_DN n))
  let b := max (s.fld (fEDG_LEG_DTB_DT_UP n)) (s.fld (fEDG_LEG_DTB_DT_DN n))
  max 50 (if s.legType n = 1 then a else max a b)

def State.cellDead (s : State) (c : Nat) : Nat := (s.stageLegs c).foldl (fun m n => max m (s.legDead n)) 0

/-- R192. -/
def State.topoFits (s : State) (c : Nat) : Bool :=
  let l := s.stageLegs c
  let t := s.fld (fBND_CFG_TOPO c)
  let want := if t = 0 ∨ t = 1 then 3 else 6
  l.length == want && l.all (fun n => if t = 0 ∨ t = 2 then s.legType n == 1 else s.legType n != 1)

def State.oneCarrier (s : State) (c : Nat) : Bool :=
  match s.stageLegs c with
  | [] => false
  | n :: t => s.on (fEDG_LEG_CFG_CAR_EN n) && t.all (fun m => s.on (fEDG_LEG_CFG_CAR_EN m) && s.fld (fEDG_LEG_CFG_CAR m) == s.fld (fEDG_LEG_CFG_CAR n))

def State.bindTopo (s : State) : Option Nat :=
  firstBad ((cells4.filter s.cellUsed).map (fun c =>
    let mode := s.fld (fBND_CFG_MODE c)
    (!s.topoFits c || decide (s.fld (fBND_CFG_TOPO c) = 3 ∧ (mode = 1 ∨ mode = 2)) || decide (mode = 2 ∧ 1000 < s.cellDead c)
      || (decide (mode = 0 ∨ mode = 2) && !s.oneCarrier c), rBND_CFG c)))

/-- R185: the inputs of a phase of a cell. -/
def State.phaseInputs (s : State) (c p : Nat) : List Nat :=
  (List.range 48).filter (fun n => s.sdUsed n && s.sdCell n == c && s.fld (fSNS_SD_CFG_ROLE n) == 1 && s.fld (fSNS_SD_CFG_PHASE n) == p)

def State.bindPhases (s : State) : Option Nat :=
  firstBad ((cells4.filter s.cellUsed).flatMap (fun c =>
    let sets := if s.fld (fBND_CFG_TOPO c) < 2 then [0] else [0, 3]
    (List.range 6).map (fun p => (decide (1 < (s.phaseInputs c p).length), rSNS_SD_CFG ((s.phaseInputs c p).getD 1 0)))
      ++ sets.map (fun z => (decide (1 < ([z, z + 1, z + 2].filter (fun p => (s.phaseInputs c p).isEmpty)).length), rBND_CFG c))))

/-- R265. -/
def State.bindRoles (s : State) : Option Nat :=
  firstBad (cells4.flatMap (fun c =>
    let r := s.fld (fLE_PAR_CFG_ROLE c)
    let m := s.fld (fLE_CFG_MODE c)
    let b := s.fld (fBND_CFG_MODE c)
    [(decide (r = 1) && (!s.on (fLE_CFG_LEAD c) || (m != 1 && m != 2)), rLE_CFG c),
     (decide (r = 2) && (s.on (fLE_CFG_LEAD c) || m != 3), rLE_CFG c),
     (decide (r = 3) && (b != 1 && b != 2), rBND_CFG c),
     (decide (r = 1) && (s.fld (fLE_PAR_MEMBER_MBURGEE c 0) != s.fld fHAL_CFG_BURGEE || s.fld (fLE_PAR_MEMBER_MCELL c 0) != c), rLE_PAR_MEMBER c 0),
     (decide (r = 3) && s.fld (fLE_PAR_STAGE_PARTNER c) == 255, rLE_PAR_STAGE c),
     (decide (r = 3) && s.fld (fLE_PAR_TKO_TKO_AUX c) == 15, rLE_PAR_TKO c)]
    ++ (List.range 48).map (fun n => (decide (r = 3) && s.sdUsed n && s.sdCell n == c && !s.on (fSNS_GROUP_CFG_CODING (n / 8)), rSNS_SD_CFG n))))

def State.checkBinding (s : State) : Option Nat :=
  s.bindLegs <|> s.bindCarriers <|> s.bindHalls <|> s.bindTopo <|> s.bindPhases <|> s.bindRoles

/-! ### Check 14: consistency -/

/-- R126: six entries of three bits, a permutation of 0–5. -/
def hallMapOk (w : Nat) : Bool := (List.range 6).all (fun k => (List.range 6).any (fun i => w / 8 ^ i % 8 == k))

def State.consPos (s : State) : Option Nat :=
  firstBad ((List.range 6).map (fun h => (s.on (fPOS_HALL_CFG_ENABLE h) && !hallMapOk (s.fld (fPOS_HALL_MAP_MAP h)), rPOS_HALL_MAP h)))

/-- A threshold strictly between the rails (R160, R164), in 0.25 V. -/
def State.betweenRails (s : State) (g v : Nat) : Bool :=
  let t := sgnW 8 v
  decide (-8 - 2 * (s.fld (fGD_CFG_VNEG_CODE g) : Int) < t ∧ t < 60 + 2 * (s.fld (fGD_CFG_VPOS_CODE g) : Int))

/-- R148, R164, R171, R182. -/
def State.consGates (s : State) : Option Nat :=
  firstBad (gates24.flatMap (fun g =>
    let pre := s.fld (fGD_PROF_ON_PRE_TH g)
    let hold := s.fld (fGD_PROF_ON_HOLD_TH g)
    let pre' := s.fld (fGD_PROF_OFF_PRE_TH g)
    let hold' := s.fld (fGD_PROF_OFF_HOLD_TH g)
    [((s.legOf g).isSome && !(s.hq.queues.at QDesc.init (0x540 + 16 * g)).genCheck, rGD_CFG g),
     ((s.on (fGD_CFG_ON_MODE g) && decide (sgnW 8 hold ≤ sgnW 8 pre)) || !s.betweenRails g pre || !s.betweenRails g hold, rGD_PROF_ON g),
     ((s.on (fGD_CFG_OFF_MODE g) && decide (sgnW 8 pre' ≤ sgnW 8 hold')) || !s.betweenRails g pre' || !s.betweenRails g hold', rGD_PROF_OFF g),
     (!s.betweenRails g (s.fld (fGD_VGMON_VG_ON_TH g)) || !s.betweenRails g (s.fld (fGD_VGMON_VG_OFF_TH g))
       || !s.betweenRails g (s.fld (fGD_VGMON_SOFT_END g)), rGD_VGMON g),
     (s.on (fGD_CFG_OWNED g) && s.fld (fGD_CFG_DESAT_LOCAL g) != s.desatRequired g, rGD_CFG g),
     (s.on (fGD_CFG_OWNED g) && decide (s.fld (fGD_DIAG_CFG_RGE g) < 50 ∨ 250 < s.fld (fGD_DIAG_CFG_RGE g)), rGD_DIAG_CFG g)]))

/-- R201: a valid candidate names a state of the topology. -/
def candOk (topo b : Nat) : Bool :=
  !bit b 7 || decide (b % 64 < (if topo = 0 then 8 else if topo = 1 then 27 else 64))

/-- R201, R207, R209. -/
def State.consBand (s : State) : Option Nat :=
  firstBad (cells4.flatMap (fun c =>
    (List.range 288).map (fun k => (!((bytesOf 4 (s.rdN (rBND_PTAB c k))).all (candOk (s.fld (fBND_CFG_TOPO c)))), rBND_PTAB c k))
    ++ [(s.cellUsed c && decide (s.fld (fBND_BANDS_H_OVR c) ≤ s.fld (fBND_BANDS_H_CAR c)), rBND_BANDS c),
        (s.cellUsed c && decide (s.fld (fBND_ADAPT_H_MAX c) < s.fld (fBND_ADAPT_H_MIN c)), rBND_ADAPT c),
        (s.cellUsed c && decide (s.fld (fBND_TIMING_T_MINP c) * 10 < s.cellDead c + 100), rBND_TIMING c),
        (s.rdN (rBND_MTPA c 0) != 0, rBND_MTPA c 0)]
    ++ (List.range 65).map (fun k => (decide (0 < sgn16 (s.fld (fBND_MTPA_ID c k)))
        || (k != 0 && decide (s.fldI (fBND_MTPA_IQ c k) < s.fldI (fBND_MTPA_IQ c (k - 1)))), rBND_MTPA c k))))

/-- AN inputs of a cell with a role. -/
def State.anOf (s : State) (c role : Nat) : List Nat :=
  (List.range 16).filter (fun n => s.fld (fSNS_AN_CFG_ROLE n) == role && s.fld (fSNS_AN_CFG_CELL n) == c)

/-- Two of them name different phases. -/
def State.twoPhases (s : State) (l : List Nat) : Bool := l.any (fun n => l.any (fun m => s.fld (fSNS_AN_CFG_PHASE n) != s.fld (fSNS_AN_CFG_PHASE m)))

/-- R218, R219. -/
def State.consStart (s : State) : Option Nat :=
  firstBad ((cells4.filter s.cellUsed).flatMap (fun c =>
    let m := s.fld (fBND_ST_CFG_METHOD c)
    let imax := s.fld (fBND_LIMITS_IMAX c)
    [(s.fld (fBND_SRC_ANG_SRC c) != (if m = 1 then 1 else if m = 3 then 0 else 2), rBND_ST_CFG c),
     (s.on (fBND_ST_CFG_FLY_EN c) && (m != 0 || !s.twoPhases (s.anOf c 3)), rBND_ST_CFG c),
     (s.on (fBND_ST_CFG_BRK_EN c) && m == 0, rBND_ST_CFG c),
     (decide (imax < s.fld (fBND_ST_ALIGN_I_ALIGN c)), rBND_ST_ALIGN c),
     (decide (imax < s.fld (fBND_ST_RAMP_I_RAMP c)), rBND_ST_RAMP c),
     (decide ((imax : Int) < ((sgn16 (s.fld (fBND_ST_BRAKE_I_PROOF c))).natAbs : Int)), rBND_ST_BRAKE c),
     (decide (m = 0 ∧ s.fld (fBND_ST_HAND_W_HAND c) = 0), rBND_ST_HAND c)]))

/-- The code of a voltage on an engine's cell (R254). -/
def State.cellCode (s : State) (c x : Nat) : Int := voltCode x (s.fld (fBND_BASE_V_BASE c)) 0

/-- The `HI` limit of the window comparator of the DC-link input, where it has an enabled one. -/
def State.linkHi (s : State) : Option Int :=
  let v := s.fld fBND_DCL_CFG_DCL_VDC
  if v < 48 ∧ s.on (fSNS_WIN_CFG_ENABLE v) then some (sgn16 (s.fld (fSNS_WIN_LIM_HI v))) else none

/-- R234, and the limiter refusal of R254: the chopper leg and its thresholds; the DC-link limiter of every cell against `CH_ON`; on the link, with
a chopper leg, against the trip of the DC-link input. -/
def State.consChop (s : State) : Option Nat :=
  let l := s.fld fBND_DCL_CFG_CH_LEG
  firstBad (
    (if l = 15 then [] else
      [(s.legType l != 4, rBND_DCL_CFG), (decide (s.fld fBND_DCL_CHOP_CH_ON ≤ s.fld fBND_DCL_CHOP_CH_OFF), rBND_DCL_CHOP)])
    ++ cells4.flatMap (fun c =>
      [(s.dEN c 2 && decide (s.dHI c 2 ≤ s.cellCode c (s.fld fBND_DCL_CHOP_CH_ON)), rLE_DESC c 22),
       (l != 15 && s.onLink c && s.dEN c 2 && (match s.linkHi with
         | some h => decide (h ≤ s.dHI c 2)
         | none => false), rLE_DESC c 22)]))

/-- R239, R241, R252, R254. -/
def State.consLoop (s : State) : Option Nat :=
  firstBad (
    (List.range 5).map (fun n => (decide (s.fld (fLE_TIMING_OUT_DELAY n) < 200 ∨ s.fld (fLE_TIMING_T_S n) ≤ s.fld (fLE_TIMING_OUT_DELAY n)), rLE_TIMING n))
    ++ cells4.map (fun n =>
      let h := s.fld (fLE_SRC_HALL n)
      let sp := s.fld (fLE_SRC_SPD_SRC n) == 1
      let po := s.fld (fLE_SRC_POS_SRC n)
      (((sp || po == 1) && (!s.on (fPOS_HALL_CFG_ENABLE h) || s.fld (fPOS_HALL_CFG_CELL h) != n))
        || (sp && s.fld (fPOS_SPD_BASE_BASE h) != s.fld (fBND_WBASE_W_BASE n))
        || (po == 0 && (s.fld (fLE_CFG_MODE n) == 2 || s.on (fLE_TAB_CFG_COG_EN n) || s.on (fLE_TAB_CFG_FRIC_EN n))), rLE_SRC n))
    ++ (List.range 5).flatMap (fun n => (List.range 8).map (fun d =>
      (s.dEN n d && ((d != 7 && s.dLAW n d == 1 && decide (s.dHI n d ≤ s.dLO n d))
        || (2 ≤ d && decide (s.dMIN n d < 0)) || (d == 7 && s.dLAW n d == 0)
        || (2 ≤ d && d ≤ 6 && s.dLAW n d == 1 && s.dMIN n d != 0)
        || (d == 7 && n < 4 && (!(s.fld fBND_DCL_CFG_CH_LEG != 15 && s.legN (s.fld fBND_DCL_CFG_CH_LEG) != 0 && s.legCell (s.fld fBND_DCL_CFG_CH_LEG) == n)
          || decide (s.fld (fBND_BASE_V_BASE n) ≤ s.fld fBND_DCL_CHOP_CH_ON ∨ s.fld (fBND_BASE_V_BASE n) ≤ s.fld fBND_DCL_DIS_DIS_V)))), rLE_DESC n (8 * d)))))

/-- R281: 10 µs + `SEL_DELAY` + 0.1 µs against the carrier period of a standby cell. -/
def State.consTakeover (s : State) : Option Nat :=
  firstBad (cells4.map (fun c =>
    (decide (s.fld (fLE_PAR_CFG_ROLE c) = 3) && (match (s.stageLegs c).find? (fun n => s.on (fEDG_LEG_CFG_CAR_EN n)) with
      | some n => decide (s.rdN (rEDG_CAR_PERIOD (s.fld (fEDG_LEG_CFG_CAR n))) < (10100 + 10 * s.fld (fLE_PAR_TKO_SEL_DELAY c)) * 64)
      | none => false), rLE_PAR_TKO c)))

/-- R304: `GEN_CHECK` of the queues that processors feed or own. -/
def State.consQueues (s : State) : Option Nat :=
  let gc := fun q => (s.hq.queues.at QDesc.init q).genCheck
  firstBad ((cells4.filter s.cellUsed).flatMap (fun c =>
      [(!gc (0x841 + 16 * c) && s.fld (fBND_ST_CFG_METHOD c) != 2, rBND_CFG c), (!gc (0x881 + 16 * c), rLE_CFG c)])
    ++ s.hq.queues.map (fun p => (decide (p.2.owner ≤ 9) && !p.2.genCheck, rFP_CFG p.2.owner)))

/-- R314; the inbox stands at data addresses 0x1_E000–0x1_FFFF (R293), granules 0x1E0–0x1FF; `sbx` the sandbox code of the image. -/
def State.consSandbox (s : State) (sbx : List Nat) : Option Nat :=
  firstBad ((List.range 10).map (fun f =>
    (s.on (fFP_CFG_SBX_EN f) && (decide (0x1E0 ≤ s.fld (fFP_SBX_DATA_DLAST f) ∧ s.fld (fFP_SBX_DATA_DFIRST f) ≤ 0x1FF)
      || decide (s.fld (fFP_SBX_QUEUE_QFIRST f) < 0x1000 ∨ 0x7FFF < s.fld (fFP_SBX_QUEUE_QLAST f))
      || (!sbx.isEmpty && (decide ((Config.sbxSpan sbx).1 < s.fld (fFP_SBX_CODE_CFIRST f) * 256 ∨ (s.fld (fFP_SBX_CODE_CLAST f) + 1) * 256 ≤ (Config.sbxSpan sbx).2)))), rFP_CFG f)))

/-- R334, R338, R339, R343, R346. -/
def State.consIsland (s : State) : Option Nat :=
  firstBad (cells4.map (fun c =>
      let hall := s.on (fSI_CELL_CFG_HALL_SEN c)
      ((s.on (fSI_CELL_CFG_SS1_MODE c) && !hall) || (s.on (fSI_CELL_CFG_SLS_EN c) && !hall) || (s.on (fSI_CELL_CFG_SLT_EN c) && !s.on (fSI_CELL_CFG_TM_EN c))
        || (s.on (fSI_CELL_CFG_TM_EN c) && !s.twoPhases (s.anOf c 1)), rSI_CELL_CFG c))
    ++ [(s.on fSI_SF_CFG_SF_EN && s.fld fSI_SF_ID_SF_ID_CMD == s.fld fSI_SF_ID_SF_ID_STS, rSI_SF_ID),
        (s.on fSI_SF_CFG_SF_EN && decide (2 * s.fld fSI_SF_CFG_SF_TMO < 2 * (s.fld fSI_SF_CFG_NET_MISS + 1) * s.fld fSI_SF_CFG_SF_PERIOD + s.fld fSI_SF_CFG_PAIR_WIN), rSI_SF_CFG)])

/-- R379: the bit timing of a channel, in periods of 12.5 ns. -/
def State.bitTimingBad (s : State) (n : Nat) : Bool :=
  let nom := (s.fld (fCAN_NBT_BRP n) + 1) * (1 + (s.fld (fCAN_NBT_TSEG1 n) + 1) + (s.fld (fCAN_NBT_TSEG2 n) + 1))
  let dat := (s.fld (fCAN_DBT_BRP n) + 1) * (1 + (s.fld (fCAN_DBT_TSEG1 n) + 1) + (s.fld (fCAN_DBT_TSEG2 n) + 1))
  decide (s.fld (fCAN_NBT_TSEG2 n) < s.fld (fCAN_NBT_SJW n) ∨ s.fld (fCAN_DBT_TSEG2 n) < s.fld (fCAN_DBT_SJW n) ∨ nom < 80 ∨ 640 < nom ∨ dat < 10 ∨ nom < dat)
    || (!s.on (fCAN_DBT_TDC_EN n) && decide (dat < 80))

/-- The fields of `CAN_MB_CFG` and `CAN_MB_FWD` (R385); those of a reserved buffer are ignored (R382). -/
def State.bufferBad (s : State) (n b : Nat) : Bool :=
  let q := s.fld (fCAN_MB_FWD_FWD_Q n b)
  !s.canReserved n b && ((s.on (fCAN_MB_CFG_FDF n b) && !s.on (fCAN_CFG_FD_EN n)) || (s.on (fCAN_MB_CFG_BRS n b) && !s.on (fCAN_MB_CFG_FDF n b))
    || (decide (8 < s.fld (fCAN_MB_CFG_DLC n b)) && !s.on (fCAN_MB_CFG_FDF n b)) || (q != 0 && decide (q < 0x1000 ∨ 0x7FFF < q)))

/-- R394: a TX trigger may name the buffer. -/
def State.trigTx (s : State) (n b : Nat) : Bool :=
  !s.canReserved n b && s.on (fCAN_MB_CFG_EN n b) && s.on (fCAN_MB_CFG_DIR n b) && s.on (fCAN_MB_CFG_TT n b)

/-- R394: an RX trigger may name the buffer; of the reserved ones hardware receives with buffer 0 alone (R382). -/
def State.trigRx (s : State) (n b : Nat) : Bool :=
  if s.canReserved n b then b == 0 else s.on (fCAN_MB_CFG_EN n b) && !s.on (fCAN_MB_CFG_DIR n b)

/-- R394: two triggers act at one mark in one cycle. -/
def State.trigsMeet (s : State) (n t u : Nat) : Bool :=
  let m := 2 ^ min (s.trigRep n t) (s.trigRep n u)
  s.trigMark n t == s.trigMark n u && s.trigOfs n t % m == s.trigOfs n u % m

/-- R392, R394: trigger `t` of a channel; `l` are its valid triggers. -/
def State.trigBad (s : State) (n t : Nat) (l : List Nat) : Bool :=
  let b := s.trigBuf n t
  let m := s.trigMark n t
  decide (s.fld (fCAN_TT_CFG_CYC_EXP n) < s.trigRep n t ∨ 2 ^ s.trigRep n t ≤ s.trigOfs n t ∨ m = 0 ∨ s.fld (fCAN_TT_TIMING_CYCLE_LEN n) ≤ m)
    || l.any (fun u => decide (u < t) && decide (m < s.trigMark n u))
    || (s.trigType n t == 0 && (!s.trigTx n b
        || l.any (fun u => decide (u < t) && s.trigType n u == 0 && s.trigsMeet n t u)
        || (s.on (fCAN_CFG_TT_EN n) && !s.on (fCAN_CFG_FD_EN n) && s.on (fCAN_MB_CFG_FDF n b))))
    || (s.trigType n t == 1 && !s.trigRx n b)

/-- R379, R385, R391, R392, R394 and the management channel. -/
def State.consCan (s : State) : Option Nat :=
  firstBad (cells4.flatMap (fun n =>
      let l := (List.range 256).filter (s.trigValid n)
      [(s.bitTimingBad n, rCAN_NBT n),
       (s.on (fCAN_STS_CFG_STS_EN n) && !s.on (fCAN_CFG_FD_EN n), rCAN_STS_CFG n),
       ((s.on (fCAN_CFG_TT_EN n) && decide (n < 2) && s.on fSI_SF_CFG_SF_EN) || (decide (n < 3) && s.on (fCAN_CFG_MGT_EN n)), rCAN_CFG n),
       (decide (64 < ((l.map (s.trigMark n)).eraseReps).length), rCAN_TRIG n 0)]
      ++ (List.range 128).map (fun b => (s.bufferBad n b, rCAN_MB_CFG n b))
      ++ l.map (fun t => (s.trigBad n t l, rCAN_TRIG n (2 * t))))
    ++ [(s.on (fCAN_CFG_MGT_EN 3) && (s.fld fMGT_CFG_REQ_ID == s.fld fMGT_CFG_RSP_ID), rMGT_CFG),
        (s.on (fCAN_CFG_MGT_EN 3) && (!s.on (fCAN_CFG_FD_EN 3) || !s.on (fCAN_CFG_ENABLE 3)), rCAN_CFG 3)])

/-- R401. -/
def State.consAux (s : State) : Option Nat :=
  firstBad ((List.range 12).map (fun n =>
    (if n < 8 then decide (s.fld (fHSF_CFG_STAGGER (n / 2)) < s.fld (fAUX_CFG_T_PEAK n) ∨ 60 < s.fld (fAUX_CFG_I_PEAK n) + s.fld (fAUX_CFG_I_HOLD (partner n)))
      else s.amode n == 2, rAUX_CFG n)))

def State.checkConsistency (s : State) (sbx : List Nat) : Option Nat :=
  s.consPos <|> s.consGates <|> s.consBand <|> s.consStart <|> s.consChop <|> s.consLoop <|> s.consTakeover <|> s.consQueues
    <|> s.consSandbox sbx <|> s.consIsland <|> s.consCan <|> s.consAux

/-! ### Check 15: the envelope (R29, R183) -/

/-- Qg · ΔVg · fsw of a channel against 2.8 W, in 10 nC × 0.5 V × 10 Hz = 50 nW. -/
def State.checkEnvelope (s : State) : Option Nat :=
  firstBad (gates24.map (fun g =>
    (decide (56000000 < s.fld (fGD_ENVELOPE_QG g) * s.fld (fGD_ENVELOPE_FSW_MAX g) * (34 + s.fld (fGD_CFG_VPOS_CODE g) + s.fld (fGD_CFG_VNEG_CODE g))), rGD_ENVELOPE g)))

/-! ### All fifteen (R424) -/

/-- A refusal of check `code` at a register, no entry named. -/
def refuseAt (code : Nat) (a : Option Nat) : Option Refuse := a.map (fun a => ⟨code, a, none⟩)

/-- R424: the candidate of the image in the slot at `base`, or its refusal; `bad` are the key addresses whose reads do not complete, `floor` the
larger rollback floor. -/
def checkImage (s : State) (bad : List Nat) (floor base : Nat) : Except Refuse State :=
  let m := s.key.flash
  match checkHeader m bad base <|> checkRead m bad base <|> checkSigned Config.rootKey floor m base <|> checkSections m base with
  | some r => .error r
  | none =>
    let b := buildImage s base
    match b.1.bad with
    | some (a, i) => .error ⟨10, a, some i⟩
    | none =>
      let t := b.1.s
      match refuseAt 11 t.checkRange <|> (if b.2 then none else some ⟨12, rHAL_CFG, none⟩) <|> refuseAt 13 t.checkBinding
          <|> refuseAt 14 (t.checkConsistency (sectOf m base 6)) <|> refuseAt 15 t.checkEnvelope with
      | some r => .error r
      | none => .ok t

end Sys2Proof.Machine
end

