-- ==== Sys2Proof/Machine/Par.lean ====
section
/-! DEFINITION. Paralleled modules and takeover: membership records (R267–R269, R283), interleaving on a period change (R274), fencing and
handback (R276, R285), mirrored streams at the standby cell (R279), takeover (R280–R282), split and rejoin (R286–R288). -/
namespace Sys2Proof.Machine

open Host (Outcome)

/-! ### Fencing (R275, R276, R285) -/

/-- The cell of this module whose `STAGE_ID` a record carries. -/
def State.stageCell (s : State) (id : Nat) : Option Nat :=
  firstBelow (fun c => s.cellUsed c && s.fld (fLE_PAR_STAGE_PARTNER c) != 255 && s.fld (fLE_PAR_STAGE_STAGE_ID c) == id) 4

/-- A FENCE or HANDBACK at its cell: acted on with a newer generation, otherwise discarded and counted. -/
def State.ownership (s : State) (p : Quad) (f : State → Nat → State) : State :=
  match s.stageCell (p.h 0) with
  | some c => if newer16 (p.h 2) (s.fld (fLE_PAR_GEN_G c)) then f s c else s.inc (rLE_PAR_CNT_STALE c)
  | none => s

/-- R276, R283: FENCE. -/
def fence (s : State) (p : Quad) : State :=
  (s.consume 1 3 p).ownership p (fun s c =>
    let gave := s.cellOwner c = s.own ∧ p.b 5 = 1
    let s := s.fenceCell c (p.b 4) (p.h 2)
    if gave then s.parRaise c 7 else s)

def execFence (p : Quad) (s : State) : Outcome State Fault Refusal := .next (s.lit (fence s p))

/-- The state of R265's role once a cell plays it again. -/
def State.roleState (s : State) (c : Nat) : Nat := if s.role c = 1 then 2 else if s.role c = 2 then 1 else 0

/-- R276, R285: HANDBACK: the fenced channels enter DIAG. -/
def handback (s : State) (p : Quad) : State :=
  (s.consume 1 0x13 p).ownership p (fun s c =>
    let s := (s.setF (fLE_PAR_GEN_G c) (p.h 2)).setOwner c (p.b 4) (p.h 2)
    let s := s.setPstate c (s.roleState c)
    s.each (fun s o => if s.cellHas c o ∧ s.gst o = gFENCED then s.enterDiag o else s) 24)

def execHandback (p : Quad) (s : State) : Outcome State Fault Refusal := .next (s.lit (handback s p))

/-! ### Membership (R266–R269) -/

/-- R266: the machine digest of a cell. -/
def State.machineDigest (s : State) (c : Nat) : Nat :=
  let per := match s.bCar c with
    | some k => s.carP k
    | none => 0
  crc32c ([s.rdN (rLE_TIMING c), s.rdN (rLE_KTI c), s.rdN (rBND_BASE c), s.rdN (rBND_WBASE c), per].flatMap (bytesOf 4))

/-- R267: the sample offset of a cell in ns. -/
def State.offsetNs (s : State) (c : Nat) : Nat :=
  let n := s.leOf c
  (roundFree ((s.fld (fLE_PHASE_PHASE n) * s.fld (fLE_TIMING_T_S n) * 10 : Nat) : Int) 65536).toNat

/-- A record to queue 0x0001 of a module, to launch at once with LATE = 1. -/
def State.toSelector1 (s : State) (b op payload : Nat) : Rec := s.unitRec (0x8000 + b % 64 * 512 + 1) op payload

/-- R268: a follower's ALIVE. -/
def aliveSend (s : State) (c : Nat) : State :=
  if s.role c ≠ 2 then s
  else
    let n := s.leOf c
    s.emit (s.toSelector1 (s.parC c).lead 0x10
      (s.fld (fLE_PAR_CFG_MACHINE c) + c * 2 ^ 8 + s.pstate c * 2 ^ 16 + s.fld (fLE_PAR_GEN_MGEN c) * 2 ^ 24 + q15 (s.leE n).t * 2 ^ 40
        + s.machineDigest c * 2 ^ 56 + s.offsetNs c % 2 ^ 24 * 2 ^ 88 + s.fld (fLE_TIMING_OUT_DELAY n) * 2 ^ 112))

def execAliveSend (c : Fin 4) (s : State) : Outcome State Fault Refusal := .next (s.lit (aliveSend s c.val))

/-- The lead cell of a machine in this module. -/
def State.leadCell (s : State) (machine : Nat) : Option Nat :=
  firstBelow (fun c => s.role c == 1 && s.fld (fLE_PAR_CFG_MACHINE c) == machine) 4

/-- The entry of a lead's list that names a member. -/
def State.entryFor (s : State) (c b m : Nat) : Option Nat := firstBelow (fun j => s.memBurgee c j == b && s.memCell c j == m) 8

/-- R268: the first check that a joining member fails, as the result code of ACCEPT. -/
def State.joinCode (s : State) (c : Nat) (p : Quad) (entry : Option Nat) (path : Nat) : Nat :=
  let lead : Int := s.offsetNs c
  let mem : Int := p.from 11 % 2 ^ 24
  let n := s.leOf c
  let delay : Int := s.fld (fLE_PAR_TIMING_SHARE_DELAY c) * 10
  let ts : Int := s.fld (fLE_TIMING_T_S n) * 10
  let skew : Int := (mem + p.h 14 * 10) - (lead + s.fld (fLE_TIMING_OUT_DELAY n) * 10)
  let room : Int := s.fld (fLE_PAR_TIMING_SHARE_DELAY c) * 2560 - 409600 - s.guard
  if p.w 7 ≠ s.machineDigest c then 1
  else if ¬ (lead + delay + 20 ≤ mem ∧ mem < lead + ts) ∨ 10 < skew.natAbs then 2
  else if s.guard < 2 * path ∨ room < path then 3
  else if entry = none then 4
  else if s.ps ≠ psRUN ∨ ¬ s.timeOk then 6
  else 0

/-- R268: what a lead notes of a member's ALIVE. -/
def State.noteAlive (s : State) (c j : Nat) (p : Quad) : State :=
  let s := s.modMember c j (fun m => { m with aliveAt := s.now, tq := sgn16 (p.h 5), pst := p.b 2 })
  -- R287: in DROOP a member stays out until REJOIN
  if p.b 2 = 3 then
    (s.modMember c j (fun m => { m with droop := true, join := none })).setActive c (Nat.land (s.fld (fLE_PAR_ACTIVE_ACT c)) (255 - 2 ^ j))
  else s

/-- The ACCEPT of a member. -/
def State.sendAccept (s : State) (c b m gen code : Nat) : State :=
  s.emit (s.toSelector1 b 0x11 (s.fld (fLE_PAR_CFG_MACHINE c) + m * 2 ^ 8 + gen * 2 ^ 16 + code * 2 ^ 32))

/-- R268: ALIVE at the lead. -/
def alive (s : State) (r : Rec) : State :=
  let p : Quad := r.payload
  let s := s.consume 1 0x10 p
  match s.leadCell (p.b 0) with
  | none => s
  | some c =>
    let entry := s.entryFor c r.src.toNat (p.b 1)
    let known := match entry with
      | some j => s.memActive c j || (s.member c j).join.isSome || (s.member c j).droop || p.b 2 == 3
      | none => false
    let code := s.joinCode c p entry ((s.short + 2 ^ 40 - r.time.toNat) % 2 ^ 40)
    match entry with
    | some j =>
      if known then s.noteAlive c j p
      else if code = 0 then
        let s := (s.noteAlive c j p).modMember c j (fun m => { m with join := some (s.memMax c j) })
        s.sendAccept c r.src.toNat (p.b 1) (s.member c j).gen 0
      else (s.sendAccept c r.src.toNat (p.b 1) (s.member c j).gen code).parRaise c 1
    | none => (s.sendAccept c r.src.toNat (p.b 1) (s.fld (fLE_PAR_GEN_MGEN c)) code).parRaise c 1

def execAlive (r : Rec) (s : State) : Outcome State Fault Refusal := .next (s.lit (alive s r))

/-- R269: the membership generation of a follower. -/
def State.setMgen (s : State) (c gen : Nat) : State :=
  let s := (s.setF (fLE_PAR_GEN_MGEN c) gen).setGen (0x884 + 16 * s.leOf c) gen
  if s.fld (fBND_ST_CFG_METHOD c) = 2 then s.setGen (0x841 + 16 * c) gen else s

/-- R269: ACCEPT at the follower. -/
def accept (s : State) (r : Rec) : State :=
  let p : Quad := r.payload
  let s := s.consume 1 0x11 p
  let c := p.b 1
  if 3 < c ∨ s.role c ≠ 2 ∨ s.fld (fLE_PAR_CFG_MACHINE c) ≠ p.b 0 ∨ p.b 4 ≠ 0 then s
  else
    let s := (s.setMgen c (p.h 2)).modPar c (fun q => { q with lead := r.src.toNat, silent := 0 })
    if s.pstate c = 3 then s.modPar c (fun q => { q with rejoin := true })
    else if s.pstate c = 1 then s.setPstate c 2
    else s

def execAccept (r : Rec) (s : State) : Outcome State Fault Refusal := .next (s.lit (accept s r))

/-- R269: 3 ms without ALIVE from an active member. -/
def memberLost (s : State) (c j : Nat) : State :=
  if s.role c = 1 ∧ s.memActive c j ∧ ¬ (s.memBurgee c j = s.own ∧ s.memCell c j = c) ∧ (s.member c j).aliveAt + 3 * msU ≤ s.now then
    ((s.setActive c (Nat.land (s.fld (fLE_PAR_ACTIVE_ACT c)) (255 - 2 ^ j))).setBit (rLE_PAR_ACTIVE c) (16 + j)).parRaise c 2
  else s

def execMemberLost (c : Fin 4) (j : Fin 8) (s : State) : Outcome State Fault Refusal := .next (s.lit (memberLost s c.val j.val))

/-- R283: a lead puts the new member in the old one's place. -/
def State.replaceMember (s : State) (c oldB oldC newB newC gen : Nat) : State :=
  match s.entryFor c oldB oldC with
  | some j =>
    ((s.setF (fLE_PAR_MEMBER_MBURGEE c j) newB).setF (fLE_PAR_MEMBER_MCELL c j) newC).modMember c j (fun m => { m with gen := gen, aliveAt := s.now })
  | none => s

/-- R283: TAKEN at a lead and at a follower. -/
def taken (s : State) (p : Quad) : State :=
  (s.consume 1 0x12 p).each (fun s c =>
    if s.fld (fLE_PAR_CFG_MACHINE c) ≠ p.b 0 then s
    else if s.role c = 1 then s.replaceMember c (p.b 1) (p.b 2) (p.b 3) (p.b 4) (p.h 5)
    else if s.role c = 2 ∧ (s.parC c).lead = p.b 1 then (s.setMgen c (p.h 5)).modPar c (fun q => { q with lead := p.b 3 })
    else s) 4

def execTaken (p : Quad) (s : State) : Outcome State Fault Refusal := .next (s.lit (taken s p))

/-! ### Interleaving (R274) -/

/-- R145, R274: SET_PERIOD of a carrier; a lead whose carrier it is re-aligns its machine. -/
def setPeriodHost (s : State) (k : Nat) (p : Quad) (launch : Nat) : State :=
  let t := setPeriod s k p launch
  if ¬ s.carLive k ∨ ¬ s.carAccepts k 0x11 p then t
  else t.each (fun s c => if s.role c = 1 ∧ s.bCar c = some k then s.syncHoist c else s) 4

def execSetPeriod (c : Fin 8) (p : Quad) (launch : Time) (s : State) : Outcome State Fault Refusal :=
  .next (s.lit (setPeriodHost s c.val p launch.toNat))

/-! ### Takeover (R280–R283) -/

/-- The content of a part, bytes 8–29 of its slot. -/
def partOf (x : Slot) : Nat := x.toNat / 2 ^ 64 % 2 ^ 176

/-- Part `k` of a set. -/
def part (l : List Slot) (k : Nat) : Nat := partOf (l.getD k 0)

/-- R282 step 3: the engine takes the mirrored values. -/
def State.loadEngine (s : State) (n c : Nat) (l : List Slot) : State :=
  let p0 := part l 0
  let p1 := part l 1
  let p2 := part l 2
  let p3 := part l 3
  let s := ((s.setF (fLE_STATUS_MODE n) (p0 / 4)).setF (fLE_STATUS_BANK n) (p0 / 16)).setF (fLE_STATUS_HOLD n) (p0 / 64)
  let s := s.modLe n (fun e => { e with
    vTgt := sgn16 (p0 / 2 ^ 16), pTgt := sgnW 32 (p0 / 2 ^ 32), pStar := ((p0 / 2 ^ 64 % 2 ^ 32 : Nat) : Rat), tab := p0 / 32 % 2 + 1,
    v := sgn16 p1 * 65536, a := sgn16 (p1 / 2 ^ 16) * 65536, share := sgn16 (p3 / 2 ^ 64), shareN := p0 / 2 ^ 96 % 65536 })
  let acc := fun d => sgnW 40 (if d < 2 then p1 / 2 ^ (32 + 40 * d) else if d < 6 then p2 / 2 ^ (40 * (d - 2)) else p3)
  let s := [0, 1, 2, 3, 4, 5, 6].foldl (fun s d => s.setAcc n d (acc d)) s
  let s := s.each (fun s d => if s.dLAW n d = 1 then s.keepY n d (if bit (p3 / 2 ^ 40) d then s.dMAX n d else s.dMIN n d) else s) 8
  let s := if s.ownsChop n then (s.setE (((p3 / 2 ^ 48 % 65536 * 100 : Nat) : Rat))).wrN rBND_DCL_CHOPE (p3 / 2 ^ 48 % 65536) else s
  let s := s.setF (fLE_PAR_STATUS_SAMPLE c) (p0 / 2 ^ 96)
  -- a FAILED engine stays FAILED until the next Pitch (R244)
  if s.est n = eFAILED then s else s.setEst n eRUNNING

/-- R282 step 3: the regulator's references, integrators and angle. -/
def State.loadRegulator (s : State) (c : Nat) (l : List Slot) : State :=
  let p := part l 4
  let ta := (l.getD 4 0).toNat / 2 ^ 24 % 2 ^ 40
  let s := s.wrN (rBND_FW_DID c) (p / 2 ^ 136 % 65536)
  s.modBnd c (fun b => { b with
    form := 1, ia := sgn16 (p / 2 ^ 40), ib := sgn16 (p / 2 ^ 56), angle := some (ta, p / 2 ^ 8 % 65536, sgn16 (p / 2 ^ 24)), angLost := false,
    intD := (sgnW 32 (p / 2 ^ 72) : Rat) / 65536, intQ := (sgnW 32 (p / 2 ^ 104) : Rat) / 65536 })

/-- Generations of the queues of a cell's LE, BND and EO (R282 step 2). -/
def State.bumpCell (s : State) (n c : Nat) : State :=
  let s := s.each (fun s k => s.bumpGen (0x880 + 16 * n + k)) 6
  let s := s.each (fun s k => s.bumpGen (0x840 + 16 * c + k)) 3
  s.each (fun s o => if s.cellHas c o then s.bumpGen (0x540 + 16 * o) else s) 24

/-- R283: the membership of the cell that takes over: it stands in its list for the cell taken over; a new lead counts every listed member
as active under the new generation. -/
def State.takeMembership (s : State) (c : Nat) (l : List Slot) : State :=
  let p3 := part l 3
  let gen := nextGen (p3 / 2 ^ 80 % 65536)
  let b := s.fld (fLE_PAR_STAGE_PARTNER c)
  let old := p3 / 2 ^ 96 % 256
  let s := (s.setMgen c gen).modPar c (fun q => { q with lead := if old = b then s.own else old, silent := 0 })
  let s := s.replaceMember c b (s.fld (fLE_PAR_STAGE_PCELL c)) s.own c gen
  if s.role c ≠ 1 then s
  else
    let s := s.each (fun s j =>
      if s.memBurgee c j = 255 then s
      else (s.setF (fLE_PAR_CAP_CAP c j) (s.memMax c j)).modMember c j (fun m => { m with gen := gen, aliveAt := s.now, share := 0, clip := none })) 8
    s.setActive c (maskBelow (fun j => s.memBurgee c j != 255) 8)

/-- R282 steps 1–3. -/
def State.takeover (s : State) (c : Nat) : State :=
  let l := (s.parC c).parts
  let n := s.leOf c
  let b := s.fld (fLE_PAR_STAGE_PARTNER c)
  let g := nextGen (part l 5 % 65536)
  let s := s.setPstate c 5
  let s := s.modPar c (fun q => { q with took := true, orig := b, origCell := s.fld (fLE_PAR_STAGE_PCELL c), quiet := false })
  let s := (s.setF (fLE_PAR_GEN_G c) g).setOwner c s.own g
  let s := s.bumpCell n c
  let s := s.emit (s.fenceRec c b g s.own 1)
  let s := (s.auxOn (s.fld (fLE_PAR_TKO_TKO_AUX c))).set1 (fLE_PAR_STATUS_TKO_SEL c)
  ((s.takeMembership c l).loadEngine n c l).loadRegulator c l

/-- R281: a decision for takeover, refused in BIVOUAC or outside RUN. -/
def State.decideTakeover (s : State) (c : Nat) : State := if s.ps = psRUN then s.takeover c else s.parRaise c 10

/-- R281: silence, with `SILENT_TKO`: takeover when two or more direct ports to the protected module left UP within 100 µs of the
first; otherwise a split, on which nothing is taken over, as in DIVERGED (R46). -/
def State.judgeSilence (s : State) (c : Nat) : State :=
  let b := s.fld (fLE_PAR_STAGE_PARTNER c)
  let direct := (firstBelow (fun p => s.pst p == pUP && s.peer p == b) 4).isSome
  let gone := ([0, 1, 2, 3].filter (fun p =>
    s.pst p != pUP && (s.port p).lastPeer == b && decide ((s.parC c).setAt ≤ (s.port p).leftAt + 100 * usU))).map (fun p => (s.port p).leftAt)
  let first := gone.foldl min s.now
  if s.ts ≠ tDIVERGED ∧ s.pstate c = 4 ∧ (s.parC c).quiet ∧ s.on (fLE_PAR_CFG_SILENT_TKO c) ∧ ¬ direct ∧ 2 ≤ gone.length
      ∧ gone.all (fun t => decide (t ≤ first + 100 * usU)) then s.decideTakeover c
  else s

/-- R63, R64, R281: a port's link is lost, and the silence of a watched cell is judged with it. -/
def portLoss (s : State) (p : Nat) (why : LinkLoss) : State := (portLinkLoss s p why).each State.judgeSilence 4

def execPortLinkLoss (p : Fin 4) (why : LinkLoss) (s : State) : Outcome State Fault Refusal := .next (s.lit (portLoss s p why))

/-- R279: no complete part set for `MIR_TMO` samples. -/
def mirrorTimeout (s : State) (c : Nat) : State :=
  if s.pstate c = 4 then ((s.modPar c (fun q => { q with quiet := true })).parRaise c 5).judgeSilence c else s

def execMirrorTimeout (c : Fin 4) (s : State) : Outcome State Fault Refusal := .next (s.lit (mirrorTimeout s c.val))

/-- A mirrored slot leaves the receive buffers. -/
def dropMirror (x : Slot) : List (Nat × Slot) → List (Nat × Slot)
  | [] => []
  | (k, y) :: t => if k = 2 ∧ y = x then t else (k, y) :: dropMirror x t

def State.takeMirror (s : State) (x : Slot) : State :=
  match firstBelow (fun p => (s.port p).rx.any (fun e => e.1 == 2 && e.2 == x)) 4 with
  | some p => s.modPort p (fun q => { q with rx := dropMirror x q.rx, freed := q.freed + 1 })
  | none => s

/-- R278: a slot carries part `k` of the set of cell `m` of module `b` for this module. -/
def State.mirrorOk (s : State) (x : Slot) (b m k : Nat) : Bool :=
  slotN x 0 1 == s.own && slotN x 1 1 == b && slotN x 2 1 / 64 == m && slotN x 2 1 % 8 == k
    && crc8 (bytesOf 31 x.toNat) == slotN x 31 1

/-- R278: six slots are one complete part set for standby cell `c`. -/
def State.setOk (s : State) (c : Nat) (l : List Slot) : Bool :=
  let b := s.fld (fLE_PAR_STAGE_PARTNER c)
  let m := s.fld (fLE_PAR_STAGE_PCELL c)
  s.fld (fLE_PAR_CFG_ROLE c) == 3 && b != 255 && (List.range 6).all (fun k => s.mirrorOk (l.getD k 0) b m k)
    && l.all (fun x => slotN x 30 1 == slotN (l.getD 0 0) 30 1)

/-- R279: the gate channels of the cell are ARMED and its SD inputs ACTIVE. -/
def State.watchReady (s : State) (c : Nat) : Bool :=
  (firstBelow (fun o => s.cellHas c o && s.gst o != gARMED) 24).isNone
    && (firstBelow (fun n => s.sdUsed n && s.sdCell n == c && !s.on (fSNS_SD_STATUS_ACTIVE n)) 48).isNone

/-- R279, R281: a complete part set arrives at a standby cell. -/
def mirroredStreamReceive (s : State) (c : Nat) (l : List Slot) : State :=
  let s := s.forEach State.takeMirror l
  let x := s.pstate c
  if ¬ s.setOk c l ∨ (s.parC c).took ∨ (x ≠ 0 ∧ x ≠ 4) then s
  else
    let p5 := part l 5
    if p5 / 2 ^ 16 % 2 ^ 32 ≠ s.rdN (rLE_PAR_DIGEST c) ∨ p5 / 2 ^ 56 % 65536 ≠ s.fld (fLE_PAR_STAGE_STAGE_ID c) then
      (s.setPstate c 8).parRaise c 10
    else
      let s := s.modPar c (fun q => { q with parts := l, quiet := false, setAt := s.now })
      let s := if x = 0 ∧ s.watchReady c then s.setPstate c 4 else s
      if s.pstate c = 4 ∧ bit (part l 0) 0 then s.decideTakeover c else s

def execMirroredStreamReceive (c : Fin 4) (p0 p1 p2 p3 p4 p5 : Slot) (s : State) : Outcome State Fault Refusal :=
  .next (s.lit (mirroredStreamReceive s c.val [p0, p1, p2, p3, p4, p5]))

/-- The modules that hear TAKEN: the lead and every member, this module apart. -/
def State.machineMates (s : State) (c : Nat) : List Nat :=
  (List.range 64).filter (fun b => b != s.own && (b == (s.parC c).lead || (firstBelow (fun j => s.memBurgee c j == b) 8).isSome))

/-- R282 steps 4–6. -/
def takeoverSelectEnd (s : State) (c : Nat) : State :=
  if s.pstate c ≠ 5 then s
  else
    let q := s.parC c
    let s := if s.bst c ≠ bIDLE then s
      else if s.bmode c = 1 then s.bEnable c true
      else (s.setBst c bRESYNC).modBnd c (fun x => { x with edges := [], sent := [] })
    let pay := s.fld (fLE_PAR_CFG_MACHINE c) + q.orig * 2 ^ 8 + q.origCell * 2 ^ 16 + s.own * 2 ^ 24 + c * 2 ^ 32 + s.fld (fLE_PAR_GEN_MGEN c) * 2 ^ 40
    let s := s.forEach (fun s b => s.emit (s.toSelector1 b 0x12 pay)) (s.machineMates c)
    (s.parRaise c 6).setPstate c (if s.role c = 0 then 0 else 2)

def execTakeoverSelectEnd (c : Fin 4) (s : State) : Outcome State Fault Refusal := .next (s.lit (takeoverSelectEnd s c.val))

/-- R280: 1 ms of GIVE without a FENCE: SS1, and GIVE ends with it. -/
def giveTimeout (s : State) (c : Nat) : State := if s.pstate c = 6 then (s.setPstate c (s.roleState c)).requestSs1 c else s

def execGiveTimeout (c : Fin 4) (s : State) : Outcome State Fault Refusal := .next (s.lit (giveTimeout s c.val))

/-! ### Split and rejoin (R286–R288) -/

/-- R286: `SHARE_TMO` samples without a share. -/
def shareTimeout (s : State) (c : Nat) : State :=
  if s.role c = 2 ∧ s.pstate c = 2 ∧ s.fld (fLE_PAR_TIMING_SHARE_TMO c) ≤ (s.parC c).silent then
    ((s.setPstate c 3).modPar c (fun q => { q with rejoin := false })).parRaise c 3
  else s

def execShareTimeout (c : Fin 4) (s : State) : Outcome State Fault Refusal := .next (s.lit (shareTimeout s c.val))

/-- Another module is reached: it is this one, or a route leads to it (R512). -/
def State.reached (s : State) (b : Nat) : Bool := b == s.own || (s.route b).isSome

/-- R288: REJOIN. -/
def rejoin (s : State) (c timeOk : Nat) : State :=
  s.cmdBiv (rLE_PAR_CMD c) 2 (fun s =>
    let listed := (List.range 8).filter (fun j => s.memBurgee c j != 255 && !(s.memBurgee c j == s.own && s.memCell c j == c))
    let bad := listed.any (fun j => (s.member c j).droop && (!s.reached (s.memBurgee c j) || !bit timeOk j))
    if s.role c ≠ 1 ∨ s.ps ≠ psRUN ∨ bad then (stREFUSED, s)
    else
      let s := s.setF (fLE_PAR_GEN_MGEN c) (nextGen (s.fld (fLE_PAR_GEN_MGEN c)))
      let s := s.forEach (fun s j =>
        let s := s.modMember c j (fun m => { m with gen := nextGen m.gen })
        let m := s.member c j
        let s := s.sendAccept c (s.memBurgee c j) (s.memCell c j) m.gen 0
        if m.droop then s.modMember c j (fun m => { m with droop := false, pst := 2, aliveAt := s.now, join := some m.tq.natAbs }) else s) listed
      (stDONE, s.syncHoist c))

def execRejoin (c : Fin 4) (timeOk : BitVec 8) (s : State) : Outcome State Fault Refusal := .next (s.lit (rejoin s c.val timeOk.toNat))

/-- R285: HANDBACK commanded at the cell that took over. -/
def parHandback (s : State) (c : Nat) (fenced : Bool) : State :=
  s.cmdBiv (rLE_PAR_CMD c) 3 (fun s =>
    let q := s.parC c
    if ¬ q.took ∨ s.pstate c = 5 ∨ s.bst c ≠ bIDLE ∨ ¬ fenced ∨ ¬ s.reached q.orig then (stREFUSED, s)
    else
      let g := nextGen (s.fld (fLE_PAR_GEN_G c))
      let s := ((s.cellHold c).setF (fLE_PAR_GEN_G c) g).setOwner c q.orig g
      let s := (s.auxOff (s.fld (fLE_PAR_TKO_TKO_AUX c))).clr (fLE_PAR_STATUS_TKO_SEL c)
      (stBUSY, s.modPar c (fun q => { q with handing := true })))

def execParHandback (c : Fin 4) (fenced : Bool) (s : State) : Outcome State Fault Refusal := .next (s.lit (parHandback s c.val fenced))

/-- R285: `SEL_DELAY` has passed: HANDBACK goes out, and the cell watches again from the next part set. -/
def handbackSelectEnd (s : State) (c : Nat) : State :=
  let q := s.parC c
  if ¬ q.handing then s
  else
    let b := q.orig
    let s := s.emit { s.fenceRec c b (s.fld (fLE_PAR_GEN_G c)) b 3 with opcode := 0x13 }
    let s := (s.modPar c (fun q => { q with handing := false, took := false, orig := 255, origCell := 0 })).setPstate c 0
    s.cmdEnd (rLE_PAR_CMD c) stDONE

def execHandbackSelectEnd (c : Fin 4) (s : State) : Outcome State Fault Refusal := .next (s.lit (handbackSelectEnd s c.val))

def parClearCounters (s : State) (c : Nat) : State :=
  s.cmd (rLE_PAR_CMD c) 1 (fun s => (stDONE, s.zero [rLE_PAR_CNT_ABORT c, rLE_PAR_CNT_SHORT c, rLE_PAR_CNT_STALE c]))

def execParClearCounters (c : Fin 4) (s : State) : Outcome State Fault Refusal := .next (s.lit (parClearCounters s c.val))

end Sys2Proof.Machine
end

