-- ==== Sys2Proof/Machine/Load.lean ====
section
/-! DEFINITION. The load step of Pitch (R426 step 7): each block as it stands once the configuration is in force, the power domains of R441
and the reserved CAN buffers of R382. -/
namespace Sys2Proof.Machine

/-! ### Power domains (R441) -/

/-- A domain that has failed stays off until the next Pitch (R443). -/
def State.domUp (s : State) (d : Nat) : State :=
  if bit (s.rdN (rPWR_DOM_FAIL (d / 32))) (d % 32) then s else s.setDom d true

/-- The position block has a signal to watch. -/
def State.posUsed (s : State) : Bool :=
  (List.range 6).any (fun h => s.on (fPOS_HALL_CFG_ENABLE h))
    || (List.range 4).any (fun i => s.on (fPOS_IDX_CFG_ENABLE i) || s.on (fPOS_PRB_CFG_ENABLE i))
    || (List.range 2).any (fun k => s.rdN (rPOS_HPT_SRC k) % 65536 != 0xFFFF)

/-- The domains of used units and spares, on from step 7 (R441). -/
def State.domUsed (s : State) (d : Nat) : Bool :=
  if d = 28 then (List.range 12).any (fun n => s.legN n != 0) || (List.range 8).any (fun k => s.on (fEDG_CAR_CFG_ENABLE k))
  else if 29 ≤ d ∧ d < 33 then s.cellUsed (d - 29)
  else if 33 ≤ d ∧ d < 43 then (if d < 41 then s.cellUsed ((d - 33) / 2) else true)
  else if 43 ≤ d ∧ d < 48 then (if d < 47 then s.cellUsed (d - 43) else true)
  else if 56 ≤ d ∧ d < 60 then s.on (fCAN_CFG_ENABLE (d - 56))
  else if 60 ≤ d ∧ d < 108 then d % 2 == 0
  else if 120 ≤ d ∧ d < 126 then d == 125 || s.on (fSNS_GROUP_CFG_ENABLE (d - 120))
  else if 126 ≤ d ∧ d < 130 then
    (List.range 16).any (fun n => n / 8 == (d - 126) / 2 && s.fld (fSNS_AN_CFG_ROLE n) != 0)
  else if d = 130 then s.posUsed
  else false

def State.domsAtLoad (s : State) : State :=
  s.each (fun s d => if s.domUsed d then s.domUp d else if 56 ≤ d ∧ d < 60 then s.setDom d false else s) 132

/-! ### Sensing and position -/

/-- R23, R94, R96, R101: each input in use has its decimator, whose first entries settle; comparators ignore their first values. -/
def State.loadInput (s : State) (n : Nat) : State :=
  if s.sdUsed n then
    let s := ((s.set1 (fSNS_SD_STATUS_ACTIVE n)).winRestart n).setF (fSNS_DEC_CFG_INPUT n) n
    (s.setF (fSNS_DEC_STATUS_STATE n) dSERVING).settleDec n (s.decK n + 1)
  else (s.setF (fSNS_DEC_CFG_INPUT n) 63).setF (fSNS_DEC_STATUS_STATE n) dIDLE

/-- The spare decimators, and the input whose decimator is shadowed first (R105). -/
def State.loadSns (s : State) : State :=
  let s := s.each State.loadInput 48
  let s := s.each (fun s k => (s.setF (fSNS_DEC_CFG_INPUT (48 + k)) 63).setF (fSNS_DEC_STATUS_STATE (48 + k)) dSPARE) 4
  (s.setF fSNS_SPARES_ROT_NEXT ((firstBelow (fun m => s.sdUsed m) 48).getD 255)).noteSpares

/-- R128. -/
def State.loadPos (s : State) : State :=
  s.each (fun s h => s.setF (fPOS_HALL_STATUS_STATE h) (if s.on (fPOS_HALL_CFG_ENABLE h) then hUNKNOWN else hUNUSED)) 6

/-! ### Legs and cells -/

/-- R149: one dead time; whether it was raised. -/
def State.clampDt (s : State) (f : Fld) : State × Bool := if s.fld f < 50 then (s.setF f 50, true) else (s, false)

/-- R149: the dead times of a leg; pair B exists in three-level legs alone. -/
def State.loadLeg (s : State) (n : Nat) : State :=
  let t := s.legType n
  let s := if t = 2 ∨ t = 3 then s else s.wr (rEDG_LEG_DTB n) 0
  if t = 1 ∨ t = 2 ∨ t = 3 then
    let a := s.clampDt (fEDG_LEG_DTA_DT_UP n)
    let b := a.1.clampDt (fEDG_LEG_DTA_DT_DN n)
    let c := if t = 1 then (b.1, false) else b.1.clampDt (fEDG_LEG_DTB_DT_UP n)
    let d := if t = 1 then (c.1, false) else c.1.clampDt (fEDG_LEG_DTB_DT_DN n)
    if a.2 || b.2 || c.2 || d.2 then (d.1.set1 (fEDG_LEG_STATUS_DT_CLAMPED n)).raise 0x050A (0x20 + n) else d.1
  else s

/-- R186, R193, R209, R211: a used cell's regulator is IDLE in the mode and bank of the image. -/
def State.loadBnd (s : State) (c : Nat) : State :=
  if ¬ s.cellUsed c then s
  else
    let s := ((s.setBst c bIDLE).setF (fBND_STATUS_MODE c) (s.fld (fBND_CFG_MODE c))).setF (fBND_STATUS_BANK c) (s.fld (fBND_CFG_BANK c))
    let s := s.wrN (rBND_TMAG_RT c) (s.fld (fBND_MAGNET_T_REF c))
    s.wrN (rBND_HBAND c) (s.fld (fBND_ADAPT_H_MIN c))

/-- R220: the start procedure. -/
def State.loadStart (s : State) (c : Nat) : State := if s.cellUsed c ∧ s.method c ≠ 3 then s.setSst c sSTOPPED else s

/-- R232: the DC-link procedure. -/
def State.loadDcl (s : State) : State :=
  s.setDst (if s.fld fBND_DCL_CFG_PRE_AUX = 15 ∨ s.fld fBND_DCL_CFG_MAIN_AUX = 15 then 0 else 1)

/-! ### Loop engines and machines -/

/-- R252, R254: the thresholds of descriptor 7 are those of the chopper leg, whatever the image says, in codes of the cell's `V_BASE` (of 0, or for
LE4, which has no cell, not stated); a HYST output is `OUT_MIN`. -/
def State.loadDesc7 (s : State) (n : Nat) : State :=
  let base := if n < 4 then s.vBase n else 0
  let hi := unsW 16 (voltCode (s.fld fBND_DCL_CHOP_CH_ON) base (Config.freeAt s.free 34))
  let lo := unsW 16 (voltCode (s.fld fBND_DCL_CHOP_CH_OFF) base (Config.freeAt s.free 35))
  (s.wrN (rLE_DESC n 62) (hi * 65536 + lo)).each (fun s d => if s.dLAW n d = 1 then s.keepY n d (s.dMIN n d) else s) 8

/-- R238, R244, R260: a used cell's engine is IDLE in the mode and banks of the image. -/
def State.loadLe (s : State) (n : Nat) : State :=
  if ¬ s.cellUsed n then s
  else
    let s := ((s.setEst n eIDLE).setF (fLE_STATUS_MODE n) (s.fld (fLE_CFG_MODE n))).setF (fLE_STATUS_BANK n) (s.fld (fLE_CFG_BANK n))
    let s := s.setF (fLE_STATUS_TAB_BANK n) (s.fld (fLE_CFG_TAB_BANK n))
    (s.needLines n 0).setServes n n

/-- A register that enters the cell digest of R266: access LOCK or reset "image". -/
def digested (a : Nat) : Bool :=
  match rowAt a with
  | some r => r.acc = .lock || !(r.fieldsAt a).isEmpty
  | none => false

/-- The addresses of `n` words from `a` that enter the digest. -/
def digestRun (a n : Nat) : List Nat := ((List.range n).map (fun k => a + 4 * k)).filter digested

/-- R266: the cell digest. -/
def State.cellDigest (s : State) (c : Nat) : Nat :=
  let l := (digestRun (rLE_CFG c) 128 ++ digestRun (rBND_CFG c) 1312 ++ digestRun (rBND_CFG c + 0x2000) 8).filter (fun a => a ≠ rLE_SRC c ∧ a ≠ rBND_SRC c)
  let car := match s.bCar c with
    | some k => [rEDG_CAR_CFG k]
    | none => []
  crc32c ((l ++ car).flatMap (fun a => bytesOf 4 (s.rdN a)))

/-- R265–R268, R275: role, members and owner of a used cell at Pitch. -/
def State.loadPar (s : State) (c : Nat) : State :=
  if ¬ s.cellUsed c then s
  else
    let r := s.fld (fLE_PAR_CFG_ROLE c)
    let s := s.setPstate c (if r = 1 then 2 else if r = 2 then 1 else 0)
    let s := s.wrN (rLE_PAR_DIGEST c) (s.cellDigest c)
    let s := s.modPar c (fun q => { q with lead := s.memBurgee c 0 })
    let s := if r = 1 then ((s.setActive c 1).setF (fLE_PAR_CAP_CAP c 0) (s.memMax c 0)).modMember c 0 (fun m => { m with gen := 1 }) else s
    s.setOwner c (if r = 3 then s.fld (fLE_PAR_STAGE_PARTNER c) else s.own) 1

/-! ### Field processors (R23, R290, R295) -/

/-- `fw` and `sbx` are the firmware and the sandbox section of the image. -/
def State.loadFp (s : State) (fw sbx : List Nat) (f : Nat) : State :=
  let start := fun (s : State) => (s.modCore f (fun c => (c.filled fw sbx))).setF (fFP_GEN_FGEN f) 1
  if 8 ≤ f then ((start s).setF (fFP_STATUS_STATE f) 2).setF (fFP_STATUS_ROLE f) 2
  else if s.cellUsed (f / 2) then
    let s := ((start s).setF (fFP_STATUS_STATE f) 1).setF (fFP_STATUS_ROLE f) (f % 2)
    let s := ((s.setF (fFP_STATUS_CELL f) (f / 2)).set1 (fFP_STATUS_CELL_VALID f)).setF (fFP_STATUS_WRES f) 1
    s.modCore f (fun c => { c with pc := (Config.fpEntry false).toNat })
  else s

/-! ### Reserved CAN buffers (R382) -/

/-- The data phase of a channel is the faster one. -/
def State.canFast (s : State) (n : Nat) : Nat := if s.canDataBit n < s.canBit n then 1 else 0

/-- A buffer as hardware sets it: transmit or receive, base identifier, FD, length code. -/
def State.canSet (s : State) (n b : Nat) (tx : Bool) (ident dlc brs : Nat) : State :=
  let s := ((s.wr (rCAN_MB_CFG n b) 0).set1 (fCAN_MB_CFG_EN n b)).setB (fCAN_MB_CFG_DIR n b) tx
  let s := ((s.set1 (fCAN_MB_CFG_FDF n b)).setF (fCAN_MB_CFG_BRS n b) brs).setF (fCAN_MB_CFG_DLC n b) dlc
  let s := (s.wrN (rCAN_MB_ID n b) (ident * 262144)).wr (rCAN_MB_MASK n b) 0x1FFC0000
  s.wr (rCAN_MB_FWD n b) 0

/-- R342, R348, R375, R391, R463. -/
def State.loadCan (s : State) (n : Nat) : State :=
  let fast := s.canFast n
  let s := if n < 2 ∧ s.on fSI_SF_CFG_SF_EN then
      (s.canSet n 0 false (s.fld fSI_SF_CANID_SF_CMD_ID) 15 fast).canSet n 1 true (s.fld fSI_SF_CANID_SF_STS_ID) 15 fast else s
  let s := if n < 2 then s.canSet n 2 true (s.fld fFLT_CFG_BIV_CANID) 10 fast else s.wr (rCAN_WUF_CFG n) 0
  let s := if s.on (fCAN_STS_CFG_STS_EN n) then
      s.each (fun s c => s.canSet n (3 + c) true (s.fld (fCAN_STS_CFG_STS_ID n) + c) 14 (s.fld (fCAN_STS_CFG_BRS n))) 4 else s
  if n = 3 ∧ s.on (fCAN_CFG_MGT_EN 3) then (s.canSet 3 0 false (s.fld fMGT_CFG_REQ_ID) 13 fast).canSet 3 1 true (s.fld fMGT_CFG_RSP_ID) 13 fast else s

/-! ### The step -/

/-- R426 step 7 on the candidate configuration of the image in the slot at `base`. -/
def State.loadStep (s : State) (base : Nat) : State :=
  let m := s.key.flash
  let h := keyBytes m base 4096
  let s := { s with hq := { s.hq with loaded := true } }
  let s := s.setF fHAL_STATUS_OWN_BURGEE (s.fld fHAL_CFG_BURGEE)
  let s := s.notePool
  let s := ((s.loadSns).loadPos).each State.loadLeg 12
  let s := ((s.each State.loadBnd 4).each State.loadStart 4).loadDcl
  let s := (((s.each State.loadLe 4).each State.loadDesc7 5).each State.leMirror 4).setEst 4 eSPARE
  let s := s.each State.loadPar 4
  let s := s.each (fun s c => if s.cellUsed c then s.setStep c 16 else s) 4
  let s := s.each (fun s f => s.loadFp (sectOf m base 5) (sectOf m base 6) f) 10
  let s := s.each State.loadCan 4
  let s := (s.noteChop).domsAtLoad
  let s := (s.wrN rPCH_IMAGE (leAt h 6 2 * 65536 + leAt h 4 2 % 256 * 256 + hdrRollback h))
  ((s.wrN rPCH_BUILD_LO (leAt h 24 4)).wrN rPCH_BUILD_HI (leAt h 28 4)).set1 fPCH_STATUS_LOADED

end Sys2Proof.Machine
end

