-- ==== Sys2Proof/Machine/Key.lean ====
section
/-! DEFINITION. The Pitch key at run time: what J15 shows, which writes may be made, and the writes of descriptor, floors and count that Pitch,
commands and updates owe (R414, R415, R422, R423). -/
namespace Sys2Proof.Machine

def State.modKey (s : State) (f : KeySt → KeySt) : State := { s with key := f s.key }

/-- Fault 0x0E01 + k with its event bit. -/
def State.pchRaise (s : State) (k : Nat) (detail : BitVec 64) : State := (s.setBit rPCH_EVENTS k).raiseD (0x0E01 + k) 255 detail

/-- R414, R415, R443, R457: key writes are allowed. -/
def State.keyWritable (s : State) : Bool := s.mpRuns && s.key.present && s.key.answers && !s.key.foreign && !s.hk.deferred && s.domOn 8

/-- R457: a key write is deferred for temperature. -/
def State.noteDeferred (s : State) : State := if s.hk.deferred then s.pchRaise 8 0 else s

/-- What J15 holds from now on. -/
def State.plug (s : State) (k : KeyAtJ15) : State :=
  match k with
  | .absent => s.modKey (fun q => { q with present := false, answers := false })
  | .dead => s.modKey (fun q => { q with present := true, answers := false })
  | .same => s.modKey (fun q => { q with present := true, answers := true })
  | .other l => s.modKey (fun q => { q with present := true, answers := true, flash := flashOf l })

/-- The descriptor that the next write brings, else the one in force. -/
def KeySt.next (q : KeySt) : Desc := q.want.getD q.desc

/-- `PCH_SLOTS`, `PCH_FLOORS`: the states as decided, the sequence in force. -/
def State.showSlots (s : State) : State :=
  let d := s.key.next
  let s := s.wrN rPCH_SLOTS (s.key.desc.dseq * 65536 + d.stB % 8 * 256 + d.stA % 8)
  s.wrN rPCH_FLOORS (s.key.fuses % 256 * 256 + s.key.desc.floor % 256)

/-- A descriptor change that the next write brings. -/
def State.wantDesc (s : State) (d : Desc) : State :=
  (s.modKey (fun q => { q with want := if d = q.desc then none else some d })).showSlots

/-- R422: the descriptor makes an image ACTIVE that was PENDING. -/
def becomesActive (old new : Desc) : Bool :=
  [0, 1].any (fun k => old.st k == slPENDING && new.st k == slACTIVE)

/-- A write has succeeded: 0x0E08 ends (R360). -/
def State.keyWrote (s : State) : State :=
  if s.key.failed then (s.modKey (fun q => { q with failed := false })).raiseCleared 0x0E08 255 0 else s

/-- R432: a program or erase reports an error, or its read-back differs. -/
def State.keyFail (s : State) : State := (s.modKey (fun q => { q with failed := true })).pchRaise 7 0

/-- R413, R422, R423: the wanted descriptor into the other copy with DSEQ + 1, and the fuses with it. -/
def State.writeDesc (s : State) (fails : Bool) : State :=
  match s.key.want with
  | none => s
  | some d =>
    if ¬ s.keyWritable then s
    else if fails then s.keyFail
    else
      let q := s.key
      let d := { d with dseq := (q.desc.dseq + 1) % 65536 }
      let k := if q.copy = 0 then 1 else 0
      let m := flashPut (flashErase q.flash (4096 * k) 4096) (4096 * k) d.bytes
      let f := if becomesActive q.desc d then max q.fuses d.floor else q.fuses
      ((s.modKey (fun q => { q with flash := m, desc := d, copy := k, want := none, fuses := f })).showSlots).keyWrote

/-- R414: the count appended to the journal. -/
def State.writeCount (s : State) (fails : Bool) : State :=
  if ¬ s.key.pccPending ∨ ¬ s.keyWritable then s
  else if fails then s.keyFail
  else (s.modKey (fun q => { q with flash := journalAppend q.flash (s.rdN rPCH_PCC), pccPending := false })).keyWrote

/-! ### Update data (R474) -/

def State.modMgt (s : State) (f : MgtSt → MgtSt) : State := { s with mgt := f s.mgt }

/-- Up to 16 bytes of slot `k` at an offset; the 64 KiB sector is erased when its first bytes come. -/
def State.progImage (s : State) (k o : Nat) (data : List Nat) : State :=
  let a := slotBase k + o
  s.modKey (fun q => { q with flash := flashPut (if o % 65536 = 0 then flashErase q.flash a 65536 else q.flash) a data })

/-- The buffered cells are programmed once writes are allowed. -/
def State.updDrain (s : State) : State :=
  match s.mgt.upd with
  | none => s
  | some u =>
    if u.buf.isEmpty ∨ ¬ s.keyWritable then s
    else ((s.forEach (fun s e => s.progImage u.slot e.1 e.2) u.buf).modMgt (fun q => { q with upd := some { u with buf := [] } })).keyWrote

end Sys2Proof.Machine
end

