-- ==== Sys2Proof/Machine/Log.lean ====
section
/-! DEFINITION. The Pennant log in the key ring (R468–R471). -/
namespace Sys2Proof.Machine

open Host (Outcome)

/-- Fault 0x1101 + k with its event bit. -/
def State.mgtNote (s : State) (k : Nat) : State := s.setBit rMGT_EVENTS k

/-- Key-ring slots (R469), and the key address of one. -/
def ringSlots : Nat := 524288
def ringAt (h : Nat) : Nat := 0x06000000 + 32 * h

def State.head (s : State) : Nat := s.rdN rMGT_LOG_HEAD % ringSlots

/-- The conditions of R468, but for the search of R469. -/
def State.flushOk (s : State) : Bool :=
  (s.ps == psREADY || s.ps == psRUN || s.ps == psHALT) && s.keyWritable && s.key.known && !s.key.pccPending

/-- Pennants not yet flushed. -/
def State.unflushed (s : State) : Nat := (s.rdN rFLT_RING_WR + 2 ^ 32 - s.rdN rFLT_RING_FLUSH) % 2 ^ 32

/-- R471: Pennants that were overwritten are passed over. -/
def State.catchUp (s : State) : State := if 4096 < s.unflushed then s.wrN rFLT_RING_FLUSH (s.rdN rFLT_RING_WR + 2 ^ 32 - 4096) else s

/-- The bytes of the `n` oldest Pennants in ring order. -/
def State.oldest (s : State) (n : Nat) : List Nat :=
  (List.range n).flatMap (fun k => match s.flt.ring.at none ((s.rdN rFLT_RING_FLUSH + k) % 4096) with
    | some p => p.bytes
    | none => List.replicate 32 255)

/-- R469: in the last 256 slots of a sector the next one is made erased. -/
def State.eraseAhead (s : State) : State :=
  let h := s.head
  if 1792 ≤ h % 2048 then
    s.modKey (fun q => { q with flash := flashErase q.flash (ringAt ((h / 2048 + 1) * 2048 % ringSlots)) 65536 })
  else s

def State.setHead (s : State) (h : Nat) : State := (s.wrN rMGT_LOG_HEAD (2 ^ 31 + h % ringSlots)).eraseAhead

/-- A page is programmed and reads back. -/
def State.pageGood (s : State) (n : Nat) : State :=
  let h := s.head
  let s := s.modKey (fun q => { q with flash := flashPut q.flash (ringAt h) (s.oldest n) })
  let s := (s.wrN rFLT_RING_FLUSH (s.rdN rFLT_RING_FLUSH + n)).modMgt (fun q => { q with fails := 0 })
  (s.setHead (h + n)).keyWrote

/-- R470: a page fails and is left with the bytes given; the third in a row stalls the log. -/
def State.pageBad (s : State) (n : Nat) (left : List Byte) : State :=
  let h := s.head
  let s := s.modKey (fun q => { q with flash := flashPut q.flash (ringAt h) ((left.take (32 * n)).map BitVec.toNat) })
  let s := ((s.inc rMGT_CNT_FLUSH_FAIL).keyFail).modMgt (fun q => { q with fails := q.fails + 1 })
  let s := s.setHead ((h / 8 + 1) * 8)
  if 3 ≤ s.mgt.fails then ((s.set1 fMGT_STATUS_LOG_STALLED).mgtNote 4).raise 0x1105 255 else s

/-- R468: one page, as many Pennants as it still takes. -/
def logFlushPage (s : State) (left : Option (List Byte)) : State :=
  if ¬ s.flushOk ∨ ¬ s.on fMGT_LOG_HEAD_HEAD_VALID ∨ s.on fMGT_STATUS_LOG_STALLED ∨ s.unflushed = 0 then s
  else
    let s := s.catchUp
    let n := min s.unflushed (8 - s.head % 8)
    match left with
    | none => s.pageGood n
    | some l => s.pageBad n l

def execLogFlushPage (left : Option (List Byte)) (s : State) : Outcome State Fault Refusal := .next (s.lit (logFlushPage s left))

/-- A key-ring slot reads all 0xFF bytes. -/
def slotFree (m : Sparse Byte) (h : Nat) : Bool := (keyBytes m (ringAt h) 32).all (· == 255)

/-- The lowest of `n` numbers from `k` on that satisfies `p`. -/
def firstFrom (p : Nat → Bool) : Nat → Nat → Option Nat
  | 0, _ => none
  | n + 1, k => if p k then some k else firstFrom p n (k + 1)

/-- R469: the head that the key ring shows; none where no rule gives one. -/
def headOf (m : Sparse Byte) : Option Nat :=
  let free := fun e => slotFree m (2048 * e)
  if (List.range 256).all free then some 0
  else match firstFrom (fun e => free e && !free ((e + 255) % 256)) 256 0 with
    | some e => some ((firstFrom (slotFree m) 2048 (2048 * ((e + 255) % 256))).getD (2048 * e))
    | none => none

/-- R469: after READY and before the first flush. -/
def logHeadSearch (s : State) : State :=
  if s.on fMGT_LOG_HEAD_HEAD_VALID ∨ ¬ s.flushOk then s
  else match headOf s.key.flash with
    | some h => s.setHead h
    | none => { s with free := s.free + 1 }.wrN rMGT_LOG_HEAD (2 ^ 31 + Config.freeAt s.free 32 % ringSlots)

def execLogHeadSearch (s : State) : Outcome State Fault Refusal := .next (s.lit (logHeadSearch s))

/-- Pages until the ring is flushed, the log stalls, or `n` pages are written. -/
def State.flushPages (s : State) : Nat → State
  | 0 => s
  | n + 1 => if s.unflushed = 0 then s else (logFlushPage s none).flushPages n

/-- R436: the whole ring is flushed, the raises that wait first; a failed page ends it. -/
def State.flushAll (s : State) (left : Option (List Byte)) : State :=
  let s := logHeadSearch s.writeRaises
  match left with
  | none => s.flushPages 4096
  | some l => logFlushPage s (some l)

end Sys2Proof.Machine
end

