-- ==== Sys2Proof/Machine/Pitch.lean ====
section
/-! DEFINITION. Pitch (R423–R427), the key during running (R414, R415), marking a slot (R423) and the set-point router (R428–R431). -/
namespace Sys2Proof.Machine

open Host (Outcome)

/-! ### Steps 1–6: key, slot, image -/

/-- R426 step 1, R442 step 6, R441: XTAL_A, PLL A and PLL B, SRAM1–15, the queue fabric and the CAN transceivers come on. -/
def State.pitchClocks (s : State) : State :=
  let s := s.wrN rCLK_STATUS (Nat.lor (s.rdN rCLK_STATUS) 0x1F)
  s.each (fun s d => if (5 ≤ d ∧ d < 28) ∨ (56 ≤ d ∧ d < 60) then s.domUp d else s) 132

/-- R425: slot `k` is refused. -/
def State.refuseSlot (s : State) (k : Nat) (r : Refuse) : State :=
  let x := match r.idx with
    | some i => (s, i % 65536)
    | none => ({ s with free := s.free + 1 }, Config.freeAt s.free 29 % 65536)
  let s := ((x.1.setF fPCH_REFUSAL_CODE r.code).setF fPCH_REFUSAL_SLOT k).setF fPCH_REFUSAL_INDEX x.2
  (s.wrN rPCH_REFUSAL_ADDR r.addr).pchRaise 0 (BitVec.ofNat 64 (r.code + k * 256 + r.addr % 4294967296 * 65536 + x.2 * 281474976710656))

/-- The last step of R426 that an image refused with `r` reached. -/
def stepOf (r : Refuse) (inHeader : Bool) : Nat :=
  if r.code = 1 then (if inHeader then 3 else 4) else if r.code ≤ 4 then 3 else if r.code ≤ 9 then 5 else 6

/-- R425: no slot passes. -/
def State.noImage (s : State) : State := ((s.set1 fPCH_STATUS_REFUSED).pchRaise 1 0).haltEntry 12

/-- R425: no slot state can be known; `a` the address of the first read that failed. -/
def State.noKey (s : State) (a : Nat) : State :=
  ((s.refuseSlot 0 ⟨1, a, some 0⟩).refuseSlot 1 ⟨1, a, some 0⟩).noImage

/-- The slots in turn: the first whose image passes, with the candidate configuration; a refused PENDING slot becomes BAD. -/
def State.trySlots (s : State) (bad : List Nat) (floor : Nat) : List Nat → State × Option Nat
  | [] => (s, none)
  | k :: t => match checkImage s bad floor (slotBase k) with
    | .ok c => (c.setF fPCH_STATUS_STEP 6, some k)
    | .error r =>
      let s := (s.refuseSlot k r).setF fPCH_STATUS_STEP (stepOf r (decide (r.addr < slotBase k + 4096)))
      (if s.key.next.st k = slPENDING then s.wantDesc (s.key.next.setSt k slBAD) else s).trySlots bad floor t

/-- R422, R423: what the passing image in slot `k` does to the slots and floors; `first` was tried first. -/
def State.slotPassed (s : State) (k first : Nat) : State :=
  let s := s.setF fPCH_STATUS_SLOT k
  let s := if k = first then s else (s.set1 fPCH_STATUS_FALLBACK).pchRaise 2 0
  let d := s.key.next
  if d.st k = slPENDING then
    let o := if d.st (1 - k) = slACTIVE then d.setSt (1 - k) slINACTIVE else d
    s.wantDesc { o.setSt k slACTIVE with floor := max o.floor (hdrRollback (keyBytes s.key.flash (slotBase k) 4096)) }
  else s

/-! ### Steps 8–10: supplies, diagnostics, removal means -/

/-- R161, R180: a channel's supply on and both drivers high-impedance for the diagnostics step. -/
def State.diagStart (s : State) (g : Nat) : State :=
  let s := if s.on (fGD_CFG_OWNED g) then s.setGst g gDIAG else s
  ((s.beginRun g).gateSupply g true).sink g

/-- Step 9 on the gate channels (R175, R179, R180): channels of an open loop are UNPLUGGED. -/
def State.pitchGates (s : State) (r : PitchRun) : State :=
  let s := s.setF fGD_HARNESS_CLOSED r.loops.toNat
  let s := s.each State.diagStart 24
  let s := s.each (fun s g => if s.loopOpen g then s.unplugChan g else s) 24
  let s := s.each (fun s g => let m := r.gate.getD g (0, 0, 0)
    s.diagResult g m.1 m.2.1 m.2.2.toNat) 24
  s.each State.sink 24

/-- Step 9 on the auxiliary outputs (R407, R441). -/
def State.pitchAux (s : State) (r : PitchRun) : State :=
  let s := s.each (fun s n => if s.amode n = 0 then s else (s.domUp (108 + n)).setAst n aDIAG) 12
  s.each (fun s n => let m := r.aux.getD n (0, 0, 0)
    auxDiagComplete s n m.1.toNat m.2.1.toNat m.2.2.toNat) 12

/-- Step 10 (R327, R331, R351): a removal not confirmed is an island FAULT; otherwise the island is ACTIVE with its inputs as they stand. -/
def State.pitchIsland (s : State) (r : PitchRun) : State :=
  match r.unconfirmed with
  | some _ => (s.siRaise 0x0A0E 255).islandFault
  | none =>
    let s := s.setF fSI_STATUS_ISTATE iACTIVE
    -- R161, R325: a channel that no cell owns has its supply enable, never its signal enable
    let s := s.each (fun s g => if (s.legOf g).isSome then s else s.setEnables g true false) 24
    let s := s.each State.pairEval 5
    let s := (s.siAll).each State.brakeApply 4
    ((cfgCrcCheck s).noteMode).noteSafe

/-! ### Step 12 -/

/-- R44, R63, R441: an enabled port leaves DISABLED. -/
def State.pitchPort (s : State) (p : Nat) : State :=
  if s.on (fHAL_PORT_CFG_ENABLE p) then ((s.domUp (48 + 2 * p)).domUp (49 + 2 * p)).portEnable p else s

/-- R426 step 12: the count starts, ports are enabled, READY; engines have their grid (R238). -/
def State.pitchReady (s : State) : State :=
  let s := { s with clk := { s.clk with counting := true } }
  let s := (s.setF fPWR_STATUS_STATE psREADY).setF fPCH_STATUS_STEP 12
  let s := if s.on fHAL_CFG_STANDALONE then (s.enterMaster).formTag else s.each State.pitchPort 4
  let s := s.each (fun s n => s.modLe n (fun e => { e with t0 := (s.now + usU - 1) / usU * usU, k := 0 })) 5
  let s := s.each (fun s n => if s.est n = eIDLE then s.leSnap n else s) 5
  s.each (fun s g => s.gateSupply g false) 24

/-! ### The sequence -/

/-- R426 from step 7 on, with the configuration of slot `k` as the candidate; what was raised before the load step is written before it
(R354, R425). -/
def State.pitchRun (s : State) (r : PitchRun) (k : Nat) : State :=
  let s := (s.writeRaises).loadStep (slotBase k)
  let s := (s.pitchGates r).pitchAux r
  let s := (s.setF fPCH_STATUS_STEP 10).pitchIsland r
  if s.ps ≠ psPITCH then s
  else
    let s := if s.key.want.isSome then s.noteDeferred else s
    (s.writeDesc r.badDesc).pitchReady

/-- R414, R426 step 2: descriptor and count. -/
def State.pitchKey (s : State) (r : PitchRun) : State :=
  let m := s.key.flash
  let x := descInForce m
  let s := s.modKey (fun q => { q with known := true, uid := x.2.uid, foreign := false, copy := x.1, desc := x.2, want := none, pccPending := true })
  let s := ((s.wrN rPCH_UID_LO x.2.uid).wrN rPCH_UID_HI (x.2.uid / 4294967296)).showSlots
  let s := (s.wrN rPCH_PCC (journalCount m r.badReads)).noteDeferred
  (s.writeCount r.badCount).setF fPCH_STATUS_STEP 2

/-- R426. -/
def pitchSequence (s : State) (r : PitchRun) : State :=
  if s.ps ≠ psPITCH then s
  else
    let s := ((s.plug r.key).pitchClocks).wrN rPCH_TIME r.ms.toNat
    let s := s.setF fPCH_STATUS_STEP 1
    if ¬ (s.key.present && s.key.answers) then (s.wrN rPCH_PCC 1).noKey 0xFFFFFFFF
    else match lowest r.badReads 0 64 <|> lowest r.badReads 4096 64 with
      | some a => (s.wrN rPCH_PCC (journalCount s.key.flash r.badReads)).noKey a
      | none =>
        let s := s.pitchKey r
        let l := slotOrder s.key.desc
        match s.trySlots r.badReads (max s.key.fuses s.key.desc.floor) l with
        | (s, some k) => (s.slotPassed k (l.headD k)).pitchRun r k
        | (s, none) =>
          let s := if s.key.want.isSome then s.noteDeferred else s
          (s.writeDesc r.badDesc).noImage

def execPitchSequence (run : PitchRun) (s : State) : Outcome State Fault Refusal := .next (s.lit (pitchSequence s run))

/-! ### The key while the module runs (R414, R415) -/

def keyRemoved (s : State) : State :=
  if ¬ s.key.present then s
  else
    let s := s.modKey (fun q => { q with present := false, answers := false, foreign := false })
    if s.mute then s else s.pchRaise 3 0

def execKeyRemoved (s : State) : Outcome State Fault Refusal := .next (keyRemoved s)

/-- R415: a key inserted again; the first one after a Pitch that read none is taken as the key of that Pitch. -/
def keyInserted (s : State) (k : KeyAtJ15) : State :=
  if s.key.present ∨ k = .absent then s
  else
    let s := s.plug k
    if ¬ s.key.answers ∨ s.mute then s
    else
      let x := descInForce s.key.flash
      if ¬ s.key.known then
        let s := s.modKey (fun q => { q with known := true, uid := x.2.uid, copy := x.1, desc := x.2 })
        ((s.wrN rPCH_UID_LO x.2.uid).wrN rPCH_UID_HI (x.2.uid / 4294967296)).showSlots
      else if x.2.uid = s.key.uid then s.raiseCleared 0x0E04 255 0
      else (s.modKey (fun q => { q with foreign := true })).pchRaise 4 0

def execKeyInserted (key : KeyAtJ15) (s : State) : Outcome State Fault Refusal := .next (keyInserted s key)

/-- R414, R423, R474: the writes that wait, count first. -/
def deferredKeyWrite (s : State) (fails : Bool) : State := ((s.writeCount fails).writeDesc fails).updDrain

def execDeferredKeyWrite (fails : Bool) (s : State) : Outcome State Fault Refusal := .next (s.lit (deferredKeyWrite s fails))

/-! ### PCH_CMD -/

def pchClearCounters (s : State) : State :=
  s.cmd rPCH_CMD 1 (fun s => (stDONE, s.zero [rPCH_CNT_SP, rPCH_CNT_SP_REF, rPCH_CNT_SP_LOST]))

def execPchClearCounters (s : State) : Outcome State Fault Refusal := .next (s.lit (pchClearCounters s))

/-- R423: the slot that is not in use is INACTIVE and its image clears both floors. -/
def State.mayMark (s : State) : Bool :=
  let k := 1 - s.fld fPCH_STATUS_SLOT
  let rb := hdrRollback (keyBytes s.key.flash (slotBase k) 4096)
  s.keyWritable && s.key.next.st k == slINACTIVE && decide (s.key.fuses ≤ rb ∧ s.key.desc.floor ≤ rb)

def markPending (s : State) (fails : Bool) : State :=
  s.cmdBiv rPCH_CMD 0x10 (fun s =>
    if s.mayMark then (stDONE, (s.wantDesc (s.key.next.setSt (1 - s.fld fPCH_STATUS_SLOT) slPENDING)).writeDesc fails)
    else (stREFUSED, s))

def execMarkPending (fails : Bool) (s : State) : Outcome State Fault Refusal := .next (s.lit (markPending s fails))

/-! ### The set-point router (R429–R431) -/

def State.spE (s : State) (e : Nat) : SpEnt := s.key.sp.at SpEnt.init e
def State.modSp (s : State) (e : Nat) (f : SpEnt → SpEnt) : State := s.modKey (fun q => { q with sp := q.sp.put SpEnt.init e (f (s.spE e)) })

/-- The router runs: READY and RUN, the management processor alive. -/
def State.routerOn (s : State) : Bool := (s.ps == psREADY || s.ps == psRUN) && !s.on fSI_STATUS_MP_LOST && s.mpRuns

/-- Entries of the map that take SRC `src` and buffer `b`. -/
def State.spFor (s : State) (src b : Nat) : List Nat := (List.range s.key.spN).filter (fun e => s.spN e 0 1 == src && s.spN e 1 1 == b)

/-- R430: the result of an entry on its item. -/
def State.spResult (s : State) (e : Nat) (data : List Nat) : Int :=
  let n := fmtBytes (s.spN e 3 1)
  let raw := ofBytes ((List.range n).map (fun k => data.getD (s.spN e 2 1 + k) 0))
  let item : Int := if bit (s.spN e 3 1) 2 then sgnW (8 * n) raw else raw
  clamp (sgn16 (s.spN e 12 2)) (sgn16 (s.spN e 14 2)) (roundAway (item * s.spN e 8 2) 4096 + sgn16 (s.spN e 10 2))

/-- The payload: the result, two bytes little-endian, over the template. -/
def State.spPayload (s : State) (e : Nat) (v : Int) : Nat :=
  let pp := s.spN e 7 1
  let x := q15 v
  ofBytes ((List.range 16).map (fun k =>
    if k = pp then x % 256 else if k = pp + 1 then x / 256 else if k < 8 then s.spN e (22 + k) 1 else 0))

/-- R430: the record of an entry; the generation of a queue of another module is not known here. -/
def State.spRec (s : State) (e : Nat) (v : Int) : State × Rec :=
  let t := s.spN e 4 2
  let r := s.unitRec t (s.spN e 6 1) (s.spPayload e v)
  if t < 0x8000 then (s, r)
  else if t / 512 % 64 = s.own then
    match s.localQueue t with
    | some q => (s, { r with gen := BitVec.ofNat 16 (s.qGen q) })
    | none => (s, r)
  else ({ s with free := s.free + 1 }, { r with gen := BitVec.ofNat 16 (Config.freeAt s.free 30) })

/-- A record is enqueued; a refusal is counted and reported. -/
def State.spSend (s : State) (e : Nat) (v : Int) : State :=
  let x := s.spRec e v
  let y := x.1.enqueue x.2
  if y.2 = 0 then (y.1.modSp e (fun q => { q with last := some (q15 v) })).inc rPCH_CNT_SP
  else ((y.1.inc rPCH_CNT_SP_REF).setBit rPCH_EVENTS 6).raiseSec 0x0E07 255

/-- R430, R431: an entry takes a frame. -/
def State.spTake (data : List Nat) (s : State) (e : Nat) : State :=
  let was := (s.spE e).stale
  let s := s.modSp e (fun q => { q with lastAt := s.now, stale := false })
  let s := if was then s.raiseCleared 0x0E06 255 0 else s
  let v := s.spResult e data
  if bit (s.spN e 3 1) 3 ∧ (s.spE e).last = some (q15 v) then s else s.spSend e v

/-- Frames not yet read of mapped buffers, by channel and buffer. -/
def State.spWaiting (s : State) : List (Nat × Nat) :=
  (((List.range s.key.spN).map (fun e => (s.spN e 0 1, s.spN e 1 1))).eraseReps).filter (fun p =>
    decide (p.1 < 4) && s.fld (fCAN_MB_STAT_CNT p.1 p.2) != s.key.spCnt.at 0 (p.1 * 128 + p.2))

/-- How long ago a buffer's frame began. -/
def State.spAge (s : State) (p : Nat × Nat) : Nat := (s.short + 2 ^ 40 - (s.rdN (rCAN_MB_TIME_LO p.1 p.2) + s.rdN (rCAN_MB_TIME_HI p.1 p.2) * 2 ^ 32) % 2 ^ 40) % 2 ^ 40

/-- R430: the frame that is next: earliest SOF, then lowest channel and buffer. -/
def State.spNext (s : State) : Option (Nat × Nat) :=
  s.spWaiting.foldl (fun m p => match m with
    | none => some p
    | some x => if s.spAge x < s.spAge p ∨ (s.spAge x = s.spAge p ∧ p.1 * 128 + p.2 < x.1 * 128 + x.2) then some p else some x) none

/-- R386, R430: one frame. -/
def State.spFrame (s : State) (n b : Nat) : State :=
  let cnt := s.fld (fCAN_MB_STAT_CNT n b)
  let jump := (cnt + 65536 - s.key.spCnt.at 0 (n * 128 + b)) % 65536
  let s := (s.incBy rPCH_CNT_SP_LOST (jump - 1)).clr (fCAN_MB_STAT_ND n b)
  let s := s.modKey (fun q => { q with spCnt := q.spCnt.put 0 (n * 128 + b) cnt })
  s.forEach (State.spTake (bytesOf 64 (s.canData n b))) (s.spFor n b)

/-- R430: one record of the management inbound queue. -/
def State.spInbound (s : State) (r : Rec) : State :=
  let s := s.consume 2 0x10 r.payload
  s.forEach (State.spTake (bytesOf 15 (Quad.from r.payload 1))) (s.spFor 0x10 (Quad.b r.payload 0))

def setpointRoute (s : State) (mgmt : Bool) : State :=
  if ¬ s.routerOn then s
  else if mgmt then
    match s.hq.passed.find? (fun p => p.1 == 2 && p.2.opcode == 0x10#8) with
    | some p => s.spInbound p.2
    | none => s
  else match s.spNext with
    | some p => s.spFrame p.1 p.2
    | none => s

def execSetpointRoute (mgmt : Bool) (s : State) : Outcome State Fault Refusal := .next (s.lit (setpointRoute s mgmt))

/-- R431. -/
def setpointTimeout (s : State) (e : Nat) : State :=
  if s.ps ≠ psRUN ∨ ¬ s.routerOn ∨ s.key.spN ≤ e ∨ s.spN e 16 2 = 0 ∨ (s.spE e).stale then s
  else
    let s := (s.modSp e (fun q => { q with stale := true })).pchRaise 5 0
    if s.spN e 18 1 = 1 then s.spSend e (sgn16 (s.spN e 20 2)) else s

def execSetpointTimeout (e : Fin 256) (s : State) : Outcome State Fault Refusal := .next (s.lit (setpointTimeout s e.val))

end Sys2Proof.Machine
end

