-- ==== Sys2Proof/Machine/Pwr.lean ====
section
/-! DEFINITION. Power states (R433–R439), domain failures (R443), clock watches (R446) and the commands of PWR and CLK. -/
namespace Sys2Proof.Machine

open Host (Outcome)

/-- A PWR fault with its event bit. -/
def State.pwrRaise (s : State) (f : Fld) (code u : Nat) : State := (s.set1 f).raise code u

/-! ### AUX24 (R434, R439) -/

def State.noteAux24 (s : State) (power volts : Nat) : State := s.wrN rPWR_AUX24 (power * 65536 + volts)

/-- R434: the dropout enters HALT from PITCH, READY, RUN and BIVOUAC. -/
def aux24Dropout (s : State) (power volts : Nat) : State :=
  let s := s.noteAux24 power volts
  if s.ps = psHALT then s else (s.pwrRaise fPWR_EVENTS_DROPOUT 0x0F02 255).haltEntry 13

def execAux24Dropout (power volts : BitVec 16) (s : State) : Outcome State Fault Refusal := .next (s.lit (aux24Dropout s power.toNat volts.toNat))

def aux24Low (s : State) (power volts : Nat) : State := (s.noteAux24 power volts).pwrRaise fPWR_EVENTS_LOW 0x0F01 255

def execAux24Low (power volts : BitVec 16) (s : State) : Outcome State Fault Refusal := .next (s.lit (aux24Low s power.toNat volts.toNat))

def aux24High (s : State) (power volts : Nat) : State := (s.noteAux24 power volts).pwrRaise fPWR_EVENTS_HIGH 0x0F03 255

def execAux24High (power volts : BitVec 16) (s : State) : Outcome State Fault Refusal := .next (s.lit (aux24High s power.toNat volts.toNat))

/-! ### RUN and READY (R435) -/

/-- A free value for `LAST_CAUSE`, whose codes name no cause for the transition. -/
def State.freeCause (s : State) : State × Nat := ({ s with free := s.free + 1 }, Config.freeAt s.free 31 % 256)

/-- R36, R435: the conditions for RUN. -/
def State.mayRun (s : State) : Bool := s.timeOk && s.ist == iACTIVE && !s.hal.barred

def State.enter (s : State) (ps cause : Nat) : State := (s.setF fPWR_STATUS_STATE ps).setF fPWR_STATUS_LAST_CAUSE cause

/-- `PWR_CMD` 0x0010. -/
def runCommand (s : State) : State :=
  s.cmd rPWR_CMD 0x10 (fun s =>
    if s.ps = psRUN then (stDONE, s)
    else if s.ps = psREADY ∧ s.mayRun then (stDONE, s.enter psRUN 9)
    else (stREFUSED, s))

def execRunCommand (s : State) : Outcome State Fault Refusal := .next (s.lit (runCommand s))

/-- The four conditions of R435 for READY. -/
def State.mayReady (s : State) : Bool :=
  (List.range 4).all (fun c => let b := s.fld (fBND_STATUS_STATE c)
    (b == 0 || b == 1 || b == 6) && s.fld (fLE_PAR_STATUS_PSTATE c) != 5)
    && (List.range 5).all (fun n => s.fld (fLE_STATUS_STATE n) != 2)
    && (let d := s.fld fBND_DCL_STATUS_DSTATE
    d != 2 && d != 3 && d != 5)

/-- `PWR_CMD` 0x0011; outside RUN and BIVOUAC the gates are held off (R161). -/
def readyCommand (s : State) : State :=
  s.cmd rPWR_CMD 0x11 (fun s =>
    if s.ps = psREADY then (stDONE, s)
    else if s.ps = psRUN ∧ s.mayReady then (stDONE, (s.enter psREADY 9).each State.sink 24)
    else (stREFUSED, s))

def execReadyCommand (s : State) : Outcome State Fault Refusal := .next (s.lit (readyCommand s))

/-- R435: the entry under `AUTO_RUN`. -/
def autoRunEntry (s : State) : State :=
  if s.ps = psREADY ∧ s.on fPWR_CFG_AUTO_RUN ∧ s.mayRun then s.freeCause.1.enter psRUN s.freeCause.2 else s

def execAutoRunEntry (s : State) : Outcome State Fault Refusal := .next (s.lit (autoRunEntry s))

/-! ### LISTEN, STOW and restart (R436, R437) -/

/-- R436: the conditions that do not concern the ring. -/
def State.maySleep (s : State) (listen : Bool) : Bool :=
  s.ps == psREADY && (s.fld fBND_DCL_STATUS_DSTATE == 0 || s.fld fBND_DCL_STATUS_DSTATE == 1) && s.keyWritable
    && (!listen || s.on fPWR_CFG_LSN_CAN0 || s.on fPWR_CFG_LSN_CAN1)

/-- R436: the ring is flushed, then the module powers down; where the flush fails it stays in READY. -/
def State.goSleep (s : State) (val : Nat) (listen : Bool) (flush : Option (List Byte)) : State :=
  if s.inBiv ∨ s.cmdStatus rPWR_CMD = stBUSY then s
  else if ¬ s.maySleep listen then s.cmdSet rPWR_CMD val stREFUSED
  else
    let t := s.flushAll flush
    if t.unflushed = 0 then t.sleep listen else t.cmdSet rPWR_CMD val stREFUSED

def listenCommand (s : State) (flush : Option (List Byte)) : State := s.goSleep 0x20 true flush

def execListenCommand (flush : Option (List Byte)) (s : State) : Outcome State Fault Refusal := .next (s.lit (listenCommand s flush))

def stowCommand (s : State) (flush : Option (List Byte)) : State := s.goSleep 0x21 false flush

def execStowCommand (flush : Option (List Byte)) (s : State) : Outcome State Fault Refusal := .next (s.lit (stowCommand s flush))

/-- R437: an ignored source. -/
def State.restartHeld (s : State) : State := (s.inc rPWR_CNT_RESTART_IGN).pwrRaise fPWR_EVENTS_RESTART_HELD 0x0F30 255

/-- R437: `PWR_CMD` 0x0030. -/
def restartCommand (s : State) (diode : Option (BitVec 16)) : State :=
  if s.inBiv ∨ s.cmdStatus rPWR_CMD = stBUSY then s
  else if s.ps ≠ psREADY ∧ s.ps ≠ psHALT then s.cmdSet rPWR_CMD 0x30 stREFUSED
  else if s.on fHK_TSD_TRIPPED then s.restartHeld.cmdSet rPWR_CMD 0x30 stREFUSED
  else s.restart 8 diode

def execRestartCommand (diode : Option (BitVec 16)) (s : State) : Outcome State Fault Refusal := .next (s.lit (restartCommand s diode))

/-- R437: the WAKE edge. -/
def restartEdge (s : State) (diode : Option (BitVec 16)) : State :=
  if s.ps ≠ psHALT ∧ ¬ s.inBiv then s
  else if s.on fHK_TSD_TRIPPED then s.restartHeld
  else s.restart 7 diode

def execRestartEdge (diode : Option (BitVec 16)) (s : State) : Outcome State Fault Refusal := .next (s.lit (restartEdge s diode))

/-- R437: a restart source would act now. -/
def State.restartOk (s : State) : Bool :=
  (s.ps == psREADY || s.ps == psHALT || s.inBiv) && !s.on fHK_TSD_TRIPPED

/-! ### Domain failures (R443) -/

/-- A sigma-delta group: its inputs are LOST, its decimators RETIRED; one that serves an input of another group fails for that input as
under R105. -/
def State.groupDead (s : State) (g : Nat) : State :=
  let s := s.each (fun s k => sdInputLost s (8 * g + k)) 8
  let mine := fun d => d / 8 == g || (g == 5 && 48 ≤ d)
  s.each (fun s d =>
    if ¬ mine d ∨ s.decState d = dRETIRED then s
    else if s.decState d = dSERVING ∧ s.decInput d / 8 ≠ g then decCheckError s d
    else s.retireDec d) 52

/-- R443: what a failed domain does to its units. -/
def State.domEffect (s : State) (d : Nat) : State :=
  if d = 2 then heartbeatLoss s
  else if d = 3 ∨ d = 4 then s.islandFault
  else if d = 8 then s
  else if 29 ≤ d ∧ d < 33 then s.giveOrSs1 (d - 29)
  else if 33 ≤ d ∧ d < 43 then (let f := d - 33
    if s.fpState f = fpHALTED ∨ s.fpState f = fpRETIRED then s else s.fpHalt f 0)
  else if 43 ≤ d ∧ d < 48 then (let n := d - 43
    if s.est n = eSPARE then (s.setEst n eFAILED).set1 (fLE_EVENTS_FAILED n) else leCheckError s n)
  else if 48 ≤ d ∧ d < 56 then (let p := (d - 48) / 2
    if s.pst p = pRETIRED then s else s.portRetire p)
  else if 56 ≤ d ∧ d < 60 then s.canBusOff (d - 56)
  else if 60 ≤ d ∧ d < 108 then primaryLinkFault s ((d - 60) / 2)
  else if 108 ≤ d ∧ d < 120 then (let n := d - 108
    let s := if n < 8 ∧ n % 2 = 0 then s.modAux n (fun q => { q with feedDead := true }) else s
    (if s.ast n = aRETIRED then s else s.auxRetire n).brakeLost n)
  else if 120 ≤ d ∧ d < 126 then s.groupDead (d - 120)
  else if 126 ≤ d ∧ d < 130 then s.sarRetire (d - 126)
  else if d = 130 then s.each State.hallLost 6
  else s.haltEntry 15

/-- The isolated side of a gate channel stands in the channel, any other domain in `PWR_DOM_ON`. -/
def State.domLive (s : State) (d : Nat) : Bool :=
  if 60 ≤ d ∧ d < 108 ∧ d % 2 = 1 then (s.gate ((d - 61) / 2)).supplyOn else s.domOn d

def State.domOff (s : State) (d : Nat) : State :=
  if 60 ≤ d ∧ d < 108 ∧ d % 2 = 1 then s.gateSupply ((d - 61) / 2) false else s.setDom d false

/-- R443: a domain's rail fails. -/
def domainFailure (s : State) (d : Nat) : State :=
  if ¬ s.domLive d then s
  else
    let s := (s.setBit (rPWR_DOM_FAIL (d / 32)) (d % 32)).domOff d
    ((s.inc rPWR_CNT_DOMFAIL).pwrRaise fPWR_EVENTS_DOMAIN 0x0F10 d).domEffect d

def execDomainFailure (d : Fin 132) (s : State) : Outcome State Fault Refusal := .next (s.lit (domainFailure s d.val))

/-! ### Clock watches (R446) -/

/-- PLL `k` loses lock. -/
def pllLockLoss (s : State) (k : Nat) : State :=
  if ¬ bit (s.rdN rCLK_STATUS) k then s
  else
    let s := ((s.clrBit rCLK_STATUS k).inc rCLK_CNT_UNLOCK).set1 fCLK_EVENTS_UNLOCK
    let s := s.pwrRaise fPWR_EVENTS_PLL 0x0F20 k
    if s.ps = psHALT then s else s.freeCause.1.haltEntry s.freeCause.2

def execPllLockLoss (k : Fin 3) (s : State) : Outcome State Fault Refusal := .next (s.lit (pllLockLoss s k.val))

/-- XTAL_A against XTAL_B: the second window in a row above 100 ppm. -/
def xtalDeviationWindow (s : State) (dev : BitVec 16) : State :=
  let n := if 1000 < dev.toInt.natAbs then min (s.pwr.xtalOver + 1) 3 else 0
  let s := { s with pwr := { s.pwr with xtalOver := n } }.wrN rCLK_XTAL_DEV dev.toNat
  if n = 2 then s.pwrRaise fCLK_EVENTS_XTAL 0x0F21 255 else s

def execXtalDeviationWindow (dev : BitVec 16) (s : State) : Outcome State Fault Refusal := .next (s.lit (xtalDeviationWindow s dev))

/-- MGMT against XTAL_B: the sixteenth window in a row above 3 % stops the management processor. -/
def mgmtClockWindow (s : State) (dev : BitVec 16) : State :=
  let n := if 300 < dev.toInt.natAbs then min (s.pwr.mgmtOver + 1) 17 else 0
  let s := { s with pwr := { s.pwr with mgmtOver := n } }.wrN rCLK_MGMT_DEV dev.toNat
  if n = 16 then { s with pwr := { s.pwr with mpStopped := true } }.pwrRaise fCLK_EVENTS_MGMT 0x0F22 255 else s

def execMgmtClockWindow (dev : BitVec 16) (s : State) : Outcome State Fault Refusal := .next (s.lit (mgmtClockWindow s dev))

/-! ### Counters -/

def pwrClearCounters (s : State) : State := s.cmd rPWR_CMD 1 (fun s => (stDONE, s.zero [rPWR_CNT_RESTART_IGN, rPWR_CNT_DOMFAIL]))

def execPwrClearCounters (s : State) : Outcome State Fault Refusal := .next (s.lit (pwrClearCounters s))

def clkClearCounters (s : State) : State := s.cmd rCLK_CMD 1 (fun s => (stDONE, s.zero [rCLK_CNT_UNLOCK]))

def execClkClearCounters (s : State) : Outcome State Fault Refusal := .next (s.lit (clkClearCounters s))

end Sys2Proof.Machine
end

