-- ==== Sys2Proof/Machine/Read.lean ====
section
/-! DEFINITION. What a read of an address returns (R8, R9, R467): the register bank with the fields that show live state, and the windows of R83
and R493.  A read is a function of the state and changes nothing. -/
namespace Sys2Proof.Machine

/-- A word that the rules leave undefined, by address. -/
def State.freeWord (s : State) (a : Nat) : Nat := Config.freeAt s.free (100 + a)

/-- The register with `v` in bits `hi:lo`. -/
def State.shown (s : State) (a hi lo v : Nat) : Word := putBits (s.rd a) hi lo v

def ofBool (b : Bool) : Nat := if b then 1 else 0

/-! ### Windows (R83, R493, R514) -/

/-- R82: word `w` of the descriptor of queue `q`; HEAD and TAIL of an empty queue mean nothing. -/
def State.descWord (s : State) (q w : Nat) : Nat :=
  let d := s.qd q
  let n := d.held.length
  match w with
  | 0 => ofBool d.enable * 2 ^ 31 + ofBool d.genCheck * 2 ^ 30 + d.owner % 16 * 2 ^ 24
      + (d.held.head?.map Held.idx).getD (s.freeWord (0x20000000 + 16 * q)) % 2 ^ 17
  | 1 => (d.held.getLast?.map Held.idx).getD (s.freeWord (0x20000004 + 16 * q)) % 2 ^ 17
  | 2 => n
  | _ => s.qGen q * 65536 + d.quota

/-- The records in use, each with the pool index that follows it in its queue. -/
def linksOf : List Held → List (Held × Option Nat)
  | [] => []
  | [h] => [(h, none)]
  | h :: g :: t => (h, some g.idx) :: linksOf (g :: t)

/-- The record in pool place `i`. -/
def State.inPool (s : State) (i : Nat) : Option (Held × Option Nat) :=
  (s.hq.queues.flatMap (fun e => linksOf e.2.held)).find? (fun x => x.1.idx == i)

/-- A pool record; the content of a free one is not stated. -/
def State.poolWord (s : State) (i w : Nat) : Nat :=
  match s.inPool i with
  | some x => slotN x.1.r.slot (4 * w) 4
  | none => s.freeWord (0x20100000 + 32 * i + 4 * w)

/-- A link word; `NEXT` of the last record and the chain of free ones are not stated. -/
def State.linkWord (s : State) (i : Nat) : Nat :=
  let x := s.freeWord (0x20500000 + 4 * i)
  match s.inPool i with
  | some (_, some n) => n % 2 ^ 17
  | some (_, none) => 2 ^ 30 + x % 2 ^ 17
  | none => 2 ^ 31 + x / 2 ^ 17 % 2 * 2 ^ 30 + x % 2 ^ 17

def GState.code : GState → Nat
  | .opened => 1
  | .commitWait => 2
  | .armed => 3
  | .fired => 4
  | .aborted => 5

/-- R514: the bytes of a group-table entry; this module is a participant when it holds
members or the stored mask names it (R84). -/
def State.groupBytes (s : State) (g : Group) : Nat :=
  let here := g.held != 0 || (g.committed && bit g.mask.toNat s.own)
  let orig := g.orig == s.own
  ofBytes ([g.state.code, g.orig] ++ bytesOf 2 g.gtag ++ bytesOf 5 g.time
    ++ [ofBool g.committed + 2 * ofBool g.relayed + 4 * ofBool orig + 8 * ofBool here, if g.state = .aborted then g.reason else 0, 0]
    ++ bytesOf 2 g.expected ++ bytesOf 2 g.held ++ bytesOf 8 (if g.committed then g.mask.toNat else 0) ++ List.replicate 8 0)

def State.groupWord (s : State) (g w : Nat) : Nat :=
  match s.hq.groups.find? (fun e => e.idx == g) with
  | some e => s.groupBytes e / 2 ^ (32 * w)
  | none => 0

/-- R70, R83: the map entry of a selector as the image sets it; selectors 0 and 1 have none and read 0 (DESIGN CHOICE, log 62). -/
def State.xmapWord (s : State) (k : Nat) : Nat :=
  match s.hq.xmap.at 0 k with
  | 0 => 0
  | q + 1 => 2 ^ 31 + q % 2 ^ 15

/-- R83. -/
def State.hqWindow (s : State) (a : Nat) : Nat :=
  if a < 0x20100000 then s.descWord ((a - 0x20000000) / 16) (a / 4 % 4)
  else if a < 0x20500000 then s.poolWord ((a - 0x20100000) / 32) (a / 4 % 8)
  else if a < 0x20580000 then s.linkWord ((a - 0x20500000) / 4)
  else if a < 0x20582000 then s.groupWord ((a - 0x20580000) / 32) (a / 4 % 8)
  else if a < 0x20582800 then s.xmapWord ((a - 0x20582000) / 4)
  else 0

/-- R358: an entry of the occurrence table. -/
def State.occWord (s : State) (e w : Nat) : Nat :=
  match s.flt.occ[e]? with
  | some (code, u, n) => if w = 0 then code * 65536 + u % 256 * 256 + 1 else n
  | none => 0

/-- R353: a slot of the SRAM ring; one never written is not stated. -/
def State.ringWord (s : State) (k w : Nat) : Nat :=
  match s.flt.ring.at none k with
  | some p => leAt p.bytes (4 * w) 4
  | none => s.freeWord (0x0B020000 + 32 * k + 4 * w)

/-! ### Fields that show live state -/

/-- Tries and clears of the last 60 s, in four bits. -/
def tries4 (l : List Nat) : Nat := min l.length 15

/-- R37, R38, HAL. -/
def State.showHal (s : State) (a : Nat) : Word :=
  if a = rHAL_TIME_LO then BitVec.ofNat 32 (s.bridged .mgmt)
  else if a = rHAL_TIME_HI then BitVec.ofNat 32 (s.bridged .mgmt / 2 ^ 32)
  else if a = rHAL_EPOCH then s.clk.epoch.setWidth 32
  else if a = rHAL_HOLD_MS then BitVec.ofNat 32 (if s.ts = tHOLDOVER then min ((s.now - s.hal.holdSince) / msU) 0xFFFFFFFF else 0)
  else match firstBelow (fun p => rHAL_PORT_STATE p == a || rHAL_SFP_INFO p == a) 4 with
    | some p =>
      if a = rHAL_PORT_STATE p then s.shown a 23 20 (min (last60 s.now (s.port p).retrainTimes).length 15)
      else if (s.port p).present then s.shown a 31 16 (Config.sfpTemp (s.fld (fHAL_SFP_INFO_TEMP p)) s.now) else s.rd a
    | none => s.rd a

def State.showEdg (s : State) (a : Nat) : Word :=
  match firstBelow (fun n => rEDG_LEG_STATUS n == a) 12 with
  | some n => putBits (s.shown a 19 19 (ofBool (s.tripActive n))) 11 8 (tries4 (last60 s.now (s.leg n).clears))
  | none => s.rd a

/-- R112: `CAL_ACTIVE`, for the 2 µs of a step. -/
def State.showSns (s : State) (a : Nat) : Word :=
  match firstBelow (fun c => rSNS_SAR_STATE c == a) 4 with
  | some c => s.shown a 13 13 (ofBool (s.calRunning c))
  | none => s.rd a

/-- A channel of the group is UNPLUGGED. -/
def State.groupUnplugged (s : State) (g : Nat) : Bool := (List.range 4).any (fun k => s.gst (4 * g + k) == gUNPLUGGED)

def State.showGd (s : State) (a : Nat) : Word :=
  if a = rGD_ARMED then BitVec.ofNat 32 (maskBelow (fun g => s.gst g == gARMED) 24)
  else if a = rGD_HARNESS then s.shown a 13 8 (maskBelow s.groupUnplugged 6)
  else match firstBelow (fun g => rGD_STATUS g == a) 24 with
    | some g => s.shown a 19 16 (tries4 (s.gdTries g))
    | none => s.rd a

/-- The chopper switch is on (R234). -/
def State.chopOn (s : State) : Bool := let n := s.fld fBND_DCL_CFG_CH_LEG
  n != 15 && s.pat n != 0

def State.showBnd (s : State) (a : Nat) : Word :=
  if a = rBND_DCL_STATUS then putBits (s.shown a 0 0 (ofBool s.preTempOk)) 2 2 (ofBool s.chopOn)
  else if a = rBND_DCL_VOLT then
    BitVec.ofNat 32 ((clamp 0 65535 (roundR s.dclVsrc)).toNat * 65536 + (clamp 0 65535 (roundR s.dclVdc)).toNat)
  else match firstBelow (fun c => rBND_ST_STATUS c == a) 4 with
    | some c => putBits (s.shown a 15 15 (ofBool (s.keValid c))) 12 12 (ofBool (s.dirOf c == -1))
    | none => s.rd a

/-- `FP_LOAD`: 0 when nothing has issued in the last 1 ms; else the share of issuing cycles, which the model does not count, is free. -/
def State.showFp (s : State) (a : Nat) : Word :=
  let t := (s.core (a / 65536 % 256)).issuedAt
  if a % 65536 = 0x38 then (if t = 0 ∨ t + msU ≤ s.now then 0 else BitVec.ofNat 32 (s.freeWord a % 65536)) else s.rd a

def State.showSi (s : State) (a : Nat) : Word :=
  if a = rSI_GSE then BitVec.ofNat 32 (maskBelow (fun g => (s.gate g).gse) 24)
  else if a = rSI_SEN then BitVec.ofNat 32 (maskBelow (fun g => (s.gate g).sen) 24)
  else s.rd a

/-- `FLT_SPARES`. -/
def State.sparesWord (s : State) : Nat :=
  maskBelow (fun p => s.pst p == pRETIRED) 4 * 65536 + ofBool (s.est 4 == eSPARE) * 256
    + countBelow (fun k => s.fpState (8 + k) == fpSPARE) 2 * 16 + countBelow (fun d => s.decState d == dSPARE) 52

def State.showFlt (s : State) (a : Nat) : Word :=
  if a = rFLT_STATUS then putBits (s.shown a 12 0 (min s.unflushed 4096)) 30 30 (ofBool (decide (2048 < s.unflushed)))
  else if a = rFLT_SPARES then BitVec.ofNat 32 s.sparesWord
  else match firstBelow (fun c => rFLT_CELL c == a) 4 with
    | some c => s.shown a 31 28 (s.clevel c)
    | none => s.rd a

/-- R393: cycle time and global time, from the last sync mark. -/
def State.ttSince (s : State) (n : Nat) : Nat := if s.ttNtu n = 0 then 0 else (s.now + 1 - (s.canC n).sync) / s.ttNtu n

def State.showCan (s : State) (a : Nat) : Word :=
  let n := a / 65536 % 256
  let off := a % 65536
  let q := s.canC n
  if 4 ≤ n then s.rd a
  else if 0x20 ≤ off ∧ off < 0x30 then BitVec.ofNat 32 (maskBelow (fun i => s.on (fCAN_MB_STAT_TXPEND n ((off - 0x20) * 8 + i))) 32)
  else if 0x30 ≤ off ∧ off < 0x40 then BitVec.ofNat 32 (maskBelow (fun i => s.on (fCAN_MB_STAT_ND n ((off - 0x30) * 8 + i))) 32)
  else if off = 0x88 then (if q.sync = 0 then 0 else BitVec.ofNat 32 (q.count * 2 ^ 26 + s.ttSince n % 65536))
  else if off = 0x8C then (if q.sync = 0 then 0 else BitVec.ofNat 32 ((q.mark + s.ttSince n) % 65536))
  else s.rd a

def State.showAux (s : State) (a : Nat) : Word :=
  match firstBelow (fun n => rAUX_STATUS n == a) 12 with
  | some n => s.shown a 19 16 (tries4 (s.auxTries n))
  | none => s.rd a

/-- R414, R415: `PCH_KEY`. -/
def State.keyWord (s : State) : Nat :=
  let q := s.key
  let reads := q.present && q.answers
  ofBool q.pccPending * 16 + ofBool q.foreign * 8 + ofBool (s.hk.deferred || !reads || !s.domOn 8) * 4
    + ofBool (reads && q.known && !q.foreign) * 2 + ofBool q.present

def State.showPch (s : State) (a : Nat) : Word :=
  if a = rPCH_KEY then BitVec.ofNat 32 s.keyWord
  else if rPCH_SP_AGE 0 ≤ a ∧ a < rPCH_SP_AGE 256 then
    let e := (a - rPCH_SP_AGE 0) / 4
    if e < s.key.spN then BitVec.ofNat 32 (ofBool (s.spE e).stale * 2 ^ 31 + min ((s.now - (s.spE e).lastAt) / msU) 65535) else 0
  else s.rd a

/-- R440: the domains of word `k`; the isolated sides of the gate channels show their supplies. -/
def State.domWord (s : State) (k : Nat) : Nat := maskBelow (fun i => s.domLive (32 * k + i)) 32

def State.showPwr (s : State) (a : Nat) : Word :=
  if a = rPWR_STATUS then s.shown a 0 0 (ofBool s.restartOk)
  else if rPWR_DOM_ON 0 ≤ a ∧ a < rPWR_DOM_ON 5 then BitVec.ofNat 32 (s.domWord ((a - rPWR_DOM_ON 0) / 4))
  else s.rd a

/-- The path code of a session. -/
def pathCode : MgtPath → Nat
  | .svc => 1
  | .can3 => 2
  | .hal _ => 3

def State.showMgt (s : State) (a : Nat) : Word :=
  if a = rMGT_STATUS then
    let w := putBits (s.shown a 1 1 (ofBool s.flushOk)) 27 24 (tries4 (s.mgt.fwd.map MgtFwd.tag))
    match s.mgt.upd with
    | some u => putBits (putBits w 31 30 (pathCode u.path)) 28 28 u.slot
    | none => w
  else if a = rMGT_UPD_OFFSET then BitVec.ofNat 32 ((s.mgt.upd.map UpdSt.next).getD 0)
  else if a = rMGT_UPD_LEN then BitVec.ofNat 32 ((s.mgt.upd.map UpdSt.len).getD 0)
  else s.rd a

/-- The paralleling registers of LE4 are those of the cell it serves. -/
def State.parAddr (s : State) (a : Nat) : Nat :=
  if a / 65536 = 0x0804 ∧ 0x400 ≤ a % 65536 ∧ a % 65536 < 0x4A0 ∧ s.on (fLE_STATUS_SERVES_VALID 4) then
    a - 0x40000 + s.fld (fLE_STATUS_SERVES 4) * 0x10000
  else a

/-- The register at a mapped address, as a read shows it. -/
def State.shownReg (s : State) (a : Nat) : Word :=
  match a / 16777216 with
  | 0x01 => s.showHal a
  | 0x03 => s.showSns a
  | 0x05 => s.showEdg a
  | 0x06 => s.showGd a
  | 0x07 => s.showBnd a
  | 0x08 => s.rd (s.parAddr a)
  | 0x09 => s.showFp a
  | 0x0A => s.showSi a
  | 0x0B => s.showFlt a
  | 0x0C => s.showCan a
  | 0x0D => s.showAux a
  | 0x0E => s.showPch a
  | 0x0F => s.showPwr a
  | 0x11 => s.showMgt a
  | _ => s.rd a

/-- R8: a read of an address: unaligned and unmapped ones return 0. -/
def State.readWord (s : State) (a : Nat) : Word :=
  if a % 4 ≠ 0 then 0
  else if 0x20000000 ≤ a then BitVec.ofNat 32 (s.hqWindow a)
  else if 0x0B010000 ≤ a ∧ a < 0x0B014000 then BitVec.ofNat 32 (s.occWord ((a - 0x0B010000) / 8) (a / 4 % 2))
  else if 0x0B020000 ≤ a ∧ a < 0x0B040000 then BitVec.ofNat 32 (s.ringWord ((a - 0x0B020000) / 32) (a / 4 % 8))
  else if (rowAt a).isSome then s.shownReg a else 0

end Sys2Proof.Machine
end

