-- ==== Sys2Proof/Machine/Update.lean ====
section
/-! DEFINITION. Update sessions (R473–R475). -/
namespace Sys2Proof.Machine

open Host (Outcome)

/-- A slot takes a state in a descriptor write. -/
def State.markSlot (s : State) (k x : Nat) (fails : Bool) : State := (s.wantDesc (s.key.next.setSt k x)).writeDesc fails

def State.closeUpd (s : State) : State := s.modMgt (fun q => { q with upd := none })

/-- R473: the target slot: the one that is not ACTIVE, A when neither is. -/
def State.updTarget (s : State) : Nat := if s.key.next.st 0 = slACTIVE then 1 else 0

/-- R416: an image may have this length. -/
def lenOk (n : Nat) : Bool := n % 4 == 0 && decide (8192 ≤ n ∧ n ≤ slotSize)

/-- R474: an abort empties the slot; 0x1107. -/
def State.abortUpd (s : State) (u : UpdSt) (fails : Bool) : State := (((s.closeUpd).markSlot u.slot slEMPTY fails).mgtNote 6).raise 0x1107 255

/-- R473: a session opens. -/
def State.beginUpd (s : State) (path : MgtPath) (src len : Nat) (fails : Bool) : State :=
  let k := s.updTarget
  let s := s.modMgt (fun q => { q with upd := some { path := path, src := src, slot := k, len := len, next := 0, buf := [] } })
  s.markSlot k slWRITING fails

/-- R474: 16 bytes at the next offset: programmed at once, or kept while writes wait; a program that fails leaves its bytes as given. -/
def State.takeUpd (s : State) (u : UpdSt) (data : List Nat) (left : Option (List Byte)) : State :=
  let d := data.take (u.len - u.next)
  let next := min (u.next + 16) u.len
  if s.keyWritable then
    let s := s.modMgt (fun q => { q with upd := some { u with next := next } })
    match left with
    | none => (s.progImage u.slot u.next d).keyWrote
    | some l => (s.progImage u.slot u.next ((l.take d.length).map BitVec.toNat)).keyFail
  else s.modMgt (fun q => { q with upd := some { u with next := next, buf := u.buf ++ [(u.next, d)] } })

/-- R475: checks 2–9 on the slot as written. -/
def State.updCheck (s : State) (k : Nat) : Option Refuse :=
  let m := s.key.flash
  checkHeader m [] (slotBase k) <|> checkSigned Config.rootKey (max s.key.fuses s.key.desc.floor) m (slotBase k) <|> checkSections m (slotBase k)

/-- R475: the session ends, the slot PENDING or BAD; the refusal code. -/
def State.endUpd (s : State) (u : UpdSt) (fails : Bool) : State × Nat :=
  let s := s.closeUpd
  match s.updCheck u.slot with
  | none =>
    let rb := hdrRollback (keyBytes s.key.flash (slotBase u.slot) 4096)
    (((s.markSlot u.slot slPENDING fails).mgtNote 2).raiseD 0x1103 255 (BitVec.ofNat 64 (u.slot + rb * 256)), 0)
  | some r => (((s.markSlot u.slot slBAD fails).mgtNote 3).raiseD 0x1104 255 (BitVec.ofNat 64 (r.code + u.slot * 256)), r.code)

/-- R474: 10 s without an accepted cell; the timer stands while writes are deferred. -/
def updIdleTimeout (s : State) (fails : Bool) : State :=
  match s.mgt.upd with
  | some u => if s.mpRuns ∧ ¬ s.inBiv ∧ ¬ s.hk.deferred then s.abortUpd u fails else s
  | none => s

def execUpdIdleTimeout (fails : Bool) (s : State) : Outcome State Fault Refusal := .next (s.lit (updIdleTimeout s fails))

/-- `MGT_CMD` 0x0010. -/
def mgtAbortSession (s : State) (fails : Bool) : State :=
  s.cmd rMGT_CMD 0x10 (fun s => match s.mgt.upd with
    | some u => (stDONE, s.abortUpd u fails)
    | none => (stREFUSED, s))

def execMgtAbortSession (fails : Bool) (s : State) : Outcome State Fault Refusal := .next (s.lit (mgtAbortSession s fails))

/-- `MGT_CMD` 0x0001. -/
def mgtClearCounters (s : State) : State :=
  s.cmd rMGT_CMD 1 (fun s => (stDONE, s.zero [rMGT_LOCKWR_CNT, rMGT_CNT_REQ, rMGT_CNT_CELL_BAD, rMGT_CNT_FLUSH_FAIL]))

def execMgtClearCounters (s : State) : Outcome State Fault Refusal := .next (s.lit (mgtClearCounters s))

end Sys2Proof.Machine
end

