-- ==== Sys2Proof/Machine/RegWrite.lean ====
section
/-! DEFINITION. A write to an address (R8, R10–R15, R494, R495): stored, ignored, counted or a command, by the access code of the register. -/
namespace Sys2Proof.Machine

open Host (Outcome)

/-- `x` lies in `a … a + n − 1`. -/
def within (x a n : Nat) : Bool := decide (a ≤ x ∧ x < a + n)

/-- R12: a value that the register does not take. -/
def State.invalid (s : State) (reg v : Nat) : State := s.cmd reg v (fun s => (stINVALID, s))

/-- `LE_PAR_CMD` of cell `c`. -/
def State.parCmd (s : State) (c v : Nat) (inp : CmdIn) : State :=
  match v with
  | 1 => parClearCounters s c
  | 2 => rejoin s c inp.timeOk.toNat
  | 3 => parHandback s c inp.fenced
  | _ => s.invalid (rLE_PAR_CMD c) v

/-- `BND_ST_CMD` of cell `c`. -/
def State.stCmd (s : State) (c v : Nat) : State :=
  match v with
  | 1 => stStart s c
  | 2 => Machine.stStop s c
  | 3 => stCoast s c
  | 4 => stClearCounters s c
  | 5 => stReset s c
  | _ => s.invalid (rBND_ST_CMD c) v

/-- `BND_DCL_CMD`. -/
def State.linkCmd (s : State) (v : Nat) : State :=
  match v with
  | 1 => dclPrecharge s
  | 2 => dclOpen s
  | 3 => dclDischarge s
  | 4 => dclClearCounters s
  | 5 => dclReset s
  | 0x10 => mainConfirmed s
  | _ => s.invalid rBND_DCL_CMD v

/-- `CAN_CMD` of channel `n`. -/
def State.canCmd (s : State) (n v : Nat) : State :=
  if v = 1 then canClearCounters s n
  else if within v 0x100 128 then canRequestBuffer s n (v - 0x100)
  else if within v 0x200 128 then canAbortBuffer s n (v - 0x200)
  else if v = 0x300 then canStartRecovery s n
  else if v = 0x500 then canRestartTt s n
  else s.invalid (rCAN_CMD n) v

/-- `PWR_CMD`. -/
def State.pwrCmd (s : State) (v : Nat) (inp : CmdIn) : State :=
  match v with
  | 1 => pwrClearCounters s
  | 0x10 => runCommand s
  | 0x11 => readyCommand s
  | 0x20 => listenCommand s inp.flush
  | 0x21 => stowCommand s inp.flush
  | 0x30 => restartCommand s inp.diode
  | _ => s.invalid rPWR_CMD v

/-- `HQ_ENQ_CMD`: every write starts a new staging history (R494). -/
def State.enqCmd (s : State) (v : Nat) : State :=
  if v = 1 then hqEnqueue s
  else if s.inBiv then s
  else
    let s := s.invalid rHQ_ENQ_CMD v
    { s with hq := { s.hq with stagers := [] } }

/-- The commands of HAL, SNS, EDG, GD and AUX that name a unit. -/
def State.unitCmd (s : State) (reg v : Nat) (inp : CmdIn) : State :=
  if reg = rHAL_CMD then
    (if v = 1 then halClearCounters s
    else if within v 0x10 4 then halRetrainPort s (v - 0x10)
    else if within v 0x20 4 then halDisablePort s (v - 0x20)
    else if within v 0x30 4 then halEnablePort s (v - 0x30)
    else s.invalid reg v)
  else if reg = rSNS_CMD then (if v = 1 then snsClearCounters s else if v = 2 then snsRotationStep s else s.invalid reg v)
  else if reg = rEDG_CMD then
    (if v = 1 then edgClearCounters s else if within v 0x100 12 then edgClearLeg s (v - 0x100) else s.invalid reg v)
  else if reg = rGD_CMD then
    (if v = 1 then gdClearCounters s
    else if within v 0x100 24 then gdClearChannel s (v - 0x100) inp.linkValid
    else if within v 0x200 24 then gdRunDiagnostics s (v - 0x200)
    else s.invalid reg v)
  else if reg = rAUX_CMD then
    (if v = 1 then auxClearCounters s
    else if within v 0x100 12 then auxRequestOn s (v - 0x100)
    else if within v 0x200 12 then auxRequestOff s (v - 0x200)
    else if within v 0x300 12 then auxClearOutput s (v - 0x300)
    else s.invalid reg v)
  else s.invalid reg v

/-- R10, R12, R13: a write of `v` in bits 15:0 of a CMD register. -/
def State.cmdWrite (s : State) (reg v : Nat) (inp : CmdIn) : State :=
  let n := reg / 65536 % 256
  match reg / 16777216, reg % 65536 with
  | 0x02, 0x14 => if v = 1 then hqClearCounters s else s.invalid reg v
  | 0x02, _ => s.enqCmd v
  | 0x04, _ => if v = 1 then posClearCounters s else s.invalid reg v
  | 0x07, 0xE8 => if v = 1 then bndClearCounters s n else s.invalid reg v
  | 0x07, 0x2058 => s.stCmd n v
  | 0x07, _ => s.linkCmd v
  | 0x08, 0x30C => if v = 1 then leClearCounters s n else s.invalid reg v
  | 0x08, _ => if n < 4 then s.parCmd n v inp else s.invalid reg v
  | 0x09, _ => if v = 1 then fpClearCounters s n else s.invalid reg v
  | 0x0B, _ => if v = 1 then fltClearCounters s else s.invalid reg v
  | 0x0C, _ => s.canCmd n v
  | 0x0E, _ => if v = 1 then pchClearCounters s else if v = 0x10 then markPending s inp.fails else s.invalid reg v
  | 0x0F, 0x0C => s.pwrCmd v inp
  | 0x0F, _ => if v = 1 then clkClearCounters s else s.invalid reg v
  | 0x10, _ => if v = 1 then hkClearCounters s else s.invalid reg v
  | 0x11, _ => if v = 1 then mgtClearCounters s else if v = 0x10 then mgtAbortSession s inp.fails else s.invalid reg v
  | _, _ => s.unitCmd reg v inp

/-- R14: a LOCK write is ignored and counted; 0x1106. -/
def State.lockWrite (s : State) : State := ((s.inc rMGT_LOCKWR_CNT).mgtNote 5).raiseSec 0x1106 255

/-- R11: the flags of the register at `a` whose condition the state shows to be present.  A flag for the entry into a state, a raise or a refusal
has a condition of one instant, which a command brings (DEDUCED, log 94). -/
def State.standing (s : State) (a : Nat) : List (Fld × Bool) :=
  let n := a / 65536 % 256
  match a / 16777216, a % 65536 with
  | 0x01, 0x24 =>
    [(fHAL_EVENTS_DEPTH_EXCEEDED, s.hal.deep),
     (fHAL_EVENTS_BURGEE_CONFLICT, (List.range 4).any (fun p => (s.port p).conflict)),
     (fHAL_EVENTS_FOREIGN, (List.range 4).any (fun p => s.pst p == pPROVE && (s.port p).foreignTag != 0))]
  | 0x01, _ => [(fHAL_PORT_EVENTS_SFP_FAULT n, (s.port n).present && !(s.port n).accepted)]
  | 0x03, _ =>
    [(fSNS_EVENTS_SD_LOST, (List.range 48).any (fun k => s.on (fSNS_SD_STATUS_LOST k))),
     (fSNS_EVENTS_REF_WARN, s.fld fSNS_REF_STATUS_A_STATE == 1 || s.fld fSNS_REF_STATUS_B_STATE == 1)]
  | 0x06, _ => [(fGD_EVENTS_SUPPLY n, (s.gate n).supplyBad), (fGD_EVENTS_LINK n, (s.gate n).linkBad)]
  | 0x07, 0xE4 => [(fBND_EVENTS_VSAT n, s.on (fBND_STATUS_VSAT n)), (fBND_EVENTS_TMAG_STALE n, s.on (fBND_STATUS_TMAG_STALE n))]
  | 0x08, 0x304 => (List.range 9).map (fun k => (⟨a, k, k⟩, bit (s.leE n).satNow k))
  | 0x08, 0x308 => [(fLE_EVENTS_HELD n, (s.leE n).heldIn)]
  | 0x0B, _ => [(fFLT_EVENTS_OCC_FULL, decide (2048 ≤ s.flt.occ.length))]
  | 0x0C, 0x14 => [(fCAN_EVENTS_ERR_PASSIVE n, s.fcs n == fcPASSIVE), (fCAN_EVENTS_BUS_OFF n, s.fcs n == fcOFF)]
  | 0x0F, 0x18 =>
    [(fCLK_EVENTS_UNLOCK, s.fld fCLK_STATUS_PLLA_LOCK + s.fld fCLK_STATUS_PLLB_LOCK + s.fld fCLK_STATUS_PLLC_LOCK != 3),
     (fCLK_EVENTS_XTAL, !s.on fCLK_STATUS_XTALA_OK || !s.on fCLK_STATUS_XTALB_OK), (fCLK_EVENTS_MGMT, s.pwr.mpStopped)]
  | _, _ => []

/-- The mask of those flags. -/
def State.standingMask (s : State) (a : Nat) : Word :=
  (s.standing a).foldl (fun m x => if x.2 then m ||| (1#32 <<< x.1.lo) else m) 0

/-- R11: flags written 1 clear, but for those whose condition is present; nothing in BIVOUAC (R376). -/
def State.w1cWrite (s : State) (a : Nat) (v present : Word) : State :=
  if s.inBiv then s else s.wr a (s.rd a &&& ~~~(v &&& ~~~(present ||| s.standingMask a)))

/-- R495: the writable bits of `FP_PEEK_ADDR`; the next sample uses them. -/
def fpPeekAddrWrite (s : State) (f : Nat) (v : Word) : State := if s.inBiv then s else s.wr (rFP_PEEK_ADDR f) (v &&& 0xF007FFFC#32)

def execFpPeekAddrWrite (f : Fin 10) (v : Word) (s : State) : Outcome State Fault Refusal := .next (s.lit (fpPeekAddrWrite s f.val v))

/-- R8, R10: a write to an address. -/
def State.regWrite (s : State) (a : Nat) (v : Word) (req : Nat) (inp : CmdIn) : State :=
  if a % 4 ≠ 0 then s
  else
    let a := s.parAddr a
    match rowAt a with
    | none => s
    | some r => match r.acc with
      | .ro => s
      | .rw => if a / 16777216 = 0x02 then hqEnqWrite s ((a - rHQ_ENQ 0) / 4) v req else fpPeekAddrWrite s (a / 65536 % 256) v
      | .w1c => s.w1cWrite a v inp.present
      | .cmd => s.cmdWrite a (v.toNat % 65536) inp
      | .lock => s.lockWrite
      | .mix => s.w1cWrite a (v &&& 0xD8#32) inp.present
      | .mbd => canMbDataWrite s (a / 65536 % 256) ((a % 65536 - 0x1000) / 128) ((a % 128 - 0x40) / 4) v
      | .desc => if a / 4 % 8 = 0 ∨ a / 4 % 8 = 5 ∨ a / 4 % 8 = 7 then s.lockWrite else s

/-- R8, R10: an access of another width is refused by its path. -/
def registerWrite (s : State) (a : Nat) (v : Word) (aligned32 : Bool) (req : Nat) (inp : CmdIn) : State :=
  if aligned32 then s.regWrite a v req inp else s

def execRegisterWrite (a v : Word) (aligned32 : Bool) (requester : BitVec 16) (inp : CmdIn) (s : State) : Outcome State Fault Refusal :=
  .next (s.lit (registerWrite s a.toNat v aligned32 requester.toNat inp))

/-- The access code of an address. -/
def accessOf (a : Nat) : Option Access := if a % 4 = 0 then (rowAt a).map RegRow.acc else none

def w1cClear (s : State) (a : Nat) (v present : Word) : State :=
  let a := s.parAddr a
  if accessOf a = some .w1c then s.w1cWrite a v present
  else if accessOf a = some .mix then s.w1cWrite a (v &&& 0xD8#32) present
  else s

def execW1cClear (a v present : Word) (s : State) : Outcome State Fault Refusal := .next (s.lit (w1cClear s a.toNat v present))

/-- R14, R254: the LOCK registers and the LOCK words of a descriptor. -/
def isLock (a : Nat) : Bool :=
  accessOf a == some .lock || (accessOf a == some .desc && (a / 4 % 8 == 0 || a / 4 % 8 == 5 || a / 4 % 8 == 7))

def lockWrite (s : State) (a : Nat) : State := if isLock a then s.lockWrite else s

def execLockWrite (a _v : Word) (s : State) : Outcome State Fault Refusal := .next (s.lit (lockWrite s a.toNat))

end Sys2Proof.Machine
end

