-- ==== Sys2Proof/Machine/Mgt.lean ====
section
/-! DEFINITION. The management processor's heartbeat (R461) and its service of management cells (R462–R467, R472–R475). -/
namespace Sys2Proof.Machine

open Host (Outcome)

/-- R461: the heartbeat is sent, or withheld while a duty is late. -/
def mpHeartbeat (s : State) (late : Bool) : State :=
  if ¬ s.mpRuns then s
  else if late then s.set1 fMGT_STATUS_HB_HELD
  else (s.clr fMGT_STATUS_HB_HELD).incMod rMGT_HEARTBEATS

def execMpHeartbeat (late : Bool) (s : State) : Outcome State Fault Refusal := .next (s.lit (mpHeartbeat s late))

/-! ### Cells (R462, R463) -/

def cDst (x : Slot) : Nat := slotN x 0 1
def cSrc (x : Slot) : Nat := slotN x 1 1
def cOp (x : Slot) : Nat := slotN x 2 1
def cTag (x : Slot) : Nat := slotN x 3 1
def cLen (x : Slot) : Nat := slotN x 4 1
def cAddr (x : Slot) : Nat := slotN x 8 4
def cData (x : Slot) : Nat := slotN x 12 16

/-- The path is in service: SVC alone before the load step (R438, R463). -/
def State.pathOpen (s : State) : MgtPath → Bool
  | .svc => !s.hq.loaded || s.on fMGT_CFG_SVC_EN
  | .can3 => s.hq.loaded && s.on (fCAN_CFG_MGT_EN 3) && s.canLive 3
  | .hal _ => s.hq.loaded && s.on fMGT_CFG_HAL_MGT_EN

/-- The first slot of kind 4 with this content leaves the receive buffer of a port. -/
def takeCell (x : Slot) : List (Nat × Slot) → Option (List (Nat × Slot))
  | [] => none
  | e :: t => if e.1 = 4 ∧ e.2 = x then some t else (takeCell x t).map (e :: ·)

/-- A cell as its path delivers it: from the serial line, from buffer 0 of CAN3, from the receive buffer of a port. -/
def State.deliver (s : State) (path : MgtPath) (x : Slot) : Option State :=
  match path with
  | .svc => some s
  | .can3 => if s.on (fCAN_MB_STAT_ND 3 0) ∧ s.canData 3 0 % 2 ^ 256 = x.toNat then some (s.clr (fCAN_MB_STAT_ND 3 0)) else none
  | .hal p => if cOp x = 0x30 then none
    else (takeCell x (s.port p.val).rx).map (fun l => s.modPort p.val (fun q => { q with rx := l, freed := q.freed + 1 }))

/-- This module's number in a cell; 0xFF before the load step gives it one. -/
def State.mgtOwn (s : State) : Nat := if s.hq.loaded then s.own else 255

/-- A cell leaves on a path; over Halyard to its DST, by the port it came on where no route leads there. -/
def State.sendCell (s : State) (path : MgtPath) (x : Slot) : State :=
  match path with
  | .svc => s.modMgt (fun q => { q with svc := some x })
  | .can3 => s.canOwn 3 1 x.toNat
  | .hal p => match s.route (cDst x) with
    | some d => s.transmit d .mgmt x
    | none => s.transmit p.val .mgmt x

/-- The response path takes a cell: buffer 1 of CAN3 is not waiting. -/
def State.pathFree (s : State) : MgtPath → Bool
  | .can3 => !s.txPend 3 1
  | _ => true

/-- R462, R464: the response to `x`: TAG, LEN and ADDR as in the request where the operation states no other. -/
def State.respond (s : State) (path : MgtPath) (x : Slot) (stat addr data : Nat) : State :=
  s.sendCell path (mkCell (cSrc x) s.mgtOwn (cOp x + 128) (cTag x) (cLen x) stat addr data)

/-! ### Receipt (R462, R465, R466) -/

/-- UINDEX of 0x1101. -/
def pathIdx : MgtPath → Nat
  | .svc => 0
  | .can3 => 1
  | .hal _ => 2

def State.cellBad (s : State) (path : MgtPath) : State := ((s.inc rMGT_CNT_CELL_BAD).mgtNote 0).raiseSec 0x1101 (pathIdx path)

def State.queueReq (s : State) (path : MgtPath) (x : Slot) : State :=
  s.modMgt (fun q => { q with queue := q.queue ++ [{ path := path, cell := x, time := BitVec.ofNat 64 (s.bridged .mgmt), epoch := s.clk.epoch }] })

/-- R465: a cell for another module goes out with this module as requester of a host's cell; 16 forwards at most. -/
def State.forward (s : State) (path : MgtPath) (x : Slot) : State :=
  if ¬ s.mpRuns then s
  else if 16 ≤ s.mgt.fwd.length then s.respond path x 6 (cAddr x) 0
  else
    let src := if cSrc x = 0xFE then s.mgtOwn else cSrc x
    let r := s.sendSlot (cDst x) .mgmt (mkCell (cDst x) src (cOp x) (cTag x) (cLen x) (slotN x 5 1) (cAddr x) (cData x))
    if r.2 then r.1.modMgt (fun q => { q with fwd := q.fwd ++ [{ path := path, src := cSrc x, dst := cDst x, tag := cTag x }] })
    else s.respond path x 6 (cAddr x) 0

/-- The cell is addressed to this module. -/
def State.forUs (s : State) (x : Slot) : Bool := cDst x == 255 || (s.hq.loaded && cDst x == s.own)

/-- R462, R465, R466. -/
def cellReceive (s : State) (path : MgtPath) (x : Slot) : State :=
  match s.deliver path x with
  | none => s
  | some s =>
    if ¬ s.pathOpen path then s
    else if s.inBiv then (if path = .svc ∧ cellOk x ∧ s.forUs x ∧ cOp x = 1 then s.queueReq path x else s)
    else if ¬ cellOk x then s.cellBad path
    else if cOp x = 0x30 then s
    else if 128 ≤ cOp x then
      (if pathIdx path = 2 then s.modMgt (fun q => { q with responses := q.responses ++ [x] }) else s)
    else if s.forUs x then s.queueReq path x
    else s.forward path x

def execCellReceive (path : MgtPath) (cell : Slot) (s : State) : Outcome State Fault Refusal := .next (s.lit (cellReceive s path cell))

/-- R465: a response to a forward returns on the path of its request. -/
def forwardResponse (s : State) : State :=
  match s.mgt.responses with
  | [] => s
  | x :: t =>
    match s.mgt.fwd.find? (fun f => f.dst == cSrc x && f.tag == cTag x) with
    | none => s.modMgt (fun q => { q with responses := t })
    | some f =>
      if ¬ s.mpRuns ∨ s.inBiv ∨ ¬ s.pathFree f.path then s
      else
        let s := s.modMgt (fun q => { q with responses := t, fwd := q.fwd.erase f })
        s.sendCell f.path (mkCell f.src (cSrc x) (cOp x) (cTag x) (cLen x) (slotN x 5 1) (cAddr x) (cData x))

def execForwardResponse (s : State) : Outcome State Fault Refusal := .next (s.lit (forwardResponse s))

/-- R465. -/
def forwardTimeout (s : State) : State := s.modMgt (fun q => { q with fwd := q.fwd.tail })

def execForwardTimeout (s : State) : Outcome State Fault Refusal := .next (s.lit (forwardTimeout s))

/-! ### Service (R464–R466) -/

/-- The operations of R464 that the module serves. -/
def knownOp (op : Nat) : Bool := [0x01, 0x02, 0x04, 0x05, 0x10, 0x11, 0x12, 0x13, 0x20].contains op

/-- The request at the front can be served now: by hardware in BIVOUAC, by the management processor otherwise. -/
def State.canServe (s : State) (r : MgtReq) : Bool := (s.inBiv || s.mpRuns) && s.pathFree r.path

/-- A request never served: other than a READ over SVC in BIVOUAC. -/
def State.dropped (s : State) (r : MgtReq) : Bool := s.inBiv && !(pathIdx r.path == 0 && cOp r.cell == 1)

/-- Requests that no row serves are answered, or in BIVOUAC dropped, as they reach the front. -/
def State.settle (s : State) : Nat → State
  | 0 => s
  | n + 1 => match s.mgt.queue with
    | [] => s
    | r :: t =>
      if s.dropped r then (s.modMgt (fun q => { q with queue := t })).settle n
      else if ¬ knownOp (cOp r.cell) ∧ s.canServe r then
        ((s.modMgt (fun q => { q with queue := t })).respond r.path r.cell 3 (cAddr r.cell) 0).settle n
      else s

/-- A result: STAT, ADDR and DATA; none when the life of the module has ended. -/
abbrev MgtRes := Option (Nat × Nat × Nat)

/-- The request at the front, if it is of operation `op`, is served and answered; all but READ are counted (R467). -/
def State.serve (s : State) (op : Nat) (f : State → MgtReq → State × MgtRes) : State :=
  let s := s.settle s.mgt.queue.length
  match s.mgt.queue with
  | [] => s
  | r :: t =>
    if cOp r.cell ≠ op ∨ ¬ s.canServe r then s
    else
      let s := s.modMgt (fun q => { q with queue := t })
      let s := if op = 1 then s else s.inc rMGT_CNT_REQ
      match f s r with
      | (s, some x) => s.respond r.path r.cell x.1 x.2.1 x.2.2
      | (s, none) => s

/-- A response that only carries its status. -/
def stat (r : MgtReq) (n : Nat) : MgtRes := some (n, cAddr r.cell, 0)

/-- R466: READY, RUN and HALT. -/
def State.mgtServes (s : State) : Bool := s.ps == psREADY || s.ps == psRUN || s.ps == psHALT

/-- LEN of 1–4 words at an aligned address (R8, R464). -/
def wordsOk (x : Slot) : Bool := decide (1 ≤ cLen x ∧ cLen x ≤ 4) && cAddr x % 4 == 0

/-- The words that READ returns. -/
def State.readData (s : State) (a n : Nat) : Nat := ofBytes ((List.range n).flatMap (fun k => bytesOf 4 (s.readWord (a + 4 * k)).toNat))

def readRequest (s : State) : State :=
  s.serve 1 (fun s r => (s, if wordsOk r.cell then some (0, cAddr r.cell, s.readData (cAddr r.cell) (cLen r.cell)) else stat r 3))

def execMgtRead (s : State) : Outcome State Fault Refusal := .next (s.lit (readRequest s))

/-- A new life, or none, has begun since `s`. -/
def State.ended (t s : State) : Bool := t.mute || (t.ps == psPITCH && s.ps != psPITCH)

/-- The words of a WRITE in turn. -/
def State.writeWords (s : State) (a req : Nat) (inp : CmdIn) : List Word → State × Bool
  | [] => (s, true)
  | v :: t =>
    let u := s.regWrite a v req inp
    if u.ended s then (u, false) else u.writeWords (a + 4) req inp t

/-- R494: a requester is one SRC on one path. -/
def requesterOf (r : MgtReq) : Nat := pathIdx r.path * 256 + cSrc r.cell

def writeRequest (s : State) (inp : CmdIn) : State :=
  s.serve 2 (fun s r =>
    if ¬ wordsOk r.cell then (s, stat r 3)
    else
      let w := (List.range (cLen r.cell)).map (fun k => BitVec.ofNat 32 (slotN r.cell (12 + 4 * k) 4))
      let x := s.writeWords (cAddr r.cell) (requesterOf r) inp w
      (x.1, if x.2 then stat r 0 else none))

def execMgtWrite (inp : CmdIn) (s : State) : Outcome State Fault Refusal := .next (s.lit (writeRequest s inp))

/-- R464: half a slot of the key ring; refused while no key answers. -/
def logRead (s : State) : State :=
  s.serve 4 (fun s r =>
    let a := cAddr r.cell
    if a / 2 ^ 19 % 2 ^ 12 ≠ 0 then (s, stat r 3)
    else if ¬ (s.key.present ∧ s.key.answers ∧ s.domOn 8) then (s, stat r 2)
    else (s, some (0, a, ofBytes (keyBytes s.key.flash (ringAt (a % 2 ^ 19) + a / 2 ^ 31 * 16) 16))))

def execLogRead (s : State) : Outcome State Fault Refusal := .next (s.lit (logRead s))

/-- R472: the correlation is logged at the instant of receipt. -/
def State.correlate (s : State) (r : MgtReq) : State :=
  let d := cData r.cell % 2 ^ 64
  let s := ((s.wrN rMGT_TCORR_CAL_LO d).wrN rMGT_TCORR_CAL_HI (d / 2 ^ 32 % 65536)).wrN rMGT_TCORR_TIME_LO r.time.toNat
  let s := (s.wrN rMGT_TCORR_TIME_HI (r.time.toNat / 2 ^ 32)).mgtNote 1
  s.modFlt (fun q => { q with
    raised := q.raised ++ [{ time := r.time, epoch := r.epoch, code := 0x1102, uidx := 255, detail := BitVec.ofNat 64 d, stop := false }] })

def timeCorr (s : State) : State := s.serve 5 (fun s r => if s.mgtServes then (s.correlate r, stat r 0) else (s, stat r 2))

def execTimeCorr (s : State) : Outcome State Fault Refusal := .next (s.lit (timeCorr s))

/-- R473. -/
def updBegin (s : State) (fails : Bool) : State :=
  s.serve 0x10 (fun s r =>
    let n := cData r.cell % 2 ^ 32
    if s.mgt.upd.isSome ∨ ¬ s.mgtServes ∨ ¬ s.keyWritable ∨ ¬ lenOk n then (s, stat r 2)
    else (s.beginUpd r.path (cSrc r.cell) n fails, some (0, s.updTarget, 0)))

def execUpdBegin (fails : Bool) (s : State) : Outcome State Fault Refusal := .next (s.lit (updBegin s fails))

/-- R474: a cell of the open session `u`. -/
def State.updCell (s : State) (r : MgtReq) (u : UpdSt) (left : Option (List Byte)) : State × MgtRes :=
  let a := cAddr r.cell
  if pathCode u.path ≠ pathCode r.path ∨ u.src ≠ cSrc r.cell then (s, stat r 2)
  else if a % 16 ≠ 0 then (s, stat r 3)
  else if 0 < u.next ∧ a = (u.next - 1) / 16 * 16 then (s, stat r 0)
  else if a ≠ u.next ∨ u.len ≤ u.next then (s, some (4, a, u.next))
  else if ¬ s.keyWritable ∧ 16 ≤ u.buf.length then (s, stat r 1)
  else (s.takeUpd u (bytesOf 16 (cData r.cell)) left, stat r 0)

def updData (s : State) (left : Option (List Byte)) : State :=
  s.serve 0x11 (fun s r =>
    let s := s.updDrain
    match s.mgt.upd with
    | some u => s.updCell r u left
    | none => (s, stat r 2))

def execUpdData (left : Option (List Byte)) (s : State) : Outcome State Fault Refusal := .next (s.lit (updData s left))

/-- R475. -/
def State.updFinish (s : State) (r : MgtReq) (u : UpdSt) (fails : Bool) : State × MgtRes :=
  if u.next < u.len then (s, some (4, cAddr r.cell, u.next))
  else if ¬ s.keyWritable then (s, stat r 1)
  else
    let x := s.endUpd u fails
    (x.1, if x.2 = 0 then stat r 0 else some (5, cAddr r.cell, x.2))

def updEnd (s : State) (fails : Bool) : State :=
  s.serve 0x12 (fun s r =>
    let s := s.updDrain
    match s.mgt.upd with
    | some u => s.updFinish r u fails
    | none => (s, stat r 2))

def execUpdEnd (fails : Bool) (s : State) : Outcome State Fault Refusal := .next (s.lit (updEnd s fails))

/-- R474. -/
def updAbort (s : State) (fails : Bool) : State :=
  s.serve 0x13 (fun s r => match s.mgt.upd with
    | some u => (s.abortUpd u fails, stat r 0)
    | none => (s, stat r 2))

def execUpdAbort (fails : Bool) (s : State) : Outcome State Fault Refusal := .next (s.lit (updAbort s fails))

/-- R464: PING echoes its data. -/
def ping (s : State) : State := s.serve 0x20 (fun s r => (s, some (0, cAddr r.cell, cData r.cell)))

def execPing (s : State) : Outcome State Fault Refusal := .next (s.lit (ping s))

end Sys2Proof.Machine
end

