-- ==== Sys2Proof/Machine/Dispatch.lean ====
section
/-! DEFINITION. One arm per command: a direct call of its meaning, or its rejection by name. -/
namespace Sys2Proof.Machine

def exec (i : Instr) (s : State) : Host.Outcome State Fault Refusal :=
  match i with
  | .opAdd f last rd ra b => Sys2Proof.Machine.execOpAdd f last rd ra b s
  | .opSub f last rd ra b => Sys2Proof.Machine.execOpSub f last rd ra b s
  | .opAnd f last rd ra b => Sys2Proof.Machine.execOpAnd f last rd ra b s
  | .opOr f last rd ra b => Sys2Proof.Machine.execOpOr f last rd ra b s
  | .opXor f last rd ra b => Sys2Proof.Machine.execOpXor f last rd ra b s
  | .andn f last rd ra b => Sys2Proof.Machine.execAndn f last rd ra b s
  | .shl f last rd ra b => Sys2Proof.Machine.execShl f last rd ra b s
  | .shr f last rd ra b => Sys2Proof.Machine.execShr f last rd ra b s
  | .shra f last rd ra b => Sys2Proof.Machine.execShra f last rd ra b s
  | .fpMin f last rd ra rb => Sys2Proof.Machine.execFpMin f last rd ra rb s
  | .fpMax f last rd ra rb => Sys2Proof.Machine.execFpMax f last rd ra rb s
  | .fpAbs f last rd ra => Sys2Proof.Machine.execFpAbs f last rd ra s
  | .seq f last rd ra b => Sys2Proof.Machine.execSeq f last rd ra b s
  | .slt f last rd ra b => Sys2Proof.Machine.execSlt f last rd ra b s
  | .sltu f last rd ra b => Sys2Proof.Machine.execSltu f last rd ra b s
  | .movi f last rd imm => Sys2Proof.Machine.execMovi f last rd imm s
  | .movhi f last rd imm => Sys2Proof.Machine.execMovhi f last rd imm s
  | .opMul f last rd ra rb => Sys2Proof.Machine.execOpMul f last rd ra rb s
  | .addsH f last rd ra rb => Sys2Proof.Machine.execAddsH f last rd ra rb s
  | .subsH f last rd ra rb => Sys2Proof.Machine.execSubsH f last rd ra rb s
  | .mpy f last n a b => Sys2Proof.Machine.execMpy f last n a b s
  | .mac f last n a b => Sys2Proof.Machine.execMac f last n a b s
  | .msu f last n a b => Sys2Proof.Machine.execMsu f last n a b s
  | .accadd f last n => Sys2Proof.Machine.execAccadd f last n s
  | .accset f last n ra => Sys2Proof.Machine.execAccset f last n ra s
  | .accshl f last n imm => Sys2Proof.Machine.execAccshl f last n imm s
  | .accshr f last n imm => Sys2Proof.Machine.execAccshr f last n imm s
  | .accrd f last rd n imm => Sys2Proof.Machine.execAccrd f last rd n imm s
  | .accrdW f last rd n => Sys2Proof.Machine.execAccrdW f last rd n s
  | .norm f last rd ra => Sys2Proof.Machine.execNorm f last rd ra s
  | .normH f last rd ra => Sys2Proof.Machine.execNormH f last rd ra s
  | .normacc f last rd n => Sys2Proof.Machine.execNormacc f last rd n s
  | .bexp f last rd ra => Sys2Proof.Machine.execBexp f last rd ra s
  | .expx f last rd fa => Sys2Proof.Machine.execExpx f last rd fa s
  | .fadd f last fd fa fb => Sys2Proof.Machine.execFadd f last fd fa fb s
  | .fsub f last fd fa fb => Sys2Proof.Machine.execFsub f last fd fa fb s
  | .fmul f last fd fa fb => Sys2Proof.Machine.execFmul f last fd fa fb s
  | .fma f last fd fa fb fc => Sys2Proof.Machine.execFma f last fd fa fb fc s
  | .fms f last fd fa fb fc => Sys2Proof.Machine.execFms f last fd fa fb fc s
  | .fdiv f last fd fa fb => Sys2Proof.Machine.execFdiv f last fd fa fb s
  | .fsqrt f last fd fa => Sys2Proof.Machine.execFsqrt f last fd fa s
  | .fscale f last fd fa rb => Sys2Proof.Machine.execFscale f last fd fa rb s
  | .fmin f last fd fa fb => Sys2Proof.Machine.execFmin f last fd fa fb s
  | .fmax f last fd fa fb => Sys2Proof.Machine.execFmax f last fd fa fb s
  | .fabs f last fd fa => Sys2Proof.Machine.execFabs f last fd fa s
  | .fneg f last fd fa => Sys2Proof.Machine.execFneg f last fd fa s
  | .fceq f last rd fa fb => Sys2Proof.Machine.execFceq f last rd fa fb s
  | .fclt f last rd fa fb => Sys2Proof.Machine.execFclt f last rd fa fb s
  | .fcle f last rd fa fb => Sys2Proof.Machine.execFcle f last rd fa fb s
  | .fcvtSW f last rd ra => Sys2Proof.Machine.execFcvtSW f last rd ra s
  | .fcvtWS f last rd ra => Sys2Proof.Machine.execFcvtWS f last rd ra s
  | .fcvtSQ15 f last rd ra => Sys2Proof.Machine.execFcvtSQ15 f last rd ra s
  | .fcvtQ15S f last rd ra => Sys2Proof.Machine.execFcvtQ15S f last rd ra s
  | .mfs f last rd spr => Sys2Proof.Machine.execMfs f last rd spr s
  | .mts f last spr ra => Sys2Proof.Machine.execMts f last spr ra s
  | .ldB f last rd a => Sys2Proof.Machine.execLdB f last rd a s
  | .ldBu f last rd a => Sys2Proof.Machine.execLdBu f last rd a s
  | .ldH f last rd a => Sys2Proof.Machine.execLdH f last rd a s
  | .ldHu f last rd a => Sys2Proof.Machine.execLdHu f last rd a s
  | .ldW f last rd a => Sys2Proof.Machine.execLdW f last rd a s
  | .ldD f last rd a => Sys2Proof.Machine.execLdD f last rd a s
  | .stB f last a rs => Sys2Proof.Machine.execStB f last a rs s
  | .stH f last a rs => Sys2Proof.Machine.execStH f last a rs s
  | .stW f last a rs => Sys2Proof.Machine.execStW f last a rs s
  | .stD f last a rs => Sys2Proof.Machine.execStD f last a rs s
  | .fpFence f last => Sys2Proof.Machine.execFpFence f last s
  | .deq f last rd ra rb => Sys2Proof.Machine.execDeq f last rd ra rb s
  | .enq f last rd ra => Sys2Proof.Machine.execEnq f last rd ra s
  | .wspill f last ra => Sys2Proof.Machine.execWspill f last ra s
  | .wfill f last ra => Sys2Proof.Machine.execWfill f last ra s
  | .fpBr f last label => Sys2Proof.Machine.execFpBr f last label s
  | .fpCall f last label => Sys2Proof.Machine.execFpCall f last label s
  | .callr f last ra => Sys2Proof.Machine.execCallr f last ra s
  | .beqz f last ra label => Sys2Proof.Machine.execBeqz f last ra label s
  | .bnez f last ra label => Sys2Proof.Machine.execBnez f last ra label s
  | .bltz f last ra label => Sys2Proof.Machine.execBltz f last ra label s
  | .bgez f last ra label => Sys2Proof.Machine.execBgez f last ra label s
  | .fpRet f last => Sys2Proof.Machine.execFpRet f last s
  | .xret f last => Sys2Proof.Machine.execXret f last s
  | .fpLoop f last count label => Sys2Proof.Machine.execFpLoop f last count label s
  | .loopr f last count label k => Sys2Proof.Machine.execLoopr f last count label k s
  | .fpWait f last rd ra => Sys2Proof.Machine.execFpWait f last rd ra s
  | .fpTrap f last imm => Sys2Proof.Machine.execFpTrap f last imm s
  | .waitWake f cycle => Sys2Proof.Machine.execWaitWake f cycle s
  | .stallRelease f => Sys2Proof.Machine.execStallRelease f s
  | .storeDrain f => Sys2Proof.Machine.execStoreDrain f s
  | .deqComplete f => Sys2Proof.Machine.execDeqComplete f s
  | .enqComplete f => Sys2Proof.Machine.execEnqComplete f s
  | .inboxWrite f => Sys2Proof.Machine.execInboxWrite f s
  | .watchdogExpiry f => Sys2Proof.Machine.execWatchdogExpiry f s
  | .sandboxBudgetExhausted f => Sys2Proof.Machine.execSandboxBudgetExhausted f s
  | .sparesPolicy f => Sys2Proof.Machine.execSparesPolicy f s
  | .spareSelfTest f verdict => Sys2Proof.Machine.execSpareSelfTest f verdict s
  | .peekSample f => Sys2Proof.Machine.execPeekSample f s
  | .spareLoadDone f keyI keyD => Sys2Proof.Machine.execSpareLoadDone f keyI keyD s
  | .fpClearCounters f => Sys2Proof.Machine.execFpClearCounters f s
  | .registerWrite a v aligned32 requester inp => Sys2Proof.Machine.execRegisterWrite a v aligned32 requester inp s
  | .w1cClear a v present => Sys2Proof.Machine.execW1cClear a v present s
  | .lockWrite a v => Sys2Proof.Machine.execLockWrite a v s
  | .fpPeekAddrWrite f v => Sys2Proof.Machine.execFpPeekAddrWrite f v s
  | .timeSlotSend p => Sys2Proof.Machine.execTimeSlotSend p s
  | .timeSlotReceive p slot stamp serial claims => Sys2Proof.Machine.execTimeSlotReceive p slot stamp serial claims s
  | .freeElectionTimeout => Sys2Proof.Machine.execFreeElectionTimeout s
  | .upstreamSilence => Sys2Proof.Machine.execUpstreamSilence s
  | .masterAliveStale => Sys2Proof.Machine.execMasterAliveStale s
  | .candidateElectionWon => Sys2Proof.Machine.execCandidateElectionWon s
  | .countWrap => Sys2Proof.Machine.execCountWrap s
  | .refInputLost ref => Sys2Proof.Machine.execRefInputLost ref s
  | .codewordReceive p cw => Sys2Proof.Machine.execCodewordReceive p cw s
  | .routeCellSend => Sys2Proof.Machine.execRouteCellSend s
  | .routeCellReceive p cell => Sys2Proof.Machine.execRouteCellReceive p cell s
  | .routeCellTimeout p => Sys2Proof.Machine.execRouteCellTimeout p s
  | .pluggablePresent p ident medium rated rxLos temp => Sys2Proof.Machine.execPluggablePresent p ident medium rated rxLos temp s
  | .cageSupplyOn p => Sys2Proof.Machine.execCageSupplyOn p s
  | .trainingSettled p => Sys2Proof.Machine.execTrainingSettled p s
  | .trainingTimeout p => Sys2Proof.Machine.execTrainingTimeout p s
  | .portLinkLoss p why => Sys2Proof.Machine.execPortLinkLoss p why s
  | .halClearCounters => Sys2Proof.Machine.execHalClearCounters s
  | .halRetrainPort p => Sys2Proof.Machine.execHalRetrainPort p s
  | .halDisablePort p => Sys2Proof.Machine.execHalDisablePort p s
  | .halEnablePort p => Sys2Proof.Machine.execHalEnablePort p s
  | .rxLosCleared p => Sys2Proof.Machine.execRxLosCleared p s
  | .referenceReturn ref => Sys2Proof.Machine.execReferenceReturn ref s
  | .recordArrival r via => Sys2Proof.Machine.execRecordArrival r via s
  | .recordFire q => Sys2Proof.Machine.execRecordFire q s
  | .commitArrival r via => Sys2Proof.Machine.execCommitArrival r via s
  | .abortArrival r via => Sys2Proof.Machine.execAbortArrival r via s
  | .groupDeadline orig tag => Sys2Proof.Machine.execGroupDeadline orig tag s
  | .groupLaunch orig tag => Sys2Proof.Machine.execGroupLaunch orig tag s
  | .groupRelease orig tag => Sys2Proof.Machine.execGroupRelease orig tag s
  | .hqClearCounters => Sys2Proof.Machine.execHqClearCounters s
  | .hqEnqWrite k v requester => Sys2Proof.Machine.execHqEnqWrite k v requester s
  | .hqEnqueue => Sys2Proof.Machine.execHqEnqueue s
  | .sdInputLost n => Sys2Proof.Machine.execSdInputLost n s
  | .sdInputRecovered n => Sys2Proof.Machine.execSdInputRecovered n s
  | .decOutput d line t => Sys2Proof.Machine.execDecOutput d line t s
  | .setFilter d p => Sys2Proof.Machine.execSetFilter d p s
  | .decAlign d p => Sys2Proof.Machine.execDecAlign d p s
  | .windowOut n line => Sys2Proof.Machine.execWindowOut n line s
  | .rotationTick => Sys2Proof.Machine.execRotationTick s
  | .shadowHandover d => Sys2Proof.Machine.execShadowHandover d s
  | .shadowMismatch d => Sys2Proof.Machine.execShadowMismatch d s
  | .patternTestDone d pass => Sys2Proof.Machine.execPatternTestDone d pass s
  | .decCheckError d => Sys2Proof.Machine.execDecCheckError d s
  | .snsClearCounters => Sys2Proof.Machine.execSnsClearCounters s
  | .snsRotationStep => Sys2Proof.Machine.execSnsRotationStep s
  | .convert c p => Sys2Proof.Machine.execConvert c p s
  | .runSeq c p => Sys2Proof.Machine.execRunSeq c p s
  | .sarConversionEnd c raw t => Sys2Proof.Machine.execSarConversionEnd c raw t s
  | .sarCalStall c => Sys2Proof.Machine.execSarCalStall c s
  | .vonSample g p => Sys2Proof.Machine.execVonSample g p s
  | .vonEntryWritten g raw selfCheck => Sys2Proof.Machine.execVonEntryWritten g raw selfCheck s
  | .codingError n => Sys2Proof.Machine.execCodingError n s
  | .hallSyncChange h abc rejected idx => Sys2Proof.Machine.execHallSyncChange h abc rejected idx s
  | .hallImpossibleTimeout h => Sys2Proof.Machine.execHallImpossibleTimeout h s
  | .hallLevelAccepted h abc edge => Sys2Proof.Machine.execHallLevelAccepted h abc edge s
  | .indexEdgeAccepted k rising edge rejected hall => Sys2Proof.Machine.execIndexEdgeAccepted k rising edge rejected hall s
  | .probeEdgeAccepted k rising edge rejected hall => Sys2Proof.Machine.execProbeEdgeAccepted k rising edge rejected hall s
  | .snapshot h p => Sys2Proof.Machine.execSnapshot h p s
  | .hptSelect o p => Sys2Proof.Machine.execHptSelect o p s
  | .posClearCounters => Sys2Proof.Machine.execPosClearCounters s
  | .carrierSync c p launch => Sys2Proof.Machine.execCarrierSync c p launch s
  | .setPeriod c p launch => Sys2Proof.Machine.execSetPeriod c p launch s
  | .carrierStop c p => Sys2Proof.Machine.execCarrierStop c p s
  | .carrierInstant c peak => Sys2Proof.Machine.execCarrierInstant c peak s
  | .legSet o p t late => Sys2Proof.Machine.execLegSet o p t late s
  | .outSet o p t late => Sys2Proof.Machine.execOutSet o p t late s
  | .deadTimeElapsed n pairB => Sys2Proof.Machine.execDeadTimeElapsed n pairB s
  | .delayLineSwap o gap => Sys2Proof.Machine.execDelayLineSwap o gap s
  | .lineCalibrationDone o residual => Sys2Proof.Machine.execLineCalibrationDone o residual s
  | .tripPinQualified p level => Sys2Proof.Machine.execTripPinQualified p level s
  | .tripRowActive r => Sys2Proof.Machine.execTripRowActive r s
  | .periodStart n => Sys2Proof.Machine.execPeriodStart n s
  | .legRetryWaitEnd n => Sys2Proof.Machine.execLegRetryWaitEnd n s
  | .legTripPersist n => Sys2Proof.Machine.execLegTripPersist n s
  | .edgClearCounters => Sys2Proof.Machine.execEdgClearCounters s
  | .edgClearLeg n => Sys2Proof.Machine.execEdgClearLeg n s
  | .lineCheckError o => Sys2Proof.Machine.execLineCheckError o s
  | .carrierCheckFail c => Sys2Proof.Machine.execCarrierCheckFail c s
  | .t3lInnerElapsed n => Sys2Proof.Machine.execT3lInnerElapsed n s
  | .supplyReady g vpos vneg => Sys2Proof.Machine.execSupplyReady g vpos vneg s
  | .supplyFault g vpos vneg => Sys2Proof.Machine.execSupplyFault g vpos vneg s
  | .supplyOverload g mw => Sys2Proof.Machine.execSupplyOverload g mw s
  | .gateCommandArrival g level brief link => Sys2Proof.Machine.execGateCommandArrival g level brief link s
  | .profilePhaseEnd g gsns => Sys2Proof.Machine.execProfilePhaseEnd g gsns s
  | .blankingEnd g gsns => Sys2Proof.Machine.execBlankingEnd g gsns s
  | .desatDetected g => Sys2Proof.Machine.execDesatDetected g s
  | .softTurnOffEnd g => Sys2Proof.Machine.execSoftTurnOffEnd g s
  | .desatFlagArrival g => Sys2Proof.Machine.execDesatFlagArrival g s
  | .gateOffReport g gsns => Sys2Proof.Machine.execGateOffReport g gsns s
  | .gateMiss g gsns => Sys2Proof.Machine.execGateMiss g gsns s
  | .isolatedLinkLoss g => Sys2Proof.Machine.execIsolatedLinkLoss g s
  | .primaryLinkFault g => Sys2Proof.Machine.execPrimaryLinkFault g s
  | .gdRetryWaitEnd g linkValid => Sys2Proof.Machine.execGdRetryWaitEnd g linkValid s
  | .gdClear g p linkValid => Sys2Proof.Machine.execGdClear g p linkValid s
  | .gdClearChannel g linkValid => Sys2Proof.Machine.execGdClearChannel g linkValid s
  | .gdRunDiagnostics g => Sys2Proof.Machine.execGdRunDiagnostics g s
  | .gdClearCounters => Sys2Proof.Machine.execGdClearCounters s
  | .interlockOpen j => Sys2Proof.Machine.execInterlockOpen j s
  | .interlockClosedSettled j => Sys2Proof.Machine.execInterlockClosedSettled j s
  | .diagnosticsComplete g v1 v2 wired => Sys2Proof.Machine.execDiagnosticsComplete g v1 v2 wired s
  | .fswWindow g => Sys2Proof.Machine.execFswWindow g s
  | .regulatorTick c => Sys2Proof.Machine.execRegulatorTick c s
  | .setCurrent c p => Sys2Proof.Machine.execSetCurrent c p s
  | .bndSetMode c p => Sys2Proof.Machine.execBndSetMode c p s
  | .bndSwapBank c p => Sys2Proof.Machine.execBndSwapBank c p s
  | .bndEnable c p => Sys2Proof.Machine.execBndEnable c p s
  | .setAngle c p => Sys2Proof.Machine.execSetAngle c p s
  | .bndSetLimit c p => Sys2Proof.Machine.execBndSetLimit c p s
  | .setTmag c p => Sys2Proof.Machine.execSetTmag c p s
  | .edgeRecordIssue c => Sys2Proof.Machine.execEdgeRecordIssue c s
  | .angleTimeout c => Sys2Proof.Machine.execAngleTimeout c s
  | .vdcTimeout c => Sys2Proof.Machine.execVdcTimeout c s
  | .carrierLoss c => Sys2Proof.Machine.execCarrierLoss c s
  | .npLimitTimeout c => Sys2Proof.Machine.execNpLimitTimeout c s
  | .bandAdapt c => Sys2Proof.Machine.execBandAdapt c s
  | .fieldWeakeningUpdate c => Sys2Proof.Machine.execFieldWeakeningUpdate c s
  | .tmagTimeout c => Sys2Proof.Machine.execTmagTimeout c s
  | .residualWindow c => Sys2Proof.Machine.execResidualWindow c s
  | .lrStepTimeout c => Sys2Proof.Machine.execLrStepTimeout c s
  | .bndClearCounters c => Sys2Proof.Machine.execBndClearCounters c s
  | .bndCheckError c => Sys2Proof.Machine.execBndCheckError c s
  | .stStart c => Sys2Proof.Machine.execStStart c s
  | .stStop c => Sys2Proof.Machine.execStStop c s
  | .stCoast c => Sys2Proof.Machine.execStCoast c s
  | .stClearCounters c => Sys2Proof.Machine.execStClearCounters c s
  | .stReset c => Sys2Proof.Machine.execStReset c s
  | .checkComplete c => Sys2Proof.Machine.execCheckComplete c s
  | .senseWindowEnd c conv => Sys2Proof.Machine.execSenseWindowEnd c conv s
  | .catchSyncEnd c obs => Sys2Proof.Machine.execCatchSyncEnd c obs s
  | .catchTimeout c => Sys2Proof.Machine.execCatchTimeout c s
  | .alignTimeEnd c => Sys2Proof.Machine.execAlignTimeEnd c s
  | .rampReached c => Sys2Proof.Machine.execRampReached c s
  | .handoverConfirmed c obs => Sys2Proof.Machine.execHandoverConfirmed c obs s
  | .handoverTimeout c => Sys2Proof.Machine.execHandoverTimeout c s
  | .passEntry c theta omega => Sys2Proof.Machine.execPassEntry c theta omega s
  | .proofPassed c => Sys2Proof.Machine.execProofPassed c s
  | .proofTimeout c => Sys2Proof.Machine.execProofTimeout c s
  | .brakeReleaseWaitEnd c => Sys2Proof.Machine.execBrakeReleaseWaitEnd c s
  | .startRetryWaitEnd c => Sys2Proof.Machine.execStartRetryWaitEnd c s
  | .standstillReached c => Sys2Proof.Machine.execStandstillReached c s
  | .brakeApplyWaitEnd c => Sys2Proof.Machine.execBrakeApplyWaitEnd c s
  | .keTrackingWindow c ests => Sys2Proof.Machine.execKeTrackingWindow c ests s
  | .keVerdict c => Sys2Proof.Machine.execKeVerdict c s
  | .dclPrecharge => Sys2Proof.Machine.execDclPrecharge s
  | .dclOpen => Sys2Proof.Machine.execDclOpen s
  | .dclDischarge => Sys2Proof.Machine.execDclDischarge s
  | .dclClearCounters => Sys2Proof.Machine.execDclClearCounters s
  | .dclReset => Sys2Proof.Machine.execDclReset s
  | .mainConfirmed => Sys2Proof.Machine.execMainConfirmed s
  | .prechargeT1Check => Sys2Proof.Machine.execPrechargeT1Check s
  | .prechargeSettled => Sys2Proof.Machine.execPrechargeSettled s
  | .prechargeTimeout => Sys2Proof.Machine.execPrechargeTimeout s
  | .mainTimeout => Sys2Proof.Machine.execMainTimeout s
  | .dischargeDone => Sys2Proof.Machine.execDischargeDone s
  | .dischargeTimeout => Sys2Proof.Machine.execDischargeTimeout s
  | .leSample n => Sys2Proof.Machine.execLeSample n s
  | .setSpeed n p => Sys2Proof.Machine.execSetSpeed n p s
  | .setPosition n p => Sys2Proof.Machine.execSetPosition n p s
  | .setTorque n p => Sys2Proof.Machine.execSetTorque n p s
  | .leSwapBank n p => Sys2Proof.Machine.execLeSwapBank n p s
  | .swapTable n p => Sys2Proof.Machine.execSwapTable n p s
  | .leSetMode n p => Sys2Proof.Machine.execLeSetMode n p s
  | .leEnable n p => Sys2Proof.Machine.execLeEnable n p s
  | .leSync n p launch => Sys2Proof.Machine.execLeSync n p launch s
  | .leHold n p => Sys2Proof.Machine.execLeHold n p s
  | .feedback n p => Sys2Proof.Machine.execFeedback n p s
  | .leSetLimit n p => Sys2Proof.Machine.execLeSetLimit n p s
  | .gainWrite n p => Sys2Proof.Machine.execGainWrite n p s
  | .tabWrite n p => Sys2Proof.Machine.execTabWrite n p s
  | .torqueShare n p => Sys2Proof.Machine.execTorqueShare n p s
  | .clipReport n p => Sys2Proof.Machine.execClipReport n p s
  | .leCheckError n => Sys2Proof.Machine.execLeCheckError n s
  | .leSpareResume => Sys2Proof.Machine.execLeSpareResume s
  | .leClearCounters n => Sys2Proof.Machine.execLeClearCounters n s
  | .fence p => Sys2Proof.Machine.execFence p s
  | .alive r => Sys2Proof.Machine.execAlive r s
  | .accept r => Sys2Proof.Machine.execAccept r s
  | .taken p => Sys2Proof.Machine.execTaken p s
  | .handback p => Sys2Proof.Machine.execHandback p s
  | .aliveSend c => Sys2Proof.Machine.execAliveSend c s
  | .memberLost c j => Sys2Proof.Machine.execMemberLost c j s
  | .mirroredStreamReceive c p0 p1 p2 p3 p4 p5 => Sys2Proof.Machine.execMirroredStreamReceive c p0 p1 p2 p3 p4 p5 s
  | .mirrorTimeout c => Sys2Proof.Machine.execMirrorTimeout c s
  | .takeoverSelectEnd c => Sys2Proof.Machine.execTakeoverSelectEnd c s
  | .giveTimeout c => Sys2Proof.Machine.execGiveTimeout c s
  | .shareTimeout c => Sys2Proof.Machine.execShareTimeout c s
  | .parClearCounters c => Sys2Proof.Machine.execParClearCounters c s
  | .rejoin c timeOk => Sys2Proof.Machine.execRejoin c timeOk s
  | .parHandback c fenced => Sys2Proof.Machine.execParHandback c fenced s
  | .handbackSelectEnd c => Sys2Proof.Machine.execHandbackSelectEnd c s
  | .stoPairDemand a b => Sys2Proof.Machine.execStoPairDemand a b s
  | .sinPairDemand p x y => Sys2Proof.Machine.execSinPairDemand p x y s
  | .pairDiscrepancy k => Sys2Proof.Machine.execPairDiscrepancy k s
  | .resetEdge rising low50 => Sys2Proof.Machine.execResetEdge rising low50 s
  | .stoRstStuck => Sys2Proof.Machine.execStoRstStuck s
  | .stoClearTimer c => Sys2Proof.Machine.execStoClearTimer c s
  | .normalRestore c => Sys2Proof.Machine.execNormalRestore c s
  | .ss1TimeEnd c => Sys2Proof.Machine.execSs1TimeEnd c s
  | .ss1TmaxEnd c => Sys2Proof.Machine.execSs1TmaxEnd c s
  | .standstillDetected c => Sys2Proof.Machine.execStandstillDetected c s
  | .sbcLeadEnd c => Sys2Proof.Machine.execSbcLeadEnd c s
  | .siEvaluation c interval tau impossible => Sys2Proof.Machine.execSiEvaluation c interval tau impossible s
  | .speedMismatch c impossible => Sys2Proof.Machine.execSpeedMismatch c impossible s
  | .slsToleranceEnd c => Sys2Proof.Machine.execSlsToleranceEnd c s
  | .sltToleranceEnd c => Sys2Proof.Machine.execSltToleranceEnd c s
  | .diverseSample c => Sys2Proof.Machine.execDiverseSample c s
  | .torqueMismatch c missing => Sys2Proof.Machine.execTorqueMismatch c missing s
  | .safetyFrameReceive net f => Sys2Proof.Machine.execSafetyFrameReceive net f s
  | .pairWindowEnd => Sys2Proof.Machine.execPairWindowEnd s
  | .sfTimeout => Sys2Proof.Machine.execSfTimeout s
  | .siStatusFrame => Sys2Proof.Machine.execSiStatusFrame s
  | .heartbeatLoss => Sys2Proof.Machine.execHeartbeatLoss s
  | .siClockWindow dev => Sys2Proof.Machine.execSiClockWindow dev s
  | .siSupplyFault => Sys2Proof.Machine.execSiSupplyFault s
  | .lockstepMismatch => Sys2Proof.Machine.execLockstepMismatch s
  | .enableConfirmTimeout g => Sys2Proof.Machine.execEnableConfirmTimeout g s
  | .cfgCrcCheck => Sys2Proof.Machine.execCfgCrcCheck s
  | .siSelfTest pass => Sys2Proof.Machine.execSiSelfTest pass s
  | .internalSs1Request c => Sys2Proof.Machine.execInternalSs1Request c s
  | .brakeReleaseRequest c => Sys2Proof.Machine.execBrakeReleaseRequest c s
  | .pennantWrite => Sys2Proof.Machine.execPennantWrite s
  | .bivouacEntry => Sys2Proof.Machine.execBivouacEntry s
  | .bivouacFrame => Sys2Proof.Machine.execBivouacFrame s
  | .bivTmaxExpiry => Sys2Proof.Machine.execBivTmaxExpiry s
  | .fltClearCounters => Sys2Proof.Machine.execFltClearCounters s
  | .canFrameReceive n f sof => Sys2Proof.Machine.execCanFrameReceive n f sof s
  | .canTxEnd n r sof tdcv => Sys2Proof.Machine.execCanTxEnd n r sof tdcv s
  | .busOffWaitEnd n => Sys2Proof.Machine.execBusOffWaitEnd n s
  | .busOffRecoveryDone n => Sys2Proof.Machine.execBusOffRecoveryDone n s
  | .canClearCounters n => Sys2Proof.Machine.execCanClearCounters n s
  | .canRequestBuffer n b => Sys2Proof.Machine.execCanRequestBuffer n b s
  | .canAbortBuffer n b => Sys2Proof.Machine.execCanAbortBuffer n b s
  | .canStartRecovery n => Sys2Proof.Machine.execCanStartRecovery n s
  | .canRestartTt n => Sys2Proof.Machine.execCanRestartTt n s
  | .transmit n p => Sys2Proof.Machine.execTransmit n p s
  | .send8 n p => Sys2Proof.Machine.execSend8 n p s
  | .canAbortRecord n p => Sys2Proof.Machine.execCanAbortRecord n p s
  | .canMbDataWrite n b k v => Sys2Proof.Machine.execCanMbDataWrite n b k v s
  | .statusFrameSend n c => Sys2Proof.Machine.execStatusFrameSend n c s
  | .ttCycleStart n => Sys2Proof.Machine.execTtCycleStart n s
  | .masterPrioritySend n => Sys2Proof.Machine.execMasterPrioritySend n s
  | .ttTrigger n t => Sys2Proof.Machine.execTtTrigger n t s
  | .ttTxWindowMiss n t => Sys2Proof.Machine.execTtTxWindowMiss n t s
  | .ttReferenceLoss n => Sys2Proof.Machine.execTtReferenceLoss n s
  | .canBusError n tx step lec data => Sys2Proof.Machine.execCanBusError n tx step lec data s
  | .protocolException n => Sys2Proof.Machine.execProtocolException n s
  | .canArbitrationStart n => Sys2Proof.Machine.execCanArbitrationStart n s
  | .auxSet n p => Sys2Proof.Machine.execAuxSet n p s
  | .auxRequestOn n => Sys2Proof.Machine.execAuxRequestOn n s
  | .auxRequestOff n => Sys2Proof.Machine.execAuxRequestOff n s
  | .auxClearOutput n => Sys2Proof.Machine.execAuxClearOutput n s
  | .auxClearCounters => Sys2Proof.Machine.execAuxClearCounters s
  | .pullinStart n => Sys2Proof.Machine.execPullinStart n s
  | .peakEnd n => Sys2Proof.Machine.execPeakEnd n s
  | .holdOkReached n mA => Sys2Proof.Machine.execHoldOkReached n mA s
  | .holdRegulationLost n mA => Sys2Proof.Machine.execHoldRegulationLost n mA s
  | .auxOvercurrent n mA => Sys2Proof.Machine.execAuxOvercurrent n mA s
  | .feedOvercurrent h mA => Sys2Proof.Machine.execFeedOvercurrent h mA s
  | .auxRetryWaitEnd n => Sys2Proof.Machine.execAuxRetryWaitEnd n s
  | .auxDiagComplete n v1 v2 moved => Sys2Proof.Machine.execAuxDiagComplete n v1 v2 moved s
  | .pitchSequence run => Sys2Proof.Machine.execPitchSequence run s
  | .keyRemoved => Sys2Proof.Machine.execKeyRemoved s
  | .keyInserted key => Sys2Proof.Machine.execKeyInserted key s
  | .deferredKeyWrite fails => Sys2Proof.Machine.execDeferredKeyWrite fails s
  | .pchClearCounters => Sys2Proof.Machine.execPchClearCounters s
  | .markPending fails => Sys2Proof.Machine.execMarkPending fails s
  | .setpointRoute mgmt => Sys2Proof.Machine.execSetpointRoute mgmt s
  | .setpointTimeout e => Sys2Proof.Machine.execSetpointTimeout e s
  | .aux24PowerUp diode => Sys2Proof.Machine.execAux24PowerUp diode s
  | .aux24Cutoff => Sys2Proof.Machine.execAux24Cutoff s
  | .aux24Dropout power volts => Sys2Proof.Machine.execAux24Dropout power volts s
  | .aux24Low power volts => Sys2Proof.Machine.execAux24Low power volts s
  | .aux24High power volts => Sys2Proof.Machine.execAux24High power volts s
  | .wakeEdge diode => Sys2Proof.Machine.execWakeEdge diode s
  | .can0DominantWake diode => Sys2Proof.Machine.execCan0DominantWake diode s
  | .wakeFrame n fd ide ident dlc data diode => Sys2Proof.Machine.execWakeFrame n fd ide ident dlc data diode s
  | .wakeFrameErrors n diode => Sys2Proof.Machine.execWakeFrameErrors n diode s
  | .pwrClearCounters => Sys2Proof.Machine.execPwrClearCounters s
  | .runCommand => Sys2Proof.Machine.execRunCommand s
  | .readyCommand => Sys2Proof.Machine.execReadyCommand s
  | .listenCommand flush => Sys2Proof.Machine.execListenCommand flush s
  | .stowCommand flush => Sys2Proof.Machine.execStowCommand flush s
  | .restartCommand diode => Sys2Proof.Machine.execRestartCommand diode s
  | .restartEdge diode => Sys2Proof.Machine.execRestartEdge diode s
  | .autoRunEntry => Sys2Proof.Machine.execAutoRunEntry s
  | .domainFailure d => Sys2Proof.Machine.execDomainFailure d s
  | .pllLockLoss k => Sys2Proof.Machine.execPllLockLoss k s
  | .xtalDeviationWindow dev => Sys2Proof.Machine.execXtalDeviationWindow dev s
  | .mgmtClockWindow dev => Sys2Proof.Machine.execMgmtClockWindow dev s
  | .clkClearCounters => Sys2Proof.Machine.execClkClearCounters s
  | .hkSlot task finished => Sys2Proof.Machine.execHkSlot task finished s
  | .throttleTick => Sys2Proof.Machine.execThrottleTick s
  | .thermalShutdownReading diode => Sys2Proof.Machine.execThermalShutdownReading diode s
  | .hkClearCounters => Sys2Proof.Machine.execHkClearCounters s
  | .mpHeartbeat late => Sys2Proof.Machine.execMpHeartbeat late s
  | .cellReceive path cell => Sys2Proof.Machine.execCellReceive path cell s
  | .mgtRead => Sys2Proof.Machine.execMgtRead s
  | .mgtWrite inp => Sys2Proof.Machine.execMgtWrite inp s
  | .logRead => Sys2Proof.Machine.execLogRead s
  | .timeCorr => Sys2Proof.Machine.execTimeCorr s
  | .updBegin fails => Sys2Proof.Machine.execUpdBegin fails s
  | .updData left => Sys2Proof.Machine.execUpdData left s
  | .updEnd fails => Sys2Proof.Machine.execUpdEnd fails s
  | .updAbort fails => Sys2Proof.Machine.execUpdAbort fails s
  | .ping => Sys2Proof.Machine.execPing s
  | .forwardResponse => Sys2Proof.Machine.execForwardResponse s
  | .forwardTimeout => Sys2Proof.Machine.execForwardTimeout s
  | .logFlushPage left => Sys2Proof.Machine.execLogFlushPage left s
  | .logHeadSearch => Sys2Proof.Machine.execLogHeadSearch s
  | .updIdleTimeout fails => Sys2Proof.Machine.execUpdIdleTimeout fails s
  | .mgtClearCounters => Sys2Proof.Machine.execMgtClearCounters s
  | .mgtAbortSession fails => Sys2Proof.Machine.execMgtAbortSession fails s

end Sys2Proof.Machine
end

