-- ==== Sys2Proof/Safety.lean ====
section
/-! DEFINITION. What the claims of this model are stated in: a safe state, completion of a command, and frames. -/
namespace Sys2Proof

/-- A state whose register bank is in its one canonical form. -/
def Safe (s : Machine.State) : Prop := s.regs.wf Machine.resetVal = true

end Sys2Proof

namespace Sys2Proof.Machine

/-- Command `c` answers a next state of which `P` holds. -/
def Completes (c : Instr) (s : State) (P : State → Prop) : Prop := ∃ t, exec c s = .next t ∧ P t

/-- Every register outside `l` reads as before. -/
def RegsKept (l : List Nat) (s t : State) : Prop := ∀ a, a ∉ l → t.rd a = s.rd a

/-- Nothing but registers of `l` changes. -/
def OnlyRegs (l : List Nat) (s t : State) : Prop := RegsKept l s t ∧ t = { s with regs := t.regs }


/-- The raises that have set out for FLT since `s` are those of `l`: code and UINDEX. -/
def Raised (l : List (Nat × Nat)) (s t : State) : Prop :=
  ∃ n, t.flt.raised = s.flt.raised ++ n ∧ n.map (fun r => (r.code, r.uidx)) = l

/-- Among the raises that have set out for FLT since `s`, whose order the earlier ones keep, is one of this code and UINDEX. -/
def Raises (code uidx : Nat) (s t : State) : Prop :=
  ∃ n, t.flt.raised = s.flt.raised ++ n ∧ (code, uidx) ∈ n.map (fun r => (r.code, r.uidx))

/-- The registers that follow the chopper's availability (R235). -/
def chopRegs : List Nat := [rBND_DCL_STATUS, rBND_DCL_EVENTS, rFLT_CELL 0, rFLT_CELL 1, rFLT_CELL 2, rFLT_CELL 3]

/-- From `s`, the state `t` is `u`, register by register and in every other part, but for the raises on their way to FLT, which are those of `l`
(with none, nothing of FLT's differs either). -/
def Does (s t u : State) (l : List (Nat × Nat)) : Prop :=
  (∀ a, t.rd a = u.rd a) ∧ t = { u with regs := t.regs, flt := t.flt } ∧ Raised l s t ∧ (l = [] → t.flt = s.flt)

/-- Command `c` answers the state `u`, with the raises `l` on their way. -/
def Answers (c : Instr) (s u : State) (l : List (Nat × Nat)) : Prop := Completes c s (fun t => Does s t u l)

/-! ### CMD registers -/

/-- A CMD register at which a value written runs (R10–R13, R376, R427): the module is awake and not in BIVOUAC, no command is running, and in PITCH
only PCH and MGT run commands. -/
structure CmdReady (s : State) (reg : Nat) : Prop where
  lit : s.mute = false
  open_ : s.inBiv = false
  idle : s.cmdStatus reg ≠ stBUSY
  started : s.ps = psPITCH → reg / 16777216 = 0x0E ∨ reg / 16777216 = 0x11

/-- The CMD register shows the value written and its completion status. -/
def CmdShows (t : State) (reg val status : Nat) : Prop := t.rdN reg = status * 65536 + val

/-- A command that completes with a status and changes nothing but its CMD register. -/
def CmdOnly (s t : State) (reg val status : Nat) : Prop := CmdShows t reg val status ∧ OnlyRegs [reg] s t

/-- A command that clears the registers of `l`. -/
def CmdClears (s t : State) (reg val : Nat) (l : List Nat) : Prop :=
  CmdShows t reg val stDONE ∧ (∀ a ∈ l, t.rd a = 0) ∧ OnlyRegs (reg :: l) s t

/-! ### Field processors -/

/-- Processor `f` issues at once a bundle of one operation, but for errors (R292): it runs outside the sandbox, neither waits nor stalls, has gathered
nothing, has no DEQ or ENQ in progress and no loop open, and its next bundle lies in instruction SRAM. -/
structure FpReady (s : State) (f : Nat) : Prop where
  runs : s.fpState f = fpRUNNING
  awake : s.on (fFP_STATUS_WAITING f) = false
  free : (s.core f).stalled = false
  empty : (s.core f).bundle = []
  noDeq : (s.core f).deqs = []
  noEnq : (s.core f).enqs = []
  noLoop : (s.core f).loops = []
  inSram : (s.core f).pc + 4 ≤ 0x10000
  priv : s.sbxm f = false

/-- It does so with no error in its SRAMs and registers. -/
structure FpIdle (s : State) (f : Nat) : Prop extends FpReady s f where
  whole : ∀ w, (s.core f).flips.at 0 w = 0
  sound : ∀ p, (s.core f).parity.at false p = false

/-- What a bundle of one operation leaves of the rest (R300): the core but for `core` and the instant of its issue, the other cores, the registers
but `FP_PC` and `FPSTAT`, which take the bundle's address and the flags `fl`, and everything outside. -/
structure FpFrame (s t : State) (f : Nat) (core : FpCore → FpCore) (fl : Nat) : Prop where
  core : t.core f = core { s.core f with issuedAt := s.now + 1 }
  others : ∀ g, g ≠ f → t.core g = s.core g
  at_ : t.rdN (rFP_PC f) = (s.core f).pc
  flags : t.rdN (rFP_FPSTAT f) = Nat.lor (s.rdN (rFP_FPSTAT f)) fl
  regs : RegsKept [rFP_PC f, rFP_FPSTAT f] s t
  rest : t = { s with regs := t.regs, fp := t.fp }

/-- The next bundle follows. -/
def FpCore.next (c : FpCore) : FpCore := { c with pc := c.pc + 4 }

/-- Register `rd` (none for g0) takes `v`, and the next bundle follows. -/
def FpCore.result (rd : Option Nat) (v : Word) (c : FpCore) : FpCore :=
  match rd with
  | some p => (c.setPhys p v).next
  | none => c.next

/-- Accumulator `n` takes `v`, and the next bundle follows. -/
def FpCore.accResult (n : Nat) (v : Int) (c : FpCore) : FpCore := (c.setAcc n v).next

/-- What a trap leaves (R311): the bundle cancelled, the trap state saved (`XADDR` free where there is no data address), window 15, trap mode on and
sandbox mode off, and the handler of the cause next. -/
structure FpTrapped (s t : State) (f cause ret : Nat) (addr : Option Nat) : Prop where
  core : ∃ xa, (∀ a, addr = some a → xa = a % 131072) ∧ t.core f = { s.core f with
    bundle := [], stalled := false, xpc := ret, xwin := s.fld (fFP_STATUS_WCUR f), xcause := xcauseWord cause (s.sbxm f), xaddr := xa,
    pc := (s.core f).xvec + 64 * cause }
  others : ∀ g, g ≠ f → t.core g = s.core g
  status : t.rd (rFP_STATUS f) = (((s.setF (fFP_STATUS_WCUR f) 15).set1 (fFP_STATUS_TRAPM f)).clr (fFP_STATUS_SBXM f)).rd (rFP_STATUS f)
  cause : t.rdN (rFP_TRAP f) = cause
  at_ : t.rdN (rFP_TRAP_PC f) = ret % 65536
  regs : RegsKept [rFP_STATUS f, rFP_TRAP f, rFP_TRAP_PC f, rFP_TRAP_ADDR f, rFP_CNT_TRAPS f, rFP_EVENTS f, rFP_CNT_SBX f] s t
  rest : t = { s with regs := t.regs, fp := t.fp, flt := t.flt, free := t.free }

/-- What a halt leaves (R292, R312, R313, R316): every register and SRAM word, the cause and the address in the halt registers, 0x0901 on its way
with both, and the spares policy owed. -/
structure FpHalted (s t : State) (f cause : Nat) : Prop where
  core : t.core f = { s.core f with bundle := [], stalled := false, enqs := [], haltAt := s.now }
  others : ∀ g, g ≠ f → t.core g = s.core g
  state : t.rd (rFP_STATUS f) = (s.setF (fFP_STATUS_STATE f) fpHALTED).rd (rFP_STATUS f)
  cause : t.fld (fFP_HALT_CAUSE f) = cause
  at_ : t.fld (fFP_HALT_PC f) = (s.core f).pc % 65536
  event : t.rd (rFP_EVENTS f) = (s.set1 (fFP_EVENTS_HALTED f)).rd (rFP_EVENTS f)
  owed : t.fp.owed = s.fp.owed ++ [f]
  raised : s.mute = false → Raised [(0x0901, f)] s t
  regs : RegsKept [rFP_STATUS f, rFP_HALT f, rFP_EVENTS f] s t
  rest : t = { s with regs := t.regs, fp := t.fp, flt := t.flt }

/-! ### Gate channels -/

/-- Every leg lies within the 24 outputs (R147, checked at Pitch). -/
def LegsFit (s : State) : Prop := ∀ n, n < 12 → s.legBase n + s.legN n ≤ 24

/-- A channel fault has taken an ARMED channel (R175, R176): LATCHED with its cause, counted, held off, its wait running outside BIVOUAC, and the
code on its way. -/
structure GdLatched (s t : State) (g cause code : Nat) : Prop where
  state : t.gst g = gLATCHED
  cause : t.fld (fGD_STATUS_CAUSE g) = cause
  counted : t.rdN (rGD_CNT_LATCH g) = min (s.rdN (rGD_CNT_LATCH g) + 1) 0xFFFFFFFF
  off : (t.gate g).drive.isOn = false
  waits : (t.gate g).waiting = !s.inBiv
  owed : (t.gate g).owed = code
  raised : Raises code g s t
  others : ∀ k, k ≠ g → t.gate k = s.gate k ∧ (k < 24 → t.gst k = s.gst k)

/-! ### The safety island -/

/-- Both enables of every channel of cell `c` are removed, and no switch of it is driven on. -/
def EnablesOff (t : State) (c : Nat) : Prop :=
  ∀ o, o < 24 → t.cellHas c o = true → (t.gate o).gse = false ∧ (t.gate o).sen = false ∧ (t.gate o).drive.isOn = false

/-- Cell `c` has entered STO_HELD (R331): enables off, brakes applied where it has them, and 0x0A01 on its way when it ran. -/
structure CellHeld (s t : State) (c : Nat) : Prop where
  state : t.cst c = cHELD
  enables : EnablesOff t c
  brakes : s.on (fSI_CELL_CFG_SBC_EN c) = true → s.fld (fSI_CELL_CFG_BRK_OUT c) ≠ 0 → t.on (fSI_CELL_STATUS_BRAKE_APPLIED c) = true
  raised : s.cst c = cNORMAL ∨ s.cst c = cSS1 → Raises 0x0A01 c s t

/-- The island is in FAULT (R351): every cell held, the pin low, the module in HALT, and 0x0A11 on its way. -/
structure IslandFaulted (s t : State) : Prop where
  state : t.ist = iFAULT
  cells : ∀ c, c < 4 → t.cst c = cHELD ∧ bit (t.fld (fSI_CELL_STATUS_DEMAND c)) 6 = true
  gates : ∀ o, o < 24 → (t.gate o).gse = false ∧ (t.gate o).sen = false ∧ (t.gate o).drive.isOn = false
  pin : t.on fSI_STATUS_FLT_LOW = true
  halt : t.ps = psHALT
  cause : s.ps ≠ psHALT → t.fld fPWR_STATUS_LAST_CAUSE = 11
  raised : Raises 0x0A11 255 s t

/-- The module has entered HALT (R438): its cause shown, running cells held, every gate off, and the units' domains off. -/
structure EnteredHalt (s t : State) (cause : Nat) : Prop where
  state : t.ps = psHALT
  cause : t.fld fPWR_STATUS_LAST_CAUSE = cause
  cells : ∀ c, c < 4 → cNORMAL ≤ s.cst c → t.cst c = cHELD
  gates : ∀ o, o < 24 → (t.gate o).gse = false ∧ (t.gate o).sen = false ∧ (t.gate o).drive.isOn = false
  domains : ∀ d, d < 132 → domHalt d = false → t.domOn d = false
  pin : t.on fSI_STATUS_FLT_LOW = true

/-! ### Lives of the module -/

/-- A new life begins with `cause` from state `prev`, 15 power-on (R434, R437, R442, R459): every register at its reset value but those that tell why,
the wake configuration and the ring's pointers; the key, the fuses and the waiting commands stay; the module enters PITCH, or waits asleep while the
die is hot. -/
structure NewLife (s t : State) (cause prev : Nat) (diode : Option (BitVec 16)) : Prop where
  cool : dieCool diode = true → t.ps = psPITCH ∧ t.pwr.prelude = none
  hot : dieCool diode = false → t.ps = psSTOW ∧ t.pwr.prelude = some (cause, prev)
  wake : t.fld fPWR_WAKE_CAUSE = cause ∧ t.fld fPWR_WAKE_PREV = prev
  config : t.rd rPWR_CFG = if prev = 15 then State.reset.rd rPWR_CFG else s.rd rPWR_CFG
  fresh : ∀ a, a ∉ [rPWR_STATUS, rPWR_WAKE, rPWR_CFG, rFLT_RING_WR, rFLT_RING_FLUSH] → t.rd a = State.reset.rd a
  key : t.key.flash = s.key.flash ∧ t.key.present = s.key.present ∧ t.key.fuses = s.key.fuses
  waiting : t.pending = s.pending
  blank : t.hq = State.reset.hq ∧ t.fp = State.reset.fp ∧ t.gd = State.reset.gd ∧ t.flt.raised = []

/-! ### The queue fabric -/

/-- A record as this module's hardware completes it (R73, R74): source and CRC. -/
def State.own32 (s : State) (r : Rec) : Rec := Rec.sealed { r with src := BitVec.ofNat 8 s.own, seq := 0 }

/-- A record that is no Hoist member passes checks 1 to 4 and 6 of R75 at local queue `q`, and the pool has room outside its reserve. -/
structure HqTakes (s : State) (r : Rec) (q : Nat) : Prop where
  target : r.target.toNat = q
  local_ : q < 0x8000
  notTable : q ≠ 0
  made : r.flags.toNat < 8
  single : bit r.flags.toNat 1 = false
  untagged : r.gtag = 0
  enabled : s.qEnabled q = true
  accepts : s.accepts q r.opcode.toNat r.payload = true
  gen : (s.qd q).genCheck = true → r.gen.toNat ≠ 0 ∧ r.gen.toNat = s.qGen q
  quota : (s.qd q).held.length < (s.qd q).quota
  room : 0 < s.mainFree

/-- The registers the pool shows. -/
def hqPoolRegs : List Nat := [rHQ_POOL_FREE, rHQ_POOL_MIN, rHQ_STATUS, rHQ_EVENTS]

/-- Record `r` stands in queue `q` at its place in launch-time order (R79), in a pool record outside the reserve, and every other queue, every group
and everything outside HQ is as before. -/
structure HqHeld (s t : State) (r : Rec) (q : Nat) : Prop where
  there : ∃ idx, s.rsvSize ≤ idx ∧ idx < 131072 ∧
    t.qd q = { s.qd q with held := s.insertHeld { idx := idx, rsv := false, r := r, fired := false } (s.qd q).held }
  others : ∀ k, k ≠ q → t.qd k = s.qd k
  used : t.hq.usedMain = s.hq.usedMain + 1
  free : t.rdN rHQ_POOL_FREE = s.poolFree - 1
  groups : t.hq.groups = s.hq.groups
  passed : t.hq.passed = s.hq.passed
  regs : RegsKept (rHQ_ENQ_CMD :: hqPoolRegs) s t
  rest : t = { s with regs := t.regs, hq := t.hq, flt := t.flt, free := s.free + 1 }

/-! ### Management -/

/-- Request `r` of operation `op` is at the front, before `rest`, and is served now (R465, R466): its responder runs, its path takes a cell, and in
BIVOUAC it is a READ over SVC. -/
structure MgtFront (s : State) (op : Nat) (r : MgtReq) (rest : List MgtReq) : Prop where
  lit : s.mute = false
  front : s.mgt.queue = r :: rest
  op : cOp r.cell = op
  now : s.canServe r = true
  kept : s.dropped r = false

/-- `s` with request `r` answered over its path (R462, R464): the operation with bit 7, TAG and LEN as in the request. -/
def State.replied (s : State) (r : MgtReq) (stat addr data : Nat) : State :=
  s.sendCell r.path (mkCell (cSrc r.cell) s.mgtOwn (cOp r.cell + 128) (cTag r.cell) (cLen r.cell) stat addr data)

/-- `s` without the request at the front. -/
def State.popped (s : State) (rest : List MgtReq) : State := { s with mgt := { s.mgt with queue := rest } }

/-- The same, the request counted (R467). -/
def State.counted (s : State) (rest : List MgtReq) : State := (s.popped rest).wrN rMGT_CNT_REQ (min (s.rdN rMGT_CNT_REQ + 1) 0xFFFFFFFF)

/-! ### Writes to CMD registers -/

/-- The value `val` written to the CMD register at `reg` is command `i`. -/
def CmdRow (inp : CmdIn) (reg val : Nat) (i : Instr) : Prop :=
  ∃ (c : Fin 4) (o : Fin 12) (g : Fin 24) (e : Fin 5) (f : Fin 10) (b : Fin 128), (reg, val, i) ∈
  [(rHAL_CMD, 1, .halClearCounters), (rHAL_CMD, 0x10 + c.val, .halRetrainPort c), (rHAL_CMD, 0x20 + c.val, .halDisablePort c),
    (rHAL_CMD, 0x30 + c.val, .halEnablePort c), (rSNS_CMD, 1, .snsClearCounters), (rSNS_CMD, 2, .snsRotationStep), (rPOS_CMD, 1, .posClearCounters),
    (rEDG_CMD, 1, .edgClearCounters), (rEDG_CMD, 0x100 + o.val, .edgClearLeg o), (rGD_CMD, 1, .gdClearCounters),
    (rGD_CMD, 0x100 + g.val, .gdClearChannel g inp.linkValid), (rGD_CMD, 0x200 + g.val, .gdRunDiagnostics g), (rAUX_CMD, 1, .auxClearCounters),
    (rAUX_CMD, 0x100 + o.val, .auxRequestOn o), (rAUX_CMD, 0x200 + o.val, .auxRequestOff o), (rAUX_CMD, 0x300 + o.val, .auxClearOutput o)] ++
  [(rHQ_CMD, 1, .hqClearCounters), (rHQ_ENQ_CMD, 1, .hqEnqueue), (rBND_CMD c.val, 1, .bndClearCounters c), (rBND_ST_CMD c.val, 1, .stStart c),
    (rBND_ST_CMD c.val, 2, .stStop c), (rBND_ST_CMD c.val, 3, .stCoast c), (rBND_ST_CMD c.val, 4, .stClearCounters c), (rBND_ST_CMD c.val, 5, .stReset c),
    (rBND_DCL_CMD, 1, .dclPrecharge), (rBND_DCL_CMD, 2, .dclOpen), (rBND_DCL_CMD, 3, .dclDischarge), (rBND_DCL_CMD, 4, .dclClearCounters),
    (rBND_DCL_CMD, 5, .dclReset), (rBND_DCL_CMD, 0x10, .mainConfirmed), (rLE_CMD e.val, 1, .leClearCounters e),
    (rLE_PAR_CMD c.val, 1, .parClearCounters c), (rLE_PAR_CMD c.val, 2, .rejoin c inp.timeOk), (rLE_PAR_CMD c.val, 3, .parHandback c inp.fenced),
    (rFP_CMD f.val, 1, .fpClearCounters f), (rFLT_CMD, 1, .fltClearCounters)] ++
  [(rCAN_CMD c.val, 1, .canClearCounters c), (rCAN_CMD c.val, 0x100 + b.val, .canRequestBuffer c b), (rCAN_CMD c.val, 0x200 + b.val, .canAbortBuffer c b),
    (rCAN_CMD c.val, 0x300, .canStartRecovery c), (rCAN_CMD c.val, 0x500, .canRestartTt c), (rPCH_CMD, 1, .pchClearCounters),
    (rPCH_CMD, 0x10, .markPending inp.fails), (rPWR_CMD, 1, .pwrClearCounters), (rPWR_CMD, 0x10, .runCommand), (rPWR_CMD, 0x11, .readyCommand),
    (rPWR_CMD, 0x20, .listenCommand inp.flush), (rPWR_CMD, 0x21, .stowCommand inp.flush), (rPWR_CMD, 0x30, .restartCommand inp.diode),
    (rCLK_CMD, 1, .clkClearCounters), (rHK_CMD, 1, .hkClearCounters), (rMGT_CMD, 1, .mgtClearCounters), (rMGT_CMD, 0x10, .mgtAbortSession inp.fails)]

end Sys2Proof.Machine
end

