-- ==== Sys2Proof/Certificates/Slice0/Obligations.lean ====
section
/-! DEFINITION. The statements about this model that the provers prove. -/

open Sys2Proof Sys2Proof.Machine

/-- R301 (integer rows), R294, R300: each integer operation issued alone writes its value and changes nothing else.  Shift amounts of 32 or more and ABS of the most
negative word are the model's free values.

Completion is stated of: opAdd, opSub, opAnd, opOr, opXor, andn, shl, shr, shra, fpMin, fpMax, fpAbs, seq, slt, sltu, movi, movhi, opMul. -/
def Obligations.FpIntegerResults : Prop :=
  ∀ (s : State) (f : Fin 10) (rd ra rb : FpReg) (b : FpSrc) (imm : BitVec 16), FpIdle s f.val →
    let a := s.fpReg f.val ra
    let c := s.fpReg f.val rb
    let v := s.srcVal f.val b
    let d := s.fpReg f.val rd
    ∀ x ∈ [(Instr.opAdd f true rd ra b, a + v), (.opSub f true rd ra b, a - v), (.opAnd f true rd ra b, a &&& v),
        (.opOr f true rd ra b, a ||| v), (.opXor f true rd ra b, a ^^^ v), (.andn f true rd ra b, a &&& ~~~v),
        (.shl f true rd ra b, if v.toNat < 32 then a <<< v.toNat else Config.fpShift 0 a v),
        (.shr f true rd ra b, if v.toNat < 32 then a >>> v.toNat else Config.fpShift 1 a v),
        (.shra f true rd ra b, if v.toNat < 32 then a.sshiftRight v.toNat else Config.fpShift 2 a v),
        (.fpMin f true rd ra rb, if c.slt a then c else a), (.fpMax f true rd ra rb, if a.slt c then c else a),
        (.fpAbs f true rd ra, if a = 0x80000000#32 then Config.fpAbsMin else if a.msb then -a else a),
        (.seq f true rd ra b, if a = v then 1 else 0), (.slt f true rd ra b, if a.slt v then 1 else 0),
        (.sltu f true rd ra b, if a.ult v then 1 else 0), (.movi f true rd imm, imm.signExtend 32),
        (.movhi f true rd imm, imm ++ d.setWidth 16), (.opMul f true rd ra rb, a * c)],
      Completes x.1 s (fun t => FpFrame s t f.val (FpCore.result (s.fpPhys f.val rd) x.2) 0)

/-- R297, R301, R243: saturating lanes, rounded reads of an accumulator, redundant sign bits, exponent and sign operations.

Completion is stated of: addsH, subsH, accrd, accrdW, norm, normH, normacc, bexp, expx, fabs, fneg. -/
def Obligations.FpPackedResults : Prop :=
  ∀ (s : State) (f : Fin 10) (rd ra rb : FpReg) (n : Fin 2) (imm : Fin 9), FpIdle s f.val →
    let a := s.fpReg f.val ra
    let b := s.fpReg f.val rb
    let d := s.fpReg f.val rd
    let acc := (s.core f.val).acc n.val
    let lo := fun (w : Word) => sgn16 w.toNat
    let hi := fun (w : Word) => sgn16 (w.toNat / 65536)
    let pack := fun (h l : Int) => BitVec.ofNat 32 (q15 (satQ15 h) * 65536 + q15 (satQ15 l))
    let flagged := fun (h l : Int) => if satQ15 l = l ∧ satQ15 h = h then 0 else 1024
    let r := (acc * 2 ^ imm.val + 32768) / 65536
    let w := clamp (-2147483648) 2147483647 acc
    let nh : Nat := min (redundant 16 (lo a)) (redundant 16 (hi a))
    ∀ x ∈ [(Instr.addsH f true rd ra rb, pack (hi a + hi b) (lo a + lo b), flagged (hi a + hi b) (lo a + lo b)),
        (.subsH f true rd ra rb, pack (hi a - hi b) (lo a - lo b), flagged (hi a - hi b) (lo a - lo b)),
        (.accrd f true rd n imm, BitVec.ofInt 32 (satQ15 r), if satQ15 r = r then 0 else 1024),
        (.accrdW f true rd n, BitVec.ofInt 32 w, if w = acc then 0 else 1024),
        (.norm f true rd ra, BitVec.ofNat 32 (redundant 32 a.toInt), 0), (.normH f true rd ra, BitVec.ofNat 32 nh, 0),
        (.normacc f true rd n, BitVec.ofInt 32 ((redundant 40 acc : Int) - 8), 0),
        (.bexp f true rd ra, if (BitVec.ofNat 32 nh).slt d then BitVec.ofNat 32 nh else d, 0),
        (.expx f true rd ra, BitVec.ofInt 32 (fExpX a), 0), (.fabs f true rd ra, a &&& 0x7FFFFFFF, 0),
        (.fneg f true rd ra, a ^^^ 0x80000000, 0)],
      Completes x.1 s (fun t => FpFrame s t f.val (FpCore.result (s.fpPhys f.val rd) x.2.1) x.2.2)

/-- R297, R243, R301: the accumulator takes the exact value saturated to Q9.31 and `SATn` tells a saturation.  The floor of ACCSHR is the model's reading.

Completion is stated of: mpy, mac, msu, accadd, accset, accshl, accshr. -/
def Obligations.FpAccumulatorResults : Prop :=
  ∀ (s : State) (f : Fin 10) (n : Fin 2) (a b : FpHalf) (ra : FpReg) (imm : Fin 32), FpIdle s f.val →
    let half := fun (x : FpHalf) => let w := (s.fpReg f.val x.r).toNat; sgn16 (if x.high then w / 65536 else w)
    let p := half a * half b * 2
    let acc := (s.core f.val).acc
    let lim : Int := 549755813888
    ∀ x ∈ [(Instr.mpy f true n a b, p), (.mac f true n a b, acc n.val + p), (.msu f true n a b, acc n.val - p),
        (.accadd f true n, acc 0 + acc 1), (.accset f true n ra, (s.fpReg f.val ra).toInt),
        (.accshl f true n imm, acc n.val * 2 ^ imm.val), (.accshr f true n imm, acc n.val / 2 ^ imm.val)],
      Completes x.1 s (fun t => FpFrame s t f.val (FpCore.accResult n.val (clamp (-lim) (lim - 1) x.2))
        (if -lim ≤ x.2 ∧ x.2 < lim then 0 else if n.val = 0 then 256 else 512))

/-- R301, R308: a floating-point operation writes its result, adds its flags to the sticky ones and never traps.  R309.

Completion is stated of: fadd, fsub, fmul, fma, fms, fdiv, fsqrt, fscale, fmin, fmax, fceq, fclt, fcle, fcvtSW, fcvtWS, fcvtSQ15, fcvtQ15S. -/
def Obligations.FpFloatAndNaN : Prop :=
  (∀ (s : State) (f : Fin 10) (d ra rb rc : FpReg), FpIdle s f.val →
    let a := s.fpReg f.val ra
    let b := s.fpReg f.val rb
    let c := s.fpReg f.val rc
    ∀ x ∈ [(Instr.fadd f true d ra rb, fAdd a b), (.fsub f true d ra rb, fSub a b), (.fmul f true d ra rb, fMul a b),
        (.fma f true d ra rb rc, fFma a b c), (.fms f true d ra rb rc, fFms a b c), (.fdiv f true d ra rb, fDiv a b),
        (.fsqrt f true d ra, fSqrt a), (.fscale f true d ra rb, fScale a b), (.fmin f true d ra rb, fMinN a b),
        (.fmax f true d ra rb, fMaxN a b), (.fceq f true d ra rb, fCeq a b), (.fclt f true d ra rb, fClt a b),
        (.fcle f true d ra rb, fCle a b), (.fcvtSW f true d ra, fOfInt a), (.fcvtWS f true d ra, fToW a),
        (.fcvtSQ15 f true d ra, fOfQ15 a), (.fcvtQ15S f true d ra, fToQ15 a)],
      Completes x.1 s (fun t => FpFrame s t f.val (FpCore.result (s.fpPhys f.val d) x.2.1) x.2.2)) ∧
  ((∀ a b c : Word, ∀ r ∈ [fAdd a b, fSub a b, fMul a b, fFma a b c, fFms a b c, fDiv a b, fSqrt a, fScale a b, fMinN a b, fMaxN a b],
    fIsNaN r.1 = true → r.1 = 0x7FC00000) ∧
  (∀ a b c : Word, fIsSNaN a = true →
    ∀ r ∈ [fAdd a b, fAdd b a, fSub a b, fSub b a, fMul a b, fMul b a, fFma a b c, fFma b a c, fFma b c a, fFms a b c, fFms b a c, fFms b c a,
      fDiv a b, fDiv b a, fSqrt a, fScale a b, fMinN a b, fMinN b a, fMaxN a b, fMaxN b a, fCeq a b, fCeq b a, fClt a b, fClt b a, fCle a b,
      fCle b a, fToW a, fToQ15 a], r.2 = 16) ∧
  (∀ a b : Word, fIsNaN a = true → fIsNaN b = false →
    (fMinN a b).1 = b ∧ (fMinN b a).1 = b ∧ (fMaxN a b).1 = b ∧ (fMaxN b a).1 = b) ∧
  (∀ a b : Word, fIsZero a = true → fIsZero b = true → (fMinN a b).1 = a ||| b ∧ (fMaxN a b).1 = a &&& b) ∧
  (∀ a b : Word, fIsNaN a = true ∨ fIsNaN b = true → (fCeq a b).1 = 0 ∧ fClt a b = (0, 16) ∧ fCle a b = (0, 16) ∧
    ((fCeq a b).2 = 16 ↔ fIsSNaN a = true ∨ fIsSNaN b = true)) ∧
  (∀ a : Word, fIsNaN a = true → fToW a = (0, 16) ∧ fToQ15 a = (0, 16)))

/-- R302, R305, R306: loads.

Completion is stated of: ldB, ldBu, ldH, ldHu, ldW, ldD. -/
def Obligations.FpLoads : Prop :=
  ∀ (s : State) (f : Fin 10) (rd : FpReg) (a : FpAddr), FpIdle s f.val →
    let c := s.core f.val
    let x := s.addrOf f.val a
    let dst := s.fpPhys f.val rd
    let ok := fun (n al : Nat) (ds : List (Option Nat)) => x.1 % al = 0 ∧ x.1 + n ≤ 0x20000 ∧ c.loadWaits x.1 n = false ∧
      (∀ u ∈ x.2.2, u.1 = none ∨ u.1 ∉ ds)
    (∀ y ∈ [(Instr.ldB f true rd a, 1, fun v => (BitVec.ofNat 8 v).signExtend 32), (.ldBu f true rd a, 1, fun v => BitVec.ofNat 32 v),
        (.ldH f true rd a, 2, fun v => (BitVec.ofNat 16 v).signExtend 32), (.ldHu f true rd a, 2, fun v => BitVec.ofNat 32 v),
        (.ldW f true rd a, 4, fun v => BitVec.ofNat 32 v)],
      ok y.2.1 y.2.1 [dst] →
      Completes y.1 s (fun t => FpFrame s t f.val (fun k => (k.putRegs (x.2.2 ++ [(dst, y.2.2 (c.seenN x.1 y.2.1))])).next) 0)) ∧
    (∀ r2, nextReg rd = some r2 → ok 8 4 [dst, s.fpPhys f.val r2] →
      Completes (.ldD f true rd a) s (fun t => FpFrame s t f.val (fun k => (k.putRegs (x.2.2 ++ [(dst, BitVec.ofNat 32 (c.seenN x.1 4)),
        (s.fpPhys f.val r2, BitVec.ofNat 32 (c.seenN (x.1 + 4) 4))])).next) 0))

/-- R302, R305: stores, and FENCE.  R305: program order of the drain, with its memory frame.

Completion is stated of: stB, stH, stW, stD, fpFence, storeDrain. -/
def Obligations.FpStoresAndDrain : Prop :=
  (∀ (s : State) (f : Fin 10) (rs : FpReg) (a : FpAddr), FpIdle s f.val →
    let c := s.core f.val
    let x := s.addrOf f.val a
    let v := (s.fpReg f.val rs).toNat
    let ok := fun (n al : Nat) => x.1 % al = 0 ∧ x.1 + n ≤ 0x20000 ∧ inInbox x.1 n = false ∧ c.sb.length < 8
    let put := fun (n w : Nat) (k : FpCore) => ({ (k.putRegs x.2.2).next with sb := k.sb ++ [{ addr := x.1, size := n, data := w }] } : FpCore)
    (∀ y ∈ [(Instr.stB f true a rs, 1), (.stH f true a rs, 2), (.stW f true a rs, 4)], ok y.2 y.2 →
      Completes y.1 s (fun t => FpFrame s t f.val (put y.2 (v % 2 ^ (8 * y.2))) 0)) ∧
    (∀ r2, nextReg rs = some r2 → ok 8 4 →
      Completes (.stD f true a rs) s (fun t => FpFrame s t f.val (put 8 (v + (s.fpReg f.val r2).toNat * 2 ^ 32)) 0)) ∧
    (c.sb = [] → Completes (.fpFence f true) s (fun t => FpFrame s t f.val FpCore.next 0))) ∧
  (∀ (s : State) (f : Fin 10), s.mute = false → (s.core f.val).stalled = false →
    let c := s.core f.val
    (c.sb = [] → Completes (.storeDrain f) s (fun t => t.core f.val = c ∧ (∀ g, g ≠ f.val → t.core g = s.core g) ∧ t = { s with fp := t.fp })) ∧
    (∀ e rest, c.sb = e :: rest → Completes (.storeDrain f) s (fun t =>
      (∀ a, (t.core f.val).byte a = if e.addr ≤ a ∧ a < e.addr + e.size then e.data / 2 ^ (8 * (a - e.addr)) % 256 else c.byte a) ∧
      (∀ a, (t.core f.val).seen a = c.seen a) ∧
      (∀ w, (t.core f.val).flips.at 0 w = if w ∈ wholeWords e.addr e.size then 0 else c.flips.at 0 w) ∧
      t.core f.val = { c with sb := rest, dmem := (t.core f.val).dmem, flips := (t.core f.val).flips } ∧
      (∀ g, g ≠ f.val → t.core g = s.core g) ∧ t = { s with fp := t.fp })))

/-- R298: the special registers.

Completion is stated of: mfs, mts. -/
def Obligations.FpSpecialRegisters : Prop :=
  ∀ (s : State) (f : Fin 10) (rd ra : FpReg), FpIdle s f.val →
    let n := f.val
    let c := s.core n
    let p := s.fpPhys n rd
    let w := fun (x : Nat) => BitVec.ofNat 32 x
    let lc := fun (k : Nat) => match c.loops.reverse[k]? with
      | some l => BitVec.ofNat 32 l.left
      | none => 0#32
    (∀ x ∈ [(0x00#8, s.rd (rFP_FPSTAT n)), (0x01#8, w (s.fld (fFP_STATUS_WCUR n))), (0x02#8, w (c.wold * 256 + s.fld (fFP_STATUS_WRES n))),
        (0x03#8, w (s.fld (fFP_STATUS_QOFS n))), (0x04#8, lc 0), (0x05#8, lc 1), (0x06#8, c.cbase), (0x07#8, c.clen), (0x08#8, w c.xpc),
        (0x09#8, w c.xwin), (0x0A#8, c.xcause), (0x0B#8, w c.xaddr), (0x0C#8, w c.xvec), (0x0D#8, w (s.fld (fFP_INBOX_INBOX_WR n))),
        (0x0E#8, w (s.fld (fFP_INBOX_INBOX_RD n))), (0x11#8, c.htimeHi), (0x12#8, w (s.fld (fFP_GEN_FGEN n))),
        (0x15#8, w (n + s.fld (fFP_STATUS_CELL n) * 256 + s.fld (fFP_STATUS_ROLE n) % 2 * 4096))],
      Completes (.mfs f true rd x.1) s (fun t => FpFrame s t n (FpCore.result p x.2) 0)) ∧
    Completes (.mfs f true rd 0x10) s (fun t =>
      FpFrame s t n (fun k => { FpCore.result p (w (s.now % 2 ^ 32)) k with htimeHi := w (s.now / 2 ^ 32) }) 0) ∧
    (∀ x ∈ [0x0F#8, 0x13#8, 0x14#8], Completes (.mfs f true rd x) s (fun t =>
      ∃ v, FpFrame { s with free := s.free + 1 } t n (FpCore.result p v) 0 ∧ (x = 0x14#8 → v.toNat ≤ c.sbxLeft))) ∧
    let v := s.fpReg n ra
    let x := v.toNat
    (∀ y ∈ [(0x00#8, s.wr (rFP_FPSTAT n) (v &&& 0x71F), fun k => k), (0x03#8, s.setF (fFP_STATUS_QOFS n) (x % 32), fun k => k),
        (0x06#8, s, fun k => { k with cbase := v &&& 0xFFFFFFFC }), (0x07#8, s, fun k => { k with clen := v &&& 0xFFFFFFFC }),
        (0x0C#8, s, fun k => { k with xvec := x % 65536 / 1024 * 1024 }),
        (0x0E#8, s.setF (fFP_INBOX_INBOX_RD n) (x % 512), fun k => { k with inFull := false }), (0x13#8, s, fun k => k)],
      Completes (.mts f true y.1 ra) s (fun t => FpFrame y.2.1 t n (fun k => (y.2.2 k).next) 0)) ∧
    (s.trapm n = true → ∀ y ∈ [(0x02#8, s.setF (fFP_STATUS_WRES n) (x % 16), fun k => { k with wold := x / 256 % 16 }),
        (0x08#8, s, fun (k : FpCore) => { k with xpc := x % 65536 }), (0x09#8, s, fun k => { k with xwin := x % 16 }),
        (0x0A#8, s, fun k => { k with xcause := v }), (0x0B#8, s, fun k => { k with xaddr := x % 131072 })],
      Completes (.mts f true y.1 ra) s (fun t => FpFrame y.2.1 t n (fun k => (y.2.2 k).next) 0))

/-- R295, R296, R303, R311: control.

Completion is stated of: fpBr, fpCall, callr, beqz, bnez, bltz, bgez, fpRet, xret, fpLoop, loopr. -/
def Obligations.FpControl : Prop :=
  ∀ (s : State) (f : Fin 10) (ra : FpReg) (l : BitVec 16) (b : FpSrc) (kr : Fin 8), FpIdle s f.val →
    let n := f.val
    let c := s.core n
    let v := s.fpReg n ra
    let wc := s.fld (fFP_STATUS_WCUR n)
    let wr := s.fld (fFP_STATUS_WRES n)
    let count := (s.srcVal n b).toNat
    (∀ x ∈ [(Instr.fpBr f true l, true), (.beqz f true ra l, v == 0), (.bnez f true ra l, v != 0), (.bltz f true ra l, v.msb),
        (.bgez f true ra l, !v.msb)], (x.2 = true → s.crosses n l.toNat = false) →
        Completes x.1 s (fun t => FpFrame s t n (fun k => { k with pc := if x.2 then l.toNat else k.pc + 4 }) 0)) ∧
    (s.trapm n = false → wr < 15 → ∀ x ∈ [(Instr.fpCall f true l, l.toNat), (.callr f true ra, v.toNat)], s.inCode n c.pc = s.inCode n x.2 →
      Completes x.1 s (fun t => FpFrame ((s.setF (fFP_STATUS_WCUR n) ((wc + 1) % 15)).setF (fFP_STATUS_WRES n) (wr + 1)) t n
        (fun k => { k with pc := x.2, rets := (k.pc + 4) :: k.rets }) 0)) ∧
    (∀ r tl, c.rets = r :: tl → 2 ≤ wr →
      Completes (.fpRet f true) s (fun t => FpFrame ((s.setF (fFP_STATUS_WCUR n) ((wc + 14) % 15)).setF (fFP_STATUS_WRES n) (wr - 1)) t n
        (fun k => { k with pc := r, rets := tl }) 0)) ∧
    (s.trapm n = true →
      Completes (.xret f true) s (fun t => FpFrame (((s.setF (fFP_STATUS_WCUR n) c.xwin).clr (fFP_STATUS_TRAPM n)).setB (fFP_STATUS_SBXM n)
        (xcauseSbx c.xcause)) t n (fun k => { k with pc := k.xpc }) 0)) ∧
    (count < 65536 → ∀ x ∈ [(Instr.fpLoop f true b l, 0), (.loopr f true b l kr, kr.val + 1)],
      (count = 0 → Completes x.1 s (fun t => FpFrame s t n (fun k => { k with pc := l.toNat + 4 * k.bundleLen l.toNat 6 }) 0)) ∧
      (0 < count → l.toNat ≠ c.pc → Completes x.1 s (fun t => FpFrame s t n (fun k => { k with
        pc := k.pc + 4,
        loops := [{ first := k.pc + 4, last := l.toNat, left := count, rot := x.2, depth := k.rets.length, inTrap := s.trapm n }] }) 0)))

/-- R304, R311: queue operations, window spill and fill, WAIT.

Completion is stated of: deq, enq, wspill, wfill, fpWait. -/
def Obligations.FpQueueAndWindow : Prop :=
  ∀ (s : State) (f : Fin 10) (rd ra rb : FpReg), FpIdle s f.val →
    let n := f.val
    let c := s.core n
    let a := (s.fpReg n ra).toNat
    let b := (s.fpReg n rb).toNat
    let dest := match s.fpPhys n rd with
      | some p => p + 1
      | none => 0
    let wr := s.fld (fFP_STATUS_WRES n)
    (b % 32 = 0 → b + 32 ≤ 0x1E000 →
      Completes (.deq f true rd ra rb) s (fun t => FpFrame s t n (fun k => { k.next with deqs := [(dest, a, b)] }) 0)) ∧
    (a + 32 ≤ 0x20000 → (∀ e ∈ c.sb, overlap a 32 e.addr e.size = false) →
      let r := recOfSlot (BitVec.ofNat 256 (c.bytes a 32))
      let r' := { r with gen := if r.gen = 0 then BitVec.ofNat 16 (s.fld (fFP_GEN_FGEN n)) else r.gen }
      Completes (.enq f true rd ra) s (fun t => FpFrame s t n (fun k => { k.next with enqs := [(dest, r')] }) 0)) ∧
    (s.trapm n = true → a % 4 = 0 → c.sb = [] → wr ≠ 1 → a + 64 ≤ 0x1E000 →
      Completes (.wspill f true ra) s (fun t => FpFrame (s.setF (fFP_STATUS_WRES n) (wr - 1)) t n
        (fun k => { (k.spill k.wold a 16).next with wold := (k.wold + 1) % 15 }) 0)) ∧
    (s.trapm n = true → a % 4 = 0 → wr ≠ 15 → a + 64 ≤ 0x20000 →
      Completes (.wfill f true ra) s (fun t => FpFrame (s.setF (fFP_STATUS_WRES n) (wr + 1)) t n
        (fun k => { (k.fill ((k.wold + 14) % 15) a 16).next with wold := (k.wold + 14) % 15 }) 0)) ∧
    Completes (.fpWait f true rd ra) s (fun t => FpFrame (s.set1 (fFP_STATUS_WAITING n)) t n
      (fun k => { k.next with waitRd := dest, evRec := false, evInbox := false }) 0)

/-- R311, R300: trap entry.  R292, R312, R313: double fault, watchdog, errors.

Completion is stated of: fpTrap, watchdogExpiry. -/
def Obligations.FpTrapsAndDoubles : Prop :=
  (∀ (s : State) (f : Fin 10) (rd ra : FpReg) (a : FpAddr) (l : BitVec 16) (imm : Fin 16) (r : BitVec 8), FpIdle s f.val → s.trapm f.val = false →
    let n := f.val
    let pc := (s.core n).pc
    let wr := s.fld (fFP_STATUS_WRES n)
    let x := (s.addrOf n a).1
    Completes (.fpTrap f true imm) s (fun t => FpTrapped s t n (0x10 + imm.val) (pc + 4) none) ∧
    (wr = 1 → Completes (.fpRet f true) s (fun t => FpTrapped s t n 2 pc none)) ∧
    (wr = 15 → s.inCode n pc = false → ∀ i ∈ [Instr.fpCall f true l, .callr f true ra], Completes i s (fun t => FpTrapped s t n 1 pc none)) ∧
    (0x15 < r.toNat → Completes (.mfs f true rd r) s (fun t => FpTrapped s t n 3 pc none)) ∧
    (2 ≤ sprAccess r.toNat → Completes (.mts f true r ra) s (fun t => FpTrapped s t n 3 pc none)) ∧
    (∀ i ∈ [Instr.wspill f true ra, .wfill f true ra, .xret f true], Completes i s (fun t => FpTrapped s t n 3 pc none)) ∧
    (x % 4 ≠ 0 → ∀ i ∈ [Instr.ldW f true (.g 0) a, .stW f true a rd], Completes i s (fun t => FpTrapped s t n 4 pc (some x))) ∧
    (x % 4 = 0 → 0x20000 ≤ x → ∀ i ∈ [Instr.ldW f true (.g 0) a, .stW f true a rd], Completes i s (fun t => FpTrapped s t n 5 pc (some x))) ∧
    (x % 4 = 0 → 0x1E000 ≤ x → x < 0x20000 → Completes (.stW f true a rd) s (fun t => FpTrapped s t n 5 pc (some x)))) ∧
  (∀ (s : State) (f : Fin 10) (rd ra : FpReg) (a : FpAddr) (l : BitVec 16) (imm : Fin 16) (r : BitVec 8),
    let n := f.val
    (FpIdle s n → s.trapm n = true →
      (∀ i ∈ [Instr.fpTrap f true imm, .fpCall f true l, .callr f true ra], Completes i s (fun t => FpHalted s t n 1)) ∧
      (s.fld (fFP_STATUS_WRES n) = 1 → Completes (.fpRet f true) s (fun t => FpHalted s t n 1)) ∧
      ((s.addrOf n a).1 % 4 ≠ 0 → Completes (.ldW f true (.g 0) a) s (fun t => FpHalted s t n 1)) ∧
      (0x15 < r.toNat → Completes (.mfs f true rd r) s (fun t => FpHalted s t n 1))) ∧
    (s.mute = false → s.fpState n = fpRUNNING → s.fld (fFP_CFG_WDOG n) ≠ 0 →
      Completes (.watchdogExpiry f) s (fun t => FpHalted s t n 3)) ∧
    (FpReady s n → 2 ≤ (s.core n).flips.at 0 ((s.core n).pc / 4) →
      ∀ i ∈ [Instr.opAdd f true rd ra (.reg ra), .fadd f true rd ra ra, .fpBr f true l, .fpTrap f true imm, .ldW f true rd a, .stW f true a rd],
        Completes i s (fun t => FpHalted s t n 2)) ∧
    (FpReady s n → (s.core n).flips.at 0 ((s.core n).pc / 4) = 0 → ∀ p, s.fpPhys n ra = some p → (s.core n).parity.at false p = true →
      Completes (.opAdd f true rd ra (.reg ra)) s (fun t => FpHalted s t n 4)))

/-- R314, R315: isolation of the sandbox, over every operation and every bundle. -/
def Obligations.FpSandboxIsolation : Prop :=
  ∀ (s t : State) (f : Fin 10) (i : Instr) (last : Bool), s.sbxm f.val = true → s.trapm f.val = false →
      (∀ u : State, exec i u = .next (u.fpSubmit f.val last i)) → exec i s = .next t →
    let n := f.val
    let c := s.core n
    let d := t.core n
    d.dmem = c.dmem ∧ d.imem = c.imem ∧ d.phys 7 = c.phys 7 ∧ d.cbase = c.cbase ∧ d.clen = c.clen ∧ d.xvec = c.xvec ∧ d.wold = c.wold ∧
    (∃ es, d.sb = c.sb ++ es ∧ ∀ e ∈ es, s.inData n e.addr e.size = true) ∧
    (∃ ds, d.deqs = c.deqs ++ ds ∧ ∀ x ∈ ds, s.inData n x.2.2 32 = true) ∧
    ((t.fpState n = fpHALTED ∧ d.enqs = []) ∨ ∃ qs, d.enqs = c.enqs ++ qs ∧
      ∀ x ∈ qs, s.fld (fFP_SBX_QUEUE_QFIRST n) ≤ x.2.target.toNat ∧ x.2.target.toNat ≤ s.fld (fFP_SBX_QUEUE_QLAST n)) ∧
    t.on (fFP_STATUS_WAITING n) = s.on (fFP_STATUS_WAITING n) ∧ ∀ g, g ≠ n → t.core g = s.core g

/-- R292, R300, R304, R307, R315: events of a processor.  R293, R304: what completes behind the processor's back.

Completion is stated of: waitWake, stallRelease, deqComplete, enqComplete, inboxWrite, sandboxBudgetExhausted, peekSample. -/
def Obligations.FpEventsAndInbox : Prop :=
  (∀ (s : State) (f : Fin 10) (cycle : Bool), s.mute = false →
    let n := f.val
    let c := s.core n
    (s.fpState n = fpRUNNING → c.stalled = true → c.loops = [] → (∀ w, c.flips.at 0 w = 0) → (∀ p, c.parity.at false p = false) →
      let ops := c.bundle.map (fpEval s n)
      bundleOk ops = true → c.notReady ops = false → c.pc + 4 * ops.length ≤ 0x10000 →
      (∀ o ∈ ops, o.trap = none ∧ o.stall = false ∧ o.act = .none ∧ o.drew = false ∧ o.flags < 2048) →
      Completes (.stallRelease f) s (fun t => FpFrame s t n
        (fun k => { (k.putRegs (ops.flatMap OpRes.regs)).putAccs (ops.flatMap OpRes.accs) with
          bundle := [], stalled := false, pc := k.pc + 4 * ops.length })
        (ops.foldl (fun m o => Nat.lor m o.flags) 0))) ∧
    (let v := (if c.evRec then 1 else 0) + (if c.evInbox then 2 else 0) + (if cycle then 4 else 0);
      s.on (fFP_STATUS_WAITING n) = true → v ≠ 0 → Completes (.waitWake f cycle) s (fun t =>
        t.core n = { c.setDest c.waitRd (BitVec.ofNat 32 v) with evRec := false, evInbox := false } ∧ (∀ g, g ≠ n → t.core g = s.core g) ∧
        t.rd (rFP_STATUS n) = (s.clr (fFP_STATUS_WAITING n)).rd (rFP_STATUS n) ∧ RegsKept [rFP_STATUS n] s t ∧
        t = { s with regs := t.regs, fp := t.fp })) ∧
    (s.fpState n = fpRUNNING → s.sbxm n = true → s.trapm n = false → Completes (.sandboxBudgetExhausted f) s (fun t =>
      FpTrapped (s.modCore n (fun k => { k with sbxLeft := 0 })) t n 9 c.pc none ∧ Raised [(0x090A, n)] s t ∧
      t.on (fFP_EVENTS_SBX_BUDGET n) = true)) ∧
    (s.fpState n ≠ fpOFF → ∀ w, s.peekWords n = [w] → c.flips.at 0 w = 1 → Completes (.peekSample f) s (fun t =>
      t.rd (rFP_PEEK_DATA n) = s.peekWord n ∧ (t.core n).flips.at 0 w = 0 ∧ (t.core n).imem = c.imem ∧ (t.core n).dmem = c.dmem ∧
      (∀ x, x ≠ w → (t.core n).flips.at 0 x = c.flips.at 0 x) ∧
      t.rdN (rFP_CNT_ECC n) = min (s.rdN (rFP_CNT_ECC n) + 1) 0xFFFFFFFF ∧ t.on (fFP_EVENTS_ECC_CORR n) = true)) ∧
    (s.fpState n ≠ fpOFF → (∀ w ∈ s.peekWords n, c.flips.at 0 w ≠ 1) → Completes (.peekSample f) s (fun t =>
      t.rd (rFP_PEEK_DATA n) = s.peekWord n ∧ t.rdN (rFP_PEEK_STAT n) = (s.rdN (rFP_PEEK_STAT n) / 65536 + 1) % 65536 * 65536 + 1 ∧
      RegsKept [rFP_PEEK_DATA n, rFP_PEEK_STAT n] s t ∧ t = { s with regs := t.regs, free := t.free }))) ∧
  (∀ (s : State) (f : Fin 10), s.mute = false →
    let n := f.val
    let c := s.core n
    let stored := fun (t : State) (a k v : Nat) => ∀ x, (t.core n).byte x = if a ≤ x ∧ x < a + k then v / 2 ^ (8 * (x - a)) % 256 else c.byte x
    let kept := fun (t : State) => ∀ g, g ≠ n → t.core g = s.core g
    (∀ rd q a tl h ht, c.deqs = (rd, q, a) :: tl → (s.qd q).owner = n → isFpQueue q = true → (s.qd q).held = h :: ht → h.fired = true →
      Completes (.deqComplete f) s (fun t => stored t a 32 h.r.slot.toNat ∧ kept t ∧
        t.core n = { c.setDest rd 1 with deqs := tl, dmem := (t.core n).dmem, flips := (t.core n).flips } ∧
        (∀ w, (t.core n).flips.at 0 w = if w ∈ wholeWords a 32 then 0 else c.flips.at 0 w) ∧ t.qd q = { s.qd q with held := ht } ∧
        (∀ k, k ≠ q → t.qd k = s.qd k) ∧ RegsKept hqPoolRegs s t ∧
        t = { s with regs := t.regs, fp := t.fp, hq := t.hq, flt := t.flt })) ∧
    (∀ rd q a tl, c.deqs = (rd, q, a) :: tl → ((s.qd q).owner ≠ n ∨ isFpQueue q = false ∨ ∀ h ∈ (s.qd q).held.head?, h.fired = false) →
      Completes (.deqComplete f) s (fun t => t.core n = { c.setDest rd 0 with deqs := tl } ∧ kept t ∧ t = { s with fp := t.fp })) ∧
    (∀ rd r tl q, c.enqs = (rd, r) :: tl → HqTakes s r q → 0 < s.dOf r.time.toNat → s.dOf r.time.toNat ≤ 2 ^ 39 →
      Completes (.enqComplete f) s (fun t => ∃ u, HqHeld s u (s.own32 r) q ∧ t = { u with fp := t.fp } ∧
        t.core n = { c.setDest rd 1 with enqs := tl } ∧ kept t)) ∧
    (∀ e tl, c.inPend = e :: tl →
      let w := s.fld (fFP_INBOX_INBOX_WR n)
      let r := s.fld (fFP_INBOX_INBOX_RD n)
      Completes (.inboxWrite f) s (fun t => stored t (0x1E000 + 16 * w) 16 e.toNat ∧ kept t ∧ (t.core n).inPend = tl ∧
        (t.core n).regs = c.regs ∧ (t.core n).sb = c.sb ∧ t.fld (fFP_INBOX_INBOX_WR n) = (w + 1) % 512 ∧
        t.fld (fFP_INBOX_INBOX_RD n) = (if c.inFull then (r + 1) % 512 else r) ∧
        t.rdN (rFP_CNT_INBOX_OVR n) = (if c.inFull then min (s.rdN (rFP_CNT_INBOX_OVR n) + 1) 0xFFFFFFFF else s.rdN (rFP_CNT_INBOX_OVR n)) ∧
        (c.inFull = true → t.on (fFP_EVENTS_INBOX_OVR n) = true) ∧
        RegsKept [rFP_INBOX n, rFP_CNT_INBOX_OVR n, rFP_EVENTS n] s t ∧ t = { s with regs := t.regs, fp := t.fp, flt := t.flt })))

/-- R316, R317, R318.

Completion is stated of: sparesPolicy, spareSelfTest, spareLoadDone. -/
def Obligations.FpSpares : Prop :=
  ∀ (s : State) (f : Fin 10), s.mute = false →
    let n := f.val
    let cell := s.fld (fFP_STATUS_CELL n)
    let role := s.fld (fFP_STATUS_ROLE n)
    (s.fp.owed.contains n = false → Completes (.sparesPolicy f) s (fun t => t = s)) ∧
    (s.inBiv = false → s.nextOwed s.fp.owed = some n → s.on (fFP_STATUS_CELL_VALID n) = true →
      (∀ k, s.fpSpare = some k → k ≠ n → Completes (.sparesPolicy f) s (fun t =>
        t.fpState k = fpLOADING ∧ t.fpServes k cell = true ∧ t.fld (fFP_STATUS_ROLE k) = role ∧ t.fpServes n cell = false ∧
        t.fp.loads = s.fp.loads ++ [(k, n)] ∧ t.on (fFP_EVENTS_SPARE_IN k) = true ∧ t.fp.owed = s.fp.owed.filter (fun x => x != n) ∧
        Raised [(0x0902, k)] s t ∧ (∀ g, (t.core g).dmem = (s.core g).dmem ∧ (t.core g).imem = (s.core g).imem ∧ (t.core g).regs = (s.core g).regs) ∧
        RegsKept [rFP_STATUS n, rFP_STATUS k, rFP_EVENTS k, rFLT_CELL cell, rFLT_EVENTS] s t)) ∧
      (∀ k, s.fpSpare = none → role = 0 → s.fpOf cell 1 = some k → k ≠ n → Completes (.sparesPolicy f) s (fun t =>
        t.fpState k = fpLOADING ∧ t.fpServes k cell = true ∧ t.fld (fFP_STATUS_ROLE k) = 0 ∧ t.fp.loads = s.fp.loads ++ [(k, n)] ∧
        t.on (fFP_EVENTS_PROMOTED k) = true ∧ t.on (fFLT_CELL_PROMOTED cell) = true))) ∧
    (∀ (keyI keyD : Bool) (g : Nat), s.fp.loads.find? (fun e => e.1 == n) = some (n, g) → Completes (.spareLoadDone f keyI keyD) s (fun t =>
        let sect := sectOf s.key.flash (slotBase (s.fld fPCH_STATUS_SLOT))
        let lostI := keyI || (s.core g).sramLost false
        let lostD := keyD || (s.core g).sramLost true
        (t.core n).imem = (if lostI then sramOf (Config.fpImem (sect 5) (sect 6)) else (s.core g).imem) ∧
        (t.core n).dmem = (if lostD then sramOf (Config.fpDmem (sect 5)) else (s.core g).dmem) ∧ (t.core n).flips = [] ∧
        (lostI || lostD → Raises 0x0907 n s t) ∧ t.fpState n = fpRUNNING ∧
        (t.core n).pc = (Config.fpEntry true).toNat ∧ (t.core n).wold = 0 ∧ t.fld (fFP_STATUS_WCUR n) = 0 ∧ t.fld (fFP_STATUS_WRES n) = 1 ∧
        t.fld (fFP_GEN_FGEN n) = nextGen (s.fld (fFP_GEN_FGEN g)) % 65536 ∧ t.trapm n = false ∧ t.sbxm n = false ∧
        ∀ k, k ≠ n → (t.core k).dmem = (s.core k).dmem ∧ (t.core k).imem = (s.core k).imem ∧ (t.core k).regs = (s.core k).regs)) ∧
    (s.fpState n = fpSPARE ∨ s.fpState n = fpTESTING →
      Completes (.spareSelfTest f none) s (fun t => t.rd (rFP_STATUS n) = (s.setF (fFP_STATUS_STATE n) fpTESTING).rd (rFP_STATUS n) ∧
        RegsKept [rFP_STATUS n] s t ∧ t = { s with regs := t.regs }) ∧
      Completes (.spareSelfTest f (some true)) s (fun t => t.rd (rFP_STATUS n) = (s.setF (fFP_STATUS_STATE n) fpSPARE).rd (rFP_STATUS n) ∧
        RegsKept [rFP_STATUS n] s t ∧ t = { s with regs := t.regs }) ∧
      Completes (.spareSelfTest f (some false)) s (fun t => t.fpState n = fpRETIRED ∧ t.fld (fFP_HALT_CAUSE n) = 5 ∧ Raised [(0x090B, n)] s t ∧
        RegsKept [rFP_STATUS n, rFP_HALT n] s t ∧ t = { s with regs := t.regs, flt := t.flt }))

/-- R75, R76, R79, R494.

Completion is stated of: recordArrival, hqEnqueue. -/
def Obligations.HqRecordAccepted : Prop :=
  ∀ (s : State) (r : Rec) (q : Nat), s.mute = false → HqTakes s r q →
    let d := s.dOf r.time.toNat
    let late := bit r.flags.toNat 0
    let s1 : State := { s with hq := { s.hq with fabric := dropRec r s.hq.fabric } }
    (0 < d → d ≤ 2 ^ 39 → Completes (.recordArrival r .unit) s (fun t => HqHeld s1 t (s.own32 r) q)) ∧
    (3 ≤ q → q < 0x1000 → r.opcode ≠ 0 → (d = 0 ∨ (2 ^ 39 < d ∧ late = true)) → Completes (.recordArrival r .unit) s (fun t =>
      t.hq.passed = s.hq.passed ++ [(q, s.own32 r)] ∧ t.hq.groups = s.hq.groups ∧ t.hq.usedMain = s.hq.usedMain ∧
      (∀ k, k ≠ q → t.qd k = s.qd k) ∧
      t.rdN rHQ_CNT_LATE_EXEC = (if d = 0 then s.rdN rHQ_CNT_LATE_EXEC else min (s.rdN rHQ_CNT_LATE_EXEC + 1) 0xFFFFFFFF) ∧
      RegsKept (rHQ_CNT_LATE_EXEC :: hqPoolRegs) s t ∧ t = { s with regs := t.regs, hq := t.hq, flt := t.flt, free := s.free + 1 })) ∧
    (2 ^ 39 < d → late = false → Completes (.recordArrival r .unit) s (fun t =>
      t.rdN rHQ_LAST_DISCARD = 5 * 268435456 + s.own % 256 * 65536 + q ∧
      t.rdN rHQ_CNT_LATE_DISC = min (s.rdN rHQ_CNT_LATE_DISC + 1) 0xFFFFFFFF ∧ t.on fHQ_EVENTS_LATE_DISC = true ∧
      RegsKept [rHQ_LAST_DISCARD, rHQ_CNT_LATE_DISC, rHQ_EVENTS] s t ∧ t.hq = s1.hq ∧
      t = { s with regs := t.regs, hq := t.hq, flt := t.flt })) ∧
    (r = s.staged → 0 < d → d ≤ 2 ^ 39 → s.hq.stagers.length ≤ 1 → s.inBiv = false → s.ps ≠ psPITCH →
      s.cmdStatus rHQ_ENQ_CMD ≠ stBUSY →
      Completes .hqEnqueue s (fun t => ∃ u, HqHeld s u (s.own32 r) q ∧ t.cmdStatus rHQ_ENQ_CMD = stDONE ∧ t.rdN rHQ_ENQ_CMD % 65536 = 1 ∧
        t.hq = { u.hq with stagers := [] } ∧ RegsKept (rHQ_ENQ_CMD :: hqPoolRegs) s t ∧ t = { u with regs := t.regs, hq := t.hq }))

/-- R75: the order of the checks and what a failed one leaves. -/
def Obligations.HqChecksInOrder : Prop :=
  ∀ (s : State) (r : Rec), s.mute = false → r.target.toNat < 0x8000 → isMember r = false →
    let q := r.target.toNat
    let c1 := r.flags.toNat < 8 ∧ (bit r.flags.toNat 1 = true ∨ r.gtag = 0)
    let c2 := s.qEnabled q = true
    let c3 := s.accepts q r.opcode.toNat r.payload = true
    let c4 := (s.qd q).genCheck = true → r.gen.toNat ≠ 0 ∧ r.gen.toNat = s.qGen q
    let c5 := s.dOf r.time.toNat ≤ 2 ^ 39 ∨ bit r.flags.toNat 0 = true
    let c6 := (s.qd q).held.length < (s.qd q).quota
    let c7 := q = 0 ∨ 0 < s.mainFree ∨ (q < 0x100 ∧ 0 < s.rsvFree)
    ∀ x ∈ [(¬ c1, 1, rHQ_CNT_MALFORMED), (c1 ∧ ¬ c2, 2, rHQ_CNT_UNMAPPED), (c1 ∧ c2 ∧ ¬ c3, 3, rHQ_CNT_MALFORMED),
        (c1 ∧ c2 ∧ c3 ∧ ¬ c4, 4, rHQ_CNT_STALE), (c1 ∧ c2 ∧ c3 ∧ c4 ∧ ¬ c5, 5, rHQ_CNT_LATE_DISC),
        (c1 ∧ c2 ∧ c3 ∧ c4 ∧ c5 ∧ ¬ c6, 6, rHQ_CNT_QUOTA), (c1 ∧ c2 ∧ c3 ∧ c4 ∧ c5 ∧ c6 ∧ ¬ c7, 7, rHQ_CNT_POOL)],
      x.1 → Completes (.recordArrival r .unit) s (fun t =>
        t.rdN rHQ_LAST_DISCARD = x.2.1 * 268435456 + s.own % 256 * 65536 + q ∧
        t.rdN x.2.2 = min (s.rdN x.2.2 + 1) 0xFFFFFFFF ∧ RegsKept [rHQ_LAST_DISCARD, x.2.2, rHQ_EVENTS] s t ∧
        (∀ k, (t.qd k).held = (s.qd k).held ∧ t.qGen k = s.qGen k) ∧ t.hq.groups = s.hq.groups ∧ t.hq.usedMain = s.hq.usedMain ∧
        t.hq.usedRsv = s.hq.usedRsv ∧ t.hq.passed = s.hq.passed ∧ t = { s with regs := t.regs, hq := t.hq, flt := t.flt })

/-- R77, R80, R81, R427, R494.

Completion is stated of: recordFire, hqEnqWrite. -/
def Obligations.HqDispatch : Prop :=
  ∀ (s : State) (q : BitVec 16), s.mute = false →
    let n := q.toNat
    (s.ps = psPITCH → Completes (.recordFire q) s (fun t => t = s)) ∧
    (s.ps ≠ psPITCH → (s.qd n).held.find? (fun h => !h.fired && !isMember h.r) = none → Completes (.recordFire q) s (fun t => t = s)) ∧
    (∀ h, s.ps ≠ psPITCH → (s.qd n).held.find? (fun h => !h.fired && !isMember h.r) = some h →
      (((s.qd n).genCheck = true → h.r.gen.toNat = s.qGen n) → isFpQueue n = false → Completes (.recordFire q) s (fun t =>
        t.qd n = { s.qd n with held := (s.qd n).held.filter (fun x => x.idx != h.idx) } ∧ (∀ k, k ≠ n → t.qd k = s.qd k) ∧
        t.hq.passed = s.hq.passed ++ (if delivers n h.r.opcode.toNat then [(n, h.r)] else []) ∧
        (if h.rsv then t.hq.usedRsv = s.hq.usedRsv - 1 ∧ t.hq.usedMain = s.hq.usedMain
          else t.hq.usedMain = s.hq.usedMain - 1 ∧ t.hq.usedRsv = s.hq.usedRsv) ∧
        RegsKept hqPoolRegs s t ∧ t = { s with regs := t.regs, hq := t.hq, flt := t.flt })) ∧
      (((s.qd n).genCheck = true → h.r.gen.toNat = s.qGen n) → isFpQueue n = true → Completes (.recordFire q) s (fun t =>
        (t.qd n).held = (s.qd n).held.filter (fun x => x.idx != h.idx && x.fired) ++ [{ h with fired := true }] ++
          (s.qd n).held.filter (fun x => x.idx != h.idx && !x.fired) ∧ t.qd n = { s.qd n with held := (t.qd n).held } ∧ (∀ k, k ≠ n → t.qd k = s.qd k) ∧
        (∀ g, g ≠ (s.qd n).owner → t.core g = s.core g) ∧ t.regs = s.regs ∧ t = { s with hq := t.hq, fp := t.fp })) ∧
      ((s.qd n).genCheck = true → h.r.gen.toNat ≠ s.qGen n → Completes (.recordFire q) s (fun t =>
        (t.qd n).held = (s.qd n).held.filter (fun x => x.idx != h.idx) ∧ t.hq.passed = s.hq.passed ∧ t.hq.groups = s.hq.groups ∧
        t = { s with regs := t.regs, hq := t.hq, flt := t.flt }))) ∧
    (∀ (k : Fin 8) (v : Word) (w : BitVec 16),
      (s.inBiv = true → Completes (.hqEnqWrite k v w) s (fun t => t = s)) ∧
      (s.inBiv = false → Completes (.hqEnqWrite k v w) s (fun t => t.rd (rHQ_ENQ k.val) = v ∧ w.toNat ∈ t.hq.stagers ∧
        (∀ x, x ∈ t.hq.stagers ↔ x = w.toNat ∨ x ∈ s.hq.stagers) ∧ RegsKept [rHQ_ENQ k.val] s t ∧
        t = { s with regs := t.regs, hq := { s.hq with stagers := t.hq.stagers } })))

/-- R84–R87: transitions of a group-table entry.

Completion is stated of: commitArrival, abortArrival, groupDeadline, groupLaunch, groupRelease. -/
def Obligations.HqGroups : Prop :=
  ∀ (s : State) (orig : BitVec 8) (tag : BitVec 16) (g : Group), s.mute = false → s.group orig.toNat tag.toNat = some g →
    let o := orig.toNat
    let k := tag.toNat
    let lost := fun (t : State) (reason : Nat) => (∃ e, t.group o k = some e ∧ e.state = .aborted ∧ e.reason = reason ∧ e.held = 0) ∧
      t.rdN rHQ_CNT_ABORTED = min (s.rdN rHQ_CNT_ABORTED + 1) 0xFFFFFFFF ∧ t.hq.passed = s.hq.passed ∧
      ∀ q, ∀ h ∈ (t.qd q).held, heldOf o k h = false
    (∀ r : Rec, r.opcode = 1 → r.target = 0 → r.gtag = tag → o = s.own → (s.own32 r).flags.toNat < 8 → bit r.flags.toNat 1 = true →
      s.screen 0 (s.own32 r) = 0 → s.beforeD g.time = true → g.state = .opened →
      let n := Quad.h r.payload 8
      g.held ≤ n → Completes (.commitArrival r .unit) s (fun t => t.group o k = some { g with
          state := if g.held < n then .commitWait else .armed, committed := true, expected := n, mask := BitVec.ofNat 64 (r.payload.toNat % 2 ^ 64) } ∧
        (∀ o' k', (o', k') ≠ (o, k) → t.group o' k' = s.group o' k') ∧ t.hq.queues = s.hq.queues ∧ RegsKept [rHQ_STATUS] s t ∧
        t = { s with regs := t.regs, hq := t.hq })) ∧
    (∀ r : Rec, r.opcode = 2 → r.target = 0 → r.gtag = tag → Quad.b r.payload 0 = o → o ≠ s.own → (s.own32 r).flags.toNat < 8 →
      bit r.flags.toNat 1 = true → s.screen 0 (s.own32 r) = 0 → g.state = .armed →
      Completes (.abortArrival r .unit) s (fun t => lost t (Quad.b r.payload 1))) ∧
    (g.state = .opened → Completes (.groupDeadline orig tag) s (fun t => lost t 1)) ∧
    (g.state = .commitWait → Completes (.groupDeadline orig tag) s (fun t => lost t 2)) ∧
    (g.state = .armed ∨ g.state = .fired ∨ g.state = .aborted → Completes (.groupDeadline orig tag) s (fun t => t = s)) ∧
    (g.state = .armed → Completes (.groupLaunch orig tag) s (fun t => t.group o k = some { g with state := .fired } ∧
      t.rdN rHQ_CNT_COMMITTED = min (s.rdN rHQ_CNT_COMMITTED + 1) 0xFFFFFFFF ∧ (∀ q, ∀ h ∈ (t.qd q).held, heldOf o k h = false) ∧
      ∀ q, q < 0x1000 → ∀ h ∈ (s.qd q).held, heldOf o k h = true → delivers q h.r.opcode.toNat = true → (q, h.r) ∈ t.hq.passed)) ∧
    (g.state ≠ .armed → Completes (.groupLaunch orig tag) s (fun t => t = s)) ∧
    (g.state = .fired ∨ g.state = .aborted → Completes (.groupRelease orig tag) s (fun t => t.group o k = none ∧
      (∀ o' k', (o', k') ≠ (o, k) → t.group o' k' = s.group o' k') ∧ t.hq.queues = s.hq.queues ∧ RegsKept [rHQ_STATUS] s t ∧
      t = { s with regs := t.regs, hq := t.hq })) ∧
    (g.state = .opened ∨ g.state = .commitWait ∨ g.state = .armed → Completes (.groupRelease orig tag) s (fun t => t = s))

/-- The clear-counters commands of every unit but SNS.

Completion is stated of: fpClearCounters, halClearCounters, hqClearCounters, posClearCounters, edgClearCounters, gdClearCounters, bndClearCounters,
stClearCounters, dclClearCounters, leClearCounters, parClearCounters, fltClearCounters, canClearCounters, auxClearCounters, pchClearCounters,
pwrClearCounters, clkClearCounters, hkClearCounters, mgtClearCounters. -/
def Obligations.ClearCounters : Prop :=
  ∀ s : State,
    (∀ (f : Fin 10) (c n : Fin 4) (e : Fin 5), ∀ x ∈ [(Instr.fpClearCounters f, rFP_CMD f.val, 1, fpCounters f.val),
        (.halClearCounters, rHAL_CMD, 1, halCounters),
        (.bndClearCounters c, rBND_CMD c.val, 1, [rBND_CNT_STEPS c.val, rBND_CNT_LR_OVER c.val, rBND_CNT_OVR c.val, rBND_CNT_MINP c.val,
          rBND_CNT_FALLBACK c.val, rBND_LR_MAX c.val]),
        (.stClearCounters c, rBND_ST_CMD c.val, 4, [rBND_ST_CNT_STARTS c.val, rBND_ST_CNT_FAIL c.val]),
        (.dclClearCounters, rBND_DCL_CMD, 4, [rBND_DCL_CNT_PRE]), (.leClearCounters e, rLE_CMD e.val, 1, leCounters e.val),
        (.parClearCounters c, rLE_PAR_CMD c.val, 1, [rLE_PAR_CNT_ABORT c.val, rLE_PAR_CNT_SHORT c.val, rLE_PAR_CNT_STALE c.val]),
        (.fltClearCounters, rFLT_CMD, 1, [rFLT_CNT_LOST, rFLT_CNT_PERM, rFLT_CNT_TRANS, rFLT_CNT_OCCFULL]),
        (.canClearCounters n, rCAN_CMD n.val, 1, canCounters n.val),
        (.pchClearCounters, rPCH_CMD, 1, [rPCH_CNT_SP, rPCH_CNT_SP_REF, rPCH_CNT_SP_LOST]),
        (.pwrClearCounters, rPWR_CMD, 1, [rPWR_CNT_RESTART_IGN, rPWR_CNT_DOMFAIL]), (.clkClearCounters, rCLK_CMD, 1, [rCLK_CNT_UNLOCK]),
        (.hkClearCounters, rHK_CMD, 1, [rHK_CNT_OVERRUN, rHK_CNT_TSD]),
        (.mgtClearCounters, rMGT_CMD, 1, [rMGT_LOCKWR_CNT, rMGT_CNT_REQ, rMGT_CNT_CELL_BAD, rMGT_CNT_FLUSH_FAIL]),
        (.gdClearCounters, rGD_CMD, 1, rGD_CNT_UNPLUG ::
          (List.range 24).flatMap (fun g => [rGD_CNT_DESAT g, rGD_CNT_GATEMISS g, rGD_CNT_LATCH g])),
        (.auxClearCounters, rAUX_CMD, 1, rAUX_CNT_REFUSED :: (List.range 12).map rAUX_CNT_ON)],
      CmdReady s x.2.1 → Completes x.1 s (fun t => CmdClears s t x.2.1 x.2.2.1 x.2.2.2)) ∧
    (CmdReady s rHQ_CMD → Completes .hqClearCounters s (fun t => CmdShows t rHQ_CMD 1 stDONE ∧ (∀ a ∈ hqCounters, t.rd a = 0) ∧
      t.rd rHQ_POOL_MIN = s.rd rHQ_POOL_FREE ∧ OnlyRegs (rHQ_CMD :: rHQ_POOL_MIN :: hqCounters) s t)) ∧
    (CmdReady s rEDG_CMD → Completes .edgClearCounters s (fun t =>
      let l := [rEDG_CNT_CONFLICT, rEDG_CNT_FORBIDDEN, rEDG_CNT_SUPPRESSED] ++
        (List.range 24).flatMap (fun o => [rEDG_EO_CNT_EDGES o, rEDG_EO_CNT_MERGED o, rEDG_EO_CNT_SWAPSKIP o])
      CmdShows t rEDG_CMD 1 stDONE ∧ (∀ a ∈ l, t.rd a = 0) ∧
      (∀ n, n < 12 → t.rd (rEDG_LEG_STATUS n) = (s.clr (fEDG_LEG_STATUS_LEG_CONFLICT n)).rd (rEDG_LEG_STATUS n)) ∧
      OnlyRegs (rEDG_CMD :: l ++ (List.range 12).map rEDG_LEG_STATUS) s t)) ∧
    (CmdReady s rPOS_CMD → Completes .posClearCounters s (fun t =>
      let l := (List.range 6).flatMap (fun h => [rPOS_CNT_REJECT h, rPOS_CNT_INVALID h, rPOS_CNT_SKIP h, rPOS_CNT_DRIFT_SKIP h])
      CmdShows t rPOS_CMD 1 stDONE ∧ (∀ a ∈ l, t.rd a = 0) ∧
      (∀ i, i < 4 → t.fld (fPOS_IDX_DRIFT_EVTS i) = 0) ∧ OnlyRegs (rPOS_CMD :: l ++ (List.range 4).map (fun i => (fPOS_IDX_DRIFT_EVTS i).reg)) s t))

/-- R38, R40: the count, the epoch and the short time.

Completion is stated of: countWrap. -/
def Obligations.CountWraps : Prop :=
  ∀ s : State,
    (s.pending = [] → s.clk.counting = false → step s = .next s) ∧
    (s.pending = [] → s.clk.counting = true → s.now % 512 = 0 → ∃ t, step s = .next t ∧
      t.clk.count = s.clk.count + 512 ∧ t.clk.counting = true ∧ t.short = (s.short + 512) % 2 ^ 40 ∧
      t.clk.epoch = (if s.now + 512 < 2 ^ 64 then s.clk.epoch else s.clk.epoch + 1) ∧
      (∀ a, t.rd a = (if s.now + 512 < 2 ^ 64 then s else s.set1 fHAL_EVENTS_EPOCH_WRAP).rd a) ∧
      t = { s with regs := t.regs, clk := t.clk }) ∧
    (s.mute = false → s.clk.counting = true → 2 ^ 64 ≤ s.now + 512 → Answers .countWrap s
      { s.set1 fHAL_EVENTS_EPOCH_WRAP with clk := { s.clk with count := s.clk.count + 512, epoch := s.clk.epoch + 1 } } []) ∧
    (s.mute = false → (s.clk.counting = false ∨ s.now + 512 < 2 ^ 64) → Answers .countWrap s s [])

/-- R41–R50: events of the time-state machine.

Completion is stated of: freeElectionTimeout, upstreamSilence, masterAliveStale, candidateElectionWon, refInputLost, referenceReturn. -/
def Obligations.HalTimeStates : Prop :=
  ∀ s : State, s.mute = false →
    let elig := s.on fHAL_CFG_MASTER_ELIG = true
    let ten := fun (i : RefInput) => match i with
      | .mhz10 => fHAL_REF_STATUS_REF10_PRESENT
      | .pps1 => fHAL_REF_STATUS_PPS_PRESENT
    let other := fun (i : RefInput) => match i with
      | .mhz10 => fHAL_REF_STATUS_PPS_PRESENT
      | .pps1 => fHAL_REF_STATUS_REF10_PRESENT
    let locks := fun (u t : State) => (∀ a, a ≠ rHAL_FREQ_ADJ → t.rd a = u.rd a) ∧ t.flt = s.flt ∧
      t = { s with regs := t.regs, free := s.free + 1, hal := { s.hal with discipline := t.hal.discipline } }
    let hold := fun (lost : Nat → Bool) (t : State) => t.ts = tHOLDOVER ∧ t.fld fHAL_STATUS_DEPTH = 15 ∧ t.fld fHAL_STATUS_MASTER = 255 ∧
      t.on fHAL_EVENTS_HOLDOVER_ENTRY = true ∧ Raised [(0x0106, 255)] s t ∧ RegsKept [rHAL_STATUS, rHAL_EVENTS, rHAL_FREQ_ADJ] s t ∧
      t.hal.holdSince = s.now ∧ t.hal.cand = 255 ∧ t.hal.slew = 0 ∧ (∀ k, k < 4 → t.port k = { s.port k with peerMaster := if lost k then 255 else (s.port k).peerMaster, peerCand := 255 }) ∧
      t.clk = s.clk ∧ t = { s with regs := t.regs, flt := t.flt, hal := t.hal }
    let steered := s.on fHAL_CFG_REF_IN_EN && (s.on fHAL_REF_STATUS_REF10_PRESENT || s.on fHAL_REF_STATUS_PPS_PRESENT)
    let master := fun (t : State) => t.ts = tMASTER ∧ t.fld fHAL_STATUS_DEPTH = 0 ∧ t.fld fHAL_STATUS_MASTER = s.own ∧
      t.on fHAL_STATUS_RUN_TIME_OK = true ∧ t.rd rHAL_OFFSET = 0 ∧ t.rd rHAL_SLEW_REM = 0 ∧ t.clk = s.clk ∧ Raised [(0x0107, 255)] s t ∧
      t.on fHAL_REF_STATUS_REF_LOCKED = steered ∧
      (steered = false → t.free = s.free ∧ t.hal.discipline = s.hal.discipline) ∧
      t = { s with regs := t.regs, flt := t.flt, free := t.free, hal := { s.hal with slew := 0, discipline := t.hal.discipline } }
    let regs := [rHAL_STATUS, rHAL_OFFSET, rHAL_SLEW_REM, rHAL_REF_STATUS, rHAL_FREQ_ADJ]
    (s.ts = tFREE → elig → s.bestUp = none → s.own ≤ s.hal.cand → Completes .freeElectionTimeout s (fun t => master t ∧
      t.rdN rHAL_NET_TAG = Config.serial.toNat % 65536 * 65536 + s.rdN rPCH_PCC % 65536 ∧ RegsKept (rHAL_NET_TAG :: regs) s t)) ∧
    (s.ts = tHOLDOVER → elig → s.own ≤ s.hal.cand → Completes .candidateElectionWon s (fun t => master t ∧ t.on fHAL_EVENTS_FAILOVER = true ∧
      RegsKept (rHAL_EVENTS :: regs) s t)) ∧
    (s.ts = tLOCKED ∨ s.ts = tACQUIRE →
      Completes .masterAliveStale s (hold (fun _ => true)) ∧
      let up := s.fld fHAL_STATUS_UPPORT;
      let lost := s.setPort up { s.port up with peerMaster := 255 };
      (lost.bestUp = none → Completes .upstreamSilence s (hold (fun k => k == up))) ∧
      (∀ q : Nat, lost.bestUp = some q → (s.port q).peerDepth ≤ 7 → q ≠ up → Completes .upstreamSilence s (fun t => t.ts = tACQUIRE ∧ t.fld fHAL_STATUS_UPPORT = q ∧
        t.fld fHAL_STATUS_DEPTH = (s.port q).peerDepth + 1 ∧ t.hal.stepped = true ∧ t.clk = s.clk ∧
        Raised (if s.ts = tLOCKED then [(0x0105, 255)] else []) s t ∧ RegsKept [rHAL_STATUS, rHAL_NET_TAG, rHAL_EVENTS] s t))) ∧
    (s.ts ≠ tLOCKED → s.ts ≠ tACQUIRE → Answers .upstreamSilence s s [] ∧ Answers .masterAliveStale s s []) ∧
    (s.ts ≠ tFREE → Answers .freeElectionTimeout s s []) ∧ (s.ts ≠ tHOLDOVER → Answers .candidateElectionWon s s []) ∧
    (∀ i : RefInput,
      let kept := s.ts = tMASTER ∧ s.on fHAL_CFG_REF_IN_EN = true ∧ s.on (other i) = true
      (¬ kept → s.on fHAL_REF_STATUS_REF_LOCKED = true →
        Answers (.refInputLost i) s (((s.clr (ten i)).clr fHAL_REF_STATUS_REF_LOCKED).set1 fHAL_EVENTS_REF_LOST) [(0x010B, 255)]) ∧
      (¬ kept → s.on fHAL_REF_STATUS_REF_LOCKED = false → Answers (.refInputLost i) s ((s.clr (ten i)).clr fHAL_REF_STATUS_REF_LOCKED) []) ∧
      (kept → Completes (.refInputLost i) s (locks ((s.clr (ten i)).set1 fHAL_REF_STATUS_REF_LOCKED))) ∧
      (s.ts = tMASTER ∧ s.on fHAL_CFG_REF_IN_EN = true → Completes (.referenceReturn i) s (locks ((s.set1 (ten i)).set1 fHAL_REF_STATUS_REF_LOCKED))) ∧
      (¬ (s.ts = tMASTER ∧ s.on fHAL_CFG_REF_IN_EN = true) → Answers (.referenceReturn i) s ((s.set1 (ten i)).clr fHAL_REF_STATUS_REF_LOCKED) []))

/-- R55, R56, R63–R65: ports.

Completion is stated of: pluggablePresent, cageSupplyOn, trainingSettled, trainingTimeout, portLinkLoss, halRetrainPort, halDisablePort,
halEnablePort, rxLosCleared. -/
def Obligations.HalPorts : Prop :=
  ∀ (s : State) (p : Fin 4), s.mute = false →
    let n := p.val
    let q := s.port n
    let hal := fun (t : State) => t = { s with regs := t.regs, flt := t.flt, hal := t.hal }
    let bare := fun (v : PortSt) (ty : Nat) => { v with freed := v.freed - min v.freed 1023, lane := some {
      header := BitVec.ofNat 64 (ty * 2 ^ 60 + min v.freed 1023 * 2 ^ 20 + s.own * 2 ^ 12), slots := List.replicate 6 0#256, corrected := 0 } }
    let apart := fun (t : State) => ∀ k, k ≠ n → t.port k = s.port k
    let ready := q.present = true ∧ q.accepted = true ∧ q.rxLos = false
    Answers (.cageSupplyOn p) s (s.setPort n { q with cagePower := true }) [] ∧
    (∀ (id : BitVec 8) (m : Medium) (rated los : Bool) (temp : BitVec 16),
      (acceptable id.toNat m rated (s.fld (fHAL_PORT_CFG_MEDIA_EXP n)) = true →
        Completes (.pluggablePresent p id m rated los temp) s (fun t => hal t ∧ apart t ∧
          (let v := { q with present := true, accepted := true, rxLos := los, txDisable := s.pst n == pDISABLED };
            t.port n = if s.pst n = pDOWN ∧ los = false then bare v 2 else v) ∧
          t.pst n = (if s.pst n = pDOWN ∧ los = false then pTRAIN else s.pst n) ∧
          t.fld (fHAL_PORT_STATE_MEDIA n) = (if m = .optical then 1 else 2) ∧ t.fld (fHAL_SFP_INFO_IDENT n) = id.toNat ∧
          t.fld (fHAL_SFP_INFO_TEMP n) = temp.toNat ∧ RegsKept [rHAL_SFP_INFO n, rHAL_PORT_STATE n] s t ∧ t.flt = s.flt)) ∧
      (acceptable id.toNat m rated (s.fld (fHAL_PORT_CFG_MEDIA_EXP n)) = false →
        Completes (.pluggablePresent p id m rated los temp) s (fun t => hal t ∧ apart t ∧
          t.port n = { q with present := true, accepted := false, rxLos := los, txDisable := true } ∧ t.pst n = s.pst n ∧
          t.fld (fHAL_PORT_STATE_MEDIA n) = 3 ∧ t.on (fHAL_PORT_EVENTS_SFP_FAULT n) = true ∧ Raised [(0x010C, n)] s t ∧
          RegsKept [rHAL_SFP_INFO n, rHAL_PORT_STATE n, rHAL_PORT_EVENTS n] s t))) ∧
    (let v := { q with rxLos := false };
      Answers (.rxLosCleared p) s (if s.pst n = pDOWN ∧ q.present = true ∧ q.accepted = true then (s.setPort n (bare v 2)).setPst n pTRAIN else s.setPort n v) []) ∧
    (s.pst n = pTRAIN → Answers (.trainingSettled p) s ((s.setPort n (bare { q with coeffs := true, alignCnt := 0 } 1)).setPst n pALIGN) []) ∧
    (s.pst n ≠ pTRAIN → Answers (.trainingSettled p) s s [] ∧ Answers (.trainingTimeout p) s s []) ∧
    (s.pst n = pTRAIN → Completes (.trainingTimeout p) s (fun t => hal t ∧ apart t ∧
      t.pst n = (if 3 ≤ q.trainFails + 1 then pRETIRED else if ready then pTRAIN else pDOWN) ∧ (t.port n).trainFails = q.trainFails + 1 ∧
      t.on (fHAL_PORT_EVENTS_DOWN n) = true ∧ Raised (if 3 ≤ q.trainFails + 1 then [(0x0103, n)] else []) s t ∧
      (let u := (s.setDom (48 + 2 * n) false).setDom (49 + 2 * n) false;
        t.rd (rPWR_DOM_ON 1) = (if 3 ≤ q.trainFails + 1 ∧ s.inBiv = false then u else s).rd (rPWR_DOM_ON 1)) ∧
      RegsKept [rHAL_PORT_STATE n, rHAL_PORT_EVENTS n, rPWR_DOM_ON 1] s t)) ∧
    (s.pst n = pUP → (∀ c, c < 4 → s.pstate c ≠ 4) → Completes (.portLinkLoss p .rxLos) s (fun t => hal t ∧ apart t ∧
      t.port n = { q.forget with lastPeer := s.peer n, leftAt := s.now, rxLos := true } ∧ t.pst n = pDOWN ∧ t.peer n = 255 ∧
      t.on (fHAL_PORT_EVENTS_DOWN n) = true ∧ Raised [(0x0101, n)] s t ∧ RegsKept [rHAL_PORT_STATE n, rHAL_PORT_EVENTS n] s t)) ∧
    (CmdReady s rHAL_CMD →
      (s.pst n ∉ [pDISABLED, pDOWN, pRETIRED] → Completes (.halRetrainPort p) s (fun t => CmdShows t rHAL_CMD (0x10 + n) stDONE ∧
        t.pst n = pTRAIN ∧ t.peer n = 255 ∧ t.on (fHAL_PORT_EVENTS_RETRAIN n) = true ∧ hal t ∧ apart t ∧
        RegsKept [rHAL_CMD, rHAL_PORT_STATE n, rHAL_PORT_EVENTS n] s t)) ∧
      (s.pst n ∈ [pDISABLED, pDOWN, pRETIRED] → Completes (.halRetrainPort p) s (fun t => CmdOnly s t rHAL_CMD (0x10 + n) stREFUSED)) ∧
      (s.pst n ≠ pRETIRED → Completes (.halDisablePort p) s (fun t => CmdShows t rHAL_CMD (0x20 + n) stDONE ∧ t.pst n = pDISABLED ∧
        t.peer n = 255 ∧ (t.port n).txDisable = true ∧ hal t ∧ apart t ∧ RegsKept [rHAL_CMD, rHAL_PORT_STATE n] s t)) ∧
      (s.pst n = pDISABLED → s.on fHAL_CFG_STANDALONE = false → Completes (.halEnablePort p) s (fun t =>
        CmdShows t rHAL_CMD (0x30 + n) stDONE ∧ t.pst n = (if ready then pTRAIN else pDOWN) ∧
        (let v := { q with txDisable := q.present && !q.accepted }; t.port n = if ready then bare v 2 else v) ∧ hal t ∧
        apart t ∧ RegsKept [rHAL_CMD, rHAL_PORT_STATE n] s t)) ∧
      (s.on fHAL_CFG_STANDALONE = true → Completes (.halEnablePort p) s (fun t => CmdOnly s t rHAL_CMD (0x30 + n) stREFUSED)))

/-- R52, R57–R61, R512: slots.

Completion is stated of: timeSlotSend, timeSlotReceive, codewordReceive, routeCellSend, routeCellReceive, routeCellTimeout. -/
def Obligations.HalSlots : Prop :=
  ∀ (s : State) (p : Fin 4), s.mute = false →
    let n := p.val
    let q := s.port n
    let one := fun (t : State) => ∀ k, k ≠ n → t.port k = s.port k
    (s.pst n = pUP ∨ s.pst n = pPROVE → Completes (.timeSlotSend p) s (fun t =>
      (∃ cw, (t.port n).lane = some cw ∧ cw.slots.length = 6 ∧ cw.slots.head? = some (s.mkTimeSlot n) ∧
        cw.header.toNat / 2 ^ 48 % 4096 = q.lseqTx % 4096 ∧ cw.header.toNat / 2 ^ 30 % 8 = 5 ∧ cw.header.toNat / 2 ^ 20 % 1024 = min q.freed 1023) ∧
      (t.port n).lseqTx = (q.lseqTx + 1) % 4096 ∧ (t.port n).xseq = (q.xseq + 1) % 65536 ∧
      (t.port n).sent = ((q.xseq, s.now) :: q.sent).take 16 ∧ q.credit ≤ (t.port n).credit + 5 ∧ (t.port n).credit ≤ q.credit ∧
      (q.credit = 0 → (t.port n).txRecord = q.txRecord ∧ (t.port n).txMgmt = q.txMgmt) ∧ one t ∧
      t.hal.alive = (if s.ts = tMASTER then (s.hal.alive + 1) % 65536 else s.hal.alive) ∧ t = { s with hal := t.hal })) ∧
    (s.pst n ≠ pUP → s.pst n ≠ pPROVE → Answers (.timeSlotSend p) s s []) ∧
    (s.pst n = pPROVE → Completes (.codewordReceive p none) s (fun t =>
      t.rdN (rHAL_FEC_UNCORR n) = min (s.rdN (rHAL_FEC_UNCORR n) + 1) 0xFFFFFFFF ∧ t.on (fHAL_PORT_EVENTS_UNCORR n) = true ∧ one t ∧
      t.pst n = pPROVE ∧ RegsKept [rHAL_FEC_UNCORR n, rHAL_PORT_EVENTS n] s t ∧
      t = { s with regs := t.regs, flt := t.flt, hal := t.hal })) ∧
    (∀ c : Codeword, s.pst n = pUP → c.header.toNat / 2 ^ 60 = 0 → c.header.toNat / 2 ^ 30 % 2 ^ 18 = 0 → c.slots.length = 6 →
      Completes (.codewordReceive p (some c)) s (fun t =>
        (t.port n).lseqRx = some (c.header.toNat / 2 ^ 48 % 4096) ∧ (t.port n).credit = q.credit + c.header.toNat / 2 ^ 20 % 1024 ∧
        t.rdN (rHAL_LSEQ_GAPS n) = (if q.lseqRx.all (fun l => (l + 1) % 4096 == c.header.toNat / 2 ^ 48 % 4096) then s.rdN (rHAL_LSEQ_GAPS n)
          else min (s.rdN (rHAL_LSEQ_GAPS n) + 1) 0xFFFFFFFF) ∧
        t.rdN (rHAL_FEC_CORR n) = (if c.corrected.val = 0 then s.rdN (rHAL_FEC_CORR n) else min (s.rdN (rHAL_FEC_CORR n) + 1) 0xFFFFFFFF) ∧
        one t ∧ (t.port n).rx = q.rx ∧ RegsKept [rHAL_LSEQ_GAPS n, rHAL_FEC_CORR n] s t ∧ t = { s with regs := t.regs, hal := t.hal })) ∧
    (∀ (x : Slot) (stamp : Time) (serial : BitVec 48), s.pst n = pUP → tsSender x ≠ s.own → tsMaster x = 255 →
      q.sent.find? (fun e => e.1 == tsEcho x) = none →
      Completes (.timeSlotReceive p x stamp serial []) s (fun t => (t.port n).peerMaster = 255 ∧ (t.port n).peerDepth = tsDepth x ∧
        (t.port n).peerCand = tsCand x ∧ (t.port n).peerTag = tsTag x ∧ (t.port n).peerXseq = tsXseq x ∧ (t.port n).peerStamp = stamp.toNat / 4 * 4 ∧
        (t.port n).conflict = false ∧ one t ∧ t = { s with hal := t.hal })) ∧
    (∀ (x : Slot) (stamp : Time) (serial : BitVec 48) (t3 : Nat), s.pst n = pUP → tsSender x ≠ s.own → tsMaster x = 255 →
      (q.sent.find? (fun e => e.1 == tsEcho x)).map Prod.snd = some t3 → tsRx x ≠ 0 → s.fld (fHAL_PORT_CFG_CABLE_M n) = 0 →
      let e := exchange (tsTx x) (stamp.toNat / 4 * 4) t3 (tsRx x) (s.rdI (rHAL_PORT_ASYM n))
      Completes (.timeSlotReceive p x stamp serial []) s (fun t =>
        t.rd (rHAL_PORT_OFFSET n) = BitVec.ofInt 32 (clamp (-2147483648) 2147483647 (roundFree e.1 2)) ∧
        t.rd (rHAL_PORT_DELAY n) = BitVec.ofInt 32 (roundFree e.2 2) ∧ RegsKept [rHAL_PORT_OFFSET n, rHAL_PORT_DELAY n] s t ∧ one t ∧
        t = { s with regs := t.regs, hal := t.hal })) ∧
    (∀ (x : Slot) (stamp : Time) (serial : BitVec 48) (t3 : Nat), s.pst n = pUP → (∀ k, k < 4 → k ≠ n → s.pst k ≠ pUP) → tsSender x ≠ s.own →
      tsMaster x ≠ 255 → tsMaster x ≠ s.own → tsDepth x ≤ 7 → (q.sent.find? (fun e => e.1 == tsEcho x)).map Prod.snd = some t3 → tsRx x ≠ 0 →
      s.fld (fHAL_PORT_CFG_CABLE_M n) = 0 → s.ts = tLOCKED → s.fld fHAL_STATUS_UPPORT = n →
      let e := exchange (tsTx x) (stamp.toNat / 4 * 4) t3 (tsRx x) (s.rdI (rHAL_PORT_ASYM n))
      let unlocks := 512 < e.1.natAbs ∧ 7 ≤ s.hal.unlockCnt
      Completes (.timeSlotReceive p x stamp serial []) s (fun t => t.ts = (if unlocks then tACQUIRE else tLOCKED) ∧
        Raised (if unlocks then [(0x0105, 255)] else []) s t ∧ t.fld fHAL_STATUS_DEPTH = tsDepth x + 1 ∧ t.fld fHAL_STATUS_MASTER = tsMaster x ∧
        t.rdN rHAL_NET_TAG = tsTag x ∧ t.rd rHAL_OFFSET = BitVec.ofInt 32 (clamp (-2147483648) 2147483647 (roundFree e.1 2)) ∧
        t.hal.alive = tsAlive x ∧ t.hal.discipline = Config.pllLaw s.hal.discipline (roundFree e.1 2) ∧ t.clk = s.clk ∧
        (s.running = false → t.hal.slew = 0) ∧ t = { s with regs := t.regs, hal := t.hal, flt := t.flt })) ∧
    Completes .routeCellSend s (fun t => (∀ k, k < 4 → (t.port k).txMgmt = (s.port k).txMgmt ++
      (if s.pst k = pUP then [mkCell 255 s.own 0x30 0 0 0 s.upstream s.subtree] else [])) ∧ t = { s with hal := t.hal }) ∧
    (∀ x : Slot, s.pst n = pUP → cellOk x = true → slotN x 2 1 = 0x30 → q.rx.head? ≠ some (4, x) → Completes (.routeCellReceive p x) s (fun t =>
      t.port n = (if slotN x 8 1 = s.own then { q with reach := BitVec.ofNat 64 (slotN x 12 8), namesUs := true }
        else { q with reach := BitVec.ofNat 64 (2 ^ (s.peer n % 64)), namesUs := false }) ∧ one t ∧
      t = { s with hal := { s.hal with ports := t.hal.ports } })) ∧
    (s.pst n = pUP → Answers (.routeCellTimeout p) s (s.setPort n { q with reach := BitVec.ofNat 64 (2 ^ (s.peer n % 64)), namesUs := false }) [])

/-- R97, R98, R101, R102: inputs and their comparators.

Completion is stated of: sdInputLost, sdInputRecovered, windowOut, codingError. -/
def Obligations.SnsInputs : Prop :=
  ∀ (s : State) (n : Fin 48), s.mute = false →
    let i := n.val
    let live := s.sdUsed i = true
    let lost := s.on (fSNS_SD_STATUS_LOST i) = true
    let row := s.fld (fSNS_SD_CFG_ROLE i) = 1 ∨ s.fld (fSNS_SD_CFG_ROLE i) = 2
    let rows := if row then s.edg.lossRows ||| (1#48 <<< i) else s.edg.lossRows
    (live → ¬ lost → Answers (.sdInputLost n) s
      { ((s.set1 (fSNS_SD_STATUS_LOST i)).clr (fSNS_SD_STATUS_ACTIVE i)).set1 fSNS_EVENTS_SD_LOST with edg := { s.edg with lossRows := rows } }
      [(0x0301, i)]) ∧
    (¬ live ∨ lost → Answers (.sdInputLost n) s s []) ∧
    (live → s.on (fSNS_SD_STATUS_ACTIVE i) = false → Completes (.sdInputRecovered n) s (fun t =>
      t.on (fSNS_SD_STATUS_LOST i) = false ∧ t.on (fSNS_SD_STATUS_ACTIVE i) = true ∧
      t.fld (fSNS_SD_STATUS_CODING_ERRS i) = s.fld (fSNS_SD_STATUS_CODING_ERRS i) ∧
      t.edg = { s.edg with lossRows := s.edg.lossRows &&& ~~~ (1#48 <<< i) } ∧
      t.sns = { s.sns with fastBits := s.sns.fastBits.put [] i [], fastAt := s.sns.fastAt.put 0 i 0, outRun := s.sns.outRun.put 0 i 0, ignore := s.sns.ignore.put 0 i (if s.on (fSNS_SD_CFG_FAST_OSR i) then 32 else 16) } ∧
      Raised (if lost then [(0x03F0, i)] else []) s t ∧
      (s.serving i = none → RegsKept [rSNS_SD_STATUS i] s t) ∧
      (∀ d, s.serving i = some d → RegsKept [rSNS_SD_STATUS i, rSNS_DEC_STATUS d] s t ∧
        t.fld (fSNS_DEC_STATUS_SETTLE_REM d) = max (s.decK d + 1) (s.fld (fSNS_DEC_STATUS_SETTLE_REM d)) % 8 ∧ t.decState d = s.decState d) ∧
      t = { s with regs := t.regs, flt := t.flt, edg := t.edg, sns := t.sns })) ∧
    (¬ live ∨ s.on (fSNS_SD_STATUS_ACTIVE i) = true → Answers (.sdInputRecovered n) s s []) ∧
    (live → s.on (fSNS_GROUP_CFG_CODING (i / 8)) = true →
      Answers (.codingError n) s ((s.incF (fSNS_SD_STATUS_CODING_ERRS i)).set1 fSNS_EVENTS_CODING_ERR) []) ∧
    (¬ live ∨ s.on (fSNS_GROUP_CFG_CODING (i / 8)) = false → Answers (.codingError n) s s []) ∧
    Answers (.windowOut n []) s s [] ∧
    (¬ live ∨ lost → ∀ line : List (BitVec 16), Answers (.windowOut n line) s s []) ∧
    (∀ (x : BitVec 16) (y : BitVec 16), live → ¬ lost →
      let old := s.sns.fastBits.at [] i
      let prev := old.headD (bit (Config.freeAt i (s.nextSeq i)) 1)
      let b := if s.on (fSNS_GROUP_CFG_CODING (i / 8)) then (if x.getLsbD 7 = x.getLsbD 8 then prev else x.getLsbD 7)
        else x.getLsbD (s.fld (fSNS_GROUP_CFG_SAMPLE_DLY (i / 8)))
      let bits := (b :: old).take 31
      let v := fastValue (if s.on (fSNS_SD_CFG_FAST_OSR i) then 4 else 3) bits
      let run := if s.fldI (fSNS_WIN_LIM_HI i) < v.toInt ∨ v.toInt < s.fldI (fSNS_WIN_LIM_LO i) then s.sns.outRun.at 0 i + 1 else 0
      let out := s.winLive i && decide (s.fld (fSNS_WIN_CFG_QUAL i) + 1 ≤ run)
      let trip := if out = true ∧ s.on (fSNS_WIN_STATUS_OUT i) = false then s.incF (fSNS_WIN_STATUS_TRIPS i) else s
      let sns := { s.sns with
        fast := s.sns.fast.put 0 i v.toNat, fastBits := s.sns.fastBits.put [] i bits, fastAt := s.sns.fastAt.put 0 i (s.now - s.fastDelay i) }
      (s.sns.ignore.at 0 i ≠ 0 → Completes (.windowOut n [x]) s (fun t => t.sns = { sns with ignore := s.sns.ignore.put 0 i (s.sns.ignore.at 0 i - 1) } ∧
        t = { s with sns := t.sns, bnd := t.bnd })) ∧
      (s.sns.ignore.at 0 i = 0 → Completes (.windowOut n [x]) s (fun t => t.sns = { sns with outRun := s.sns.outRun.put 0 i run } ∧
        (∀ a, t.rd a = (trip.setB (fSNS_WIN_STATUS_OUT i) out).rd a) ∧ t = { s with regs := t.regs, sns := t.sns, bnd := t.bnd })) ∧
      Completes (.windowOut n [x, y]) s (fun t => ∃ u, exec (.windowOut n [x]) s = .next u ∧
        ∃ w, exec (.windowOut n [y]) u = .next w ∧ t = { w with bnd := t.bnd }))

/-- R91, R99, R100, R105, R106: decimators.

Completion is stated of: decOutput, setFilter, decAlign, rotationTick, shadowHandover, shadowMismatch, patternTestDone, decCheckError,
snsRotationStep. -/
def Obligations.SnsDecimators : Prop :=
  ∀ (s : State) (d : Fin 52), s.mute = false →
    let i := d.val
    let n := s.decInput i
    let x := s.dec i
    (∀ (line : List (BitVec 16)) (tm : ShortTime), s.decState i = dSERVING → Completes (.decOutput d line tm) s (fun t =>
      let e := s.decEntry i n (s.decRaw i line) tm.toNat
      t.rdN (rSNS_DEC_COUNT i) = (s.rdN (rSNS_DEC_COUNT i) + 1) % 2 ^ 32 ∧ (∀ k, k < 4 → t.rdN (rSNS_DEC_LAST i k) = e.w (4 * k)) ∧
      t.sns.seq.at 0 n = s.nextSeq n ∧ t.sns.good.at 0 n = (if entryFlag e 0 || entryFlag e 2 then s.sns.good.at 0 n else e) ∧
      t.dec i = { x with pend := none, aligned := false } ∧
      (x.pend = none → t.fld (fSNS_DEC_STATUS_SETTLE_REM i) = s.fld (fSNS_DEC_STATUS_SETTLE_REM i) - 1 ∧ t.rd (rSNS_DEC_CFG i) = s.rd (rSNS_DEC_CFG i)) ∧
      (∀ k m, x.pend = some (k, m) → t.decK i = k % 8 ∧ t.fld (fSNS_DEC_CFG_OSR_LOG i) = m % 16 ∧ t.decInput i = n ∧
        t.fld (fSNS_DEC_STATUS_SETTLE_REM i) = max (k + 1) (s.fld (fSNS_DEC_STATUS_SETTLE_REM i) - 1) % 8) ∧
      t.decState i = dSERVING ∧ (∀ k, k ≠ i → t.dec k = s.dec k) ∧
      RegsKept ([rSNS_DEC_COUNT i, rSNS_DEC_STATUS i, rSNS_DEC_CFG i] ++ (List.range 4).map (rSNS_DEC_LAST i) ++ (List.range 64).map (rSNS_DEC_RING i)) s t ∧
      t = { s with regs := t.regs, sns := t.sns, fp := t.fp })) ∧
    (∀ (line : List (BitVec 16)) (tm : ShortTime), s.decState i ∉ [dSERVING, dSHADOW, dRETIRED] → Answers (.decOutput d line tm) s s []) ∧
    (∀ (line : List (BitVec 16)) (tm : ShortTime), s.decState i = dRETIRED → n < 48 → s.on (fSNS_SD_STATUS_RETIRED n) = true →
      Completes (.decOutput d line tm) s (fun t => t.rdN (rSNS_DEC_COUNT i) = (s.rdN (rSNS_DEC_COUNT i) + 1) % 2 ^ 32 ∧
        t.rdN (rSNS_DEC_LAST i 3) / 2 ^ 24 = 2 ∧ bit (t.rdN (rSNS_DEC_LAST i 2)) 18 = true ∧ t.sns.good = s.sns.good ∧ t.free = s.free + 1 ∧
        t.decState i = dRETIRED ∧
        RegsKept ([rSNS_DEC_COUNT i, rSNS_DEC_STATUS i] ++ (List.range 4).map (rSNS_DEC_LAST i) ++ (List.range 64).map (rSNS_DEC_RING i)) s t ∧
        t = { s with regs := t.regs, sns := t.sns, fp := t.fp, free := t.free })) ∧
    (∀ p : Quad, let u := s.consume (0x140 + 16 * i) 0x10 p;
      Answers (.setFilter d p) s (if decAccepts 0x10 p then u.setDec i { x with pend := some (p.b 0, p.b 1) } else u) []) ∧
    (∀ p : Quad, let u := s.consume (0x140 + 16 * i) 0x11 p;
      Answers (.decAlign d p) s (if p.from 0 = 0 then u.setDec i { x with aligned := true } else u) []) ∧
    (s.rotating = true ∨ s.inBiv = true → Answers .rotationTick s s []) ∧
    (∀ e, s.rotating = false → s.inBiv = false → s.decSpare = some i → s.serving (s.fld fSNS_SPARES_ROT_NEXT) = some e →
      Completes .rotationTick s (fun t => t.decState i = dSHADOW ∧ t.dec i = { DecSt.init with shadowOf := s.fld fSNS_SPARES_ROT_NEXT } ∧
        t.rd (rSNS_DEC_CFG i) = s.rd (rSNS_DEC_CFG e) ∧ t.rd (rSNS_DEC_SCALE i) = s.rd (rSNS_DEC_SCALE e) ∧
        RegsKept [rSNS_DEC_CFG i, rSNS_DEC_SCALE i, rSNS_DEC_STATUS i, rSNS_SPARES, rFLT_EVENTS] s t ∧ t = { s with regs := t.regs, sns := t.sns })) ∧
    (CmdReady s rSNS_CMD →
      (s.decSpare = none ∨ s.rotating = true → Completes .snsRotationStep s (fun t => CmdOnly s t rSNS_CMD 2 stREFUSED)) ∧
      (∀ e, s.rotating = false → s.decSpare = some i → s.serving (s.fld fSNS_SPARES_ROT_NEXT) = some e → Completes .snsRotationStep s (fun t =>
        CmdShows t rSNS_CMD 2 stDONE ∧ t.decState i = dSHADOW ∧ t.rd (rSNS_DEC_CFG i) = s.rd (rSNS_DEC_CFG e) ∧
        RegsKept [rSNS_CMD, rSNS_DEC_CFG i, rSNS_DEC_SCALE i, rSNS_DEC_STATUS i, rSNS_SPARES, rFLT_EVENTS] s t ∧
        t = { s with regs := t.regs, sns := t.sns }))) ∧
    (s.decState i ≠ dSHADOW → Answers (.shadowHandover d) s s [] ∧ Answers (.shadowMismatch d) s s []) ∧
    (∀ e, s.decState i = dSHADOW → (if x.retest then s.decK i + 1 ≤ x.outs else 4 ≤ x.eqs) → s.serving x.shadowOf = some e → Completes (.shadowHandover d) s (fun t =>
      t.decState i = dSERVING ∧ t.decState e = dTEST ∧ t.decInput e = 63 ∧ t.fld (fSNS_DEC_STATUS_SETTLE_REM i) = s.fld (fSNS_DEC_STATUS_SETTLE_REM e) ∧ t.fld (fSNS_DEC_STATUS_SETTLE_REM e) = 0 ∧ t.dec i = DecSt.init ∧
      t.dec e = DecSt.init ∧ t.on fSNS_EVENTS_DEC_SWAP = true ∧
      RegsKept [rSNS_DEC_STATUS i, rSNS_DEC_STATUS e, rSNS_DEC_CFG e, rSNS_EVENTS, rSNS_SPARES, rFLT_EVENTS] s t ∧
      t = { s with regs := t.regs, sns := t.sns })) ∧
    (s.decState i = dSHADOW → x.retest = false → x.eqs < 4 →
      (x.outs < s.decK i + 5 → Answers (.shadowMismatch d) s s []) ∧
      (s.decK i + 5 ≤ x.outs → Answers (.shadowMismatch d) s
        ((s.setDec i { DecSt.init with shadowOf := x.shadowOf, retest := true }).setDecState i dTEST) [(0x0302, i)])) ∧
    (∀ pass : Bool, s.decState i ≠ dTEST → Answers (.patternTestDone d pass) s s []) ∧
    (s.decState i = dTEST → Completes (.patternTestDone d false) s (fun t => t.decState i = dRETIRED ∧ t.decInput i = 63 ∧
        t.on fSNS_EVENTS_DEC_RETIRED = true ∧ Raised [(0x0303, i)] s t ∧ (∀ k, k < 52 → k ≠ i → t.rd (rSNS_DEC_STATUS k) = s.rd (rSNS_DEC_STATUS k))) ∧
      (x.retest = false → Answers (.patternTestDone d true) s (((s.setDec i DecSt.init).setF (fSNS_DEC_CFG_INPUT i) 63).setDecState i dSPARE) [])) ∧
    (s.decState i ≠ dSERVING → Answers (.decCheckError d) s s []) ∧
    (s.decState i = dSERVING → (∀ e, s.decSubstitute = some e → Completes (.decCheckError d) s (fun t =>
        t.decState i = dRETIRED ∧ t.decInput i = 63 ∧ t.decState e = dSERVING ∧ t.decInput e = n ∧ t.decK e = s.decK i ∧
        t.fld (fSNS_DEC_STATUS_SETTLE_REM e) = max (s.decK i + 1) (s.fld (fSNS_DEC_STATUS_SETTLE_REM i)) % 8 ∧ t.dec e = DecSt.init ∧
        t.rd (rSNS_DEC_SCALE e) = s.rd (rSNS_DEC_SCALE i) ∧ Raised [(0x0303, i)] s t)) ∧
      (s.decSubstitute = none → s.fld (fSNS_SD_CFG_ROLE n) ≠ 1 → Completes (.decCheckError d) s (fun t =>
        t.decState i = dRETIRED ∧ t.on (fSNS_SD_STATUS_RETIRED n) = true ∧ t.on fSNS_EVENTS_INPUT_RETIRED = true ∧
        Raised [(0x0303, i), (0x0304, n)] s t)))

/-- R107–R116: SAR converters, on-state voltage and the SNS counters.

Completion is stated of: snsClearCounters, convert, runSeq, sarConversionEnd, sarCalStall, vonSample, vonEntryWritten. -/
def Obligations.SnsConverters : Prop :=
  ∀ (s : State) (c : Fin 4) (g : Fin 24), s.mute = false →
    let i := c.val
    let k := g.val
    let x := s.sar i
    let blanked := s.on (fEDG_EO_STATUS_LEVEL k) = true ∧ s.fld (fSNS_VON_CFG_BLANK k) * 100 * nsU ≤ s.now - s.lastEdge k
    (∀ p : Quad, sarAccepts i 0x10 p = false → Answers (.convert c p) s (s.consume (0x480 + 16 * i) 0x10 p) []) ∧
    (∀ p : Quad, s.on (fSNS_SAR_STATE_RETIRED i) = true → sarAccepts i 0x10 p = true →
      (s.sns.anBy.at 0 (p.b 0) ≠ i + 1 → Answers (.convert c p) s (s.consume (0x480 + 16 * i) 0x10 p) []) ∧
      (s.sns.anBy.at 0 (p.b 0) = i + 1 → Completes (.convert c p) s (fun t =>
        t.rdN (rSNS_AN_LAST (p.b 0) 3) / 2 ^ 24 = 2 ∧ bit (t.rdN (rSNS_AN_LAST (p.b 0) 2)) 18 = true ∧ t.sns.good = s.sns.good ∧
        t.sns.seq.at 0 (0x60 + p.b 0) = s.nextSeq (0x60 + p.b 0) ∧ t.sns.anSettle.at 0 (p.b 0) = s.sns.anSettle.at 0 (p.b 0) - 1 ∧
        RegsKept ((List.range 4).map (rSNS_AN_LAST (p.b 0))) s t ∧
        t = { s with regs := t.regs, sns := t.sns, hq := t.hq, fp := t.fp, free := s.free + 1 }))) ∧
    (∀ p : Quad, s.on (fSNS_SAR_STATE_RETIRED i) = false → sarAccepts i 0x10 p = true → Completes (.convert c p) s (fun t =>
      let cal := s.calRunning i
      let idle := x.convs.isEmpty
      let acq := if (s.sarLast i).1 = p.b 0 then 0 else if idle then 60 else 200
      t.sar i = { x with
        convs := x.convs ++ [{
          chan := p.b 0, gain := p.b 1, acq := acq, delayed := cal || s.on (fSNS_SAR_STATE_BUSY i), launch := s.launchOf (0x480 + 16 * i) 0x10 p, subst := idle && s.anSubst (p.b 0) }],
        settle := if idle ∧ p.b 1 ≠ s.fld (fSNS_SAR_STATE_GAIN i) then max 2 x.settle else x.settle,
        owed := cal || x.owed } ∧
      t.on (fSNS_SAR_STATE_BUSY i) = (idle || s.on (fSNS_SAR_STATE_BUSY i)) ∧ t.on (fSNS_SAR_STATE_CAL_ACTIVE i) = false ∧
      (idle → t.fld (fSNS_SAR_STATE_CHAN i) = p.b 0 ∧ t.fld (fSNS_SAR_STATE_GAIN i) = p.b 1) ∧
      t.rdN (rSNS_SAR_CAL_ABORTS i) = (if cal then min (s.rdN (rSNS_SAR_CAL_ABORTS i) + 1) 0xFFFFFFFF else s.rdN (rSNS_SAR_CAL_ABORTS i)) ∧
      (∀ j, j ≠ i → t.sar j = s.sar j) ∧ RegsKept [rSNS_SAR_STATE i, rSNS_SAR_CAL_ABORTS i, rSNS_EVENTS] s t ∧
      t = { s with regs := t.regs, sns := t.sns, hq := t.hq })) ∧
    (∀ p : Quad, sarAccepts i 0x11 p = false → Answers (.runSeq c p) s (s.consume (0x480 + 16 * i) 0x11 p) []) ∧
    (∀ p : Quad, s.on (fSNS_SAR_STATE_RETIRED i) = false → sarAccepts i 0x11 p = true → p.b 1 = 1 → s.calRunning i = false →
      (s.on (fSNS_SAR_SEQ_VALID i (p.b 0)) = false →
        Answers (.runSeq c p) s ((s.consume (0x480 + 16 * i) 0x11 p).clr (fSNS_SAR_STATE_CAL_ACTIVE i)) []) ∧
      (s.on (fSNS_SAR_SEQ_VALID i (p.b 0)) = true → Completes (.runSeq c p) s (fun t =>
        (∃ v, (t.sar i).convs = x.convs ++ [v] ∧ v.chan = s.fld (fSNS_SAR_SEQ_CHAN i (p.b 0)) ∧ v.gain = s.fld (fSNS_SAR_SEQ_GAIN i (p.b 0)) ∧
          v.launch = s.launchOf (0x480 + 16 * i) 0x11 p ∧ v.delayed = s.on (fSNS_SAR_STATE_BUSY i)) ∧
        (x.convs = [] → t.on (fSNS_SAR_STATE_BUSY i) = true) ∧ RegsKept [rSNS_SAR_STATE i] s t ∧
        t = { s with regs := t.regs, sns := t.sns, hq := t.hq }))) ∧
    (∀ (raw : BitVec 16) (tm : ShortTime), x.convs = [] → Answers (.sarConversionEnd c raw tm) s s []) ∧
    (∀ (raw : BitVec 16) (tm : ShortTime) (v : Conv) (rest : List Conv), x.convs = v :: rest → v.chan < 16 → Completes (.sarConversionEnd c raw tm) s (fun t =>
      let e := s.sarEntry i v raw tm.toNat
      let settle := x.settle - 1
      (rest = [] → t.sar i = { x with convs := [], settle := settle, calWait := false, calAt := if x.calWait then s.now else x.calAt } ∧
        t.on (fSNS_SAR_STATE_CAL_ACTIVE i) = (x.calWait || s.on (fSNS_SAR_STATE_CAL_ACTIVE i))) ∧
      (∀ w tl, rest = w :: tl → t.sar i = { x with
        convs := { w with subst := s.anSubst w.chan } :: tl,
        settle := if w.gain = s.fld (fSNS_SAR_STATE_GAIN i) then settle else max 2 settle }) ∧
      t.rdN (rSNS_SAR_COUNT i) = (s.rdN (rSNS_SAR_COUNT i) + 1) % 2 ^ 32 ∧
      (∀ j, j < 4 → t.rdN (rSNS_SAR_LAST i j) = e.w (4 * j) ∧ t.rdN (rSNS_AN_LAST v.chan j) = e.w (4 * j)) ∧
      t.on (fSNS_SAR_STATE_BUSY i) = !rest.isEmpty ∧ t.sns.seq.at 0 (0x60 + v.chan) = s.nextSeq (0x60 + v.chan) ∧
      (∀ j, j ≠ i → t.sar j = s.sar j) ∧
      RegsKept ([rSNS_SAR_STATE i, rSNS_SAR_COUNT i] ++ (List.range 4).map (rSNS_SAR_LAST i) ++ (List.range 4).map (rSNS_AN_LAST v.chan) ++
        (List.range 64).map (rSNS_SAR_RING i)) s t ∧ t = { s with regs := t.regs, sns := t.sns, fp := t.fp })) ∧
    (s.on (fSNS_SAR_CFG_CAL_EN i) = true → s.on (fSNS_SAR_STATE_RETIRED i) = false → Answers (.sarCalStall c) s s [(0x0308, 52 + i)]) ∧
    (s.on (fSNS_SAR_CFG_CAL_EN i) = false ∨ s.on (fSNS_SAR_STATE_RETIRED i) = true → Answers (.sarCalStall c) s s []) ∧
    (∀ p : Quad, let u := s.consume (0x6C8 + 16 * k) 0x10 p;
      (s.on (fSNS_VON_CFG_ENABLE k) = false → Answers (.vonSample g p) s u []) ∧
      (s.on (fSNS_VON_CFG_ENABLE k) = true → gdAccepts 8 0x10 p = true → (s.von k).busy = false → Answers (.vonSample g p) s
        (u.setVon k { busy := true, range := p.b 0, start := s.now, reason := if blanked then 0 else 3 }) []) ∧
      (s.on (fSNS_VON_CFG_ENABLE k) = true → gdAccepts 8 0x10 p = true → (s.von k).busy = true → Completes (.vonSample g p) s (fun t =>
        t.rdN (rSNS_VON_LAST k 3) / 2 ^ 24 = 5 ∧ bit (t.rdN (rSNS_VON_LAST k 2)) 18 = true ∧ t.von k = s.von k ∧
        RegsKept ((List.range 4).map (rSNS_VON_LAST k)) s t ∧ t = { s with regs := t.regs, sns := t.sns, hq := t.hq, fp := t.fp, free := s.free + 1 }))) ∧
    (∀ (raw : BitVec 12) (ok : Bool), (s.von k).busy = false → Answers (.vonEntryWritten g raw ok) s s []) ∧
    (∀ (raw : BitVec 12) (ok : Bool), (s.von k).busy = true → Completes (.vonEntryWritten g raw ok) s (fun t =>
      t.von k = VonSt.init ∧ t.free = s.free + 1 ∧ t.rdN (rSNS_VON_LAST k 0) = s.bridgedAt .gdi (s.von k).start % 2 ^ 32 ∧
      t.rdN (rSNS_VON_LAST k 1) = s.bridgedAt .gdi (s.von k).start / 2 ^ 32 % 256 + raw.toNat * 256 ∧
      t.rdN (rSNS_VON_LAST k 3) / 2 ^ 24 = (if ok = false then 2 else if (s.von k).reason ≠ 0 then (s.von k).reason % 256 else if s.vonCut k (s.von k).start then 4 else 0) ∧
      Raised (if ok then [] else [(0x030E, 0x40 + k)]) s t ∧ RegsKept (rSNS_EVENTS :: (List.range 4).map (rSNS_VON_LAST k)) s t ∧
      t = { s with regs := t.regs, sns := t.sns, fp := t.fp, flt := t.flt, free := t.free })) ∧
    (CmdReady s rSNS_CMD → Completes .snsClearCounters s (fun t =>
      CmdShows t rSNS_CMD 1 stDONE ∧ (∀ j, j < 4 → t.rd (rSNS_SAR_CAL_ABORTS j) = 0) ∧
      (∀ j, j < 48 → t.rd (rSNS_SD_STATUS j) = (s.setF (fSNS_SD_STATUS_CODING_ERRS j) 0).rd (rSNS_SD_STATUS j) ∧
        t.rd (rSNS_WIN_STATUS j) = (s.setF (fSNS_WIN_STATUS_TRIPS j) 0).rd (rSNS_WIN_STATUS j)) ∧
      OnlyRegs ([rSNS_CMD] ++ (List.range 4).map rSNS_SAR_CAL_ABORTS ++ (List.range 48).map rSNS_SD_STATUS ++ (List.range 48).map rSNS_WIN_STATUS) s t))

/-- R125–R133: the Hall paths.

Completion is stated of: hallSyncChange, hallLevelAccepted, snapshot. -/
def Obligations.PosHall : Prop :=
  ∀ (s : State) (h : Fin 6), s.mute = false →
    let i := h.val
    let x := s.hall i
    let u := s.hSt i
    let rest := fun (t : State) => t = { s with regs := t.regs, pos := t.pos, sns := t.sns, fp := t.fp, flt := t.flt, hq := t.hq, free := t.free }
    (∀ (abc rej : BitVec 3) (idx : BitVec 4), Completes (.hallSyncChange h abc rej idx) s (fun t => (∀ k, k < 4 → t.pos.idxLevel.at false k = bit idx.toNat k) ∧
      t.fld (fPOS_HALL_STATUS_SYNC_ABC i) = abc.toNat ∧ (∀ k, k < 2 → t.pos.hpt.at 0 k = t.hptLevels k) ∧
      t.rdN (rPOS_CNT_REJECT i) = (if u = hUNUSED then s.rdN (rPOS_CNT_REJECT i) else
        min (s.rdN (rPOS_CNT_REJECT i) + (rej.toNat % 2 + rej.toNat / 2 % 2 + rej.toNat / 4)) 0xFFFFFFFF) ∧
      (u = hUNUSED ∨ u = hFAILED → t.hSt i = u ∧ t.on (fPOS_HALL_STATUS_VALID i) = s.on (fPOS_HALL_STATUS_VALID i)) ∧
      (u ≠ hUNUSED → u ≠ hFAILED → abc ≠ 0 → abc ≠ 7 → t.hSt i = hTRACKING ∧ t.on (fPOS_HALL_STATUS_VALID i) = true ∧
        t.fld (fPOS_HALL_STATUS_SECTOR i) = s.sectorOf i abc.toNat ∧ t.rd (rPOS_CNT_INVALID i) = s.rd (rPOS_CNT_INVALID i)) ∧
      (u ≠ hUNUSED → u ≠ hFAILED → abc = 0 ∨ abc = 7 → t.rdN (rPOS_CNT_INVALID i) = min (s.rdN (rPOS_CNT_INVALID i) + 1) 0xFFFFFFFF ∧
        t.on (fPOS_EVENTS_IMPOSSIBLE i) = true ∧ t.hSt i = (if u = hTRACKING then hIMPOSSIBLE else u) ∧
        (u = hTRACKING → t.on (fPOS_HALL_STATUS_VALID i) = false ∧ (t.hall i).tainted = 15)) ∧
      (∀ k, k ≠ i → t.hall k = s.hall k) ∧ RegsKept [rPOS_HALL_STATUS i, rPOS_CNT_REJECT i, rPOS_CNT_INVALID i, rPOS_EVENTS i] s t ∧
      t = { s with regs := t.regs, pos := t.pos, flt := t.flt })) ∧
    (∀ (abc : BitVec 3) (tm : Time), u = hUNUSED ∨ u = hFAILED ∨ abc = 0 ∨ abc = 7 ∨ x.lastValid = abc.toNat →
      Answers (.hallLevelAccepted h abc tm) s (s.setF (fPOS_HALL_STATUS_FILT_ABC i) abc.toNat) []) ∧
    (∀ (abc : BitVec 3) (tm : Time), u ≠ hUNUSED → u ≠ hFAILED → abc ≠ 0 → abc ≠ 7 → x.lastValid = 0 →
      Answers (.hallLevelAccepted h abc tm) s ((s.setF (fPOS_HALL_STATUS_FILT_ABC i) abc.toNat).setHall i { x with lastValid := abc.toNat }) []) ∧
    (∀ (abc : BitVec 3) (tm : Time), u ≠ hUNUSED → u ≠ hFAILED → abc ≠ 0 → abc ≠ 7 → x.lastValid ≠ 0 → x.lastValid ≠ abc.toNat →
      let st := hallStep (s.sectorOf i x.lastValid) (s.sectorOf i abc.toNat)
      let sg := if s.on (fPOS_HALL_CFG_DIR_INV i) then -st else st
      let dt := (roundFree ((tm.toNat : Int) - s.hallEdge i) 2560).toNat
      Completes (.hallLevelAccepted h abc tm) s (fun t => t.rd (rPOS_COUNT i) = s.rd (rPOS_COUNT i) + BitVec.ofInt 32 sg ∧
        t.fld (fPOS_HALL_STATUS_FILT_ABC i) = abc.toNat ∧ (sg ≠ 0 → t.on (fPOS_HALL_STATUS_REVERSE i) = decide (sg < 0)) ∧ t.hallEdge i = tm.toNat ∧
        t.on (fPOS_HALL_STATUS_STANDSTILL i) = false ∧ (t.hall i).lastValid = abc.toNat ∧ (t.hall i).hasEdge = true ∧ t.hSt i = u ∧
        (sg ≠ 1 → sg ≠ -1 → t.rdN (rPOS_CNT_SKIP i) = min (s.rdN (rPOS_CNT_SKIP i) + 1) 0xFFFFFFFF ∧ (t.hall i).intervals = [] ∧
          (t.hall i).tainted = 15 ∧ t.fld (fPOS_SPEED_WE i) = s.fld (fPOS_SPEED_WE i)) ∧
        (sg = 1 ∨ sg = -1 → t.rd (rPOS_CNT_SKIP i) = s.rd (rPOS_CNT_SKIP i) ∧ (t.hall i).lastDir = sg ∧
          (x.hasEdge = true → (t.hall i).lastDt = dt ∧ (dt < 2 ^ 32 → t.rdN (rPOS_INTERVAL i) = dt) ∧ entryValue (t.hall i).entry = t.fldI (fPOS_SPEED_WE i) ∧
            (x.lastDir = -sg → t.fld (fPOS_SPEED_WE i) = 0 ∧ (t.hall i).intervals = [] ∧ (t.hall i).tainted = 15) ∧
            (x.lastDir ≠ -sg → x.lastDir = 0 ∨ x.lastDir = sg → (t.hall i).intervals = (dt :: x.intervals).take 6 ∧
              t.fldI (fPOS_SPEED_WE i) = satQ15 (sg * s.speedOf i 1 (dt * 2560))))) ∧
        t.sns.seq.at 0 (0x40 + i) = s.nextSeq (0x40 + i) ∧ (∀ k, k ≠ i → t.hall k = s.hall k) ∧
        RegsKept [rPOS_HALL_STATUS i, rPOS_COUNT i, rPOS_SPEED i, rPOS_INTERVAL i, rPOS_INTERVAL_REV i, rPOS_EDGE_TIME_LO i, rPOS_EDGE_TIME_HI i,
          rPOS_CNT_SKIP i, rPOS_EVENTS i] s t ∧ rest t)) ∧
    (∀ p : Quad, let tau := s.now - s.hallEdge i;
      let still := x.hasEdge = false ∨ s.fld (fPOS_SPD_CFG_SPD_TMO i) * msU ≤ tau;
      Completes (.snapshot h p) s (fun t => rest t ∧ RegsKept [rPOS_HALL_STATUS i] s t ∧ t.sns.seq.at 0 (0x40 + i) = s.nextSeq (0x40 + i) ∧
        (t.hall i) = { x with entry := (t.hall i).entry } ∧ (t.hall i).entry.toNat % 2 ^ 40 = s.short ∧ t.flt = s.flt ∧ t.hSt i = u ∧
        t.on (fPOS_HALL_STATUS_VALID i) = s.on (fPOS_HALL_STATUS_VALID i) ∧
        (u = hFAILED → entryValue (t.hall i).entry = s.fldI (fPOS_SPEED_WE i)) ∧
        (u ≠ hFAILED → still → entryValue (t.hall i).entry = 0 ∧ t.on (fPOS_HALL_STATUS_STANDSTILL i) = true) ∧
        (u ≠ hFAILED → ¬ still → t.rd (rPOS_HALL_STATUS i) = s.rd (rPOS_HALL_STATUS i) ∧
          entryValue (t.hall i).entry = (if tau ≤ x.lastDt * 2560 then s.fldI (fPOS_SPEED_WE i) else satQ15 (s.snapSpeed i tau)))))

/-- R134–R137: index, probe and pass-through.

Completion is stated of: indexEdgeAccepted, probeEdgeAccepted, hptSelect. -/
def Obligations.PosLatches : Prop :=
  ∀ (s : State) (k : Fin 4), s.mute = false →
    let i := k.val
    let tr := s.fld (fPOS_IDX_CFG_TRIPLET i)
    let x := s.hall tr
    let pr := s.fld (fPOS_PRB_CFG_TRIPLET i)
    let rest := fun (t : State) => t = { s with regs := t.regs, pos := t.pos, flt := t.flt, free := t.free }
    (∀ (up : Bool) (tm : Time) (rej : BitVec 16) (hall : Option (BitVec 3 × Time)), s.on (fPOS_IDX_CFG_ENABLE i) = false → Completes (.indexEdgeAccepted k up tm rej hall) s (fun t =>
      t.pos.idxLevel = s.pos.idxLevel.put false i up ∧ (∀ o, o < 2 → t.pos.hpt.at 0 o = t.hptLevels o) ∧
      t = { s with pos := { s.pos with idxLevel := t.pos.idxLevel, hpt := t.pos.hpt } })) ∧
    (∀ (up : Bool) (tm : Time) (rej : BitVec 16), s.on (fPOS_IDX_CFG_ENABLE i) = true → tr < 6 → up ≠ (s.fld (fPOS_IDX_CFG_POL i) == 0) →
      Completes (.indexEdgeAccepted k up tm rej none) s (fun t => t.pos.idxLevel.at false i = up ∧ t.pos.latched = s.pos.latched ∧
        t.rdN (rPOS_CNT_REJECT tr) = min (s.rdN (rPOS_CNT_REJECT tr) + rej.toNat) 0xFFFFFFFF ∧ RegsKept [rPOS_CNT_REJECT tr] s t ∧ rest t)) ∧
    (∀ (up : Bool) (tm : Time) (rej : BitVec 16), s.on (fPOS_IDX_CFG_ENABLE i) = true → tr < 6 → up = (s.fld (fPOS_IDX_CFG_POL i) == 0) →
      let d := sgnW 32 (unsW 32 (s.rdI (rPOS_COUNT tr) - s.rdI (rPOS_IDX_LATCH i))) -
        (if bit x.rev i then -1 else 1) * (s.fld (fPOS_SPD_CFG_COUNTS_REV tr) : Int)
      Completes (.indexEdgeAccepted k up tm rej none) s (fun t => t.pos.idxLevel.at false i = up ∧ t.pos.latched.at false i = true ∧
        t.rd (rPOS_IDX_LATCH i) = s.rd (rPOS_COUNT tr) ∧ t.rdN (rPOS_IDX_TIME i) = tm.toNat / 256 % 2 ^ 32 ∧
        bit (t.hall tr).tainted i = false ∧ bit (t.hall tr).fwd i = false ∧ bit (t.hall tr).rev i = false ∧
        (s.pos.latched.at false i = false → RegsKept [rPOS_CNT_REJECT tr, rPOS_IDX_LATCH i, rPOS_IDX_TIME i] s t ∧ Raised [] s t) ∧
        (s.pos.latched.at false i = true → bit x.tainted i = true → Raised [] s t ∧
          t.rdN (rPOS_CNT_DRIFT_SKIP tr) = min (s.rdN (rPOS_CNT_DRIFT_SKIP tr) + 1) 0xFFFFFFFF ∧
          RegsKept [rPOS_CNT_REJECT tr, rPOS_CNT_DRIFT_SKIP tr, rPOS_IDX_LATCH i, rPOS_IDX_TIME i] s t) ∧
        (s.pos.latched.at false i = true → bit x.tainted i = false → bit x.rev i ≠ bit x.fwd i →
          (-32768 ≤ d → d ≤ 32767 → t.fldI (fPOS_IDX_DRIFT_D i) = d) ∧
          Raised (if s.fld (fPOS_IDX_CFG_DRIFT_TOL i) < d.natAbs then [(0x0404, 0x10 + i)] else []) s t ∧
          RegsKept [rPOS_CNT_REJECT tr, rPOS_IDX_DRIFT i, rPOS_EVENTS tr, rPOS_IDX_LATCH i, rPOS_IDX_TIME i] s t) ∧ rest t)) ∧
    (∀ (up : Bool) (tm : Time) (rej : BitVec 16) (hall : Option (BitVec 3 × Time)),
      (s.on (fPOS_PRB_CFG_ENABLE i) = false → Answers (.probeEdgeAccepted k up tm rej hall) s { s with pos := { s.pos with prbLevel := s.pos.prbLevel.put false i up } } []) ∧
      (s.on (fPOS_PRB_CFG_ENABLE i) = true → pr < 6 → 2 ≤ s.fld (fPOS_PRB_CFG_POL i) ∨ up = (s.fld (fPOS_PRB_CFG_POL i) == 0) →
        let seq := (s.fld (fPOS_PRB_STATUS_SEQ i) + 1) % 65536
        let ring := fun w => rPOS_PRB_RING (i * 32 + seq % 8 * 4 + w)
        let q := s.fld (fPOS_PRB_CFG_DEST_Q i)
        Completes (.probeEdgeAccepted k up tm rej none) s (fun t => t.fld (fPOS_PRB_STATUS_SEQ i) = seq ∧ t.rd (ring 0) = s.rd (rPOS_COUNT pr) ∧
          t.rdN (ring 1) = tm.toNat / 256 % 2 ^ 32 ∧ t.rdN (ring 3) = seq ∧ t.pos.prbLevel.at false i = up ∧
          (q = 0 → t.hq = s.hq) ∧ (q ≠ 0 → ∃ r : Rec, t.hq = { s.hq with fabric := s.hq.fabric ++ [r] } ∧ r.target.toNat = q ∧ r.opcode = 0x10 ∧
            r.flags = 1 ∧ r.payload.toNat % 2 ^ 32 = s.rdN (rPOS_COUNT pr) ∧ r.payload.toNat / 2 ^ 104 = seq ∧ r.time.toNat = s.short) ∧
          RegsKept [rPOS_CNT_REJECT pr, rPOS_PRB_STATUS i, ring 0, ring 1, ring 2, ring 3] s t ∧
          t = { s with regs := t.regs, pos := t.pos, hq := t.hq, flt := t.flt, free := t.free }))) ∧
    (∀ (up : Bool) (tm : Time) (rej : BitVec 16) (abc : BitVec 3) (he : Time),
      (s.on (fPOS_IDX_CFG_ENABLE i) = true → tr < 6 →
        Completes (.indexEdgeAccepted k up tm rej (some (abc, he))) s (fun t => ∃ u, exec (.hallLevelAccepted (Fin.ofNat 6 tr) abc he) s = .next u ∧ t.rd (rPOS_COUNT tr) = u.rd (rPOS_COUNT tr) ∧
          t.hallEdge tr = u.hallEdge tr ∧ (t.hall tr).entry = (u.hall tr).entry ∧
          (up = (s.fld (fPOS_IDX_CFG_POL i) == 0) → t.rd (rPOS_IDX_LATCH i) = u.rd (rPOS_COUNT tr)))) ∧
      (s.on (fPOS_PRB_CFG_ENABLE i) = true → pr < 6 →
        Completes (.probeEdgeAccepted k up tm rej (some (abc, he))) s (fun t => ∃ u, exec (.hallLevelAccepted (Fin.ofNat 6 pr) abc he) s = .next u ∧ t.rd (rPOS_COUNT pr) = u.rd (rPOS_COUNT pr) ∧
          t.hallEdge pr = u.hallEdge pr ∧ (t.hall pr).entry = (u.hall pr).entry ∧
          (2 ≤ s.fld (fPOS_PRB_CFG_POL i) ∨ up = (s.fld (fPOS_PRB_CFG_POL i) == 0) →
            t.rd (rPOS_PRB_RING (i * 32 + (s.fld (fPOS_PRB_STATUS_SEQ i) + 1) % 65536 % 8 * 4)) = u.rd (rPOS_COUNT pr))))) ∧
    (∀ (o : Fin 2) (p : Quad),
      (hptAccepts 0x10 p = false → Answers (.hptSelect o p) s (s.consume (0xB10 + 16 * o.val) 0x10 p) []) ∧
      (hptAccepts 0x10 p = true → Completes (.hptSelect o p) s (fun t => t.fld (fPOS_HPT_SRC_TRIPLET o.val) = p.b 0 ∧
        t.fld (fPOS_HPT_SRC_INDEX o.val) = p.b 1 ∧ (∀ j, j < 2 → t.pos.hpt.at 0 j = t.hptLevels j) ∧ RegsKept [rPOS_HPT_SRC o.val] s t ∧
        t = { s with regs := t.regs, hq := t.hq, pos := { s.pos with hpt := t.pos.hpt } })))

/-- R142–R145, R364: carriers and delay lines.

Completion is stated of: carrierSync, setPeriod, carrierStop, delayLineSwap, lineCalibrationDone, lineCheckError, carrierCheckFail. -/
def Obligations.EdgCarriers : Prop :=
  ∀ (s : State) (c : Fin 8) (o : Fin 24), s.mute = false →
    let i := c.val
    let k := o.val
    let q := 0x4C0 + 16 * i
    let regs := [rEDG_CAR_PERIOD i, rEDG_CAR_STATUS i, rEDG_CAR_ZERO_LO i, rEDG_CAR_ZERO_HI i]
    let others := fun (t : State) => ∀ j, j ≠ i → t.edg.carPeak.at false j = s.edg.carPeak.at false j ∧ t.edg.carPend.at none j = s.edg.carPend.at none j
    (∀ (p : Quad) (l : Time), s.carLive i = true → s.carAccepts i 0x10 p = true →
      let per := if p.w 0 = 0 then s.carP i else p.w 0
      Completes (.carrierSync c p l) s (fun t => t.carP i = per ∧ t.carSt i = cRUNNING ∧
        t.carZero i = (l.toNat + 4 * ((s.fld (fEDG_CAR_CFG_OFFSET i) * per + 32768) / 65536)) % 2 ^ 64 ∧ t.edg.carPeak.at false i = false ∧
        t.edg.carPend.at none i = none ∧ others t ∧ RegsKept regs s t ∧ t.edg = { s.edg with carPeak := t.edg.carPeak, carPend := t.edg.carPend } ∧
        t = { s with regs := t.regs, edg := t.edg, hq := t.hq })) ∧
    (∀ (p : Quad) (l : Time), s.carLive i = false ∨ s.carAccepts i 0x10 p = false → Answers (.carrierSync c p l) s (s.consume q 0x10 p) []) ∧
    (∀ (p : Quad) (l : Time), s.carLive i = false ∨ s.carAccepts i 0x11 p = false → Answers (.setPeriod c p l) s (s.consume q 0x11 p) []) ∧
    (∀ (p : Quad) (l : Time), s.carLive i = true → s.carAccepts i 0x11 p = true → (∀ m, m < 4 → s.role m = 1 → s.bCar m ≠ some i) →
      Answers (.setPeriod c p l) s (if s.carSt i = cRUNNING then (s.consume q 0x11 p).setPend i (some (l.toNat, p.w 0))
        else (s.consume q 0x11 p).wrN (rEDG_CAR_PERIOD i) (p.w 0)) []) ∧
    (∀ p : Quad, Answers (.carrierStop c p) s (if s.carSt i = cRUNNING ∧ s.carAccepts i 0x12 p = true then
      ((s.consume q 0x12 p).setF (fEDG_CAR_STATUS_ST i) cSTOPPED).setPend i none else s.consume q 0x12 p) []) ∧
    Completes (.carrierCheckFail c) s (fun t => t.carLive i = false ∧ t.carSt i = (if s.carSt i = cRUNNING then cSTOPPED else s.carSt i) ∧
      (s.carSt i = cRUNNING → t.edg.carPend.at none i = none) ∧ (∀ j, j ≠ i → t.carLive j = s.carLive j) ∧ others t ∧
      RegsKept [rEDG_CAR_STATUS i] s t ∧ t = { s with regs := t.regs, edg := t.edg }) ∧
    (∀ gap : Bool, s.on (fEDG_EO_STATUS_RETIRED k) = true ∨ s.on (fEDG_EO_STATUS_SINGLE k) = true → Answers (.delayLineSwap o gap) s s []) ∧
    (∀ r : Nat, s.on (fEDG_EO_STATUS_RETIRED k) = true → Answers (.lineCalibrationDone o r) s s []) ∧
    (∀ r : Nat, s.on (fEDG_EO_STATUS_RETIRED k) = false → s.on (fEDG_EO_STATUS_SINGLE k) = true →
      let one := s.fld (fEDG_EO_STATUS_SERVING k);
      let fails := if r ≤ 25 then 0 else (if one = 0 then (s.out k).fails0 else (s.out k).fails1) + 1;
      Completes (.lineCalibrationDone o r) s (fun t => t.fld (if one = 0 then fEDG_EO_CAL_L0 k else fEDG_EO_CAL_L1 k) = min r 255 ∧
        t.fld (if one = 0 then fEDG_EO_CAL_L1 k else fEDG_EO_CAL_L0 k) = s.fld (if one = 0 then fEDG_EO_CAL_L1 k else fEDG_EO_CAL_L0 k) ∧
        (if one = 0 then (t.out k).fails0 else (t.out k).fails1) = fails ∧ t.on (fEDG_EO_STATUS_SINGLE k) = true ∧
        t.on (fEDG_EO_STATUS_RETIRED k) = decide (3 ≤ fails) ∧ (fails < 3 → t.flt = s.flt ∧ RegsKept [rEDG_EO_CAL k] s t) ∧
        (3 ≤ fails → t.on (if one = 0 then fEDG_EO_STATUS_L0_RETIRED k else fEDG_EO_STATUS_L1_RETIRED k) = true ∧ Raises 0x0502 k s t ∧
          ∀ n, s.legOf k = some n → t.tst n = tRETIRED))) ∧
    (s.on (fEDG_EO_STATUS_RETIRED k) = false → s.on (fEDG_EO_STATUS_SINGLE k) = false →
      Answers (.delayLineSwap o true) s (s.setF (fEDG_EO_STATUS_SERVING k) (1 - s.fld (fEDG_EO_STATUS_SERVING k))) [] ∧
      Completes (.delayLineSwap o false) s (fun t => t.rdN (rEDG_EO_CNT_SWAPSKIP k) = min (s.rdN (rEDG_EO_CNT_SWAPSKIP k) + 1) 0xFFFFFFFF ∧
        t.on fEDG_EVENTS_SWAP_SKIP = true ∧ RegsKept [rEDG_EO_CNT_SWAPSKIP k, rEDG_EVENTS] s t ∧ t = { s with regs := t.regs, flt := t.flt }) ∧
      (∀ r : Nat, let idle := 1 - s.fld (fEDG_EO_STATUS_SERVING k);
        let fails := if r ≤ 25 then 0 else (if idle = 0 then (s.out k).fails0 else (s.out k).fails1) + 1;
        Completes (.lineCalibrationDone o r) s (fun t =>
          t.fld (if idle = 0 then fEDG_EO_CAL_L0 k else fEDG_EO_CAL_L1 k) = min r 255 ∧
          t.fld (if idle = 0 then fEDG_EO_CAL_L1 k else fEDG_EO_CAL_L0 k) = s.fld (if idle = 0 then fEDG_EO_CAL_L1 k else fEDG_EO_CAL_L0 k) ∧
          (if idle = 0 then (t.out k).fails0 else (t.out k).fails1) = fails ∧ t.on (fEDG_EO_STATUS_SINGLE k) = decide (3 ≤ fails) ∧
          (3 ≤ fails → t.on (if idle = 0 then fEDG_EO_STATUS_L0_RETIRED k else fEDG_EO_STATUS_L1_RETIRED k) = true) ∧
          Raised (if 3 ≤ fails then [(0x0501, k)] else []) s t ∧ (∀ j, j ≠ k → t.out j = s.out j) ∧
          (fails < 3 → RegsKept [rEDG_EO_CAL k] s t)))) ∧
    (s.on (fEDG_EO_STATUS_RETIRED k) = true → Answers (.lineCheckError o) s s []) ∧
    (s.on (fEDG_EO_STATUS_RETIRED k) = false → (s.legOf k = none → Answers (.lineCheckError o) s
        ((s.set1 (fEDG_EO_STATUS_RETIRED k)).set1 fEDG_EVENTS_LINE_RETIRED) [(0x0502, k)]) ∧
      (∀ n, s.legOf k = some n → LegsFit s → s.tst n ≠ tRETIRED → Completes (.lineCheckError o) s (fun t => t.on (fEDG_EO_STATUS_RETIRED k) = true ∧
        t.tst n = tRETIRED ∧ (s.legType n = 1 → s.pat n < 3 → t.pat n = 0))))

/-- R139, R147–R153, R158: requests.

Completion is stated of: legSet, outSet, deadTimeElapsed, t3lInnerElapsed. -/
def Obligations.EdgRequests : Prop :=
  ∀ (s : State) (o : Fin 24) (n : Fin 12) (p : Quad) (tm : Time) (late : Bool), s.mute = false →
    let k := o.val
    let l := n.val
    let q := 0x540 + 16 * k
    let b := s.legBase l
    let at_ := placed tm.toNat late
    let fits := LegsFit s
    let rest := fun (t : State) => t = { s with regs := t.regs, edg := t.edg, hq := t.hq, flt := t.flt }
    let out := fun (x : Nat) => [rEDG_EO_STATUS x, rEDG_EO_LAST_LO x, rEDG_EO_LAST_HI x, rEDG_EO_CNT_EDGES x, rEDG_EO_CNT_MERGED x, rGD_STATUS x]
    (s.legOf k = none ∨ s.eoAccepts k 0x10 p = false → Answers (.legSet o p tm late) s (s.consume q 0x10 p) []) ∧
    (s.legOf k = none ∨ s.eoAccepts k 0x11 p = false → Answers (.outSet o p tm late) s (s.consume q 0x11 p) []) ∧
    (s.legOf k = some l → s.eoAccepts k 0x10 p = true → tLATCHED ≤ s.tst l → Answers (.legSet o p tm late) s
      ((s.consume q 0x10 p).inc rEDG_CNT_SUPPRESSED) []) ∧
    (s.legOf k = some l → s.eoAccepts k 0x11 p = true → tLATCHED ≤ s.tst l → Answers (.outSet o p tm late) s
      ((s.consume q 0x11 p).inc rEDG_CNT_SUPPRESSED) []) ∧
    (s.legOf k = some l → s.eoAccepts k 0x10 p = true → s.tst l = tCUT → Completes (.legSet o p tm late) s (fun t =>
      t.target l = legPattern (s.legType l) (p.b 0) ∧ t.pat l = s.pat l ∧ t.tst l = tCUT ∧ (t.leg l).reqAt = at_ ∧
      RegsKept [rEDG_LEG_STATUS l] s t ∧ t.flt = s.flt ∧ rest t)) ∧
    (s.legOf k = some l → s.legType l = 1 → s.eoAccepts k 0x10 p = true → s.tst l = tNORMAL → fits → s.pat l = 1 → p.b 0 = 2 →
      s.fld (fEDG_LEG_DTA_DT_DN l) ≠ 0 → Completes (.legSet o p tm late) s (fun t => t.target l = 2 ∧ t.pat l = 0 ∧ t.tst l = tNORMAL ∧
        (t.leg l).reqAt = at_ ∧ (t.out b).offAt = at_ ∧ t.lastEdge b = at_ % 2 ^ 64 ∧ t.on (fEDG_EO_STATUS_LEVEL b) = false ∧
        t.rdN (rEDG_EO_CNT_EDGES b) = (s.rdN (rEDG_EO_CNT_EDGES b) + 1) % 2 ^ 32 ∧
        RegsKept ([rEDG_LEG_STATUS l, rEDG_EVENTS] ++ out b) s t ∧ rest t)) ∧
    (s.legOf k = some l → s.legType l = 4 → s.eoAccepts k 0x11 p = true → s.tst l = tNORMAL → fits → s.pat l ≤ 1 →
      Completes (.outSet o p tm late) s (fun t => t.target l = p.b 0 ∧
        t.pat l = (if p.b 0 = 0 then 0 else if s.onsAllowed l = true then 1 else s.pat l) ∧
        (t.pat l ≠ s.pat l → t.lastEdge b = at_ % 2 ^ 64 ∧ t.on (fEDG_EO_STATUS_LEVEL b) = (p.b 0 == 1)) ∧ (t.leg l).reqAt = at_ ∧
        RegsKept ([rEDG_LEG_STATUS l, rEDG_EVENTS] ++ out b) s t ∧ rest t)) ∧
    (s.legOf k = some l → s.legType l = 2 ∨ s.legType l = 3 → s.eoAccepts k 0x11 p = true → s.tst l = tNORMAL →
      patAllowed (s.legType l) (withBit (s.target l) (k - b) (p.b 0 == 1)) = false → Completes (.outSet o p tm late) s (fun t =>
        t.rdN rEDG_CNT_FORBIDDEN = min (s.rdN rEDG_CNT_FORBIDDEN + 1) 0xFFFFFFFF ∧ t.on (fEDG_LEG_STATUS_LEG_CONFLICT l) = true ∧
        t.on fEDG_EVENTS_FORBIDDEN = true ∧ t.pat l = s.pat l ∧ t.target l = s.target l ∧ t.edg = s.edg ∧
        RegsKept [rEDG_CNT_FORBIDDEN, rEDG_LEG_STATUS l, rEDG_EVENTS] s t ∧ rest t)) ∧
    (s.legType l = 1 → s.pat l = 0 → s.target l = 2 → s.swOn l 0 = false → fits →
      (s.onsAllowed l = false → Answers (.deadTimeElapsed n false) s s []) ∧
      (s.onsAllowed l = true → Completes (.deadTimeElapsed n false) s (fun t => t.pat l = 2 ∧ t.target l = 2 ∧ t.tst l = tNORMAL ∧
        t.lastEdge (b + 1) = placeEdge (max (s.now / 512 * 512) (max (s.leg l).reqAt
          (max (s.out b).offAt (s.leg l).tripAt + s.fld (fEDG_LEG_DTA_DT_DN l) * nsU))) % 2 ^ 64 ∧
        t.on (fEDG_EO_STATUS_LEVEL (b + 1)) = true ∧ RegsKept ([rEDG_LEG_STATUS l, rEDG_EVENTS] ++ out (b + 1)) s t ∧ rest t))) ∧
    (s.legType l ≠ 2 → Completes (.t3lInnerElapsed n) s (fun t => t.leg l = { s.leg l with innerPend := (t.leg l).innerPend } ∧ t.regs = s.regs ∧
      t = { s with edg := { s.edg with legs := t.edg.legs } })) ∧
    (s.legType l = 2 → s.pat l = 2 → s.target l = 0 → s.swOn l 0 = false → fits → (s.leg l).innerSoft = false →
      Completes (.t3lInnerElapsed n) s (fun t => t.pat l = 0 ∧ t.lastEdge (b + 1) = ((s.out b).offAt + s.t3l) % 2 ^ 64 ∧
        (t.out (b + 1)).offAt = (s.out b).offAt + s.t3l ∧ t.on (fEDG_EO_STATUS_LEVEL (b + 1)) = false ∧ (t.leg l).innerPend = 0 ∧
        RegsKept ([rEDG_LEG_STATUS l, rEDG_EVENTS] ++ out (b + 1)) s t ∧
        t = { s with regs := t.regs, edg := t.edg, gd := t.gd, flt := t.flt }))

/-- R154–R158, R372: trips.

Completion is stated of: tripPinQualified, tripRowActive, periodStart, legRetryWaitEnd, legTripPersist, edgClearLeg. -/
def Obligations.EdgTrips : Prop :=
  ∀ (s : State) (n : Fin 12) (r : Fin 52), s.mute = false →
    let l := n.val
    let w := r.val
    let b := s.legBase l
    let two := s.legType l = 1 ∧ s.pat l < 3 ∧ LegsFit s
    let mine := s.rowSelects w l = true ∧ ∀ m, m < 12 → m ≠ l → s.rowSelects w m = false
    let spent := s.fld fEDG_RETRY_CFG_TRIES ≤ (last60 s.now (s.leg l).clears).length
    let offAt := fun (t : State) => t.pat l = 0 ∧ (t.leg l).tripAt = s.now ∧
      ∀ j, j < 2 → bit (s.pat l) j = true → t.lastEdge (b + j) = s.now ∧ t.on (fEDG_EO_STATUS_LEVEL (b + j)) = false
    let cleared := fun (t : State) => t.tst l = tNORMAL ∧ t.fld (fEDG_LEG_STATUS_HELD l) = 0 ∧ (t.leg l).waiting = false ∧
      (t.leg l).clears = s.now :: last60 s.now (s.leg l).clears ∧ t.pat l = s.pat l ∧ t.target l = s.target l
    (∀ (k : Fin 4) (lv : Bool), (bit (s.rdN rEDG_TRIPPIN_CFG) (8 * k.val) = false → Answers (.tripPinQualified k lv) s s []) ∧
      (bit (s.rdN rEDG_TRIPPIN_CFG) (8 * k.val) = true → Completes (.tripPinQualified k lv) s (fun t =>
        bit (t.rdN rEDG_TRIPPIN_STATUS) k.val = (lv == bit (s.rdN rEDG_TRIPPIN_CFG) (8 * k.val + 1)) ∧
        (∀ j, j < 32 → j ≠ k.val → bit (t.rdN rEDG_TRIPPIN_STATUS) j = bit (s.rdN rEDG_TRIPPIN_STATUS) j) ∧ OnlyRegs [rEDG_TRIPPIN_STATUS] s t))) ∧
    (s.rowCut w = false → s.rowLatch w = false → Answers (.tripRowActive r) s s []) ∧
    ((∀ m, m < 12 → s.rowSelects w m = false) → Answers (.tripRowActive r) s s []) ∧
    (mine → two → s.rowLatch w = true → s.tst l < tLATCHED → ¬ spent → Completes (.tripRowActive r) s (fun t => offAt t ∧ t.tst l = tLATCHED ∧
      t.target l = 0 ∧ (t.leg l).waiting = !s.inBiv ∧ t.on fEDG_EVENTS_LATCHED = true ∧ Raises 0x0505 (0x20 + l) s t ∧
      ∀ m, m < 12 → m ≠ l → t.rd (rEDG_LEG_STATUS m) = s.rd (rEDG_LEG_STATUS m))) ∧
    (mine → two → s.rowLatch w = true → s.tst l < tLATCHED → spent → Completes (.tripRowActive r) s (fun t => offAt t ∧ t.tst l = tRETIRED ∧
      (t.leg l).waiting = false ∧ t.on fEDG_EVENTS_LEG_RETIRED = true ∧ bit (t.fld (fFLT_CELL_LEGS_RETIRED (s.legCell l))) l = true ∧
      bit (t.fld (fSI_CELL_STATUS_DEMAND (s.legCell l))) 5 = true)) ∧
    (mine → two → s.rowLatch w = false → s.rowCut w = true → s.tst l = tNORMAL → Completes (.tripRowActive r) s (fun t => offAt t ∧
      t.tst l = tCUT ∧ t.fld (fEDG_LEG_STATUS_HELD l) = 0 ∧ t.target l = s.target l ∧ t.on fEDG_EVENTS_CUT = true ∧ (t.leg l).periodAt = s.now + s.cbcPeriod l ∧
      ∀ m, m < 12 → m ≠ l → t.rd (rEDG_LEG_STATUS m) = s.rd (rEDG_LEG_STATUS m))) ∧
    (s.periodDue l = none → Answers (.periodStart n) s s []) ∧
    (∀ z : Nat, s.periodDue l = some z → s.tst l = tCUT → s.cutActive l = true → Completes (.periodStart n) s (fun t =>
      (s.fld (fEDG_LEG_STATUS_HELD l) + 1 < s.fld fEDG_CFG_CBC_K → t.tst l = tCUT ∧ t.pat l = s.pat l ∧
        t.fld (fEDG_LEG_STATUS_HELD l) = s.fld (fEDG_LEG_STATUS_HELD l) + 1 ∧ t.flt = s.flt ∧ RegsKept [rEDG_LEG_STATUS l] s t) ∧
      (s.fld fEDG_CFG_CBC_K ≤ s.fld (fEDG_LEG_STATUS_HELD l) + 1 → two → ¬ spent → t.tst l = tLATCHED ∧ offAt t))) ∧
    (∀ z : Nat, s.periodDue l = some z → s.tst l = tCUT → s.cutActive l = false → Completes (.periodStart n) s (fun t => t.tst l = tNORMAL ∧ t.fld (fEDG_LEG_STATUS_HELD l) = 0 ∧
      (t.leg l).conflictHold = false ∧ (t.leg l).reqAt = placeEdge z ∧ (t.leg l).periodAt = z + s.cbcPeriod l ∧ t.target l = s.target l)) ∧
    (∀ z : Nat, s.periodDue l = some z → s.tst l ≠ tCUT → s.pat l = s.target l → Completes (.periodStart n) s (fun t =>
      t.leg l = { s.leg l with conflictHold := false, zeroDue := none, periodAt := z + s.cbcPeriod l } ∧ t.regs = s.regs ∧
      t = { s with edg := { s.edg with legs := t.edg.legs } })) ∧
    (s.tst l ≠ tLATCHED ∨ (s.leg l).waiting = false ∨ s.tripActive l = true → Answers (.legRetryWaitEnd n) s s []) ∧
    (s.tst l = tLATCHED → (s.leg l).waiting = true → s.tripActive l = false → Completes (.legRetryWaitEnd n) s cleared) ∧
    (s.tst l ≠ tLATCHED ∨ s.tripActive l = false → Answers (.legTripPersist n) s s []) ∧
    (s.tst l = tLATCHED → s.tripActive l = true → Completes (.legTripPersist n) s (fun t => t.tst l = tRETIRED ∧
      (two → offAt t) ∧ bit (t.fld (fFLT_CELL_LEGS_RETIRED (s.legCell l))) l = true)) ∧
    (CmdReady s rEDG_CMD →
      (s.tst l = tRETIRED ∨ (s.tst l = tLATCHED ∧ s.tripActive l = true) → Completes (.edgClearLeg n) s (fun t => CmdOnly s t rEDG_CMD (0x100 + l) stREFUSED)) ∧
      (s.tst l = tNORMAL ∨ s.tst l = tCUT → Completes (.edgClearLeg n) s (fun t => CmdOnly s t rEDG_CMD (0x100 + l) stDONE)) ∧
      (s.tst l = tLATCHED → s.tripActive l = false → Completes (.edgClearLeg n) s (fun t => CmdShows t rEDG_CMD (0x100 + l) stDONE ∧ cleared t)))

/-- R151: the interlock of every leg holds under every command of the edge generator. -/
def Obligations.EdgInterlock : Prop :=
  ∀ (s : State) (l : Fin 12) (o : Fin 24) (p : Quad) (tm : Time) (b : Bool) (r : Fin 52) (k : Fin 4) (d : Nat),
    ∀ i ∈ [Instr.legSet o p tm b, .outSet o p tm b, .deadTimeElapsed l b, .t3lInnerElapsed l, .periodStart l, .tripRowActive r, .tripPinQualified k b,
        .legRetryWaitEnd l, .legTripPersist l, .edgClearLeg l, .lineCheckError o, .lineCalibrationDone o d, .delayLineSwap o b],
      Completes i s (fun t => ∀ n, n < 12 → patAllowed (s.legType n) (s.pat n) = true →
        t.legType n = s.legType n ∧ patAllowed (t.legType n) (t.pat n) = true)

/-- R163–R174: the drive.

Completion is stated of: gateCommandArrival, profilePhaseEnd, blankingEnd, desatDetected, softTurnOffEnd, desatFlagArrival, gateOffReport, gateMiss,
isolatedLinkLoss. -/
def Obligations.GdDrive : Prop :=
  ∀ (s : State) (c : Fin 24), s.mute = false →
    let g := c.val
    let q := s.gate g
    let set := fun (x : GateSt) => s.setGate g x
    let up := fun (k : Bool) => { q with isoDown := q.isoDown && !k }
    let arr := fun (l k : Bool) => { up k with isoLevel := l, levelAt := s.now }
    let off := s.restDrive g
    let come := fun (l k : Bool) => (set (up k)).setGate g (arr l k)
    let sense := fun (v : BitVec 16) => s.setB (fGD_STATUS_GATE_ON g) (decide (25 * sgnW 8 (s.fld (fGD_VGMON_VG_ON_TH g)) < v.toInt))
    let left := s.gst g = gARMED ∧ (s.gdTries g).length < s.gdN ∧ s.inBiv = false
    let one := fun (t : State) => ∀ k, k ≠ g → t.gate k = s.gate k
    (∀ l br k : Bool, q.isoLevel = l ∨ (l = true ∧ br = true) → Answers (.gateCommandArrival c l br k) s (set (up k)) []) ∧
    (∀ k : Bool, q.isoLevel = false → q.drive = .soft → Answers (.gateCommandArrival c true false k) s (come true k) []) ∧
    (∀ k : Bool, q.isoLevel = false → q.drive ≠ .soft → (set (up k)).chanAccepts g = true → Answers (.gateCommandArrival c true false k) s
      ((come true k).setGate g { arr true k with drive := if s.on (fGD_CFG_ON_MODE g) then .on1 else .on3, blanking := true, ons := q.ons + 1 }) []) ∧
    (∀ k : Bool, q.isoLevel = false → q.drive ≠ .soft → (set (up k)).chanAccepts g = false →
      Answers (.gateCommandArrival c true false k) s ((come true k).setGate g { arr true k with drive := off, blanking := false }) []) ∧
    (∀ br k : Bool, q.isoLevel = true → Answers (.gateCommandArrival c false br k) s (if q.drive.isOn then (come false k).setGate g
      { arr false k with blanking := false, drive := if s.on (fGD_CFG_OFF_MODE g) then .off1 else .strongSink } else come false k) []) ∧
    (∀ (v : BitVec 16) (d : Drive), (q.drive, d) ∈ [(Drive.on1, Drive.on2), (.on2, .on3), (.off1, .off2), (.off2, .strongSink)] →
      Answers (.profilePhaseEnd c v) s ((sense v).setGate g { q with drive := d }) []) ∧
    (∀ v : BitVec 16, q.drive ∉ [Drive.on1, .on2, .off1, .off2] → Answers (.profilePhaseEnd c v) s ((sense v).setGate g q) []) ∧
    (∀ v : BitVec 16, Answers (.blankingEnd c v) s ((sense v).setGate g { q with blanking := false }) []) ∧
    (s.on (fGD_CFG_DESAT_EN g) = false ∨ q.drive.isOn = false ∨ q.blanking = true → Answers (.desatDetected c) s s []) ∧
    (s.on (fGD_CFG_DESAT_EN g) = true → q.drive.isOn = true → q.blanking = false →
      let u := (s.inc (rGD_CNT_DESAT g)).set1 (fGD_EVENTS_DESAT g)
      Answers (.desatDetected c) s (if s.on (fGD_CFG_DESAT_LOCAL g) then
          (u.setGate g { q with flag := 1, desatAt := s.now, drive := .soft, blanking := false }).set1 (fGD_STATUS_SOFT_ACTIVE g)
        else u.setGate g { q with flag := 1, desatAt := s.now, awaitInner := true }) []) ∧
    (q.drive ≠ .soft → Answers (.softTurnOffEnd c) s s []) ∧
    (q.drive = .soft → Answers (.softTurnOffEnd c) s ((set { q with drive := off }).clr (fGD_STATUS_SOFT_ACTIVE g)) []) ∧
    (q.flag = 0 → Answers (.desatFlagArrival c) s s []) ∧
    (q.flag = 1 → left → q.awaitInner = false → LegsFit s → Completes (.desatFlagArrival c) s (fun t => GdLatched s t g 1 0x0601 ∧ (t.gate g).flag = 0 ∧
      (t.gate g).treatOn = true ∧ ∀ n, s.legOf g = some n → s.legType n = 1 → s.pat n < 3 → t.pat n = 0)) ∧
    (q.flag = 2 → s.legOf g = none → Answers (.desatFlagArrival c) s (set { q with flag := 0, treatOn := true }) []) ∧
    (∀ v : BitVec 16, q.treatOn = false ∨ 25 * sgnW 8 (s.fld (fGD_VGMON_VG_OFF_TH g)) ≤ v.toInt → Answers (.gateOffReport c v) s (sense v) []) ∧
    (∀ v : BitVec 16, q.treatOn = true → v.toInt < 25 * sgnW 8 (s.fld (fGD_VGMON_VG_OFF_TH g)) →
      Answers (.gateOffReport c v) s (((sense v).setGate g { q with treatOn := false }).setOut g { s.out g with offAt := s.now }) []) ∧
    (∀ v : BitVec 16, s.on (fGD_CFG_VGMON_EN g) = false ∨ q.supplyOn = false → Answers (.gateMiss c v) s (sense v) []) ∧
    (∀ v : BitVec 16, s.on (fGD_CFG_VGMON_EN g) = true → q.supplyOn = true → left → Completes (.gateMiss c v) s (fun t => GdLatched s t g 2 0x0602 ∧
      t.on (fGD_STATUS_GATE_ON g) = decide (25 * sgnW 8 (s.fld (fGD_VGMON_VG_ON_TH g)) < v.toInt) ∧
      (t.gate g).flag = 2 ∧ t.rdN (rGD_CNT_GATEMISS g) = min (s.rdN (rGD_CNT_GATEMISS g) + 1) 0xFFFFFFFF ∧
      (q.drive.isOn = true → (t.gate g).drive = .soft) ∧ t.on (fGD_EVENTS_GATE_MISS g) = true ∧
      RegsKept ([rGD_STATUS g, rGD_CNT_GATEMISS g, rGD_CNT_LATCH g, rGD_EVENTS g] ++ chopRegs) s t)) ∧
    Completes (.isolatedLinkLoss c) s (fun t => (t.gate g).isoLevel = false ∧ (t.gate g).levelAt = s.now ∧ (t.gate g).isoDown = true ∧ one t ∧
      (t.gate g).drive = (if q.drive.isOn = true ∨ q.drive = .soft then .soft else off) ∧ RegsKept [rGD_STATUS g] s t ∧ t.gst g = s.gst g ∧
      t = { s with regs := t.regs, gd := t.gd })

/-- R160–R162, R174–R180, R183: states.

Completion is stated of: supplyReady, supplyFault, supplyOverload, primaryLinkFault, gdRetryWaitEnd, gdClear, gdClearChannel, gdRunDiagnostics,
interlockOpen, interlockClosedSettled, diagnosticsComplete, fswWindow. -/
def Obligations.GdStates : Prop :=
  ∀ (s : State) (c : Fin 24), s.mute = false →
    let g := c.val
    let q := s.gate g
    let left := s.gst g = gARMED ∧ (s.gdTries g).length < s.gdN ∧ s.inBiv = false
    let seen := fun (ok : Bool) => { q with linkBad := q.linkBad && !ok, isoDown := q.isoDown && !ok }
    let link := fun (ok : Bool) (u : State) => if ok then u.setGate g { q with linkBad := false, isoDown := false } else u
    let sup := s.supplyState false && !s.isoFailed g
    let rests := fun (t : State) => (t.gate g).inRun = true ∧ (t.gate g).supplyOn = sup ∧ t.rdN (rGD_DIAG_PEER g) = 0 ∧
      (t.gate g).drive = (if q.drive = .soft then .soft else if sup then .hiZ else .pullDown)
    let run := fun (t : State) => t.gst g = gDIAG ∧ rests t ∧ (t.gate g).waiting = false ∧ (t.gate g).tries = s.now :: s.gdTries g ∧
      ∀ k, k ≠ g → t.gate k = s.gate k
    (∀ vp vn : BitVec 16, q.supplyOn = false → Answers (.supplyReady c vp vn) s s [] ∧ Answers (.supplyFault c vp vn) s s []) ∧
    (∀ vp vn : BitVec 16, q.supplyOn = true → s.railsOk g vp.toInt vn.toInt = true → Completes (.supplyReady c vp vn) s (fun t =>
      t.on (fGD_STATUS_SUPPLY_READY g) = true ∧ t.gate g = { q with supplyBad := false } ∧ t.rdN (rGD_SUPPLY g) = vp.toNat * 65536 + vn.toNat ∧
      t.gst g = s.gst g ∧ RegsKept [rGD_STATUS g, rGD_SUPPLY g] s t ∧ t = { s with regs := t.regs, gd := t.gd })) ∧
    (∀ vp vn : BitVec 16, q.supplyOn = true → s.on (fGD_STATUS_SUPPLY_READY g) = true → s.railsOk g vp.toInt vn.toInt = false → left →
      Completes (.supplyFault c vp vn) s (fun t => GdLatched s t g 3 0x0603 ∧ t.on (fGD_STATUS_SUPPLY_READY g) = false ∧ (t.gate g).supplyBad = true ∧
        t.rdN (rGD_SUPPLY g) = vp.toNat * 65536 + vn.toNat ∧ t.on (fGD_EVENTS_SUPPLY g) = true)) ∧
    (∀ mw : BitVec 16, q.supplyOn = true → mw.toNat ≤ 3000 → Answers (.supplyOverload c mw) s (s.setF (fGD_POWER_MW g) mw.toNat) []) ∧
    (∀ mw : BitVec 16, q.supplyOn = true → 3000 < mw.toNat → left → Completes (.supplyOverload c mw) s (fun t => GdLatched s t g 4 0x0604 ∧
      t.fld (fGD_POWER_MW g) = mw.toNat ∧ t.on (fGD_EVENTS_OVERLOAD g) = true)) ∧
    (s.gst g ≠ gARMED → Answers (.primaryLinkFault c) s ((s.set1 (fGD_EVENTS_LINK g)).setGate g { q with linkBad := true }) []) ∧
    (left → Completes (.primaryLinkFault c) s (fun t => GdLatched s t g 5 0x0605 ∧ (t.gate g).linkBad = true ∧ t.on (fGD_EVENTS_LINK g) = true)) ∧
    (∀ ok : Bool, q.waiting = false → Answers (.gdRetryWaitEnd c ok) s s []) ∧
    (∀ ok : Bool, q.waiting = true → s.gst g = gLATCHED → (q.supplyBad || (q.linkBad && !ok) || s.loopOpen g) = true →
      Answers (.gdRetryWaitEnd c ok) s (link ok s) []) ∧
    (∀ ok : Bool, q.waiting = true → s.gst g = gLATCHED → (q.supplyBad || (q.linkBad && !ok) || s.loopOpen g) = false → Completes (.gdRetryWaitEnd c ok) s run) ∧
    (∀ ok : Bool, q.waiting = true → s.gst g = gUNPLUGGED → s.loopOpen g = false → Completes (.gdRetryWaitEnd c ok) s run) ∧
    (∀ (p : Quad) (ok : Bool), let u := s.consume (0x6C0 + 16 * g) 0x10 p;
      (p.from 0 ≠ 0 → Answers (.gdClear c p ok) s u []) ∧
      (p.from 0 = 0 → s.gst g = gLATCHED → s.inBiv = false → (q.supplyBad || (q.linkBad && !ok) || s.loopOpen g) = false → Completes (.gdClear c p ok) s run) ∧
      (p.from 0 = 0 → s.gst g ≠ gLATCHED → Answers (.gdClear c p ok) s (link ok u) [])) ∧
    (∀ ok : Bool, CmdReady s rGD_CMD →
      (s.gst g = gFENCED ∨ s.gst g = gRETIRED ∨ (s.gst g = gLATCHED ∧ (q.supplyBad || (q.linkBad && !ok) || s.loopOpen g) = true) →
        Completes (.gdClearChannel c ok) s (fun t => CmdShows t rGD_CMD (0x100 + g) stREFUSED ∧ t.gate g = seen ok ∧ t.gst g = s.gst g)) ∧
      (s.gst g = gLATCHED → (q.supplyBad || (q.linkBad && !ok) || s.loopOpen g) = false → Completes (.gdClearChannel c ok) s (fun t =>
        CmdShows t rGD_CMD (0x100 + g) stDONE ∧ run t))) ∧
    (CmdReady s rGD_CMD →
      (s.ps ≠ psREADY ∨ (s.gst g ≠ gARMED ∧ s.gst g ≠ gUNOWNED) → Completes (.gdRunDiagnostics c) s (fun t => CmdOnly s t rGD_CMD (0x200 + g) stREFUSED)) ∧
      (s.ps = psREADY → s.gst g = gARMED ∨ s.gst g = gUNOWNED → Completes (.gdRunDiagnostics c) s (fun t => CmdShows t rGD_CMD (0x200 + g) stBUSY ∧
        t.gst g = (if s.gst g = gARMED then gDIAG else gUNOWNED) ∧ (t.gate g).diagRun = true ∧ rests t))) ∧
    (∀ j : Fin 6, g / 4 = j.val →
      (LegsFit s → Completes (.interlockOpen j) s (fun t => t.loopOpen g = true ∧ t.rdN rGD_CNT_UNPLUG = min (s.rdN rGD_CNT_UNPLUG + 1) 0xFFFFFFFF ∧
        (s.gst g ∈ [gDIAG, gARMED, gLATCHED] → t.gst g = gUNPLUGGED ∧ t.fld (fGD_STATUS_CAUSE g) = 8 ∧ (t.gate g).drive.isOn = false ∧
          (t.gate g).plugHold = true ∧ (t.gate g).inRun = false ∧ Raises 0x0608 g s t) ∧
        (s.gst g ∉ [gDIAG, gARMED, gLATCHED] → t.gst g = s.gst g) ∧ ∀ k, k < 24 → k / 4 ≠ j.val → t.loopOpen k = s.loopOpen k ∧ t.gst k = s.gst k)) ∧
      Completes (.interlockClosedSettled j) s (fun t => t.loopOpen g = false ∧ (t.gate g) = (if s.gst g = gUNPLUGGED then { q with waiting := true } else q) ∧
        RegsKept [rGD_HARNESS] s t ∧ t = { s with regs := t.regs, gd := t.gd })) ∧
    (∀ (v1 v2 : BitVec 12) (w : BitVec 24), q.inRun = false → q.diagRun = false → Answers (.diagnosticsComplete c v1 v2 w) s s []) ∧
    (∀ (v1 v2 : BitVec 12), s.gst g = gDIAG → q.inRun = true → LegsFit s → Completes (.diagnosticsComplete c v1 v2 0) s (fun t =>
      let v := diagVerdict v1.toInt v2.toInt (s.vnegNom g) (s.rdN (rGD_DIAG_PEER g) != 0)
      t.fld (fGD_DIAG_RESULT_VERDICT g) = v ∧ t.fld (fGD_DIAG_RESULT_V1 g) = v1.toNat ∧ t.fld (fGD_DIAG_RESULT_V2 g) = v2.toNat ∧
      t.rd (rGD_DIAG_PEER g) = s.rd (rGD_DIAG_PEER g) ∧ (t.gate g).inRun = false ∧
      (v = 7 → t.gst g = gARMED ∧ (t.gate g).plugHold = false ∧ (t.gate g).owed = 0 ∧ ∀ n, s.legOf g = some n → t.target n = 0) ∧
      (v ≠ 7 → (s.gdTries g).length < s.gdN → t.gst g = gLATCHED ∧ t.fld (fGD_STATUS_CAUSE g) = (if v = 6 then 7 else 6) ∧
        (t.gate g).waiting = true ∧ Raises (if v = 6 then 0x0607 else 0x0606) g s t) ∧
      (v ≠ 7 → s.gdN ≤ (s.gdTries g).length → t.gst g = gRETIRED ∧ Raises 0x0609 g s t))) ∧
    Completes (.fswWindow c) s (fun t => t.gate g = { q with ons := 0 } ∧ t.fld (fGD_POWER_FREQ g) = min (q.ons * 10) 65535 ∧ t.fld (fGD_POWER_MW g) = s.fld (fGD_POWER_MW g) ∧
      (∀ k, k ≠ g → t.gate k = s.gate k) ∧ (s.running = false ∨ 100 * q.ons ≤ 11 * s.fld (fGD_ENVELOPE_FSW_MAX g) ∨ s.freshSec 0x060A g = false →
        RegsKept [rGD_POWER g] s t ∧ t.flt = s.flt) ∧
      (s.running = true → 11 * s.fld (fGD_ENVELOPE_FSW_MAX g) < 100 * q.ons → s.freshSec 0x060A g = true → t.on (fGD_EVENTS_FSW g) = true ∧
        Raised [(0x060A, g)] s t) ∧ RegsKept [rGD_POWER g, rGD_EVENTS g] s t ∧ t = { s with regs := t.regs, flt := t.flt, gd := t.gd })

/-- R163, R175: no channel drives on outside ARMED. -/
def Obligations.GdOnlyArmedDrives : Prop :=
  ∀ (s : State) (c : Fin 24) (b b' l' : Bool) (p : Quad) (v1 v2 : BitVec 16) (d1 d2 : BitVec 12) (w : BitVec 24) (j : Fin 6),
    (∀ g, g < 24 → (s.gate g).drive.isOn = true → s.gst g = gARMED) →
    ∀ i ∈ [Instr.supplyReady c v1 v2, .supplyFault c v1 v2, .supplyOverload c v1, .gateCommandArrival c b b' l', .profilePhaseEnd c v1, .blankingEnd c v1,
        .desatDetected c, .softTurnOffEnd c, .desatFlagArrival c, .gateOffReport c v1, .gateMiss c v1, .isolatedLinkLoss c, .primaryLinkFault c,
        .gdRetryWaitEnd c b, .gdClear c p b, .gdClearChannel c b, .gdRunDiagnostics c, .gdClearCounters, .interlockOpen j, .interlockClosedSettled j,
        .diagnosticsComplete c d1 d2 w, .fswWindow c],
      Completes i s (fun t => ∀ g, g < 24 → (t.gate g).drive.isOn = true → t.gst g = gARMED)

/-- R187, R193, R195, R198, R211–R214: records.

Completion is stated of: regulatorTick, setCurrent, bndSetMode, bndSwapBank, bndEnable, setAngle, bndSetLimit, setTmag, edgeRecordIssue. -/
def Obligations.BndRecords : Prop :=
  ∀ (s : State) (c : Fin 4) (p : Quad), s.mute = false →
    let i := c.val
    let q := 0x840 + 16 * i
    let x := s.bndC i
    let st := s.bst i
    let take := fun (k op : Nat) => s.consume (q + k) op p
    let due := fun (k op : Nat) => x.recs.map (fun r => (r.q, r.op, r.p)) = [(k, op, p)]
    let fit := s.vdcStands i = false ∧ s.angStands i = false ∧ x.npOut = false
    (∀ m ∈ [(Instr.setCurrent c p, 0, 0x10), (.bndSetMode c p, 0, 0x11), (.bndSwapBank c p, 0, 0x12), (.bndEnable c p, 0, 0x13), (.setAngle c p, 1, 0x10),
        (.bndSetLimit c p, 2, 0x10), (.setTmag c p, 2, 0x11)],
      (st = bOFF ∨ bndAccepts m.2.1 m.2.2 p = false → Answers m.1 s (take m.2.1 m.2.2) []) ∧
      (st ≠ bOFF → bndAccepts m.2.1 m.2.2 p = true →
        let t0 := s.instantOf (s.launchOf (q + m.2.1) m.2.2 p)
        let e := s.bEstDq i (min s.now (max t0 (s.fastFrom i)))
        Answers m.1 s ((take m.2.1 m.2.2).setBnd i { x with recs := x.recs ++ [⟨m.2.1, m.2.2, p, t0, e.1, e.2⟩] }) [])) ∧
    (st ≠ bOFF → due 0 0x10 → Completes (.regulatorTick c) s (fun t => (t.bndC i).recs = [] ∧ (t.bndC i).form = p.b 0 ∧ (t.bndC i).ia = sgn16 (p.h 1) ∧
      (t.bndC i).ib = sgn16 (p.h 3) ∧ (∀ k, k ≠ i → t.bndC k = s.bndC k) ∧
      ∀ r ∈ x.recs, let d := vsub ((s.setBnd i { x with form := p.b 0, ia := sgn16 (p.h 1), ib := sgn16 (p.h 3) }).bRefV i) (r.id, r.iq)
        let step := (s.fld (fBND_LR_CFG_LR_STEP i) : Rat)
        (vsq d < step * step → t.rd (rBND_CNT_STEPS i) = s.rd (rBND_CNT_STEPS i)) ∧
        (step * step ≤ vsq d → vsq d ≠ 0 → t.rdN (rBND_CNT_STEPS i) = min (s.rdN (rBND_CNT_STEPS i) + 1) 0xFFFFFFFF))) ∧
    (st ≠ bOFF → due 0 0x11 → bndAccepts 0 0x11 p = true → Completes (.regulatorTick c) s (fun t => t.bmode i = p.b 0 ∧ (t.bndC i).recs = [] ∧
      (∀ k, k < 4 → k ≠ i → t.bst k = s.bst k) ∧
      (fit → p.b 0 = 1 → st ∈ [bCARRIER, bBAND, bOVERRIDE, bRESYNC] → t.bst i = bBAND) ∧ (fit → p.b 0 = 0 → st = bBAND → t.bst i = bRESYNC) ∧
      (st = bIDLE ∨ st = bHALTED → t.bst i = st))) ∧
    (st ≠ bOFF → due 0 0x12 → bndAccepts 0 0x12 p = true → Completes (.regulatorTick c) s (fun t => t.fld (fBND_STATUS_BANK i) = p.b 0 ∧
      (t.bndC i).recs = [] ∧ ∀ k, k ≠ i → t.bndC k = s.bndC k)) ∧
    (due 0 0x13 → p.b 0 = 1 →
      (st = bIDLE → x.waitZero = false → s.bmode i = 1 → fit → Completes (.regulatorTick c) s (fun t => t.bst i = bBAND ∧ (t.bndC i).wait = false ∧
        (t.bndC i).recs = [] ∧ t.hq = s.hq)) ∧
      (st = bIDLE → s.bmode i ≠ 1 → Completes (.regulatorTick c) s (fun t => t.bst i = bIDLE ∧ (t.bndC i).waitZero = true ∧
        (t.bndC i).recs = [])) ∧
      (st = bHALTED → Completes (.regulatorTick c) s (fun t => t.bst i = bHALTED ∧ (t.bndC i).recs = []))) ∧
    (due 0 0x13 → p.b 0 = 0 →
      (s.bRun i = true → Completes (.regulatorTick c) s (fun t => t.bst i = bIDLE ∧ (t.bndC i).edges = [] ∧ (t.bndC i).code = 0 ∧ (t.bndC i).lr = none ∧
        (t.hq.fabric.drop s.hq.fabric.length).take (s.bLegs i).length =
          (s.bLegs i).map (fun n => Rec.sealed { s.unitRec (0x540 + 16 * s.legBase n) 0x10 0 with time := BitVec.ofNat 40 s.nextTick }))) ∧
      (st = bIDLE → Completes (.regulatorTick c) s (fun t => t.bst i = bIDLE ∧ (t.bndC i).waitZero = false ∧ (x.lr = none → t.hq = s.hq))) ∧
      (st = bHALTED → s.bCause i = true → Completes (.regulatorTick c) s (fun t => t.bst i = bHALTED ∧
        t.fld (fBND_STATUS_CAUSE i) = s.fld (fBND_STATUS_CAUSE i))) ∧
      (st = bHALTED → s.bCause i = false → Completes (.regulatorTick c) s (fun t => t.bst i = bIDLE ∧ t.fld (fBND_STATUS_CAUSE i) = 0))) ∧
    (st ≠ bOFF → due 1 0x10 → Completes (.regulatorTick c) s (fun t => (t.bndC i).recs = [] ∧
      (t.bndC i).angle = some (p.from 0 % 2 ^ 40, p.h 5, sgn16 (p.h 7)) ∧ (t.bndC i).angLost = false)) ∧
    (st ≠ bOFF → due 2 0x10 → Completes (.regulatorTick c) s (fun t => (t.bndC i).recs = [] ∧ (t.bndC i).limit = some (p.h 0) ∧
      t.rdN (rBND_ILIM_RT i) / 65536 = p.h 0)) ∧
    (st ≠ bOFF → due 2 0x11 → Completes (.regulatorTick c) s (fun t => (t.bndC i).recs = [] ∧ t.rdN (rBND_TMAG_RT i) = p.h 0 ∧
      t.on (fBND_STATUS_TMAG_STALE i) = false ∧ (t.bndC i).tmagSet = true)) ∧
    (x.edges = [] → Answers (.edgeRecordIssue c) s s []) ∧
    (∀ e, earliestEdge x.edges = some e → Completes (.edgeRecordIssue c) s (fun t => (t.bndC i).edges = dropEdge e x.edges ∧
      (∀ k, k ≠ i → t.bndC k = s.bndC k) ∧ t = { s with bnd := t.bnd, hq := t.hq } ∧
      (s.goal i e.leg = some e.level → t.hq = s.hq) ∧
      (∀ n, (s.bLegs i)[e.leg]? = some n → s.goal i e.leg ≠ some e.level →
        t.hq = { s.hq with fabric := s.hq.fabric ++ [Rec.sealed { s.unitRec (0x540 + 16 * s.legBase n) 0x10 (levelCode (topo3L (s.topo i)) e.level) with time := BitVec.ofNat 40 e.at_ }] } ∧
        (t.bndC i).level.at 0 e.leg = e.level + 1 ∧ e ∈ (t.bndC i).sent)))

/-- R128, R187–R193, R202–R204, R210, R211, R216: events.

Completion is stated of: hallImpossibleTimeout, carrierInstant, angleTimeout, vdcTimeout, carrierLoss, npLimitTimeout, bandAdapt,
fieldWeakeningUpdate, tmagTimeout, residualWindow, lrStepTimeout, bndCheckError. -/
def Obligations.BndEvents : Prop :=
  ∀ (s : State) (c : Fin 4), s.mute = false →
    let i := c.val
    let x := s.bndC i
    let st := s.bst i
    let halted := fun (cause code : Nat) (t : State) => t.bst i = bHALTED ∧ t.fld (fBND_STATUS_CAUSE i) = cause ∧ t.on (fBND_EVENTS_HALTED i) = true ∧
      (t.bndC i).edges = [] ∧ (t.bndC i).lr = none ∧ bit (t.fld (fSI_CELL_STATUS_DEMAND i)) 5 = true ∧ Raises code i s t ∧
      ∀ k, k < 4 → k ≠ i → t.bst k = s.bst k ∧ t.bndC k = s.bndC k
    let calm := x.recs = [] ∧ s.vdcStands i = false ∧ s.angStands i = false ∧ s.npStands i = false
    (st = bOFF → (∀ m ∈ [Instr.angleTimeout c, .vdcTimeout c, .carrierLoss c, .npLimitTimeout c, .regulatorTick c, .tmagTimeout c, .bandAdapt c,
      .fieldWeakeningUpdate c, .residualWindow c], Answers m s s [])) ∧
    (s.bRun i = true → (s.fld (fBND_SRC_ANG_SRC i) ≠ 1 → Completes (.angleTimeout c) s (halted 2 0x0706)) ∧
      Completes (.vdcTimeout c) s (halted 1 0x0705) ∧ (st = bCARRIER ∨ st = bRESYNC → Completes (.carrierLoss c) s (halted 3 0x0708)) ∧
      (s.fld (fBND_LIMITS_NP_LIM i) < (s.bDnp i).natAbs → Completes (.npLimitTimeout c) s (halted 4 0x070A))) ∧
    (s.fld (fBND_SRC_ANG_SRC i) = 1 → Answers (.angleTimeout c) s s []) ∧
    (st = bIDLE ∨ st = bHALTED → (s.fld (fBND_SRC_ANG_SRC i) ≠ 1 → Answers (.angleTimeout c) s (s.setBnd i { x with angLost := true }) []) ∧
      Answers (.vdcTimeout c) s (s.setBnd i { x with vdcLost := some (s.held (s.fld (fBND_SRC_VDC_SRC i))) }) [] ∧
      (s.fld (fBND_LIMITS_NP_LIM i) < (s.bDnp i).natAbs →
        Answers (.npLimitTimeout c) s (s.setBnd i { x with npOut := true }) [(0x070A, i)])) ∧
    ((s.bDnp i).natAbs ≤ s.fld (fBND_LIMITS_NP_LIM i) → Answers (.npLimitTimeout c) s s []) ∧
    (∀ h : Fin 6, (s.hSt h.val ≠ hIMPOSSIBLE → Answers (.hallImpossibleTimeout h) s s []) ∧
      (s.hSt h.val = hIMPOSSIBLE → Completes (.hallImpossibleTimeout h) s (fun t => t.hSt h.val = hFAILED ∧ t.on (fPOS_EVENTS_FAILED h.val) = true ∧
        t.on (fFLT_CELL_HALL_FAILED (s.hallCell h.val)) = true ∧ Raises 0x0402 h.val s t ∧
        (s.fld (fBND_SRC_ANG_SRC i) = 1 → s.fld (fBND_SRC_HALL i) = h.val → s.bRun i = true → t.bst i = bHALTED ∧ t.fld (fBND_STATUS_CAUSE i) = 2) ∧
        (s.fld (fBND_SRC_ANG_SRC i) ≠ 1 ∨ s.fld (fBND_SRC_HALL i) ≠ h.val → t.bst i = st)))) ∧
    (∀ (k : Fin 8) (peak : Bool), (s.carrierDue k.val peak = false → Answers (.carrierInstant k peak) s s []) ∧
      (s.carrierDue k.val peak = true → Completes (.carrierInstant k peak) s (fun t =>
        (peak = true → t.carZero k.val = s.carZero k.val ∧ t.edg.carPeak.at false k.val = false) ∧
        (peak = false → s.edg.carPend.at none k.val = none → t.carZero k.val = (s.carZero k.val + 4 * s.carP k.val) % 2 ^ 64 ∧
          t.edg.carPeak.at false k.val = s.triangular k.val) ∧
        (∀ l, l < 12 → (t.leg l).zeroDue = (if peak = false ∧ s.on (fEDG_LEG_CFG_CAR_EN l) = true ∧ s.fld (fEDG_LEG_CFG_CAR l) = k.val then
          some (s.carZero k.val) else (s.leg l).zeroDue)) ∧
        (s.bCar i = some k.val → peak = false → st = bRESYNC ∨ (st = bIDLE ∧ x.waitZero = true) → t.bst i = bCARRIER ∧ (t.bndC i).waitZero = (st == bRESYNC && x.waitZero)) ∧
        (s.bCar i ≠ some k.val ∨ peak = true ∨ st ∈ [bOFF, bCARRIER, bBAND, bOVERRIDE, bHALTED] → t.bst i = st)))) ∧
    (st = bCARRIER → s.bmode i = 2 → calm → x.lr = none → (s.fld (fBND_BANDS_H_OVR i) : Rat) * (s.fld (fBND_BANDS_H_OVR i) : Rat) < vsq (s.bandIn i).e →
      Completes (.regulatorTick c) s (fun t => t.bst i = bOVERRIDE ∧ t.rdN (rBND_CNT_OVR i) = min (s.rdN (rBND_CNT_OVR i) + 1) 0xFFFFFFFF ∧
        t.on (fBND_EVENTS_OVERRIDE i) = true ∧ (t.bndC i).ovrAt = s.now ∧ (t.bndC i).edges = [])) ∧
    (st = bCARRIER → s.bmode i ≠ 2 → calm → Completes (.regulatorTick c) s (fun t => t.bst i = bCARRIER ∧ t.rd (rBND_CNT_OVR i) = s.rd (rBND_CNT_OVR i))) ∧
    (st = bOVERRIDE → calm → x.lr = none → vsq (s.bandIn i).e ≤ (s.fld (fBND_BANDS_H_CAR i) : Rat) * (s.fld (fBND_BANDS_H_CAR i) : Rat) →
      x.ovrAt + s.fld (fBND_TIMING_T_MINP i) * 2560 ≤ s.now → Completes (.regulatorTick c) s (fun t => t.bst i = bRESYNC ∧ t.hq = s.hq)) ∧
    (s.bRun i = true → x.recs = [] → (s.vdcStands i = true → Completes (.regulatorTick c) s (halted 1 0x0705)) ∧
      (s.vdcStands i = false → s.angStands i = true → Completes (.regulatorTick c) s (halted 2 0x0706)) ∧
      (s.vdcStands i = false → s.angStands i = false → s.npStands i = true → Completes (.regulatorTick c) s (halted 4 0x070A))) ∧
    (st ≠ bOFF → s.bSwitches i ≠ 0 → Completes (.bandAdapt c) s (fun t => t.bndC i = { x with onsBase := s.bOns i } ∧ RegsKept [rBND_HBAND i] s t ∧
      t = { s with regs := t.regs, bnd := t.bnd } ∧
      (x.onsBase ≤ s.bOns i → t.rdN (rBND_HBAND i) / 65536 =
        min (roundR ((((s.bOns i - x.onsBase) * 100 : Nat) : Rat) / (s.bSwitches i : Rat))).toNat 65535) ∧
      (s.on (fBND_CFG_ADAPT_EN i) = false → t.rdN (rBND_HBAND i) % 65536 = s.fld (fBND_ADAPT_H_MIN i)) ∧
      (s.on (fBND_CFG_ADAPT_EN i) = true → s.bTripped i = true → t.rdN (rBND_HBAND i) % 65536 = s.rdN (rBND_HBAND i) % 65536) ∧
      (s.on (fBND_CFG_ADAPT_EN i) = true → s.bTripped i = false → s.fld (fBND_ADAPT_H_MIN i) ≤ s.fld (fBND_ADAPT_H_MAX i) →
        s.fld (fBND_ADAPT_H_MIN i) ≤ t.rdN (rBND_HBAND i) % 65536 ∧ t.rdN (rBND_HBAND i) % 65536 ≤ s.fld (fBND_ADAPT_H_MAX i)))) ∧
    (s.bRun i = false ∨ st = bCARRIER ∨ s.bVdc i = 0 → Answers (.fieldWeakeningUpdate c) s s []) ∧
    (s.bRun i = true → st ≠ bCARRIER → s.bVdc i ≠ 0 → Completes (.fieldWeakeningUpdate c) s (fun t =>
      (s.on (fBND_CFG_FW_EN i) = false → t.regs = s.regs) ∧
      (s.on (fBND_CFG_FW_EN i) = true → s.fldI (fBND_FW_ID_FW_MIN i) ≤ s.idMtpa i → t.fldI ⟨rBND_FW_DID i, 15, 0⟩ ≤ 0) ∧
      t.bst i = st ∧ OnlyRegs [rBND_FW_DID i, rBND_STATUS i] s t)) ∧
    (st ≠ bOFF → Answers (.tmagTimeout c) s ((s.set1 (fBND_STATUS_TMAG_STALE i)).set1 (fBND_EVENTS_TMAG_STALE i)) [(0x0707, i)]) ∧
    (x.resN = 0 → Answers (.residualWindow c) s s []) ∧
    (st ≠ bOFF → x.resN ≠ 0 → Completes (.residualWindow c) s (fun t => t.bndC i = { x with resSum := 0, resN := 0 } ∧
      let r := min (roundR (sqrtQ ((x.resSum : Rat) / (x.resN : Rat)))).toNat 65535
      t.rdN (rBND_PRED_RES i) = r ∧ (r ≤ s.fld (fBND_MISC_RES_LIM i) * 128 → RegsKept [rBND_PRED_RES i] s t ∧ t.flt = s.flt) ∧
      (s.fld (fBND_MISC_RES_LIM i) * 128 < r → t.on (fBND_EVENTS_RESIDUAL i) = true ∧ RegsKept [rBND_PRED_RES i, rBND_EVENTS i] s t) ∧
      t = { s with regs := t.regs, bnd := t.bnd, flt := t.flt })) ∧
    (x.lr = none → Answers (.lrStepTimeout c) s s []) ∧
    (∀ l, x.lr = some l → Completes (.lrStepTimeout c) s (fun t => (t.bndC i).lr = none ∧ t.fld (fBND_LR_STATUS_CODE i) = 6 ∧
      t.fld (fBND_LR_STATUS_STEP i) = s.rdN (rBND_CNT_STEPS i) % 1024 ∧ t.on (fBND_EVENTS_LR_TIMEOUT i) = true ∧ Raised [(0x0703, i)] s t ∧
      t.free = s.free + 1 ∧ RegsKept [rBND_LR_STATUS i, rBND_LR_TMIN i, rBND_LR_TRISE i, rBND_EVENTS i] s t ∧
      t = { s with regs := t.regs, bnd := t.bnd, hq := t.hq, flt := t.flt, free := t.free })) ∧
    (s.isProtected i = false → Answers (.bndCheckError c) s (s.setF (fSI_CELL_STATUS_DEMAND i) (Nat.lor (s.fld (fSI_CELL_STATUS_DEMAND i)) 32)) []) ∧
    (s.isProtected i = true → LegsFit s → Completes (.bndCheckError c) s (fun t => t.fld (fLE_PAR_STATUS_PSTATE i) = 6 ∧
      ∀ n, n < 12 → s.legCell n = i → s.legType n = 1 → s.pat n < 3 → t.pat n = 0))

/-- R220–R222, R227, R228, R236: the start commands.

Completion is stated of: stStart, stStop, stCoast, stReset, checkComplete, startRetryWaitEnd. -/
def Obligations.StartCommands : Prop :=
  ∀ (s : State) (c : Fin 4), s.mute = false →
    let i := c.val
    let x := s.stC i
    let st := s.sst i
    let reg := rBND_ST_CMD i
    let bnd := fun (op payload : Nat) => Rec.sealed (s.unitRec (0x840 + 16 * i) op payload)
    let le := fun (op payload : Nat) => Rec.sealed (s.unitRec (0x880 + 16 * s.leOf i) op payload)
    let sent := fun (t : State) (l : List Rec) => t.hq = { s.hq with fabric := s.hq.fabric ++ l }
    let rest := fun (t : State) => t = { s with regs := t.regs, st := t.st, hq := t.hq, flt := t.flt } ∧ ∀ k, k ≠ i → t.stC k = s.stC k
    let idle := { x with since := s.now, retry := false, ask := 0, brakeWait := false, rampOn := false }
    let ang := fun (u : State) => Rec.sealed (s.unitRec (0x841 + 16 * i) 0x10 (s.short + thetaCode (u.ramp i).1 % 65536 * 2 ^ 40 + q15 (u.omegaCode i (u.ramp i).2) * 2 ^ 56))
    let down := if x.rampOn then [ang (s.rampAim i 0)] else []
    (CmdReady s reg →
      (st ≠ sSTOPPED → Completes (.stStart c) s (fun t => CmdOnly s t reg 1 stREFUSED)) ∧
      (st = sSTOPPED → s.linkBusy i = true → Completes (.stStart c) s (fun t => CmdShows t reg 1 stREFUSED ∧ t.sst i = sSTOPPED ∧
        t.fld (fBND_ST_STATUS_CAUSE i) = 3 ∧ t.on (fBND_ST_EVENTS_REFUSED i) = true ∧ Raised [(0x0710, i)] s t ∧ t.stC i = { x with since := s.now } ∧ t.hq = s.hq ∧
        RegsKept [reg, rBND_ST_STATUS i, rBND_ST_EVENTS i] s t ∧ rest t)) ∧
      (st = sSTOPPED → s.linkBusy i = false → Completes (.stStart c) s (fun t => CmdShows t reg 1 stDONE ∧ t.sst i = sCHECK ∧
        t.fld (fBND_ST_STATUS_CAUSE i) = 0 ∧ t.fld (fBND_ST_STATUS_TRIES i) = 0 ∧ t.stC i = { x with since := s.now, retry := false, judged := false, keLost := false } ∧
        t.hq = s.hq ∧ t.flt = s.flt ∧ RegsKept [reg, rBND_ST_STATUS i] s t ∧ rest t)) ∧
      (st = sSTOPPED → Completes (.stStop c) s (fun t => CmdOnly s t reg 2 stDONE)) ∧
      (st = sCHECK ∨ st = sSENSE ∨ st = sALIGN → Completes (.stStop c) s (fun t => CmdShows t reg 2 stDONE ∧ t.sst i = sSTOPPED ∧
        t.fld (fBND_ST_STATUS_CAUSE i) = 0 ∧ sent t [bnd 0x13 0] ∧ t.stC i = idle ∧ t.flt = s.flt ∧ RegsKept [reg, rBND_ST_STATUS i] s t ∧ rest t)) ∧
      (st ∈ [sRUNNING, sCATCH, sRAMP, sHANDOVER, sPROOF] → Completes (.stStop c) s (fun t => CmdShows t reg 2 stDONE ∧ t.sst i = sSTOPPING ∧
        sent t (down ++ [le 0x10 0]) ∧ t.flt = s.flt ∧ RegsKept [reg, rBND_ST_STATUS i] s t ∧ rest t)) ∧
      (st = sPASS → Completes (.stStop c) s (fun t => t.sst i = sSTOPPING ∧ sent t (down ++ [le 0x10 0, le 0x18 0]))) ∧
      (st ∈ [sOFF, sSTOPPING, sFAILED, sLOCKED] → Completes (.stStop c) s (fun t => CmdOnly s t reg 2 stREFUSED)) ∧
      (st = sOFF ∨ st = sLOCKED → Completes (.stCoast c) s (fun t => CmdOnly s t reg 3 stREFUSED)) ∧
      (st ≠ sOFF → st ≠ sLOCKED → Completes (.stCoast c) s (fun t => CmdShows t reg 3 stDONE ∧ t.sst i = sSTOPPED ∧
        t.fld (fBND_ST_STATUS_CAUSE i) = 0 ∧ sent t [bnd 0x13 0] ∧ t.stC i = idle ∧
        (s.on (fBND_ST_CFG_BRK_EN i) = false → RegsKept [reg, rBND_ST_STATUS i] s t ∧ t.flt = s.flt) ∧
        (s.on (fBND_ST_CFG_BRK_EN i) = true → s.fld (fSI_CELL_CFG_BRK_OUT i) ≠ 0 → t.on (fSI_CELL_STATUS_BRAKE_APPLIED i) = true ∧
          ∀ n, n < 8 → s.isBrake i n = true → t.on (fAUX_STATUS_CUT_OPEN n) = true ∧ (t.ast n = aOFF ∨ t.ast n = s.ast n)))) ∧
      (st = sFAILED → Completes (.stReset c) s (fun t => CmdShows t reg 5 stDONE ∧ t.sst i = sSTOPPED ∧ t.fld (fBND_ST_STATUS_TRIES i) = 0 ∧
        t.fld (fBND_ST_STATUS_CAUSE i) = s.fld (fBND_ST_STATUS_CAUSE i) ∧ t.stC i = { x with since := s.now } ∧
        RegsKept [reg, rBND_ST_STATUS i] s t ∧ t.hq = s.hq ∧ t.flt = s.flt ∧ rest t)) ∧
      (st = sSTOPPED → Completes (.stReset c) s (fun t => CmdOnly s t reg 5 stDONE)) ∧
      (st ≠ sFAILED → st ≠ sSTOPPED → Completes (.stReset c) s (fun t => CmdOnly s t reg 5 stREFUSED))) ∧
    (st ≠ sCHECK → Answers (.checkComplete c) s s []) ∧
    (st = sCHECK → s.checkCause i ≠ 0 → Completes (.checkComplete c) s (fun t => t.sst i = sSTOPPED ∧ t.fld (fBND_ST_STATUS_CAUSE i) = s.checkCause i ∧
      t.on (fBND_ST_EVENTS_REFUSED i) = true ∧ Raised [(0x0710, i)] s t ∧ (s.rdN reg % 65536 = 1 → CmdShows t reg 1 stREFUSED) ∧
      (s.rdN reg % 65536 ≠ 1 → t.rd reg = s.rd reg) ∧ t.hq = s.hq ∧ RegsKept [reg, rBND_ST_STATUS i, rBND_ST_EVENTS i] s t ∧ rest t)) ∧
    (st = sCHECK → s.checkCause i = 0 → s.on (fBND_ST_CFG_FLY_EN i) = true → Answers (.checkComplete c) s (s.setSst i sSENSE) []) ∧
    (st = sCHECK → s.checkCause i = 0 → s.on (fBND_ST_CFG_FLY_EN i) = false →
      (s.method i = 0 → Completes (.checkComplete c) s (fun t => t.sst i = sALIGN ∧ sent t [bnd 0x13 1,
          Rec.sealed (s.unitRec (0x841 + 16 * i) 0x10 s.short), bnd 0x10 (1 + q15 ((s.setSst i sALIGN).alignId i) * 2 ^ 8)] ∧
        RegsKept [rBND_ST_STATUS i] s t ∧ rest t)) ∧
      (s.method i = 2 → s.on (fBND_ST_CFG_BRK_EN i) = false → Completes (.checkComplete c) s (fun t => t.sst i = sRUNNING ∧ t.hq = s.hq ∧
        t.rdN (rBND_ST_CNT_STARTS i) = min (s.rdN (rBND_ST_CNT_STARTS i) + 1) 0xFFFFFFFF ∧ RegsKept [rBND_ST_STATUS i, rBND_ST_CNT_STARTS i] s t ∧ rest t)) ∧
      (s.method i ≠ 0 → s.on (fBND_ST_CFG_BRK_EN i) = true → Completes (.checkComplete c) s (fun t => t.sst i = sPROOF ∧ (t.stC i).ask = 0 ∧
        RegsKept [rBND_ST_STATUS i] s t ∧ rest t))) ∧
    (let k := s.fld (fBND_ST_STATUS_CAUSE i);
      (st ≠ sSTOPPED ∨ x.retry = false ∨ (k ≠ 5 ∧ k ≠ 6) → Answers (.startRetryWaitEnd c) s s []) ∧
      (st = sSTOPPED → x.retry = true → k = 5 ∨ k = 6 → Completes (.startRetryWaitEnd c) s (fun t => t.sst i = sCHECK ∧ (t.stC i).retry = false ∧
        t.fld (fBND_ST_STATUS_TRIES i) = s.fld (fBND_ST_STATUS_TRIES i) ∧ RegsKept [rBND_ST_STATUS i] s t ∧ rest t)))

/-- R223–R231: the sequence.

Completion is stated of: senseWindowEnd, catchSyncEnd, catchTimeout, alignTimeEnd, rampReached, handoverConfirmed, handoverTimeout, passEntry,
proofPassed, proofTimeout, brakeReleaseWaitEnd, standstillReached, brakeApplyWaitEnd, keTrackingWindow, keVerdict. -/
def Obligations.StartSequence : Prop :=
  ∀ (s : State) (c : Fin 4), s.mute = false →
    let i := c.val
    let x := s.stC i
    let st := s.sst i
    let rest := fun (t : State) => t = { s with regs := t.regs, st := t.st, hq := t.hq, flt := t.flt, free := t.free } ∧ ∀ k, k ≠ i → t.stC k = s.stC k
    let failed := fun (cause : Nat) (t : State) => t.fld (fBND_ST_STATUS_CAUSE i) = cause ∧
      t.rdN (rBND_ST_CNT_FAIL i) = min (s.rdN (rBND_ST_CNT_FAIL i) + 1) 0xFFFFFFFF ∧ t.on (fBND_ST_EVENTS_TRY_FAIL i) = true ∧
      t.fld (fBND_ST_STATUS_TRIES i) = min (s.fld (fBND_ST_STATUS_TRIES i) + 1) 15 ∧
      t.hq = { s.hq with fabric := s.hq.fabric ++ [Rec.sealed (s.unitRec (0x840 + 16 * i) 0x13 0)] } ∧
      (if s.fld (fBND_ST_STATUS_TRIES i) + 1 < s.fld (fBND_ST_CFG_ST_TRIES i) then t.sst i = sSTOPPED ∧ (t.stC i).retry = true ∧ Raised [(0x0711, i)] s t
        else t.sst i = sFAILED ∧ (t.stC i).retry = false ∧ Raised [(0x0711, i), (0x0712, i)] s t) ∧
      RegsKept [rBND_ST_STATUS i, rBND_ST_CNT_FAIL i, rBND_ST_EVENTS i] s t ∧ rest t
    let started := fun (t : State) => t.sst i = sRUNNING ∧ t.rdN (rBND_ST_CNT_STARTS i) = min (s.rdN (rBND_ST_CNT_STARTS i) + 1) 0xFFFFFFFF ∧
      (t.stC i).ask = 0 ∧ RegsKept [rBND_ST_STATUS i, rBND_ST_CNT_STARTS i] s t ∧ rest t ∧ t.flt = s.flt
    let goes := fun (y : Nat) (t : State) => t.sst i = y ∧ RegsKept [rBND_ST_STATUS i] s t ∧ rest t ∧ t.flt = s.flt ∧ s.hq.fabric.length < t.hq.fabric.length
    (∀ conv : List (Quad × Quad), (st ≠ sSENSE → Answers (.senseWindowEnd c conv) s s []) ∧
      (let l := s.flyVectors conv;
        let amp := (l.map (fun v => sqrtQ (vsq v.2))).foldl (· + ·) 0 / (l.length : Rat);
        let span : Rat := (((l.getLastD (0, (0, 0))).1 - (l.map (·.1)).headD 0 : Nat) : Rat) * 25 / 1000000;
        let w := if span = 0 then 0 else turns l / span;
        (st = sSENSE → 2 * l.length < s.fld (fBND_ST_FLY_FLY_WIN i) * 40 → Completes (.senseWindowEnd c conv) s (failed 6)) ∧
        (st = sSENSE → s.fld (fBND_ST_FLY_FLY_WIN i) * 40 ≤ 2 * l.length → Completes (.senseWindowEnd c conv) s (fun t =>
          t.sst i = (if (s.fld (fBND_ST_FLY_FLY_VMIN i) : Rat) ≤ amp then sCATCH else sALIGN) ∧
          t.rdN (rBND_ST_FLYRES i) = q15 (s.omegaCode i w) * 65536 + (min (roundR amp) 32767).toNat ∧
          (t.stC i).rampOn = (x.rampOn || decide ((s.fld (fBND_ST_FLY_FLY_VMIN i) : Rat) ≤ amp)) ∧
          RegsKept [rBND_ST_STATUS i, rBND_ST_FLYRES i] s t ∧ rest t ∧ t.flt = s.flt)))) ∧
    (∀ obs : List (Time × BitVec 16 × BitVec 16), let l := obs.filter (fun o => decide (o.1.toNat ≤ s.now ∧ s.now ≤ o.1.toNat + msU));
      let ok := st = sCATCH ∧ x.since + s.fld (fBND_ST_FLY_FLY_SYNC i) * msU ≤ s.now ∧ l ≠ [] ∧ l.all (fun o => s.catchAgrees i o) = true;
      (¬ ok → Answers (.catchSyncEnd c obs) s s []) ∧ (ok → Completes (.catchSyncEnd c obs) s started)) ∧
    (st = sCATCH → Completes (.catchTimeout c) s (failed 6)) ∧
    (st ≠ sCATCH → Answers (.catchTimeout c) s s []) ∧ (st ≠ sALIGN → Answers (.alignTimeEnd c) s s []) ∧
    (st ≠ sHANDOVER → Answers (.handoverTimeout c) s s []) ∧
    (st = sALIGN → Completes (.alignTimeEnd c) s (fun t => goes sRAMP t ∧ t.stC i = { x with
      since := s.now, sentAt := s.now, rampOn := true, rampTh := 0,
      rampW := 0, rampTo := (s.dirOf i : Int) * s.wHandR i, rampAt := s.now })) ∧
    ((st ≠ sRAMP ∧ st ≠ sPASS) ∨ (s.ramp i).2 ≠ x.rampTo → Answers (.rampReached c) s s []) ∧
    (st = sRAMP ∨ st = sPASS → (s.ramp i).2 = x.rampTo → Completes (.rampReached c) s (fun t => goes sHANDOVER t ∧ (t.stC i).since = s.now)) ∧
    (∀ obs : List (BitVec 16 × BitVec 16),
      let ok := st = sHANDOVER ∧ x.since + s.fld (fBND_ST_HAND_T_HAND i) * msU ≤ s.now ∧ obs ≠ [] ∧
        obs.all (fun o => near10 (s.obsSpeed i o.2) (s.ramp i).2) = true;
      (¬ ok → Answers (.handoverConfirmed c obs) s s []) ∧
      (ok → Completes (.handoverConfirmed c obs) s (fun t => started t ∧ (t.stC i).rampOn = false ∧ t.free = s.free + 1))) ∧
    (st = sHANDOVER → Completes (.handoverTimeout c) s (failed 5)) ∧
    (∀ th w : BitVec 16, let held := fun (t : State) (aim : Rat) => (t.stC i).rampOn = true ∧ (t.stC i).rampTh = State.obsAngle th ∧
        (t.stC i).rampW = s.obsSpeed i w ∧ (t.stC i).rampTo = aim ∧ (t.stC i).rampAt = s.now;
      (s.method i ≠ 0 ∨ s.wHand i < w.toInt.natAbs ∨ (st ≠ sRUNNING ∧ st ≠ sSTOPPING) → Answers (.passEntry c th w) s s []) ∧
      (s.method i = 0 → (w.toInt.natAbs : Int) ≤ s.wHand i → st = sRUNNING → (s.leE (s.leOf i)).vTgt * w.toInt < 0 →
        Completes (.passEntry c th w) s (fun t => goes sPASS t ∧ held t ((s.dirOf i : Int) * s.wHandR i))) ∧
      (s.method i = 0 → st = sSTOPPING → x.rampOn = true → Answers (.passEntry c th w) s s []) ∧
      (s.method i = 0 → (w.toInt.natAbs : Int) ≤ s.wHand i → st = sSTOPPING → x.rampOn = false → Completes (.passEntry c th w) s (fun t =>
        goes sSTOPPING t ∧ held t 0))) ∧
    (st ≠ sPROOF ∨ x.ask ≠ 0 → Answers (.proofPassed c) s s [] ∧ Answers (.proofTimeout c) s s []) ∧
    (x.since + 100 * msU < s.now ∨ s.proofIq i = false → Answers (.proofPassed c) s s []) ∧
    (st = sPROOF → x.ask = 0 → (s.now ≤ x.since + 100 * msU → s.proofIq i = true →
        Completes (.proofPassed c) s (fun t => t.stC i = { x with ask := 1 } ∧ t.regs = s.regs ∧ rest t)) ∧
      Completes (.proofTimeout c) s (fun t => t.sst i = sSTOPPED ∧ t.fld (fBND_ST_STATUS_CAUSE i) = 7 ∧ t.on (fBND_ST_EVENTS_PROOF_FAIL i) = true ∧
        Raised [(0x0719, i)] s t)) ∧
    (st ≠ sPROOF ∨ x.ask < 2 → Answers (.brakeReleaseWaitEnd c) s s []) ∧
    (st = sPROOF → x.ask = 2 → s.brakesHeld i = true → Completes (.brakeReleaseWaitEnd c) s started) ∧
    (st = sPROOF → x.ask = 3 → Completes (.brakeReleaseWaitEnd c) s (fun t => t.sst i = sSTOPPED ∧ t.fld (fBND_ST_STATUS_CAUSE i) = 8 ∧
      t.on (fBND_ST_EVENTS_PROOF_FAIL i) = true ∧ Raised [(0x0719, i)] s t)) ∧
    (st ≠ sSTOPPING → Answers (.brakeApplyWaitEnd c) s s []) ∧ (st ≠ sSTOPPING ∨ s.atRest i = false → Answers (.standstillReached c) s s []) ∧
    (st = sSTOPPING → s.atRest i = true → s.on (fBND_ST_CFG_BRK_EN i) = false → Completes (.standstillReached c) s (fun t => goes sSTOPPED t ∧ t.fld (fBND_ST_STATUS_CAUSE i) = 0)) ∧
    (st = sSTOPPING → s.atRest i = true → s.on (fBND_ST_CFG_BRK_EN i) = true → Completes (.standstillReached c) s (fun t => t.sst i = sSTOPPING ∧ (t.stC i).brakeWait = true ∧
      (s.fld (fSI_CELL_CFG_BRK_OUT i) ≠ 0 → t.on (fSI_CELL_STATUS_BRAKE_APPLIED i) = true))) ∧
    (st = sSTOPPING → x.brakeWait = true → Completes (.brakeApplyWaitEnd c) s (fun t => goes sSTOPPED t ∧ (t.stC i).brakeWait = false)) ∧
    (∀ ests : List (BitVec 16), (s.keValid i = false ∨ ests = [] → Answers (.keTrackingWindow c ests) s s []) ∧
      (s.keValid i = true → ests ≠ [] → Completes (.keTrackingWindow c ests) s (fun t =>
        let r := s.keRatio i ests
        let w := if r < s.fld (fBND_ST_KE_KE_WARN i) * 16 then min (x.warnRun + 1) 11 else 0
        let g := if r < s.fld (fBND_ST_KE_KE_DEMAG i) * 16 then min (x.demagRun + 1) 11 else 0
        t.rdN (rBND_KE_EST i) = r * 65536 + (ests.getLastD 0).toNat ∧ t.stC i = { x with warnRun := w, demagRun := g } ∧
        (w = 10 → t.on (fBND_ST_STATUS_KE_WARN i) = true) ∧ (g = 10 → t.on (fBND_ST_STATUS_DEMAG i) = true ∧ t.on (fBND_ST_EVENTS_DEMAG i) = true) ∧
        Raised ((if w = 10 then [(0x0715, i)] else []) ++ (if g = 10 then [(0x0716, i)] else [])) s t ∧ t.sst i = sRUNNING ∧
        RegsKept [rBND_KE_EST i, rBND_ST_STATUS i, rBND_ST_EVENTS i] s t ∧ rest t))) ∧
    (s.keValid i = false ∨ x.judged = true → Answers (.keVerdict c) s s []) ∧
    (s.keValid i = true → x.judged = false → Completes (.keVerdict c) s (fun t => (t.stC i).judged = true ∧ rest t ∧
      (if s.fld (fBND_ST_KE_KE_WRONG i) * 16 < (((s.rdN (rBND_KE_EST i) / 65536 : Nat) : Int) - 4096).natAbs then t.sst i = sLOCKED ∧
        t.fld (fBND_ST_STATUS_CAUSE i) = 10 ∧ Raised [(0x0717, i)] s t ∧ bit (t.fld (fSI_CELL_STATUS_DEMAND i)) 5 = true ∧
        RegsKept [rBND_ST_STATUS i, rBND_ST_EVENTS i, rSI_CELL_STATUS i] s t
      else t.regs = s.regs ∧ t.flt = s.flt)))

/-- R232–R236: the DC link.

Completion is stated of: dclPrecharge, dclOpen, dclDischarge, dclReset, mainConfirmed, prechargeT1Check, prechargeSettled, prechargeTimeout,
mainTimeout, dischargeDone, dischargeTimeout. -/
def Obligations.DcLink : Prop :=
  ∀ s : State, s.mute = false →
    let d := s.dst
    let reg := rBND_DCL_CMD
    let pre := s.fld fBND_DCL_CFG_PRE_AUX
    let main := s.fld fBND_DCL_CFG_MAIN_AUX
    let quiet := fun (n : Nat) => n < 12 ∧ (s.amode n = 2 → s.holdSum n ≤ s.fld (fHSF_CFG_FEED_LIM (n / 2)))
    let fault := fun (k : Nat) (u : State) => ((u.setBit rBND_DCL_EVENTS k).setF fBND_DCL_STATUS_CAUSE (k + 1))
    let refused := fun (i : Instr) (v : Nat) => Completes i s (fun t => CmdOnly s t reg v stREFUSED)
    (CmdReady s reg →
      (d = 1 → s.preTempOk = true → quiet pre → Answers .dclPrecharge s ((((s.setDst 2).auxOn pre).inc rBND_DCL_CNT_PRE).cmdSet reg 1 stDONE) []) ∧
      (d = 1 → s.preTempOk = false → Answers .dclPrecharge s ((fault 0 s).cmdSet reg 1 stREFUSED) [(0x0720, 255)]) ∧
      (d = 4 → Completes .dclPrecharge s (fun t => CmdOnly s t reg 1 stDONE)) ∧ (d ≠ 1 → d ≠ 4 → refused .dclPrecharge 1) ∧
      (d = 4 → s.linkIdle = true → Answers .dclOpen s (((s.setDst 1).auxOff main).cmdSet reg 2 stDONE) []) ∧
      (d ≠ 4 ∨ s.linkIdle = false → refused .dclOpen 2) ∧
      (d = 1 → s.linkLow = true → Completes .dclDischarge s (fun t => CmdOnly s t reg 3 stDONE)) ∧
      (d = 1 → s.linkLow = false → s.ps = psRUN → s.linkIdle = true → s.chopAvail = true → Answers .dclDischarge s ((s.setDst 5).cmdSet reg 3 stDONE) []) ∧
      (d ≠ 1 ∨ (s.linkLow = false ∧ (s.ps ≠ psRUN ∨ s.linkIdle = false ∨ s.chopAvail = false)) → refused .dclDischarge 3) ∧
      (d = 6 → Answers .dclReset s ((s.setDst 1).cmdSet reg 5 stDONE) []) ∧ (d ≠ 6 → refused .dclReset 5) ∧
      (d = 3 → Answers .mainConfirmed s (((s.setDst 4).auxOff pre).cmdSet reg 0x10 stDONE) []) ∧ (d ≠ 3 → refused .mainConfirmed 0x10)) ∧
    (d ≠ 2 ∨ (s.fld fBND_DCL_PRE2_PRE_V1 : Rat) ≤ s.dclVdc → Answers .prechargeT1Check s s []) ∧
    (d = 2 → s.dclVdc < (s.fld fBND_DCL_PRE2_PRE_V1 : Rat) → Answers .prechargeT1Check s (fault 2 ((s.setDst 6).auxOff pre)) [(0x0722, 255)]) ∧
    (d ≠ 2 ∨ (s.fld fBND_DCL_PRE_PRE_DV : Rat) ≤ s.dclVsrc - s.dclVdc → Answers .prechargeSettled s s []) ∧
    (d = 2 → s.dclVsrc - s.dclVdc < (s.fld fBND_DCL_PRE_PRE_DV : Rat) → quiet main → Answers .prechargeSettled s ((s.setDst 3).auxOn main) []) ∧
    (d ≠ 2 → Answers .prechargeTimeout s s []) ∧
    (d = 2 → Answers .prechargeTimeout s (fault 1 ((s.setDst 6).auxOff pre)) [(0x0721, 255)]) ∧
    (d ≠ 3 → Answers .mainTimeout s s []) ∧
    (d = 3 → Answers .mainTimeout s (fault 3 (((s.setDst 6).auxOff pre).auxOff main)) [(0x0723, 255)]) ∧
    (d ≠ 5 ∨ s.linkLow = false → Answers .dischargeDone s s []) ∧
    (d = 5 → s.linkLow = true → Answers .dischargeDone s (s.setDst 1) []) ∧
    (d ≠ 5 → Answers .dischargeTimeout s s []) ∧
    (d = 5 → Answers .dischargeTimeout s (fault 6 (s.setDst 6)) [(0x0726, 255)])

/-- R399–R409: auxiliary outputs.

Completion is stated of: auxSet, auxRequestOn, auxRequestOff, auxClearOutput, pullinStart, peakEnd, holdOkReached, holdRegulationLost,
auxOvercurrent, feedOvercurrent, auxRetryWaitEnd, auxDiagComplete. -/
def Obligations.AuxOutputs : Prop :=
  ∀ (s : State) (o : Fin 12) (r : Fin 8), s.mute = false →
    let n := o.val
    let m := r.val
    let st := s.ast n
    let x := s.auxO n
    let mode := s.amode n
    let exceeds := s.fld (fHSF_CFG_FEED_LIM (n / 2)) < s.holdSum n
    let regs := [rAUX_STATUS n, rAUX_CNT_ON n, rAUX_CNT_REFUSED, rAUX_EVENTS n, rHSF_STATUS (n / 2)]
    let one := fun (t : State) => (∀ k, k ≠ n → t.auxO k = s.auxO k) ∧ t = { s with regs := t.regs, aux := t.aux, flt := t.flt, hq := t.hq }
    let turned := fun (t : State) => one t ∧
      (mode = 1 → t.ast n = aON ∧ t.rdN (rAUX_CNT_ON n) = min (s.rdN (rAUX_CNT_ON n) + 1) 0xFFFFFFFF ∧ Raised [] s t) ∧
      (mode = 2 → ¬ exceeds → t.ast n = aPENDING ∧ t.auxO n = { x with reqAt := s.busPeriod } ∧ t.on (fAUX_STATUS_REQ n) = true ∧ Raised [] s t) ∧
      (mode = 2 → exceeds → t.ast n = aREFUSED ∧ t.rdN rAUX_CNT_REFUSED = min (s.rdN rAUX_CNT_REFUSED + 1) 0xFFFFFFFF ∧ Raised [(0x0D06, n)] s t)
    let spent := s.auxN ≤ (s.auxTries n).length ∧ s.inBiv = false
    let out := fun (cause code k : Nat) (t : State) => t.fld (fAUX_STATUS_CAUSE n) = cause ∧ Raises code n s t ∧
      (spent → t.ast n = aRETIRED ∧ (t.auxO n).waiting = false ∧ Raises 0x0D07 n s t) ∧
      (¬ spent → t.ast n = aLATCHED ∧ (t.auxO n).waiting = !s.inBiv ∧ (t.auxO n).owed = code) ∧ bit (t.rdN (rAUX_EVENTS n)) k = true
    let diag := fun (t : State) => t.ast n = aDIAG ∧ (t.auxO n).waiting = false ∧ (t.auxO n).tries = s.now :: (last60 s.now x.tries).take 14 ∧ one t ∧ t.flt = s.flt
    (∀ p : Quad, p.b 0 = 1 → st ≠ aOFF ∨ mode = 0 → Answers (.auxSet o p) s (s.consume (0x9F0 + 16 * n) 0x10 p) []) ∧
    (∀ p : Quad, p.b 0 = 1 → st = aOFF → Completes (.auxSet o p) s (fun t => turned t ∧ RegsKept regs s t)) ∧
    (∀ p : Quad, p.b 0 ≠ 1 → (aPENDING ≤ st ∧ st ≤ aREFUSED → Completes (.auxSet o p) s (fun t => t.ast n = aOFF ∧ t.on (fAUX_STATUS_REQ n) = false ∧
        t.on (fAUX_STATUS_HOLD_OK n) = false ∧ t.aux = s.aux ∧ t.flt = s.flt ∧ one t ∧ RegsKept regs s t)) ∧
      (st = aOFF ∨ aREFUSED < st → Answers (.auxSet o p) s (s.consume (0x9F0 + 16 * n) 0x10 p) [])) ∧
    (CmdReady s rAUX_CMD →
      (mode = 0 ∨ st ≠ aOFF → Completes (.auxRequestOn o) s (fun t => CmdOnly s t rAUX_CMD (0x100 + n) stREFUSED)) ∧
      (mode ≠ 0 → st = aOFF → Completes (.auxRequestOn o) s (fun t => CmdShows t rAUX_CMD (0x100 + n) stDONE ∧ turned t ∧ RegsKept (rAUX_CMD :: regs) s t)) ∧
      (mode = 0 → Completes (.auxRequestOff o) s (fun t => CmdOnly s t rAUX_CMD (0x200 + n) stREFUSED)) ∧
      (mode ≠ 0 → Completes (.auxRequestOff o) s (fun t => CmdShows t rAUX_CMD (0x200 + n) stDONE ∧
        t.ast n = (if aPENDING ≤ st ∧ st ≤ aREFUSED then aOFF else st) ∧ t.aux = s.aux ∧ t.flt = s.flt ∧ RegsKept (rAUX_CMD :: regs) s t)) ∧
      (st = aRETIRED → Completes (.auxClearOutput o) s (fun t => CmdOnly s t rAUX_CMD (0x300 + n) stREFUSED)) ∧
      (st ≠ aRETIRED → st ≠ aLATCHED → Completes (.auxClearOutput o) s (fun t => CmdOnly s t rAUX_CMD (0x300 + n) stDONE)) ∧
      (st = aLATCHED → Completes (.auxClearOutput o) s (fun t => CmdShows t rAUX_CMD (0x300 + n) stDONE ∧ diag t))) ∧
    (s.mayPull m = false → Answers (.pullinStart r) s s []) ∧
    (s.mayPull m = true → Completes (.pullinStart r) s (fun t => t.ast m = aPULLIN ∧ t.rdN (rAUX_CNT_ON m) = min (s.rdN (rAUX_CNT_ON m) + 1) 0xFFFFFFFF ∧
      t.auxO m = { s.auxO m with pulled := true, pullAt := s.now } ∧ RegsKept [rAUX_STATUS m, rAUX_CNT_ON m, rHSF_STATUS (m / 2)] s t)) ∧
    (s.ast m ≠ aPULLIN → Answers (.peakEnd r) s s []) ∧
    (s.ast m = aPULLIN → Completes (.peakEnd r) s (fun t => t.ast m = aHOLD ∧ t.on (fAUX_STATUS_REQ m) = true ∧ OnlyRegs [rAUX_STATUS m, rHSF_STATUS (m / 2)] s t)) ∧
    (∀ mA : BitVec 16, Answers (.holdOkReached r mA) s (if s.ast m = aHOLD then (s.wrN (rAUX_CURRENT m) mA.toNat).set1 (fAUX_STATUS_HOLD_OK m)
        else s.wrN (rAUX_CURRENT m) mA.toNat) [] ∧
      (s.ast m ≠ aHOLD → Answers (.holdRegulationLost r mA) s (s.wrN (rAUX_CURRENT m) mA.toNat) []) ∧
      (m = n → s.ast m = aHOLD → Completes (.holdRegulationLost r mA) s (fun t => out 2 0x0D03 2 t ∧ t.rdN (rAUX_CURRENT m) = mA.toNat)) ∧
      (st ∉ [aON, aPULLIN, aHOLD] → Answers (.auxOvercurrent o mA) s (s.wrN (rAUX_CURRENT n) mA.toNat) []) ∧
      (st ∈ [aON, aPULLIN, aHOLD] → Completes (.auxOvercurrent o mA) s (fun t => out 1 0x0D01 0 t ∧ t.rdN (rAUX_CURRENT n) = mA.toNat))) ∧
    (∀ (h : Fin 4) (mA : BitVec 16), (s.fld ⟨rHSF_STATUS h.val, 31, 28⟩ ≠ 1 → Answers (.feedOvercurrent h mA) s (s.setF ⟨rHSF_STATUS h.val, 15, 0⟩ mA.toNat) []) ∧
      (s.fld ⟨rHSF_STATUS h.val, 31, 28⟩ = 1 → Completes (.feedOvercurrent h mA) s (fun t => Raises 0x0D02 (16 + h.val) s t ∧
        t.fld ⟨rHSF_STATUS h.val, 15, 0⟩ = mA.toNat ∧ (n / 2 = h.val → n < 8 → mode ≠ 0 → st ≠ aRETIRED → t.fld (fAUX_STATUS_CAUSE n) = 3 ∧
          t.ast n = (if spent ∧ st ∈ [aON, aPULLIN, aHOLD] then aRETIRED else aLATCHED)) ∧
        (n / 2 = h.val → n < 8 → (mode = 0 ∧ st = aOFF) ∨ st = aRETIRED → t.ast n = st)))) ∧
    (st ≠ aLATCHED ∨ x.waiting = false → Answers (.auxRetryWaitEnd o) s s []) ∧
    (st = aLATCHED → x.waiting = true → Completes (.auxRetryWaitEnd o) s (fun t => diag t ∧ RegsKept [rAUX_STATUS n, rHSF_STATUS (n / 2)] s t)) ∧
    (∀ v1 v2 w : BitVec 12, st ≠ aDIAG → Answers (.auxDiagComplete o v1 v2 w) s s []) ∧
    (∀ v1 v2 : BitVec 12, st = aDIAG → let v := auxVerdict (n < 8) v1.toNat v2.toNat (s.fld fPWR_AUX24_V) false;
      Completes (.auxDiagComplete o v1 v2 0) s (fun t => t.rdN (rAUX_DIAG_RESULT n) = v1.toNat * 2 ^ 20 + v2.toNat * 2 ^ 8 + v ∧ t.rdN (rAUX_DIAG_PEER n) = 0 ∧
        (v = 5 → t.ast n = aOFF ∧ (t.auxO n).owed = 0) ∧
        (v ≠ 5 → Raises 0x0D04 n s t ∧ t.fld (fAUX_STATUS_CAUSE n) = 4 ∧ (s.auxN ≤ (s.auxTries n).length → t.ast n = aRETIRED) ∧
          ((s.auxTries n).length < s.auxN → t.ast n = aLATCHED ∧ (t.auxO n).waiting = true ∧ (t.auxO n).owed = 0x0D04))))

/-- R238–R262, R271, R272, R286: records of a loop engine.

Completion is stated of: setSpeed, setPosition, setTorque, leSwapBank, swapTable, leSetMode, leEnable, leSync, leHold, feedback, leSetLimit,
gainWrite, tabWrite, torqueShare, clipReport. -/
def Obligations.LeRecords : Prop :=
  ∀ (s : State) (n : Fin 5) (p : Quad) (l : Time), s.mute = false →
    let i := n.val
    let x := s.leE i
    let c := s.leCell i
    let take := fun (k op : Nat) => s.consume (0x880 + 16 * i + k) op p
    let on := s.est i = eIDLE ∨ s.est i = eRUNNING
    let set := fun (u : State) (y : LeEng) => u.modLe i (fun _ => y)
    (∀ m ∈ [(Instr.leSwapBank n p, 0, 0x13), (.swapTable n p, 0, 0x14), (.leSetMode n p, 0, 0x15), (.leEnable n p, 0, 0x16), (.leSync n p l, 0, 0x17),
        (.leHold n p, 0, 0x18), (.feedback n p, 1, 0x10), (.torqueShare n p, 4, 0x10), (.clipReport n p, 5, 0x10)],
      ¬ on → Answers m.1 s (take m.2.1 m.2.2) []) ∧
    (s.role c ≠ 1 ∨ s.on (fLE_CFG_LEAD i) = false → Answers (.setSpeed n p) s (set (take 0 0x10) { x with vTgt := sgn16 (p.h 0) }) []) ∧
    (s.role c = 1 → s.on (fLE_CFG_LEAD i) = true → Completes (.setSpeed n p) s (fun t => (t.leE i).vTgt = sgn16 (p.h 0) ∧
      t.hq.fabric.length = s.hq.fabric.length + ((List.range 8).filter (fun j => s.memActive c j && !(s.memBurgee c j == s.own && s.memCell c j == c))).length ∧
      (∀ r ∈ t.hq.fabric.drop s.hq.fabric.length, r.opcode = 0x10 ∧ r.payload = p) ∧ t.regs = s.regs ∧ t = { s with le := t.le, hq := t.hq })) ∧
    Answers (.setPosition n p) s ((set (take 0 0x11) { x with pTgt := sgnW 32 (p.w 0) }).clr (fLE_STATUS_ARRIVED i)) [] ∧
    Answers (.setTorque n p) s (set (take 0 0x12) { x with trq := sgn16 (p.h 0) }) [] ∧
    (on → Answers (.leSwapBank n p) s (set (take 0 0x13) { x with swap := p.b 0 % 2 + 1 }) [] ∧
      Answers (.swapTable n p) s (set (take 0 0x14) { x with tab := p.b 0 % 2 + 1 }) [] ∧
      Answers (.leSync n p l) s ((set (take 0 0x17) { x with t0 := l.toNat, k := 0 }).leSnap i) [] ∧
      Answers (.leHold n p) s ((take 0 0x18).setB (fLE_STATUS_HOLD i) (p.b 0 == 1)) []) ∧
    (s.est i = eRUNNING → Answers (.leSetMode n p) s (((take 0 0x15).inc (rLE_CNT_REFUSED i)).set1 (fLE_EVENTS_STRUCT_REFUSED i)) [(0x0803, c)]) ∧
    (s.est i = eIDLE → Answers (.leSetMode n p) s (set (take 0 0x15) { x with modeNext := p.b 0 % 4 + 1 }) []) ∧
    (on → p.b 0 ≠ 1 → Answers (.leEnable n p) s ((take 0 0x16).setEst i eIDLE) []) ∧
    (s.est i = eRUNNING → p.b 0 = 1 → Answers (.leEnable n p) s (take 0 0x16) []) ∧
    (s.est i = eIDLE → p.b 0 = 1 → Completes (.leEnable n p) s (fun t => t.est i = eRUNNING ∧ (t.leE i).vTgt = sgn16 (p.h 1) ∧
      (t.leE i).v = (if bit (p.b 5) 0 then (s.leSpeed i).1 else sgn16 (p.h 1)) * 65536 ∧ (t.leE i).a = 0 ∧ (t.leE i).pStar = ((s.lePos i).1 : Rat) ∧
      t.leAcc i 1 = sgn16 (p.h 3) * 65536 ∧ t.leAcc i 0 = 0 ∧ (∀ d ∈ [2, 3, 4, 5, 6], t.leAcc i d = s.dMAX i d * 65536) ∧
      (∀ d, d < 8 → t.leY i d = (if s.dLAW i d = 1 then s.dMIN i d else s.leY i d)) ∧ (∀ k, k ≠ i → t.leE k = s.leE k) ∧
      t = { s with regs := t.regs, le := t.le, hq := t.hq, flt := t.flt })) ∧
    (on → p.b 13 % 4 ≠ 0 → Answers (.feedback n p) s (set (take 1 0x10) { x with fbHeld := true }) []) ∧
    (on → p.b 13 % 4 = 0 → Answers (.feedback n p) s
      (set (take 1 0x10) { x with fbSpd := sgn16 (p.h 5), fbPos := sgnW 32 (p.w 7), fbAux := sgn16 (p.h 11), fbHeld := false }) []) ∧
    Answers (.leSetLimit n p) s (if 2 ≤ p.b 0 ∧ p.b 0 ≤ 6 then (take 2 0x10).setF ⟨rLE_DESC i (8 * p.b 0 + 6), 31, 16⟩ (p.h 1) else take 2 0x10) [] ∧
    (6 < p.b 0 ∨ 1 < p.b 1 ∨ 1 < p.b 2 ∨ 32767 < p.h 3 ∨ 8 < p.b 5 → Answers (.gainWrite n p) s (take 2 0x11) []) ∧
    (p.b 0 ≤ 6 → p.b 1 ≤ 1 → p.b 2 ≤ 1 → p.h 3 ≤ 32767 → p.b 5 ≤ 8 →
      (p.b 2 = s.bankNext i → Answers (.gainWrite n p) s (((take 2 0x11).inc (rLE_CNT_REFUSED i)).set1 (fLE_EVENTS_GAIN_REFUSED i)) [(0x0804, c)]) ∧
      (p.b 2 ≠ s.bankNext i → Answers (.gainWrite n p) s ((take 2 0x11).wrN (rLE_DESC i (8 * p.b 0 + 1 + p.b 1 + 2 * p.b 2)) (p.h 3 * 65536 + p.b 5)) [])) ∧
    (p.b 1 = 0 ∨ 6 < p.b 1 ∨ 4096 < p.h 2 + p.b 1 → Answers (.tabWrite n p) s (take 3 0x10) []) ∧
    (p.b 1 ≠ 0 → p.b 1 ≤ 6 → p.h 2 + p.b 1 ≤ 4096 → Completes (.tabWrite n p) s (fun t =>
      let cog := bit (p.b 0) 0
      let b := bit (p.b 0) 1
      (∀ k, k < p.b 1 → t.tabEntry i cog b (p.h 2 + k) = sgn16 (p.h (4 + 2 * k))) ∧
      (∀ e, e < 4096 → e < p.h 2 ∨ p.h 2 + p.b 1 ≤ e → t.tabEntry i cog b e = s.tabEntry i cog b e) ∧
      Raised (if b = s.on (fLE_STATUS_TAB_BANK i) then [(0x0807, c)] else []) s t ∧
      (b = s.on (fLE_STATUS_TAB_BANK i) → t.on (fLE_EVENTS_TAB_ACTIVE_WRITE i) = true) ∧
      RegsKept (rLE_EVENTS i :: (List.range 2048).map (tabReg i cog b)) s t ∧ t = { s with regs := t.regs, flt := t.flt, hq := t.hq })) ∧
    (on → s.pstate c = 3 → (s.parC c).rejoin = false → Answers (.torqueShare n p) s (take 4 0x10) []) ∧
    (on → s.pstate c ≠ 3 ∨ (s.parC c).rejoin = true → Completes (.torqueShare n p) s (fun t => t.leE i = { x with share := sgn16 (p.h 0), shareN := p.h 2 } ∧
      t.fld (fLE_PAR_STATUS_SAMPLE c) = p.h 2 ∧ t.parC c = { s.parC c with silent := 0, rejoin := false } ∧
      t.pstate c = (if s.pstate c = 3 then 2 else s.pstate c) ∧ RegsKept [rLE_PAR_STATUS c] s t ∧ t = { s with regs := t.regs, le := t.le, par := t.par, hq := t.hq })) ∧
    (on → s.on (fLE_CFG_LEAD i) = false → Answers (.clipReport n p) s (take 5 0x10) []) ∧
    (on → s.on (fLE_CFG_LEAD i) = true → p.h 3 ≠ s.fld (fLE_PAR_STATUS_SAMPLE c) → Answers (.clipReport n p) s ((take 5 0x10).inc (rLE_PAR_CNT_STALE c)) []) ∧
    (∀ j, on → s.on (fLE_CFG_LEAD i) = true → p.h 3 = s.fld (fLE_PAR_STATUS_SAMPLE c) →
      firstBelow (fun j => s.memActive c j && s.memBurgee c j == p.b 0) 8 = some j → Completes (.clipReport n p) s (fun t =>
        t.member c j = { s.member c j with clip := some (p.h 3, (sgn16 (p.h 1)).natAbs) } ∧ (∀ k, k ≠ j → t.member c k = s.member c k) ∧
        t.regs = s.regs ∧ t = { s with par := t.par, hq := t.hq }))

/-- R238–R244, R256, R260, R263, R280: samples and the spare.

Completion is stated of: leSample, leCheckError, leSpareResume. -/
def Obligations.LeSamples : Prop :=
  ∀ (s : State) (n : Fin 5), s.mute = false →
    let i := n.val
    let x := s.leE i
    let c := s.leCell i
    let due := s.clk.counting = true ∧ s.nextSample i ≤ s.now
    let down := s.bst c = bIDLE ∨ s.bst c = bHALTED
    (¬ due → Answers (.leSample n) s s []) ∧
    (s.est i ∉ [eIDLE, eRUNNING, eFAILED] → Answers (.leSample n) s s []) ∧
    (due → s.est i = eIDLE ∨ s.est i = eRUNNING → Completes (.leSample n) s (fun t =>
      t.rdN (rLE_CNT_SAMPLES i) = min (s.rdN (rLE_CNT_SAMPLES i) + 1) 0xFFFFFFFF ∧ (t.leE i).k = x.k + 1 ∧ (t.leE i).t0 = x.t0 ∧
      t.rdN (rLE_FB_POS i) = unsW 32 (s.lePos i).1 ∧
      t.fld (fLE_STATUS_BANK i) = (if x.swap = 0 then s.fld (fLE_STATUS_BANK i) else (x.swap - 1) % 2) ∧
      t.fld (fLE_STATUS_MODE i) = (if x.modeNext = 0 then s.fld (fLE_STATUS_MODE i) else (x.modeNext - 1) % 4) ∧
      (t.leE i).swap = 0 ∧ (t.leE i).modeNext = 0 ∧ (t.leE i).tab = 0 ∧ (∀ k, k ≠ i → t.leE k = s.leE k) ∧
      t.est i = (if s.est i = eRUNNING ∧ down then eIDLE else s.est i) ∧
      (s.est i = eRUNNING → ¬ down → (∃ r ∈ t.hq.fabric.drop s.hq.fabric.length, r.target = BitVec.ofNat 16 (0x840 + 16 * c) ∧ r.opcode = 0x10 ∧
          r.time = BitVec.ofNat 40 (s.nextSample i + s.fld (fLE_TIMING_OUT_DELAY i) * 2560)) ∧
        (t.on (fLE_STATUS_REGEN_BLOCK i) = true → sgn (sgn16 (t.rdN (rLE_TORQUE i))) * sgn (s.leSpeed i).1 < 0 → t.rdN (rLE_TORQUE i) / 65536 = 0)))) ∧
    (s.est i ≠ eIDLE → s.est i ≠ eRUNNING → Answers (.leCheckError n) s s []) ∧
    (s.est i = eIDLE ∨ s.est i = eRUNNING → i = 4 ∨ s.est 4 ≠ eSPARE ∨ s.inBiv = true → s.isProtected c = false → Completes (.leCheckError n) s (fun t =>
      t.est i = eFAILED ∧ t.on (fLE_EVENTS_FAILED i) = true ∧ bit (t.fld (fSI_CELL_STATUS_DEMAND c)) 5 = true ∧ Raised [(0x0802, c)] s t ∧
      RegsKept [rLE_STATUS i, rLE_EVENTS i, rSI_CELL_STATUS c] s t ∧ t = { s with regs := t.regs, flt := t.flt })) ∧
    (let m := s.le.mirror.at LeMirror.init i;
      s.est i = eIDLE ∨ s.est i = eRUNNING → i < 4 → s.est 4 = eSPARE → s.inBiv = false → Safe s → Completes (.leCheckError n) s (fun t =>
      t.est i = eFAILED ∧ t.le.resume = some (i, s.est i) ∧ t.leE 4 = { m.eng with t0 := x.t0, k := x.k + 1, swap := 0, tab := 0, modeNext := 0 } ∧ (∀ k, k ≠ 4 → t.leE k = s.leE k) ∧
      t.on (fFLT_CELL_LE_SPARE_USED c) = true ∧ Raised [(0x0801, c)] s t ∧
      (∀ o, o < 0x300 → t.rd (0x8040000 + o) = s.rd (0x8000000 + i * 0x10000 + o)) ∧ t.fld (fLE_STATUS_BANK 4) = m.bank % 2 ∧
      t.fld (fLE_STATUS_MODE 4) = s.fld (fLE_STATUS_MODE i) ∧ t.est 4 = eSPARE)) ∧
    (s.le.resume = none → Answers .leSpareResume s s []) ∧
    (∀ was, s.le.resume = some (i, was) → Answers .leSpareResume s
      (((({ s with le := { s.le with resume := none } }.setServes 4 i).clr (fLE_STATUS_SERVES_VALID i)).setEst 4 was).set1 (fLE_EVENTS_SPARE_IN 4)) [])

/-- R265–R269, R283, R286–R288: membership of a machine.  That a new member joins at the lead's next sample and how the first failing check is coded in
`joinCode` rest on the readings of log 40.

Completion is stated of: alive, accept, taken, aliveSend, memberLost, shareTimeout, rejoin. -/
def Obligations.ParMembers : Prop :=
  ∀ (s : State) (c : Fin 4) (j : Fin 8) (p : Quad) (r : Rec) (ok : BitVec 8), s.mute = false →
    let i := c.val
    let k := j.val
    let a : Quad := r.payload
    let b := r.src.toNat
    let fresh := fun (t : State) => t.hq.fabric.drop s.hq.fabric.length
    let mgen := fun (d : Nat) => s.fld (fLE_PAR_GEN_MGEN d)
    let takenA := s.consume 1 0x10 a
    let acc := fun (d m gen code : Nat) (t : State) => ∃ q, fresh t = [q] ∧ q.target = BitVec.ofNat 16 (0x8001 + b % 64 * 512) ∧ q.opcode = 0x11 ∧
      q.payload.toNat = s.fld (fLE_PAR_CFG_MACHINE d) + m * 256 + gen * 65536 + code * 2 ^ 32
    (s.role i ≠ 2 → Answers (.aliveSend c) s s []) ∧
    (s.role i = 2 → Completes (.aliveSend c) s (fun t => ∃ q, fresh t = [q] ∧ t.hq.fabric.length = s.hq.fabric.length + 1 ∧
      q.target = BitVec.ofNat 16 (0x8001 + (s.parC i).lead % 64 * 512) ∧ q.opcode = 0x10 ∧ q.flags = 1 ∧
      Quad.b q.payload 0 = s.fld (fLE_PAR_CFG_MACHINE i) ∧ Quad.b q.payload 1 = i ∧ Quad.b q.payload 2 = s.pstate i ∧ Quad.h q.payload 3 = mgen i ∧
      Quad.h q.payload 5 = q15 (s.leE (s.leOf i)).t ∧ Quad.w q.payload 7 = s.machineDigest i ∧
      Quad.from q.payload 11 % 2 ^ 24 = s.offsetNs i % 2 ^ 24 ∧ Quad.h q.payload 14 = s.fld (fLE_TIMING_OUT_DELAY (s.leOf i)) ∧
      t = { s with hq := t.hq })) ∧
    (s.leadCell (a.b 0) = none → Answers (.alive r) s takenA []) ∧
    (∀ d, s.leadCell (a.b 0) = some d →
      let code := s.joinCode d a (s.entryFor d b (a.b 1)) ((s.short + 2 ^ 40 - r.time.toNat) % 2 ^ 40);
      (s.entryFor d b (a.b 1) = none → Completes (.alive r) s (fun t => acc d (a.b 1) (mgen d) code t ∧ Raised [(0x0811, d)] s t ∧
        t.on (fLE_PAR_EVENTS_REFUSED d) = true ∧ RegsKept [rLE_PAR_EVENTS d] s t ∧ t = { s with regs := t.regs, hq := t.hq, flt := t.flt })) ∧
      (∀ e, s.entryFor d b (a.b 1) = some e →
        let m := s.member d e
        let known := s.memActive d e || m.join.isSome || m.droop || a.b 2 == 3
        let seen := { m with aliveAt := s.now, tq := sgn16 (a.h 5), pst := a.b 2 };
        (known = true → Completes (.alive r) s (fun t => t.hq = takenA.hq ∧ t.flt = s.flt ∧
          t.member d e = (if a.b 2 = 3 then { seen with droop := true, join := none } else seen) ∧ (∀ f, f ≠ e → t.member d f = s.member d f) ∧
          (∀ f, f < 8 → t.memActive d f = (s.memActive d f && !(f == e && a.b 2 == 3))) ∧
          RegsKept [rLE_PAR_ACTIVE d, rLE_PAR_STATUS d] s t ∧ t = { s with regs := t.regs, par := t.par, hq := t.hq })) ∧
        (known = false → code = 0 → Completes (.alive r) s (fun t => acc d (a.b 1) m.gen 0 t ∧
          t.member d e = { seen with join := some (s.memMax d e) } ∧ (∀ f, f ≠ e → t.member d f = s.member d f) ∧
          t.regs = s.regs ∧ t = { s with par := t.par, hq := t.hq })) ∧
        (known = false → code ≠ 0 → Completes (.alive r) s (fun t => acc d (a.b 1) m.gen code t ∧ Raised [(0x0811, d)] s t ∧
          t.on (fLE_PAR_EVENTS_REFUSED d) = true ∧ t.par = s.par ∧ RegsKept [rLE_PAR_EVENTS d] s t)))) ∧
    (let d := a.b 1;
      (3 < d ∨ s.role d ≠ 2 ∨ s.fld (fLE_PAR_CFG_MACHINE d) ≠ a.b 0 ∨ a.b 4 ≠ 0 → Answers (.accept r) s (s.consume 1 0x11 a) []) ∧
      (d ≤ 3 → s.role d = 2 → s.fld (fLE_PAR_CFG_MACHINE d) = a.b 0 → a.b 4 = 0 → Completes (.accept r) s (fun t =>
        t.fld (fLE_PAR_GEN_MGEN d) = a.h 2 ∧ t.pstate d = (if s.pstate d = 1 then 2 else s.pstate d) ∧
        t.parC d = { s.parC d with lead := b, silent := 0, rejoin := (s.parC d).rejoin || s.pstate d == 3 } ∧ (∀ e, e ≠ d → t.parC e = s.parC e) ∧
        (s.hq.loaded = true → t.qGen (0x884 + 16 * s.leOf d) = a.h 2)))) ∧
    (Completes (.taken p) s (fun t => ∀ d, d < 4 →
      (s.fld (fLE_PAR_CFG_MACHINE d) ≠ p.b 0 ∨ (s.role d ≠ 1 ∧ ¬ (s.role d = 2 ∧ (s.parC d).lead = p.b 1)) →
        t.parC d = s.parC d ∧ t.fld (fLE_PAR_GEN_MGEN d) = mgen d ∧ ∀ e, e < 8 → t.memBurgee d e = s.memBurgee d e ∧ t.memCell d e = s.memCell d e) ∧
      (s.fld (fLE_PAR_CFG_MACHINE d) = p.b 0 → s.role d = 1 → ∀ e, s.entryFor d (p.b 1) (p.b 2) = some e →
        t.memBurgee d e = p.b 3 ∧ t.memCell d e = p.b 4 % 4 ∧ t.member d e = { s.member d e with gen := p.h 5, aliveAt := s.now } ∧
        (∀ f, f < 8 → f ≠ e → t.memBurgee d f = s.memBurgee d f ∧ t.member d f = s.member d f) ∧ t.memActive d e = s.memActive d e) ∧
      (s.fld (fLE_PAR_CFG_MACHINE d) = p.b 0 → s.role d = 2 → (s.parC d).lead = p.b 1 →
        t.fld (fLE_PAR_GEN_MGEN d) = p.h 5 ∧ t.parC d = { s.parC d with lead := p.b 3 }))) ∧
    (let lost := s.role i = 1 ∧ s.memActive i k = true ∧ ¬ (s.memBurgee i k = s.own ∧ s.memCell i k = i) ∧ (s.member i k).aliveAt + 3 * msU ≤ s.now;
      (¬ lost → Answers (.memberLost c j) s s []) ∧
      (lost → Completes (.memberLost c j) s (fun t => (∀ f, f < 8 → t.memActive i f = (s.memActive i f && f != k)) ∧
        bit (t.fld (fLE_PAR_ACTIVE_LOST i)) k = true ∧ t.on (fLE_PAR_EVENTS_LOST i) = true ∧ Raised [(0x0812, i)] s t ∧
        RegsKept [rLE_PAR_ACTIVE i, rLE_PAR_STATUS i, rLE_PAR_EVENTS i] s t ∧ t = { s with regs := t.regs, flt := t.flt }))) ∧
    (let splits := s.role i = 2 ∧ s.pstate i = 2 ∧ s.fld (fLE_PAR_TIMING_SHARE_TMO i) ≤ (s.parC i).silent;
      (¬ splits → Answers (.shareTimeout c) s s []) ∧
      (splits → Completes (.shareTimeout c) s (fun t => t.pstate i = 3 ∧ t.parC i = { s.parC i with rejoin := false } ∧ t.le = s.le ∧
        t.on (fLE_PAR_EVENTS_SPLIT i) = true ∧ Raised [(0x0813, i)] s t ∧ RegsKept [rLE_PAR_STATUS i, rLE_PAR_EVENTS i] s t))) ∧
    (let cmd := rLE_PAR_CMD i
      let listed := fun f => s.memBurgee i f ≠ 255 ∧ ¬ (s.memBurgee i f = s.own ∧ s.memCell i f = i)
      let refused := s.role i ≠ 1 ∨ s.ps ≠ psRUN ∨ ¬ (∀ f, f < 8 → listed f → (s.member i f).droop = true →
        s.reached (s.memBurgee i f) = true ∧ bit ok.toNat f = true);
      (s.inBiv = true → s.cmdStatus cmd ≠ stBUSY → Completes (.rejoin c ok) s (fun t => CmdOnly s t cmd 2 stREFUSED)) ∧
      (CmdReady s cmd → refused → Completes (.rejoin c ok) s (fun t => CmdOnly s t cmd 2 stREFUSED)) ∧
      (CmdReady s cmd → ¬ refused → Completes (.rejoin c ok) s (fun t => CmdShows t cmd 2 stDONE ∧ t.fld (fLE_PAR_GEN_MGEN i) = nextGen (mgen i) ∧
        (∀ f, f < 8 → listed f → t.member i f = { s.member i f with
          gen := nextGen (s.member i f).gen, droop := false,
          pst := (if (s.member i f).droop then 2 else (s.member i f).pst), aliveAt := (if (s.member i f).droop then s.now else (s.member i f).aliveAt),
          join := (if (s.member i f).droop then some (s.member i f).tq.natAbs else (s.member i f).join) } ∧
          ∃ q ∈ fresh t, q.opcode = 0x11 ∧ q.target = BitVec.ofNat 16 (0x8001 + s.memBurgee i f % 64 * 512)) ∧
        (∀ f, f < 8 → ¬ listed f → t.member i f = s.member i f) ∧ RegsKept [cmd, rLE_PAR_GEN i] s t ∧
        t = { s with regs := t.regs, par := t.par, hq := t.hq, free := t.free })))

/-- R275–R285: takeover.

Completion is stated of: fence, handback, mirroredStreamReceive, mirrorTimeout, takeoverSelectEnd, giveTimeout, parHandback, handbackSelectEnd. -/
def Obligations.ParTakeover : Prop :=
  ∀ (s : State) (c : Fin 4) (p : Quad) (x0 x1 x2 x3 x4 x5 : Slot) (ok : Bool), s.mute = false →
    let i := c.val
    let l := [x0, x1, x2, x3, x4, x5]
    let u := s.forEach State.takeMirror l
    let fresh := fun (t : State) => t.hq.fabric.drop s.hq.fabric.length
    let owned := fun (d owner gen : Nat) (t : State) => ∀ o, o < 24 →
      if s.cellHas d o then t.fld (fGD_OWN_OWNER o) = owner ∧ t.fld (fGD_OWN_GEN o) = gen else t.rdN (rGD_OWN o) = s.rdN (rGD_OWN o) ∧ t.gst o = s.gst o
    let b := s.fld (fLE_PAR_STAGE_PARTNER i)
    let n := s.leOf i
    let watching := s.pstate i = 4 ∨ (s.pstate i = 0 ∧ s.watchReady i = true)
    let fits := s.setOk i l = true ∧ (s.parC i).took = false ∧ (s.pstate i = 0 ∨ s.pstate i = 4)
    let same := part l 5 / 65536 % 2 ^ 32 = s.rdN (rLE_PAR_DIGEST i) ∧ part l 5 / 2 ^ 56 % 65536 = s.fld (fLE_PAR_STAGE_STAGE_ID i)
    let kept := u.modPar i (fun q => { q with parts := l, quiet := false, setAt := s.now })
    let shown := if watching then kept.setPstate i 4 else kept
    let cmd := rLE_PAR_CMD i
    (s.stageCell (p.h 0) = none → Answers (.fence p) s (s.consume 1 3 p) [] ∧ Answers (.handback p) s (s.consume 1 0x13 p) []) ∧
    (∀ d, s.stageCell (p.h 0) = some d → newer16 (p.h 2) (s.fld (fLE_PAR_GEN_G d)) = false →
      Answers (.fence p) s ((s.consume 1 3 p).inc (rLE_PAR_CNT_STALE d)) [] ∧ Answers (.handback p) s ((s.consume 1 0x13 p).inc (rLE_PAR_CNT_STALE d)) []) ∧
    (∀ d, s.stageCell (p.h 0) = some d → newer16 (p.h 2) (s.fld (fLE_PAR_GEN_G d)) = true →
      Completes (.fence p) s (fun t => t.fld (fLE_PAR_GEN_G d) = p.h 2 ∧ owned d (p.b 4) (p.h 2) t ∧ t.pstate d = 7 ∧ t.bst d = bIDLE ∧
        (∀ o, o < 24 → s.cellHas d o = true → s.gst o ≠ gRETIRED → t.gst o = gFENCED ∧ (t.gate o).waiting = false ∧ (t.gate o).drive.isOn = false) ∧
        t.est (s.leOf d) = eIDLE ∧ t.on (fLE_PAR_EVENTS_FENCED d) = true ∧ Raises 0x0818 d s t ∧
        (s.cellOwner d = s.own → p.b 5 = 1 → Raises 0x0817 d s t ∧ t.on (fLE_PAR_EVENTS_GIVEN d) = true) ∧ t.le = s.le ∧ t.par = s.par ∧ t.si = s.si)) ∧
    (∀ d, s.stageCell (p.h 0) = some d → newer16 (p.h 2) (s.fld (fLE_PAR_GEN_G d)) = true → Completes (.handback p) s (fun t =>
      t.fld (fLE_PAR_GEN_G d) = p.h 2 ∧ owned d (p.b 4) (p.h 2) t ∧ t.pstate d = (if s.role d = 1 then 2 else if s.role d = 2 then 1 else 0) ∧
      (∀ o, o < 24 → s.cellHas d o = true → t.gst o = (if s.gst o = gFENCED then gDIAG else s.gst o)) ∧
      (∀ o, o < 24 → s.cellHas d o = true → s.gst o = gFENCED → (t.gate o).waiting = false ∧ (t.gate o).drive.isOn = false) ∧
      t.le = s.le ∧ t.par = s.par ∧ t.si = s.si)) ∧
    (¬ fits → Answers (.mirroredStreamReceive c x0 x1 x2 x3 x4 x5) s u []) ∧
    (fits → ¬ same → Answers (.mirroredStreamReceive c x0 x1 x2 x3 x4 x5) s ((u.setPstate i 8).set1 (fLE_PAR_EVENTS_TKO_REFUSED i)) [(0x081A, i)]) ∧
    (fits → same → ¬ (watching ∧ bit (part l 0) 0 = true) → Answers (.mirroredStreamReceive c x0 x1 x2 x3 x4 x5) s shown []) ∧
    (fits → same → watching → bit (part l 0) 0 = true → s.ps ≠ psRUN →
      Answers (.mirroredStreamReceive c x0 x1 x2 x3 x4 x5) s (shown.set1 (fLE_PAR_EVENTS_TKO_REFUSED i)) [(0x081A, i)]) ∧
    (fits → same → watching → bit (part l 0) 0 = true → s.ps = psRUN → Completes (.mirroredStreamReceive c x0 x1 x2 x3 x4 x5) s (fun t =>
      let g := nextGen (part l 5 % 65536)
      t.pstate i = 5 ∧ t.fld (fLE_PAR_GEN_G i) = g ∧ owned i s.own g t ∧ (t.parC i).took = true ∧ (t.parC i).orig = b ∧ (t.parC i).parts = l ∧
      (∃ q ∈ fresh t, q.opcode = 3 ∧ q.target = BitVec.ofNat 16 (0x8001 + b * 512) ∧ Quad.h q.payload 0 = s.fld (fLE_PAR_STAGE_STAGE_ID i) ∧
        Quad.h q.payload 2 = g ∧ Quad.b q.payload 4 = s.own ∧ Quad.b q.payload 5 = 1) ∧
      t.on (fLE_PAR_STATUS_TKO_SEL i) = true ∧ t.est n = eRUNNING ∧ (t.leE n).vTgt = sgn16 (part l 0 / 65536) ∧ (t.leE n).pTgt = sgnW 32 (part l 0 / 2 ^ 32) ∧
      t.fld (fLE_STATUS_MODE n) = part l 0 / 4 % 4 ∧ t.fld (fLE_PAR_STATUS_SAMPLE i) = part l 0 / 2 ^ 96 % 65536 ∧
      (t.bndC i).ia = sgn16 (part l 4 / 2 ^ 40) ∧ (t.bndC i).ib = sgn16 (part l 4 / 2 ^ 56) ∧ (∀ k, k ≠ i → t.parC k = s.parC k) ∧
      (∀ k, k ≠ n → t.leE k = s.leE k) ∧ t.si = s.si)) ∧
    (s.pstate i ≠ 4 → Answers (.mirrorTimeout c) s s []) ∧
    (s.pstate i = 4 → s.on (fLE_PAR_CFG_SILENT_TKO i) = false → Answers (.mirrorTimeout c) s
      ((s.modPar i (fun q => { q with quiet := true })).set1 (fLE_PAR_EVENTS_MIRROR i)) [(0x0815, i)]) ∧
    (s.pstate i = 4 → Completes (.mirrorTimeout c) s (fun t => (t.pstate i = 4 ∨ t.pstate i = 5) ∧ Raises 0x0815 i s t ∧ t.on (fLE_PAR_EVENTS_MIRROR i) = true ∧
      (t.pstate i = 5 → s.on (fLE_PAR_CFG_SILENT_TKO i) = true ∧ s.ps = psRUN ∧
        (∀ k, k < 4 → s.pst k = pUP → s.peer k ≠ b) ∧ 2 ≤ ((List.range 4).filter (fun k => s.pst k != pUP && (s.port k).lastPeer == b)).length))) ∧
    (s.pstate i ≠ 5 → Answers (.takeoverSelectEnd c) s s []) ∧
    (s.pstate i = 5 → Completes (.takeoverSelectEnd c) s (fun t => t.pstate i = (if s.role i = 0 then 0 else 2) ∧ t.on (fLE_PAR_EVENTS_TAKEOVER i) = true ∧
      Raises 0x0816 i s t ∧ (s.bst i = bIDLE → t.bst i ≠ bIDLE) ∧ t.par = s.par ∧ t.le = s.le ∧
      ∀ m ∈ s.machineMates i, ∃ q ∈ fresh t, q.target = BitVec.ofNat 16 (0x8001 + m % 64 * 512) ∧ q.opcode = 0x12 ∧
        Quad.b q.payload 0 = s.fld (fLE_PAR_CFG_MACHINE i) ∧ Quad.b q.payload 3 = s.own ∧ Quad.b q.payload 4 = i ∧ Quad.h q.payload 5 = s.fld (fLE_PAR_GEN_MGEN i))) ∧
    (s.pstate i ≠ 6 → Answers (.giveTimeout c) s s []) ∧
    (s.pstate i = 6 → Answers (.giveTimeout c) s ((s.setPstate i (if s.role i = 1 then 2 else if s.role i = 2 then 1 else 0)).setF (fSI_CELL_STATUS_DEMAND i)
      (Nat.lor (s.fld (fSI_CELL_STATUS_DEMAND i)) 32)) []) ∧
    (s.inBiv = true → s.cmdStatus cmd ≠ stBUSY → Completes (.parHandback c ok) s (fun t => CmdOnly s t cmd 3 stREFUSED)) ∧
    (CmdReady s cmd → (s.parC i).took = false ∨ s.pstate i = 5 ∨ s.bst i ≠ bIDLE ∨ ok = false ∨ s.reached (s.parC i).orig = false →
      Completes (.parHandback c ok) s (fun t => CmdOnly s t cmd 3 stREFUSED)) ∧
    (CmdReady s cmd → (s.parC i).took = true → s.pstate i ≠ 5 → s.bst i = bIDLE → ok = true → s.reached (s.parC i).orig = true →
      Completes (.parHandback c ok) s (fun t =>
        let g := nextGen (s.fld (fLE_PAR_GEN_G i))
        CmdShows t cmd 3 stBUSY ∧ t.fld (fLE_PAR_GEN_G i) = g ∧ owned i (s.parC i).orig g t ∧ t.on (fLE_PAR_STATUS_TKO_SEL i) = false ∧
        t.parC i = { s.parC i with handing := true } ∧ (∀ k, k ≠ i → t.parC k = s.parC k) ∧ t.le = s.le ∧ t.si = s.si)) ∧
    ((s.parC i).handing = false → Answers (.handbackSelectEnd c) s s []) ∧
    ((s.parC i).handing = true → Completes (.handbackSelectEnd c) s (fun t => t.pstate i = 0 ∧ t.rdN cmd = stDONE * 65536 + s.rdN cmd % 65536 ∧
      t.parC i = { s.parC i with handing := false, took := false, orig := 255, origCell := 0 } ∧ (∀ k, k ≠ i → t.parC k = s.parC k) ∧
      (∃ q, fresh t = [q] ∧ q.opcode = 0x13 ∧ q.target = BitVec.ofNat 16 (0x8001 + (s.parC i).orig * 512) ∧ Quad.h q.payload 2 = s.fld (fLE_PAR_GEN_G i)) ∧
      RegsKept [cmd, rLE_PAR_STATUS i] s t ∧ t = { s with regs := t.regs, par := t.par, hq := t.hq }))

/-- R328–R335, R350, R351: the island's cells.

Completion is stated of: stoPairDemand, sinPairDemand, pairDiscrepancy, resetEdge, stoRstStuck, stoClearTimer, normalRestore, ss1TimeEnd,
ss1TmaxEnd, standstillDetected, sbcLeadEnd, heartbeatLoss, siClockWindow, siSupplyFault, lockstepMismatch, enableConfirmTimeout, cfgCrcCheck,
siSelfTest, internalSs1Request, brakeReleaseRequest. -/
def Obligations.SiCells : Prop :=
  ∀ (s : State) (c p : Fin 4) (k : Fin 5) (g : Fin 24) (a b : Bool) (dev : BitVec 16), s.mute = false →
    let i := c.val
    let active := s.ist = iACTIVE
    let normal := fun (d : Nat) (t : State) => t.cst d = cNORMAL ∧ (t.siC d).stopLine = false ∧
      ∀ o, o < 24 → s.cellHas d o = true → (t.gate o).gse = true ∧ (t.gate o).sen = true
    let sbc := s.on (fSI_CELL_CFG_SBC_EN i) = true ∧ s.fld (fSI_SS1_CFG_SBC_LEAD i) ≠ 0
    let braked := fun (t : State) => t.cst i = cSS1 ∧ t.siC i = { s.siC i with lead := true } ∧
      (s.fld (fSI_CELL_CFG_BRK_OUT i) ≠ 0 → t.on (fSI_CELL_STATUS_BRAKE_APPLIED i) = true) ∧ t.gd = s.gd ∧ t.flt = s.flt
    let bad := if 500 < dev.toInt.natAbs then s.si.clkBad + 1 else 0
    let clocked := { s with si := { s.si with clkBad := bad } }.wrN rSI_CLOCK dev.toNat
    Completes (.stoPairDemand a b) s (fun t => t.input 0 = a ∧ t.input 1 = b ∧ (a = false ∨ b = false → t.pairDem 0 = true) ∧
      (a = true → b = true → s.pairDisc 0 = false → t.pairDem 0 = false) ∧ (∀ m, 0 < m → m < 5 → t.pairDem m = s.pairDem m ∧ t.pairDisc m = s.pairDisc m) ∧
      (a = false ∨ b = false → active → ∀ d, d < 4 → bit (s.fld fSI_CFG_STO_CELLS) d = true → s.cst d ≠ cHELD →
        CellHeld s t d ∧ bit (t.fld (fSI_CELL_STATUS_DEMAND d)) 0 = true) ∧
      (¬ active → ∀ d, d < 4 → t.cst d = s.cst d)) ∧
    Completes (.sinPairDemand p a b) s (fun t =>
      let dem := a = false ∨ b = s.pairAnti p.val
      t.input (2 * p.val + 2) = a ∧ t.input (2 * p.val + 3) = b ∧ (dem → t.pairDem (p.val + 1) = true) ∧
      (¬ dem → s.pairDisc (p.val + 1) = false → t.pairDem (p.val + 1) = false) ∧ (t.pairDem 0 = s.pairDem 0) ∧
      (dem → active → s.pairActs p.val i = true →
        (s.pairFunc p.val = 1 → s.cst i ≠ cHELD → CellHeld s t i ∧ bit (t.fld (fSI_CELL_STATUS_DEMAND i)) 1 = true) ∧
        (s.pairFunc p.val = 2 → s.cst i = cNORMAL → (t.cst i = cSS1 ∧ (t.siC i).stopLine = true ∧ Raises 0x0A02 i s t) ∨ CellHeld s t i) ∧
        (s.pairFunc p.val = 3 → t.on (fSI_CELL_STATUS_SLS_ON i) = s.on (fSI_CELL_CFG_SLS_EN i)) ∧
        (s.pairFunc p.val = 4 → t.on (fSI_CELL_STATUS_SLT_ON i) = s.on (fSI_CELL_CFG_SLT_EN i)))) ∧
    ((s.channels k.val).1 = (s.channels k.val).2 ∨ s.pairDisc k.val = true → Answers (.pairDiscrepancy k) s s []) ∧
    ((s.channels k.val).1 ≠ (s.channels k.val).2 → s.pairDisc k.val = false → Completes (.pairDiscrepancy k) s (fun t =>
      t.pairDem k.val = true ∧ t.pairDisc k.val = true ∧ Raises 0x0A03 255 s t ∧
      (k.val = 0 → active → ∀ d, d < 4 → bit (s.fld fSI_CFG_STO_CELLS) d = true → s.cst d ≠ cHELD → CellHeld s t d))) ∧
    (a = false ∨ b = false ∨ ¬ active → Answers (.resetEdge a b) s (s.setInput 10 a) []) ∧
    (active → (∀ d, d < 4 → s.cst d ≠ cCLEAR) → Answers (.resetEdge true true) s
      (((s.setInput 10 true).inc rSI_CNT_RST_IGN).setF fSI_STATUS_LAST_FAULT 0x0A10) [(0x0A10, 255)]) ∧
    (active → s.inBiv = false → s.cst i = cCLEAR → Completes (.resetEdge true true) s (fun t =>
      (∀ d, d < 4 → s.cst d = cCLEAR → s.on (fSI_CELL_CFG_MAN_RST d) = true → normal d t) ∧
      (∀ d, d < 4 → s.cst d ≠ cCLEAR ∨ s.on (fSI_CELL_CFG_MAN_RST d) = false → t.cst d = s.cst d) ∧ t.rdN rSI_CNT_RST_IGN = s.rdN rSI_CNT_RST_IGN)) ∧
    (s.input 10 = false → Answers .stoRstStuck s s []) ∧
    (s.input 10 = true → Answers .stoRstStuck s (s.setF fSI_STATUS_LAST_FAULT 0x0A10) [(0x0A10, 255)]) ∧
    (¬ (active ∧ s.cst i = cHELD ∧ s.fld (fSI_CELL_STATUS_DEMAND i) = 0) → Answers (.stoClearTimer c) s s []) ∧
    (active → s.cst i = cHELD → s.fld (fSI_CELL_STATUS_DEMAND i) = 0 → Completes (.stoClearTimer c) s (fun t => t.cst i = cCLEAR ∧
      t.gd = s.gd ∧ OnlyRegs [rSI_CELL_STATUS i, rSI_STATUS] s t)) ∧
    (s.on (fSI_CELL_CFG_MAN_RST i) = true ∨ s.cst i ≠ cCLEAR ∨ ¬ active ∨ s.inBiv = true → Answers (.normalRestore c) s s []) ∧
    (s.on (fSI_CELL_CFG_MAN_RST i) = false → s.cst i = cCLEAR → active → s.inBiv = false → Completes (.normalRestore c) s (fun t => normal i t ∧
      (∀ d, d < 4 → d ≠ i → t.cst d = s.cst d) ∧ ∀ o, o < 24 → s.cellHas i o = false → t.gate o = s.gate o)) ∧
    (let ends := s.cst i = cSS1 ∧ (s.siC i).ss1r = false ∧ (s.siC i).lead = false;
      (¬ ends → Answers (.ss1TimeEnd c) s s []) ∧ (ends → sbc → Completes (.ss1TimeEnd c) s braked) ∧
      (ends → ¬ sbc → Completes (.ss1TimeEnd c) s (fun t => CellHeld s t i))) ∧
    (let ends := s.cst i = cSS1 ∧ (s.siC i).ss1r = true ∧ (s.siC i).lead = false ∧ s.rdN (rSI_SPEED i) % 65536 ≤ s.fld (fSI_SPD_CFG_W_ZERO_S i);
      (¬ ends → Answers (.standstillDetected c) s s []) ∧ (ends → sbc → Completes (.standstillDetected c) s braked) ∧
      (ends → ¬ sbc → Completes (.standstillDetected c) s (fun t => CellHeld s t i))) ∧
    (s.cst i ≠ cSS1 → Answers (.ss1TmaxEnd c) s s []) ∧ (s.cst i = cSS1 → Completes (.ss1TmaxEnd c) s (fun t => CellHeld s t i)) ∧
    (s.cst i ≠ cSS1 ∨ (s.siC i).lead = false → Answers (.sbcLeadEnd c) s s []) ∧
    (s.cst i = cSS1 → (s.siC i).lead = true → Completes (.sbcLeadEnd c) s (fun t => CellHeld s t i)) ∧
    Completes (.internalSs1Request c) s (fun t => bit (t.fld (fSI_CELL_STATUS_DEMAND i)) 5 = true ∧ (¬ active ∨ s.cst i = cHELD → t.cst i = s.cst i) ∧
      (active → s.cst i = cNORMAL → (t.cst i = cSS1 ∧ (t.siC i).stopLine = true ∧ (t.siC i).t0 = s.now ∧ Raises 0x0A02 i s t) ∨ CellHeld s t i) ∧
      (active → s.cst i = cCLEAR → CellHeld s t i) ∧ ∀ d, d < 4 → d ≠ i → t.cst d = s.cst d) ∧
    (s.on fSI_STATUS_MP_LOST = true → Answers .heartbeatLoss s s []) ∧
    (s.on fSI_STATUS_MP_LOST = false → Answers .heartbeatLoss s ((s.set1 fSI_STATUS_MP_LOST).setF fSI_STATUS_LAST_FAULT 0x0A12) [(0x0A12, 255)]) ∧
    (bad < 2 ∨ s.ist = iFAULT → Answers (.siClockWindow dev) s clocked []) ∧ Answers (.siSelfTest true) s s [] ∧
    (s.siCrcOk = true → Answers .cfgCrcCheck s s []) ∧
    ((s.gate g.val).gse = true → (s.gate g.val).sen = true → Answers (.enableConfirmTimeout g) s s []) ∧
    (s.ist = iFAULT → Answers .siSupplyFault s s [] ∧ Answers .lockstepMismatch s s [] ∧ Answers (.siSelfTest false) s s [] ∧ Answers .cfgCrcCheck s s [] ∧
      Answers (.enableConfirmTimeout g) s s []) ∧
    (s.ist ≠ iFAULT → Completes .siSupplyFault s (IslandFaulted s) ∧ Completes .lockstepMismatch s (IslandFaulted s) ∧
      Completes (.siSelfTest false) s (IslandFaulted s) ∧
      (2 ≤ bad → Completes (.siClockWindow dev) s (fun t => IslandFaulted s t ∧ t.rdN rSI_CLOCK = dev.toNat)) ∧
      (s.siCrcOk = false → Completes .cfgCrcCheck s (fun t => IslandFaulted s t ∧ Raises 0x0A14 255 s t)) ∧
      ((s.gate g.val).gse = false ∨ (s.gate g.val).sen = false → Completes (.enableConfirmTimeout g) s (fun t => IslandFaulted s t ∧ Raises 0x0A0E 255 s t))) ∧
    ((s.stC i).ask ≠ 1 → Answers (.brakeReleaseRequest c) s s []) ∧
    ((s.stC i).ask = 1 →
      let refused := s.on (fSI_CELL_CFG_SBC_EN i) = true ∧ (s.cst i ≠ cNORMAL ∨ ¬ active ∨ (s.on (fSI_CELL_CFG_SF_BIND i) = true ∧ bit s.si.sf.brake i = false));
      (refused → Completes (.brakeReleaseRequest c) s (fun t => (t.stC i).ask = 3 ∧ Raised [(0x0A0F, i)] s t ∧
        (s.fld (fSI_CELL_CFG_BRK_OUT i) ≠ 0 → t.on (fSI_CELL_STATUS_BRAKE_APPLIED i) = true) ∧ t.gd = s.gd)) ∧
      (¬ refused → Completes (.brakeReleaseRequest c) s (fun t =>
        ((t.stC i).ask = 2 ∧ t.on (fSI_CELL_STATUS_BRAKE_APPLIED i) = false ∧
          ∀ n, n < 8 → s.isBrake i n = true → t.on (fAUX_STATUS_CUT_OPEN n) = false ∧ t.ast n ≠ aREFUSED) ∨
        ((t.stC i).ask = 3 ∧ Raises 0x0A0F i s t ∧ t.on (fSI_CELL_STATUS_BRAKE_APPLIED i) = true))))

/-- R334–R348: monitoring and safety frames.

Completion is stated of: siEvaluation, speedMismatch, slsToleranceEnd, sltToleranceEnd, diverseSample, torqueMismatch, safetyFrameReceive,
pairWindowEnd, sfTimeout, siStatusFrame. -/
def Obligations.SiMonitors : Prop :=
  ∀ (s : State) (c : Fin 4) (n : Fin 2) (f : BitVec 512) (dt tau : Nat) (imp : Bool), s.mute = false →
    let i := c.val
    let active := s.ist = iACTIVE
    let q := s.si.sf
    let hall := active ∧ s.on (fSI_CELL_CFG_HALL_SEN i) = true
    let tm := active ∧ s.on (fSI_CELL_CFG_TM_EN i) = true
    let vb := s.rdN (rSI_SPEED i) % 65536
    let now := max (if dt = 0 then 0 else islandSpeed dt) (islandSpeed tau)
    let lost := s.diverseLost i = true ∨ s.sigmaLost i = true
    let sd := s.rdN (rSI_TORQUE i) % 65536
    let dv := s.rdN (rSI_TORQUE i) / 65536
    let reacted := fun (k cause code : Nat) (t : State) => t.rdN (rSI_CNT_REACT i) = min (s.rdN (rSI_CNT_REACT i) + 1) 0xFFFFFFFF ∧
      t.fld (fSI_CELL_STATUS_LAST_CAUSE i) = cause ∧ (code ≠ 0 → Raises code i s t) ∧
      (2 ≤ k → bit (t.siC i).react k = true ∧ bit (t.fld (fSI_CELL_STATUS_DEMAND i)) 4 = true ∧
        (s.cst i = cNORMAL → if s.reactSs1 i k = true then t.cst i = cSS1 ∨ t.cst i = cHELD else CellHeld s t i)) ∧
      ∀ d, d < 4 → d ≠ i → t.cst d = s.cst d ∧ t.siC d = s.siC d
    let sfOn := s.on fSI_SF_CFG_SF_EN = true ∧ active
    let live := sfOn ∧ bit q.busOff n.val = false
    let seq := frameHalf f 0
    let old := s.rdN rSI_SF_SEQ % 65536
    let d := (seq + 65536 - old) % 65536
    let timing := (frameHalf f 2 + 65536 - q.accTs) % 65536 * 16 * usU
    let apart := s.now - q.accAt
    let late := 100 * (s.fld fSI_SF_CFG_TS_TOL * 16 * usU) + apart < 100 * ((timing : Int) - apart).natAbs
    let dual := live ∧ s.frameOk f = true ∧ q.mode = 1
    let sf := fun (x : SfSt) => { s with si := { s.si with sf := x } }
    let taken := fun (t : State) => t.rdN rSI_SF_SEQ % 65536 = seq ∧ t.si.sf.any = true ∧ t.si.sf.first = false ∧ t.si.sf.tmo = false ∧
      t.si.sf.accTs = frameHalf f 2 ∧ (q.first = false → t.si.sf.sto % 16 = 15 - (if 0 < frameByte f 4 then frameByte f 6 else 0) % 16) ∧
      (active → ∀ d, d < 4 → s.on (fSI_CELL_CFG_SF_BIND d) = true → bit t.si.sf.sto d = true → s.cst d ≠ cHELD → frameByte f 10 % 2 = 0 → CellHeld s t d)
    (¬ hall → (¬ (tm ∧ lost) → Answers (.siEvaluation c dt tau imp) s s []) ∧ Answers (.speedMismatch c imp) s s []) ∧
    (hall → Completes (.siEvaluation c dt tau imp) s (fun t => t.rdN (rSI_SPEED i) = s.posSpeed i * 65536 + now ∧
      ((s.siC i).react = 0 → s.cst i ≠ cSS1 → ¬ (tm ∧ lost) → OnlyRegs [rSI_SPEED i] s t) ∧
      ((s.siC i).react = 0 → s.cst i = cSS1 → (s.siC i).ss1r = true → s.rampLimit i < (now : Rat) →
        CellHeld s t i ∧ Raises 0x0A04 i s t ∧ (¬ (tm ∧ lost) → t.fld (fSI_CELL_STATUS_LAST_CAUSE i) = 4)))) ∧
    (tm → s.diverseLost i = true → s.sigmaLost i = true → s.on (fSI_CELL_CFG_HALL_SEN i) = false → bit (s.siC i).react 6 = false →
      let ends := fun (t : State) => bit (t.siC i).react 6 = true ∧ (t.fld (fSI_CELL_STATUS_LAST_CAUSE i) = 8 ∨ t.fld (fSI_CELL_STATUS_LAST_CAUSE i) = 7) ∧
        t.rdN (rSI_CNT_REACT i) ≠ 0 ∧ t.on (fFLT_CELL_TQ_CAP50 i) = true;
      Completes (.siEvaluation c dt tau imp) s ends ∧ Completes (.diverseSample c) s ends ∧ Completes (.torqueMismatch c imp) s ends) ∧
    (hall → imp = false → s.speedsAgree i = true → Answers (.speedMismatch c imp) s s []) ∧
    (hall → (imp = true ∨ s.speedsAgree i = false) → bit (s.siC i).react (if imp then 5 else 4) = true → Answers (.speedMismatch c imp) s s []) ∧
    (hall → (imp = true ∨ s.speedsAgree i = false) → bit (s.siC i).react (if imp then 5 else 4) = false →
      Completes (.speedMismatch c imp) s (reacted (if imp then 5 else 4) 9 0x0A09)) ∧
    (¬ active ∨ s.on (fSI_CELL_STATUS_SLS_ON i) = false ∨ vb ≤ s.fld (fSI_SPD_CFG_SLS_LIM i) ∨ bit (s.siC i).react 0 = true →
      Answers (.slsToleranceEnd c) s s []) ∧
    (active → s.on (fSI_CELL_STATUS_SLS_ON i) = true → s.fld (fSI_SPD_CFG_SLS_LIM i) < vb → bit (s.siC i).react 0 = false →
      Completes (.slsToleranceEnd c) s (fun t => reacted 0 5 0x0A05 t ∧ (s.on (fSI_CELL_CFG_SLS_EN i) = true → s.sinDemand i 3 = true → s.cst i = cNORMAL →
        if s.on (fSI_CELL_CFG_SLS_REACT i) = true then t.cst i = cSS1 ∨ t.cst i = cHELD else CellHeld s t i))) ∧
    (¬ active ∨ s.on (fSI_CELL_STATUS_SLT_ON i) = false ∨ max dv sd ≤ s.fld (fSI_TQ_CFG_SLT_LIM i) ∨ bit (s.siC i).react 1 = true →
      Answers (.sltToleranceEnd c) s s []) ∧
    (active → s.on (fSI_CELL_STATUS_SLT_ON i) = true → s.fld (fSI_TQ_CFG_SLT_LIM i) < max dv sd → bit (s.siC i).react 1 = false →
      Completes (.sltToleranceEnd c) s (fun t => reacted 1 6 0x0A06 t ∧ (s.on (fSI_CELL_CFG_SLT_EN i) = true → s.sinDemand i 4 = true → s.cst i = cNORMAL →
        if s.on (fSI_CELL_CFG_SLT_REACT i) = true then t.cst i = cSS1 ∨ t.cst i = cHELD else CellHeld s t i))) ∧
    (¬ tm → Answers (.diverseSample c) s s [] ∧ Answers (.torqueMismatch c imp) s s []) ∧
    (tm → Completes (.diverseSample c) s (fun t =>
      (lost → t.on (fSI_CELL_STATUS_SINGLE_PATH i) = true ∨ s.on (fFLT_CELL_SINGLE_PATH i) = true) ∧
      (lost → t.on (fFLT_CELL_TQ_CAP50 i) = true) ∧
      (s.diverseLost i = false → s.sigmaLost i = false → ∀ x : Nat × Nat, s.diverseVec i = some x → ∀ m : Nat,
        vectorMag (s.sigmaAt i 0 x.1) (s.sigmaAt i 1 x.1) (s.sigmaAt i 2 x.1) = some m → t.rdN (rSI_TORQUE i) % 65536 = m ∧ (x.2 < 65536 → t.rdN (rSI_TORQUE i) = x.2 * 65536 + m)) ∧
      (s.diverseLost i = false → s.sigmaLost i = false → s.diverseVec i = none → t = s))) ∧
    (tm → s.diverseLost i = false → s.sigmaLost i = false → s.on (fSI_CELL_STATUS_SINGLE_PATH i) = false →
      (imp = false → ((sd : Int) - dv).natAbs ≤ s.fld (fSI_TM_CFG_TM_TOL i) → Answers (.torqueMismatch c imp) s s []) ∧
      (imp = true ∨ s.fld (fSI_TM_CFG_TM_TOL i) < ((sd : Int) - dv).natAbs → bit (s.siC i).react 2 = false → Completes (.torqueMismatch c imp) s (reacted 2 7 0x0A07))) ∧
    (tm → s.diverseLost i = false → s.sigmaLost i = false → s.on (fSI_CELL_STATUS_SINGLE_PATH i) = true →
      (2 * max dv sd ≤ s.fld (fSI_TQ_CFG_I_RATED i) + 2 * s.fld (fSI_TM_CFG_TM_TOL i) → Answers (.torqueMismatch c imp) s s []) ∧
      (s.fld (fSI_TQ_CFG_I_RATED i) + 2 * s.fld (fSI_TM_CFG_TM_TOL i) < 2 * max dv sd → bit (s.siC i).react 3 = false →
        Completes (.torqueMismatch c imp) s (reacted 3 8 0))) ∧
    (¬ live → Answers (.safetyFrameReceive n f) s s []) ∧
    (live → s.frameOk f = false → Answers (.safetyFrameReceive n f) s (s.inc rSI_CNT_CRC) []) ∧
    (live → s.frameOk f = true → q.mode ≠ 1 → q.mode ≠ 2 + n.val → q.acc = none →
      Answers (.safetyFrameReceive n f) s (sf { q with shadow := some (f, s.now) }) []) ∧
    (dual → q.any = true → seq = old → Answers (.safetyFrameReceive n f) s s []) ∧
    (dual → ¬ (q.any = true ∧ seq = old) → q.held = none → Answers (.safetyFrameReceive n f) s (sf { q with held := some (n.val, f, s.now) }) []) ∧
    (∀ m : Nat × SafetyFrame × Nat, q.held = some m → dual → ¬ (q.any = true ∧ seq = old) → m.1 ≠ n.val →
      (m.2.1 ≠ f → Answers (.safetyFrameReceive n f) s (((sf { q with held := none, miss := [] }).incBy rSI_CNT_MISMATCH 2).setF fSI_STATUS_LAST_FAULT 0x0A0B) [(0x0A0B, 255)]) ∧
      (m.2.1 = f → q.first = true → Completes (.safetyFrameReceive n f) s taken) ∧
      (m.2.1 = f → q.first = false →
        let late1 := 100 * (s.fld fSI_SF_CFG_TS_TOL * 16 * usU) + (m.2.2 - q.accAt) < 100 * ((timing : Int) - (m.2.2 - q.accAt : Nat)).natAbs;
        let dropped := sf { q with held := none, miss := [], lost := q.busOff };
        (d = 0 ∨ s.fld fSI_SF_CFG_SEQ_WIN < d → Answers (.safetyFrameReceive n f) s (dropped.inc rSI_CNT_SEQ) []) ∧
        (d ≠ 0 → d ≤ s.fld fSI_SF_CFG_SEQ_WIN → late1 → Answers (.safetyFrameReceive n f) s (dropped.inc rSI_CNT_TS) []) ∧
        (d ≠ 0 → d ≤ s.fld fSI_SF_CFG_SEQ_WIN → ¬ late1 → Completes (.safetyFrameReceive n f) s taken))) ∧
    (live → s.frameOk f = true → q.mode = 2 + n.val → ¬ (q.any = true ∧ seq = old) → q.held = none → q.first = false →
      (d = 0 ∨ s.fld fSI_SF_CFG_SEQ_WIN < d → Answers (.safetyFrameReceive n f) s (s.inc rSI_CNT_SEQ) []) ∧
      (d ≠ 0 → d ≤ s.fld fSI_SF_CFG_SEQ_WIN → late → Answers (.safetyFrameReceive n f) s (s.inc rSI_CNT_TS) []) ∧
      (d ≠ 0 → d ≤ s.fld fSI_SF_CFG_SEQ_WIN → ¬ late → Completes (.safetyFrameReceive n f) s taken)) ∧
    (∀ m : Nat × SafetyFrame × Nat, q.held = some m →
      let miss := q.miss.at 0 (1 - m.1) + 1;
      let counted := (sf { q with held := none, miss := q.miss.put 0 (1 - m.1) miss }).inc rSI_CNT_MISMATCH;
      (miss < s.fld fSI_SF_CFG_NET_MISS → Answers .pairWindowEnd s counted []) ∧
      (s.fld fSI_SF_CFG_NET_MISS ≤ miss → bit q.lost (1 - m.1) = true → Answers .pairWindowEnd s counted []) ∧
      (s.fld fSI_SF_CFG_NET_MISS ≤ miss → bit q.lost (1 - m.1) = false → q.mode = 1 → s.on fSI_SF_CFG_FALLBACK_EN = true → bit q.lost (1 - (1 - m.1)) = false →
        Completes .pairWindowEnd s (fun t => t.si.sf.mode = 3 - (1 - m.1) ∧ t.si.sf.held = none ∧ Raised [(0x0A0C, 255)] s t ∧ bit t.si.sf.lost (1 - m.1) = true)) ∧
      (s.fld fSI_SF_CFG_NET_MISS ≤ miss → bit q.lost (1 - m.1) = false → q.mode = 1 → s.on fSI_SF_CFG_FALLBACK_EN = false → q.tmo = false →
        Completes .pairWindowEnd s (fun t => t.si.sf.tmo = true ∧ Raises 0x0A0A 255 s t))) ∧
    (q.held = none → (∀ x : SafetyFrame × Nat × Bool, q.acc = some x → x.2.2 = true) → Answers .pairWindowEnd s s []) ∧
    (∀ x : SafetyFrame × Nat × Bool, q.acc = some x → q.held = none → x.2.2 = false → Answers .pairWindowEnd s (sf { q with pairs := 0 }) []) ∧
    (¬ sfOn ∨ q.tmo = true → Answers .sfTimeout s s []) ∧
    (sfOn → q.tmo = false → Completes .sfTimeout s (fun t => t.si.sf.tmo = true ∧ t.si.sf.first = true ∧ t.si.sf.held = none ∧ Raises 0x0A0A 255 s t ∧
      t.fld fSI_STATUS_SF_MODE = 4 ∧ (∀ d, d < 4 → s.on (fSI_CELL_CFG_SF_BIND d) = true → s.cst d = cNORMAL →
        if s.on (fSI_CELL_CFG_SF_REACT d) = true then t.cst d = cSS1 ∨ t.cst d = cHELD else CellHeld s t d))) ∧
    (s.on fSI_SF_CFG_SF_EN = false ∨ s.domOn 4 = false → Answers .siStatusFrame s s []) ∧
    (s.on fSI_SF_CFG_SF_EN = true → s.domOn 4 = true → Completes .siStatusFrame s (fun t =>
      (∀ k, k < 2 → t.canData k 1 = (s.statusFrame q.stsSeq).toNat ∧ t.txPend k 1 = true) ∧ t.rdN rSI_SF_SEQ = q.stsSeq % 65536 * 65536 + old ∧
      t.si = { s.si with sf := { q with stsSeq := (q.stsSeq + 1) % 65536 } } ∧ (∀ k, k < 4 → ∀ b, b < 128 → b ≠ 1 → t.txPend k b = s.txPend k b)))

/-- R378–R391: the CAN channels.  The steps of the error counters are the sender's (ISO 11898-1).

Completion is stated of: canFrameReceive, canTxEnd, busOffWaitEnd, busOffRecoveryDone, canRequestBuffer, canAbortBuffer, canStartRecovery, transmit,
send8, canAbortRecord, canMbDataWrite, statusFrameSend, canBusError, protocolException, canArbitrationStart. -/
def Obligations.CanBus : Prop :=
  ∀ (s : State) (ch : Fin 4) (x : Fin 128) (k : Fin 16) (c : Fin 4) (p : Quad) (v : Word) (f : CanFrame) (sof : BitVec 40) (tdcv : BitVec 8)
    (step : Fin 9) (lec : Fin 7) (tx data : Bool), s.mute = false →
    let n := ch.val
    let b := x.val
    let q := s.canC n
    let live := s.canLive n = true
    let onBus := s.canOnBus n = true
    let cmd := rCAN_CMD n
    let up := fun (r : Nat) (t : State) => t.rdN r = min (s.rdN r + 1) 0xFFFFFFFF
    let errors := fun (tec rec : Nat) (t : State) => (t.canC n).tec = tec ∧ (t.canC n).rxe = rec ∧ t.rdN (rCAN_ERRCNT n) = min rec 255 * 256 + min tec 255 ∧
      t.on (fCAN_STATUS_WARN n) = decide (96 ≤ tec ∨ 96 ≤ rec) ∧
      (255 < tec → t.fcs n = fcOFF ∧ t.on (fCAN_STATUS_SYNC n) = false ∧ (t.canC n).bus = none ∧ up (rCAN_CNT_BOFF n) t ∧ Raises 0x0C02 n s t) ∧
      (tec ≤ 255 → 128 ≤ tec ∨ 128 ≤ rec → t.fcs n = fcPASSIVE ∧ (s.fcs n = fcACTIVE → Raises 0x0C01 n s t)) ∧
      (tec < 128 → rec < 128 → t.fcs n = fcACTIVE)
    let failed := fun (a code : Nat) (t : State) => t.txPend n a = false ∧ t.on (fCAN_MB_STAT_TXFAIL n a) = true ∧ t.fld (fCAN_MB_STAT_FAILCODE n a) = code ∧
      t.on (fCAN_EVENTS_TX_FAIL n) = true
    let tm := s.sofTime sof.toNat % 2 ^ 40
    let sent8 := q.send8At.at 0 b = s.busPeriod + 1
    let asked := fun (a : Nat) (t : State) => if s.txPend n a then t.rdN (rCAN_MB_STAT n a) = s.rdN (rCAN_MB_STAT n a)
      else if q.abortAt.at 0 a = s.busPeriod + 1 then failed a 3 t
      else if s.on (fCAN_MB_CFG_ONESHOT n a) = true ∧ (fcOFF ≤ s.fcs n ∨ s.on (fCAN_CFG_LISTEN_ONLY n) = true) then failed a 5 t
      else t.txPend n a = true ∧ t.flt = s.flt
    let onlyBuf := fun (l : List Nat) (a : Nat) (t : State) => RegsKept (rCAN_MB_STAT n a :: rCAN_EVENTS n :: l) s t ∧
      t = { s with regs := t.regs, flt := t.flt, can := t.can, hq := t.hq }
    let aborted := fun (a : Nat) (t : State) => (∀ o, q.bus = some o → o.buf = some a →
        (t.canC n).bus = some { o with aborted := true } ∧ t.rdN (rCAN_MB_STAT n a) = s.rdN (rCAN_MB_STAT n a)) ∧
      ((∀ o, q.bus = some o → o.buf ≠ some a) → (t.canC n).bus = q.bus ∧
        if s.txPend n a then failed a 3 t else t.rdN (rCAN_MB_STAT n a) = s.rdN (rCAN_MB_STAT n a)) ∧
      (t.canC n).excl = q.excl.filter (fun e => e.1 != a) ∧ (t.canC n).abortAt.at 0 a = s.busPeriod + 1
    let taken := s.consume (0x970 + 16 * n)
    (¬ onBus → Answers (.canBusError ch tx step lec data) s s [] ∧ Answers (.protocolException ch) s s []) ∧
    (onBus → Completes (.canBusError ch tx step lec data) s (fun t => up (rCAN_CNT_ERR n) t ∧
      errors (if tx then q.tec + step.val else q.tec) (if tx then q.rxe else q.rxe + step.val) t ∧
      t.fld (fCAN_STATUS_LEC n) = (if data then s.fld (fCAN_STATUS_LEC n) else lec.val) ∧
      t.fld (fCAN_STATUS_DLEC n) = (if data then lec.val else s.fld (fCAN_STATUS_DLEC n)))) ∧
    (onBus → Completes (.protocolException ch) s (fun t => (t.canC n).bus = none ∧ t.on (fCAN_STATUS_SYNC n) = false ∧ t.on (fCAN_EVENTS_PXE n) = true ∧
      (Raised [(0x0C06, n)] s t ∨ Raised [] s t) ∧ RegsKept [rCAN_STATUS n, rCAN_EVENTS n] s t)) ∧
    (¬ (live ∧ s.fcs n = fcOFF ∧ s.on (fCAN_CFG_BOFF_AUTO n) = true) → Answers (.busOffWaitEnd ch) s s []) ∧
    (live → s.fcs n = fcOFF → s.on (fCAN_CFG_BOFF_AUTO n) = true → Answers (.busOffWaitEnd ch) s (s.setF (fCAN_STATUS_FCS n) fcRECOVER) []) ∧
    (¬ (live ∧ s.fcs n = fcRECOVER) → Answers (.busOffRecoveryDone ch) s s []) ∧
    (live → s.fcs n = fcRECOVER → Completes (.busOffRecoveryDone ch) s (fun t => t.fcs n = fcACTIVE ∧ (t.canC n).tec = 0 ∧ (t.canC n).rxe = 0 ∧
      (t.canC n).seqRef = [] ∧ t.rdN (rCAN_ERRCNT n) = 0 ∧ t.on (fCAN_STATUS_SYNC n) = true ∧ t.on (fCAN_EVENTS_RECOVERED n) = true ∧
      Raised [(0x0CF0, n)] s t ∧ (n < 2 → bit t.si.sf.busOff n = false) ∧ RegsKept [rCAN_STATUS n, rCAN_ERRCNT n, rCAN_EVENTS n] s t)) ∧
    (CmdReady s cmd → (s.fcs n ≠ fcOFF ∨ s.domOn (56 + n) = false → Completes (.canStartRecovery ch) s (fun t => CmdOnly s t cmd 0x300 stREFUSED)) ∧
      (s.fcs n = fcOFF → s.domOn (56 + n) = true → Completes (.canStartRecovery ch) s (fun t => CmdShows t cmd 0x300 stDONE ∧ t.fcs n = fcRECOVER ∧
        OnlyRegs [cmd, rCAN_STATUS n] s t))) ∧
    (¬ onBus ∨ (f.fdf = true ∧ s.on (fCAN_CFG_FD_EN n) = false) → Answers (.canFrameReceive ch f sof) s s []) ∧
    (onBus → f.fdf = false ∨ s.on (fCAN_CFG_FD_EN n) = true → q.rxe ≤ 127 → q.tec ≤ 255 → Completes (.canFrameReceive ch f sof) s (fun t =>
      up (rCAN_CNT_RXOK n) t ∧ t.on (fCAN_STATUS_SYNC n) = true ∧ errors q.tec (q.rxe - 1) t ∧
      (f.rtr = true ∨ s.canMatch n f = none → ∀ a, a < 128 → t.rdN (rCAN_MB_STAT n a) = s.rdN (rCAN_MB_STAT n a)) ∧
      (f.rtr = false → s.canMatch n f = none → up (rCAN_CNT_NOMATCH n) t) ∧
      (∀ a, s.canMatch n f = some a → f.rtr = false →
        (s.canSeqStale n a f = true → up (rCAN_CNT_STALE n) t ∧ t.on (fCAN_EVENTS_STALE n) = true ∧ t.rdN (rCAN_MB_STAT n a) = s.rdN (rCAN_MB_STAT n a)) ∧
        (s.canSeqStale n a f = false → t.on (fCAN_MB_STAT_ND n a) = true ∧ t.rdN (rCAN_MB_RXID n a) = f.ident.toNat ∧ t.canData n a = f.bytes ∧
          t.fld (fCAN_MB_RXINFO_DLC n a) = f.dlc.toNat ∧ t.on (fCAN_MB_RXINFO_IDE n a) = f.ide ∧ t.on (fCAN_MB_RXINFO_FDF n a) = f.fdf ∧
          t.fld (fCAN_MB_STAT_CNT n a) = (s.fld (fCAN_MB_STAT_CNT n a) + 1) % 65536 ∧ t.rdN (rCAN_MB_TIME_LO n a) = tm % 2 ^ 32 ∧
          t.rdN (rCAN_MB_TIME_HI n a) = tm / 2 ^ 32 ∧
          (s.on (fCAN_MB_STAT_ND n a) = true → t.on (fCAN_MB_STAT_MSGLOST n a) = true ∧ up (rCAN_CNT_OVR n) t) ∧
          (s.fld (fCAN_MB_FWD_FWD_Q n a) ≠ 0 → t.hq.fabric.length = s.hq.fabric.length + 1) ∧ (s.fld (fCAN_MB_FWD_FWD_Q n a) = 0 → t.hq = s.hq) ∧
          ∀ e, e < 128 → e ≠ a → t.rdN (rCAN_MB_STAT n e) = s.rdN (rCAN_MB_STAT n e))))) ∧
    (CmdReady s cmd → s.canReserved n b = true → Completes (.canRequestBuffer ch x) s (fun t => CmdOnly s t cmd (0x100 + b) stINVALID) ∧
      Completes (.canAbortBuffer ch x) s (fun t => CmdOnly s t cmd (0x200 + b) stINVALID)) ∧
    (CmdReady s cmd → s.canReserved n b = false → s.canTxBuf n b = false ∨ s.on (fCAN_MB_CFG_TT n b) = true →
      Completes (.canRequestBuffer ch x) s (fun t => CmdOnly s t cmd (0x100 + b) stREFUSED) ∧
      Completes (.canAbortBuffer ch x) s (fun t => CmdOnly s t cmd (0x200 + b) stREFUSED)) ∧
    (CmdReady s cmd → s.canReserved n b = false → s.canTxBuf n b = true → s.on (fCAN_MB_CFG_TT n b) = false →
      Completes (.canRequestBuffer ch x) s (fun t => CmdShows t cmd (0x100 + b) stDONE ∧ asked b t ∧ onlyBuf [cmd] b t) ∧
      Completes (.canAbortBuffer ch x) s (fun t => CmdShows t cmd (0x200 + b) stDONE ∧ aborted b t ∧ onlyBuf [cmd] b t)) ∧
    (s.canAccepts n 0x10 p = false → Answers (.transmit ch p) s (taken 0x10 p) []) ∧
    (s.canAccepts n 0x10 p = true → Completes (.transmit ch p) s (fun t => asked (p.b 0) t ∧ onlyBuf [] (p.b 0) t ∧ t.hq = (taken 0x10 p).hq)) ∧
    (s.canAccepts n 0x12 p = false → Answers (.canAbortRecord ch p) s (taken 0x12 p) []) ∧
    (s.canAccepts n 0x12 p = true → Completes (.canAbortRecord ch p) s (fun t => aborted (p.b 0) t ∧ onlyBuf [] (p.b 0) t)) ∧
    (s.canAccepts n 0x11 p = false → Answers (.send8 ch p) s (taken 0x11 p) []) ∧
    (s.canAccepts n 0x11 p = true → s.txPend n (p.b 0) = true → Answers (.send8 ch p) s
      (((taken 0x11 p).inc (rCAN_CNT_TXBUSY n)).set1 (fCAN_EVENTS_TXBUSY n)) []) ∧
    (s.canAccepts n 0x11 p = true → s.txPend n (p.b 0) = false → Completes (.send8 ch p) s (fun t => asked (p.b 0) t ∧
      t.fld (fCAN_MB_CFG_DLC n (p.b 0)) = p.b 1 ∧ t.rdN (rCAN_MB_DATA n (p.b 0) 0) = p.w 2 ∧ t.rdN (rCAN_MB_DATA n (p.b 0) 1) = p.w 6 ∧
      onlyBuf [rCAN_MB_CFG n (p.b 0), rCAN_MB_DATA n (p.b 0) 0, rCAN_MB_DATA n (p.b 0) 1] (p.b 0) t)) ∧
    (s.inBiv = true ∨ s.on (fCAN_MB_CFG_DIR n b) = false ∨ s.canReserved n b = true → Answers (.canMbDataWrite ch x k v) s s []) ∧
    (s.inBiv = false → s.on (fCAN_MB_CFG_DIR n b) = true → s.canReserved n b = false → Answers (.canMbDataWrite ch x k v) s
      (if sent8 then (if k.val < 2 then s else s.wr (rCAN_MB_DATA n b k.val) v)
        else if s.txPend n b then s.inc (rCAN_CNT_TXBUSY n) else s.wr (rCAN_MB_DATA n b k.val) v) []) ∧
    (let due := s.on (fCAN_STS_CFG_STS_EN n) = true ∧ bit (s.fld (fCAN_STS_CFG_CELLS n)) c.val = true ∧ (s.ps = psREADY ∨ s.running = true);
      (¬ due → Answers (.statusFrameSend ch c) s s []) ∧ (due → Answers (.statusFrameSend ch c) s (s.set1 (fCAN_MB_STAT_TXPEND n (3 + c.val))) [])) ∧
    (¬ onBus ∨ s.on (fCAN_CFG_LISTEN_ONLY n) = true ∨ q.bus.isSome = true → Answers (.canArbitrationStart ch) s s []) ∧
    (onBus → s.on (fCAN_CFG_LISTEN_ONLY n) = false → q.bus = none → s.canTT n = false ∨ s.ttLevel n ≠ 3 → Completes (.canArbitrationStart ch) s (fun t =>
      t.on (fCAN_STATUS_SYNC n) = true ∧ t.flt = s.flt ∧
      (q.refPend = true → (t.canC n).refPend = false ∧
        (t.canC n).bus = some { buf := none, frame := s.refFrame n, aborted := false, again := false } ∧ OnlyRegs [rCAN_STATUS n] s { t with can := s.can }) ∧
      (∀ e r, q.excl = e :: r → q.refPend = false → q.exclStop = false → (t.canC n).excl = r ∧ (t.canC n).runs.at 0 e.2 = 0 ∧
        (t.canC n).bus.map OnBus.buf = some (some e.1)) ∧
      (∀ w, s.canWinner n = some w → q.refPend = false → q.excl = [] ∨ q.exclStop = true → s.canMayStart n w = true ∧
        (∀ a, a < 128 → s.canMayStart n a = true → (s.canFrame n w).order ≤ (s.canFrame n a).order) ∧
        (s.isStatus n w = false → (t.canC n).bus = some { buf := some w, frame := s.canFrame n w, aborted := false, again := false }) ∧
        (s.isStatus n w = true → t.canData n w = s.cellStatus n (w - 3) ∧ (t.canC n).bus.map OnBus.buf = some (some w))) ∧
      (q.refPend = false → q.excl = [] ∨ q.exclStop = true → s.canWinner n = none → t.can = s.can ∧ OnlyRegs [rCAN_STATUS n] s t ∧
        ∀ a, a < 128 → s.canMayStart n a = false))) ∧
    (onBus → s.on (fCAN_CFG_LISTEN_ONLY n) = false → q.bus = none → s.canTT n = true → s.ttLevel n = 3 →
      Answers (.canArbitrationStart ch) s (s.set1 (fCAN_STATUS_SYNC n)) []) ∧
    (q.bus = none → Answers (.canTxEnd ch .success sof tdcv) s s [] ∧ Answers (.canTxEnd ch .lost sof tdcv) s s [] ∧
      Answers (.canTxEnd ch (.error step lec data) sof tdcv) s s []) ∧
    (∀ o, q.bus = some o → o.buf = some b → onBus → q.tec ≤ 255 →
      Completes (.canTxEnd ch .success sof tdcv) s (fun t => (t.canC n).bus = none ∧ up (rCAN_CNT_TXOK n) t ∧ errors (q.tec - 1) q.rxe t ∧
        t.on (fCAN_MB_STAT_TXOK n b) = true ∧ t.txPend n b = o.again ∧ t.fld (fCAN_MB_STAT_CNT n b) = (s.fld (fCAN_MB_STAT_CNT n b) + 1) % 65536 ∧
        t.rdN (rCAN_MB_TIME_LO n b) = tm % 2 ^ 32 ∧ t.rdN (rCAN_MB_TIME_HI n b) = tm / 2 ^ 32) ∧
      (let fails := o.aborted = true ∨ s.on (fCAN_MB_CFG_ONESHOT n b) = true ∨ s.on (fCAN_CFG_TT_EN n) = true;
        Completes (.canTxEnd ch .lost sof tdcv) s (fun t => (t.canC n).bus = none ∧ (fails → failed b (if o.aborted then 3 else 1) t) ∧
          (¬ fails → t.rdN (rCAN_MB_STAT n b) = s.rdN (rCAN_MB_STAT n b) ∧ t.flt = s.flt)) ∧
        (q.tec + step.val ≤ 255 → Completes (.canTxEnd ch (.error step lec data) sof tdcv) s (fun t => (t.canC n).bus = none ∧
          up (rCAN_CNT_ERR n) t ∧ errors (q.tec + step.val) q.rxe t ∧ (fails → failed b (if o.aborted then 3 else 2) t) ∧
          (¬ fails → t.rdN (rCAN_MB_STAT n b) = s.rdN (rCAN_MB_STAT n b)))))) ∧
    (∀ o, q.bus = some o → o.buf = none → Completes (.canTxEnd ch .lost sof tdcv) s (fun t => (t.canC n).bus = none ∧ t.on (fCAN_STATUS_TTMASTER n) = false ∧
      RegsKept [rCAN_STATUS n] s t))

/-- R393–R396: time-triggered operation of a channel.

Completion is stated of: canRestartTt, ttCycleStart, masterPrioritySend, ttTrigger, ttTxWindowMiss, ttReferenceLoss. -/
def Obligations.CanTimeTriggered : Prop :=
  ∀ (s : State) (ch : Fin 4) (x : Fin 256), s.mute = false →
    let n := ch.val
    let t0 := x.val
    let q := s.canC n
    let lv := s.ttLevel n
    let cmd := rCAN_CMD n
    let runs := s.canTT n = true ∧ lv ≠ 3 ∧ s.clk.counting = true
    let master := s.on (fCAN_STATUS_TTMASTER n)
    let set := fun (u : State) (y : CanCh) => u.modCan n (fun _ => y)
    let missed := fun (t : State) => t.rdN (rCAN_CNT_TTMISS n) = min (s.rdN (rCAN_CNT_TTMISS n) + 1) 0xFFFFFFFF ∧ (t.canC n).missed = true ∧
      (lv = 0 → t.on (fCAN_EVENTS_TT_LEVEL n) = true ∧ Raises 0x0C07 n s t)
    (¬ runs → Answers (.ttCycleStart ch) s s [] ∧ Answers (.masterPrioritySend ch) s s []) ∧
    (runs → Answers (.ttCycleStart ch) s
      (set s { q with refSeen := false, refPend := master && s.on (fCAN_TT_CFG_MASTER_EN n), cyc := s.ttCountAt n s.now }) []) ∧
    (runs → s.on (fCAN_TT_CFG_MASTER_EN n) = false ∨ master = true ∨ q.refSeen = true → Answers (.masterPrioritySend ch) s s []) ∧
    (runs → s.on (fCAN_TT_CFG_MASTER_EN n) = true → master = false → q.refSeen = false →
      Answers (.masterPrioritySend ch) s (set s { q with refPend := true, cyc := s.ttCountAt n s.now }) []) ∧
    (s.trigActs n t0 = false ∨ 3 ≤ s.trigType n t0 → Answers (.ttTrigger ch x) s s []) ∧
    (s.trigActs n t0 = true → s.trigType n t0 = 0 → q.exclStop = true → Answers (.ttTrigger ch x) s s []) ∧
    (s.trigActs n t0 = true → s.trigType n t0 = 0 → q.exclStop = false → Answers (.ttTrigger ch x) s
      ((set s { q with excl := q.excl ++ [(s.trigBuf n t0, t0)] }).set1 (fCAN_MB_STAT_TXPEND n (s.trigBuf n t0))) []) ∧
    (s.trigActs n t0 = true → s.trigType n t0 = 1 →
      let now := q.taken.at 0 (s.trigBuf n t0) + 1;
      (q.seen.at 0 t0 ≠ now → Answers (.ttTrigger ch x) s (set s { q with seen := q.seen.put 0 t0 now }) []) ∧
      (q.seen.at 0 t0 = now → Completes (.ttTrigger ch x) s (fun t => missed t ∧ t.ttLevel n = max lv 1 ∧
        RegsKept [rCAN_CNT_TTMISS n, rCAN_STATUS n, rCAN_EVENTS n] s t ∧ t = { s with regs := t.regs, can := t.can, flt := t.flt }))) ∧
    (s.trigActs n t0 = true → s.trigType n t0 = 2 → Answers (.ttTrigger ch x) s
      (set s { q with winEnd := q.sync - 1 + s.trigNext n t0 * (s.fld (fCAN_TT_TIMING_NTU n) * 3200) }) []) ∧
    (q.excl.find? (fun e => e.2 == t0) = none → Answers (.ttTxWindowMiss ch x) s s []) ∧
    (∀ e : Nat × Nat, q.excl.find? (fun e => e.2 == t0) = some e → e.1 < 128 → Completes (.ttTxWindowMiss ch x) s (fun t => missed t ∧
      (t.canC n).excl = q.excl.filter (fun e => e.2 != t0) ∧
      (t.canC n).runs.at 0 t0 = q.runs.at 0 t0 + 1 ∧ t.txPend n e.1 = false ∧ t.on (fCAN_MB_STAT_TXFAIL n e.1) = true ∧
      t.fld (fCAN_MB_STAT_FAILCODE n e.1) = 4 ∧ t.ttLevel n = (if q.runs.at 0 t0 = 0 then max lv 1 else max lv 2) ∧
      (q.runs.at 0 t0 ≠ 0 → lv < 2 → (t.canC n).exclStop = true ∧ Raises 0x0C08 n s t) ∧
      RegsKept [rCAN_CNT_TTMISS n, rCAN_STATUS n, rCAN_EVENTS n, rCAN_MB_STAT n e.1] s t)) ∧
    (s.canTT n = false ∨ lv = 3 → Answers (.ttReferenceLoss ch) s s []) ∧
    (s.canTT n = true → lv ≠ 3 → Completes (.ttReferenceLoss ch) s (fun t => t.ttLevel n = 3 ∧ t.on (fCAN_STATUS_TTMASTER n) = false ∧
      t.canC n = { q with refPend := false } ∧ Raised [(0x0C09, n)] s t ∧ RegsKept [rCAN_STATUS n, rCAN_EVENTS n] s t)) ∧
    (CmdReady s cmd → s.on (fCAN_CFG_TT_EN n) = false → Completes (.canRestartTt ch) s (fun t => CmdOnly s t cmd 0x500 stREFUSED)) ∧
    (CmdReady s cmd → s.on (fCAN_CFG_TT_EN n) = true → (∀ e ∈ q.excl, e.1 < 128) →
      Completes (.canRestartTt ch) s (fun t => CmdShows t cmd 0x500 stDONE ∧ t.ttLevel n = 0 ∧
      t.canC n = { q with sync := 0, refSeen := false, refPend := false, excl := [], exclStop := false, missed := false, whole := false, runs := [], winEnd := 0 } ∧
      (∀ e ∈ q.excl, t.txPend n e.1 = false) ∧ Raised (if lv = 2 ∨ lv = 3 then [(0x0CF0, n)] else []) s t))

/-- R353–R361, R371–R375, R450–R459: faults and housekeeping.

Completion is stated of: pennantWrite, bivouacEntry, bivouacFrame, bivTmaxExpiry, hkSlot, throttleTick, thermalShutdownReading. -/
def Obligations.FaultsAndHousekeeping : Prop :=
  ∀ (s : State) (x : HkTask) (d : Option (BitVec 16)),
    let lit := s.mute = false
    let biv := s.inBiv = true
    let up := fun (r : Nat) (t : State) => t.rdN r = min (s.rdN r + 1) 0xFFFFFFFF
    let k := s.fld fHK_STATUS_SLOT
    let slotRuns := lit ∧ ¬ biv ∧ s.domOn 1 = true ∧ s.domOn 2 = true ∧ taskFits k x = true
    let next := fun (t : State) => t.fld fHK_STATUS_SLOT = (k + 1) % 64 ∧ t.rdN rHK_ROUND = (s.rdN rHK_ROUND + if k = 63 then 1 else 0) % 2 ^ 32
    let tripped := fun (fail : Bool) (t : State) => t.on fHK_TSD_TRIPPED = true ∧ t.on fHK_TSD_RESTART_OK = false ∧ up rHK_CNT_TSD t ∧
      Raises (if fail then 0x1006 else 0x1001) 0x20 s t ∧ t.hk.dieFail = fail ∧ (s.ps ≠ psHALT → EnteredHalt s t 14)
    let u := if s.on fHK_TSD_RESTART_OK then { s with hk := { s.hk with reads := s.hk.reads + 1 } }.setF fHK_TSD_SECONDS (min 65535 ((s.hk.reads + 1) / 100000)) else s
    (lit → s.flt.raised = [] → Answers .pennantWrite s s []) ∧
    (∀ e : Raise × List Raise, nextRaise s.flt.raised = some e → lit → Completes .pennantWrite s (fun t =>
      let r := e.1;
      let slot := s.rdN rFLT_RING_WR % 4096;
      let cls := faultClass r.code;
      let bound := fun (c : Nat) => biv ∧ cls ≠ 0 ∧ (s.boundTo r.code r.uidx c = true ∨ (stopsAll r.code = true ∧ s.cst c = cNORMAL));
      r ∈ s.flt.raised ∧ (∀ f : Raise × List Raise, firstRaise s.flt.raised = some f → (∀ y ∈ s.flt.raised, y.before f.1 = false) ∧
        (r = f.1 ∨ f.1.clears r = true) ∧ ∀ y ∈ s.flt.raised, f.1.clears y = true → f.1.clears r = true) ∧ t.flt.raised = e.2 ∧ e.2.length + 1 = s.flt.raised.length ∧
      (∀ p : Pennant, t.flt.ring.at none slot = some p → p.code = r.code ∧ p.uidx = r.uidx ∧ p.time = r.time ∧ p.epoch = r.epoch ∧
        p.detail = r.detail ∧ p.pcc = s.rdN rPCH_PCC ∧ p.flags % 4 = cls % 4 ∧ bit p.flags 4 = s.inBiv) ∧
      t.flt.ring.at none slot ≠ none ∧ (∀ j, j ≠ slot → t.flt.ring.at none j = s.flt.ring.at none j) ∧
      t.rdN rFLT_RING_WR = (s.rdN rFLT_RING_WR + 1) % 2 ^ 32 ∧ t.fld ⟨rFLT_LAST, 15, 0⟩ = r.code % 65536 ∧
      (cls = 2 → up rFLT_CNT_PERM t ∧ t.on fFLT_EVENTS_PERMANENT = true) ∧ (cls = 1 → up rFLT_CNT_TRANS t) ∧
      (∀ c, c < 4 → bound c → bit (t.fld (fSI_CELL_STATUS_DEMAND c)) 5 = true) ∧
      (∀ c, c < 4 → ¬ bound c → t.rdN (rSI_CELL_STATUS c) = s.rdN (rSI_CELL_STATUS c)) ∧ t = { s with regs := t.regs, flt := t.flt })) ∧
    (lit → s.on fSI_STATUS_MP_LOST = false ∨ biv → Answers .bivouacEntry s s []) ∧
    (lit → s.on fSI_STATUS_MP_LOST = true → s.ps = psRUN ∨ s.ps = psREADY → Completes .bivouacEntry s (fun t => t.ps = psBIVOUAC ∧
      t.fld fPWR_STATUS_LAST_CAUSE = 10 ∧ t.on fFLT_STATUS_BIVOUAC = true ∧ t.on fFLT_EVENTS_BIVOUAC = true ∧
      t.rdN rFLT_BIV_TIME_LO = s.bridged .mgmt % 2 ^ 32 ∧ t.rdN rFLT_BIV_TIME_HI = s.bridged .mgmt / 2 ^ 32 % 2 ^ 32 ∧ t.domOn 8 = false ∧
      (∀ n, n < 12 → (t.leg n).waiting = false) ∧ t.aux = s.aux ∧ t.gd = s.gd ∧
      (∀ c, c < 4 → t.cst c = s.cst c) ∧ t.flt.raised = s.flt.raised)) ∧
    (lit → s.on fSI_STATUS_MP_LOST = true → s.ps = psHALT → Answers .bivouacEntry s (s.setF fPWR_STATUS_LAST_CAUSE 10) []) ∧
    (lit → s.on fSI_STATUS_MP_LOST = true → s.ps = psPITCH → Completes .bivouacEntry s (fun t => EnteredHalt s t 10)) ∧
    (lit → ¬ biv → Answers .bivouacFrame s s [] ∧ Answers .bivTmaxExpiry s s []) ∧
    (lit → biv → Completes .bivouacFrame s (fun t => (∀ n, n < 2 → t.canData n 2 = s.bivBytes ∧ t.txPend n 2 = true) ∧ t.flt.bivSeq = (s.flt.bivSeq + 1) % 256 ∧
      (∀ n, n < 4 → ∀ b, b < 128 → b ≠ 2 → t.txPend n b = s.txPend n b) ∧ t.flt.raised = s.flt.raised)) ∧
    (lit → biv → s.fld fFLT_CFG_BIV_TMAX = 0 → Answers .bivTmaxExpiry s s []) ∧
    (lit → biv → s.fld fFLT_CFG_BIV_TMAX ≠ 0 → Completes .bivTmaxExpiry s (fun t =>
      (∀ c, c < 4 → s.cst c = cNORMAL → bit (t.fld (fSI_CELL_STATUS_DEMAND c)) 5 = true ∧ t.on fFLT_EVENTS_BIV_STOP = true) ∧
      (∀ c, c < 4 → s.cst c ≠ cNORMAL → t.rdN (rSI_CELL_STATUS c) = s.rdN (rSI_CELL_STATUS c)) ∧
      OnlyRegs [rSI_CELL_STATUS 0, rSI_CELL_STATUS 1, rSI_CELL_STATUS 2, rSI_CELL_STATUS 3, rFLT_EVENTS] s t)) ∧
    (lit → ¬ slotRuns → ∀ b : Bool, Answers (.hkSlot x b) s s []) ∧
    (slotRuns → Completes (.hkSlot x false) s (fun t => next t ∧ up rHK_CNT_OVERRUN t ∧ bit (t.rdN rHK_EVENTS) 6 = true ∧
      (Raised [(0x1007, 255)] s t ∨ Raised [] s t) ∧ RegsKept [rHK_STATUS, rHK_ROUND, rHK_CNT_OVERRUN, rHK_EVENTS] s t)) ∧
    (slotRuns → Completes (.hkSlot x true) s (fun t => next t ∧ t.rdN rHK_CNT_OVERRUN = s.rdN rHK_CNT_OVERRUN ∧
      (∀ v : BitVec 16, x = .die (some v) → t.fld fHK_DIE_T = v.toNat ∧ t.on fHK_DIE_INVALID = false ∧
        t.on fHK_STATUS_KEY_OK = (if s.hk.deferred then decide (-368 ≤ v.toInt ∧ v.toInt ≤ 1488) else decide (-400 ≤ v.toInt ∧ v.toInt ≤ 1520))) ∧
      (x = .die none → t.on fHK_DIE_INVALID = true ∧ t.on fHK_STATUS_KEY_OK = false) ∧
      (∀ v : BitVec 16, x = .rail v → t.rdN (rHK_RAIL (k - 17)) = v.toNat ∧ t.flt = s.flt) ∧
      (∀ v : Option (BitVec 40), x = .temp v → s.fld (fHK_TEMP_CFG_TYPE (k - 1)) ≠ 0 →
        (∀ y : Int, s.tempOf (k - 1) v = some y → t.fldI (fHK_TEMP_VAL_VALUE (k - 1)) = y ∧ t.on (fHK_TEMP_VAL_INVALID (k - 1)) = false) ∧
        (s.tempOf (k - 1) v = none → t.on (fHK_TEMP_VAL_INVALID (k - 1)) = true ∧
          (s.on (fHK_TEMP_VAL_INVALID (k - 1)) = false → Raises 0x1004 (k - 1) s t))) ∧
      (x = .evaluate → ∀ c, c < 4 → s.cellUsed c = true →
        t.on (fHK_THROTTLE_EXCEEDED c) = t.cellOver c ∧ t.on (fHK_THROTTLE_RELEASING c) = t.cellBelow c) ∧
      (x = .ref ∨ x = .idle → RegsKept [rHK_STATUS, rHK_ROUND] s t ∧ t = { s with regs := t.regs }))) ∧
    (lit → biv → Answers .throttleTick s s []) ∧
    (lit → ¬ biv → Completes .throttleTick s (fun t => ∀ c, c < 4 →
      let step := s.fld (fHK_THROTTLE_STEP c);
      let least := s.fld fHK_CFG_THR_FLOOR;
      let rest := s.hk.rel.at 0 c ≠ 0 ∧ 10 * secU ≤ s.now - (s.hk.rel.at 0 c - 1);
      (s.cellUsed c = false → t.rdN (rHK_THROTTLE c) = s.rdN (rHK_THROTTLE c)) ∧
      (s.cellUsed c = true → s.cellOver c = true → t.fld (fHK_THROTTLE_STEP c) = max (step - 1) least ∧
        t.fld (fHK_THROTTLE_LIMIT c) = max (step - 1) least * s.fld (fBND_LIMITS_IMAX c) / 16 % 65536 ∧
        t.on (fFLT_CELL_THROTTLED c) = decide (max (step - 1) least < 16) ∧ (step = 16 → least < 16 → Raises 0x1002 c s t)) ∧
      (s.cellUsed c = true → s.cellOver c = false → ¬ rest → t.rdN (rHK_THROTTLE c) = s.rdN (rHK_THROTTLE c)) ∧
      (s.cellUsed c = true → s.cellOver c = false → rest → t.fld (fHK_THROTTLE_STEP c) = min (step + 1) 16))) ∧
    (s.pwr.prelude.isSome = true → (∀ v, d = some v → 1760 ≤ v.toInt) → Answers (.thermalShutdownReading d) s s []) ∧
    (s.pwr.prelude = none → s.mute = true ∨ s.domOn 1 = false → Answers (.thermalShutdownReading d) s s []) ∧
    (s.pwr.prelude = none → lit → s.domOn 1 = true → s.on fHK_TSD_TRIPPED = false →
      (d = none → Completes (.thermalShutdownReading d) s (tripped true)) ∧
      (∀ v, d = some v → 2160 < v.toInt → 2 ≤ s.hk.hot → Completes (.thermalShutdownReading d) s (tripped false)) ∧
      (∀ v, d = some v → 2160 < v.toInt → s.hk.hot < 2 → Answers (.thermalShutdownReading d) s { u with hk := { u.hk with hot := s.hk.hot + 1 } } []) ∧
      (∀ v, d = some v → v.toInt ≤ 2160 → Answers (.thermalShutdownReading d) s { u with hk := { u.hk with hot := 0 } } [])) ∧
    (s.pwr.prelude = none → lit → s.domOn 1 = true → s.on fHK_TSD_TRIPPED = true → Completes (.thermalShutdownReading d) s (fun t =>
      t.hk.reads = s.hk.reads + 1 ∧ t.fld fHK_TSD_SECONDS = min 65535 ((s.hk.reads + 1) / 100000) ∧
      (t.on fHK_TSD_TRIPPED = false ↔ ∃ v, d = some v ∧ v.toInt < 1760 ∧ 1000000 ≤ s.hk.reads + 1 ∧ s.hk.dieFail = false) ∧
      (t.on fHK_TSD_TRIPPED = false → t.on fHK_TSD_RESTART_OK = true ∧ Raised [(0x10F0, 0x20)] s t) ∧ RegsKept [rHK_TSD] s t))

/-- R414, R415, R422, R423, R428–R431, R457: the key at run time and the router.

Completion is stated of: keyRemoved, keyInserted, deferredKeyWrite, markPending, setpointRoute, setpointTimeout. -/
def Obligations.KeysAndSetpoints : Prop :=
  ∀ (s : State) (j : KeyAtJ15) (e : Fin 256) (fails : Bool),
    let lit := s.mute = false
    let q := s.key
    let other := 1 - s.fld fPCH_STATUS_SLOT
    let shown := [rPCH_SLOTS, rPCH_FLOORS]
    let next := fun (k : KeySt) => k.want.getD k.desc
    (q.present = false → Completes .keyRemoved s (fun t => t = s)) ∧
    (q.present = true → Completes .keyRemoved s (fun t => t.key = { q with present := false, answers := false, foreign := false } ∧
      (lit → bit (t.rdN rPCH_EVENTS) 3 = true ∧ Raised [(0x0E04, 255)] s t) ∧ (s.mute = true → t.regs = s.regs ∧ t.flt = s.flt) ∧
      RegsKept [rPCH_EVENTS] s t ∧ t = { s with regs := t.regs, key := t.key, flt := t.flt })) ∧
    (q.present = true ∨ j = .absent → Completes (.keyInserted j) s (fun t => t = s)) ∧
    (q.present = false → Completes (.keyInserted .dead) s (fun t => t = { s with key := { q with present := true, answers := false } })) ∧
    (q.present = false → lit → q.known = true → (descInForce q.flash).2.uid = q.uid → Completes (.keyInserted .same) s (fun t =>
      t.key = { q with present := true, answers := true } ∧ Raised [(0x0EF0, 255)] s t ∧ t = { s with key := t.key, flt := t.flt })) ∧
    (q.present = false → lit → q.known = true → (descInForce q.flash).2.uid ≠ q.uid → Completes (.keyInserted .same) s (fun t =>
      t.key = { q with present := true, answers := true, foreign := true } ∧ Raised [(0x0E05, 255)] s t ∧ bit (t.rdN rPCH_EVENTS) 4 = true ∧
      RegsKept [rPCH_EVENTS] s t)) ∧
    (q.present = false → lit → q.known = false → Completes (.keyInserted .same) s (fun t => t.key = { q with
        present := true, answers := true, known := true, uid := (descInForce q.flash).2.uid, copy := (descInForce q.flash).1, desc := (descInForce q.flash).2 } ∧
      t.rdN rPCH_UID_LO = (descInForce q.flash).2.uid % 2 ^ 32 ∧ t.flt = s.flt ∧ RegsKept (rPCH_UID_LO :: rPCH_UID_HI :: shown) s t)) ∧
    (lit → s.keyWritable = false → Answers (.deferredKeyWrite fails) s s []) ∧
    (lit → q.pccPending = false → q.want = none → s.mgt.upd = none → Answers (.deferredKeyWrite fails) s s []) ∧
    (lit → s.keyWritable = true → q.want = none → s.mgt.upd = none → q.pccPending = true →
      Completes (.deferredKeyWrite false) s (fun t => t.key = { q with flash := journalAppend q.flash (s.rdN rPCH_PCC), pccPending := false, failed := false } ∧
        t.regs = s.regs ∧ Raised (if q.failed then [(0x0EF0, 255)] else []) s t) ∧
      Completes (.deferredKeyWrite true) s (fun t => t.key = { q with failed := true } ∧ Raised [(0x0E08, 255)] s t ∧ RegsKept [rPCH_EVENTS] s t)) ∧
    (∀ d : Desc, q.want = some d → lit → s.keyWritable = true → s.mgt.upd = none → q.pccPending = false →
      Completes (.deferredKeyWrite false) s (fun t => t.key.desc = { d with dseq := (q.desc.dseq + 1) % 65536 } ∧ t.key.want = none ∧
        t.key.copy = (if q.copy = 0 then 1 else 0) ∧ t.key.failed = false ∧ (q.fuses ≤ t.key.fuses) ∧
        (∀ k, k < 2 → q.desc.st k = slPENDING → d.st k = slACTIVE → d.floor ≤ t.key.fuses) ∧ t.fld fPCH_SLOTS_DSEQ = (q.desc.dseq + 1) % 65536 ∧
        t.fld fPCH_SLOTS_STATE_A = d.stA % 8 ∧ t.fld fPCH_SLOTS_STATE_B = d.stB % 8 ∧ RegsKept shown s t) ∧
      Completes (.deferredKeyWrite true) s (fun t => t.key = { q with failed := true } ∧ Raised [(0x0E08, 255)] s t)) ∧
    (lit → s.inBiv = true → s.cmdStatus rPCH_CMD ≠ stBUSY → Completes (.markPending fails) s (fun t => CmdOnly s t rPCH_CMD 0x10 stREFUSED)) ∧
    (CmdReady s rPCH_CMD → s.mayMark = false → Completes (.markPending fails) s (fun t => CmdOnly s t rPCH_CMD 0x10 stREFUSED)) ∧
    (CmdReady s rPCH_CMD → s.mayMark = true → Completes (.markPending fails) s (fun t => CmdShows t rPCH_CMD 0x10 stDONE ∧
      (next t.key).st other = slPENDING ∧ (next t.key).st (1 - other) = (next q).st (1 - other) ∧ (fails = false → t.key.want = none) ∧
      (fails = true → t.key.flash = q.flash ∧ t.key.desc = q.desc) ∧ RegsKept (rPCH_CMD :: rPCH_EVENTS :: shown) s t)) ∧
    (lit → s.routerOn = false → Answers (.setpointRoute fails) s s []) ∧
    (lit → s.routerOn = true → s.spNext = none → Answers (.setpointRoute false) s s []) ∧
    (lit → s.routerOn = true → (∀ x ∈ s.hq.passed, ¬ (x.1 = 2 ∧ x.2.opcode = 0x10)) → Answers (.setpointRoute true) s s []) ∧
    (∀ x : Nat × Nat, s.spNext = some x → lit → s.routerOn = true → x.2 < 128 → Completes (.setpointRoute false) s (fun t =>
      x ∈ s.spWaiting ∧ (∀ y ∈ s.spWaiting, s.spAge y ≤ s.spAge x) ∧ t.on (fCAN_MB_STAT_ND x.1 x.2) = false ∧
      t.key.spCnt.at 0 (x.1 * 128 + x.2) = s.fld (fCAN_MB_STAT_CNT x.1 x.2) ∧
      t.rdN rPCH_CNT_SP_LOST = min (s.rdN rPCH_CNT_SP_LOST + ((s.fld (fCAN_MB_STAT_CNT x.1 x.2) + 65536 - q.spCnt.at 0 (x.1 * 128 + x.2)) % 65536 - 1)) 0xFFFFFFFF ∧
      (∀ k ∈ s.spFor x.1 x.2, (t.spE k).lastAt = s.now ∧ (t.spE k).stale = false) ∧ (∀ k, k ∉ s.spFor x.1 x.2 → t.spE k = s.spE k))) ∧
    (lit → (s.ps ≠ psRUN ∨ s.routerOn = false ∨ q.spN ≤ e.val ∨ s.spN e.val 16 2 = 0 ∨ (s.spE e.val).stale = true) →
      Answers (.setpointTimeout e) s s []) ∧
    (lit → s.ps = psRUN → s.routerOn = true → e.val < q.spN → s.spN e.val 16 2 ≠ 0 → (s.spE e.val).stale = false → Completes (.setpointTimeout e) s (fun t =>
      (t.spE e.val).stale = true ∧ bit (t.rdN rPCH_EVENTS) 5 = true ∧ Raises 0x0E06 255 s t ∧ (∀ k, k ≠ e.val → t.spE k = s.spE k) ∧
      (s.spN e.val 18 1 ≠ 1 → RegsKept [rPCH_EVENTS] s t ∧ t = { s with regs := t.regs, key := t.key, flt := t.flt }) ∧
      (s.spN e.val 18 1 = 1 → s.rdN rPCH_CNT_SP < t.rdN rPCH_CNT_SP ∨ s.rdN rPCH_CNT_SP_REF < t.rdN rPCH_CNT_SP_REF ∨
        s.rdN rPCH_CNT_SP = 0xFFFFFFFF ∨ s.rdN rPCH_CNT_SP_REF = 0xFFFFFFFF)))

/-- R397, R433–R439, R442, R459: power states.  `LAST_CAUSE` of the entry under `AUTO_RUN` is a free value.

Completion is stated of: aux24PowerUp, aux24Cutoff, aux24Dropout, aux24Low, aux24High, wakeEdge, can0DominantWake, wakeFrame, wakeFrameErrors,
runCommand, readyCommand, listenCommand, stowCommand, restartCommand, restartEdge, autoRunEntry. -/
def Obligations.PowerStates : Prop :=
  ∀ (s : State) (d : Option (BitVec 16)) (n : Fin 2) (fd ide : Bool) (ident : BitVec 29) (dlc : BitVec 4) (data : BitVec 64) (w v : BitVec 16)
    (l : Option (List Byte)),
    let lit := s.mute = false
    let nothing := fun (c : Instr) => Completes c s (fun t => t = s)
    let aux := w.toNat * 65536 + v.toNat
    let cmd := rPWR_CMD
    let busy := s.cmdStatus cmd = stBUSY
    let awake := s.timeOk = true ∧ s.ist = iACTIVE ∧ s.hal.barred = false
    let tripped := s.on fHK_TSD_TRIPPED = true
    let held := fun (t : State) => t.rdN rPWR_CNT_RESTART_IGN = min (s.rdN rPWR_CNT_RESTART_IGN + 1) 0xFFFFFFFF ∧
      t.on fPWR_EVENTS_RESTART_HELD = true ∧ Raised [(0x0F30, 255)] s t ∧ RegsKept [rPWR_CNT_RESTART_IGN, rPWR_EVENTS, cmd] s t
    let idle := (∀ c, c < 4 → (s.bst c = 0 ∨ s.bst c = bIDLE ∨ s.bst c = bHALTED) ∧ s.pstate c ≠ 5) ∧ (∀ k, k < 5 → s.est k ≠ eRUNNING) ∧
      (∀ x ∈ [2, 3, 5], s.fld fBND_DCL_STATUS_DSTATE ≠ x)
    (s.pwr.powered = true → nothing (.aux24PowerUp d)) ∧
    (s.pwr.powered = false → Completes (.aux24PowerUp d) s (fun t => NewLife s t 1 15 d)) ∧
    Completes .aux24Cutoff s (fun t => t.ps = psSTOW ∧ t.pwr.powered = false ∧ t.pwr.prelude = none ∧ (∀ k, k < 132 → t.domOn k = false) ∧
      t.key.flash = s.key.flash ∧ t.pending = s.pending ∧ t.hq = State.reset.hq) ∧
    (s.asleep psSTOW = false → s.asleep psLISTEN = false → nothing (.wakeEdge d)) ∧
    (s.asleep psSTOW = true ∨ s.asleep psLISTEN = true → Completes (.wakeEdge d) s (fun t => NewLife s t 2 s.ps d)) ∧
    (s.asleep psSTOW = false ∨ s.on fPWR_CFG_STOW_CAN0 = false → nothing (.can0DominantWake d)) ∧
    (s.asleep psSTOW = true → s.on fPWR_CFG_STOW_CAN0 = true → Completes (.can0DominantWake d) s (fun t => NewLife s t 3 psSTOW d)) ∧
    (s.listens n.val = false → nothing (.wakeFrameErrors n d)) ∧
    (s.listens n.val = false ∨ fd = true ∨ s.wakes n.val ide ident.toNat dlc.toNat data.toNat = false → nothing (.wakeFrame n fd ide ident dlc data d)) ∧
    (s.listens n.val = true → Completes (.wakeFrameErrors n d) s (fun t => NewLife s t 6 psLISTEN d) ∧
      (fd = false → s.wakes n.val ide ident.toNat dlc.toNat data.toNat = true →
        Completes (.wakeFrame n fd ide ident dlc data d) s (fun t => NewLife s t (4 + n.val) psLISTEN d))) ∧
    (lit → s.ps = psHALT → Answers (.aux24Dropout w v) s (s.wrN rPWR_AUX24 aux) []) ∧
    (lit → s.ps ≠ psHALT → Completes (.aux24Dropout w v) s (fun t => EnteredHalt s t 13 ∧ t.rdN rPWR_AUX24 = aux ∧
      t.on fPWR_EVENTS_DROPOUT = true ∧ Raises 0x0F02 255 s t)) ∧
    (lit → Answers (.aux24Low w v) s ((s.wrN rPWR_AUX24 aux).set1 fPWR_EVENTS_LOW) [(0x0F01, 255)] ∧
      Answers (.aux24High w v) s ((s.wrN rPWR_AUX24 aux).set1 fPWR_EVENTS_HIGH) [(0x0F03, 255)]) ∧
    (CmdReady s cmd → s.ps = psRUN → Completes .runCommand s (fun t => CmdOnly s t cmd 0x10 stDONE)) ∧
    (CmdReady s cmd → s.ps = psREADY → awake → Completes .runCommand s (fun t => CmdShows t cmd 0x10 stDONE ∧ t.ps = psRUN ∧
      t.fld fPWR_STATUS_LAST_CAUSE = 9 ∧ OnlyRegs [cmd, rPWR_STATUS] s t)) ∧
    (CmdReady s cmd → s.ps ≠ psRUN → ¬ (s.ps = psREADY ∧ awake) → Completes .runCommand s (fun t => CmdOnly s t cmd 0x10 stREFUSED)) ∧
    (CmdReady s cmd → s.ps = psREADY → Completes .readyCommand s (fun t => CmdOnly s t cmd 0x11 stDONE)) ∧
    (CmdReady s cmd → s.ps = psRUN → idle → Completes .readyCommand s (fun t => CmdShows t cmd 0x11 stDONE ∧ t.ps = psREADY ∧
      t.fld fPWR_STATUS_LAST_CAUSE = 9 ∧ (∀ g, g < 24 → (t.gate g).drive.isOn = false) ∧ RegsKept [cmd, rPWR_STATUS] s t ∧
      t = { s with regs := t.regs, gd := t.gd })) ∧
    (CmdReady s cmd → s.ps ≠ psREADY → ¬ (s.ps = psRUN ∧ idle) → Completes .readyCommand s (fun t => CmdOnly s t cmd 0x11 stREFUSED)) ∧
    (lit → ¬ (s.ps = psREADY ∧ s.on fPWR_CFG_AUTO_RUN = true ∧ awake) → nothing .autoRunEntry) ∧
    (lit → s.ps = psREADY → s.on fPWR_CFG_AUTO_RUN = true → awake → Completes .autoRunEntry s (fun t => t.ps = psRUN ∧ RegsKept [rPWR_STATUS] s t ∧
      t = { s with regs := t.regs, free := s.free + 1 })) ∧
    (lit → s.inBiv = true ∨ busy → nothing (.listenCommand l) ∧ nothing (.stowCommand l) ∧ nothing (.restartCommand d)) ∧
    (lit → s.inBiv = false → ¬ busy → (s.maySleep true = false → Completes (.listenCommand l) s (fun t => CmdOnly s t cmd 0x20 stREFUSED)) ∧
      (s.maySleep false = false → Completes (.stowCommand l) s (fun t => CmdOnly s t cmd 0x21 stREFUSED))) ∧
    (lit → s.inBiv = false → ¬ busy → s.maySleep true = true → Completes (.listenCommand l) s (fun t =>
      ((s.flushAll l).unflushed ≠ 0 → t.ps = s.ps ∧ CmdShows t cmd 0x20 stREFUSED) ∧
      ((s.flushAll l).unflushed = 0 → t.ps = psLISTEN ∧ t.fld fPWR_STATUS_LAST_CAUSE = 9 ∧ t.rd rPWR_CFG = (s.flushAll l).rd rPWR_CFG ∧
        (∀ a ∈ wakeRegs, t.rd a = (s.flushAll l).rd a) ∧ (∀ k, k < 132 → t.domOn k = (k == 0 || k == 56 || k == 57)) ∧ t.pending = s.pending ∧
        t.key.flash = (s.flushAll l).key.flash))) ∧
    (lit → s.inBiv = false → ¬ busy → s.maySleep false = true → Completes (.stowCommand l) s (fun t =>
      ((s.flushAll l).unflushed ≠ 0 → t.ps = s.ps ∧ CmdShows t cmd 0x21 stREFUSED) ∧
      ((s.flushAll l).unflushed = 0 → t.ps = psSTOW ∧ t.fld fPWR_STATUS_LAST_CAUSE = 9 ∧ t.rd rPWR_CFG = (s.flushAll l).rd rPWR_CFG ∧
        (∀ k, k < 132 → t.domOn k = (k == 0)) ∧ t.pending = s.pending ∧ t.key.flash = (s.flushAll l).key.flash))) ∧
    (lit → s.inBiv = false → ¬ busy → s.ps ≠ psREADY → s.ps ≠ psHALT → Completes (.restartCommand d) s (fun t => CmdOnly s t cmd 0x30 stREFUSED)) ∧
    (lit → s.inBiv = false → ¬ busy → s.ps = psREADY ∨ s.ps = psHALT →
      (tripped → Completes (.restartCommand d) s (fun t => held t ∧ CmdShows t cmd 0x30 stREFUSED)) ∧
      (¬ tripped → Completes (.restartCommand d) s (fun t => NewLife s t 8 s.ps d ∧ t.rdN rFLT_RING_WR = (s.rdN rFLT_RING_WR + s.flt.raised.length) % 2 ^ 32))) ∧
    (lit → s.ps ≠ psHALT → s.inBiv = false → nothing (.restartEdge d)) ∧
    (lit → s.ps = psHALT ∨ s.inBiv = true → (tripped → Completes (.restartEdge d) s held) ∧
      (¬ tripped → Completes (.restartEdge d) s (fun t => NewLife s t 7 s.ps d)))

/-- R425, R426, R440–R446: Pitch and supply failures.  `LAST_CAUSE` after a lost PLL lock is a free value.

Completion is stated of: pitchSequence, domainFailure, pllLockLoss, xtalDeviationWindow, mgmtClockWindow. -/
def Obligations.PitchAndSupplies : Prop :=
  ∀ (s : State) (r : PitchRun) (d : Fin 132) (k : Fin 3) (w : BitVec 16), s.mute = false →
    let n := d.val
    let up := fun (x : Nat) (t : State) => t.rdN x = min (s.rdN x + 1) 0xFFFFFFFF
    let y := (s.plug r.key).key
    let answers := y.present = true ∧ y.answers = true
    let unread := lowest r.badReads 0 64 <|> lowest r.badReads 4096 64
    let refused := fun (t : State) => EnteredHalt s t 12 ∧ t.on fPCH_STATUS_REFUSED = true ∧ Raises 0x0E02 255 s t ∧
      t.rdN rCLK_STATUS = Nat.lor (s.rdN rCLK_STATUS) 0x1F ∧ t.rdN rPCH_TIME = r.ms.toNat
    let p := ((((s.plug r.key).pitchClocks).wrN rPCH_TIME r.ms.toNat).setF fPCH_STATUS_STEP 1).pitchKey r
    let order := slotOrder p.key.desc
    let tried := p.trySlots r.badReads (max p.key.fuses p.key.desc.floor) order
    let odd := 60 ≤ n ∧ n < 108 ∧ n % 2 = 1
    let xtal := if 1000 < w.toInt.natAbs then min (s.pwr.xtalOver + 1) 3 else 0
    let mgmt := if 300 < w.toInt.natAbs then min (s.pwr.mgmtOver + 1) 17 else 0
    (s.ps ≠ psPITCH → Answers (.pitchSequence r) s s []) ∧
    (s.ps = psPITCH → ¬ answers → Completes (.pitchSequence r) s (fun t => refused t ∧ t.rdN rPCH_PCC = 1 ∧ t.fld fPCH_REFUSAL_CODE = 1 ∧
      t.rdN rPCH_REFUSAL_ADDR = 0xFFFFFFFF)) ∧
    (∀ a : Nat, unread = some a → s.ps = psPITCH → answers → Completes (.pitchSequence r) s (fun t => refused t ∧ t.fld fPCH_REFUSAL_CODE = 1 ∧
      t.rdN rPCH_REFUSAL_ADDR = a % 2 ^ 32)) ∧
    (s.ps = psPITCH → answers → unread = none → slotOrder (descInForce y.flash).2 = [] → Completes (.pitchSequence r) s refused) ∧
    (s.ps = psPITCH → answers → unread = none → Completes (.pitchSequence r) s (fun t => t.rdN rPCH_UID_LO = (descInForce y.flash).2.uid % 2 ^ 32 ∧
      t.key.known = true ∧ t.key.uid = (descInForce y.flash).2.uid ∧
      (t.ps = psREADY → t.on fPCH_STATUS_LOADED = true ∧ t.clk.counting = true ∧ t.fld fPCH_STATUS_STEP = 12))) ∧
    (∀ j : Nat, tried.2 = some j → s.ps = psPITCH → answers → unread = none → r.unconfirmed = none →
      (((tried.1.slotPassed j (order.headD j)).writeRaises).loadStep (slotBase j)).siCrcOk = true → Completes (.pitchSequence r) s (fun t => t.ps = psREADY ∧
        t.on fPCH_STATUS_LOADED = true ∧ t.fld fPCH_STATUS_SLOT = j ∧ t.clk.counting = true ∧ t.fld fPCH_STATUS_STEP = 12)) ∧
    (s.domLive n = false → Answers (.domainFailure d) s s []) ∧
    (s.domLive n = true → Completes (.domainFailure d) s (fun t => bit (t.rdN (rPWR_DOM_FAIL (n / 32))) (n % 32) = true ∧ up rPWR_CNT_DOMFAIL t ∧
      t.on fPWR_EVENTS_DOMAIN = true ∧ Raises 0x0F10 n s t ∧ (¬ odd → t.domOn n = false) ∧ (odd → (t.gate ((n - 61) / 2)).supplyOn = false) ∧
      (n = 2 → t.on fSI_STATUS_MP_LOST = true) ∧ (n = 3 ∨ n = 4 → t.ist = iFAULT ∧ (s.ist ≠ iFAULT → IslandFaulted s t)) ∧
      (29 ≤ n → n < 33 → if s.isProtected (n - 29) then t.pstate (n - 29) = 6 else bit (t.fld (fSI_CELL_STATUS_DEMAND (n - 29))) 5 = true) ∧
      (33 ≤ n → n < 43 → s.fpState (n - 33) ≠ fpRETIRED → t.fpState (n - 33) = fpHALTED) ∧
      (43 ≤ n → n < 48 → s.est (n - 43) = eIDLE ∨ s.est (n - 43) = eRUNNING ∨ s.est (n - 43) = eSPARE → t.est (n - 43) = eFAILED) ∧
      (48 ≤ n → n < 56 → t.pst ((n - 48) / 2) = pRETIRED) ∧ (56 ≤ n → n < 60 → t.fcs (n - 56) = fcOFF ∧ Raises 0x0C02 (n - 56) s t) ∧
      (108 ≤ n → n < 120 → t.ast (n - 108) = aRETIRED) ∧
      (n < 29 → n ≠ 2 → n ≠ 3 → n ≠ 4 → n ≠ 8 → s.ps ≠ psHALT → EnteredHalt s t 15) ∧ (n = 131 → s.ps ≠ psHALT → EnteredHalt s t 15))) ∧
    (bit (s.rdN rCLK_STATUS) k.val = false → Answers (.pllLockLoss k) s s []) ∧
    (bit (s.rdN rCLK_STATUS) k.val = true → Completes (.pllLockLoss k) s (fun t => bit (t.rdN rCLK_STATUS) k.val = false ∧ up rCLK_CNT_UNLOCK t ∧
      t.on fPWR_EVENTS_PLL = true ∧ Raises 0x0F20 k.val s t ∧ (s.ps ≠ psHALT → EnteredHalt s t (t.fld fPWR_STATUS_LAST_CAUSE)) ∧
      (s.ps = psHALT → RegsKept [rCLK_STATUS, rCLK_CNT_UNLOCK, rCLK_EVENTS, rPWR_EVENTS] s t ∧ t.free = s.free))) ∧
    Completes (.xtalDeviationWindow w) s (fun t => t.pwr = { s.pwr with xtalOver := xtal } ∧ t.rdN rCLK_XTAL_DEV = w.toNat ∧
      Raised (if xtal = 2 then [(0x0F21, 255)] else []) s t ∧ (xtal = 2 → t.on fCLK_EVENTS_XTAL = true) ∧
      RegsKept (rCLK_XTAL_DEV :: if xtal = 2 then [rCLK_EVENTS] else []) s t) ∧
    Completes (.mgmtClockWindow w) s (fun t => t.pwr = { s.pwr with mgmtOver := mgmt, mpStopped := s.pwr.mpStopped || mgmt == 16 } ∧
      t.rdN rCLK_MGMT_DEV = w.toNat ∧ Raised (if mgmt = 16 then [(0x0F22, 255)] else []) s t ∧ (mgmt = 16 → t.on fCLK_EVENTS_MGMT = true) ∧
      RegsKept (rCLK_MGMT_DEV :: if mgmt = 16 then [rCLK_EVENTS] else []) s t)

/-- R461–R467, R472: the heartbeat, cells, and requests other than updates.

Completion is stated of: mpHeartbeat, cellReceive, mgtRead, mgtWrite, logRead, timeCorr, ping, forwardResponse, forwardTimeout. -/
def Obligations.ManagementCells : Prop :=
  ∀ (s : State) (x : Slot) (p : Fin 4) (inp : CmdIn),
    let lit := s.mute = false
    let served : List Instr := [.mgtRead, .mgtWrite inp, .logRead, .timeCorr, .updBegin false, .updData none, .updEnd false, .updAbort false, .ping]
    let opOf : Instr → Nat := fun c => match c with
      | .mgtRead => 1
      | .mgtWrite _ => 2
      | .logRead => 4
      | .timeCorr => 5
      | .updBegin _ => 0x10
      | .updData _ => 0x11
      | .updEnd _ => 0x12
      | .updAbort _ => 0x13
      | _ => 0x20
    let asked : State → MgtPath → State := fun u path =>
      { u with mgt := { u.mgt with queue := u.mgt.queue ++ [{ path := path, cell := x, time := BitVec.ofNat 64 (s.bridged .mgmt), epoch := s.clk.epoch }] } }
    let open_ := lit ∧ s.inBiv = false ∧ s.pathOpen .svc = true
    let req := cellOk x = true ∧ cOp x < 128 ∧ cOp x ≠ 0x30
    let src := if cSrc x = 0xFE then s.mgtOwn else cSrc x
    let addr := fun (r : MgtReq) => cAddr r.cell
    let rights := fun (r : MgtReq) => 1 ≤ cLen r.cell ∧ cLen r.cell ≤ 4 ∧ addr r % 4 = 0
    let port := s.port p.val
    (lit → Answers (.mpHeartbeat true) s (if s.mpRuns then s.set1 fMGT_STATUS_HB_HELD else s) [] ∧
      Answers (.mpHeartbeat false) s (if s.mpRuns then (s.clr fMGT_STATUS_HB_HELD).wrN rMGT_HEARTBEATS (s.rdN rMGT_HEARTBEATS + 1) else s) []) ∧
    (lit → s.pathOpen .svc = false → Answers (.cellReceive .svc x) s s []) ∧
    (open_ → cellOk x = false → Completes (.cellReceive .svc x) s (fun t => t.rdN rMGT_CNT_CELL_BAD = min (s.rdN rMGT_CNT_CELL_BAD + 1) 0xFFFFFFFF ∧
      t.mgt = s.mgt ∧ RegsKept [rMGT_CNT_CELL_BAD, rMGT_EVENTS] s t ∧ t = { s with regs := t.regs, flt := t.flt })) ∧
    (open_ → req → s.forUs x = true → Answers (.cellReceive .svc x) s (asked s .svc) []) ∧
    (open_ → cellOk x = true → ¬ req → Answers (.cellReceive .svc x) s s []) ∧
    (lit → s.inBiv = true → s.pathOpen .svc = true → Answers (.cellReceive .svc x) s
      (if cellOk x = true ∧ s.forUs x = true ∧ cOp x = 1 then asked s .svc else s) []) ∧
    (lit → s.pathOpen .can3 = true → s.inBiv = false → req → s.forUs x = true → s.on (fCAN_MB_STAT_ND 3 0) = true → s.canData 3 0 % 2 ^ 256 = x.toNat →
      Answers (.cellReceive .can3 x) s (asked (s.clr (fCAN_MB_STAT_ND 3 0)) .can3) []) ∧
    (lit → (s.on (fCAN_MB_STAT_ND 3 0) = false ∨ s.canData 3 0 % 2 ^ 256 ≠ x.toNat) → Answers (.cellReceive .can3 x) s s []) ∧
    (lit → cOp x ≠ 0x30 → s.inBiv = false → s.pathOpen (.hal p) = true → cellOk x = true → (cOp x < 128 → s.forUs x = true) →
      port.rx.head? = some (4, x) → Completes (.cellReceive (.hal p) x) s (fun t => (t.port p.val).rx = port.rx.tail ∧ (t.port p.val).freed = port.freed + 1 ∧
        (∀ k, k ≠ p.val → t.port k = s.port k) ∧ t.regs = s.regs ∧ t = { s with hal := t.hal, mgt := t.mgt } ∧
        t.mgt = if cOp x < 128 then (asked s (.hal p)).mgt else { s.mgt with responses := s.mgt.responses ++ [x] })) ∧
    (lit → cOp x = 0x30 ∨ (4, x) ∉ port.rx → Answers (.cellReceive (.hal p) x) s s []) ∧
    (open_ → req → s.forUs x = false → s.mpRuns = false → Answers (.cellReceive .svc x) s s []) ∧
    (open_ → req → s.forUs x = false → s.mpRuns = true → (16 ≤ s.mgt.fwd.length ∨ s.route (cDst x) = none) →
      Answers (.cellReceive .svc x) s (s.sendCell .svc (mkCell (cSrc x) s.mgtOwn (cOp x + 128) (cTag x) (cLen x) 6 (cAddr x) 0)) []) ∧
    (∀ d : Nat, s.route (cDst x) = some d → open_ → req → s.forUs x = false → s.mpRuns = true → s.mgt.fwd.length < 16 →
      Completes (.cellReceive .svc x) s (fun t => (t.port d).txMgmt = (s.port d).txMgmt ++ [mkCell (cDst x) src (cOp x) (cTag x) (cLen x) (slotN x 5 1) (cAddr x) (cData x)] ∧
        t.mgt = { s.mgt with fwd := s.mgt.fwd ++ [{ path := .svc, src := cSrc x, dst := cDst x, tag := cTag x }] } ∧ t = { s with hal := t.hal, mgt := t.mgt } ∧
        (∀ k, k ≠ d → t.port k = s.port k))) ∧
    (lit → s.mgt.responses = [] → Answers .forwardResponse s s []) ∧
    (∀ (y : Slot) (l : List Slot), s.mgt.responses = y :: l → lit → (∀ f ∈ s.mgt.fwd, f.dst ≠ cSrc y ∨ f.tag ≠ cTag y) →
      Answers .forwardResponse s { s with mgt := { s.mgt with responses := l } } []) ∧
    (∀ (y : Slot) (l : List Slot), s.mgt.responses = y :: l → ∀ (f : MgtFwd) (w : List MgtFwd), s.mgt.fwd = f :: w → lit → f.dst = cSrc y → f.tag = cTag y →
      s.mpRuns = true → s.inBiv = false → s.pathFree f.path = true → Answers .forwardResponse s
        ({ s with mgt := { s.mgt with responses := l, fwd := w } }.sendCell f.path
          (mkCell f.src (cSrc y) (cOp y) (cTag y) (cLen y) (slotN y 5 1) (cAddr y) (cData y))) []) ∧
    (lit → Answers .forwardTimeout s { s with mgt := { s.mgt with fwd := s.mgt.fwd.drop 1 } } []) ∧
    (s.sendCell .svc x = { s with mgt := { s.mgt with svc := some x } }) ∧
    (∀ c ∈ served, lit → s.mgt.queue = [] → Answers c s s []) ∧
    (∀ (r : MgtReq) (l : List MgtReq), s.mgt.queue = r :: l → ∀ c ∈ served, MgtFront s (cOp r.cell) r l → knownOp (cOp r.cell) = true → cOp r.cell ≠ opOf c →
      Answers c s s []) ∧
    (∀ (r : MgtReq) (l : List MgtReq), s.mgt.queue = r :: l → ∀ c ∈ served, lit → s.canServe r = false → s.dropped r = false → Answers c s s []) ∧
    (∀ (r : MgtReq) (l : List MgtReq), s.mgt.queue = r :: l → ∀ c ∈ served, l = [] → MgtFront s (cOp r.cell) r l → knownOp (cOp r.cell) = false →
      Answers c s ((s.popped l).replied r 3 (addr r) 0) []) ∧
    (∀ (r : MgtReq) (l : List MgtReq), s.mgt.queue = r :: l → ∀ c ∈ served, lit → l = [] → s.dropped r = true → Answers c s (s.popped l) []) ∧
    (∀ (r : MgtReq) (l : List MgtReq), s.mgt.queue = r :: l → MgtFront s 1 r l →
      Answers .mgtRead s (if rights r then (s.popped l).replied r 0 (addr r) (s.readData (addr r) (cLen r.cell)) else (s.popped l).replied r 3 (addr r) 0) [] ∧
      (∀ k, k < 4 → k < cLen r.cell → s.readData (addr r) (cLen r.cell) / 2 ^ (32 * k) % 2 ^ 32 = (s.readWord (addr r + 4 * k)).toNat) ∧
      s.readData (addr r) (cLen r.cell) < 2 ^ (32 * cLen r.cell)) ∧
    (∀ (r : MgtReq) (l : List MgtReq), s.mgt.queue = r :: l → MgtFront s 2 r l → ¬ rights r → Answers (.mgtWrite inp) s ((s.counted l).replied r 3 (addr r) 0) []) ∧
    (∀ (r : MgtReq) (l : List MgtReq), s.mgt.queue = r :: l → MgtFront s 2 r l → rights r → Completes (.mgtWrite inp) s (fun t =>
      let w := (List.range (cLen r.cell)).map (fun k => BitVec.ofNat 32 (cData r.cell / 2 ^ (32 * k)));
      let u := (s.counted l).writeWords (addr r) (requesterOf r) inp w;
      t = if u.2 then u.1.replied r 0 (addr r) 0 else u.1)) ∧
    (∀ v : Word, s.writeWords (addr ⟨.svc, x, 0, 0⟩) 5 inp [v] = (s.regWrite (addr ⟨.svc, x, 0, 0⟩) v 5 inp, !(s.regWrite (addr ⟨.svc, x, 0, 0⟩) v 5 inp).ended s)) ∧
    (∀ (r : MgtReq) (l : List MgtReq), s.mgt.queue = r :: l → MgtFront s 4 r l →
      let slot := 0x06000000 + 32 * (addr r % 2 ^ 19) + 16 * (addr r / 2 ^ 31);
      Answers .logRead s (if addr r / 2 ^ 19 % 4096 ≠ 0 then (s.counted l).replied r 3 (addr r) 0
        else if s.key.present = true ∧ s.key.answers = true ∧ s.domOn 8 = true then (s.counted l).replied r 0 (addr r) (ofBytes (keyBytes s.key.flash slot 16))
        else (s.counted l).replied r 2 (addr r) 0) []) ∧
    (∀ (r : MgtReq) (l : List MgtReq), s.mgt.queue = r :: l → MgtFront s 5 r l → ¬ (s.ps = psREADY ∨ s.ps = psRUN ∨ s.ps = psHALT) →
      Answers .timeCorr s ((s.counted l).replied r 2 (addr r) 0) []) ∧
    (∀ (r : MgtReq) (l : List MgtReq), s.mgt.queue = r :: l → MgtFront s 5 r l → (s.ps = psREADY ∨ s.ps = psRUN ∨ s.ps = psHALT) →
      Answers .timeCorr s ((((((s.counted l).wrN rMGT_TCORR_CAL_LO (cData r.cell)).wrN rMGT_TCORR_CAL_HI (cData r.cell / 2 ^ 32 % 65536)).wrN rMGT_TCORR_TIME_LO
        r.time.toNat).wrN rMGT_TCORR_TIME_HI (r.time.toNat / 2 ^ 32)).setBit rMGT_EVENTS 1 |>.replied r 0 (addr r) 0) [(0x1102, 255)] ∧
      Completes .timeCorr s (fun t => t.flt.raised = s.flt.raised ++ [{
        time := r.time, epoch := r.epoch, code := 0x1102, uidx := 255, detail := BitVec.ofNat 64 (cData r.cell), stop := false }])) ∧
    (∀ (r : MgtReq) (l : List MgtReq), s.mgt.queue = r :: l → MgtFront s 0x20 r l →
      Answers .ping s ((s.counted l).replied r 0 (addr r) (cData r.cell)) [])

/-- R468–R475: updates and the log.

Completion is stated of: updBegin, updData, updEnd, updAbort, logFlushPage, logHeadSearch, updIdleTimeout, mgtAbortSession. -/
def Obligations.UpdatesAndLog : Prop :=
  ∀ (s : State) (fails : Bool) (left : Option (List Byte)),
    let lit := s.mute = false
    let front := fun (op : Nat) (r : MgtReq) (l : List MgtReq) => MgtFront s op r l
    let addr := fun (r : MgtReq) => cAddr r.cell
    let q := s.key
    let answers := fun (r : MgtReq) (t : State) (stat a data : Nat) => r.path = .svc →
      t.mgt.svc = some (mkCell (cSrc r.cell) s.mgtOwn (cOp r.cell + 128) (cTag r.cell) (cLen r.cell) stat a data)
    let serving := s.ps = psREADY ∨ s.ps = psRUN ∨ s.ps = psHALT
    let fits := fun (n : Nat) => n % 4 = 0 ∧ 8192 ≤ n ∧ n ≤ slotSize
    let target := if q.next.st 0 = slACTIVE then 1 else 0
    let marked := fun (t : State) (k x : Nat) => t.key.next.st k = x ∧ t.key.next.st (1 - k) = q.next.st (1 - k)
    let keyRegs := [rPCH_SLOTS, rPCH_FLOORS, rPCH_EVENTS]
    let aborted := fun (t : State) (u : UpdSt) => t.mgt.upd = none ∧ (u.slot < 2 → marked t u.slot slEMPTY) ∧ bit (t.rdN rMGT_EVENTS) 6 = true ∧ Raises 0x1107 255 s t
    let mine := fun (u : UpdSt) (r : MgtReq) => pathCode u.path = pathCode r.path ∧ u.src = cSrc r.cell
    let last := fun (u : UpdSt) (r : MgtReq) => 0 < u.next ∧ addr r = (u.next - 1) / 16 * 16
    let head := s.rdN rMGT_LOG_HEAD % 524288
    let at_ := s.rdN rFLT_RING_FLUSH
    let wr := s.rdN rFLT_RING_WR
    let due := (wr + 2 ^ 32 - at_) % 2 ^ 32
    let flushes := lit ∧ serving ∧ s.keyWritable = true ∧ q.known = true ∧ q.pccPending = false
    let pages := flushes ∧ s.on fMGT_LOG_HEAD_HEAD_VALID = true ∧ s.on fMGT_STATUS_LOG_STALLED = false ∧ 0 < due
    let n := min (min due 4096) (8 - head % 8)
    let from_ := if 4096 < due then (wr + 2 ^ 32 - 4096) % 2 ^ 32 else at_
    let headAt := fun (t : State) (h : Nat) => t.rdN rMGT_LOG_HEAD = 2 ^ 31 + h % 524288
    let free := fun (h : Nat) => slotFree q.flash h = true
    (∀ (r : MgtReq) (l : List MgtReq), s.mgt.queue = r :: l → front 0x10 r l →
      (s.mgt.upd.isSome = true ∨ ¬ serving ∨ s.keyWritable = false ∨ ¬ fits (cData r.cell % 2 ^ 32)) →
      Answers (.updBegin fails) s ((s.counted l).replied r 2 (addr r) 0) []) ∧
    (∀ (r : MgtReq) (l : List MgtReq), s.mgt.queue = r :: l → front 0x10 r l → s.mgt.upd = none → serving → s.keyWritable = true → fits (cData r.cell % 2 ^ 32) →
      Completes (.updBegin fails) s (fun t => t.mgt.queue = l ∧
        t.mgt.upd = some { path := r.path, src := cSrc r.cell, slot := target, len := cData r.cell % 2 ^ 32, next := 0, buf := [] } ∧
        marked t target slWRITING ∧ answers r t 0 target 0 ∧ (fails = false → t.key.want = none ∧ t.key.desc.st target = slWRITING) ∧
        (fails = true → t.key.flash = q.flash) ∧ t.rdN rMGT_CNT_REQ = min (s.rdN rMGT_CNT_REQ + 1) 0xFFFFFFFF ∧
        (r.path = .svc → RegsKept (rMGT_CNT_REQ :: keyRegs) s t))) ∧
    (∀ (r : MgtReq) (l : List MgtReq), s.mgt.queue = r :: l → front 0x11 r l → s.mgt.upd = none → Answers (.updData left) s ((s.counted l).replied r 2 (addr r) 0) []) ∧
    (∀ u : UpdSt, s.mgt.upd = some u → ∀ (r : MgtReq) (l : List MgtReq), s.mgt.queue = r :: l → front 0x11 r l → u.buf = [] ∨ s.keyWritable = false →
      (¬ mine u r → Answers (.updData left) s ((s.counted l).replied r 2 (addr r) 0) []) ∧
      (mine u r → addr r % 16 ≠ 0 → Answers (.updData left) s ((s.counted l).replied r 3 (addr r) 0) []) ∧
      (mine u r → addr r % 16 = 0 → last u r → Answers (.updData left) s ((s.counted l).replied r 0 (addr r) 0) []) ∧
      (mine u r → addr r % 16 = 0 → ¬ last u r → (addr r ≠ u.next ∨ u.len ≤ u.next) →
        Answers (.updData left) s ((s.counted l).replied r 4 (addr r) u.next) []) ∧
      (mine u r → addr r % 16 = 0 → ¬ last u r → addr r = u.next → u.next < u.len → s.keyWritable = false → 16 ≤ u.buf.length →
        Answers (.updData left) s ((s.counted l).replied r 1 (addr r) 0) []) ∧
      (mine u r → addr r % 16 = 0 → ¬ last u r → addr r = u.next → u.next < u.len → s.keyWritable = false → u.buf.length < 16 →
        Answers (.updData left) s ({ s.counted l with mgt := { (s.counted l).mgt with
          upd := some { u with next := min (u.next + 16) u.len, buf := u.buf ++ [(u.next, (bytesOf 16 (cData r.cell)).take (u.len - u.next))] } } }.replied r 0 (addr r) 0) [])) ∧
    (∀ u : UpdSt, s.mgt.upd = some u → ∀ (r : MgtReq) (l : List MgtReq), s.mgt.queue = r :: l → front 0x11 r l → u.buf = [] → s.keyWritable = true → mine u r →
      addr r % 16 = 0 → ¬ last u r → addr r = u.next → u.next < u.len →
      let a := slotBase u.slot + u.next;
      let erased := if u.next % 65536 = 0 then flashErase q.flash a 65536 else q.flash;
      let took := fun (t : State) => t.mgt.upd = some { u with next := min (u.next + 16) u.len } ∧ answers r t 0 (addr r) 0 ∧ t.key.desc = q.desc ∧ t.key.want = q.want;
      Completes (.updData none) s (fun t => took t ∧ t.key.flash = flashPut erased a ((bytesOf 16 (cData r.cell)).take (u.len - u.next)) ∧ t.key.failed = false) ∧
      (∀ b : List Byte, Completes (.updData (some b)) s (fun t => took t ∧
        t.key.flash = flashPut erased a ((b.take (min 16 (u.len - u.next))).map BitVec.toNat) ∧ t.key.failed = true ∧ Raises 0x0E08 255 s t))) ∧
    (∀ (r : MgtReq) (l : List MgtReq), s.mgt.queue = r :: l → front 0x12 r l → s.mgt.upd = none → Answers (.updEnd fails) s ((s.counted l).replied r 2 (addr r) 0) []) ∧
    (∀ u : UpdSt, s.mgt.upd = some u → ∀ (r : MgtReq) (l : List MgtReq), s.mgt.queue = r :: l → front 0x12 r l → u.buf = [] ∨ s.keyWritable = false →
      (u.next < u.len → Answers (.updEnd fails) s ((s.counted l).replied r 4 (addr r) u.next) []) ∧
      (u.len ≤ u.next → s.keyWritable = false → Answers (.updEnd fails) s ((s.counted l).replied r 1 (addr r) 0) []) ∧
      (u.len ≤ u.next → s.keyWritable = true → Completes (.updEnd fails) s (fun t => t.mgt.upd = none ∧ (match s.updCheck u.slot with
        | none => (u.slot < 2 → marked t u.slot slPENDING) ∧ Raises 0x1103 255 s t ∧ answers r t 0 (addr r) 0
        | some x => (u.slot < 2 → marked t u.slot slBAD) ∧ Raises 0x1104 255 s t ∧ (x.code ≠ 0 → answers r t 5 (addr r) x.code))))) ∧
    (∀ (r : MgtReq) (l : List MgtReq), s.mgt.queue = r :: l → front 0x13 r l → s.mgt.upd = none → Answers (.updAbort fails) s ((s.counted l).replied r 2 (addr r) 0) []) ∧
    (∀ u : UpdSt, s.mgt.upd = some u → ∀ (r : MgtReq) (l : List MgtReq), s.mgt.queue = r :: l → front 0x13 r l →
      Completes (.updAbort fails) s (fun t => aborted t u ∧ t.mgt.queue = l ∧ answers r t 0 (addr r) 0)) ∧
    (∀ u : UpdSt, s.mgt.upd = some u → lit → s.mpRuns = true → s.inBiv = false → s.hk.deferred = false →
      Completes (.updIdleTimeout fails) s (fun t => aborted t u ∧ t.mgt.queue = s.mgt.queue ∧ RegsKept (rMGT_EVENTS :: keyRegs) s t)) ∧
    (lit → (s.mgt.upd = none ∨ s.mpRuns = false ∨ s.inBiv = true ∨ s.hk.deferred = true) → Answers (.updIdleTimeout fails) s s []) ∧
    (∀ u : UpdSt, s.mgt.upd = some u → CmdReady s rMGT_CMD → Completes (.mgtAbortSession fails) s (fun t => aborted t u ∧ CmdShows t rMGT_CMD 0x10 stDONE ∧
      RegsKept (rMGT_CMD :: rMGT_EVENTS :: keyRegs) s t)) ∧
    (CmdReady s rMGT_CMD → s.mgt.upd = none → Completes (.mgtAbortSession fails) s (fun t => CmdOnly s t rMGT_CMD 0x10 stREFUSED)) ∧
    (lit → ¬ pages → Answers (.logFlushPage left) s s []) ∧
    (pages → Completes (.logFlushPage none) s (fun t => headAt t (head + n) ∧ t.rdN rFLT_RING_FLUSH = (from_ + n) % 2 ^ 32 ∧ t.mgt = { s.mgt with fails := 0 } ∧
      (∀ k, k < 32 * n → (t.key.flash.at 255#8 (0x06000000 + 32 * head + k)).toNat =
        (match s.flt.ring.at none ((from_ + k / 32) % 4096) with
          | some p => p.bytes.getD (k % 32) 0
          | none => 255)) ∧
      (∀ b, b < 0x06000000 → t.key.flash.at 255#8 b = q.flash.at 255#8 b) ∧ t.key.desc = q.desc ∧ t.key.failed = false ∧
      Raised (if q.failed then [(0x0EF0, 255)] else []) s t ∧ RegsKept [rMGT_LOG_HEAD, rFLT_RING_FLUSH] s t)) ∧
    (pages → ∀ b : List Byte, Completes (.logFlushPage (some b)) s (fun t => headAt t ((head / 8 + 1) * 8) ∧ t.rdN rFLT_RING_FLUSH = from_ ∧ t.mgt = { s.mgt with fails := s.mgt.fails + 1 } ∧
      t.rdN rMGT_CNT_FLUSH_FAIL = min (s.rdN rMGT_CNT_FLUSH_FAIL + 1) 0xFFFFFFFF ∧ t.key.failed = true ∧
      Raised ((0x0E08, 255) :: if 2 ≤ s.mgt.fails then [(0x1105, 255)] else []) s t ∧ t.on fMGT_STATUS_LOG_STALLED = decide (2 ≤ s.mgt.fails) ∧
      RegsKept [rMGT_LOG_HEAD, rFLT_RING_FLUSH, rMGT_CNT_FLUSH_FAIL, rMGT_STATUS, rMGT_EVENTS, rPCH_EVENTS] s t)) ∧
    (lit → (s.on fMGT_LOG_HEAD_HEAD_VALID = true ∨ ¬ flushes) → Answers .logHeadSearch s s []) ∧
    (flushes → s.on fMGT_LOG_HEAD_HEAD_VALID = false → Completes .logHeadSearch s (fun t =>
      t.on fMGT_LOG_HEAD_HEAD_VALID = true ∧ t.mgt = s.mgt ∧ t.flt = s.flt ∧ RegsKept [rMGT_LOG_HEAD] s t ∧
      ((∀ e, e < 256 → free (2048 * e)) → headAt t 0) ∧
      (∀ e, e < 256 → free (2048 * e) → ¬ free (2048 * ((e + 255) % 256)) → (∀ d, d < e → free (2048 * d) → free (2048 * ((d + 255) % 256))) →
        ((∀ k, k < 2048 → ¬ free (2048 * ((e + 255) % 256) + k)) → headAt t (2048 * e)) ∧
        (∀ k, k < 2048 → free (2048 * ((e + 255) % 256) + k) → (∀ j, j < k → ¬ free (2048 * ((e + 255) % 256) + j)) → headAt t (2048 * ((e + 255) % 256) + k)))))

/-- R8, R10–R15, R494, R495: what a write to an address does.

Completion is stated of: registerWrite, w1cClear, lockWrite, fpPeekAddrWrite. -/
def Obligations.RegisterWrites : Prop :=
  ∀ (s : State) (a v m : Word) (rq : BitVec 16) (inp : CmdIn) (f : Fin 10) (k : Fin 8),
    let lit := s.mute = false
    let x := a.toNat
    let plain := x / 65536 ≠ 0x0804
    let acc := fun (y : Access) => plain ∧ accessOf x = some y
    let counted := fun (t : State) => t.rdN rMGT_LOCKWR_CNT = min (s.rdN rMGT_LOCKWR_CNT + 1) 0xFFFFFFFF ∧ bit (t.rdN rMGT_EVENTS) 5 = true ∧
      RegsKept [rMGT_LOCKWR_CNT, rMGT_EVENTS] s t ∧ t = { s with regs := t.regs, flt := t.flt } ∧ (t.flt.raised = s.flt.raised ∨ Raised [(0x1106, 255)] s t)
    let flags := fun (w p : Word) (t : State) => t.rd x = s.rd x &&& ~~~(w &&& ~~~(p ||| s.standingMask x)) ∧ OnlyRegs [x] s t
    let reg := exec (.registerWrite a v true rq inp) s
    let ch := x / 65536 % 256
    let buf := (x % 65536 - 0x1000) / 128
    let mb := rCAN_MB_DATA ch buf ((x % 128 - 0x40) / 4)
    (lit → Answers (.registerWrite a v false rq inp) s s []) ∧
    (lit → x % 4 ≠ 0 → Answers (.registerWrite a v true rq inp) s s []) ∧
    (lit → plain → accessOf x = none → Answers (.registerWrite a v true rq inp) s s []) ∧
    (lit → acc .ro → Answers (.registerWrite a v true rq inp) s s []) ∧
    (lit → acc .desc → isLock x = false → Answers (.registerWrite a v true rq inp) s s []) ∧
    (lit → plain → isLock x = true → Completes (.registerWrite a v true rq inp) s counted) ∧
    (lit → isLock x = true → Completes (.lockWrite a v) s counted) ∧
    (lit → isLock x = false → Answers (.lockWrite a v) s s []) ∧
    (lit → acc .w1c → s.inBiv = false → Completes (.registerWrite a v true rq inp) s (flags v inp.present) ∧ Completes (.w1cClear a v m) s (flags v m)) ∧
    (lit → acc .mix → s.inBiv = false → Completes (.registerWrite a v true rq inp) s (flags (v &&& 0xD8#32) inp.present) ∧
      Completes (.w1cClear a v m) s (flags (v &&& 0xD8#32) m)) ∧
    (lit → (acc .w1c ∨ acc .mix) → s.inBiv = true → Answers (.registerWrite a v true rq inp) s s [] ∧ Answers (.w1cClear a v m) s s []) ∧
    (lit → plain → ¬ (acc .w1c ∨ acc .mix) → Answers (.w1cClear a v m) s s []) ∧
    (lit → x = rHQ_ENQ k.val → Completes (.registerWrite a v true rq inp) s (fun t => if s.inBiv then t = s
      else t.rd x = v ∧ RegsKept [x] s t ∧ t = { s with regs := t.regs, hq := { s.hq with stagers := t.hq.stagers } } ∧
        (∀ q ∈ rq.toNat :: s.hq.stagers, q ∈ t.hq.stagers) ∧ (∀ q ∈ t.hq.stagers, q ∈ rq.toNat :: s.hq.stagers))) ∧
    (lit → Answers (.fpPeekAddrWrite f v) s (if s.inBiv then s else s.wr (rFP_PEEK_ADDR f.val) (v &&& 0xF007FFFC#32)) []) ∧
    (lit → x = rFP_PEEK_ADDR f.val → Answers (.registerWrite a v true rq inp) s (if s.inBiv then s else s.wr x (v &&& 0xF007FFFC#32)) []) ∧
    (lit → acc .mbd → (s.inBiv = true ∨ s.on (fCAN_MB_CFG_DIR ch buf) = false ∨ s.canReserved ch buf = true) → Answers (.registerWrite a v true rq inp) s s []) ∧
    (lit → acc .mbd → s.inBiv = false → s.on (fCAN_MB_CFG_DIR ch buf) = true → s.canReserved ch buf = false → mb = x ∧
      Answers (.registerWrite a v true rq inp) s (if s.txPend ch buf then s.wrN (rCAN_CNT_TXBUSY ch) (min (s.rdN (rCAN_CNT_TXBUSY ch) + 1) 0xFFFFFFFF) else s.wr x v) []) ∧
    (∀ i, CmdRow inp x (v.toNat % 65536) i → reg = exec i s) ∧
    (acc .cmd → CmdReady s x → (∀ i, ¬ CmdRow inp x (v.toNat % 65536) i) →
      Completes (.registerWrite a v true rq inp) s (fun t =>
        CmdShows t x (v.toNat % 65536) stINVALID ∧ RegsKept [x] s t ∧
        t = { s with regs := t.regs, hq := if x = rHQ_ENQ_CMD then { s.hq with stagers := [] } else s.hq })) ∧
    (lit → 0x08040400 ≤ x → x < 0x080404A0 → s.on (fLE_STATUS_SERVES_VALID 4) = true → s.fld (fLE_STATUS_SERVES 4) < 4 →
      reg = exec (.registerWrite (a - 0x40000#32 + BitVec.ofNat 32 (s.fld (fLE_STATUS_SERVES 4)) <<< 16) v true rq inp) s)

/-- R13: a BUSY command register ignores writes. `parAddr` is the register an address names: LE4's paralleling registers are those of the cell it
serves. -/
def Obligations.BusyCommandIgnored : Prop :=
  ∀ (s : State) (a v : Word) (rq : BitVec 16) (inp : CmdIn),
    let x := s.parAddr a.toNat
    let noHist := { s with hq := { s.hq with stagers := [] } }
    let asIs := fun (r : Nat) (u : State) => u = s ∨ (r = rHQ_ENQ_CMD ∧ u = noHist)
    (a.toNat % 4 = 0 → accessOf x = some .cmd → s.cmdStatus x = stBUSY → ∃ t, exec (.registerWrite a v true rq inp) s = .next t ∧ asIs x t) ∧
    (∀ (r n : Nat) (i : Instr), CmdRow inp r n i → s.cmdStatus r = stBUSY → ∃ t, exec i s = .next t ∧ asIs r t)

/-- The step, first in, first out.  The idle step is the model's choice (log 3). -/
def Obligations.StepRunsFront : Prop :=
  ∀ (s : State) (c : Instr) (rest : List Instr) (n w : Nat),
    (s.pending = c :: rest → step s = exec c { s with pending := rest }) ∧
    (s.pending = [] → step s = .next (idle s)) ∧ idle s = (tick s).edgePeriod.stPeriod ∧
    (s.clk.counting = true → s.now + 512 < 2 ^ 64 → tick s = { s with clk := { s.clk with count := s.clk.count + 512 } }) ∧
    (s.clk.counting = false → tick s = s) ∧ (s.mute = true → s.clk.counting = false → idle s = s) ∧
    decodeTableWord n w = none ∧ s.withFetchWord n w = s

/-- R16, R442: the state after reset. -/
def Obligations.ResetState : Prop :=
  let s := State.reset
  s.pending = [] ∧ Safe s ∧ s.ps = psPITCH ∧ s.mute = false ∧ s.inBiv = false ∧ s.clk.counting = false ∧ s.hq.loaded = false ∧ s.flt.raised = [] ∧
  s.rdN rHAL_STATUS = 0xFFF00000 ∧ (∀ p : Fin 4, s.rdN (rHAL_PORT_STATE p.val) = 0xFF000000 ∧ s.pst p.val = pDISABLED) ∧
  s.rdN rHQ_POOL_FREE = 131072 ∧ s.rdN rHQ_POOL_MIN = 131072 ∧ s.rdN rSNS_SPARES = 0xFF000000 ∧
  (∀ f : Fin 10, s.rdN (rFP_GEN f.val) = 1 ∧ s.fpState f.val = fpOFF) ∧
  (∀ c : Fin 4, s.rdN (rLE_PAR_GEN c.val) = 0x10001 ∧ s.cst c.val = cHELD ∧ s.rdN (rHK_THROTTLE c.val) = 0x100000 ∧ s.canLive c.val = false) ∧
  (∀ g : Fin 24, s.gst g.val = gUNOWNED ∧ (s.gate g.val).gse = false ∧ (s.gate g.val).sen = false ∧ (s.gate g.val).drive.isOn = false) ∧
  (∀ a ∈ [rHAL_CMD, rHQ_CMD, rHQ_ENQ_CMD, rSNS_CMD, rPOS_CMD, rEDG_CMD, rGD_CMD, rAUX_CMD, rFLT_CMD, rPCH_CMD, rPWR_CMD, rCLK_CMD, rHK_CMD, rMGT_CMD,
    rHAL_EVENTS, rHQ_EVENTS, rFLT_EVENTS, rPWR_EVENTS, rMGT_EVENTS, rPCH_EVENTS, rHAL_CFG, rMGT_CFG, rSI_STATUS, rFLT_RING_WR, rMGT_LOG_HEAD], s.rd a = 0) ∧
  s.rdN rPWR_STATUS = 0x20000000 ∧ s.fld fPWR_WAKE_CAUSE = 1 ∧ s.fld fPWR_WAKE_PREV = 15

/-- The invariant of every step: `Safe`, first in first out, free values drawn once. -/
def Obligations.StepKeepsSafe : Prop :=
  ∀ s t : State, Safe s → step s = .next t → Safe t ∧ t.pending = s.pending.tail ∧ s.free ≤ t.free

/-- R433, R434: the module asleep. -/
def Obligations.AsleepIsInert : Prop :=
  ∀ (s : State) (c : Instr), s.mute = true →
    ((match c with
      | .aux24PowerUp _ | .aux24Cutoff | .wakeEdge _ | .can0DominantWake _ | .wakeFrame .. | .wakeFrameErrors .. | .keyRemoved | .keyInserted _
      | .thermalShutdownReading _ => False
      | _ => True) →
      (∀ (f : Fin 10) (last : Bool), ¬ ∀ u : State, exec c u = .next (u.fpSubmit f.val last c)) → exec c s = .next s) ∧
    (∀ (f : Fin 10) (last : Bool), (∀ u : State, exec c u = .next (u.fpSubmit f.val last c)) → s.fpState f.val ≠ fpRUNNING → exec c s = .next s)
end

