-- ==== Sys2Proof/Laws/Sparse.lean ====
section
/-! SUPPORT. The laws of the sparse tables: read after write, and the canonical form kept by every write. -/
namespace Sys2Proof

variable {β : Type}

theorem Sparse.get_insert (d : Nat → β) (m : Sparse β) (k : Nat) (v : β) (j : Nat) :
    (Sparse.insert m k v).get d j = if j = k then v else m.get d j := by
  induction m with
  | nil => simp [Sparse.insert, Sparse.get]
  | cons e t ih =>
    obtain ⟨a, b⟩ := e
    simp only [Sparse.insert]
    split
    · simp [Sparse.get]
    · split
      · subst k; by_cases h : j = a <;> simp [Sparse.get, h]
      · rename_i h1 h2
        by_cases h : j = a
        · subst j; have : ¬ a = k := fun e => h2 e.symm
          simp [Sparse.get, this]
        · simp [Sparse.get, h, ih]

theorem Sparse.get_erase (d : Nat → β) (m : Sparse β) (k j : Nat) :
    (Sparse.erase m k).get d j = if j = k then d k else m.get d j := by
  induction m with
  | nil => simp only [Sparse.erase, Sparse.get]; split <;> simp_all
  | cons e t ih =>
    obtain ⟨a, b⟩ := e
    simp only [Sparse.erase]
    split
    · subst k; rw [ih]; by_cases h : j = a <;> simp [Sparse.get, h]
    · rename_i h2
      by_cases h : j = a
      · subst j; have : ¬ a = k := fun e => h2 e.symm
        simp [Sparse.get, this]
      · simp [Sparse.get, h, ih]

/-- A read after a write gives the value written; a write leaves every other key alone. -/
theorem Sparse.get_set [DecidableEq β] (d : Nat → β) (m : Sparse β) (k : Nat) (v : β) (j : Nat) :
    (Sparse.set d m k v).get d j = if j = k then v else m.get d j := by
  unfold Sparse.set
  split
  · subst v; rw [Sparse.get_erase]
  · rw [Sparse.get_insert]

/-- The canonical form, said for the first entry and the rest. -/
theorem Sparse.wf_cons [DecidableEq β] (d : Nat → β) (a : Nat) (b : β) (t : Sparse β) :
    Sparse.wf d ((a, b) :: t) = true ↔ b ≠ d a ∧ (∀ e ∈ t.head?, a < e.1) ∧ Sparse.wf d t = true := by
  cases t with
  | nil => simp [Sparse.wf]
  | cons e u => obtain ⟨c, f⟩ := e; simp [Sparse.wf, and_assoc]

theorem Sparse.wf_lt [DecidableEq β] (d : Nat → β) (a : Nat) (b : β) (t : Sparse β)
    (h : Sparse.wf d ((a, b) :: t) = true) : ∀ e ∈ t, a < e.1 := by
  induction t generalizing a b with
  | nil => simp
  | cons e u ih =>
    obtain ⟨c, f⟩ := e
    obtain ⟨_, h2, h3⟩ := (Sparse.wf_cons d a b _).1 h
    have hac : a < c := h2 (c, f) (by simp)
    intro e he
    rcases List.mem_cons.1 he with rfl | he
    · exact hac
    · exact Nat.lt_trans hac (ih c f h3 e he)

theorem Sparse.erase_mem (m : Sparse β) (k : Nat) : ∀ e ∈ Sparse.erase m k, e ∈ m := by
  induction m with
  | nil => simp [Sparse.erase]
  | cons x t ih =>
    obtain ⟨a, b⟩ := x
    intro e
    simp only [Sparse.erase]
    split
    · intro h; exact List.mem_cons_of_mem _ (ih e h)
    · intro h
      rcases List.mem_cons.1 h with rfl | h
      · simp
      · exact List.mem_cons_of_mem _ (ih e h)

theorem Sparse.insert_mem (m : Sparse β) (k : Nat) (v : β) : ∀ e ∈ Sparse.insert m k v, e = (k, v) ∨ e ∈ m := by
  induction m with
  | nil => simp [Sparse.insert]
  | cons x t ih =>
    obtain ⟨a, b⟩ := x
    intro e
    simp only [Sparse.insert]
    split
    · simp
    · split
      · intro h
        rcases List.mem_cons.1 h with h | h
        · exact .inl h
        · exact .inr (List.mem_cons_of_mem _ h)
      · intro h
        rcases List.mem_cons.1 h with rfl | h
        · simp
        · rcases ih e h with h | h
          · exact .inl h
          · exact .inr (List.mem_cons_of_mem _ h)

theorem Sparse.wf_erase [DecidableEq β] (d : Nat → β) (m : Sparse β) (k : Nat) (h : Sparse.wf d m = true) :
    Sparse.wf d (Sparse.erase m k) = true := by
  induction m with
  | nil => simpa [Sparse.erase] using h
  | cons x t ih =>
    obtain ⟨a, b⟩ := x
    obtain ⟨h1, _, h3⟩ := (Sparse.wf_cons d a b t).1 h
    simp only [Sparse.erase]
    split
    · exact ih h3
    · refine (Sparse.wf_cons d a b _).2 ⟨h1, ?_, ih h3⟩
      intro e he
      exact Sparse.wf_lt d a b t h e (Sparse.erase_mem t k e (List.mem_of_mem_head? he))

theorem Sparse.wf_insert [DecidableEq β] (d : Nat → β) (m : Sparse β) (k : Nat) (v : β) (h : Sparse.wf d m = true)
    (hv : v ≠ d k) : Sparse.wf d (Sparse.insert m k v) = true := by
  induction m with
  | nil => simp [Sparse.insert, Sparse.wf, hv]
  | cons x t ih =>
    obtain ⟨a, b⟩ := x
    obtain ⟨h1, h2, h3⟩ := (Sparse.wf_cons d a b t).1 h
    simp only [Sparse.insert]
    split
    · rename_i hk
      exact (Sparse.wf_cons d k v _).2 ⟨hv, by simpa using hk, h⟩
    · split
      · subst k; exact (Sparse.wf_cons d a v t).2 ⟨hv, h2, h3⟩
      · rename_i hk1 hk2
        refine (Sparse.wf_cons d a b _).2 ⟨h1, ?_, ih h3⟩
        intro e he
        rcases Sparse.insert_mem t k v e (List.mem_of_mem_head? he) with rfl | he
        · simp only; omega
        · exact Sparse.wf_lt d a b t h e he

/-- Every write keeps the canonical form. -/
theorem Sparse.wf_set [DecidableEq β] (d : Nat → β) (m : Sparse β) (k : Nat) (v : β) (h : Sparse.wf d m = true) :
    Sparse.wf d (Sparse.set d m k v) = true := by
  unfold Sparse.set
  split
  · exact Sparse.wf_erase d m k h
  · rename_i hv; exact Sparse.wf_insert d m k v h hv

@[simp] theorem Sparse.at_put [DecidableEq β] (m : Sparse β) (d : β) (k : Nat) (v : β) (j : Nat) :
    (m.put d k v).at d j = if j = k then v else m.at d j := Sparse.get_set _ _ _ _ _

end Sys2Proof
end

