-- ==== Sys2Proof/Laws/State.lean ====
section
/-! SUPPORT. The named operations as later proofs use them: what each leaves alone, field by field, and what a register or a field reads after
each. -/
namespace Sys2Proof.Machine

/-! ### Reads after writes -/

@[simp] theorem State.rd_wr (s : State) (a : Nat) (v : Word) (b : Nat) : (s.wr a v).rd b = if b = a then v else s.rd b :=
  Sparse.get_set _ _ _ _ _

theorem State.rd_of_regs {s t : State} (h : t.regs = s.regs) (a : Nat) : t.rd a = s.rd a := by unfold State.rd; rw [h]

theorem State.fld_of_regs {s t : State} (h : t.regs = s.regs) (f : Fld) : t.fld f = s.fld f := by unfold State.fld State.rd; rw [h]

@[simp] theorem State.rdN_wrN (s : State) (a v b : Nat) : (s.wrN a v).rdN b = if b = a then v % 2 ^ 32 else s.rdN b := by
  unfold State.rdN State.wrN; rw [State.rd_wr]; split <;> simp

/-- A register keeps what it holds when another is written. -/
theorem State.fld_wr_ne (s : State) (a : Nat) (v : Word) (f : Fld) (h : f.reg ≠ a) : (s.wr a v).fld f = s.fld f := by
  unfold State.fld; rw [State.rd_wr, if_neg h]

theorem Machine.testBit_ones (k i : Nat) : (2 ^ k - 1).testBit i = decide (i < k) := Nat.testBit_two_pow_sub_one k i

/-- The mask of `putBits`, bit by bit. -/
theorem putBits_getLsbD (w : Word) (hi lo v i : Nat) (h : lo ≤ hi) (h2 : hi < 32) :
    (putBits w hi lo v).getLsbD i = if lo ≤ i ∧ i ≤ hi then v.testBit (i - lo) else w.getLsbD i := by
  have hm : ∀ j, (BitVec.allOnes 32 >>> (31 - (hi - lo))).getLsbD j = decide (j ≤ hi - lo) := by
    intro j
    rw [BitVec.getLsbD_ushiftRight, BitVec.getLsbD_allOnes]
    simp only [decide_eq_decide]; omega
  unfold putBits
  generalize BitVec.allOnes 32 >>> (31 - (hi - lo)) = m at hm ⊢
  rw [BitVec.getLsbD_or, BitVec.getLsbD_and, BitVec.getLsbD_and, BitVec.getLsbD_not, BitVec.getLsbD_shiftLeft,
    BitVec.getLsbD_shiftLeft, BitVec.getLsbD_ofNat, hm]
  by_cases h3 : i < 32
  · by_cases h4 : i < lo
    · have : ¬ lo ≤ i := by omega
      simp [this, h3, h4]
    · have h6 : lo ≤ i := by omega
      have h7 : i - lo < 32 := by omega
      by_cases h5 : i ≤ hi
      · have h8 : i - lo ≤ hi - lo := by omega
        simp [h6, h3, h4, h5, h7, h8]
      · have h8 : ¬ i - lo ≤ hi - lo := by omega
        simp [h3, h4, h5, h8]
  · have h6 : ¬ (lo ≤ i ∧ i ≤ hi) := by omega
    have h7 : w.getLsbD i = false := BitVec.getLsbD_of_ge _ _ (by omega)
    simp [h3, h6, h7]

theorem State.fld_testBit (s : State) (f : Fld) (i : Nat) :
    (s.fld f).testBit i = (decide (i < f.hi - f.lo + 1) && (s.rd f.reg).getLsbD (i + f.lo)) := by
  unfold State.fld
  rw [Nat.testBit_mod_two_pow, Nat.testBit_div_two_pow]
  rfl

/-- A field reads what was written to it, in its width. -/
theorem State.fld_setF (s : State) (f : Fld) (v : Nat) (h : f.lo ≤ f.hi) (h2 : f.hi < 32) :
    (s.setF f v).fld f = v % 2 ^ (f.hi - f.lo + 1) := by
  apply Nat.eq_of_testBit_eq
  intro i
  rw [State.fld_testBit, Nat.testBit_mod_two_pow]
  unfold State.setF
  rw [State.rd_wr, if_pos rfl, putBits_getLsbD _ _ _ _ _ h h2]
  by_cases h3 : i < f.hi - f.lo + 1
  · have h4 : f.lo ≤ i + f.lo ∧ i + f.lo ≤ f.hi := by omega
    simp [h3, h4]
  · simp [h3]

/-- A field of another register, or apart in the same one, keeps what it reads. -/
theorem State.fld_setF_ne (s : State) (f g : Fld) (v : Nat) (h : f.reg ≠ g.reg ∨ f.hi < g.lo ∨ g.hi < f.lo) (h1 : f.lo ≤ f.hi)
    (h2 : f.hi < 32) (h3 : g.lo ≤ g.hi) : (s.setF f v).fld g = s.fld g := by
  apply Nat.eq_of_testBit_eq
  intro i
  rw [State.fld_testBit, State.fld_testBit]
  unfold State.setF
  rw [State.rd_wr]
  by_cases e : g.reg = f.reg
  · rw [if_pos e, putBits_getLsbD _ _ _ _ _ h1 h2, e]
    by_cases h4 : i < g.hi - g.lo + 1
    · have h5 : ¬ (f.lo ≤ i + g.lo ∧ i + g.lo ≤ f.hi) := by
        rcases h with h | h | h
        · exact absurd e.symm h
        · omega
        · omega
      rw [if_neg h5]
    · simp [h4]
  · rw [if_neg e]

/-- A module that is not in STOW or LISTEN takes part. -/
theorem State.lit_pos {s t : State} (h : s.mute = false) : s.lit t = t := by unfold State.lit; rw [h]; rfl

/-- A module in STOW or LISTEN does nothing. -/
theorem State.lit_neg {s t : State} (h : s.mute = true) : s.lit t = s := by unfold State.lit; rw [h]; rfl

theorem State.rd_zero (s : State) (l : List Nat) (a : Nat) : (s.zero l).rd a = if a ∈ l then 0 else s.rd a := by
  induction l generalizing s with
  | nil => simp [State.zero]
  | cons b t ih =>
    unfold State.zero
    rw [ih, State.rd_wr]
    by_cases h1 : a ∈ t <;> by_cases h2 : a = b <;> simp [h1, h2]

theorem State.zero_upd (s : State) (l : List Nat) : s.zero l = { s with regs := (s.zero l).regs } := by
  induction l generalizing s with
  | nil => rfl
  | cons b t ih => unfold State.zero; rw [ih]; rfl

/-! ### What each operation leaves alone -/

@[simp] theorem State.wr_pending (s : State) (a) (v) : (s.wr a v).pending = s.pending := rfl
@[simp] theorem State.wr_free (s : State) (a) (v) : (s.wr a v).free = s.free := rfl
@[simp] theorem State.wr_clk (s : State) (a) (v) : (s.wr a v).clk = s.clk := rfl
@[simp] theorem State.wr_hal (s : State) (a) (v) : (s.wr a v).hal = s.hal := rfl
@[simp] theorem State.wr_hq (s : State) (a) (v) : (s.wr a v).hq = s.hq := rfl
@[simp] theorem State.wr_sns (s : State) (a) (v) : (s.wr a v).sns = s.sns := rfl
@[simp] theorem State.wr_pos (s : State) (a) (v) : (s.wr a v).pos = s.pos := rfl
@[simp] theorem State.wr_edg (s : State) (a) (v) : (s.wr a v).edg = s.edg := rfl
@[simp] theorem State.wr_gd (s : State) (a) (v) : (s.wr a v).gd = s.gd := rfl
@[simp] theorem State.wr_flt (s : State) (a) (v) : (s.wr a v).flt = s.flt := rfl
@[simp] theorem State.wr_bnd (s : State) (a) (v) : (s.wr a v).bnd = s.bnd := rfl
@[simp] theorem State.wr_st (s : State) (a) (v) : (s.wr a v).st = s.st := rfl
@[simp] theorem State.wr_dcl (s : State) (a) (v) : (s.wr a v).dcl = s.dcl := rfl
@[simp] theorem State.wr_le (s : State) (a) (v) : (s.wr a v).le = s.le := rfl
@[simp] theorem State.wr_par (s : State) (a) (v) : (s.wr a v).par = s.par := rfl
@[simp] theorem State.wr_fp (s : State) (a) (v) : (s.wr a v).fp = s.fp := rfl
@[simp] theorem State.wr_si (s : State) (a) (v) : (s.wr a v).si = s.si := rfl
@[simp] theorem State.wr_can (s : State) (a) (v) : (s.wr a v).can = s.can := rfl
@[simp] theorem State.wr_aux (s : State) (a) (v) : (s.wr a v).aux = s.aux := rfl
@[simp] theorem State.wr_key (s : State) (a) (v) : (s.wr a v).key = s.key := rfl
@[simp] theorem State.wr_pwr (s : State) (a) (v) : (s.wr a v).pwr = s.pwr := rfl
@[simp] theorem State.wr_hk (s : State) (a) (v) : (s.wr a v).hk = s.hk := rfl
@[simp] theorem State.wr_mgt (s : State) (a) (v) : (s.wr a v).mgt = s.mgt := rfl
@[simp] theorem State.wrN_pending (s : State) (a) (v) : (s.wrN a v).pending = s.pending := rfl
@[simp] theorem State.wrN_free (s : State) (a) (v) : (s.wrN a v).free = s.free := rfl
@[simp] theorem State.wrN_clk (s : State) (a) (v) : (s.wrN a v).clk = s.clk := rfl
@[simp] theorem State.wrN_hal (s : State) (a) (v) : (s.wrN a v).hal = s.hal := rfl
@[simp] theorem State.wrN_hq (s : State) (a) (v) : (s.wrN a v).hq = s.hq := rfl
@[simp] theorem State.wrN_sns (s : State) (a) (v) : (s.wrN a v).sns = s.sns := rfl
@[simp] theorem State.wrN_pos (s : State) (a) (v) : (s.wrN a v).pos = s.pos := rfl
@[simp] theorem State.wrN_edg (s : State) (a) (v) : (s.wrN a v).edg = s.edg := rfl
@[simp] theorem State.wrN_gd (s : State) (a) (v) : (s.wrN a v).gd = s.gd := rfl
@[simp] theorem State.wrN_flt (s : State) (a) (v) : (s.wrN a v).flt = s.flt := rfl
@[simp] theorem State.wrN_bnd (s : State) (a) (v) : (s.wrN a v).bnd = s.bnd := rfl
@[simp] theorem State.wrN_st (s : State) (a) (v) : (s.wrN a v).st = s.st := rfl
@[simp] theorem State.wrN_dcl (s : State) (a) (v) : (s.wrN a v).dcl = s.dcl := rfl
@[simp] theorem State.wrN_le (s : State) (a) (v) : (s.wrN a v).le = s.le := rfl
@[simp] theorem State.wrN_par (s : State) (a) (v) : (s.wrN a v).par = s.par := rfl
@[simp] theorem State.wrN_fp (s : State) (a) (v) : (s.wrN a v).fp = s.fp := rfl
@[simp] theorem State.wrN_si (s : State) (a) (v) : (s.wrN a v).si = s.si := rfl
@[simp] theorem State.wrN_can (s : State) (a) (v) : (s.wrN a v).can = s.can := rfl
@[simp] theorem State.wrN_aux (s : State) (a) (v) : (s.wrN a v).aux = s.aux := rfl
@[simp] theorem State.wrN_key (s : State) (a) (v) : (s.wrN a v).key = s.key := rfl
@[simp] theorem State.wrN_pwr (s : State) (a) (v) : (s.wrN a v).pwr = s.pwr := rfl
@[simp] theorem State.wrN_hk (s : State) (a) (v) : (s.wrN a v).hk = s.hk := rfl
@[simp] theorem State.wrN_mgt (s : State) (a) (v) : (s.wrN a v).mgt = s.mgt := rfl
@[simp] theorem State.wrI_pending (s : State) (a) (v) : (s.wrI a v).pending = s.pending := rfl
@[simp] theorem State.wrI_free (s : State) (a) (v) : (s.wrI a v).free = s.free := rfl
@[simp] theorem State.wrI_clk (s : State) (a) (v) : (s.wrI a v).clk = s.clk := rfl
@[simp] theorem State.wrI_hal (s : State) (a) (v) : (s.wrI a v).hal = s.hal := rfl
@[simp] theorem State.wrI_hq (s : State) (a) (v) : (s.wrI a v).hq = s.hq := rfl
@[simp] theorem State.wrI_sns (s : State) (a) (v) : (s.wrI a v).sns = s.sns := rfl
@[simp] theorem State.wrI_pos (s : State) (a) (v) : (s.wrI a v).pos = s.pos := rfl
@[simp] theorem State.wrI_edg (s : State) (a) (v) : (s.wrI a v).edg = s.edg := rfl
@[simp] theorem State.wrI_gd (s : State) (a) (v) : (s.wrI a v).gd = s.gd := rfl
@[simp] theorem State.wrI_flt (s : State) (a) (v) : (s.wrI a v).flt = s.flt := rfl
@[simp] theorem State.wrI_bnd (s : State) (a) (v) : (s.wrI a v).bnd = s.bnd := rfl
@[simp] theorem State.wrI_st (s : State) (a) (v) : (s.wrI a v).st = s.st := rfl
@[simp] theorem State.wrI_dcl (s : State) (a) (v) : (s.wrI a v).dcl = s.dcl := rfl
@[simp] theorem State.wrI_le (s : State) (a) (v) : (s.wrI a v).le = s.le := rfl
@[simp] theorem State.wrI_par (s : State) (a) (v) : (s.wrI a v).par = s.par := rfl
@[simp] theorem State.wrI_fp (s : State) (a) (v) : (s.wrI a v).fp = s.fp := rfl
@[simp] theorem State.wrI_si (s : State) (a) (v) : (s.wrI a v).si = s.si := rfl
@[simp] theorem State.wrI_can (s : State) (a) (v) : (s.wrI a v).can = s.can := rfl
@[simp] theorem State.wrI_aux (s : State) (a) (v) : (s.wrI a v).aux = s.aux := rfl
@[simp] theorem State.wrI_key (s : State) (a) (v) : (s.wrI a v).key = s.key := rfl
@[simp] theorem State.wrI_pwr (s : State) (a) (v) : (s.wrI a v).pwr = s.pwr := rfl
@[simp] theorem State.wrI_hk (s : State) (a) (v) : (s.wrI a v).hk = s.hk := rfl
@[simp] theorem State.wrI_mgt (s : State) (a) (v) : (s.wrI a v).mgt = s.mgt := rfl
@[simp] theorem State.setF_pending (s : State) (f) (v) : (s.setF f v).pending = s.pending := rfl
@[simp] theorem State.setF_free (s : State) (f) (v) : (s.setF f v).free = s.free := rfl
@[simp] theorem State.setF_clk (s : State) (f) (v) : (s.setF f v).clk = s.clk := rfl
@[simp] theorem State.setF_hal (s : State) (f) (v) : (s.setF f v).hal = s.hal := rfl
@[simp] theorem State.setF_hq (s : State) (f) (v) : (s.setF f v).hq = s.hq := rfl
@[simp] theorem State.setF_sns (s : State) (f) (v) : (s.setF f v).sns = s.sns := rfl
@[simp] theorem State.setF_pos (s : State) (f) (v) : (s.setF f v).pos = s.pos := rfl
@[simp] theorem State.setF_edg (s : State) (f) (v) : (s.setF f v).edg = s.edg := rfl
@[simp] theorem State.setF_gd (s : State) (f) (v) : (s.setF f v).gd = s.gd := rfl
@[simp] theorem State.setF_flt (s : State) (f) (v) : (s.setF f v).flt = s.flt := rfl
@[simp] theorem State.setF_bnd (s : State) (f) (v) : (s.setF f v).bnd = s.bnd := rfl
@[simp] theorem State.setF_st (s : State) (f) (v) : (s.setF f v).st = s.st := rfl
@[simp] theorem State.setF_dcl (s : State) (f) (v) : (s.setF f v).dcl = s.dcl := rfl
@[simp] theorem State.setF_le (s : State) (f) (v) : (s.setF f v).le = s.le := rfl
@[simp] theorem State.setF_par (s : State) (f) (v) : (s.setF f v).par = s.par := rfl
@[simp] theorem State.setF_fp (s : State) (f) (v) : (s.setF f v).fp = s.fp := rfl
@[simp] theorem State.setF_si (s : State) (f) (v) : (s.setF f v).si = s.si := rfl
@[simp] theorem State.setF_can (s : State) (f) (v) : (s.setF f v).can = s.can := rfl
@[simp] theorem State.setF_aux (s : State) (f) (v) : (s.setF f v).aux = s.aux := rfl
@[simp] theorem State.setF_key (s : State) (f) (v) : (s.setF f v).key = s.key := rfl
@[simp] theorem State.setF_pwr (s : State) (f) (v) : (s.setF f v).pwr = s.pwr := rfl
@[simp] theorem State.setF_hk (s : State) (f) (v) : (s.setF f v).hk = s.hk := rfl
@[simp] theorem State.setF_mgt (s : State) (f) (v) : (s.setF f v).mgt = s.mgt := rfl
@[simp] theorem State.setFI_pending (s : State) (f) (v) : (s.setFI f v).pending = s.pending := rfl
@[simp] theorem State.setFI_free (s : State) (f) (v) : (s.setFI f v).free = s.free := rfl
@[simp] theorem State.setFI_clk (s : State) (f) (v) : (s.setFI f v).clk = s.clk := rfl
@[simp] theorem State.setFI_hal (s : State) (f) (v) : (s.setFI f v).hal = s.hal := rfl
@[simp] theorem State.setFI_hq (s : State) (f) (v) : (s.setFI f v).hq = s.hq := rfl
@[simp] theorem State.setFI_sns (s : State) (f) (v) : (s.setFI f v).sns = s.sns := rfl
@[simp] theorem State.setFI_pos (s : State) (f) (v) : (s.setFI f v).pos = s.pos := rfl
@[simp] theorem State.setFI_edg (s : State) (f) (v) : (s.setFI f v).edg = s.edg := rfl
@[simp] theorem State.setFI_gd (s : State) (f) (v) : (s.setFI f v).gd = s.gd := rfl
@[simp] theorem State.setFI_flt (s : State) (f) (v) : (s.setFI f v).flt = s.flt := rfl
@[simp] theorem State.setFI_bnd (s : State) (f) (v) : (s.setFI f v).bnd = s.bnd := rfl
@[simp] theorem State.setFI_st (s : State) (f) (v) : (s.setFI f v).st = s.st := rfl
@[simp] theorem State.setFI_dcl (s : State) (f) (v) : (s.setFI f v).dcl = s.dcl := rfl
@[simp] theorem State.setFI_le (s : State) (f) (v) : (s.setFI f v).le = s.le := rfl
@[simp] theorem State.setFI_par (s : State) (f) (v) : (s.setFI f v).par = s.par := rfl
@[simp] theorem State.setFI_fp (s : State) (f) (v) : (s.setFI f v).fp = s.fp := rfl
@[simp] theorem State.setFI_si (s : State) (f) (v) : (s.setFI f v).si = s.si := rfl
@[simp] theorem State.setFI_can (s : State) (f) (v) : (s.setFI f v).can = s.can := rfl
@[simp] theorem State.setFI_aux (s : State) (f) (v) : (s.setFI f v).aux = s.aux := rfl
@[simp] theorem State.setFI_key (s : State) (f) (v) : (s.setFI f v).key = s.key := rfl
@[simp] theorem State.setFI_pwr (s : State) (f) (v) : (s.setFI f v).pwr = s.pwr := rfl
@[simp] theorem State.setFI_hk (s : State) (f) (v) : (s.setFI f v).hk = s.hk := rfl
@[simp] theorem State.setFI_mgt (s : State) (f) (v) : (s.setFI f v).mgt = s.mgt := rfl
@[simp] theorem State.set1_pending (s : State) (f) : (s.set1 f).pending = s.pending := rfl
@[simp] theorem State.set1_free (s : State) (f) : (s.set1 f).free = s.free := rfl
@[simp] theorem State.set1_clk (s : State) (f) : (s.set1 f).clk = s.clk := rfl
@[simp] theorem State.set1_hal (s : State) (f) : (s.set1 f).hal = s.hal := rfl
@[simp] theorem State.set1_hq (s : State) (f) : (s.set1 f).hq = s.hq := rfl
@[simp] theorem State.set1_sns (s : State) (f) : (s.set1 f).sns = s.sns := rfl
@[simp] theorem State.set1_pos (s : State) (f) : (s.set1 f).pos = s.pos := rfl
@[simp] theorem State.set1_edg (s : State) (f) : (s.set1 f).edg = s.edg := rfl
@[simp] theorem State.set1_gd (s : State) (f) : (s.set1 f).gd = s.gd := rfl
@[simp] theorem State.set1_flt (s : State) (f) : (s.set1 f).flt = s.flt := rfl
@[simp] theorem State.set1_bnd (s : State) (f) : (s.set1 f).bnd = s.bnd := rfl
@[simp] theorem State.set1_st (s : State) (f) : (s.set1 f).st = s.st := rfl
@[simp] theorem State.set1_dcl (s : State) (f) : (s.set1 f).dcl = s.dcl := rfl
@[simp] theorem State.set1_le (s : State) (f) : (s.set1 f).le = s.le := rfl
@[simp] theorem State.set1_par (s : State) (f) : (s.set1 f).par = s.par := rfl
@[simp] theorem State.set1_fp (s : State) (f) : (s.set1 f).fp = s.fp := rfl
@[simp] theorem State.set1_si (s : State) (f) : (s.set1 f).si = s.si := rfl
@[simp] theorem State.set1_can (s : State) (f) : (s.set1 f).can = s.can := rfl
@[simp] theorem State.set1_aux (s : State) (f) : (s.set1 f).aux = s.aux := rfl
@[simp] theorem State.set1_key (s : State) (f) : (s.set1 f).key = s.key := rfl
@[simp] theorem State.set1_pwr (s : State) (f) : (s.set1 f).pwr = s.pwr := rfl
@[simp] theorem State.set1_hk (s : State) (f) : (s.set1 f).hk = s.hk := rfl
@[simp] theorem State.set1_mgt (s : State) (f) : (s.set1 f).mgt = s.mgt := rfl
@[simp] theorem State.clr_pending (s : State) (f) : (s.clr f).pending = s.pending := rfl
@[simp] theorem State.clr_free (s : State) (f) : (s.clr f).free = s.free := rfl
@[simp] theorem State.clr_clk (s : State) (f) : (s.clr f).clk = s.clk := rfl
@[simp] theorem State.clr_hal (s : State) (f) : (s.clr f).hal = s.hal := rfl
@[simp] theorem State.clr_hq (s : State) (f) : (s.clr f).hq = s.hq := rfl
@[simp] theorem State.clr_sns (s : State) (f) : (s.clr f).sns = s.sns := rfl
@[simp] theorem State.clr_pos (s : State) (f) : (s.clr f).pos = s.pos := rfl
@[simp] theorem State.clr_edg (s : State) (f) : (s.clr f).edg = s.edg := rfl
@[simp] theorem State.clr_gd (s : State) (f) : (s.clr f).gd = s.gd := rfl
@[simp] theorem State.clr_flt (s : State) (f) : (s.clr f).flt = s.flt := rfl
@[simp] theorem State.clr_bnd (s : State) (f) : (s.clr f).bnd = s.bnd := rfl
@[simp] theorem State.clr_st (s : State) (f) : (s.clr f).st = s.st := rfl
@[simp] theorem State.clr_dcl (s : State) (f) : (s.clr f).dcl = s.dcl := rfl
@[simp] theorem State.clr_le (s : State) (f) : (s.clr f).le = s.le := rfl
@[simp] theorem State.clr_par (s : State) (f) : (s.clr f).par = s.par := rfl
@[simp] theorem State.clr_fp (s : State) (f) : (s.clr f).fp = s.fp := rfl
@[simp] theorem State.clr_si (s : State) (f) : (s.clr f).si = s.si := rfl
@[simp] theorem State.clr_can (s : State) (f) : (s.clr f).can = s.can := rfl
@[simp] theorem State.clr_aux (s : State) (f) : (s.clr f).aux = s.aux := rfl
@[simp] theorem State.clr_key (s : State) (f) : (s.clr f).key = s.key := rfl
@[simp] theorem State.clr_pwr (s : State) (f) : (s.clr f).pwr = s.pwr := rfl
@[simp] theorem State.clr_hk (s : State) (f) : (s.clr f).hk = s.hk := rfl
@[simp] theorem State.clr_mgt (s : State) (f) : (s.clr f).mgt = s.mgt := rfl
@[simp] theorem State.setB_pending (s : State) (f) (v) : (s.setB f v).pending = s.pending := rfl
@[simp] theorem State.setB_free (s : State) (f) (v) : (s.setB f v).free = s.free := rfl
@[simp] theorem State.setB_clk (s : State) (f) (v) : (s.setB f v).clk = s.clk := rfl
@[simp] theorem State.setB_hal (s : State) (f) (v) : (s.setB f v).hal = s.hal := rfl
@[simp] theorem State.setB_hq (s : State) (f) (v) : (s.setB f v).hq = s.hq := rfl
@[simp] theorem State.setB_sns (s : State) (f) (v) : (s.setB f v).sns = s.sns := rfl
@[simp] theorem State.setB_pos (s : State) (f) (v) : (s.setB f v).pos = s.pos := rfl
@[simp] theorem State.setB_edg (s : State) (f) (v) : (s.setB f v).edg = s.edg := rfl
@[simp] theorem State.setB_gd (s : State) (f) (v) : (s.setB f v).gd = s.gd := rfl
@[simp] theorem State.setB_flt (s : State) (f) (v) : (s.setB f v).flt = s.flt := rfl
@[simp] theorem State.setB_bnd (s : State) (f) (v) : (s.setB f v).bnd = s.bnd := rfl
@[simp] theorem State.setB_st (s : State) (f) (v) : (s.setB f v).st = s.st := rfl
@[simp] theorem State.setB_dcl (s : State) (f) (v) : (s.setB f v).dcl = s.dcl := rfl
@[simp] theorem State.setB_le (s : State) (f) (v) : (s.setB f v).le = s.le := rfl
@[simp] theorem State.setB_par (s : State) (f) (v) : (s.setB f v).par = s.par := rfl
@[simp] theorem State.setB_fp (s : State) (f) (v) : (s.setB f v).fp = s.fp := rfl
@[simp] theorem State.setB_si (s : State) (f) (v) : (s.setB f v).si = s.si := rfl
@[simp] theorem State.setB_can (s : State) (f) (v) : (s.setB f v).can = s.can := rfl
@[simp] theorem State.setB_aux (s : State) (f) (v) : (s.setB f v).aux = s.aux := rfl
@[simp] theorem State.setB_key (s : State) (f) (v) : (s.setB f v).key = s.key := rfl
@[simp] theorem State.setB_pwr (s : State) (f) (v) : (s.setB f v).pwr = s.pwr := rfl
@[simp] theorem State.setB_hk (s : State) (f) (v) : (s.setB f v).hk = s.hk := rfl
@[simp] theorem State.setB_mgt (s : State) (f) (v) : (s.setB f v).mgt = s.mgt := rfl
@[simp] theorem State.inc_pending (s : State) (a) : (s.inc a).pending = s.pending := rfl
@[simp] theorem State.inc_free (s : State) (a) : (s.inc a).free = s.free := rfl
@[simp] theorem State.inc_clk (s : State) (a) : (s.inc a).clk = s.clk := rfl
@[simp] theorem State.inc_hal (s : State) (a) : (s.inc a).hal = s.hal := rfl
@[simp] theorem State.inc_hq (s : State) (a) : (s.inc a).hq = s.hq := rfl
@[simp] theorem State.inc_sns (s : State) (a) : (s.inc a).sns = s.sns := rfl
@[simp] theorem State.inc_pos (s : State) (a) : (s.inc a).pos = s.pos := rfl
@[simp] theorem State.inc_edg (s : State) (a) : (s.inc a).edg = s.edg := rfl
@[simp] theorem State.inc_gd (s : State) (a) : (s.inc a).gd = s.gd := rfl
@[simp] theorem State.inc_flt (s : State) (a) : (s.inc a).flt = s.flt := rfl
@[simp] theorem State.inc_bnd (s : State) (a) : (s.inc a).bnd = s.bnd := rfl
@[simp] theorem State.inc_st (s : State) (a) : (s.inc a).st = s.st := rfl
@[simp] theorem State.inc_dcl (s : State) (a) : (s.inc a).dcl = s.dcl := rfl
@[simp] theorem State.inc_le (s : State) (a) : (s.inc a).le = s.le := rfl
@[simp] theorem State.inc_par (s : State) (a) : (s.inc a).par = s.par := rfl
@[simp] theorem State.inc_fp (s : State) (a) : (s.inc a).fp = s.fp := rfl
@[simp] theorem State.inc_si (s : State) (a) : (s.inc a).si = s.si := rfl
@[simp] theorem State.inc_can (s : State) (a) : (s.inc a).can = s.can := rfl
@[simp] theorem State.inc_aux (s : State) (a) : (s.inc a).aux = s.aux := rfl
@[simp] theorem State.inc_key (s : State) (a) : (s.inc a).key = s.key := rfl
@[simp] theorem State.inc_pwr (s : State) (a) : (s.inc a).pwr = s.pwr := rfl
@[simp] theorem State.inc_hk (s : State) (a) : (s.inc a).hk = s.hk := rfl
@[simp] theorem State.inc_mgt (s : State) (a) : (s.inc a).mgt = s.mgt := rfl
@[simp] theorem State.incBy_pending (s : State) (a) (v) : (s.incBy a v).pending = s.pending := rfl
@[simp] theorem State.incBy_free (s : State) (a) (v) : (s.incBy a v).free = s.free := rfl
@[simp] theorem State.incBy_clk (s : State) (a) (v) : (s.incBy a v).clk = s.clk := rfl
@[simp] theorem State.incBy_hal (s : State) (a) (v) : (s.incBy a v).hal = s.hal := rfl
@[simp] theorem State.incBy_hq (s : State) (a) (v) : (s.incBy a v).hq = s.hq := rfl
@[simp] theorem State.incBy_sns (s : State) (a) (v) : (s.incBy a v).sns = s.sns := rfl
@[simp] theorem State.incBy_pos (s : State) (a) (v) : (s.incBy a v).pos = s.pos := rfl
@[simp] theorem State.incBy_edg (s : State) (a) (v) : (s.incBy a v).edg = s.edg := rfl
@[simp] theorem State.incBy_gd (s : State) (a) (v) : (s.incBy a v).gd = s.gd := rfl
@[simp] theorem State.incBy_flt (s : State) (a) (v) : (s.incBy a v).flt = s.flt := rfl
@[simp] theorem State.incBy_bnd (s : State) (a) (v) : (s.incBy a v).bnd = s.bnd := rfl
@[simp] theorem State.incBy_st (s : State) (a) (v) : (s.incBy a v).st = s.st := rfl
@[simp] theorem State.incBy_dcl (s : State) (a) (v) : (s.incBy a v).dcl = s.dcl := rfl
@[simp] theorem State.incBy_le (s : State) (a) (v) : (s.incBy a v).le = s.le := rfl
@[simp] theorem State.incBy_par (s : State) (a) (v) : (s.incBy a v).par = s.par := rfl
@[simp] theorem State.incBy_fp (s : State) (a) (v) : (s.incBy a v).fp = s.fp := rfl
@[simp] theorem State.incBy_si (s : State) (a) (v) : (s.incBy a v).si = s.si := rfl
@[simp] theorem State.incBy_can (s : State) (a) (v) : (s.incBy a v).can = s.can := rfl
@[simp] theorem State.incBy_aux (s : State) (a) (v) : (s.incBy a v).aux = s.aux := rfl
@[simp] theorem State.incBy_key (s : State) (a) (v) : (s.incBy a v).key = s.key := rfl
@[simp] theorem State.incBy_pwr (s : State) (a) (v) : (s.incBy a v).pwr = s.pwr := rfl
@[simp] theorem State.incBy_hk (s : State) (a) (v) : (s.incBy a v).hk = s.hk := rfl
@[simp] theorem State.incBy_mgt (s : State) (a) (v) : (s.incBy a v).mgt = s.mgt := rfl
@[simp] theorem State.incMod_pending (s : State) (a) : (s.incMod a).pending = s.pending := rfl
@[simp] theorem State.incMod_free (s : State) (a) : (s.incMod a).free = s.free := rfl
@[simp] theorem State.incMod_clk (s : State) (a) : (s.incMod a).clk = s.clk := rfl
@[simp] theorem State.incMod_hal (s : State) (a) : (s.incMod a).hal = s.hal := rfl
@[simp] theorem State.incMod_hq (s : State) (a) : (s.incMod a).hq = s.hq := rfl
@[simp] theorem State.incMod_sns (s : State) (a) : (s.incMod a).sns = s.sns := rfl
@[simp] theorem State.incMod_pos (s : State) (a) : (s.incMod a).pos = s.pos := rfl
@[simp] theorem State.incMod_edg (s : State) (a) : (s.incMod a).edg = s.edg := rfl
@[simp] theorem State.incMod_gd (s : State) (a) : (s.incMod a).gd = s.gd := rfl
@[simp] theorem State.incMod_flt (s : State) (a) : (s.incMod a).flt = s.flt := rfl
@[simp] theorem State.incMod_bnd (s : State) (a) : (s.incMod a).bnd = s.bnd := rfl
@[simp] theorem State.incMod_st (s : State) (a) : (s.incMod a).st = s.st := rfl
@[simp] theorem State.incMod_dcl (s : State) (a) : (s.incMod a).dcl = s.dcl := rfl
@[simp] theorem State.incMod_le (s : State) (a) : (s.incMod a).le = s.le := rfl
@[simp] theorem State.incMod_par (s : State) (a) : (s.incMod a).par = s.par := rfl
@[simp] theorem State.incMod_fp (s : State) (a) : (s.incMod a).fp = s.fp := rfl
@[simp] theorem State.incMod_si (s : State) (a) : (s.incMod a).si = s.si := rfl
@[simp] theorem State.incMod_can (s : State) (a) : (s.incMod a).can = s.can := rfl
@[simp] theorem State.incMod_aux (s : State) (a) : (s.incMod a).aux = s.aux := rfl
@[simp] theorem State.incMod_key (s : State) (a) : (s.incMod a).key = s.key := rfl
@[simp] theorem State.incMod_pwr (s : State) (a) : (s.incMod a).pwr = s.pwr := rfl
@[simp] theorem State.incMod_hk (s : State) (a) : (s.incMod a).hk = s.hk := rfl
@[simp] theorem State.incMod_mgt (s : State) (a) : (s.incMod a).mgt = s.mgt := rfl
@[simp] theorem State.incF_pending (s : State) (f) : (s.incF f).pending = s.pending := rfl
@[simp] theorem State.incF_free (s : State) (f) : (s.incF f).free = s.free := rfl
@[simp] theorem State.incF_clk (s : State) (f) : (s.incF f).clk = s.clk := rfl
@[simp] theorem State.incF_hal (s : State) (f) : (s.incF f).hal = s.hal := rfl
@[simp] theorem State.incF_hq (s : State) (f) : (s.incF f).hq = s.hq := rfl
@[simp] theorem State.incF_sns (s : State) (f) : (s.incF f).sns = s.sns := rfl
@[simp] theorem State.incF_pos (s : State) (f) : (s.incF f).pos = s.pos := rfl
@[simp] theorem State.incF_edg (s : State) (f) : (s.incF f).edg = s.edg := rfl
@[simp] theorem State.incF_gd (s : State) (f) : (s.incF f).gd = s.gd := rfl
@[simp] theorem State.incF_flt (s : State) (f) : (s.incF f).flt = s.flt := rfl
@[simp] theorem State.incF_bnd (s : State) (f) : (s.incF f).bnd = s.bnd := rfl
@[simp] theorem State.incF_st (s : State) (f) : (s.incF f).st = s.st := rfl
@[simp] theorem State.incF_dcl (s : State) (f) : (s.incF f).dcl = s.dcl := rfl
@[simp] theorem State.incF_le (s : State) (f) : (s.incF f).le = s.le := rfl
@[simp] theorem State.incF_par (s : State) (f) : (s.incF f).par = s.par := rfl
@[simp] theorem State.incF_fp (s : State) (f) : (s.incF f).fp = s.fp := rfl
@[simp] theorem State.incF_si (s : State) (f) : (s.incF f).si = s.si := rfl
@[simp] theorem State.incF_can (s : State) (f) : (s.incF f).can = s.can := rfl
@[simp] theorem State.incF_aux (s : State) (f) : (s.incF f).aux = s.aux := rfl
@[simp] theorem State.incF_key (s : State) (f) : (s.incF f).key = s.key := rfl
@[simp] theorem State.incF_pwr (s : State) (f) : (s.incF f).pwr = s.pwr := rfl
@[simp] theorem State.incF_hk (s : State) (f) : (s.incF f).hk = s.hk := rfl
@[simp] theorem State.incF_mgt (s : State) (f) : (s.incF f).mgt = s.mgt := rfl
@[simp] theorem State.setBit_pending (s : State) (a) (v) : (s.setBit a v).pending = s.pending := rfl
@[simp] theorem State.setBit_free (s : State) (a) (v) : (s.setBit a v).free = s.free := rfl
@[simp] theorem State.setBit_clk (s : State) (a) (v) : (s.setBit a v).clk = s.clk := rfl
@[simp] theorem State.setBit_hal (s : State) (a) (v) : (s.setBit a v).hal = s.hal := rfl
@[simp] theorem State.setBit_hq (s : State) (a) (v) : (s.setBit a v).hq = s.hq := rfl
@[simp] theorem State.setBit_sns (s : State) (a) (v) : (s.setBit a v).sns = s.sns := rfl
@[simp] theorem State.setBit_pos (s : State) (a) (v) : (s.setBit a v).pos = s.pos := rfl
@[simp] theorem State.setBit_edg (s : State) (a) (v) : (s.setBit a v).edg = s.edg := rfl
@[simp] theorem State.setBit_gd (s : State) (a) (v) : (s.setBit a v).gd = s.gd := rfl
@[simp] theorem State.setBit_flt (s : State) (a) (v) : (s.setBit a v).flt = s.flt := rfl
@[simp] theorem State.setBit_bnd (s : State) (a) (v) : (s.setBit a v).bnd = s.bnd := rfl
@[simp] theorem State.setBit_st (s : State) (a) (v) : (s.setBit a v).st = s.st := rfl
@[simp] theorem State.setBit_dcl (s : State) (a) (v) : (s.setBit a v).dcl = s.dcl := rfl
@[simp] theorem State.setBit_le (s : State) (a) (v) : (s.setBit a v).le = s.le := rfl
@[simp] theorem State.setBit_par (s : State) (a) (v) : (s.setBit a v).par = s.par := rfl
@[simp] theorem State.setBit_fp (s : State) (a) (v) : (s.setBit a v).fp = s.fp := rfl
@[simp] theorem State.setBit_si (s : State) (a) (v) : (s.setBit a v).si = s.si := rfl
@[simp] theorem State.setBit_can (s : State) (a) (v) : (s.setBit a v).can = s.can := rfl
@[simp] theorem State.setBit_aux (s : State) (a) (v) : (s.setBit a v).aux = s.aux := rfl
@[simp] theorem State.setBit_key (s : State) (a) (v) : (s.setBit a v).key = s.key := rfl
@[simp] theorem State.setBit_pwr (s : State) (a) (v) : (s.setBit a v).pwr = s.pwr := rfl
@[simp] theorem State.setBit_hk (s : State) (a) (v) : (s.setBit a v).hk = s.hk := rfl
@[simp] theorem State.setBit_mgt (s : State) (a) (v) : (s.setBit a v).mgt = s.mgt := rfl
@[simp] theorem State.clrBit_pending (s : State) (a) (v) : (s.clrBit a v).pending = s.pending := rfl
@[simp] theorem State.clrBit_free (s : State) (a) (v) : (s.clrBit a v).free = s.free := rfl
@[simp] theorem State.clrBit_clk (s : State) (a) (v) : (s.clrBit a v).clk = s.clk := rfl
@[simp] theorem State.clrBit_hal (s : State) (a) (v) : (s.clrBit a v).hal = s.hal := rfl
@[simp] theorem State.clrBit_hq (s : State) (a) (v) : (s.clrBit a v).hq = s.hq := rfl
@[simp] theorem State.clrBit_sns (s : State) (a) (v) : (s.clrBit a v).sns = s.sns := rfl
@[simp] theorem State.clrBit_pos (s : State) (a) (v) : (s.clrBit a v).pos = s.pos := rfl
@[simp] theorem State.clrBit_edg (s : State) (a) (v) : (s.clrBit a v).edg = s.edg := rfl
@[simp] theorem State.clrBit_gd (s : State) (a) (v) : (s.clrBit a v).gd = s.gd := rfl
@[simp] theorem State.clrBit_flt (s : State) (a) (v) : (s.clrBit a v).flt = s.flt := rfl
@[simp] theorem State.clrBit_bnd (s : State) (a) (v) : (s.clrBit a v).bnd = s.bnd := rfl
@[simp] theorem State.clrBit_st (s : State) (a) (v) : (s.clrBit a v).st = s.st := rfl
@[simp] theorem State.clrBit_dcl (s : State) (a) (v) : (s.clrBit a v).dcl = s.dcl := rfl
@[simp] theorem State.clrBit_le (s : State) (a) (v) : (s.clrBit a v).le = s.le := rfl
@[simp] theorem State.clrBit_par (s : State) (a) (v) : (s.clrBit a v).par = s.par := rfl
@[simp] theorem State.clrBit_fp (s : State) (a) (v) : (s.clrBit a v).fp = s.fp := rfl
@[simp] theorem State.clrBit_si (s : State) (a) (v) : (s.clrBit a v).si = s.si := rfl
@[simp] theorem State.clrBit_can (s : State) (a) (v) : (s.clrBit a v).can = s.can := rfl
@[simp] theorem State.clrBit_aux (s : State) (a) (v) : (s.clrBit a v).aux = s.aux := rfl
@[simp] theorem State.clrBit_key (s : State) (a) (v) : (s.clrBit a v).key = s.key := rfl
@[simp] theorem State.clrBit_pwr (s : State) (a) (v) : (s.clrBit a v).pwr = s.pwr := rfl
@[simp] theorem State.clrBit_hk (s : State) (a) (v) : (s.clrBit a v).hk = s.hk := rfl
@[simp] theorem State.clrBit_mgt (s : State) (a) (v) : (s.clrBit a v).mgt = s.mgt := rfl
@[simp] theorem State.cmdSet_pending (s : State) (a) (v) (w) : (s.cmdSet a v w).pending = s.pending := State.wrN_pending _ _ _
@[simp] theorem State.cmdSet_free (s : State) (a) (v) (w) : (s.cmdSet a v w).free = s.free := State.wrN_free _ _ _
@[simp] theorem State.cmdSet_clk (s : State) (a) (v) (w) : (s.cmdSet a v w).clk = s.clk := State.wrN_clk _ _ _
@[simp] theorem State.cmdSet_hal (s : State) (a) (v) (w) : (s.cmdSet a v w).hal = s.hal := State.wrN_hal _ _ _
@[simp] theorem State.cmdSet_hq (s : State) (a) (v) (w) : (s.cmdSet a v w).hq = s.hq := State.wrN_hq _ _ _
@[simp] theorem State.cmdSet_sns (s : State) (a) (v) (w) : (s.cmdSet a v w).sns = s.sns := State.wrN_sns _ _ _
@[simp] theorem State.cmdSet_pos (s : State) (a) (v) (w) : (s.cmdSet a v w).pos = s.pos := State.wrN_pos _ _ _
@[simp] theorem State.cmdSet_edg (s : State) (a) (v) (w) : (s.cmdSet a v w).edg = s.edg := State.wrN_edg _ _ _
@[simp] theorem State.cmdSet_gd (s : State) (a) (v) (w) : (s.cmdSet a v w).gd = s.gd := State.wrN_gd _ _ _
@[simp] theorem State.cmdSet_flt (s : State) (a) (v) (w) : (s.cmdSet a v w).flt = s.flt := State.wrN_flt _ _ _
@[simp] theorem State.cmdSet_bnd (s : State) (a) (v) (w) : (s.cmdSet a v w).bnd = s.bnd := State.wrN_bnd _ _ _
@[simp] theorem State.cmdSet_st (s : State) (a) (v) (w) : (s.cmdSet a v w).st = s.st := State.wrN_st _ _ _
@[simp] theorem State.cmdSet_dcl (s : State) (a) (v) (w) : (s.cmdSet a v w).dcl = s.dcl := State.wrN_dcl _ _ _
@[simp] theorem State.cmdSet_le (s : State) (a) (v) (w) : (s.cmdSet a v w).le = s.le := State.wrN_le _ _ _
@[simp] theorem State.cmdSet_par (s : State) (a) (v) (w) : (s.cmdSet a v w).par = s.par := State.wrN_par _ _ _
@[simp] theorem State.cmdSet_fp (s : State) (a) (v) (w) : (s.cmdSet a v w).fp = s.fp := State.wrN_fp _ _ _
@[simp] theorem State.cmdSet_si (s : State) (a) (v) (w) : (s.cmdSet a v w).si = s.si := State.wrN_si _ _ _
@[simp] theorem State.cmdSet_can (s : State) (a) (v) (w) : (s.cmdSet a v w).can = s.can := State.wrN_can _ _ _
@[simp] theorem State.cmdSet_aux (s : State) (a) (v) (w) : (s.cmdSet a v w).aux = s.aux := State.wrN_aux _ _ _
@[simp] theorem State.cmdSet_key (s : State) (a) (v) (w) : (s.cmdSet a v w).key = s.key := State.wrN_key _ _ _
@[simp] theorem State.cmdSet_pwr (s : State) (a) (v) (w) : (s.cmdSet a v w).pwr = s.pwr := State.wrN_pwr _ _ _
@[simp] theorem State.cmdSet_hk (s : State) (a) (v) (w) : (s.cmdSet a v w).hk = s.hk := State.wrN_hk _ _ _
@[simp] theorem State.cmdSet_mgt (s : State) (a) (v) (w) : (s.cmdSet a v w).mgt = s.mgt := State.wrN_mgt _ _ _
@[simp] theorem State.cmdEnd_pending (s : State) (a) (v) : (s.cmdEnd a v).pending = s.pending := State.cmdSet_pending _ _ _ _
@[simp] theorem State.cmdEnd_free (s : State) (a) (v) : (s.cmdEnd a v).free = s.free := State.cmdSet_free _ _ _ _
@[simp] theorem State.cmdEnd_clk (s : State) (a) (v) : (s.cmdEnd a v).clk = s.clk := State.cmdSet_clk _ _ _ _
@[simp] theorem State.cmdEnd_hal (s : State) (a) (v) : (s.cmdEnd a v).hal = s.hal := State.cmdSet_hal _ _ _ _
@[simp] theorem State.cmdEnd_hq (s : State) (a) (v) : (s.cmdEnd a v).hq = s.hq := State.cmdSet_hq _ _ _ _
@[simp] theorem State.cmdEnd_sns (s : State) (a) (v) : (s.cmdEnd a v).sns = s.sns := State.cmdSet_sns _ _ _ _
@[simp] theorem State.cmdEnd_pos (s : State) (a) (v) : (s.cmdEnd a v).pos = s.pos := State.cmdSet_pos _ _ _ _
@[simp] theorem State.cmdEnd_edg (s : State) (a) (v) : (s.cmdEnd a v).edg = s.edg := State.cmdSet_edg _ _ _ _
@[simp] theorem State.cmdEnd_gd (s : State) (a) (v) : (s.cmdEnd a v).gd = s.gd := State.cmdSet_gd _ _ _ _
@[simp] theorem State.cmdEnd_flt (s : State) (a) (v) : (s.cmdEnd a v).flt = s.flt := State.cmdSet_flt _ _ _ _
@[simp] theorem State.cmdEnd_bnd (s : State) (a) (v) : (s.cmdEnd a v).bnd = s.bnd := State.cmdSet_bnd _ _ _ _
@[simp] theorem State.cmdEnd_st (s : State) (a) (v) : (s.cmdEnd a v).st = s.st := State.cmdSet_st _ _ _ _
@[simp] theorem State.cmdEnd_dcl (s : State) (a) (v) : (s.cmdEnd a v).dcl = s.dcl := State.cmdSet_dcl _ _ _ _
@[simp] theorem State.cmdEnd_le (s : State) (a) (v) : (s.cmdEnd a v).le = s.le := State.cmdSet_le _ _ _ _
@[simp] theorem State.cmdEnd_par (s : State) (a) (v) : (s.cmdEnd a v).par = s.par := State.cmdSet_par _ _ _ _
@[simp] theorem State.cmdEnd_fp (s : State) (a) (v) : (s.cmdEnd a v).fp = s.fp := State.cmdSet_fp _ _ _ _
@[simp] theorem State.cmdEnd_si (s : State) (a) (v) : (s.cmdEnd a v).si = s.si := State.cmdSet_si _ _ _ _
@[simp] theorem State.cmdEnd_can (s : State) (a) (v) : (s.cmdEnd a v).can = s.can := State.cmdSet_can _ _ _ _
@[simp] theorem State.cmdEnd_aux (s : State) (a) (v) : (s.cmdEnd a v).aux = s.aux := State.cmdSet_aux _ _ _ _
@[simp] theorem State.cmdEnd_key (s : State) (a) (v) : (s.cmdEnd a v).key = s.key := State.cmdSet_key _ _ _ _
@[simp] theorem State.cmdEnd_pwr (s : State) (a) (v) : (s.cmdEnd a v).pwr = s.pwr := State.cmdSet_pwr _ _ _ _
@[simp] theorem State.cmdEnd_hk (s : State) (a) (v) : (s.cmdEnd a v).hk = s.hk := State.cmdSet_hk _ _ _ _
@[simp] theorem State.cmdEnd_mgt (s : State) (a) (v) : (s.cmdEnd a v).mgt = s.mgt := State.cmdSet_mgt _ _ _ _
@[simp] theorem State.raiseWith_pending (s : State) (c) (u) (d) (b) : (s.raiseWith c u d b).pending = s.pending := by unfold State.raiseWith; split <;> rfl
@[simp] theorem State.raiseWith_free (s : State) (c) (u) (d) (b) : (s.raiseWith c u d b).free = s.free := by unfold State.raiseWith; split <;> rfl
@[simp] theorem State.raiseWith_clk (s : State) (c) (u) (d) (b) : (s.raiseWith c u d b).clk = s.clk := by unfold State.raiseWith; split <;> rfl
@[simp] theorem State.raiseWith_hal (s : State) (c) (u) (d) (b) : (s.raiseWith c u d b).hal = s.hal := by unfold State.raiseWith; split <;> rfl
@[simp] theorem State.raiseWith_hq (s : State) (c) (u) (d) (b) : (s.raiseWith c u d b).hq = s.hq := by unfold State.raiseWith; split <;> rfl
@[simp] theorem State.raiseWith_sns (s : State) (c) (u) (d) (b) : (s.raiseWith c u d b).sns = s.sns := by unfold State.raiseWith; split <;> rfl
@[simp] theorem State.raiseWith_pos (s : State) (c) (u) (d) (b) : (s.raiseWith c u d b).pos = s.pos := by unfold State.raiseWith; split <;> rfl
@[simp] theorem State.raiseWith_edg (s : State) (c) (u) (d) (b) : (s.raiseWith c u d b).edg = s.edg := by unfold State.raiseWith; split <;> rfl
@[simp] theorem State.raiseWith_gd (s : State) (c) (u) (d) (b) : (s.raiseWith c u d b).gd = s.gd := by unfold State.raiseWith; split <;> rfl
@[simp] theorem State.raiseWith_bnd (s : State) (c) (u) (d) (b) : (s.raiseWith c u d b).bnd = s.bnd := by unfold State.raiseWith; split <;> rfl
@[simp] theorem State.raiseWith_st (s : State) (c) (u) (d) (b) : (s.raiseWith c u d b).st = s.st := by unfold State.raiseWith; split <;> rfl
@[simp] theorem State.raiseWith_dcl (s : State) (c) (u) (d) (b) : (s.raiseWith c u d b).dcl = s.dcl := by unfold State.raiseWith; split <;> rfl
@[simp] theorem State.raiseWith_le (s : State) (c) (u) (d) (b) : (s.raiseWith c u d b).le = s.le := by unfold State.raiseWith; split <;> rfl
@[simp] theorem State.raiseWith_par (s : State) (c) (u) (d) (b) : (s.raiseWith c u d b).par = s.par := by unfold State.raiseWith; split <;> rfl
@[simp] theorem State.raiseWith_fp (s : State) (c) (u) (d) (b) : (s.raiseWith c u d b).fp = s.fp := by unfold State.raiseWith; split <;> rfl
@[simp] theorem State.raiseWith_si (s : State) (c) (u) (d) (b) : (s.raiseWith c u d b).si = s.si := by unfold State.raiseWith; split <;> rfl
@[simp] theorem State.raiseWith_can (s : State) (c) (u) (d) (b) : (s.raiseWith c u d b).can = s.can := by unfold State.raiseWith; split <;> rfl
@[simp] theorem State.raiseWith_aux (s : State) (c) (u) (d) (b) : (s.raiseWith c u d b).aux = s.aux := by unfold State.raiseWith; split <;> rfl
@[simp] theorem State.raiseWith_key (s : State) (c) (u) (d) (b) : (s.raiseWith c u d b).key = s.key := by unfold State.raiseWith; split <;> rfl
@[simp] theorem State.raiseWith_pwr (s : State) (c) (u) (d) (b) : (s.raiseWith c u d b).pwr = s.pwr := by unfold State.raiseWith; split <;> rfl
@[simp] theorem State.raiseWith_hk (s : State) (c) (u) (d) (b) : (s.raiseWith c u d b).hk = s.hk := by unfold State.raiseWith; split <;> rfl
@[simp] theorem State.raiseWith_mgt (s : State) (c) (u) (d) (b) : (s.raiseWith c u d b).mgt = s.mgt := by unfold State.raiseWith; split <;> rfl
@[simp] theorem State.raiseWith_regs (s : State) (c) (u) (d) (b) : (s.raiseWith c u d b).regs = s.regs := by unfold State.raiseWith; split <;> rfl
@[simp] theorem State.raiseD_pending (s : State) (c) (u) (d) : (s.raiseD c u d).pending = s.pending := State.raiseWith_pending _ _ _ _ _
@[simp] theorem State.raiseD_free (s : State) (c) (u) (d) : (s.raiseD c u d).free = s.free := State.raiseWith_free _ _ _ _ _
@[simp] theorem State.raiseD_clk (s : State) (c) (u) (d) : (s.raiseD c u d).clk = s.clk := State.raiseWith_clk _ _ _ _ _
@[simp] theorem State.raiseD_hal (s : State) (c) (u) (d) : (s.raiseD c u d).hal = s.hal := State.raiseWith_hal _ _ _ _ _
@[simp] theorem State.raiseD_hq (s : State) (c) (u) (d) : (s.raiseD c u d).hq = s.hq := State.raiseWith_hq _ _ _ _ _
@[simp] theorem State.raiseD_sns (s : State) (c) (u) (d) : (s.raiseD c u d).sns = s.sns := State.raiseWith_sns _ _ _ _ _
@[simp] theorem State.raiseD_pos (s : State) (c) (u) (d) : (s.raiseD c u d).pos = s.pos := State.raiseWith_pos _ _ _ _ _
@[simp] theorem State.raiseD_edg (s : State) (c) (u) (d) : (s.raiseD c u d).edg = s.edg := State.raiseWith_edg _ _ _ _ _
@[simp] theorem State.raiseD_gd (s : State) (c) (u) (d) : (s.raiseD c u d).gd = s.gd := State.raiseWith_gd _ _ _ _ _
@[simp] theorem State.raiseD_bnd (s : State) (c) (u) (d) : (s.raiseD c u d).bnd = s.bnd := State.raiseWith_bnd _ _ _ _ _
@[simp] theorem State.raiseD_st (s : State) (c) (u) (d) : (s.raiseD c u d).st = s.st := State.raiseWith_st _ _ _ _ _
@[simp] theorem State.raiseD_dcl (s : State) (c) (u) (d) : (s.raiseD c u d).dcl = s.dcl := State.raiseWith_dcl _ _ _ _ _
@[simp] theorem State.raiseD_le (s : State) (c) (u) (d) : (s.raiseD c u d).le = s.le := State.raiseWith_le _ _ _ _ _
@[simp] theorem State.raiseD_par (s : State) (c) (u) (d) : (s.raiseD c u d).par = s.par := State.raiseWith_par _ _ _ _ _
@[simp] theorem State.raiseD_fp (s : State) (c) (u) (d) : (s.raiseD c u d).fp = s.fp := State.raiseWith_fp _ _ _ _ _
@[simp] theorem State.raiseD_si (s : State) (c) (u) (d) : (s.raiseD c u d).si = s.si := State.raiseWith_si _ _ _ _ _
@[simp] theorem State.raiseD_can (s : State) (c) (u) (d) : (s.raiseD c u d).can = s.can := State.raiseWith_can _ _ _ _ _
@[simp] theorem State.raiseD_aux (s : State) (c) (u) (d) : (s.raiseD c u d).aux = s.aux := State.raiseWith_aux _ _ _ _ _
@[simp] theorem State.raiseD_key (s : State) (c) (u) (d) : (s.raiseD c u d).key = s.key := State.raiseWith_key _ _ _ _ _
@[simp] theorem State.raiseD_pwr (s : State) (c) (u) (d) : (s.raiseD c u d).pwr = s.pwr := State.raiseWith_pwr _ _ _ _ _
@[simp] theorem State.raiseD_hk (s : State) (c) (u) (d) : (s.raiseD c u d).hk = s.hk := State.raiseWith_hk _ _ _ _ _
@[simp] theorem State.raiseD_mgt (s : State) (c) (u) (d) : (s.raiseD c u d).mgt = s.mgt := State.raiseWith_mgt _ _ _ _ _
@[simp] theorem State.raiseD_regs (s : State) (c) (u) (d) : (s.raiseD c u d).regs = s.regs := State.raiseWith_regs _ _ _ _ _
@[simp] theorem State.raise_pending (s : State) (c) (u) : (s.raise c u).pending = s.pending := State.raiseWith_pending _ _ _ _ _
@[simp] theorem State.raise_free (s : State) (c) (u) : (s.raise c u).free = s.free := State.raiseWith_free _ _ _ _ _
@[simp] theorem State.raise_clk (s : State) (c) (u) : (s.raise c u).clk = s.clk := State.raiseWith_clk _ _ _ _ _
@[simp] theorem State.raise_hal (s : State) (c) (u) : (s.raise c u).hal = s.hal := State.raiseWith_hal _ _ _ _ _
@[simp] theorem State.raise_hq (s : State) (c) (u) : (s.raise c u).hq = s.hq := State.raiseWith_hq _ _ _ _ _
@[simp] theorem State.raise_sns (s : State) (c) (u) : (s.raise c u).sns = s.sns := State.raiseWith_sns _ _ _ _ _
@[simp] theorem State.raise_pos (s : State) (c) (u) : (s.raise c u).pos = s.pos := State.raiseWith_pos _ _ _ _ _
@[simp] theorem State.raise_edg (s : State) (c) (u) : (s.raise c u).edg = s.edg := State.raiseWith_edg _ _ _ _ _
@[simp] theorem State.raise_gd (s : State) (c) (u) : (s.raise c u).gd = s.gd := State.raiseWith_gd _ _ _ _ _
@[simp] theorem State.raise_bnd (s : State) (c) (u) : (s.raise c u).bnd = s.bnd := State.raiseWith_bnd _ _ _ _ _
@[simp] theorem State.raise_st (s : State) (c) (u) : (s.raise c u).st = s.st := State.raiseWith_st _ _ _ _ _
@[simp] theorem State.raise_dcl (s : State) (c) (u) : (s.raise c u).dcl = s.dcl := State.raiseWith_dcl _ _ _ _ _
@[simp] theorem State.raise_le (s : State) (c) (u) : (s.raise c u).le = s.le := State.raiseWith_le _ _ _ _ _
@[simp] theorem State.raise_par (s : State) (c) (u) : (s.raise c u).par = s.par := State.raiseWith_par _ _ _ _ _
@[simp] theorem State.raise_fp (s : State) (c) (u) : (s.raise c u).fp = s.fp := State.raiseWith_fp _ _ _ _ _
@[simp] theorem State.raise_si (s : State) (c) (u) : (s.raise c u).si = s.si := State.raiseWith_si _ _ _ _ _
@[simp] theorem State.raise_can (s : State) (c) (u) : (s.raise c u).can = s.can := State.raiseWith_can _ _ _ _ _
@[simp] theorem State.raise_aux (s : State) (c) (u) : (s.raise c u).aux = s.aux := State.raiseWith_aux _ _ _ _ _
@[simp] theorem State.raise_key (s : State) (c) (u) : (s.raise c u).key = s.key := State.raiseWith_key _ _ _ _ _
@[simp] theorem State.raise_pwr (s : State) (c) (u) : (s.raise c u).pwr = s.pwr := State.raiseWith_pwr _ _ _ _ _
@[simp] theorem State.raise_hk (s : State) (c) (u) : (s.raise c u).hk = s.hk := State.raiseWith_hk _ _ _ _ _
@[simp] theorem State.raise_mgt (s : State) (c) (u) : (s.raise c u).mgt = s.mgt := State.raiseWith_mgt _ _ _ _ _
@[simp] theorem State.raise_regs (s : State) (c) (u) : (s.raise c u).regs = s.regs := State.raiseWith_regs _ _ _ _ _
@[simp] theorem State.raiseStop_pending (s : State) (c) (u) : (s.raiseStop c u).pending = s.pending := State.raiseWith_pending _ _ _ _ _
@[simp] theorem State.raiseStop_free (s : State) (c) (u) : (s.raiseStop c u).free = s.free := State.raiseWith_free _ _ _ _ _
@[simp] theorem State.raiseStop_clk (s : State) (c) (u) : (s.raiseStop c u).clk = s.clk := State.raiseWith_clk _ _ _ _ _
@[simp] theorem State.raiseStop_hal (s : State) (c) (u) : (s.raiseStop c u).hal = s.hal := State.raiseWith_hal _ _ _ _ _
@[simp] theorem State.raiseStop_hq (s : State) (c) (u) : (s.raiseStop c u).hq = s.hq := State.raiseWith_hq _ _ _ _ _
@[simp] theorem State.raiseStop_sns (s : State) (c) (u) : (s.raiseStop c u).sns = s.sns := State.raiseWith_sns _ _ _ _ _
@[simp] theorem State.raiseStop_pos (s : State) (c) (u) : (s.raiseStop c u).pos = s.pos := State.raiseWith_pos _ _ _ _ _
@[simp] theorem State.raiseStop_edg (s : State) (c) (u) : (s.raiseStop c u).edg = s.edg := State.raiseWith_edg _ _ _ _ _
@[simp] theorem State.raiseStop_gd (s : State) (c) (u) : (s.raiseStop c u).gd = s.gd := State.raiseWith_gd _ _ _ _ _
@[simp] theorem State.raiseStop_bnd (s : State) (c) (u) : (s.raiseStop c u).bnd = s.bnd := State.raiseWith_bnd _ _ _ _ _
@[simp] theorem State.raiseStop_st (s : State) (c) (u) : (s.raiseStop c u).st = s.st := State.raiseWith_st _ _ _ _ _
@[simp] theorem State.raiseStop_dcl (s : State) (c) (u) : (s.raiseStop c u).dcl = s.dcl := State.raiseWith_dcl _ _ _ _ _
@[simp] theorem State.raiseStop_le (s : State) (c) (u) : (s.raiseStop c u).le = s.le := State.raiseWith_le _ _ _ _ _
@[simp] theorem State.raiseStop_par (s : State) (c) (u) : (s.raiseStop c u).par = s.par := State.raiseWith_par _ _ _ _ _
@[simp] theorem State.raiseStop_fp (s : State) (c) (u) : (s.raiseStop c u).fp = s.fp := State.raiseWith_fp _ _ _ _ _
@[simp] theorem State.raiseStop_si (s : State) (c) (u) : (s.raiseStop c u).si = s.si := State.raiseWith_si _ _ _ _ _
@[simp] theorem State.raiseStop_can (s : State) (c) (u) : (s.raiseStop c u).can = s.can := State.raiseWith_can _ _ _ _ _
@[simp] theorem State.raiseStop_aux (s : State) (c) (u) : (s.raiseStop c u).aux = s.aux := State.raiseWith_aux _ _ _ _ _
@[simp] theorem State.raiseStop_key (s : State) (c) (u) : (s.raiseStop c u).key = s.key := State.raiseWith_key _ _ _ _ _
@[simp] theorem State.raiseStop_pwr (s : State) (c) (u) : (s.raiseStop c u).pwr = s.pwr := State.raiseWith_pwr _ _ _ _ _
@[simp] theorem State.raiseStop_hk (s : State) (c) (u) : (s.raiseStop c u).hk = s.hk := State.raiseWith_hk _ _ _ _ _
@[simp] theorem State.raiseStop_mgt (s : State) (c) (u) : (s.raiseStop c u).mgt = s.mgt := State.raiseWith_mgt _ _ _ _ _
@[simp] theorem State.raiseStop_regs (s : State) (c) (u) : (s.raiseStop c u).regs = s.regs := State.raiseWith_regs _ _ _ _ _
@[simp] theorem State.raiseCleared_pending (s : State) (c) (u) (n) : (s.raiseCleared c u n).pending = s.pending := State.raiseWith_pending _ _ _ _ _
@[simp] theorem State.raiseCleared_free (s : State) (c) (u) (n) : (s.raiseCleared c u n).free = s.free := State.raiseWith_free _ _ _ _ _
@[simp] theorem State.raiseCleared_clk (s : State) (c) (u) (n) : (s.raiseCleared c u n).clk = s.clk := State.raiseWith_clk _ _ _ _ _
@[simp] theorem State.raiseCleared_hal (s : State) (c) (u) (n) : (s.raiseCleared c u n).hal = s.hal := State.raiseWith_hal _ _ _ _ _
@[simp] theorem State.raiseCleared_hq (s : State) (c) (u) (n) : (s.raiseCleared c u n).hq = s.hq := State.raiseWith_hq _ _ _ _ _
@[simp] theorem State.raiseCleared_sns (s : State) (c) (u) (n) : (s.raiseCleared c u n).sns = s.sns := State.raiseWith_sns _ _ _ _ _
@[simp] theorem State.raiseCleared_pos (s : State) (c) (u) (n) : (s.raiseCleared c u n).pos = s.pos := State.raiseWith_pos _ _ _ _ _
@[simp] theorem State.raiseCleared_edg (s : State) (c) (u) (n) : (s.raiseCleared c u n).edg = s.edg := State.raiseWith_edg _ _ _ _ _
@[simp] theorem State.raiseCleared_gd (s : State) (c) (u) (n) : (s.raiseCleared c u n).gd = s.gd := State.raiseWith_gd _ _ _ _ _
@[simp] theorem State.raiseCleared_bnd (s : State) (c) (u) (n) : (s.raiseCleared c u n).bnd = s.bnd := State.raiseWith_bnd _ _ _ _ _
@[simp] theorem State.raiseCleared_st (s : State) (c) (u) (n) : (s.raiseCleared c u n).st = s.st := State.raiseWith_st _ _ _ _ _
@[simp] theorem State.raiseCleared_dcl (s : State) (c) (u) (n) : (s.raiseCleared c u n).dcl = s.dcl := State.raiseWith_dcl _ _ _ _ _
@[simp] theorem State.raiseCleared_le (s : State) (c) (u) (n) : (s.raiseCleared c u n).le = s.le := State.raiseWith_le _ _ _ _ _
@[simp] theorem State.raiseCleared_par (s : State) (c) (u) (n) : (s.raiseCleared c u n).par = s.par := State.raiseWith_par _ _ _ _ _
@[simp] theorem State.raiseCleared_fp (s : State) (c) (u) (n) : (s.raiseCleared c u n).fp = s.fp := State.raiseWith_fp _ _ _ _ _
@[simp] theorem State.raiseCleared_si (s : State) (c) (u) (n) : (s.raiseCleared c u n).si = s.si := State.raiseWith_si _ _ _ _ _
@[simp] theorem State.raiseCleared_can (s : State) (c) (u) (n) : (s.raiseCleared c u n).can = s.can := State.raiseWith_can _ _ _ _ _
@[simp] theorem State.raiseCleared_aux (s : State) (c) (u) (n) : (s.raiseCleared c u n).aux = s.aux := State.raiseWith_aux _ _ _ _ _
@[simp] theorem State.raiseCleared_key (s : State) (c) (u) (n) : (s.raiseCleared c u n).key = s.key := State.raiseWith_key _ _ _ _ _
@[simp] theorem State.raiseCleared_pwr (s : State) (c) (u) (n) : (s.raiseCleared c u n).pwr = s.pwr := State.raiseWith_pwr _ _ _ _ _
@[simp] theorem State.raiseCleared_hk (s : State) (c) (u) (n) : (s.raiseCleared c u n).hk = s.hk := State.raiseWith_hk _ _ _ _ _
@[simp] theorem State.raiseCleared_mgt (s : State) (c) (u) (n) : (s.raiseCleared c u n).mgt = s.mgt := State.raiseWith_mgt _ _ _ _ _
@[simp] theorem State.raiseCleared_regs (s : State) (c) (u) (n) : (s.raiseCleared c u n).regs = s.regs := State.raiseWith_regs _ _ _ _ _
@[simp] theorem State.raiseWin_pending (s : State) (w) (c) (u) (q) (d) : (s.raiseWin w c u q d).pending = s.pending := by unfold State.raiseWin; split <;> simp
@[simp] theorem State.raiseWin_free (s : State) (w) (c) (u) (q) (d) : (s.raiseWin w c u q d).free = s.free := by unfold State.raiseWin; split <;> simp
@[simp] theorem State.raiseWin_clk (s : State) (w) (c) (u) (q) (d) : (s.raiseWin w c u q d).clk = s.clk := by unfold State.raiseWin; split <;> simp
@[simp] theorem State.raiseWin_hal (s : State) (w) (c) (u) (q) (d) : (s.raiseWin w c u q d).hal = s.hal := by unfold State.raiseWin; split <;> simp
@[simp] theorem State.raiseWin_hq (s : State) (w) (c) (u) (q) (d) : (s.raiseWin w c u q d).hq = s.hq := by unfold State.raiseWin; split <;> simp
@[simp] theorem State.raiseWin_sns (s : State) (w) (c) (u) (q) (d) : (s.raiseWin w c u q d).sns = s.sns := by unfold State.raiseWin; split <;> simp
@[simp] theorem State.raiseWin_pos (s : State) (w) (c) (u) (q) (d) : (s.raiseWin w c u q d).pos = s.pos := by unfold State.raiseWin; split <;> simp
@[simp] theorem State.raiseWin_edg (s : State) (w) (c) (u) (q) (d) : (s.raiseWin w c u q d).edg = s.edg := by unfold State.raiseWin; split <;> simp
@[simp] theorem State.raiseWin_gd (s : State) (w) (c) (u) (q) (d) : (s.raiseWin w c u q d).gd = s.gd := by unfold State.raiseWin; split <;> simp
@[simp] theorem State.raiseWin_bnd (s : State) (w) (c) (u) (q) (d) : (s.raiseWin w c u q d).bnd = s.bnd := by unfold State.raiseWin; split <;> simp
@[simp] theorem State.raiseWin_st (s : State) (w) (c) (u) (q) (d) : (s.raiseWin w c u q d).st = s.st := by unfold State.raiseWin; split <;> simp
@[simp] theorem State.raiseWin_dcl (s : State) (w) (c) (u) (q) (d) : (s.raiseWin w c u q d).dcl = s.dcl := by unfold State.raiseWin; split <;> simp
@[simp] theorem State.raiseWin_le (s : State) (w) (c) (u) (q) (d) : (s.raiseWin w c u q d).le = s.le := by unfold State.raiseWin; split <;> simp
@[simp] theorem State.raiseWin_par (s : State) (w) (c) (u) (q) (d) : (s.raiseWin w c u q d).par = s.par := by unfold State.raiseWin; split <;> simp
@[simp] theorem State.raiseWin_fp (s : State) (w) (c) (u) (q) (d) : (s.raiseWin w c u q d).fp = s.fp := by unfold State.raiseWin; split <;> simp
@[simp] theorem State.raiseWin_si (s : State) (w) (c) (u) (q) (d) : (s.raiseWin w c u q d).si = s.si := by unfold State.raiseWin; split <;> simp
@[simp] theorem State.raiseWin_can (s : State) (w) (c) (u) (q) (d) : (s.raiseWin w c u q d).can = s.can := by unfold State.raiseWin; split <;> simp
@[simp] theorem State.raiseWin_aux (s : State) (w) (c) (u) (q) (d) : (s.raiseWin w c u q d).aux = s.aux := by unfold State.raiseWin; split <;> simp
@[simp] theorem State.raiseWin_key (s : State) (w) (c) (u) (q) (d) : (s.raiseWin w c u q d).key = s.key := by unfold State.raiseWin; split <;> simp
@[simp] theorem State.raiseWin_pwr (s : State) (w) (c) (u) (q) (d) : (s.raiseWin w c u q d).pwr = s.pwr := by unfold State.raiseWin; split <;> simp
@[simp] theorem State.raiseWin_hk (s : State) (w) (c) (u) (q) (d) : (s.raiseWin w c u q d).hk = s.hk := by unfold State.raiseWin; split <;> simp
@[simp] theorem State.raiseWin_mgt (s : State) (w) (c) (u) (q) (d) : (s.raiseWin w c u q d).mgt = s.mgt := by unfold State.raiseWin; split <;> simp
@[simp] theorem State.raiseWin_regs (s : State) (w) (c) (u) (q) (d) : (s.raiseWin w c u q d).regs = s.regs := by unfold State.raiseWin; split <;> simp
@[simp] theorem State.raiseMs_pending (s : State) (c) (u) : (s.raiseMs c u).pending = s.pending := State.raiseWin_pending _ _ _ _ _ _
@[simp] theorem State.raiseMs_free (s : State) (c) (u) : (s.raiseMs c u).free = s.free := State.raiseWin_free _ _ _ _ _ _
@[simp] theorem State.raiseMs_clk (s : State) (c) (u) : (s.raiseMs c u).clk = s.clk := State.raiseWin_clk _ _ _ _ _ _
@[simp] theorem State.raiseMs_hal (s : State) (c) (u) : (s.raiseMs c u).hal = s.hal := State.raiseWin_hal _ _ _ _ _ _
@[simp] theorem State.raiseMs_hq (s : State) (c) (u) : (s.raiseMs c u).hq = s.hq := State.raiseWin_hq _ _ _ _ _ _
@[simp] theorem State.raiseMs_sns (s : State) (c) (u) : (s.raiseMs c u).sns = s.sns := State.raiseWin_sns _ _ _ _ _ _
@[simp] theorem State.raiseMs_pos (s : State) (c) (u) : (s.raiseMs c u).pos = s.pos := State.raiseWin_pos _ _ _ _ _ _
@[simp] theorem State.raiseMs_edg (s : State) (c) (u) : (s.raiseMs c u).edg = s.edg := State.raiseWin_edg _ _ _ _ _ _
@[simp] theorem State.raiseMs_gd (s : State) (c) (u) : (s.raiseMs c u).gd = s.gd := State.raiseWin_gd _ _ _ _ _ _
@[simp] theorem State.raiseMs_bnd (s : State) (c) (u) : (s.raiseMs c u).bnd = s.bnd := State.raiseWin_bnd _ _ _ _ _ _
@[simp] theorem State.raiseMs_st (s : State) (c) (u) : (s.raiseMs c u).st = s.st := State.raiseWin_st _ _ _ _ _ _
@[simp] theorem State.raiseMs_dcl (s : State) (c) (u) : (s.raiseMs c u).dcl = s.dcl := State.raiseWin_dcl _ _ _ _ _ _
@[simp] theorem State.raiseMs_le (s : State) (c) (u) : (s.raiseMs c u).le = s.le := State.raiseWin_le _ _ _ _ _ _
@[simp] theorem State.raiseMs_par (s : State) (c) (u) : (s.raiseMs c u).par = s.par := State.raiseWin_par _ _ _ _ _ _
@[simp] theorem State.raiseMs_fp (s : State) (c) (u) : (s.raiseMs c u).fp = s.fp := State.raiseWin_fp _ _ _ _ _ _
@[simp] theorem State.raiseMs_si (s : State) (c) (u) : (s.raiseMs c u).si = s.si := State.raiseWin_si _ _ _ _ _ _
@[simp] theorem State.raiseMs_can (s : State) (c) (u) : (s.raiseMs c u).can = s.can := State.raiseWin_can _ _ _ _ _ _
@[simp] theorem State.raiseMs_aux (s : State) (c) (u) : (s.raiseMs c u).aux = s.aux := State.raiseWin_aux _ _ _ _ _ _
@[simp] theorem State.raiseMs_key (s : State) (c) (u) : (s.raiseMs c u).key = s.key := State.raiseWin_key _ _ _ _ _ _
@[simp] theorem State.raiseMs_pwr (s : State) (c) (u) : (s.raiseMs c u).pwr = s.pwr := State.raiseWin_pwr _ _ _ _ _ _
@[simp] theorem State.raiseMs_hk (s : State) (c) (u) : (s.raiseMs c u).hk = s.hk := State.raiseWin_hk _ _ _ _ _ _
@[simp] theorem State.raiseMs_mgt (s : State) (c) (u) : (s.raiseMs c u).mgt = s.mgt := State.raiseWin_mgt _ _ _ _ _ _
@[simp] theorem State.raiseMs_regs (s : State) (c) (u) : (s.raiseMs c u).regs = s.regs := State.raiseWin_regs _ _ _ _ _ _
@[simp] theorem State.raiseSec_pending (s : State) (c) (u) : (s.raiseSec c u).pending = s.pending := State.raiseWin_pending _ _ _ _ _ _
@[simp] theorem State.raiseSec_free (s : State) (c) (u) : (s.raiseSec c u).free = s.free := State.raiseWin_free _ _ _ _ _ _
@[simp] theorem State.raiseSec_clk (s : State) (c) (u) : (s.raiseSec c u).clk = s.clk := State.raiseWin_clk _ _ _ _ _ _
@[simp] theorem State.raiseSec_hal (s : State) (c) (u) : (s.raiseSec c u).hal = s.hal := State.raiseWin_hal _ _ _ _ _ _
@[simp] theorem State.raiseSec_hq (s : State) (c) (u) : (s.raiseSec c u).hq = s.hq := State.raiseWin_hq _ _ _ _ _ _
@[simp] theorem State.raiseSec_sns (s : State) (c) (u) : (s.raiseSec c u).sns = s.sns := State.raiseWin_sns _ _ _ _ _ _
@[simp] theorem State.raiseSec_pos (s : State) (c) (u) : (s.raiseSec c u).pos = s.pos := State.raiseWin_pos _ _ _ _ _ _
@[simp] theorem State.raiseSec_edg (s : State) (c) (u) : (s.raiseSec c u).edg = s.edg := State.raiseWin_edg _ _ _ _ _ _
@[simp] theorem State.raiseSec_gd (s : State) (c) (u) : (s.raiseSec c u).gd = s.gd := State.raiseWin_gd _ _ _ _ _ _
@[simp] theorem State.raiseSec_bnd (s : State) (c) (u) : (s.raiseSec c u).bnd = s.bnd := State.raiseWin_bnd _ _ _ _ _ _
@[simp] theorem State.raiseSec_st (s : State) (c) (u) : (s.raiseSec c u).st = s.st := State.raiseWin_st _ _ _ _ _ _
@[simp] theorem State.raiseSec_dcl (s : State) (c) (u) : (s.raiseSec c u).dcl = s.dcl := State.raiseWin_dcl _ _ _ _ _ _
@[simp] theorem State.raiseSec_le (s : State) (c) (u) : (s.raiseSec c u).le = s.le := State.raiseWin_le _ _ _ _ _ _
@[simp] theorem State.raiseSec_par (s : State) (c) (u) : (s.raiseSec c u).par = s.par := State.raiseWin_par _ _ _ _ _ _
@[simp] theorem State.raiseSec_fp (s : State) (c) (u) : (s.raiseSec c u).fp = s.fp := State.raiseWin_fp _ _ _ _ _ _
@[simp] theorem State.raiseSec_si (s : State) (c) (u) : (s.raiseSec c u).si = s.si := State.raiseWin_si _ _ _ _ _ _
@[simp] theorem State.raiseSec_can (s : State) (c) (u) : (s.raiseSec c u).can = s.can := State.raiseWin_can _ _ _ _ _ _
@[simp] theorem State.raiseSec_aux (s : State) (c) (u) : (s.raiseSec c u).aux = s.aux := State.raiseWin_aux _ _ _ _ _ _
@[simp] theorem State.raiseSec_key (s : State) (c) (u) : (s.raiseSec c u).key = s.key := State.raiseWin_key _ _ _ _ _ _
@[simp] theorem State.raiseSec_pwr (s : State) (c) (u) : (s.raiseSec c u).pwr = s.pwr := State.raiseWin_pwr _ _ _ _ _ _
@[simp] theorem State.raiseSec_hk (s : State) (c) (u) : (s.raiseSec c u).hk = s.hk := State.raiseWin_hk _ _ _ _ _ _
@[simp] theorem State.raiseSec_mgt (s : State) (c) (u) : (s.raiseSec c u).mgt = s.mgt := State.raiseWin_mgt _ _ _ _ _ _
@[simp] theorem State.raiseSec_regs (s : State) (c) (u) : (s.raiseSec c u).regs = s.regs := State.raiseWin_regs _ _ _ _ _ _

end Sys2Proof.Machine
end

