-- ==== Sys2Proof/Laws/FpIssue.lean ====
section
/-! SUPPORT. What a bundle of one operation does on an idle field processor: it commits what the operation asks for, and nothing else. -/
namespace Sys2Proof.Machine

theorem core_setCore (s : State) (f g : Nat) (c : FpCore) : (s.setCore f c).core g = if g = f then c else s.core g := by
  unfold State.setCore State.core; simp
theorem modCore_core (s : State) (f g : Nat) (u) : (s.modCore f u).core g = if g = f then u (s.core f) else s.core g := by
  unfold State.modCore; rw [core_setCore]
@[simp] theorem modCore_self (s : State) (f : Nat) (u) : (s.modCore f u).core f = u (s.core f) := by rw [modCore_core, if_pos rfl]
@[simp] theorem wrN_core (s : State) (a v f) : (s.wrN a v).core f = s.core f := rfl
@[simp] theorem wr_core (s : State) (a v f) : (s.wr a v).core f = s.core f := rfl
@[simp] theorem setF_core (s : State) (x v f) : (s.setF x v).core f = s.core f := rfl
@[simp] theorem set1_core (s : State) (x f) : (s.set1 x).core f = s.core f := rfl
@[simp] theorem clr_core (s : State) (x f) : (s.clr x).core f = s.core f := rfl
@[simp] theorem modCore_rd (s : State) (f a : Nat) (u) : (s.modCore f u).rd a = s.rd a := rfl
@[simp] theorem modCore_rdN (s : State) (f a : Nat) (u) : (s.modCore f u).rdN a = s.rdN a := rfl
@[simp] theorem modCore_fld (s : State) (f : Nat) (x) (u) : (s.modCore f u).fld x = s.fld x := rfl
@[simp] theorem modCore_on (s : State) (f : Nat) (x) (u) : (s.modCore f u).on x = s.on x := rfl
@[simp] theorem modCore_regs (s : State) (f : Nat) (u) : (s.modCore f u).regs = s.regs := rfl
theorem rd_wrN (s : State) (a v b : Nat) : (s.wrN a v).rd b = if b = a then BitVec.ofNat 32 v else s.rd b := by
  unfold State.wrN; rw [State.rd_wr]

/-- Without an error no word is beyond correction and none is corrected (R292). -/
theorem lost_none {c : FpCore} (h : ∀ w, c.flips.at 0 w = 0) (ws : List Nat) : c.lost ws = false := by
  unfold FpCore.lost; simp [h]

theorem eccRead_none {s : State} {f : Nat} (h : ∀ w, (s.core f).flips.at 0 w = 0) (ws : List Nat) : s.eccRead f ws = s := by
  have : (s.core f).single ws = [] := by unfold FpCore.single; simp [h]
  unfold State.eccRead; rw [this]

/-- The instant of issue rides along with the results. -/
theorem putRegs_issued (l : List (Option Nat × Word)) (c : FpCore) (n) :
    ({ c with issuedAt := n } : FpCore).putRegs l = { c.putRegs l with issuedAt := n } := by
  induction l generalizing c with
  | nil => rfl
  | cons x t ih =>
    obtain ⟨p, v⟩ := x
    cases p with
    | none => exact ih c
    | some p => exact ih (c.setPhys p v)

theorem putAccs_issued (l : List (Nat × Int)) (c : FpCore) (n) :
    ({ c with issuedAt := n } : FpCore).putAccs l = { c.putAccs l with issuedAt := n } := by
  induction l generalizing c with
  | nil => rfl
  | cons x t ih =>
    obtain ⟨p, v⟩ := x
    refine Eq.trans (congrArg (fun d : FpCore => d.putAccs t) ?_) (ih (c.setAcc p v))
    unfold FpCore.setAcc; split <;> rfl

/-- A bundle of one operation, committed up to its act. -/
def State.oneDone (s : State) (f : Nat) (o : OpRes) : State :=
  ((s.modCore f (fun c => { (c.putRegs o.regs).putAccs o.accs with bundle := [], stalled := false, pc := (s.core f).pc + 4, issuedAt := s.now + 1 })).wrN
    (rFP_PC f) (s.core f).pc).wrN (rFP_FPSTAT f) (Nat.lor (s.rdN (rFP_FPSTAT f)) o.flags)

theorem fpCommit_one (s : State) (f : Nat) (o : OpRes) (hd : o.drew = false) :
    s.fpCommit f [o] = if o.act.moves then (s.oneDone f o).fpAct f (s.core f).pc ((s.core f).pc + 4) o.act
      else ((s.oneDone f o).fpAct f (s.core f).pc ((s.core f).pc + 4) o.act).fpLoopEnd f (s.core f).pc := by
  unfold State.fpCommit State.oneDone
  have hz : Nat.lor 0 o.flags = o.flags := Nat.zero_or _
  have hne : rFP_FPSTAT f ≠ rFP_PC f := by unfold rFP_FPSTAT rFP_PC; omega
  simp only [List.any_cons, hd, List.any_nil, Bool.or_false, List.length_cons, List.length_nil, List.flatMap_cons, List.flatMap_nil,
    List.append_nil, List.foldl_cons, List.foldl_nil, hz, State.forEach, Bool.false_eq_true, if_false,
    modCore_rdN, Nat.zero_add, Nat.mul_one]

/-- Issue of one operation that meets neither trap nor stall. -/
theorem submit_one (s : State) (f : Nat) (i : Instr) (o : OpRes) (h : FpIdle s f) (ho : fpEval s f i = o) (ht : o.trap = none)
    (hs : o.stall = false) (hb : bundleOk [o] = true) : s.fpSubmit f true i = s.fpCommit f [o] := by
  have hp := h.inSram
  have hr : (s.core f).notReady [o] = false := by
    unfold FpCore.notReady FpCore.busy; rw [h.noDeq, h.noEnq]; simp
    intro x _; cases x <;> rfl
  have hq : ((s.core f).readRegs [o]).any (fun p => (s.core f).parity.at false p) = false := by simp [h.sound]
  unfold State.fpSubmit
  simp only [h.runs, h.awake, h.free, h.empty, List.nil_append, ne_eq, not_true, Bool.false_eq_true, or_self, if_false, true_or, if_true]
  unfold State.fpIssueAll State.fpIssue State.fpFetched
  simp only [List.map_cons, List.map_nil, ho, List.length_cons, List.length_nil, hb, hr, firstTrap, ht, List.any_cons, List.any_nil, hs,
    Bool.or_false, Bool.false_eq_true, if_false, not_true, lost_none h.whole, eccRead_none h.whole, hq]
  rw [if_neg (by omega)]

/-- Issue of one operation that traps. -/
theorem submit_trap (s : State) (f : Nat) (i : Instr) (o : OpRes) (cause : Nat) (a : Option Nat) (h : FpIdle s f) (ho : fpEval s f i = o)
    (ht : o.trap = some (cause, a)) (hb : bundleOk [o] = true) :
    s.fpSubmit f true i = s.fpTrapAt f cause a (if 0x10 ≤ cause then (s.core f).pc + 4 else (s.core f).pc) := by
  have hp := h.inSram
  have hr : (s.core f).notReady [o] = false := by
    unfold FpCore.notReady FpCore.busy; rw [h.noDeq, h.noEnq]; simp
    intro x _; cases x <;> rfl
  have hq : ((s.core f).readRegs [o]).any (fun p => (s.core f).parity.at false p) = false := by simp [h.sound]
  unfold State.fpSubmit
  simp only [h.runs, h.awake, h.free, h.empty, List.nil_append, ne_eq, not_true, Bool.false_eq_true, or_self, if_false, true_or, if_true]
  unfold State.fpIssueAll State.fpIssue State.fpFetched
  simp only [List.map_cons, List.map_nil, ho, List.length_cons, List.length_nil, hb, hr, firstTrap, ht, Bool.false_eq_true, if_false, not_true,
    lost_none h.whole, eccRead_none h.whole, hq]
  rw [if_neg (by omega)]

/-- What the registers of a bundle of one leave: only `FP_PC` and `FPSTAT` change. -/
theorem oneDone_frame (s : State) (f : Nat) (o : OpRes) (h : FpIdle s f) (hfl : o.flags < 2 ^ 32) :
    FpFrame s (s.oneDone f o) f (fun c => ((c.putRegs o.regs).putAccs o.accs).next) o.flags := by
  have hp := h.inSram
  have hne : rFP_PC f ≠ rFP_FPSTAT f := by unfold rFP_FPSTAT rFP_PC; omega
  have hr : ∀ (l : List (Option Nat × Word)) (c : FpCore), (c.putRegs l).bundle = c.bundle ∧ (c.putRegs l).stalled = c.stalled ∧ (c.putRegs l).pc = c.pc := by
    intro l
    induction l with
    | nil => intro c; exact ⟨rfl, rfl, rfl⟩
    | cons x t ih => intro c; obtain ⟨p, v⟩ := x; cases p <;> exact ih _
  have ha : ∀ (l : List (Nat × Int)) (c : FpCore), (c.putAccs l).bundle = c.bundle ∧ (c.putAccs l).stalled = c.stalled ∧ (c.putAccs l).pc = c.pc := by
    intro l
    induction l with
    | nil => intro c; exact ⟨rfl, rfl, rfl⟩
    | cons x t ih =>
      intro c; obtain ⟨p, v⟩ := x
      have := ih (c.setAcc p v)
      have hq : (c.setAcc p v).bundle = c.bundle ∧ (c.setAcc p v).stalled = c.stalled ∧ (c.setAcc p v).pc = c.pc := by
        unfold FpCore.setAcc; split <;> exact ⟨rfl, rfl, rfl⟩
      exact ⟨this.1.trans hq.1, this.2.1.trans hq.2.1, this.2.2.trans hq.2.2⟩
  refine ⟨?_, ?_, ?_, ?_, ?_, rfl⟩
  · unfold State.oneDone FpCore.next
    dsimp only
    rw [putRegs_issued, putAccs_issued]
    simp only [wrN_core, modCore_core, if_true]
    have h1 := hr o.regs (s.core f)
    have h2 := ha o.accs ((s.core f).putRegs o.regs)
    generalize ((s.core f).putRegs o.regs).putAccs o.accs = c at *
    rw [h1.1, h.empty] at h2
    rw [h1.2.1, h.free, h1.2.2] at h2
    cases c; simp_all
  · intro g hg; unfold State.oneDone; simp only [wrN_core, modCore_core, if_neg hg]
  · unfold State.oneDone
    rw [State.rdN_wrN, if_neg hne, State.rdN_wrN, if_pos rfl]; omega
  · unfold State.oneDone
    rw [State.rdN_wrN, if_pos rfl]
    exact Nat.mod_eq_of_lt (Nat.or_lt_two_pow (s.rd _).isLt hfl)
  · intro a ha
    simp only [List.mem_cons, List.not_mem_nil, or_false, not_or] at ha
    unfold State.oneDone
    rw [rd_wrN, if_neg ha.2, rd_wrN, if_neg ha.1]; rfl

/-- Registers written keep the loops. -/
theorem putRegs_loops (l : List (Option Nat × Word)) (c : FpCore) : (c.putRegs l).loops = c.loops := by
  induction l generalizing c with
  | nil => rfl
  | cons x t ih => obtain ⟨p, v⟩ := x; cases p <;> exact ih _

theorem putAccs_loops (l : List (Nat × Int)) (c : FpCore) : (c.putAccs l).loops = c.loops := by
  induction l generalizing c with
  | nil => rfl
  | cons x t ih =>
    obtain ⟨p, v⟩ := x
    refine (ih (c.setAcc p v)).trans ?_
    unfold FpCore.setAcc; split <;> rfl

/-- No loop end is due where no loop is open. -/
theorem fpLoopEnd_none (s : State) (f here : Nat) (h : (s.core f).loops = []) : s.fpLoopEnd f here = s := by
  unfold State.fpLoopEnd; simp only [h]

theorem oneDone_loops (s : State) (f : Nat) (o : OpRes) : ((s.oneDone f o).core f).loops = (s.core f).loops := by
  unfold State.oneDone; simp only [wrN_core, modCore_core, if_true]
  rw [putAccs_loops, putRegs_loops]

/-- An operation without an act: results and flags. -/
theorem commit_plain (s : State) (f : Nat) (o : OpRes) (h : FpIdle s f) (ha : o.act = .none) (hd : o.drew = false) (hfl : o.flags < 2 ^ 32) :
    FpFrame s (s.fpCommit f [o]) f (fun c => ((c.putRegs o.regs).putAccs o.accs).next) o.flags := by
  rw [fpCommit_one s f o hd, ha]
  show FpFrame s ((s.oneDone f o).fpLoopEnd f (s.core f).pc) f _ _
  rw [fpLoopEnd_none _ _ _ ((oneDone_loops s f o).trans h.noLoop)]
  exact oneDone_frame s f o h hfl

/-- An operation without an act that meets neither trap nor stall. -/
theorem plain_completes (s : State) (f : Nat) (i : Instr) (o : OpRes) (h : FpIdle s f) (ho : fpEval s f i = o) (ht : o.trap = none)
    (hs : o.stall = false) (hb : bundleOk [o] = true) (ha : o.act = .none) (hd : o.drew = false) (hfl : o.flags < 2 ^ 32) :
    FpFrame s (s.fpSubmit f true i) f (fun c => ((c.putRegs o.regs).putAccs o.accs).next) o.flags := by
  rw [submit_one s f i o h ho ht hs hb]
  exact commit_plain s f o h ha hd hfl

/-- A frame over what a further change of the core leaves. -/
theorem FpFrame.modCore {s t : State} {f : Nat} {core : FpCore → FpCore} {fl : Nat} (h : FpFrame s t f core fl) (g : FpCore → FpCore) :
    FpFrame s (t.modCore f g) f (fun c => g (core c)) fl := by
  refine ⟨?_, ?_, h.at_, h.flags, h.regs, ?_⟩
  · rw [modCore_self, h.core]
  · intro k hk; rw [modCore_core, if_neg hk, h.others k hk]
  · have := h.rest
    show _ = { s with regs := t.regs, fp := (t.modCore f g).fp }
    rw [this]; rfl

/-- Only the core the frame starts from matters. -/
theorem FpFrame.congr {s t : State} {f : Nat} {core core' : FpCore → FpCore} {fl : Nat} (h : FpFrame s t f core fl)
    (e : ∀ n, core { s.core f with issuedAt := n } = core' { s.core f with issuedAt := n }) : FpFrame s t f core' fl := ⟨h.core.trans (e _), h.others, h.at_, h.flags, h.regs, h.rest⟩

/-- A field of another register written on both sides. -/
theorem FpFrame.setF {s t : State} {f : Nat} {core : FpCore → FpCore} {fl : Nat} (h : FpFrame s t f core fl) (x : Fld) (v : Nat)
    (h1 : x.reg ≠ rFP_PC f) (h2 : x.reg ≠ rFP_FPSTAT f) : FpFrame (s.setF x v) (t.setF x v) f core fl := by
  have hx : t.rd x.reg = s.rd x.reg := h.regs x.reg (by simp [h1, h2])
  refine ⟨h.core, h.others, ?_, ?_, ?_, ?_⟩
  · show ((t.setF x v).rd _).toNat = _
    unfold State.setF; rw [State.rd_wr, if_neg (Ne.symm h1)]; exact h.at_
  · show ((t.setF x v).rd _).toNat = Nat.lor ((s.setF x v).rd _).toNat fl
    unfold State.setF; rw [State.rd_wr, if_neg (Ne.symm h2), State.rd_wr, if_neg (Ne.symm h2)]; exact h.flags
  · intro a ha
    unfold State.setF
    rw [State.rd_wr, State.rd_wr, hx]
    split
    · rfl
    · exact h.regs a ha
  · have := h.rest
    show { t with regs := _ } = { s with regs := (t.setF x v).regs, fp := t.fp }
    rw [this]; rfl

/-- Issue of one operation that meets neither trap nor stall: its results, then its act. -/
theorem act_completes (s : State) (f : Nat) (i : Instr) (o : OpRes) (h : FpIdle s f) (ho : fpEval s f i = o) (ht : o.trap = none)
    (hs : o.stall = false) (hb : bundleOk [o] = true) (hd : o.drew = false) :
    s.fpSubmit f true i = if o.act.moves then (s.oneDone f o).fpAct f (s.core f).pc ((s.core f).pc + 4) o.act
      else ((s.oneDone f o).fpAct f (s.core f).pc ((s.core f).pc + 4) o.act).fpLoopEnd f (s.core f).pc := by
  rw [submit_one s f i o h ho ht hs hb, fpCommit_one s f o hd]

/-- The same as a frame: what the act adds to it is the frame of the whole. -/
theorem act_frame (s s' : State) (f : Nat) (i : Instr) (o : OpRes) (core : FpCore → FpCore) (h : FpIdle s f) (ho : fpEval s f i = o)
    (ht : o.trap = none) (hs : o.stall = false) (hb : bundleOk [o] = true) (hd : o.drew = false) (hfl : o.flags < 2 ^ 32)
    (hact : ∀ u, FpFrame s u f (fun c => ((c.putRegs o.regs).putAccs o.accs).next) o.flags →
      FpFrame s' (u.fpAct f (s.core f).pc ((s.core f).pc + 4) o.act) f core o.flags)
    (hl : o.act.moves = true ∨ ∀ u : State, u.core f = core { s'.core f with issuedAt := s'.now + 1 } → u.fpLoopEnd f (s.core f).pc = u) :
    FpFrame s' (s.fpSubmit f true i) f core o.flags := by
  rw [act_completes s f i o h ho ht hs hb hd]
  have hu := hact _ (oneDone_frame s f o h hfl)
  split
  · exact hu
  · rename_i hm
    rcases hl with hl | hl
    · exact absurd hl hm
    · rw [hl _ hu.core]; exact hu

/-- No loop end is due where the core's loops are none. -/
theorem noLoopEnd {f here : Nat} {c : FpCore} (h : c.loops = []) : ∀ u : State, u.core f = c → u.fpLoopEnd f here = u := by
  intro u hu; exact fpLoopEnd_none u f here (by rw [hu]; exact h)

/-- A result of an M-slot operation outside the sandbox. -/
theorem alu_open (s : State) (f : Nat) (rd : FpReg) (rs v) (h : s.sbxm f = false) :
    s.alu f rd rs v = { OpRes.idle .m with reads := rs, regs := [(s.fpPhys f rd, v)] } := by
  unfold State.alu State.g7Guard
  split
  · rw [if_neg (by rw [h]; simp)]
  · rfl

theorem bundle_reg (p : Option Nat) (v : Word) (sl : FpSlot) (rs) (fl fpu) :
    bundleOk [{ OpRes.idle sl with reads := rs, regs := [(p, v)], flags := fl, fpu := fpu }] = true := by
  cases p <;> cases fpu <;> cases sl <;> (simp [bundleOk, OpRes.idle, OpRes.dests]; try rfl)

theorem alu_completes (s : State) (f : Nat) (i : Instr) (rd : FpReg) (rs v) (fl : Nat) (fpu : Bool) (h : FpIdle s f) (hf : fl < 2 ^ 32)
    (ho : fpEval s f i = { s.alu f rd rs v with flags := fl, fpu := fpu }) :
    FpFrame s (s.fpSubmit f true i) f (FpCore.result (s.fpPhys f rd) v) fl := by
  rw [alu_open _ _ _ _ _ h.priv] at ho
  rw [submit_one s f i _ h ho rfl rfl (bundle_reg _ _ _ _ _ _)]
  have hc := commit_plain s f { OpRes.idle .m with reads := rs, regs := [(s.fpPhys f rd, v)], flags := fl, fpu := fpu } h rfl rfl hf
  refine ⟨hc.core.trans ?_, hc.others, hc.at_, hc.flags, hc.regs, hc.rest⟩
  cases s.fpPhys f rd <;> rfl

theorem acc_completes (s : State) (f : Nat) (i : Instr) (n : Nat) (rs v) (h : FpIdle s f) (ho : fpEval s f i = accRes n rs v) :
    FpFrame s (s.fpSubmit f true i) f (FpCore.accResult n (sat40 v)) (if sat40 v = v then 0 else if n = 0 then 256 else 512) := by
  have hb : bundleOk [accRes n rs v] = true := by simp [bundleOk, accRes, OpRes.idle, OpRes.dests]; rfl
  rw [submit_one s f i _ h ho rfl rfl hb]
  have hf : (accRes n rs v).flags < 2 ^ 32 := by unfold accRes flSAT; dsimp only; split <;> (try split) <;> decide
  have hc := commit_plain s f (accRes n rs v) h rfl rfl hf
  exact ⟨hc.core, hc.others, hc.at_, hc.flags, hc.regs, hc.rest⟩

end Sys2Proof.Machine
end

