-- ==== Sys2Proof/Laws/Kept.lean ====
section
/-! SUPPORT. What every operation of the model keeps: the commands that wait, the count of free values drawn (it never falls, so no value is drawn
twice), and the canonical form of the register bank. -/
namespace Sys2Proof.Machine

/-- The queue is `q`, at least `n` free values have been drawn, and the register bank is canonical. -/
def Kept (q : List Instr) (n : Nat) (s : State) : Prop :=
  s.pending = q ∧ n ≤ s.free ∧ s.regs.wf resetVal = true

theorem Kept.mk {q n} {s : State} {x0 x1 x2 x3 x4 x5 x6 x7 x8 x9 x10 x11 x12 x13 x14 x15 x16 x17 x18 x19 x20} :
    Kept q n (State.mk s.pending s.regs s.free x0 x1 x2 x3 x4 x5 x6 x7 x8 x9 x10 x11 x12 x13 x14 x15 x16 x17 x18 x19 x20) ↔ Kept q n s := ⟨fun h => h, fun h => h⟩

/-- A free value is drawn. -/
theorem Kept.drawn {q n} {s : State} (h : Kept q n s) {x0 x1 x2 x3 x4 x5 x6 x7 x8 x9 x10 x11 x12 x13 x14 x15 x16 x17 x18 x19 x20} :
    Kept q n (State.mk s.pending s.regs (s.free + 1) x0 x1 x2 x3 x4 x5 x6 x7 x8 x9 x10 x11 x12 x13 x14 x15 x16 x17 x18 x19 x20) := ⟨h.1, Nat.le_succ_of_le h.2.1, h.2.2⟩

theorem Kept.upd {q n} {s t : State} (h : Kept q n s) (hp : t.pending = s.pending) (hf : t.free = s.free)
    (hr : t.regs = s.regs) : Kept q n t := by
  unfold Kept; rw [hp, hf, hr]; exact h

/-- An intermediate state once shown is used as a fact alone. -/
theorem Kept.cut {q n} {x : State} {P : Prop} (h : Kept q n x) (g : Kept q n x → P) : P := g h

theorem Kept.ite {q n} {c : Prop} [Decidable c] {s t : State} (hs : Kept q n s) (ht : Kept q n t) :
    Kept q n (if c then s else t) := by
  split
  · exact hs
  · exact ht

theorem Kept.fst {q n} {α : Type} {p : State × α} {t : State} {a : α} (e : p = (t, a)) (h : Kept q n p.1) : Kept q n t := by
  subst e; exact h

theorem Kept.snd {q n} {α : Type} {p : α × State} {t : State} {a : α} (e : p = (a, t)) (h : Kept q n p.2) : Kept q n t := by
  subst e; exact h

theorem Kept.foldl {q n} {α : Type} {s : State} {f : State → α → State} {l : List α} (h : Kept q n s)
    (hf : ∀ t a, Kept q n t → Kept q n (f t a)) : Kept q n (l.foldl f s) := by
  induction l generalizing s with
  | nil => exact h
  | cons a t ih => exact ih (hf _ _ h)

end Sys2Proof.Machine
end

