-- ==== Sys2Proof/Laws/KeptOps.lean ====
section
/-! SUPPORT. What the operations of Machine/Ops.lean keep (`Kept`). -/
namespace Sys2Proof.Machine

theorem State.wr_kept {q n} {s : State} {a1} {a2} (h : Kept q n s) :
    Kept q n (State.wr s a1 a2) := by
  exact ⟨h.1, h.2.1, Sparse.wf_set _ _ _ _ h.2.2⟩

theorem State.wrN_kept {q n} {s : State} {a1} {a2} (h : Kept q n s) :
    Kept q n (State.wrN s a1 a2) := by
  unfold State.wrN
  repeat' first | with_reducible assumption | with_reducible apply State.wr_kept

theorem State.inc_kept {q n} {s : State} {a1} (h : Kept q n s) :
    Kept q n (State.inc s a1) := by
  unfold State.inc
  repeat' first | with_reducible assumption | with_reducible apply State.wrN_kept

theorem State.raiseWith_kept {q n} {s : State} {a1} {a2} {a3} {a4} (h : Kept q n s) :
    Kept q n (State.raiseWith s a1 a2 a3 a4) := by
  unfold State.raiseWith
  repeat' first | with_reducible assumption | lift_lets | (intro x; clear_value x) | with_reducible apply Kept.ite | simp only [Kept.mk]

theorem State.raiseD_kept {q n} {s : State} {a1} {a2} {a3} (h : Kept q n s) :
    Kept q n (State.raiseD s a1 a2 a3) := by
  unfold State.raiseD
  repeat' first | with_reducible assumption | with_reducible apply State.raiseWith_kept

theorem State.raise_kept {q n} {s : State} {a1} {a2} (h : Kept q n s) :
    Kept q n (State.raise s a1 a2) := by
  unfold State.raise
  repeat' first | with_reducible assumption | with_reducible apply State.raiseD_kept

theorem State.raiseWin_kept {q n} {s : State} {a1} {a2} {a3} {a4} {a5} (h : Kept q n s) :
    Kept q n (State.raiseWin s a1 a2 a3 a4 a5) := by
  unfold State.raiseWin
  repeat' first
    | with_reducible assumption
    | lift_lets
    | (intro x; clear_value x)
    | with_reducible apply State.raiseD_kept
    | with_reducible apply Kept.ite
    | simp only [Kept.mk]

theorem State.setF_kept {q n} {s : State} {a1} {a2} (h : Kept q n s) :
    Kept q n (State.setF s a1 a2) := by
  unfold State.setF
  repeat' first | with_reducible assumption | with_reducible apply State.wr_kept

theorem State.set1_kept {q n} {s : State} {a1} (h : Kept q n s) :
    Kept q n (State.set1 s a1) := by
  unfold State.set1
  repeat' first | with_reducible assumption | with_reducible apply State.setF_kept

theorem State.forEach_kept {q n} {α : Type} {s : State} {f : State → α → State} {l : List α} (h : Kept q n s)
    (hf : ∀ t j, Kept q n t → Kept q n (f t j)) : Kept q n (State.forEach s f l) := by
  induction l generalizing s with
  | nil => exact h
  | cons a t ih => exact ih (hf _ _ h)

theorem State.setB_kept {q n} {s : State} {a1} {a2} (h : Kept q n s) :
    Kept q n (State.setB s a1 a2) := by
  unfold State.setB
  repeat' first | with_reducible assumption | with_reducible apply State.setF_kept

theorem State.each_kept {q n} {s : State} {f : State → Nat → State} {k} (h : Kept q n s)
    (hf : ∀ t j, Kept q n t → Kept q n (f t j)) : Kept q n (State.each s f k) := by
  induction k with
  | zero => exact h
  | succ k ih => exact hf _ _ ih

theorem State.raiseSec_kept {q n} {s : State} {a1} {a2} (h : Kept q n s) :
    Kept q n (State.raiseSec s a1 a2) := by
  unfold State.raiseSec
  repeat' first | with_reducible assumption | with_reducible apply State.raiseWin_kept

theorem State.setBit_kept {q n} {s : State} {a1} {a2} (h : Kept q n s) :
    Kept q n (State.setBit s a1 a2) := by
  unfold State.setBit
  repeat' first | with_reducible assumption | with_reducible apply State.wrN_kept

theorem State.draw_kept {q n} {s : State} (h : Kept q n s) :
    Kept q n (State.draw s).1 := by
  exact ⟨h.1, Nat.le_succ_of_le h.2.1, h.2.2⟩

theorem State.raiseCleared_kept {q n} {s : State} {a1} {a2} {a3} (h : Kept q n s) :
    Kept q n (State.raiseCleared s a1 a2 a3) := by
  unfold State.raiseCleared
  repeat' first | with_reducible assumption | with_reducible apply State.raiseD_kept

theorem State.raiseStop_kept {q n} {s : State} {a1} {a2} (h : Kept q n s) :
    Kept q n (State.raiseStop s a1 a2) := by
  unfold State.raiseStop
  repeat' first | with_reducible assumption | with_reducible apply State.raiseWith_kept

theorem State.clr_kept {q n} {s : State} {a1} (h : Kept q n s) :
    Kept q n (State.clr s a1) := by
  unfold State.clr
  repeat' first | with_reducible assumption | with_reducible apply State.setF_kept

theorem State.raiseMs_kept {q n} {s : State} {a1} {a2} (h : Kept q n s) :
    Kept q n (State.raiseMs s a1 a2) := by
  unfold State.raiseMs
  repeat' first | with_reducible assumption | with_reducible apply State.raiseWin_kept

theorem State.incMod_kept {q n} {s : State} {a1} (h : Kept q n s) :
    Kept q n (State.incMod s a1) := by
  unfold State.incMod
  repeat' first | with_reducible assumption | with_reducible apply State.wrN_kept

theorem State.cmdSet_kept {q n} {s : State} {a1} {a2} {a3} (h : Kept q n s) :
    Kept q n (State.cmdSet s a1 a2 a3) := by
  unfold State.cmdSet
  repeat' first | with_reducible assumption | with_reducible apply State.wrN_kept

theorem State.cmd_kept {q n} {s : State} {r v} {act : State → Nat × State} (h : Kept q n s)
    (ha : ∀ t, Kept q n t → Kept q n (act t).2) : Kept q n (State.cmd s r v act) := by
  unfold State.cmd
  split
  · exact h
  · split
    · exact State.cmdSet_kept h
    · exact State.cmdSet_kept (ha _ h)

theorem State.zero_kept {q n} {s : State} {a1} (h : Kept q n s) :
    Kept q n (State.zero s a1) := by
  induction a1 generalizing s with
  | nil => simpa [State.zero] using h
  | cons x t ih =>
    unfold State.zero
    repeat' first | with_reducible assumption | lift_lets | with_reducible apply ih | with_reducible apply State.wr_kept

theorem State.clrBit_kept {q n} {s : State} {a1} {a2} (h : Kept q n s) :
    Kept q n (State.clrBit s a1 a2) := by
  unfold State.clrBit
  repeat' first | with_reducible assumption | with_reducible apply State.wrN_kept

theorem State.cmdBiv_kept {q n} {s : State} {r v} {act : State → Nat × State} (h : Kept q n s)
    (ha : ∀ t, Kept q n t → Kept q n (act t).2) : Kept q n (State.cmdBiv s r v act) := by
  unfold State.cmdBiv
  split
  · exact State.cmdSet_kept h
  · exact State.cmd_kept h ha

theorem State.cmdEnd_kept {q n} {s : State} {a1} {a2} (h : Kept q n s) :
    Kept q n (State.cmdEnd s a1 a2) := by
  unfold State.cmdEnd
  repeat' first | with_reducible assumption | with_reducible apply State.cmdSet_kept

theorem State.setDom_kept {q n} {s : State} {a1} {a2} (h : Kept q n s) :
    Kept q n (State.setDom s a1 a2) := by
  unfold State.setDom
  repeat' first
    | with_reducible assumption
    | with_reducible apply State.setBit_kept
    | with_reducible apply State.clrBit_kept
    | with_reducible apply Kept.ite

theorem State.setFI_kept {q n} {s : State} {a1} {a2} (h : Kept q n s) :
    Kept q n (State.setFI s a1 a2) := by
  unfold State.setFI
  repeat' first | with_reducible assumption | with_reducible apply State.setF_kept

theorem State.wrI_kept {q n} {s : State} {a1} {a2} (h : Kept q n s) :
    Kept q n (State.wrI s a1 a2) := by
  unfold State.wrI
  repeat' first | with_reducible assumption | with_reducible apply State.wr_kept

theorem State.incF_kept {q n} {s : State} {a1} (h : Kept q n s) :
    Kept q n (State.incF s a1) := by
  unfold State.incF
  repeat' first | with_reducible assumption | with_reducible apply State.setF_kept

theorem State.incBy_kept {q n} {s : State} {a1} {a2} (h : Kept q n s) :
    Kept q n (State.incBy s a1 a2) := by
  unfold State.incBy
  repeat' first | with_reducible assumption | with_reducible apply State.wrN_kept

theorem State.lit_kept {q n} {s : State} {s2 : State} (h : Kept q n s) (h2 : Kept q n s2) :
    Kept q n (State.lit s s2) := by
  unfold State.lit
  repeat' first | with_reducible assumption | with_reducible apply Kept.ite

theorem State.zeroF_kept {q n} {s : State} {a1} (h : Kept q n s) :
    Kept q n (State.zeroF s a1) := by
  induction a1 generalizing s with
  | nil => simpa [State.zeroF] using h
  | cons x t ih =>
    unfold State.zeroF
    repeat' first | with_reducible assumption | lift_lets | with_reducible apply ih | with_reducible apply State.setF_kept

end Sys2Proof.Machine
end

