-- ==== Sys2Proof/Laws/KeptLink.lean ====
section
/-! SUPPORT. What the operations of Machine/Link.lean keep (`Kept`). -/
namespace Sys2Proof.Machine

theorem State.setPort_kept {q n} {s : State} {a1} {a2} (h : Kept q n s) :
    Kept q n (State.setPort s a1 a2) := by
  unfold State.setPort
  repeat' first | with_reducible assumption | lift_lets | (intro x; clear_value x) | simp only [Kept.mk]

theorem State.modPort_kept {q n} {s : State} {a1} {a2} (h : Kept q n s) :
    Kept q n (State.modPort s a1 a2) := by
  unfold State.modPort
  repeat' first | with_reducible assumption | with_reducible apply State.setPort_kept

theorem State.transmit_kept {q n} {s : State} {a1} {a2} {a3} (h : Kept q n s) :
    Kept q n (State.transmit s a1 a2 a3) := by
  unfold State.transmit
  repeat' first | with_reducible assumption | with_reducible apply State.modPort_kept

theorem State.sendSlot_kept {q n} {s : State} {a1} {a2} {a3} (h : Kept q n s) :
    Kept q n (State.sendSlot s a1 a2 a3).1 := by
  unfold State.sendSlot
  repeat' first | with_reducible assumption | with_reducible apply State.transmit_kept | split

theorem State.setPst_kept {q n} {s : State} {a1} {a2} (h : Kept q n s) :
    Kept q n (State.setPst s a1 a2) := by
  unfold State.setPst
  repeat' first | with_reducible assumption | with_reducible apply State.setF_kept

theorem State.showCand_kept {q n} {s : State} (h : Kept q n s) :
    Kept q n (State.showCand s) := by
  unfold State.showCand
  repeat' first | with_reducible assumption | lift_lets | (intro x; clear_value x) | simp only [Kept.mk]

theorem State.portLeave_kept {q n} {s : State} {a1} {a2} (h : Kept q n s) :
    Kept q n (State.portLeave s a1 a2) := by
  unfold State.portLeave
  repeat' first
    | with_reducible assumption
    | lift_lets
    | (intro x; clear_value x)
    | with_reducible apply State.showCand_kept
    | with_reducible apply State.setPort_kept
    | with_reducible apply State.setPst_kept
    | with_reducible apply State.setF_kept

theorem State.sendBare_kept {q n} {s : State} {a1} {a2} (h : Kept q n s) :
    Kept q n (State.sendBare s a1 a2) := by
  unfold State.sendBare
  repeat' first | with_reducible assumption | with_reducible apply State.modPort_kept

theorem State.portTryTrain_kept {q n} {s : State} {a1} (h : Kept q n s) :
    Kept q n (State.portTryTrain s a1) := by
  unfold State.portTryTrain
  repeat' first
    | with_reducible assumption
    | lift_lets
    | (intro x; clear_value x)
    | with_reducible apply State.sendBare_kept
    | with_reducible apply State.setPst_kept
    | with_reducible apply Kept.ite

theorem State.portRetire_kept {q n} {s : State} {a1} (h : Kept q n s) :
    Kept q n (State.portRetire s a1) := by
  unfold State.portRetire
  repeat' first
    | with_reducible assumption
    | lift_lets
    | (intro x; refine Kept.cut (q := q) (n := n) (x := x) ?_ ?_; subst x; rotate_left; clear_value x; intro hx)
    | with_reducible apply State.portLeave_kept
    | with_reducible apply State.setDom_kept
    | with_reducible apply State.raise_kept
    | with_reducible apply State.set1_kept
    | with_reducible apply Kept.ite

theorem State.portRetrain_kept {q n} {s : State} {a1} {a2} (h : Kept q n s) :
    Kept q n (State.portRetrain s a1 a2) := by
  unfold State.portRetrain
  repeat' first
    | with_reducible assumption
    | lift_lets
    | (intro x; refine Kept.cut (q := q) (n := n) (x := x) ?_ ?_; subst x; rotate_left; clear_value x; intro hx)
    | (intro x; clear_value x)
    | with_reducible apply State.portRetire_kept
    | with_reducible apply State.portLeave_kept
    | with_reducible apply State.sendBare_kept
    | with_reducible apply State.modPort_kept
    | with_reducible apply State.raise_kept
    | with_reducible apply State.setF_kept
    | with_reducible apply State.set1_kept
    | with_reducible apply Kept.ite

theorem State.trainFail_kept {q n} {s : State} {a1} (h : Kept q n s) :
    Kept q n (State.trainFail s a1) := by
  unfold State.trainFail
  repeat' first
    | with_reducible assumption
    | lift_lets
    | (intro x; refine Kept.cut (q := q) (n := n) (x := x) ?_ ?_; subst x; rotate_left; clear_value x; intro hx)
    | (intro x; clear_value x)
    | with_reducible apply State.portTryTrain_kept
    | with_reducible apply State.portRetire_kept
    | with_reducible apply State.modPort_kept
    | with_reducible apply Kept.ite

end Sys2Proof.Machine
end

