-- ==== Sys2Proof/Laws/KeptCells.lean ====
section
/-! SUPPORT. What the operations of Machine/Cells.lean keep (`Kept`). -/
namespace Sys2Proof.Machine

theorem State.emit_kept {q n} {s : State} {a1} (h : Kept q n s) :
    Kept q n (State.emit s a1) := by
  unfold State.emit
  repeat' first | with_reducible assumption | lift_lets | (intro x; clear_value x) | simp only [Kept.mk]

theorem State.modSt_kept {q n} {s : State} {a1} {a2} (h : Kept q n s) :
    Kept q n (State.modSt s a1 a2) := by
  unfold State.modSt
  repeat' first | with_reducible assumption | lift_lets | (intro x; clear_value x) | simp only [Kept.mk]

theorem State.stHalt_kept {q n} {s : State} {a1} (h : Kept q n s) :
    Kept q n (State.stHalt s a1) := by
  unfold State.stHalt
  repeat' first
    | with_reducible assumption
    | lift_lets
    | (intro x; clear_value x)
    | with_reducible apply State.setF_kept
    | with_reducible apply Kept.ite

theorem State.bndHalt_kept {q n} {s : State} {a1} {a2} (h : Kept q n s) :
    Kept q n (State.bndHalt s a1 a2) := by
  unfold State.bndHalt
  repeat' first
    | with_reducible assumption
    | with_reducible apply State.stHalt_kept
    | with_reducible apply State.setF_kept
    | with_reducible apply State.set1_kept
    | with_reducible apply Kept.ite

theorem State.requestSs1_kept {q n} {s : State} {a1} (h : Kept q n s) :
    Kept q n (State.requestSs1 s a1) := by
  unfold State.requestSs1
  repeat' first | with_reducible assumption | with_reducible apply State.setF_kept

theorem State.setGate_kept {q n} {s : State} {a1} {a2} (h : Kept q n s) :
    Kept q n (State.setGate s a1 a2) := by
  unfold State.setGate
  repeat' first | with_reducible assumption | lift_lets | (intro x; clear_value x) | simp only [Kept.mk]

theorem State.modGate_kept {q n} {s : State} {a1} {a2} (h : Kept q n s) :
    Kept q n (State.modGate s a1 a2) := by
  unfold State.modGate
  repeat' first | with_reducible assumption | with_reducible apply State.setGate_kept

theorem State.sink_kept {q n} {s : State} {a1} (h : Kept q n s) :
    Kept q n (State.sink s a1) := by
  unfold State.sink
  repeat' first | with_reducible assumption | with_reducible apply State.modGate_kept | with_reducible apply Kept.ite

theorem State.setLeg_kept {q n} {s : State} {a1} {a2} (h : Kept q n s) :
    Kept q n (State.setLeg s a1 a2) := by
  unfold State.setLeg
  repeat' first | with_reducible assumption | lift_lets | (intro x; clear_value x) | simp only [Kept.mk]

theorem State.modLeg_kept {q n} {s : State} {a1} {a2} (h : Kept q n s) :
    Kept q n (State.modLeg s a1 a2) := by
  unfold State.modLeg
  repeat' first | with_reducible assumption | with_reducible apply State.setLeg_kept

theorem State.setOut_kept {q n} {s : State} {a1} {a2} (h : Kept q n s) :
    Kept q n (State.setOut s a1 a2) := by
  unfold State.setOut
  repeat' first | with_reducible assumption | lift_lets | (intro x; clear_value x) | simp only [Kept.mk]

theorem State.dclRaise_kept {q n} {s : State} {a1} (h : Kept q n s) :
    Kept q n (State.dclRaise s a1) := by
  unfold State.dclRaise
  repeat' first
    | with_reducible assumption
    | with_reducible apply State.setBit_kept
    | with_reducible apply State.raise_kept
    | with_reducible apply State.setF_kept

theorem State.noteChop_kept {q n} {s : State} (h : Kept q n s) :
    Kept q n (State.noteChop s) := by
  unfold State.noteChop
  repeat' first
    | with_reducible assumption
    | intro x y (hx : Kept q n x)
    | lift_lets
    | (intro x; refine Kept.cut (q := q) (n := n) (x := x) ?_ ?_; subst x; rotate_left; clear_value x; intro hx)
    | (intro x; clear_value x)
    | with_reducible apply State.dclRaise_kept
    | with_reducible apply State.setB_kept
    | with_reducible apply State.each_kept
    | with_reducible apply Kept.ite

theorem State.edge_kept {q n} {s : State} {a1} {a2} {a3} (h : Kept q n s) :
    Kept q n (State.edge s a1 a2 a3) := by
  unfold State.edge
  repeat' first
    | with_reducible assumption
    | lift_lets
    | (intro x; refine Kept.cut (q := q) (n := n) (x := x) ?_ ?_; subst x; rotate_left; clear_value x; intro hx)
    | (intro x; clear_value x)
    | (intro x; subst x)
    | with_reducible apply State.raiseMs_kept
    | with_reducible apply State.incMod_kept
    | with_reducible apply State.setOut_kept
    | with_reducible apply State.setB_kept
    | with_reducible apply State.set1_kept
    | with_reducible apply State.wrN_kept
    | with_reducible apply State.inc_kept
    | with_reducible apply Kept.ite

theorem State.showPat_kept {q n} {s : State} {a1} {a2} {a3} (h : Kept q n s) :
    Kept q n (State.showPat s a1 a2 a3) := by
  unfold State.showPat
  repeat' first | with_reducible assumption | with_reducible apply State.modLeg_kept | with_reducible apply State.setF_kept

theorem State.switch_kept {q n} {s : State} {a1} {a2} {a3} {a4} (h : Kept q n s) :
    Kept q n (State.switch s a1 a2 a3 a4) := by
  unfold State.switch
  repeat' first
    | with_reducible assumption
    | lift_lets
    | (intro x; clear_value x)
    | with_reducible apply State.showPat_kept
    | with_reducible apply State.edge_kept
    | with_reducible apply Kept.ite

theorem State.legOff_kept {q n} {s : State} {a1} {a2} {a3} (h : Kept q n s) :
    Kept q n (State.legOff s a1 a2 a3) := by
  unfold State.legOff
  repeat' first
    | with_reducible assumption
    | intro x y (hx : Kept q n x)
    | lift_lets
    | (intro x; refine Kept.cut (q := q) (n := n) (x := x) ?_ ?_; subst x; rotate_left; clear_value x; intro hx)
    | (intro x; clear_value x)
    | with_reducible apply State.modLeg_kept
    | with_reducible apply State.switch_kept
    | with_reducible apply State.each_kept
    | with_reducible apply Kept.ite

theorem State.legHold_kept {q n} {s : State} {a1} (h : Kept q n s) :
    Kept q n (State.legHold s a1) := by
  unfold State.legHold
  repeat' first | with_reducible assumption | with_reducible apply State.legOff_kept

theorem State.cellHold_kept {q n} {s : State} {a1} (h : Kept q n s) :
    Kept q n (State.cellHold s a1) := by
  unfold State.cellHold
  repeat' first
    | with_reducible assumption
    | intro x y (hx : Kept q n x)
    | with_reducible apply State.legHold_kept
    | with_reducible apply State.each_kept
    | with_reducible apply Kept.ite

theorem State.siRaise_kept {q n} {s : State} {a1} {a2} (h : Kept q n s) :
    Kept q n (State.siRaise s a1 a2) := by
  unfold State.siRaise
  repeat' first | with_reducible assumption | with_reducible apply State.raise_kept | with_reducible apply State.setF_kept

theorem State.cap50_kept {q n} {s : State} {a1} (h : Kept q n s) :
    Kept q n (State.cap50 s a1) := by
  unfold State.cap50
  repeat' first | with_reducible assumption | with_reducible apply State.set1_kept

theorem State.setGst_kept {q n} {s : State} {a1} {a2} (h : Kept q n s) :
    Kept q n (State.setGst s a1 a2) := by
  unfold State.setGst
  repeat' first | with_reducible assumption | with_reducible apply State.noteChop_kept | with_reducible apply State.setF_kept

theorem State.giveOrSs1_kept {q n} {s : State} {a1} (h : Kept q n s) :
    Kept q n (State.giveOrSs1 s a1) := by
  unfold State.giveOrSs1
  repeat' first
    | with_reducible assumption
    | with_reducible apply State.requestSs1_kept
    | with_reducible apply State.cellHold_kept
    | with_reducible apply State.setF_kept
    | with_reducible apply Kept.ite

theorem State.setOwner_kept {q n} {s : State} {a1} {a2} {a3} (h : Kept q n s) :
    Kept q n (State.setOwner s a1 a2 a3) := by
  unfold State.setOwner
  repeat' first
    | with_reducible assumption
    | intro x y (hx : Kept q n x)
    | with_reducible apply State.setF_kept
    | with_reducible apply State.each_kept
    | with_reducible apply Kept.ite

theorem State.singlePath_kept {q n} {s : State} {a1} (h : Kept q n s) :
    Kept q n (State.singlePath s a1) := by
  unfold State.singlePath
  repeat' first
    | with_reducible assumption
    | lift_lets
    | (intro x; refine Kept.cut (q := q) (n := n) (x := x) ?_ ?_; subst x; rotate_left; clear_value x; intro hx)
    | with_reducible apply State.siRaise_kept
    | with_reducible apply State.cap50_kept
    | with_reducible apply State.set1_kept
    | with_reducible apply Kept.ite

theorem State.fenceChan_kept {q n} {s : State} {a1} (h : Kept q n s) :
    Kept q n (State.fenceChan s a1) := by
  unfold State.fenceChan
  repeat' first
    | with_reducible assumption
    | with_reducible apply State.modGate_kept
    | with_reducible apply State.setGst_kept
    | with_reducible apply State.raise_kept
    | with_reducible apply State.sink_kept
    | with_reducible apply State.set1_kept
    | with_reducible apply Kept.ite

theorem State.fenceCell_kept {q n} {s : State} {a1} {a2} {a3} (h : Kept q n s) :
    Kept q n (State.fenceCell s a1 a2 a3) := by
  unfold State.fenceCell
  repeat' first
    | with_reducible assumption
    | intro x y (hx : Kept q n x)
    | lift_lets
    | (intro x; refine Kept.cut (q := q) (n := n) (x := x) ?_ ?_; subst x; rotate_left; clear_value x; intro hx)
    | (intro x; clear_value x)
    | with_reducible apply State.fenceChan_kept
    | with_reducible apply State.cellHold_kept
    | with_reducible apply State.setOwner_kept
    | with_reducible apply State.raise_kept
    | with_reducible apply State.setF_kept
    | with_reducible apply State.each_kept
    | with_reducible apply State.set1_kept
    | with_reducible apply Kept.ite

theorem State.obsStopped_kept {q n} {s : State} {a1} (h : Kept q n s) :
    Kept q n (State.obsStopped s a1) := by
  unfold State.obsStopped
  repeat' first
    | with_reducible assumption
    | lift_lets
    | (intro x; refine Kept.cut (q := q) (n := n) (x := x) ?_ ?_; subst x; rotate_left; clear_value x; intro hx)
    | (intro x; clear_value x)
    | with_reducible apply State.raise_kept
    | with_reducible apply State.modSt_kept
    | with_reducible apply State.set1_kept
    | with_reducible apply Kept.ite

end Sys2Proof.Machine
end

