-- ==== Sys2Proof/Laws/KeptFpBase.lean ====
section
/-! SUPPORT. What the operations of Machine/FpBase.lean keep (`Kept`). -/
namespace Sys2Proof.Machine

theorem State.setCore_kept {q n} {s : State} {a1} {a2} (h : Kept q n s) :
    Kept q n (State.setCore s a1 a2) := by
  unfold State.setCore
  repeat' first | with_reducible assumption | lift_lets | (intro x; clear_value x) | simp only [Kept.mk]

theorem State.modCore_kept {q n} {s : State} {a1} {a2} (h : Kept q n s) :
    Kept q n (State.modCore s a1 a2) := by
  unfold State.modCore
  repeat' first | with_reducible assumption | with_reducible apply State.setCore_kept

theorem State.noteFired_kept {q n} {s : State} {a1} (h : Kept q n s) :
    Kept q n (State.noteFired s a1) := by
  unfold State.noteFired
  repeat' first | with_reducible assumption | with_reducible apply State.modCore_kept | with_reducible apply Kept.ite

theorem State.toInbox_kept {q n} {s : State} {a1} {a2} (h : Kept q n s) :
    Kept q n (State.toInbox s a1 a2) := by
  unfold State.toInbox
  repeat' first
    | with_reducible assumption
    | intro x y (hx : Kept q n x)
    | with_reducible apply State.modCore_kept
    | with_reducible apply State.each_kept
    | with_reducible apply Kept.ite

theorem State.eccRead_kept {q n} {s : State} {a1} {a2} (h : Kept q n s) :
    Kept q n (State.eccRead s a1 a2) := by
  unfold State.eccRead
  repeat' first
    | with_reducible assumption
    | with_reducible apply State.raiseSec_kept
    | with_reducible apply State.modCore_kept
    | with_reducible apply State.incBy_kept
    | with_reducible apply State.set1_kept
    | split

theorem State.setFpReg_kept {q n} {s : State} {a1} {a2} {a3} (h : Kept q n s) :
    Kept q n (State.setFpReg s a1 a2 a3) := by
  unfold State.setFpReg
  repeat' first | with_reducible assumption | with_reducible apply State.modCore_kept | split

end Sys2Proof.Machine
end

