-- ==== Sys2Proof/Laws/KeptHq.lean ====
section
/-! SUPPORT. What the operations of Machine/Hq.lean keep (`Kept`). -/
namespace Sys2Proof.Machine

theorem State.setQd_kept {q n} {s : State} {a1} {a2} (h : Kept q n s) :
    Kept q n (State.setQd s a1 a2) := by
  unfold State.setQd
  repeat' first | with_reducible assumption | lift_lets | (intro x; clear_value x) | simp only [Kept.mk]

theorem State.discard_kept {q n} {s : State} {a1} {a2} {a3} (h : Kept q n s) :
    Kept q n (State.discard s a1 a2 a3) := by
  unfold State.discard
  repeat' first
    | with_reducible assumption
    | lift_lets
    | (intro x; refine Kept.cut (q := q) (n := n) (x := x) ?_ ?_; subst x; rotate_left; clear_value x; intro hx)
    | (intro x; clear_value x)
    | with_reducible apply State.raiseWin_kept
    | with_reducible apply State.raiseD_kept
    | with_reducible apply State.setQd_kept
    | with_reducible apply State.raise_kept
    | with_reducible apply State.set1_kept
    | with_reducible apply State.wrN_kept
    | with_reducible apply State.inc_kept
    | with_reducible apply Kept.ite
    | split

theorem State.notePool_kept {q n} {s : State} (h : Kept q n s) :
    Kept q n (State.notePool s) := by
  unfold State.notePool
  repeat' first
    | with_reducible assumption
    | lift_lets
    | (intro x; refine Kept.cut (q := q) (n := n) (x := x) ?_ ?_; subst x; rotate_left; clear_value x; intro hx)
    | (intro x; clear_value x)
    | with_reducible apply State.raise_kept
    | with_reducible apply State.setB_kept
    | with_reducible apply State.set1_kept
    | with_reducible apply State.wrN_kept
    | with_reducible apply Kept.ite

theorem State.freeRec_kept {q n} {s : State} {a1} (h : Kept q n s) :
    Kept q n (State.freeRec s a1) := by
  unfold State.freeRec
  repeat' first
    | with_reducible assumption
    | lift_lets
    | (intro x; clear_value x)
    | with_reducible apply State.notePool_kept
    | with_reducible apply Kept.ite
    | simp only [Kept.mk]

theorem State.discardHeld_kept {q n} {s : State} {a1} {a2} {a3} (h : Kept q n s) :
    Kept q n (State.discardHeld s a1 a2 a3) := by
  unfold State.discardHeld
  repeat' first
    | with_reducible assumption
    | intro x y (hx : Kept q n x)
    | lift_lets
    | (intro x; refine Kept.cut (q := q) (n := n) (x := x) ?_ ?_; subst x; rotate_left; clear_value x; intro hx)
    | (intro x; clear_value x)
    | with_reducible apply State.discard_kept
    | with_reducible apply State.forEach_kept
    | with_reducible apply State.freeRec_kept
    | with_reducible apply State.setQd_kept

theorem State.discardGroup_kept {q n} {s : State} {a1} {a2} (h : Kept q n s) :
    Kept q n (State.discardGroup s a1 a2) := by
  unfold State.discardGroup
  repeat' first
    | with_reducible assumption
    | intro x y (hx : Kept q n x)
    | with_reducible apply State.discardHeld_kept
    | with_reducible apply State.forEach_kept

theorem State.noteShareAbort_kept {q n} {s : State} {a1} (h : Kept q n s) :
    Kept q n (State.noteShareAbort s a1) := by
  unfold State.noteShareAbort
  repeat' first
    | with_reducible assumption
    | intro x y (hx : Kept q n x)
    | with_reducible apply State.raiseSec_kept
    | with_reducible apply State.setBit_kept
    | with_reducible apply State.each_kept
    | with_reducible apply State.inc_kept
    | with_reducible apply Kept.ite

theorem State.setGroups_kept {q n} {s : State} {a1} (h : Kept q n s) :
    Kept q n (State.setGroups s a1) := by
  unfold State.setGroups
  repeat' first | with_reducible assumption | lift_lets | (intro x; clear_value x) | with_reducible apply State.setF_kept | simp only [Kept.mk]

theorem State.putGroup_kept {q n} {s : State} {a1} (h : Kept q n s) :
    Kept q n (State.putGroup s a1) := by
  unfold State.putGroup
  repeat' first | with_reducible assumption | with_reducible apply State.setGroups_kept

theorem State.sendRemote_kept {q n} {s : State} {a1} {a2} (h : Kept q n s) :
    Kept q n (State.sendRemote s a1 a2).1 := by
  unfold State.sendRemote
  repeat' first
    | with_reducible assumption
    | lift_lets
    | (intro x; refine Kept.cut (q := q) (n := n) (x := x) ?_ ?_; subst x; rotate_left; clear_value x; intro hx)
    | (intro x; refine Kept.cut (q := q) (n := n) (x := x.1) ?_ ?_; subst x; rotate_left; clear_value x; intro hx)
    | (intro x; clear_value x)
    | with_reducible apply State.sendSlot_kept
    | split
    | simp only [Kept.mk]

theorem State.sendOut_kept {q n} {s : State} {a1} {a2} {a3} (h : Kept q n s) :
    Kept q n (State.sendOut s a1 a2 a3) := by
  induction a3 generalizing s a1 a2 with
  | nil => simpa [State.sendOut] using h
  | cons x t ih =>
    unfold State.sendOut
    repeat' first
      | with_reducible assumption
      | lift_lets
      | (intro x; refine Kept.cut (q := q) (n := n) (x := x) ?_ ?_; subst x; rotate_left; clear_value x; intro hx)
      | (intro x; refine Kept.cut (q := q) (n := n) (x := x.1) ?_ ?_; subst x; rotate_left; clear_value x; intro hx)
      | (intro x; clear_value x)
      | with_reducible apply ih
      | with_reducible apply State.sendRemote_kept
      | with_reducible apply State.discard_kept
      | with_reducible apply Kept.ite

theorem State.relayAbort_kept {q n} {s : State} {a1} {a2} {a3} {a4} (h : Kept q n s) :
    Kept q n (State.relayAbort s a1 a2 a3 a4) := by
  unfold State.relayAbort
  repeat' first
    | with_reducible assumption
    | with_reducible apply State.putGroup_kept
    | with_reducible apply State.sendOut_kept
    | with_reducible apply Kept.ite
    | split

theorem State.abortSelf_kept {q n} {s : State} {a1} {a2} (h : Kept q n s) :
    Kept q n (State.abortSelf s a1 a2) := by
  unfold State.abortSelf
  repeat' first
    | with_reducible assumption
    | lift_lets
    | (intro x; clear_value x)
    | with_reducible apply State.relayAbort_kept
    | with_reducible apply State.discard_kept
    | split

theorem State.tellOriginator_kept {q n} {s : State} {a1} {a2} (h : Kept q n s) :
    Kept q n (State.tellOriginator s a1 a2) := by
  unfold State.tellOriginator
  repeat' first
    | with_reducible assumption
    | with_reducible apply State.abortSelf_kept
    | with_reducible apply State.sendOut_kept
    | with_reducible apply Kept.ite

theorem State.abortGroup_kept {q n} {s : State} {a1} {a2} {a3} (h : Kept q n s) :
    Kept q n (State.abortGroup s a1 a2 a3) := by
  unfold State.abortGroup
  repeat' first
    | with_reducible assumption
    | lift_lets
    | (intro x; refine Kept.cut (q := q) (n := n) (x := x) ?_ ?_; subst x; rotate_left; clear_value x; intro hx)
    | (intro x; clear_value x)
    | with_reducible apply State.noteShareAbort_kept
    | with_reducible apply State.tellOriginator_kept
    | with_reducible apply State.discardGroup_kept
    | with_reducible apply State.putGroup_kept
    | with_reducible apply State.sendOut_kept
    | with_reducible apply State.raiseD_kept
    | with_reducible apply State.set1_kept
    | with_reducible apply State.inc_kept
    | split

theorem State.newGroup_kept {q n} {s : State} {a b c d t g} (hx : State.newGroup s a b c d = some (t, g)) (h : Kept q n s) : Kept q n t := by
  have hd := State.draw_kept h
  unfold State.newGroup at hx
  split at hx
  · cases hx
  · cases hx; exact State.setGroups_kept hd

theorem State.abortIn_kept {q n} {s : State} {a1} (h : Kept q n s) :
    Kept q n (State.abortIn s a1).1 := by
  unfold State.abortIn
  repeat' first
    | with_reducible assumption
    | lift_lets
    | (intro x; refine Kept.cut (q := q) (n := n) (x := x) ?_ ?_; subst x; rotate_left; clear_value x; intro hx)
    | (intro x; clear_value x)
    | with_reducible apply State.abortGroup_kept
    | with_reducible apply State.relayAbort_kept
    | with_reducible apply State.discard_kept
    | with_reducible apply State.raise_kept
    | with_reducible apply State.set1_kept
    | with_reducible apply State.inc_kept
    | with_reducible apply Kept.ite
    | split
    | with_reducible refine State.newGroup_kept (by assumption) ?_

theorem State.consume_kept {q n} {s : State} {a1} {a2} {a3} (h : Kept q n s) :
    Kept q n (State.consume s a1 a2 a3) := by
  unfold State.consume
  repeat' first | with_reducible assumption | lift_lets | (intro x; clear_value x) | split | simp only [Kept.mk]

theorem State.setGen_kept {q n} {s : State} {a1} {a2} (h : Kept q n s) :
    Kept q n (State.setGen s a1 a2) := by
  unfold State.setGen
  repeat' first
    | with_reducible assumption
    | intro x y (hx : Kept q n x)
    | lift_lets
    | (intro x; refine Kept.cut (q := q) (n := n) (x := x) ?_ ?_; subst x; rotate_left; clear_value x; intro hx)
    | (intro x; clear_value x)
    | with_reducible apply State.discardHeld_kept
    | with_reducible apply State.abortGroup_kept
    | with_reducible apply State.forEach_kept
    | with_reducible apply State.setQd_kept
    | with_reducible apply Kept.ite

theorem State.checkSeq_kept {q n} {s : State} {a1} {a2} (h : Kept q n s) :
    Kept q n (State.checkSeq s a1 a2) := by
  unfold State.checkSeq
  repeat' first
    | with_reducible assumption
    | lift_lets
    | (intro x; refine Kept.cut (q := q) (n := n) (x := x) ?_ ?_; subst x; rotate_left; clear_value x; intro hx)
    | (intro x; clear_value x)
    | with_reducible apply State.inc_kept
    | with_reducible apply Kept.ite
    | split
    | simp only [Kept.mk]

theorem State.commitIn_kept {q n} {s : State} {a1} (h : Kept q n s) :
    Kept q n (State.commitIn s a1).1 := by
  unfold State.commitIn
  dsimp only
  repeat' first
    | with_reducible assumption
    | with_reducible apply State.tellOriginator_kept
    | with_reducible apply State.abortGroup_kept
    | with_reducible apply State.putGroup_kept
    | with_reducible apply State.discard_kept
    | split
    | with_reducible refine State.newGroup_kept (by assumption) ?_

theorem State.pass_kept {q n} {s : State} {a1} {a2} (h : Kept q n s) :
    Kept q n (State.pass s a1 a2) := by
  unfold State.pass
  repeat' first | with_reducible assumption | lift_lets | (intro x; clear_value x) | with_reducible apply Kept.ite | simp only [Kept.mk]

theorem State.fireHeld_kept {q n} {s : State} {a1} {a2} (h : Kept q n s) :
    Kept q n (State.fireHeld s a1 a2) := by
  unfold State.fireHeld
  repeat' first
    | with_reducible assumption
    | lift_lets
    | (intro x; clear_value x)
    | with_reducible apply State.noteFired_kept
    | with_reducible apply State.freeRec_kept
    | with_reducible apply State.setQd_kept
    | with_reducible apply State.pass_kept
    | with_reducible apply Kept.ite

theorem State.hold_kept {q n} {s : State} {a1} {a2} {a3} (h : Kept q n s) :
    Kept q n (State.hold s a1 a2 a3) := by
  unfold State.hold
  repeat' first
    | with_reducible assumption
    | lift_lets
    | (intro x; refine Kept.cut (q := q) (n := n) (x := x) ?_ ?_; subst x; rotate_left; clear_value x; intro hx)
    | (intro x; clear_value x)
    | with_reducible apply State.fireHeld_kept
    | with_reducible apply State.setQd_kept
    | with_reducible apply State.inc_kept
    | with_reducible apply Kept.ite

theorem State.memberIn_kept {q n} {s : State} {a1} {a2} (h : Kept q n s) :
    Kept q n (State.memberIn s a1 a2).1 := by
  unfold State.memberIn
  repeat' first
    | with_reducible assumption
    | lift_lets
    | (intro x; clear_value x)
    | with_reducible apply State.abortGroup_kept
    | with_reducible apply State.putGroup_kept
    | with_reducible apply State.discard_kept
    | split
    | with_reducible refine State.newGroup_kept (by assumption) ?_

theorem State.refuseMember_kept {q n} {s : State} {a1} (h : Kept q n s) :
    Kept q n (State.refuseMember s a1) := by
  unfold State.refuseMember
  repeat' first | with_reducible assumption | with_reducible apply State.abortGroup_kept | with_reducible apply Kept.ite | split

theorem State.refuse_kept {q n} {s : State} {a1} {a2} {a3} (h : Kept q n s) :
    Kept q n (State.refuse s a1 a2 a3).1 := by
  unfold State.refuse
  repeat' first | with_reducible assumption | with_reducible apply State.refuseMember_kept | with_reducible apply State.discard_kept

theorem State.takeRec_kept {q n} {s : State} {c t i b} (hx : State.takeRec s c = some (t, i, b)) (h : Kept q n s) : Kept q n t := by
  have hd := State.draw_kept h
  unfold State.takeRec at hx
  dsimp only at hx
  split at hx
  · cases hx; exact State.notePool_kept (Kept.upd hd rfl rfl rfl)
  · split at hx
    · cases hx; exact State.notePool_kept (Kept.upd hd rfl rfl rfl)
    · cases hx

theorem State.checks_kept {q n} {s : State} {a1} (h : Kept q n s) :
    Kept q n (State.checks s a1).1 := by
  unfold State.checks
  repeat' first
    | with_reducible assumption
    | lift_lets
    | (intro x; clear_value x)
    | with_reducible apply State.memberIn_kept
    | with_reducible apply State.commitIn_kept
    | with_reducible apply State.abortIn_kept
    | with_reducible apply State.freeRec_kept
    | with_reducible apply State.refuse_kept
    | with_reducible apply State.hold_kept
    | split
    | with_reducible refine State.takeRec_kept (by assumption) ?_
    | dsimp only

theorem State.commitSent_kept {q n} {s : State} {a1} (h : Kept q n s) :
    Kept q n (State.commitSent s a1) := by
  unfold State.commitSent
  repeat' first
    | with_reducible assumption
    | lift_lets
    | (intro x; clear_value x)
    | with_reducible apply State.putGroup_kept
    | with_reducible apply State.discard_kept
    | with_reducible apply Kept.ite
    | split
    | with_reducible refine State.newGroup_kept (by assumption) ?_

theorem State.enqueue_kept {q n} {s : State} {a1} (h : Kept q n s) :
    Kept q n (State.enqueue s a1).1 := by
  unfold State.enqueue
  repeat' first
    | with_reducible assumption
    | lift_lets
    | (intro x; refine Kept.cut (q := q) (n := n) (x := x.1) ?_ ?_; subst x; rotate_left; clear_value x; intro hx)
    | (intro x; clear_value x)
    | with_reducible apply State.commitSent_kept
    | with_reducible apply State.sendRemote_kept
    | with_reducible apply State.refuse_kept
    | with_reducible apply State.checks_kept
    | with_reducible apply Kept.ite
    | split

theorem hqEnqueue_kept {q n} {s : State} (h : Kept q n s) :
    Kept q n (hqEnqueue s) := by
  unfold hqEnqueue
  repeat' first
    | with_reducible assumption
    | intro x (hx : Kept q n x)
    | lift_lets
    | (intro x; refine Kept.cut (q := q) (n := n) (x := x) ?_ ?_; subst x; rotate_left; clear_value x; intro hx)
    | (intro x; refine Kept.cut (q := q) (n := n) (x := x.1) ?_ ?_; subst x; rotate_left; clear_value x; intro hx)
    | (intro x; clear_value x)
    | (intro x; subst x)
    | with_reducible apply State.enqueue_kept
    | with_reducible apply State.cmd_kept
    | with_reducible apply Kept.ite
    | split
    | simp only [Kept.mk]

theorem hqClearCounters_kept {q n} {s : State} (h : Kept q n s) :
    Kept q n (hqClearCounters s) := by
  unfold hqClearCounters
  repeat' first
    | with_reducible assumption
    | intro x (hx : Kept q n x)
    | with_reducible apply State.zero_kept
    | with_reducible apply State.cmd_kept
    | with_reducible apply State.wr_kept

theorem State.deq_kept {q n} {s : State} {c r t} (hx : State.deq s c = some (r, t)) (h : Kept q n s) : Kept q n t := by
  unfold State.deq at hx
  split at hx
  · split at hx
    · cases hx; exact State.freeRec_kept (State.setQd_kept h)
    · cases hx
  · cases hx

theorem State.fireMembers_kept {q n} {s : State} {a1} {a2} {a3} (h : Kept q n s) :
    Kept q n (State.fireMembers s a1 a2 a3) := by
  unfold State.fireMembers
  repeat' first
    | with_reducible assumption
    | intro x y (hx : Kept q n x)
    | with_reducible apply State.fireHeld_kept
    | with_reducible apply State.forEach_kept

theorem State.receive_kept {q n} {s : State} {a1} {a2} (h : Kept q n s) :
    Kept q n (State.receive s a1 a2) := by
  unfold State.receive
  repeat' first
    | with_reducible assumption
    | lift_lets
    | (intro x; refine Kept.cut (q := q) (n := n) (x := x) ?_ ?_; subst x; rotate_left; clear_value x; intro hx)
    | with_reducible apply State.checkSeq_kept
    | with_reducible apply State.modPort_kept
    | with_reducible apply State.refuse_kept
    | with_reducible apply State.checks_kept
    | with_reducible apply Kept.ite

theorem hqEnqWrite_kept {q n} {s : State} {a1} {a2} {a3} (h : Kept q n s) :
    Kept q n (hqEnqWrite s a1 a2 a3) := by
  unfold hqEnqWrite
  repeat' first
    | with_reducible assumption
    | lift_lets
    | (intro x; refine Kept.cut (q := q) (n := n) (x := x) ?_ ?_; subst x; rotate_left; clear_value x; intro hx)
    | (intro x; clear_value x)
    | with_reducible apply State.wr_kept
    | with_reducible apply Kept.ite
    | simp only [Kept.mk]

theorem recordArrival_kept {q n} {s : State} {a1} {a2} (h : Kept q n s) :
    Kept q n (recordArrival s a1 a2) := by
  unfold recordArrival
  repeat' first
    | with_reducible assumption
    | lift_lets
    | (intro x; clear_value x)
    | with_reducible apply State.enqueue_kept
    | with_reducible apply State.receive_kept
    | split
    | simp only [Kept.mk]

theorem abortArrival_kept {q n} {s : State} {a1} {a2} (h : Kept q n s) :
    Kept q n (abortArrival s a1 a2) := by
  unfold abortArrival
  repeat' first | with_reducible assumption | with_reducible apply Machine.recordArrival_kept | with_reducible apply Kept.ite

theorem commitArrival_kept {q n} {s : State} {a1} {a2} (h : Kept q n s) :
    Kept q n (commitArrival s a1 a2) := by
  unfold commitArrival
  repeat' first | with_reducible assumption | with_reducible apply Machine.recordArrival_kept | with_reducible apply Kept.ite

theorem groupDeadline_kept {q n} {s : State} {a1} {a2} (h : Kept q n s) :
    Kept q n (groupDeadline s a1 a2) := by
  unfold groupDeadline
  repeat' first | with_reducible assumption | with_reducible apply State.abortGroup_kept | with_reducible apply Kept.ite | split

theorem groupLaunch_kept {q n} {s : State} {a1} {a2} (h : Kept q n s) :
    Kept q n (groupLaunch s a1 a2) := by
  unfold groupLaunch
  repeat' first
    | with_reducible assumption
    | intro x y (hx : Kept q n x)
    | lift_lets
    | (intro x; refine Kept.cut (q := q) (n := n) (x := x) ?_ ?_; subst x; rotate_left; clear_value x; intro hx)
    | with_reducible apply State.fireMembers_kept
    | with_reducible apply State.putGroup_kept
    | with_reducible apply State.forEach_kept
    | with_reducible apply State.inc_kept
    | with_reducible apply Kept.ite
    | split

theorem groupRelease_kept {q n} {s : State} {a1} {a2} (h : Kept q n s) :
    Kept q n (groupRelease s a1 a2) := by
  unfold groupRelease
  repeat' first | with_reducible assumption | with_reducible apply State.setGroups_kept | with_reducible apply Kept.ite | split

theorem recordFire_kept {q n} {s : State} {a1} (h : Kept q n s) :
    Kept q n (recordFire s a1) := by
  unfold recordFire
  repeat' first
    | with_reducible assumption
    | with_reducible apply State.discardHeld_kept
    | with_reducible apply State.fireHeld_kept
    | with_reducible apply Kept.ite
    | split

end Sys2Proof.Machine
end

