-- ==== Sys2Proof/Laws/KeptAuxiliary.lean ====
section
/-! SUPPORT. What the operations of Machine/Auxiliary.lean keep (`Kept`). -/
namespace Sys2Proof.Machine

theorem State.modAux_kept {q n} {s : State} {a1} {a2} (h : Kept q n s) :
    Kept q n (State.modAux s a1 a2) := by
  unfold State.modAux
  repeat' first | with_reducible assumption | lift_lets | (intro x; clear_value x) | simp only [Kept.mk]

theorem State.noteFeed_kept {q n} {s : State} {a1} (h : Kept q n s) :
    Kept q n (State.noteFeed s a1) := by
  unfold State.noteFeed
  repeat' first | with_reducible assumption | lift_lets | (intro x; clear_value x) | with_reducible apply State.setF_kept

theorem State.setAst_kept {q n} {s : State} {a1} {a2} (h : Kept q n s) :
    Kept q n (State.setAst s a1 a2) := by
  unfold State.setAst
  repeat' first
    | with_reducible assumption
    | lift_lets
    | (intro x; refine Kept.cut (q := q) (n := n) (x := x) ?_ ?_; subst x; rotate_left; clear_value x; intro hx)
    | with_reducible apply State.noteFeed_kept
    | with_reducible apply State.setB_kept
    | with_reducible apply State.setF_kept
    | with_reducible apply State.clr_kept
    | with_reducible apply Kept.ite

theorem State.auxLatch_kept {q n} {s : State} {a1} {a2} {a3} (h : Kept q n s) :
    Kept q n (State.auxLatch s a1 a2 a3) := by
  unfold State.auxLatch
  repeat' first | with_reducible assumption | with_reducible apply State.setAst_kept | with_reducible apply State.modAux_kept

theorem State.auxRaise_kept {q n} {s : State} {a1} {a2} (h : Kept q n s) :
    Kept q n (State.auxRaise s a1 a2) := by
  unfold State.auxRaise
  repeat' first | with_reducible assumption | with_reducible apply State.setBit_kept | with_reducible apply State.raise_kept

theorem State.auxRetire_kept {q n} {s : State} {a1} (h : Kept q n s) :
    Kept q n (State.auxRetire s a1) := by
  unfold State.auxRetire
  repeat' first
    | with_reducible assumption
    | with_reducible apply State.auxRaise_kept
    | with_reducible apply State.setAst_kept
    | with_reducible apply State.modAux_kept

theorem State.auxFail_kept {q n} {s : State} {a1} {a2} (h : Kept q n s) :
    Kept q n (State.auxFail s a1 a2) := by
  unfold State.auxFail
  repeat' first
    | with_reducible assumption
    | lift_lets
    | (intro x; refine Kept.cut (q := q) (n := n) (x := x) ?_ ?_; subst x; rotate_left; clear_value x; intro hx)
    | with_reducible apply State.auxRetire_kept
    | with_reducible apply State.auxRaise_kept
    | with_reducible apply State.auxLatch_kept
    | with_reducible apply State.setF_kept
    | with_reducible apply Kept.ite

theorem State.auxOut_kept {q n} {s : State} {a1} {a2} {a3} (h : Kept q n s) :
    Kept q n (State.auxOut s a1 a2 a3) := by
  unfold State.auxOut
  repeat' first
    | with_reducible assumption
    | lift_lets
    | (intro x; refine Kept.cut (q := q) (n := n) (x := x) ?_ ?_; subst x; rotate_left; clear_value x; intro hx)
    | with_reducible apply State.auxRetire_kept
    | with_reducible apply State.auxLatch_kept
    | with_reducible apply State.setF_kept
    | with_reducible apply Kept.ite

theorem State.auxFeedOut_kept {q n} {s : State} {a1} (h : Kept q n s) :
    Kept q n (State.auxFeedOut s a1) := by
  unfold State.auxFeedOut
  repeat' first
    | with_reducible assumption
    | with_reducible apply State.auxLatch_kept
    | with_reducible apply State.auxOut_kept
    | with_reducible apply State.setF_kept
    | with_reducible apply Kept.ite

theorem State.auxOff_kept {q n} {s : State} {a1} (h : Kept q n s) :
    Kept q n (State.auxOff s a1) := by
  unfold State.auxOff
  repeat' first | with_reducible assumption | with_reducible apply State.setAst_kept | with_reducible apply Kept.ite

theorem State.auxOn_kept {q n} {s : State} {a1} (h : Kept q n s) :
    Kept q n (State.auxOn s a1) := by
  unfold State.auxOn
  repeat' first
    | with_reducible assumption
    | with_reducible apply State.auxRaise_kept
    | with_reducible apply State.setAst_kept
    | with_reducible apply State.modAux_kept
    | with_reducible apply State.inc_kept
    | with_reducible apply Kept.ite

theorem State.auxPass_kept {q n} {s : State} {a1} (h : Kept q n s) :
    Kept q n (State.auxPass s a1) := by
  unfold State.auxPass
  repeat' first
    | with_reducible assumption
    | lift_lets
    | (intro x; refine Kept.cut (q := q) (n := n) (x := x) ?_ ?_; subst x; rotate_left; clear_value x; intro hx)
    | (intro x; clear_value x)
    | with_reducible apply State.raiseCleared_kept
    | with_reducible apply State.setAst_kept
    | with_reducible apply State.modAux_kept
    | with_reducible apply Kept.ite

theorem State.auxRetry_kept {q n} {s : State} {a1} (h : Kept q n s) :
    Kept q n (State.auxRetry s a1) := by
  unfold State.auxRetry
  repeat' first | with_reducible assumption | with_reducible apply State.setAst_kept | with_reducible apply State.modAux_kept

theorem State.auxWired_kept {q n} {s : State} {a1} {a2} (h : Kept q n s) :
    Kept q n (State.auxWired s a1 a2) := by
  unfold State.auxWired
  repeat' first
    | with_reducible assumption
    | lift_lets
    | (intro x; refine Kept.cut (q := q) (n := n) (x := x) ?_ ?_; subst x; rotate_left; clear_value x; intro hx)
    | with_reducible apply State.auxFail_kept
    | with_reducible apply State.setBit_kept
    | with_reducible apply State.setF_kept
    | with_reducible apply Kept.ite

theorem State.cutOpen_kept {q n} {s : State} {a1} (h : Kept q n s) :
    Kept q n (State.cutOpen s a1) := by
  unfold State.cutOpen
  repeat' first
    | with_reducible assumption
    | lift_lets
    | (intro x; refine Kept.cut (q := q) (n := n) (x := x) ?_ ?_; subst x; rotate_left; clear_value x; intro hx)
    | with_reducible apply State.setAst_kept
    | with_reducible apply State.set1_kept
    | with_reducible apply Kept.ite

theorem State.brakeApply_kept {q n} {s : State} {a1} (h : Kept q n s) :
    Kept q n (State.brakeApply s a1) := by
  unfold State.brakeApply
  repeat' first
    | with_reducible assumption
    | intro x y (hx : Kept q n x)
    | with_reducible apply State.cutOpen_kept
    | with_reducible apply State.auxOff_kept
    | with_reducible apply State.each_kept
    | with_reducible apply State.set1_kept
    | with_reducible apply Kept.ite

theorem State.brakeLost_kept {q n} {s : State} {a1} (h : Kept q n s) :
    Kept q n (State.brakeLost s a1) := by
  unfold State.brakeLost
  repeat' first
    | with_reducible assumption
    | intro x y (hx : Kept q n x)
    | with_reducible apply State.brakeApply_kept
    | with_reducible apply State.each_kept
    | with_reducible apply Kept.ite

theorem auxClearCounters_kept {q n} {s : State} (h : Kept q n s) :
    Kept q n (auxClearCounters s) := by
  unfold auxClearCounters
  repeat' first
    | with_reducible assumption
    | intro x (hx : Kept q n x)
    | intro x y (hx : Kept q n x)
    | with_reducible apply State.each_kept
    | with_reducible apply State.cmd_kept
    | with_reducible apply State.wr_kept

theorem auxClearOutput_kept {q n} {s : State} {a1} (h : Kept q n s) :
    Kept q n (auxClearOutput s a1) := by
  unfold auxClearOutput
  repeat' first
    | with_reducible assumption
    | intro x (hx : Kept q n x)
    | with_reducible apply State.auxRetry_kept
    | with_reducible apply State.cmdBiv_kept
    | split

theorem auxRequestOff_kept {q n} {s : State} {a1} (h : Kept q n s) :
    Kept q n (auxRequestOff s a1) := by
  unfold auxRequestOff
  repeat' first
    | with_reducible assumption
    | intro x (hx : Kept q n x)
    | with_reducible apply State.auxOff_kept
    | with_reducible apply State.cmd_kept
    | split

theorem auxRequestOn_kept {q n} {s : State} {a1} (h : Kept q n s) :
    Kept q n (auxRequestOn s a1) := by
  unfold auxRequestOn
  repeat' first
    | with_reducible assumption
    | intro x (hx : Kept q n x)
    | with_reducible apply State.auxOn_kept
    | with_reducible apply State.cmd_kept
    | split

theorem State.cutClose_kept {q n} {s : State} {a1} (h : Kept q n s) :
    Kept q n (State.cutClose s a1) := by
  unfold State.cutClose
  repeat' first | with_reducible assumption | with_reducible apply State.clr_kept

theorem State.cutOthers_kept {q n} {s : State} (h : Kept q n s) :
    Kept q n (State.cutOthers s) := by
  unfold State.cutOthers
  repeat' first
    | with_reducible assumption
    | intro x y (hx : Kept q n x)
    | with_reducible apply State.cutOpen_kept
    | with_reducible apply State.each_kept
    | with_reducible apply Kept.ite

theorem auxDiagComplete_kept {q n} {s : State} {a1} {a2} {a3} {a4} (h : Kept q n s) :
    Kept q n (auxDiagComplete s a1 a2 a3 a4) := by
  unfold auxDiagComplete
  repeat' first
    | with_reducible assumption
    | intro x y (hx : Kept q n x)
    | lift_lets
    | (intro x; refine Kept.cut (q := q) (n := n) (x := x) ?_ ?_; subst x; rotate_left; clear_value x; intro hx)
    | (intro x; clear_value x)
    | with_reducible apply State.auxWired_kept
    | with_reducible apply State.auxFail_kept
    | with_reducible apply State.auxPass_kept
    | with_reducible apply State.each_kept
    | with_reducible apply State.wrN_kept
    | with_reducible apply Kept.ite

theorem auxOvercurrent_kept {q n} {s : State} {a1} {a2} (h : Kept q n s) :
    Kept q n (auxOvercurrent s a1 a2) := by
  unfold auxOvercurrent
  repeat' first
    | with_reducible assumption
    | lift_lets
    | (intro x; refine Kept.cut (q := q) (n := n) (x := x) ?_ ?_; subst x; rotate_left; clear_value x; intro hx)
    | with_reducible apply State.brakeLost_kept
    | with_reducible apply State.auxRaise_kept
    | with_reducible apply State.auxOut_kept
    | with_reducible apply State.wrN_kept
    | with_reducible apply Kept.ite

theorem auxRetryWaitEnd_kept {q n} {s : State} {a1} (h : Kept q n s) :
    Kept q n (auxRetryWaitEnd s a1) := by
  unfold auxRetryWaitEnd
  repeat' first | with_reducible assumption | with_reducible apply State.auxRetry_kept | with_reducible apply Kept.ite

theorem auxSet_kept {q n} {s : State} {a1} {a2} (h : Kept q n s) :
    Kept q n (auxSet s a1 a2) := by
  unfold auxSet
  repeat' first
    | with_reducible assumption
    | lift_lets
    | (intro x; refine Kept.cut (q := q) (n := n) (x := x) ?_ ?_; subst x; rotate_left; clear_value x; intro hx)
    | with_reducible apply State.consume_kept
    | with_reducible apply State.auxOff_kept
    | with_reducible apply State.auxOn_kept
    | with_reducible apply Kept.ite

theorem feedOvercurrent_kept {q n} {s : State} {a1} {a2} (h : Kept q n s) :
    Kept q n (feedOvercurrent s a1 a2) := by
  unfold feedOvercurrent
  repeat' first
    | with_reducible assumption
    | intro x y (hx : Kept q n x)
    | lift_lets
    | (intro x; refine Kept.cut (q := q) (n := n) (x := x) ?_ ?_; subst x; rotate_left; clear_value x; intro hx)
    | with_reducible apply State.auxFeedOut_kept
    | with_reducible apply State.brakeLost_kept
    | with_reducible apply State.forEach_kept
    | with_reducible apply State.setBit_kept
    | with_reducible apply State.raise_kept
    | with_reducible apply State.setF_kept
    | with_reducible apply Kept.ite

theorem holdOkReached_kept {q n} {s : State} {a1} {a2} (h : Kept q n s) :
    Kept q n (holdOkReached s a1 a2) := by
  unfold holdOkReached
  repeat' first
    | with_reducible assumption
    | lift_lets
    | (intro x; refine Kept.cut (q := q) (n := n) (x := x) ?_ ?_; subst x; rotate_left; clear_value x; intro hx)
    | with_reducible apply State.set1_kept
    | with_reducible apply State.wrN_kept
    | with_reducible apply Kept.ite

theorem holdRegulationLost_kept {q n} {s : State} {a1} {a2} (h : Kept q n s) :
    Kept q n (holdRegulationLost s a1 a2) := by
  unfold holdRegulationLost
  repeat' first
    | with_reducible assumption
    | lift_lets
    | (intro x; refine Kept.cut (q := q) (n := n) (x := x) ?_ ?_; subst x; rotate_left; clear_value x; intro hx)
    | with_reducible apply State.brakeLost_kept
    | with_reducible apply State.auxRaise_kept
    | with_reducible apply State.auxOut_kept
    | with_reducible apply State.wrN_kept
    | with_reducible apply Kept.ite

theorem peakEnd_kept {q n} {s : State} {a1} (h : Kept q n s) :
    Kept q n (peakEnd s a1) := by
  unfold peakEnd
  repeat' first | with_reducible assumption | with_reducible apply State.setAst_kept | with_reducible apply Kept.ite

theorem pullinStart_kept {q n} {s : State} {a1} (h : Kept q n s) :
    Kept q n (pullinStart s a1) := by
  unfold pullinStart
  repeat' first
    | with_reducible assumption
    | with_reducible apply State.setAst_kept
    | with_reducible apply State.modAux_kept
    | with_reducible apply State.inc_kept
    | with_reducible apply Kept.ite

end Sys2Proof.Machine
end

