-- ==== Sys2Proof/Laws/KeptSns.lean ====
section
/-! SUPPORT. What the operations of Machine/Sns.lean keep (`Kept`). -/
namespace Sys2Proof.Machine

theorem State.anMarked_kept {q n} {s : State} {a1} (h : Kept q n s) :
    Kept q n (State.anMarked s a1) := by
  unfold State.anMarked
  repeat' first | with_reducible assumption | lift_lets | (intro x; clear_value x) | simp only [Kept.mk]

theorem State.snsClear_kept {q n} {s : State} (h : Kept q n s) :
    Kept q n (State.snsClear s) := by
  unfold State.snsClear
  repeat' first
    | with_reducible assumption
    | intro x y (hx : Kept q n x)
    | lift_lets
    | (intro x; refine Kept.cut (q := q) (n := n) (x := x) ?_ ?_; subst x; rotate_left; clear_value x; intro hx)
    | with_reducible apply State.setF_kept
    | with_reducible apply State.each_kept
    | with_reducible apply State.wr_kept

theorem snsClearCounters_kept {q n} {s : State} (h : Kept q n s) :
    Kept q n (snsClearCounters s) := by
  unfold snsClearCounters
  repeat' first
    | with_reducible assumption
    | intro x (hx : Kept q n x)
    | with_reducible apply State.snsClear_kept
    | with_reducible apply State.cmd_kept

theorem State.decCopy_kept {q n} {s : State} {a1} {a2} (h : Kept q n s) :
    Kept q n (State.decCopy s a1 a2) := by
  unfold State.decCopy
  repeat' first | with_reducible assumption | with_reducible apply State.wr_kept

theorem State.noteSpares_kept {q n} {s : State} (h : Kept q n s) :
    Kept q n (State.noteSpares s) := by
  unfold State.noteSpares
  repeat' first
    | with_reducible assumption
    | lift_lets
    | (intro x; refine Kept.cut (q := q) (n := n) (x := x) ?_ ?_; subst x; rotate_left; clear_value x; intro hx)
    | (intro x; clear_value x)
    | with_reducible apply State.setB_kept
    | with_reducible apply State.setF_kept
    | with_reducible apply State.set1_kept
    | with_reducible apply Kept.ite

theorem State.setDec_kept {q n} {s : State} {a1} {a2} (h : Kept q n s) :
    Kept q n (State.setDec s a1 a2) := by
  unfold State.setDec
  repeat' first | with_reducible assumption | lift_lets | (intro x; clear_value x) | simp only [Kept.mk]

theorem State.setDecState_kept {q n} {s : State} {a1} {a2} (h : Kept q n s) :
    Kept q n (State.setDecState s a1 a2) := by
  unfold State.setDecState
  repeat' first | with_reducible assumption | with_reducible apply State.noteSpares_kept | with_reducible apply State.setF_kept

theorem State.rotate_kept {q n} {s : State} (h : Kept q n s) :
    Kept q n (State.rotate s) := by
  unfold State.rotate
  repeat' first
    | with_reducible assumption
    | lift_lets
    | (intro x; clear_value x)
    | with_reducible apply State.setDecState_kept
    | with_reducible apply State.noteSpares_kept
    | with_reducible apply State.decCopy_kept
    | with_reducible apply State.setDec_kept
    | split

theorem snsRotationStep_kept {q n} {s : State} (h : Kept q n s) :
    Kept q n (snsRotationStep s) := by
  unfold snsRotationStep
  repeat' first
    | with_reducible assumption
    | intro x (hx : Kept q n x)
    | with_reducible apply State.rotate_kept
    | with_reducible apply State.cmdBiv_kept
    | split

theorem State.compLost_kept {q n} {s : State} {a1} (h : Kept q n s) :
    Kept q n (State.compLost s a1) := by
  unfold State.compLost
  repeat' first
    | with_reducible assumption
    | with_reducible apply State.requestSs1_kept
    | with_reducible apply State.raiseStop_kept
    | with_reducible apply State.set1_kept
    | with_reducible apply State.clr_kept

theorem State.compTest_kept {q n} {s : State} {a1} {a2} {a3} (h : Kept q n s) :
    Kept q n (State.compTest s a1 a2 a3) := by
  unfold State.compTest
  repeat' first
    | with_reducible assumption
    | lift_lets
    | (intro x; clear_value x)
    | with_reducible apply State.compLost_kept
    | with_reducible apply State.raise_kept
    | with_reducible apply State.set1_kept
    | with_reducible apply Kept.ite

theorem State.settleDec_kept {q n} {s : State} {a1} {a2} (h : Kept q n s) :
    Kept q n (State.settleDec s a1 a2) := by
  unfold State.settleDec
  repeat' first | with_reducible assumption | with_reducible apply State.setF_kept

theorem State.decBoundary_kept {q n} {s : State} {a1} (h : Kept q n s) :
    Kept q n (State.decBoundary s a1) := by
  unfold State.decBoundary
  repeat' first
    | with_reducible assumption
    | lift_lets
    | (intro x; refine Kept.cut (q := q) (n := n) (x := x) ?_ ?_; subst x; rotate_left; clear_value x; intro hx)
    | (intro x; clear_value x)
    | with_reducible apply State.settleDec_kept
    | with_reducible apply State.setDec_kept
    | with_reducible apply State.setF_kept
    | split

theorem State.produce_kept {q n} {s : State} {a1} {a2} {a3} (h : Kept q n s) :
    Kept q n (State.produce s a1 a2 a3) := by
  unfold State.produce
  repeat' first
    | with_reducible assumption
    | lift_lets
    | (intro x; refine Kept.cut (q := q) (n := n) (x := x) ?_ ?_; subst x; rotate_left; clear_value x; intro hx)
    | (intro x; clear_value x)
    | with_reducible apply State.toInbox_kept
    | with_reducible apply Kept.ite
    | simp only [Kept.mk]

theorem State.putEntry_kept {q n} {s : State} {a1} {a2} (h : Kept q n s) :
    Kept q n (State.putEntry s a1 a2) := by
  unfold State.putEntry
  repeat' first | with_reducible assumption | with_reducible apply State.wrN_kept

theorem State.decPut_kept {q n} {s : State} {a1} {a2} {a3} (h : Kept q n s) :
    Kept q n (State.decPut s a1 a2 a3) := by
  unfold State.decPut
  repeat' first
    | with_reducible assumption
    | lift_lets
    | (intro x; refine Kept.cut (q := q) (n := n) (x := x) ?_ ?_; subst x; rotate_left; clear_value x; intro hx)
    | (intro x; clear_value x)
    | with_reducible apply State.putEntry_kept
    | with_reducible apply State.produce_kept
    | with_reducible apply State.incMod_kept
    | with_reducible apply State.setF_kept

theorem State.retireDec_kept {q n} {s : State} {a1} (h : Kept q n s) :
    Kept q n (State.retireDec s a1) := by
  unfold State.retireDec
  repeat' first
    | with_reducible assumption
    | with_reducible apply State.setDecState_kept
    | with_reducible apply State.raise_kept
    | with_reducible apply State.set1_kept

theorem State.retireInput_kept {q n} {s : State} {a1} (h : Kept q n s) :
    Kept q n (State.retireInput s a1) := by
  unfold State.retireInput
  repeat' first
    | with_reducible assumption
    | lift_lets
    | (intro x; refine Kept.cut (q := q) (n := n) (x := x) ?_ ?_; subst x; rotate_left; clear_value x; intro hx)
    | with_reducible apply State.requestSs1_kept
    | with_reducible apply State.singlePath_kept
    | with_reducible apply State.raiseStop_kept
    | with_reducible apply State.raise_kept
    | with_reducible apply State.setF_kept
    | with_reducible apply State.set1_kept
    | with_reducible apply Kept.ite

theorem decCheckError_kept {q n} {s : State} {a1} (h : Kept q n s) :
    Kept q n (decCheckError s a1) := by
  unfold decCheckError
  repeat' first
    | with_reducible assumption
    | lift_lets
    | (intro x; refine Kept.cut (q := q) (n := n) (x := x) ?_ ?_; subst x; rotate_left; clear_value x; intro hx)
    | (intro x; clear_value x)
    | with_reducible apply State.retireInput_kept
    | with_reducible apply State.setDecState_kept
    | with_reducible apply State.retireDec_kept
    | with_reducible apply State.decCopy_kept
    | with_reducible apply State.setDec_kept
    | with_reducible apply State.setF_kept
    | with_reducible apply Kept.ite
    | split

theorem sdInputLost_kept {q n} {s : State} {a1} (h : Kept q n s) :
    Kept q n (sdInputLost s a1) := by
  unfold sdInputLost
  repeat' first
    | with_reducible assumption
    | lift_lets
    | (intro x; refine Kept.cut (q := q) (n := n) (x := x) ?_ ?_; subst x; rotate_left; clear_value x; intro hx)
    | (intro x; clear_value x)
    | with_reducible apply State.raise_kept
    | with_reducible apply State.set1_kept
    | with_reducible apply State.clr_kept
    | with_reducible apply Kept.ite
    | simp only [Kept.mk]

theorem State.sarOrphan_kept {q n} {s : State} {a1} {a2} (h : Kept q n s) :
    Kept q n (State.sarOrphan s a1 a2) := by
  unfold State.sarOrphan
  dsimp only
  repeat' first
    | with_reducible assumption
    | with_reducible apply State.putEntry_kept
    | with_reducible apply State.anMarked_kept
    | with_reducible apply State.produce_kept
    | with_reducible apply Kept.ite
    | with_reducible apply Kept.drawn

theorem State.setSar_kept {q n} {s : State} {a1} {a2} (h : Kept q n s) :
    Kept q n (State.setSar s a1 a2) := by
  unfold State.setSar
  repeat' first | with_reducible assumption | lift_lets | (intro x; clear_value x) | simp only [Kept.mk]

theorem State.sarStart_kept {q n} {s : State} {a1} (h : Kept q n s) :
    Kept q n (State.sarStart s a1) := by
  unfold State.sarStart
  repeat' first
    | with_reducible assumption
    | lift_lets
    | (intro x; refine Kept.cut (q := q) (n := n) (x := x) ?_ ?_; subst x; rotate_left; clear_value x; intro hx)
    | (intro x; clear_value x)
    | with_reducible apply State.setSar_kept
    | with_reducible apply State.setF_kept
    | with_reducible apply State.set1_kept
    | with_reducible apply State.clr_kept
    | split
    | dsimp only

theorem State.sarRetire_kept {q n} {s : State} {a1} (h : Kept q n s) :
    Kept q n (State.sarRetire s a1) := by
  unfold State.sarRetire
  repeat' first
    | with_reducible assumption
    | intro x y (hx : Kept q n x)
    | lift_lets
    | (intro x; refine Kept.cut (q := q) (n := n) (x := x) ?_ ?_; subst x; rotate_left; clear_value x; intro hx)
    | (intro x; subst x)
    | with_reducible apply State.singlePath_kept
    | with_reducible apply State.sarOrphan_kept
    | with_reducible apply State.sarStart_kept
    | with_reducible apply State.setSar_kept
    | with_reducible apply State.raise_kept
    | with_reducible apply State.each_kept
    | with_reducible apply State.set1_kept
    | with_reducible apply State.clr_kept
    | with_reducible apply Kept.ite

theorem State.winValue_kept {q n} {s : State} {a1} {a2} (h : Kept q n s) :
    Kept q n (State.winValue s a1 a2) := by
  unfold State.winValue
  repeat' first
    | with_reducible assumption
    | lift_lets
    | (intro x; refine Kept.cut (q := q) (n := n) (x := x) ?_ ?_; subst x; rotate_left; clear_value x; intro hx)
    | (intro x; clear_value x)
    | (intro x; subst x)
    | with_reducible apply State.setB_kept
    | with_reducible apply State.incF_kept
    | with_reducible apply Kept.ite
    | split
    | simp only [Kept.mk]

theorem State.fastBit_kept {q n} {s : State} {a1} {a2} (h : Kept q n s) :
    Kept q n (State.fastBit s a1 a2) := by
  unfold State.fastBit
  repeat' first
    | with_reducible assumption
    | lift_lets
    | (intro x; refine Kept.cut (q := q) (n := n) (x := x) ?_ ?_; subst x; rotate_left; clear_value x; intro hx)
    | (intro x; clear_value x)
    | with_reducible apply State.winValue_kept
    | simp only [Kept.mk]

theorem State.noteRefCells_kept {q n} {s : State} (h : Kept q n s) :
    Kept q n (State.noteRefCells s) := by
  unfold State.noteRefCells
  repeat' first
    | with_reducible assumption
    | intro x y (hx : Kept q n x)
    | lift_lets
    | (intro x; refine Kept.cut (q := q) (n := n) (x := x) ?_ ?_; subst x; rotate_left; clear_value x; intro hx)
    | (intro x; clear_value x)
    | with_reducible apply State.setB_kept
    | with_reducible apply State.each_kept

theorem State.refDegraded_kept {q n} {s : State} {a1} (h : Kept q n s) :
    Kept q n (State.refDegraded s a1) := by
  unfold State.refDegraded
  repeat' first
    | with_reducible assumption
    | lift_lets
    | (intro x; refine Kept.cut (q := q) (n := n) (x := x) ?_ ?_; subst x; rotate_left; clear_value x; intro hx)
    | (intro x; clear_value x)
    | (intro x; subst x)
    | with_reducible apply State.raiseCleared_kept
    | with_reducible apply State.raise_kept
    | with_reducible apply State.set1_kept
    | with_reducible apply State.clr_kept
    | with_reducible apply Kept.ite
    | split
    | simp only [Kept.mk]

theorem State.setRef_kept {q n} {s : State} {a1} {a2} (h : Kept q n s) :
    Kept q n (State.setRef s a1 a2) := by
  unfold State.setRef
  repeat' first | with_reducible assumption | lift_lets | (intro x; clear_value x) | with_reducible apply Kept.ite | simp only [Kept.mk]

theorem State.settleGroup_kept {q n} {s : State} {a1} (h : Kept q n s) :
    Kept q n (State.settleGroup s a1) := by
  unfold State.settleGroup
  repeat' first
    | with_reducible assumption
    | intro x y (hx : Kept q n x)
    | lift_lets
    | (intro x; clear_value x)
    | with_reducible apply State.each_kept
    | simp only [Kept.mk]

theorem State.refSwitch_kept {q n} {s : State} {a1} (h : Kept q n s) :
    Kept q n (State.refSwitch s a1) := by
  unfold State.refSwitch
  repeat' first
    | with_reducible assumption
    | lift_lets
    | (intro x; refine Kept.cut (q := q) (n := n) (x := x) ?_ ?_; subst x; rotate_left; clear_value x; intro hx)
    | with_reducible apply State.settleGroup_kept
    | with_reducible apply State.setRef_kept
    | with_reducible apply State.raise_kept
    | with_reducible apply State.setF_kept
    | with_reducible apply State.set1_kept

theorem State.refSwitched_kept {q n} {s : State} {a1} {a2} (h : Kept q n s) :
    Kept q n (State.refSwitched s a1 a2) := by
  unfold State.refSwitched
  repeat' first
    | with_reducible assumption
    | lift_lets
    | (intro x; refine Kept.cut (q := q) (n := n) (x := x) ?_ ?_; subst x; rotate_left; clear_value x; intro hx)
    | (intro x; clear_value x)
    | (intro x; subst x)
    | with_reducible apply State.raiseCleared_kept
    | with_reducible apply State.settleGroup_kept
    | with_reducible apply State.setRef_kept
    | with_reducible apply State.raise_kept
    | with_reducible apply State.setF_kept
    | with_reducible apply State.set1_kept
    | with_reducible apply State.clr_kept
    | with_reducible apply Kept.ite

theorem State.refTrim_kept {q n} {s : State} {a1} {a2} (h : Kept q n s) :
    Kept q n (State.refTrim s a1 a2) := by
  unfold State.refTrim
  repeat' first
    | with_reducible assumption
    | lift_lets
    | (intro x; refine Kept.cut (q := q) (n := n) (x := x) ?_ ?_; subst x; rotate_left; clear_value x; intro hx)
    | (intro x; clear_value x)
    | with_reducible apply State.setFI_kept
    | with_reducible apply State.raise_kept
    | with_reducible apply State.setF_kept
    | with_reducible apply State.set1_kept
    | with_reducible apply Kept.ite

theorem State.refRound_kept {q n} {s : State} {a1} {a2} (h : Kept q n s) :
    Kept q n (State.refRound s a1 a2) := by
  unfold State.refRound
  repeat' first
    | with_reducible assumption
    | lift_lets
    | (intro x; refine Kept.cut (q := q) (n := n) (x := x) ?_ ?_; subst x; rotate_left; clear_value x; intro hx)
    | (intro x; subst x)
    | with_reducible apply State.noteRefCells_kept
    | with_reducible apply State.refSwitched_kept
    | with_reducible apply State.refDegraded_kept
    | with_reducible apply State.refSwitch_kept
    | with_reducible apply State.refTrim_kept
    | with_reducible apply Kept.ite

theorem State.sarCalStep_kept {q n} {s : State} {a1} {a2} (h : Kept q n s) :
    Kept q n (State.sarCalStep s a1 a2) := by
  unfold State.sarCalStep
  repeat' first
    | with_reducible assumption
    | lift_lets
    | (intro x; clear_value x)
    | with_reducible apply State.sarRetire_kept
    | with_reducible apply State.setSar_kept
    | with_reducible apply State.set1_kept
    | with_reducible apply Kept.ite

theorem State.winRestart_kept {q n} {s : State} {a1} (h : Kept q n s) :
    Kept q n (State.winRestart s a1) := by
  unfold State.winRestart
  repeat' first
    | with_reducible assumption
    | lift_lets
    | (intro x; refine Kept.cut (q := q) (n := n) (x := x) ?_ ?_; subst x; rotate_left; clear_value x; intro hx)
    | (intro x; clear_value x)
    | simp only [Kept.mk]

theorem State.sarAbortCal_kept {q n} {s : State} {a1} (h : Kept q n s) :
    Kept q n (State.sarAbortCal s a1).1 := by
  unfold State.sarAbortCal
  repeat' first
    | with_reducible assumption
    | lift_lets
    | (intro x; refine Kept.cut (q := q) (n := n) (x := x) ?_ ?_; subst x; rotate_left; clear_value x; intro hx)
    | (intro x; clear_value x)
    | with_reducible apply State.setSar_kept
    | with_reducible apply State.set1_kept
    | with_reducible apply State.inc_kept
    | with_reducible apply State.clr_kept
    | split

theorem State.sarAdd_kept {q n} {s : State} {a1} {a2} {a3} {a4} {a5} (h : Kept q n s) :
    Kept q n (State.sarAdd s a1 a2 a3 a4 a5) := by
  unfold State.sarAdd
  repeat' first
    | with_reducible assumption
    | lift_lets
    | (intro x; refine Kept.cut (q := q) (n := n) (x := x) ?_ ?_; subst x; rotate_left; clear_value x; intro hx)
    | (intro x; clear_value x)
    | with_reducible apply State.sarStart_kept
    | with_reducible apply State.setSar_kept
    | with_reducible apply Kept.ite

theorem State.sarPut_kept {q n} {s : State} {a1} {a2} {a3} (h : Kept q n s) :
    Kept q n (State.sarPut s a1 a2 a3) := by
  unfold State.sarPut
  repeat' first
    | with_reducible assumption
    | lift_lets
    | (intro x; refine Kept.cut (q := q) (n := n) (x := x) ?_ ?_; subst x; rotate_left; clear_value x; intro hx)
    | (intro x; clear_value x)
    | with_reducible apply State.putEntry_kept
    | with_reducible apply State.anMarked_kept
    | with_reducible apply State.produce_kept
    | with_reducible apply State.incMod_kept
    | with_reducible apply Kept.ite
    | simp only [Kept.mk]

theorem State.sarSeq_kept {q n} {s : State} {a1} {a2} {a3} {a4} {a5} (h : Kept q n s) :
    Kept q n (State.sarSeq s a1 a2 a3 a4 a5) := by
  induction a5 generalizing s a1 a2 a3 a4 with
  | zero => simpa [State.sarSeq] using h
  | succ m ih =>
    unfold State.sarSeq
    repeat' first
      | with_reducible assumption
      | lift_lets
      | (intro x; refine Kept.cut (q := q) (n := n) (x := x) ?_ ?_; subst x; rotate_left; clear_value x; intro hx)
      | with_reducible apply ih
      | with_reducible apply State.sarOrphan_kept
      | with_reducible apply State.sarAdd_kept
      | with_reducible apply Kept.ite

theorem State.setVon_kept {q n} {s : State} {a1} {a2} (h : Kept q n s) :
    Kept q n (State.setVon s a1 a2) := by
  unfold State.setVon
  repeat' first | with_reducible assumption | lift_lets | (intro x; clear_value x) | simp only [Kept.mk]

theorem State.shadowOut_kept {q n} {s : State} {a1} {a2} (h : Kept q n s) :
    Kept q n (State.shadowOut s a1 a2) := by
  unfold State.shadowOut
  repeat' first | with_reducible assumption | lift_lets | (intro x; clear_value x) | with_reducible apply State.setDec_kept

theorem State.vonPut_kept {q n} {s : State} {a1} {a2} (h : Kept q n s) :
    Kept q n (State.vonPut s a1 a2) := by
  unfold State.vonPut
  repeat' first
    | with_reducible assumption
    | with_reducible apply State.putEntry_kept
    | with_reducible apply State.produce_kept
    | with_reducible apply Kept.drawn

theorem codingError_kept {q n} {s : State} {a1} (h : Kept q n s) :
    Kept q n (codingError s a1) := by
  unfold codingError
  repeat' first
    | with_reducible assumption
    | with_reducible apply State.set1_kept
    | with_reducible apply State.incF_kept
    | with_reducible apply Kept.ite

theorem convert_kept {q n} {s : State} {a1} {a2} (h : Kept q n s) :
    Kept q n (convert s a1 a2) := by
  unfold convert
  repeat' first
    | with_reducible assumption
    | lift_lets
    | (intro x; refine Kept.cut (q := q) (n := n) (x := x) ?_ ?_; subst x; rotate_left; clear_value x; intro hx)
    | (intro x; refine Kept.cut (q := q) (n := n) (x := x.1) ?_ ?_; subst x; rotate_left; clear_value x; intro hx)
    | (intro x; clear_value x)
    | with_reducible apply State.sarAbortCal_kept
    | with_reducible apply State.sarOrphan_kept
    | with_reducible apply State.consume_kept
    | with_reducible apply State.sarAdd_kept
    | with_reducible apply Kept.ite

theorem decAlign_kept {q n} {s : State} {a1} {a2} (h : Kept q n s) :
    Kept q n (decAlign s a1 a2) := by
  unfold decAlign
  repeat' first
    | with_reducible assumption
    | lift_lets
    | (intro x; refine Kept.cut (q := q) (n := n) (x := x) ?_ ?_; subst x; rotate_left; clear_value x; intro hx)
    | (intro x; clear_value x)
    | with_reducible apply State.consume_kept
    | with_reducible apply State.setDec_kept
    | with_reducible apply Kept.ite

theorem decOutput_kept {q n} {s : State} {a1} {a2} {a3} (h : Kept q n s) :
    Kept q n (decOutput s a1 a2 a3) := by
  unfold decOutput
  repeat' first
    | with_reducible assumption
    | lift_lets
    | (intro x; clear_value x)
    | with_reducible apply State.decBoundary_kept
    | with_reducible apply State.shadowOut_kept
    | with_reducible apply State.decPut_kept
    | with_reducible apply Kept.ite
    | with_reducible apply Kept.drawn

theorem patternTestDone_kept {q n} {s : State} {a1} {a2} (h : Kept q n s) :
    Kept q n (patternTestDone s a1 a2) := by
  unfold patternTestDone
  repeat' first
    | with_reducible assumption
    | lift_lets
    | (intro x; clear_value x)
    | with_reducible apply State.setDecState_kept
    | with_reducible apply State.retireDec_kept
    | with_reducible apply State.decCopy_kept
    | with_reducible apply State.setDec_kept
    | with_reducible apply State.setF_kept
    | with_reducible apply Kept.ite
    | split

theorem rotationTick_kept {q n} {s : State} (h : Kept q n s) :
    Kept q n (rotationTick s) := by
  unfold rotationTick
  repeat' first | with_reducible assumption | with_reducible apply State.rotate_kept | with_reducible apply Kept.ite

theorem runSeq_kept {q n} {s : State} {a1} {a2} (h : Kept q n s) :
    Kept q n (runSeq s a1 a2) := by
  unfold runSeq
  repeat' first
    | with_reducible assumption
    | lift_lets
    | (intro x; refine Kept.cut (q := q) (n := n) (x := x) ?_ ?_; subst x; rotate_left; clear_value x; intro hx)
    | (intro x; refine Kept.cut (q := q) (n := n) (x := x.1) ?_ ?_; subst x; rotate_left; clear_value x; intro hx)
    | (intro x; clear_value x)
    | with_reducible apply State.sarAbortCal_kept
    | with_reducible apply State.consume_kept
    | with_reducible apply State.sarSeq_kept
    | with_reducible apply Kept.ite

theorem sarCalStall_kept {q n} {s : State} {a1} (h : Kept q n s) :
    Kept q n (sarCalStall s a1) := by
  unfold sarCalStall
  repeat' first | with_reducible assumption | with_reducible apply State.raise_kept | with_reducible apply Kept.ite

theorem sarConversionEnd_kept {q n} {s : State} {a1} {a2} {a3} (h : Kept q n s) :
    Kept q n (sarConversionEnd s a1 a2 a3) := by
  unfold sarConversionEnd
  repeat' first
    | with_reducible assumption
    | lift_lets
    | (intro x; clear_value x)
    | with_reducible apply State.sarStart_kept
    | with_reducible apply State.sarPut_kept
    | with_reducible apply State.setSar_kept
    | split
    | dsimp only

theorem sdInputRecovered_kept {q n} {s : State} {a1} (h : Kept q n s) :
    Kept q n (sdInputRecovered s a1) := by
  unfold sdInputRecovered
  repeat' first
    | with_reducible assumption
    | lift_lets
    | (intro x; refine Kept.cut (q := q) (n := n) (x := x) ?_ ?_; subst x; rotate_left; clear_value x; intro hx)
    | (intro x; clear_value x)
    | with_reducible apply State.raiseCleared_kept
    | with_reducible apply State.winRestart_kept
    | with_reducible apply State.settleDec_kept
    | with_reducible apply State.set1_kept
    | with_reducible apply State.clr_kept
    | with_reducible apply Kept.ite
    | split
    | simp only [Kept.mk]

theorem setFilter_kept {q n} {s : State} {a1} {a2} (h : Kept q n s) :
    Kept q n (setFilter s a1 a2) := by
  unfold setFilter
  repeat' first
    | with_reducible assumption
    | lift_lets
    | (intro x; refine Kept.cut (q := q) (n := n) (x := x) ?_ ?_; subst x; rotate_left; clear_value x; intro hx)
    | (intro x; clear_value x)
    | with_reducible apply State.consume_kept
    | with_reducible apply State.setDec_kept
    | with_reducible apply Kept.ite

theorem shadowHandover_kept {q n} {s : State} {a1} (h : Kept q n s) :
    Kept q n (shadowHandover s a1) := by
  unfold shadowHandover
  repeat' first
    | with_reducible assumption
    | lift_lets
    | (intro x; refine Kept.cut (q := q) (n := n) (x := x) ?_ ?_; subst x; rotate_left; clear_value x; intro hx)
    | (intro x; clear_value x)
    | with_reducible apply State.setDecState_kept
    | with_reducible apply State.setDec_kept
    | with_reducible apply State.setF_kept
    | with_reducible apply State.set1_kept
    | with_reducible apply Kept.ite
    | split

theorem shadowMismatch_kept {q n} {s : State} {a1} (h : Kept q n s) :
    Kept q n (shadowMismatch s a1) := by
  unfold shadowMismatch
  repeat' first
    | with_reducible assumption
    | lift_lets
    | (intro x; clear_value x)
    | with_reducible apply State.setDecState_kept
    | with_reducible apply State.setDec_kept
    | with_reducible apply State.raise_kept
    | with_reducible apply Kept.ite

theorem vonEntryWritten_kept {q n} {s : State} {a1} {a2} {a3} (h : Kept q n s) :
    Kept q n (vonEntryWritten s a1 a2 a3) := by
  unfold vonEntryWritten
  repeat' first
    | with_reducible assumption
    | lift_lets
    | (intro x; refine Kept.cut (q := q) (n := n) (x := x) ?_ ?_; subst x; rotate_left; clear_value x; intro hx)
    | (intro x; clear_value x)
    | with_reducible apply State.setVon_kept
    | with_reducible apply State.vonPut_kept
    | with_reducible apply State.raise_kept
    | with_reducible apply State.set1_kept
    | with_reducible apply Kept.ite

theorem vonSample_kept {q n} {s : State} {a1} {a2} (h : Kept q n s) :
    Kept q n (vonSample s a1 a2) := by
  unfold vonSample
  repeat' first
    | with_reducible assumption
    | lift_lets
    | (intro x; refine Kept.cut (q := q) (n := n) (x := x) ?_ ?_; subst x; rotate_left; clear_value x; intro hx)
    | (intro x; subst x)
    | with_reducible apply State.consume_kept
    | with_reducible apply State.setVon_kept
    | with_reducible apply State.vonPut_kept
    | with_reducible apply Kept.ite

end Sys2Proof.Machine
end

