-- ==== Sys2Proof/Laws/KeptEdg.lean ====
section
/-! SUPPORT. What the operations of Machine/Edg.lean keep (`Kept`). -/
namespace Sys2Proof.Machine

theorem State.conflict_kept {q n} {s : State} {a1} (h : Kept q n s) :
    Kept q n (State.conflict s a1) := by
  unfold State.conflict
  repeat' first
    | with_reducible assumption
    | with_reducible apply State.raiseMs_kept
    | with_reducible apply State.set1_kept
    | with_reducible apply State.inc_kept

theorem State.periodsFrom_kept {q n} {s : State} {a1} {a2} (h : Kept q n s) :
    Kept q n (State.periodsFrom s a1 a2) := by
  unfold State.periodsFrom
  repeat' first | with_reducible assumption | with_reducible apply State.modLeg_kept

theorem State.setTarget_kept {q n} {s : State} {a1} {a2} (h : Kept q n s) :
    Kept q n (State.setTarget s a1 a2) := by
  unfold State.setTarget
  repeat' first | with_reducible assumption | with_reducible apply State.setF_kept

theorem State.undoRaise_kept {q n} {s : State} {a1} (h : Kept q n s) :
    Kept q n (State.undoRaise s a1) := by
  unfold State.undoRaise
  repeat' first
    | with_reducible assumption
    | lift_lets
    | with_reducible apply State.setOut_kept
    | with_reducible apply State.modLeg_kept
    | with_reducible apply State.setF_kept
    | with_reducible apply State.wrN_kept
    | with_reducible apply State.clr_kept
    | with_reducible apply Kept.ite
    | split
    | dsimp only

theorem State.bothRaised_kept {q n} {s : State} {a1} {a2} (h : Kept q n s) :
    Kept q n (State.bothRaised s a1 a2) := by
  unfold State.bothRaised
  repeat' first
    | with_reducible assumption
    | with_reducible apply State.periodsFrom_kept
    | with_reducible apply State.setTarget_kept
    | with_reducible apply State.undoRaise_kept
    | with_reducible apply State.conflict_kept
    | with_reducible apply State.modLeg_kept

theorem State.setPeak_kept {q n} {s : State} {a1} {a2} (h : Kept q n s) :
    Kept q n (State.setPeak s a1 a2) := by
  unfold State.setPeak
  repeat' first | with_reducible assumption | lift_lets | (intro x; clear_value x) | simp only [Kept.mk]

theorem State.setPend_kept {q n} {s : State} {a1} {a2} (h : Kept q n s) :
    Kept q n (State.setPend s a1 a2) := by
  unfold State.setPend
  repeat' first | with_reducible assumption | lift_lets | (intro x; clear_value x) | simp only [Kept.mk]

theorem State.setZero_kept {q n} {s : State} {a1} {a2} (h : Kept q n s) :
    Kept q n (State.setZero s a1 a2) := by
  unfold State.setZero
  repeat' first | with_reducible assumption | with_reducible apply State.wrN_kept

theorem State.carrierPass_kept {q n} {s : State} {a1} {a2} (h : Kept q n s) :
    Kept q n (State.carrierPass s a1 a2) := by
  unfold State.carrierPass
  repeat' first
    | with_reducible assumption
    | lift_lets
    | (intro x; refine Kept.cut (q := q) (n := n) (x := x) ?_ ?_; subst x; rotate_left; clear_value x; intro hx)
    | (intro x; clear_value x)
    | with_reducible apply State.setZero_kept
    | with_reducible apply State.setPend_kept
    | with_reducible apply State.setPeak_kept
    | with_reducible apply State.wrN_kept
    | with_reducible apply Kept.ite
    | split

theorem State.setTst_kept {q n} {s : State} {a1} {a2} (h : Kept q n s) :
    Kept q n (State.setTst s a1 a2) := by
  unfold State.setTst
  repeat' first | with_reducible assumption | with_reducible apply State.noteChop_kept | with_reducible apply State.setF_kept

theorem State.retireLeg_kept {q n} {s : State} {a1} {a2} (h : Kept q n s) :
    Kept q n (State.retireLeg s a1 a2) := by
  unfold State.retireLeg
  repeat' first
    | with_reducible assumption
    | intro x y (hx : Kept q n x)
    | lift_lets
    | (intro x; refine Kept.cut (q := q) (n := n) (x := x) ?_ ?_; subst x; rotate_left; clear_value x; intro hx)
    | (intro x; clear_value x)
    | with_reducible apply State.requestSs1_kept
    | with_reducible apply State.raiseWith_kept
    | with_reducible apply State.giveOrSs1_kept
    | with_reducible apply State.legHold_kept
    | with_reducible apply State.bndHalt_kept
    | with_reducible apply State.setTst_kept
    | with_reducible apply State.modLeg_kept
    | with_reducible apply State.legOff_kept
    | with_reducible apply State.setF_kept
    | with_reducible apply State.each_kept
    | with_reducible apply State.set1_kept
    | with_reducible apply Kept.ite

theorem edgClearCounters_kept {q n} {s : State} (h : Kept q n s) :
    Kept q n (edgClearCounters s) := by
  unfold edgClearCounters
  repeat' first
    | with_reducible assumption
    | intro x (hx : Kept q n x)
    | intro x y (hx : Kept q n x)
    | lift_lets
    | (intro x; refine Kept.cut (q := q) (n := n) (x := x) ?_ ?_; subst x; rotate_left; clear_value x; intro hx)
    | with_reducible apply State.zero_kept
    | with_reducible apply State.each_kept
    | with_reducible apply State.cmd_kept
    | with_reducible apply State.clr_kept

theorem State.legClear_kept {q n} {s : State} {a1} (h : Kept q n s) :
    Kept q n (State.legClear s a1) := by
  unfold State.legClear
  repeat' first
    | with_reducible assumption
    | lift_lets
    | (intro x; refine Kept.cut (q := q) (n := n) (x := x) ?_ ?_; subst x; rotate_left; clear_value x; intro hx)
    | (intro x; clear_value x)
    | with_reducible apply State.raiseCleared_kept
    | with_reducible apply State.setTst_kept
    | with_reducible apply State.modLeg_kept
    | with_reducible apply State.setF_kept

theorem edgClearLeg_kept {q n} {s : State} {a1} (h : Kept q n s) :
    Kept q n (edgClearLeg s a1) := by
  unfold edgClearLeg
  repeat' first
    | with_reducible assumption
    | intro x (hx : Kept q n x)
    | with_reducible apply State.legClear_kept
    | with_reducible apply State.cmdBiv_kept
    | split

theorem State.runOffs_kept {q n} {s : State} {a1} {a2} (h : Kept q n s) :
    Kept q n (State.runOffs s a1 a2) := by
  unfold State.runOffs
  repeat' first
    | with_reducible assumption
    | intro x y (hx : Kept q n x)
    | with_reducible apply State.switch_kept
    | with_reducible apply State.each_kept
    | with_reducible apply Kept.ite
    | split

theorem State.runOns_kept {q n} {s : State} {a1} {a2} {a3} (h : Kept q n s) :
    Kept q n (State.runOns s a1 a2 a3) := by
  unfold State.runOns
  repeat' first
    | with_reducible assumption
    | intro x y (hx : Kept q n x)
    | with_reducible apply State.switch_kept
    | with_reducible apply State.each_kept
    | with_reducible apply Kept.ite

theorem State.legRun_kept {q n} {s : State} {a1} {a2} (h : Kept q n s) :
    Kept q n (State.legRun s a1 a2) := by
  unfold State.legRun
  repeat' first | with_reducible assumption | with_reducible apply State.runOffs_kept | with_reducible apply State.runOns_kept

theorem State.legPeriod_kept {q n} {s : State} {a1} (h : Kept q n s) :
    Kept q n (State.legPeriod s a1) := by
  unfold State.legPeriod
  repeat' first | with_reducible assumption | with_reducible apply State.runOffs_kept | with_reducible apply State.runOns_kept

theorem State.edgePeriod_kept {q n} {s : State} (h : Kept q n s) :
    Kept q n (State.edgePeriod s) := by
  unfold State.edgePeriod
  repeat' first
    | with_reducible assumption
    | intro x y (hx : Kept q n x)
    | with_reducible apply State.legPeriod_kept
    | with_reducible apply State.each_kept
    | with_reducible apply Kept.ite

theorem State.innerOff_kept {q n} {s : State} {a1} {a2} (h : Kept q n s) :
    Kept q n (State.innerOff s a1 a2) := by
  unfold State.innerOff
  repeat' first
    | with_reducible assumption
    | lift_lets
    | (intro x; refine Kept.cut (q := q) (n := n) (x := x) ?_ ?_; subst x; rotate_left; clear_value x; intro hx)
    | (intro x; clear_value x)
    | with_reducible apply State.modGate_kept
    | with_reducible apply State.switch_kept
    | with_reducible apply State.sink_kept
    | with_reducible apply State.set1_kept
    | with_reducible apply Kept.ite

theorem State.tripLatch_kept {q n} {s : State} {a1} (h : Kept q n s) :
    Kept q n (State.tripLatch s a1) := by
  unfold State.tripLatch
  repeat' first
    | with_reducible assumption
    | lift_lets
    | (intro x; refine Kept.cut (q := q) (n := n) (x := x) ?_ ?_; subst x; rotate_left; clear_value x; intro hx)
    | with_reducible apply State.setTarget_kept
    | with_reducible apply State.retireLeg_kept
    | with_reducible apply State.setTst_kept
    | with_reducible apply State.modLeg_kept
    | with_reducible apply State.legOff_kept
    | with_reducible apply State.raise_kept
    | with_reducible apply State.set1_kept
    | with_reducible apply Kept.ite

theorem State.newPeriod_kept {q n} {s : State} {a1} {a2} (h : Kept q n s) :
    Kept q n (State.newPeriod s a1 a2) := by
  unfold State.newPeriod
  repeat' first
    | with_reducible assumption
    | lift_lets
    | (intro x; refine Kept.cut (q := q) (n := n) (x := x) ?_ ?_; subst x; rotate_left; clear_value x; intro hx)
    | with_reducible apply State.tripLatch_kept
    | with_reducible apply State.legRun_kept
    | with_reducible apply State.setTst_kept
    | with_reducible apply State.modLeg_kept
    | with_reducible apply State.setF_kept
    | with_reducible apply State.incF_kept
    | with_reducible apply Kept.ite

theorem State.noteRaise_kept {q n} {s : State} {a1} {a2} {a3} (h : Kept q n s) :
    Kept q n (State.noteRaise s a1 a2 a3) := by
  unfold State.noteRaise
  repeat' first | with_reducible assumption | lift_lets | (intro x; clear_value x) | with_reducible apply State.setLeg_kept

theorem State.setAim_kept {q n} {s : State} {a1} {a2} {a3} (h : Kept q n s) :
    Kept q n (State.setAim s a1 a2 a3) := by
  unfold State.setAim
  repeat' first
    | with_reducible assumption
    | lift_lets
    | (intro x; refine Kept.cut (q := q) (n := n) (x := x) ?_ ?_; subst x; rotate_left; clear_value x; intro hx)
    | with_reducible apply State.setTarget_kept
    | with_reducible apply State.legRun_kept
    | with_reducible apply State.modLeg_kept
    | with_reducible apply Kept.ite

theorem State.outThree_kept {q n} {s : State} {a1} {a2} {a3} {a4} (h : Kept q n s) :
    Kept q n (State.outThree s a1 a2 a3 a4) := by
  unfold State.outThree
  repeat' first
    | with_reducible assumption
    | lift_lets
    | (intro x; clear_value x)
    | with_reducible apply State.raiseMs_kept
    | with_reducible apply State.setAim_kept
    | with_reducible apply State.set1_kept
    | with_reducible apply State.inc_kept
    | with_reducible apply Kept.ite

theorem State.outTwo_kept {q n} {s : State} {a1} {a2} {a3} {a4} (h : Kept q n s) :
    Kept q n (State.outTwo s a1 a2 a3 a4) := by
  unfold State.outTwo
  repeat' first
    | with_reducible assumption
    | lift_lets
    | (intro x; clear_value x)
    | with_reducible apply State.bothRaised_kept
    | with_reducible apply State.noteRaise_kept
    | with_reducible apply State.conflict_kept
    | with_reducible apply State.setAim_kept
    | with_reducible apply Kept.ite

theorem State.retireLine_kept {q n} {s : State} {a1} {a2} (h : Kept q n s) :
    Kept q n (State.retireLine s a1 a2) := by
  unfold State.retireLine
  repeat' first
    | with_reducible assumption
    | lift_lets
    | (intro x; refine Kept.cut (q := q) (n := n) (x := x) ?_ ?_; subst x; rotate_left; clear_value x; intro hx)
    | with_reducible apply State.raise_kept
    | with_reducible apply State.set1_kept
    | with_reducible apply Kept.ite
    | split

theorem State.retireOutput_kept {q n} {s : State} {a1} (h : Kept q n s) :
    Kept q n (State.retireOutput s a1) := by
  unfold State.retireOutput
  repeat' first
    | with_reducible assumption
    | lift_lets
    | (intro x; refine Kept.cut (q := q) (n := n) (x := x) ?_ ?_; subst x; rotate_left; clear_value x; intro hx)
    | with_reducible apply State.retireLeg_kept
    | with_reducible apply State.raise_kept
    | with_reducible apply State.set1_kept
    | split

theorem State.suppress_kept {q n} {s : State} {c} {f : State → State} (h : Kept q n s)
    (hf : ∀ t, Kept q n t → Kept q n (f t)) : Kept q n (State.suppress s c f) := by
  unfold State.suppress
  split
  · exact State.inc_kept h
  · exact hf _ h

theorem State.tripCut_kept {q n} {s : State} {a1} (h : Kept q n s) :
    Kept q n (State.tripCut s a1) := by
  unfold State.tripCut
  repeat' first
    | with_reducible assumption
    | lift_lets
    | (intro x; refine Kept.cut (q := q) (n := n) (x := x) ?_ ?_; subst x; rotate_left; clear_value x; intro hx)
    | with_reducible apply State.periodsFrom_kept
    | with_reducible apply State.raiseMs_kept
    | with_reducible apply State.setTst_kept
    | with_reducible apply State.legOff_kept
    | with_reducible apply State.setF_kept
    | with_reducible apply State.set1_kept

theorem carrierCheckFail_kept {q n} {s : State} {a1} (h : Kept q n s) :
    Kept q n (carrierCheckFail s a1) := by
  unfold carrierCheckFail
  repeat' first
    | with_reducible assumption
    | lift_lets
    | (intro x; refine Kept.cut (q := q) (n := n) (x := x) ?_ ?_; subst x; rotate_left; clear_value x; intro hx)
    | (intro x; clear_value x)
    | with_reducible apply State.setPend_kept
    | with_reducible apply State.setF_kept
    | with_reducible apply Kept.ite
    | simp only [Kept.mk]

theorem carrierStop_kept {q n} {s : State} {a1} {a2} (h : Kept q n s) :
    Kept q n (carrierStop s a1 a2) := by
  unfold carrierStop
  repeat' first
    | with_reducible assumption
    | lift_lets
    | (intro x; refine Kept.cut (q := q) (n := n) (x := x) ?_ ?_; subst x; rotate_left; clear_value x; intro hx)
    | with_reducible apply State.setPend_kept
    | with_reducible apply State.consume_kept
    | with_reducible apply State.setF_kept
    | with_reducible apply Kept.ite

theorem carrierSync_kept {q n} {s : State} {a1} {a2} {a3} (h : Kept q n s) :
    Kept q n (carrierSync s a1 a2 a3) := by
  unfold carrierSync
  repeat' first
    | with_reducible assumption
    | lift_lets
    | (intro x; refine Kept.cut (q := q) (n := n) (x := x) ?_ ?_; subst x; rotate_left; clear_value x; intro hx)
    | (intro x; clear_value x)
    | with_reducible apply State.setZero_kept
    | with_reducible apply State.setPend_kept
    | with_reducible apply State.setPeak_kept
    | with_reducible apply State.consume_kept
    | with_reducible apply State.setF_kept
    | with_reducible apply State.wrN_kept
    | with_reducible apply Kept.ite

theorem deadTimeElapsed_kept {q n} {s : State} {a1} {a2} (h : Kept q n s) :
    Kept q n (deadTimeElapsed s a1 a2) := by
  unfold deadTimeElapsed
  repeat' first
    | with_reducible assumption
    | intro x y (hx : Kept q n x)
    | with_reducible apply State.switch_kept
    | with_reducible apply State.each_kept
    | with_reducible apply Kept.ite

theorem delayLineSwap_kept {q n} {s : State} {a1} {a2} (h : Kept q n s) :
    Kept q n (delayLineSwap s a1 a2) := by
  unfold delayLineSwap
  repeat' first
    | with_reducible assumption
    | with_reducible apply State.raiseSec_kept
    | with_reducible apply State.setF_kept
    | with_reducible apply State.set1_kept
    | with_reducible apply State.inc_kept
    | with_reducible apply Kept.ite

theorem legRetryWaitEnd_kept {q n} {s : State} {a1} (h : Kept q n s) :
    Kept q n (legRetryWaitEnd s a1) := by
  unfold legRetryWaitEnd
  repeat' first | with_reducible assumption | with_reducible apply State.legClear_kept | with_reducible apply Kept.ite

theorem legSet_kept {q n} {s : State} {a1} {a2} {a3} {a4} (h : Kept q n s) :
    Kept q n (legSet s a1 a2 a3 a4) := by
  unfold legSet
  repeat' first
    | with_reducible assumption
    | intro x (hx : Kept q n x)
    | lift_lets
    | (intro x; refine Kept.cut (q := q) (n := n) (x := x) ?_ ?_; subst x; rotate_left; clear_value x; intro hx)
    | (intro x; clear_value x)
    | with_reducible apply State.noteRaise_kept
    | with_reducible apply State.suppress_kept
    | with_reducible apply State.consume_kept
    | with_reducible apply State.setAim_kept
    | with_reducible apply Kept.ite
    | split

theorem legTripPersist_kept {q n} {s : State} {a1} (h : Kept q n s) :
    Kept q n (legTripPersist s a1) := by
  unfold legTripPersist
  repeat' first | with_reducible assumption | with_reducible apply State.retireLeg_kept | with_reducible apply Kept.ite

theorem lineCalibrationDone_kept {q n} {s : State} {a1} {a2} (h : Kept q n s) :
    Kept q n (lineCalibrationDone s a1 a2) := by
  unfold lineCalibrationDone
  repeat' first
    | with_reducible assumption
    | lift_lets
    | (intro x; refine Kept.cut (q := q) (n := n) (x := x) ?_ ?_; subst x; rotate_left; clear_value x; intro hx)
    | (intro x; clear_value x)
    | with_reducible apply State.retireOutput_kept
    | with_reducible apply State.retireLine_kept
    | with_reducible apply State.setOut_kept
    | with_reducible apply State.setF_kept
    | with_reducible apply Kept.ite

theorem lineCheckError_kept {q n} {s : State} {a1} (h : Kept q n s) :
    Kept q n (lineCheckError s a1) := by
  unfold lineCheckError
  repeat' first | with_reducible assumption | with_reducible apply State.retireOutput_kept | with_reducible apply Kept.ite

theorem outSet_kept {q n} {s : State} {a1} {a2} {a3} {a4} (h : Kept q n s) :
    Kept q n (outSet s a1 a2 a3 a4) := by
  unfold outSet
  repeat' first
    | with_reducible assumption
    | intro x (hx : Kept q n x)
    | lift_lets
    | (intro x; refine Kept.cut (q := q) (n := n) (x := x) ?_ ?_; subst x; rotate_left; clear_value x; intro hx)
    | (intro x; clear_value x)
    | with_reducible apply State.outThree_kept
    | with_reducible apply State.suppress_kept
    | with_reducible apply State.consume_kept
    | with_reducible apply State.setAim_kept
    | with_reducible apply State.outTwo_kept
    | with_reducible apply Kept.ite
    | split

theorem periodStart_kept {q n} {s : State} {a1} (h : Kept q n s) :
    Kept q n (periodStart s a1) := by
  unfold periodStart
  repeat' first | with_reducible assumption | with_reducible apply State.newPeriod_kept | split

theorem setPeriod_kept {q n} {s : State} {a1} {a2} {a3} (h : Kept q n s) :
    Kept q n (setPeriod s a1 a2 a3) := by
  unfold setPeriod
  repeat' first
    | with_reducible assumption
    | lift_lets
    | (intro x; refine Kept.cut (q := q) (n := n) (x := x) ?_ ?_; subst x; rotate_left; clear_value x; intro hx)
    | with_reducible apply State.setPend_kept
    | with_reducible apply State.consume_kept
    | with_reducible apply State.wrN_kept
    | with_reducible apply Kept.ite

theorem t3lInnerElapsed_kept {q n} {s : State} {a1} (h : Kept q n s) :
    Kept q n (t3lInnerElapsed s a1) := by
  unfold t3lInnerElapsed
  repeat' first
    | with_reducible assumption
    | intro x y (hx : Kept q n x)
    | lift_lets
    | (intro x; refine Kept.cut (q := q) (n := n) (x := x) ?_ ?_; subst x; rotate_left; clear_value x; intro hx)
    | (intro x; clear_value x)
    | with_reducible apply State.innerOff_kept
    | with_reducible apply State.modLeg_kept
    | with_reducible apply State.each_kept
    | with_reducible apply Kept.ite
    | split

theorem tripPinQualified_kept {q n} {s : State} {a1} {a2} (h : Kept q n s) :
    Kept q n (tripPinQualified s a1 a2) := by
  unfold tripPinQualified
  repeat' first
    | with_reducible assumption
    | with_reducible apply State.setBit_kept
    | with_reducible apply State.clrBit_kept
    | with_reducible apply Kept.ite

theorem tripRowActive_kept {q n} {s : State} {a1} (h : Kept q n s) :
    Kept q n (tripRowActive s a1) := by
  unfold tripRowActive
  repeat' first
    | with_reducible assumption
    | intro x y (hx : Kept q n x)
    | lift_lets
    | (intro x; clear_value x)
    | with_reducible apply State.tripLatch_kept
    | with_reducible apply State.tripCut_kept
    | with_reducible apply State.each_kept
    | with_reducible apply Kept.ite

end Sys2Proof.Machine
end

