-- ==== Sys2Proof/Laws/KeptGd.lean ====
section
/-! SUPPORT. What the operations of Machine/Gd.lean keep (`Kept`). -/
namespace Sys2Proof.Machine

theorem State.gateSupply_kept {q n} {s : State} {a1} {a2} (h : Kept q n s) :
    Kept q n (State.gateSupply s a1 a2) := by
  unfold State.gateSupply
  repeat' first
    | with_reducible assumption
    | lift_lets
    | (intro x; refine Kept.cut (q := q) (n := n) (x := x) ?_ ?_; subst x; rotate_left; clear_value x; intro hx)
    | (intro x; clear_value x)
    | with_reducible apply State.setGate_kept
    | with_reducible apply State.sink_kept
    | with_reducible apply State.clr_kept
    | with_reducible apply Kept.ite

theorem State.beginRun_kept {q n} {s : State} {a1} (h : Kept q n s) :
    Kept q n (State.beginRun s a1) := by
  unfold State.beginRun
  repeat' first
    | with_reducible assumption
    | with_reducible apply State.gateSupply_kept
    | with_reducible apply State.modGate_kept
    | with_reducible apply State.wr_kept

theorem State.setEnables_kept {q n} {s : State} {a1} {a2} {a3} (h : Kept q n s) :
    Kept q n (State.setEnables s a1 a2 a3) := by
  unfold State.setEnables
  repeat' first
    | with_reducible assumption
    | lift_lets
    | (intro x; refine Kept.cut (q := q) (n := n) (x := x) ?_ ?_; subst x; rotate_left; clear_value x; intro hx)
    | with_reducible apply State.gateSupply_kept
    | with_reducible apply State.noteChop_kept
    | with_reducible apply State.modGate_kept
    | with_reducible apply State.setB_kept
    | with_reducible apply State.sink_kept
    | with_reducible apply Kept.ite

theorem State.gdCause_kept {q n} {s : State} {a1} {a2} {a3} (h : Kept q n s) :
    Kept q n (State.gdCause s a1 a2 a3) := by
  unfold State.gdCause
  repeat' first | with_reducible assumption | with_reducible apply State.modGate_kept | with_reducible apply State.setF_kept

theorem State.latchChan_kept {q n} {s : State} {a1} {a2} (h : Kept q n s) :
    Kept q n (State.latchChan s a1 a2) := by
  unfold State.latchChan
  repeat' first
    | with_reducible assumption
    | with_reducible apply State.modGate_kept
    | with_reducible apply State.setGst_kept
    | with_reducible apply State.sink_kept
    | with_reducible apply State.inc_kept

theorem State.retireChan_kept {q n} {s : State} {a1} {a2} (h : Kept q n s) :
    Kept q n (State.retireChan s a1 a2) := by
  unfold State.retireChan
  repeat' first
    | with_reducible assumption
    | lift_lets
    | (intro x; refine Kept.cut (q := q) (n := n) (x := x) ?_ ?_; subst x; rotate_left; clear_value x; intro hx)
    | with_reducible apply State.retireLeg_kept
    | with_reducible apply State.modGate_kept
    | with_reducible apply State.setGst_kept
    | with_reducible apply State.raise_kept
    | with_reducible apply State.sink_kept
    | with_reducible apply State.set1_kept
    | split

theorem State.channelFault_kept {q n} {s : State} {a1} {a2} {a3} (h : Kept q n s) :
    Kept q n (State.channelFault s a1 a2 a3) := by
  unfold State.channelFault
  repeat' first
    | with_reducible assumption
    | lift_lets
    | (intro x; refine Kept.cut (q := q) (n := n) (x := x) ?_ ?_; subst x; rotate_left; clear_value x; intro hx)
    | with_reducible apply State.requestSs1_kept
    | with_reducible apply State.retireChan_kept
    | with_reducible apply State.latchChan_kept
    | with_reducible apply State.raiseStop_kept
    | with_reducible apply State.gdCause_kept
    | with_reducible apply State.raise_kept
    | with_reducible apply Kept.ite

theorem State.linkSeen_kept {q n} {s : State} {a1} {a2} (h : Kept q n s) :
    Kept q n (State.linkSeen s a1 a2) := by
  unfold State.linkSeen
  repeat' first | with_reducible assumption | with_reducible apply State.modGate_kept | with_reducible apply Kept.ite

theorem State.enterDiag_kept {q n} {s : State} {a1} (h : Kept q n s) :
    Kept q n (State.enterDiag s a1) := by
  unfold State.enterDiag
  repeat' first
    | with_reducible assumption
    | with_reducible apply State.beginRun_kept
    | with_reducible apply State.modGate_kept
    | with_reducible apply State.setGst_kept
    | with_reducible apply State.sink_kept

theorem State.retryDiag_kept {q n} {s : State} {a1} (h : Kept q n s) :
    Kept q n (State.retryDiag s a1) := by
  unfold State.retryDiag
  repeat' first
    | with_reducible assumption
    | lift_lets
    | (intro x; clear_value x)
    | with_reducible apply State.enterDiag_kept
    | with_reducible apply State.modGate_kept

theorem State.clearChan_kept {q n} {s : State} {a1} {a2} (h : Kept q n s) :
    Kept q n (State.clearChan s a1 a2).2 := by
  unfold State.clearChan
  repeat' first
    | with_reducible assumption
    | lift_lets
    | (intro x; refine Kept.cut (q := q) (n := n) (x := x) ?_ ?_; subst x; rotate_left; clear_value x; intro hx)
    | with_reducible apply State.retryDiag_kept
    | with_reducible apply State.linkSeen_kept
    | split

theorem gdClearChannel_kept {q n} {s : State} {a1} {a2} (h : Kept q n s) :
    Kept q n (gdClearChannel s a1 a2) := by
  unfold gdClearChannel
  repeat' first
    | with_reducible assumption
    | intro x (hx : Kept q n x)
    | with_reducible apply State.clearChan_kept
    | with_reducible apply State.cmdBiv_kept

theorem gdClearCounters_kept {q n} {s : State} (h : Kept q n s) :
    Kept q n (gdClearCounters s) := by
  unfold gdClearCounters
  repeat' first
    | with_reducible assumption
    | intro x (hx : Kept q n x)
    | intro x y (hx : Kept q n x)
    | with_reducible apply State.zero_kept
    | with_reducible apply State.each_kept
    | with_reducible apply State.cmd_kept
    | with_reducible apply State.wr_kept

theorem gdRunDiagnostics_kept {q n} {s : State} {a1} (h : Kept q n s) :
    Kept q n (gdRunDiagnostics s a1) := by
  unfold gdRunDiagnostics
  repeat' first
    | with_reducible assumption
    | intro x (hx : Kept q n x)
    | lift_lets
    | (intro x; refine Kept.cut (q := q) (n := n) (x := x) ?_ ?_; subst x; rotate_left; clear_value x; intro hx)
    | with_reducible apply State.enterDiag_kept
    | with_reducible apply State.beginRun_kept
    | with_reducible apply State.modGate_kept
    | with_reducible apply State.sink_kept
    | with_reducible apply State.cmd_kept
    | with_reducible apply Kept.ite
    | split

theorem State.diagFail_kept {q n} {s : State} {a1} {a2} (h : Kept q n s) :
    Kept q n (State.diagFail s a1 a2) := by
  unfold State.diagFail
  repeat' first
    | with_reducible assumption
    | lift_lets
    | (intro x; refine Kept.cut (q := q) (n := n) (x := x) ?_ ?_; subst x; rotate_left; clear_value x; intro hx)
    | (intro x; clear_value x)
    | with_reducible apply State.channelFault_kept
    | with_reducible apply State.retireChan_kept
    | with_reducible apply State.latchChan_kept
    | with_reducible apply State.gdCause_kept
    | with_reducible apply State.raise_kept
    | with_reducible apply State.set1_kept
    | with_reducible apply Kept.ite

theorem State.diagPass_kept {q n} {s : State} {a1} (h : Kept q n s) :
    Kept q n (State.diagPass s a1) := by
  unfold State.diagPass
  repeat' first
    | with_reducible assumption
    | lift_lets
    | (intro x; refine Kept.cut (q := q) (n := n) (x := x) ?_ ?_; subst x; rotate_left; clear_value x; intro hx)
    | (intro x; clear_value x)
    | with_reducible apply State.raiseCleared_kept
    | with_reducible apply State.setTarget_kept
    | with_reducible apply State.modGate_kept
    | with_reducible apply State.legRun_kept
    | with_reducible apply State.setGst_kept
    | with_reducible apply State.sink_kept
    | with_reducible apply Kept.ite
    | split

theorem State.wiredTo_kept {q n} {s : State} {a1} {a2} (h : Kept q n s) :
    Kept q n (State.wiredTo s a1 a2) := by
  unfold State.wiredTo
  repeat' first
    | with_reducible assumption
    | lift_lets
    | (intro x; refine Kept.cut (q := q) (n := n) (x := x) ?_ ?_; subst x; rotate_left; clear_value x; intro hx)
    | with_reducible apply State.diagFail_kept
    | with_reducible apply State.setBit_kept
    | with_reducible apply State.setF_kept
    | with_reducible apply Kept.ite

theorem State.diagResult_kept {q n} {s : State} {a1} {a2} {a3} {a4} (h : Kept q n s) :
    Kept q n (State.diagResult s a1 a2 a3 a4) := by
  unfold State.diagResult
  repeat' first
    | with_reducible assumption
    | intro x y (hx : Kept q n x)
    | lift_lets
    | (intro x; refine Kept.cut (q := q) (n := n) (x := x) ?_ ?_; subst x; rotate_left; clear_value x; intro hx)
    | (intro x; clear_value x)
    | with_reducible apply State.diagPass_kept
    | with_reducible apply State.diagFail_kept
    | with_reducible apply State.wiredTo_kept
    | with_reducible apply State.modGate_kept
    | with_reducible apply State.setF_kept
    | with_reducible apply State.each_kept
    | with_reducible apply State.set1_kept
    | with_reducible apply State.wrN_kept
    | with_reducible apply Kept.ite

theorem primaryLinkFault_kept {q n} {s : State} {a1} (h : Kept q n s) :
    Kept q n (primaryLinkFault s a1) := by
  unfold primaryLinkFault
  repeat' first
    | with_reducible assumption
    | with_reducible apply State.channelFault_kept
    | with_reducible apply State.modGate_kept
    | with_reducible apply State.set1_kept

theorem State.endDiag_kept {q n} {s : State} {a1} (h : Kept q n s) :
    Kept q n (State.endDiag s a1) := by
  unfold State.endDiag
  repeat' first
    | with_reducible assumption
    | lift_lets
    | (intro x; refine Kept.cut (q := q) (n := n) (x := x) ?_ ?_; subst x; rotate_left; clear_value x; intro hx)
    | with_reducible apply State.gateSupply_kept
    | with_reducible apply State.modGate_kept
    | with_reducible apply State.cmdEnd_kept
    | with_reducible apply State.sink_kept
    | with_reducible apply Kept.ite

theorem State.softOff_kept {q n} {s : State} {a1} (h : Kept q n s) :
    Kept q n (State.softOff s a1) := by
  unfold State.softOff
  repeat' first | with_reducible assumption | with_reducible apply State.modGate_kept | with_reducible apply State.set1_kept

theorem State.softOuter_kept {q n} {s : State} {a1} (h : Kept q n s) :
    Kept q n (State.softOuter s a1) := by
  unfold State.softOuter
  repeat' first
    | with_reducible assumption
    | intro x y (hx : Kept q n x)
    | lift_lets
    | (intro x; clear_value x)
    | with_reducible apply State.softOff_kept
    | with_reducible apply State.modGate_kept
    | with_reducible apply State.each_kept
    | with_reducible apply Kept.ite

theorem State.flagOff_kept {q n} {s : State} {a1} {a2} {a3} (h : Kept q n s) :
    Kept q n (State.flagOff s a1 a2 a3) := by
  unfold State.flagOff
  repeat' first
    | with_reducible assumption
    | lift_lets
    | (intro x; refine Kept.cut (q := q) (n := n) (x := x) ?_ ?_; subst x; rotate_left; clear_value x; intro hx)
    | with_reducible apply State.softOuter_kept
    | with_reducible apply State.softOff_kept
    | with_reducible apply State.legOff_kept
    | with_reducible apply Kept.ite

theorem State.gateOff_kept {q n} {s : State} {a1} (h : Kept q n s) :
    Kept q n (State.gateOff s a1) := by
  unfold State.gateOff
  repeat' first | with_reducible assumption | with_reducible apply State.modGate_kept | with_reducible apply Kept.ite

theorem State.gateOn_kept {q n} {s : State} {a1} (h : Kept q n s) :
    Kept q n (State.gateOn s a1) := by
  unfold State.gateOn
  repeat' first
    | with_reducible assumption
    | with_reducible apply State.modGate_kept
    | with_reducible apply State.sink_kept
    | with_reducible apply Kept.ite

theorem State.gateSense_kept {q n} {s : State} {a1} {a2} (h : Kept q n s) :
    Kept q n (State.gateSense s a1 a2) := by
  unfold State.gateSense
  repeat' first | with_reducible assumption | with_reducible apply State.setB_kept

theorem State.groupHold_kept {q n} {s : State} {a1} (h : Kept q n s) :
    Kept q n (State.groupHold s a1) := by
  unfold State.groupHold
  repeat' first
    | with_reducible assumption
    | intro x y (hx : Kept q n x)
    | with_reducible apply State.legHold_kept
    | with_reducible apply State.each_kept
    | with_reducible apply Kept.ite

theorem State.unplugChan_kept {q n} {s : State} {a1} (h : Kept q n s) :
    Kept q n (State.unplugChan s a1) := by
  unfold State.unplugChan
  repeat' first
    | with_reducible assumption
    | lift_lets
    | (intro x; refine Kept.cut (q := q) (n := n) (x := x) ?_ ?_; subst x; rotate_left; clear_value x; intro hx)
    | with_reducible apply State.gdCause_kept
    | with_reducible apply State.modGate_kept
    | with_reducible apply State.setGst_kept
    | with_reducible apply State.raise_kept
    | with_reducible apply State.sink_kept
    | with_reducible apply State.set1_kept
    | with_reducible apply Kept.ite

theorem State.setRails_kept {q n} {s : State} {a1} {a2} {a3} (h : Kept q n s) :
    Kept q n (State.setRails s a1 a2 a3) := by
  unfold State.setRails
  repeat' first | with_reducible assumption | with_reducible apply State.wrN_kept

theorem blankingEnd_kept {q n} {s : State} {a1} {a2} (h : Kept q n s) :
    Kept q n (blankingEnd s a1 a2) := by
  unfold blankingEnd
  repeat' first | with_reducible assumption | with_reducible apply State.gateSense_kept | with_reducible apply State.modGate_kept

theorem desatDetected_kept {q n} {s : State} {a1} (h : Kept q n s) :
    Kept q n (desatDetected s a1) := by
  unfold desatDetected
  repeat' first
    | with_reducible assumption
    | lift_lets
    | (intro x; refine Kept.cut (q := q) (n := n) (x := x) ?_ ?_; subst x; rotate_left; clear_value x; intro hx)
    | (intro x; clear_value x)
    | with_reducible apply State.setGate_kept
    | with_reducible apply State.softOff_kept
    | with_reducible apply State.modGate_kept
    | with_reducible apply State.set1_kept
    | with_reducible apply State.inc_kept
    | with_reducible apply Kept.ite

theorem desatFlagArrival_kept {q n} {s : State} {a1} (h : Kept q n s) :
    Kept q n (desatFlagArrival s a1) := by
  unfold desatFlagArrival
  repeat' first
    | with_reducible assumption
    | intro x y (hx : Kept q n x)
    | lift_lets
    | (intro x; refine Kept.cut (q := q) (n := n) (x := x) ?_ ?_; subst x; rotate_left; clear_value x; intro hx)
    | (intro x; clear_value x)
    | with_reducible apply State.channelFault_kept
    | with_reducible apply State.flagOff_kept
    | with_reducible apply State.legHold_kept
    | with_reducible apply State.setGate_kept
    | with_reducible apply State.each_kept
    | with_reducible apply Kept.ite
    | split

theorem diagnosticsComplete_kept {q n} {s : State} {a1} {a2} {a3} {a4} (h : Kept q n s) :
    Kept q n (diagnosticsComplete s a1 a2 a3 a4) := by
  unfold diagnosticsComplete
  repeat' first
    | with_reducible assumption
    | with_reducible apply State.diagResult_kept
    | with_reducible apply State.endDiag_kept
    | with_reducible apply Kept.ite

theorem fswWindow_kept {q n} {s : State} {a1} (h : Kept q n s) :
    Kept q n (fswWindow s a1) := by
  unfold fswWindow
  repeat' first
    | with_reducible assumption
    | lift_lets
    | (intro x; refine Kept.cut (q := q) (n := n) (x := x) ?_ ?_; subst x; rotate_left; clear_value x; intro hx)
    | (intro x; clear_value x)
    | with_reducible apply State.raiseSec_kept
    | with_reducible apply State.modGate_kept
    | with_reducible apply State.setF_kept
    | with_reducible apply State.set1_kept
    | with_reducible apply Kept.ite

theorem gateCommandArrival_kept {q n} {s : State} {a1} {a2} {a3} {a4} (h : Kept q n s) :
    Kept q n (gateCommandArrival s a1 a2 a3 a4) := by
  unfold gateCommandArrival
  repeat' first
    | with_reducible assumption
    | lift_lets
    | (intro x; refine Kept.cut (q := q) (n := n) (x := x) ?_ ?_; subst x; rotate_left; clear_value x; intro hx)
    | (intro x; clear_value x)
    | with_reducible apply State.gateOff_kept
    | with_reducible apply State.setGate_kept
    | with_reducible apply State.modGate_kept
    | with_reducible apply State.gateOn_kept
    | with_reducible apply Kept.ite

theorem gateMiss_kept {q n} {s : State} {a1} {a2} (h : Kept q n s) :
    Kept q n (gateMiss s a1 a2) := by
  unfold gateMiss
  repeat' first
    | with_reducible assumption
    | lift_lets
    | (intro x; refine Kept.cut (q := q) (n := n) (x := x) ?_ ?_; subst x; rotate_left; clear_value x; intro hx)
    | (intro x; clear_value x)
    | with_reducible apply State.channelFault_kept
    | with_reducible apply State.gateSense_kept
    | with_reducible apply State.softOff_kept
    | with_reducible apply State.modGate_kept
    | with_reducible apply State.sink_kept
    | with_reducible apply State.set1_kept
    | with_reducible apply State.inc_kept
    | with_reducible apply Kept.ite

theorem gateOffReport_kept {q n} {s : State} {a1} {a2} (h : Kept q n s) :
    Kept q n (gateOffReport s a1 a2) := by
  unfold gateOffReport
  repeat' first
    | with_reducible assumption
    | lift_lets
    | (intro x; refine Kept.cut (q := q) (n := n) (x := x) ?_ ?_; subst x; rotate_left; clear_value x; intro hx)
    | (intro x; clear_value x)
    | with_reducible apply State.gateSense_kept
    | with_reducible apply State.modGate_kept
    | with_reducible apply State.setOut_kept
    | with_reducible apply Kept.ite

theorem gdClear_kept {q n} {s : State} {a1} {a2} {a3} (h : Kept q n s) :
    Kept q n (gdClear s a1 a2 a3) := by
  unfold gdClear
  repeat' first
    | with_reducible assumption
    | lift_lets
    | (intro x; refine Kept.cut (q := q) (n := n) (x := x) ?_ ?_; subst x; rotate_left; clear_value x; intro hx)
    | with_reducible apply State.clearChan_kept
    | with_reducible apply State.consume_kept
    | with_reducible apply Kept.ite

theorem gdRetryWaitEnd_kept {q n} {s : State} {a1} {a2} (h : Kept q n s) :
    Kept q n (gdRetryWaitEnd s a1 a2) := by
  unfold gdRetryWaitEnd
  repeat' first
    | with_reducible assumption
    | lift_lets
    | (intro x; refine Kept.cut (q := q) (n := n) (x := x) ?_ ?_; subst x; rotate_left; clear_value x; intro hx)
    | with_reducible apply State.retryDiag_kept
    | with_reducible apply State.linkSeen_kept
    | with_reducible apply Kept.ite

theorem interlockClosedSettled_kept {q n} {s : State} {a1} (h : Kept q n s) :
    Kept q n (interlockClosedSettled s a1) := by
  unfold interlockClosedSettled
  repeat' first
    | with_reducible assumption
    | intro x y (hx : Kept q n x)
    | lift_lets
    | (intro x; clear_value x)
    | with_reducible apply State.modGate_kept
    | with_reducible apply State.setBit_kept
    | with_reducible apply State.each_kept
    | with_reducible apply Kept.ite

theorem interlockOpen_kept {q n} {s : State} {a1} (h : Kept q n s) :
    Kept q n (interlockOpen s a1) := by
  unfold interlockOpen
  repeat' first
    | with_reducible assumption
    | intro x y (hx : Kept q n x)
    | lift_lets
    | (intro x; refine Kept.cut (q := q) (n := n) (x := x) ?_ ?_; subst x; rotate_left; clear_value x; intro hx)
    | with_reducible apply State.unplugChan_kept
    | with_reducible apply State.groupHold_kept
    | with_reducible apply State.clrBit_kept
    | with_reducible apply State.each_kept
    | with_reducible apply State.inc_kept

theorem isolatedLinkLoss_kept {q n} {s : State} {a1} (h : Kept q n s) :
    Kept q n (isolatedLinkLoss s a1) := by
  unfold isolatedLinkLoss
  repeat' first
    | with_reducible assumption
    | lift_lets
    | (intro x; refine Kept.cut (q := q) (n := n) (x := x) ?_ ?_; subst x; rotate_left; clear_value x; intro hx)
    | (intro x; clear_value x)
    | with_reducible apply State.softOff_kept
    | with_reducible apply State.modGate_kept
    | with_reducible apply State.sink_kept
    | with_reducible apply Kept.ite

theorem profilePhaseEnd_kept {q n} {s : State} {a1} {a2} (h : Kept q n s) :
    Kept q n (profilePhaseEnd s a1 a2) := by
  unfold profilePhaseEnd
  repeat' first
    | with_reducible assumption
    | lift_lets
    | (intro x; refine Kept.cut (q := q) (n := n) (x := x) ?_ ?_; subst x; rotate_left; clear_value x; intro hx)
    | with_reducible apply State.gateSense_kept
    | with_reducible apply State.modGate_kept

theorem softTurnOffEnd_kept {q n} {s : State} {a1} (h : Kept q n s) :
    Kept q n (softTurnOffEnd s a1) := by
  unfold softTurnOffEnd
  repeat' first
    | with_reducible assumption
    | with_reducible apply State.modGate_kept
    | with_reducible apply State.clr_kept
    | with_reducible apply Kept.ite

theorem supplyFault_kept {q n} {s : State} {a1} {a2} {a3} (h : Kept q n s) :
    Kept q n (supplyFault s a1 a2 a3) := by
  unfold supplyFault
  repeat' first
    | with_reducible assumption
    | lift_lets
    | (intro x; refine Kept.cut (q := q) (n := n) (x := x) ?_ ?_; subst x; rotate_left; clear_value x; intro hx)
    | with_reducible apply State.channelFault_kept
    | with_reducible apply State.setRails_kept
    | with_reducible apply State.modGate_kept
    | with_reducible apply State.sink_kept
    | with_reducible apply State.set1_kept
    | with_reducible apply State.clr_kept
    | with_reducible apply Kept.ite

theorem supplyOverload_kept {q n} {s : State} {a1} {a2} (h : Kept q n s) :
    Kept q n (supplyOverload s a1 a2) := by
  unfold supplyOverload
  repeat' first
    | with_reducible assumption
    | lift_lets
    | (intro x; refine Kept.cut (q := q) (n := n) (x := x) ?_ ?_; subst x; rotate_left; clear_value x; intro hx)
    | with_reducible apply State.channelFault_kept
    | with_reducible apply State.setF_kept
    | with_reducible apply State.sink_kept
    | with_reducible apply State.set1_kept
    | with_reducible apply Kept.ite

theorem supplyReady_kept {q n} {s : State} {a1} {a2} {a3} (h : Kept q n s) :
    Kept q n (supplyReady s a1 a2 a3) := by
  unfold supplyReady
  repeat' first
    | with_reducible assumption
    | lift_lets
    | (intro x; refine Kept.cut (q := q) (n := n) (x := x) ?_ ?_; subst x; rotate_left; clear_value x; intro hx)
    | with_reducible apply State.setRails_kept
    | with_reducible apply State.modGate_kept
    | with_reducible apply State.set1_kept
    | with_reducible apply Kept.ite

end Sys2Proof.Machine
end

