-- ==== Sys2Proof/Laws/KeptPos.lean ====
section
/-! SUPPORT. What the operations of Machine/Pos.lean keep (`Kept`). -/
namespace Sys2Proof.Machine

theorem posClearCounters_kept {q n} {s : State} (h : Kept q n s) :
    Kept q n (posClearCounters s) := by
  unfold posClearCounters
  repeat' first
    | with_reducible assumption
    | intro x (hx : Kept q n x)
    | intro x y (hx : Kept q n x)
    | with_reducible apply State.zero_kept
    | with_reducible apply State.each_kept
    | with_reducible apply State.cmd_kept
    | with_reducible apply State.clr_kept

theorem State.setHall_kept {q n} {s : State} {a1} {a2} (h : Kept q n s) :
    Kept q n (State.setHall s a1 a2) := by
  unfold State.setHall
  repeat' first | with_reducible assumption | lift_lets | (intro x; clear_value x) | simp only [Kept.mk]

theorem State.modHall_kept {q n} {s : State} {a1} {a2} (h : Kept q n s) :
    Kept q n (State.modHall s a1 a2) := by
  unfold State.modHall
  repeat' first | with_reducible assumption | with_reducible apply State.setHall_kept

theorem State.hallFail_kept {q n} {s : State} {a1} (h : Kept q n s) :
    Kept q n (State.hallFail s a1) := by
  unfold State.hallFail
  repeat' first
    | with_reducible assumption
    | lift_lets
    | (intro x; refine Kept.cut (q := q) (n := n) (x := x) ?_ ?_; subst x; rotate_left; clear_value x; intro hx)
    | with_reducible apply State.modHall_kept
    | with_reducible apply State.raise_kept
    | with_reducible apply State.setF_kept
    | with_reducible apply State.set1_kept
    | with_reducible apply State.clr_kept
    | with_reducible apply Kept.ite

theorem State.driftCheck_kept {q n} {s : State} {a1} {a2} {a3} {a4} (h : Kept q n s) :
    Kept q n (State.driftCheck s a1 a2 a3 a4) := by
  unfold State.driftCheck
  repeat' first
    | with_reducible assumption
    | lift_lets
    | (intro x; refine Kept.cut (q := q) (n := n) (x := x) ?_ ?_; subst x; rotate_left; clear_value x; intro hx)
    | (intro x; clear_value x)
    | with_reducible apply State.raise_kept
    | with_reducible apply State.setF_kept
    | with_reducible apply State.set1_kept
    | with_reducible apply State.incF_kept
    | with_reducible apply State.inc_kept
    | with_reducible apply Kept.ite
    | with_reducible apply Kept.drawn

theorem State.setWe_kept {q n} {s : State} {a1} {a2} (h : Kept q n s) :
    Kept q n (State.setWe s a1 a2) := by
  unfold State.setWe
  repeat' first | with_reducible assumption | with_reducible apply State.modHall_kept | with_reducible apply State.setF_kept

theorem State.setWr_kept {q n} {s : State} {a1} {a2} (h : Kept q n s) :
    Kept q n (State.setWr s a1 a2) := by
  unfold State.setWr
  repeat' first
    | with_reducible assumption
    | lift_lets
    | (intro x; refine Kept.cut (q := q) (n := n) (x := x) ?_ ?_; subst x; rotate_left; clear_value x; intro hx)
    | (intro x; clear_value x)
    | with_reducible apply State.modHall_kept
    | with_reducible apply State.setF_kept
    | with_reducible apply State.wrN_kept
    | with_reducible apply Kept.ite

theorem State.hallOne_kept {q n} {s : State} {a1} {a2} {a3} (h : Kept q n s) :
    Kept q n (State.hallOne s a1 a2 a3) := by
  unfold State.hallOne
  repeat' first
    | with_reducible assumption
    | lift_lets
    | (intro x; refine Kept.cut (q := q) (n := n) (x := x) ?_ ?_; subst x; rotate_left; clear_value x; intro hx)
    | (intro x; clear_value x)
    | (intro x; subst x)
    | with_reducible apply State.setHall_kept
    | with_reducible apply State.setWe_kept
    | with_reducible apply State.setWr_kept
    | with_reducible apply State.setF_kept
    | with_reducible apply State.wrN_kept
    | with_reducible apply Kept.ite
    | split

theorem State.hallSkip_kept {q n} {s : State} {a1} {a2} (h : Kept q n s) :
    Kept q n (State.hallSkip s a1 a2) := by
  unfold State.hallSkip
  repeat' first
    | with_reducible assumption
    | lift_lets
    | (intro x; refine Kept.cut (q := q) (n := n) (x := x) ?_ ?_; subst x; rotate_left; clear_value x; intro hx)
    | with_reducible apply State.raiseMs_kept
    | with_reducible apply State.modHall_kept
    | with_reducible apply State.setWr_kept
    | with_reducible apply State.set1_kept
    | with_reducible apply State.inc_kept

theorem State.posPut_kept {q n} {s : State} {a1} {a2} (h : Kept q n s) :
    Kept q n (State.posPut s a1 a2) := by
  unfold State.posPut
  repeat' first
    | with_reducible assumption
    | with_reducible apply State.produce_kept
    | with_reducible apply State.modHall_kept
    | with_reducible apply Kept.drawn

theorem State.hallStepTo_kept {q n} {s : State} {a1} {a2} {a3} (h : Kept q n s) :
    Kept q n (State.hallStepTo s a1 a2 a3) := by
  unfold State.hallStepTo
  repeat' first
    | with_reducible assumption
    | lift_lets
    | (intro x; refine Kept.cut (q := q) (n := n) (x := x) ?_ ?_; subst x; rotate_left; clear_value x; intro hx)
    | (intro x; clear_value x)
    | (intro x; subst x)
    | with_reducible apply State.hallSkip_kept
    | with_reducible apply State.hallOne_kept
    | with_reducible apply State.modHall_kept
    | with_reducible apply State.posPut_kept
    | with_reducible apply State.setB_kept
    | with_reducible apply State.wrN_kept
    | with_reducible apply State.wrI_kept
    | with_reducible apply State.clr_kept
    | with_reducible apply Kept.ite

theorem hallLevelAccepted_kept {q n} {s : State} {a1} {a2} {a3} (h : Kept q n s) :
    Kept q n (hallLevelAccepted s a1 a2 a3) := by
  unfold hallLevelAccepted
  repeat' first
    | with_reducible assumption
    | lift_lets
    | (intro x; refine Kept.cut (q := q) (n := n) (x := x) ?_ ?_; subst x; rotate_left; clear_value x; intro hx)
    | (intro x; clear_value x)
    | with_reducible apply State.hallStepTo_kept
    | with_reducible apply State.modHall_kept
    | with_reducible apply State.setF_kept
    | with_reducible apply Kept.ite

theorem State.hallFirst_kept {q n} {s : State} {a1} {a2} (h : Kept q n s) :
    Kept q n (State.hallFirst s a1 a2) := by
  unfold State.hallFirst
  repeat' first | with_reducible assumption | with_reducible apply Machine.hallLevelAccepted_kept | split

theorem State.hallTrack_kept {q n} {s : State} {a1} {a2} (h : Kept q n s) :
    Kept q n (State.hallTrack s a1 a2) := by
  unfold State.hallTrack
  repeat' first
    | with_reducible assumption
    | lift_lets
    | (intro x; refine Kept.cut (q := q) (n := n) (x := x) ?_ ?_; subst x; rotate_left; clear_value x; intro hx)
    | with_reducible apply State.raiseMs_kept
    | with_reducible apply State.modHall_kept
    | with_reducible apply State.setF_kept
    | with_reducible apply State.set1_kept
    | with_reducible apply State.inc_kept
    | with_reducible apply State.clr_kept
    | with_reducible apply Kept.ite

theorem State.hptFollow_kept {q n} {s : State} (h : Kept q n s) :
    Kept q n (State.hptFollow s) := by
  unfold State.hptFollow
  repeat' first | with_reducible assumption | intro x y (hx : Kept q n x) | lift_lets | with_reducible apply State.each_kept | simp only [Kept.mk]

theorem State.idxSync_kept {q n} {s : State} {a1} (h : Kept q n s) :
    Kept q n (State.idxSync s a1) := by
  unfold State.idxSync
  repeat' first | with_reducible assumption | intro x y (hx : Kept q n x) | lift_lets | with_reducible apply State.each_kept | simp only [Kept.mk]

theorem State.indexLatch_kept {q n} {s : State} {a1} {a2} (h : Kept q n s) :
    Kept q n (State.indexLatch s a1 a2) := by
  unfold State.indexLatch
  repeat' first
    | with_reducible assumption
    | lift_lets
    | (intro x; refine Kept.cut (q := q) (n := n) (x := x) ?_ ?_; subst x; rotate_left; clear_value x; intro hx)
    | (intro x; clear_value x)
    | with_reducible apply State.driftCheck_kept
    | with_reducible apply State.modHall_kept
    | with_reducible apply State.wrN_kept
    | with_reducible apply State.wr_kept
    | with_reducible apply Kept.ite
    | simp only [Kept.mk]

theorem State.probeCapture_kept {q n} {s : State} {a1} {a2} (h : Kept q n s) :
    Kept q n (State.probeCapture s a1 a2) := by
  unfold State.probeCapture
  repeat' first
    | with_reducible assumption
    | lift_lets
    | (intro x; refine Kept.cut (q := q) (n := n) (x := x) ?_ ?_; subst x; rotate_left; clear_value x; intro hx)
    | (intro x; clear_value x)
    | with_reducible apply State.setF_kept
    | with_reducible apply State.emit_kept
    | with_reducible apply State.wrN_kept
    | with_reducible apply Kept.ite
    | with_reducible apply Kept.drawn

theorem State.rejectLevels_kept {q n} {s : State} {a1} {a2} {a3} (h : Kept q n s) :
    Kept q n (State.rejectLevels s a1 a2 a3) := by
  unfold State.rejectLevels
  repeat' first
    | with_reducible assumption
    | lift_lets
    | (intro x; refine Kept.cut (q := q) (n := n) (x := x) ?_ ?_; subst x; rotate_left; clear_value x; intro hx)
    | (intro x; clear_value x)
    | with_reducible apply State.setHall_kept
    | with_reducible apply State.incBy_kept
    | with_reducible apply State.raise_kept
    | with_reducible apply State.set1_kept
    | with_reducible apply Kept.ite

theorem hallSyncChange_kept {q n} {s : State} {a1} {a2} {a3} {a4} (h : Kept q n s) :
    Kept q n (hallSyncChange s a1 a2 a3 a4) := by
  unfold hallSyncChange
  repeat' first
    | with_reducible assumption
    | lift_lets
    | (intro x; refine Kept.cut (q := q) (n := n) (x := x) ?_ ?_; subst x; rotate_left; clear_value x; intro hx)
    | (intro x; clear_value x)
    | with_reducible apply State.rejectLevels_kept
    | with_reducible apply State.hallTrack_kept
    | with_reducible apply State.hptFollow_kept
    | with_reducible apply State.idxSync_kept
    | with_reducible apply State.setF_kept
    | with_reducible apply Kept.ite

theorem hptSelect_kept {q n} {s : State} {a1} {a2} (h : Kept q n s) :
    Kept q n (hptSelect s a1 a2) := by
  unfold hptSelect
  repeat' first
    | with_reducible assumption
    | lift_lets
    | (intro x; refine Kept.cut (q := q) (n := n) (x := x) ?_ ?_; subst x; rotate_left; clear_value x; intro hx)
    | with_reducible apply State.hptFollow_kept
    | with_reducible apply State.consume_kept
    | with_reducible apply State.setF_kept
    | with_reducible apply Kept.ite

theorem indexEdgeAccepted_kept {q n} {s : State} {a1} {a2} {a3} {a4} {a5} (h : Kept q n s) :
    Kept q n (indexEdgeAccepted s a1 a2 a3 a4 a5) := by
  unfold indexEdgeAccepted
  repeat' first
    | with_reducible assumption
    | lift_lets
    | (intro x; refine Kept.cut (q := q) (n := n) (x := x) ?_ ?_; subst x; rotate_left; clear_value x; intro hx)
    | (intro x; clear_value x)
    | with_reducible apply State.rejectLevels_kept
    | with_reducible apply State.indexLatch_kept
    | with_reducible apply State.hallFirst_kept
    | with_reducible apply State.hptFollow_kept
    | with_reducible apply Kept.ite
    | simp only [Kept.mk]

theorem probeEdgeAccepted_kept {q n} {s : State} {a1} {a2} {a3} {a4} {a5} (h : Kept q n s) :
    Kept q n (probeEdgeAccepted s a1 a2 a3 a4 a5) := by
  unfold probeEdgeAccepted
  repeat' first
    | with_reducible assumption
    | lift_lets
    | (intro x; refine Kept.cut (q := q) (n := n) (x := x) ?_ ?_; subst x; rotate_left; clear_value x; intro hx)
    | (intro x; clear_value x)
    | with_reducible apply State.rejectLevels_kept
    | with_reducible apply State.probeCapture_kept
    | with_reducible apply State.hallFirst_kept
    | with_reducible apply Kept.ite
    | simp only [Kept.mk]

theorem snapshot_kept {q n} {s : State} {a1} {a2} (h : Kept q n s) :
    Kept q n (snapshot s a1 a2) := by
  unfold snapshot
  repeat' first
    | with_reducible assumption
    | lift_lets
    | (intro x; refine Kept.cut (q := q) (n := n) (x := x) ?_ ?_; subst x; rotate_left; clear_value x; intro hx)
    | (intro x; clear_value x)
    | (intro x; subst x)
    | with_reducible apply State.consume_kept
    | with_reducible apply State.posPut_kept
    | with_reducible apply State.set1_kept
    | with_reducible apply Kept.ite

end Sys2Proof.Machine
end

