-- ==== Sys2Proof/Laws/KeptBnd.lean ====
section
/-! SUPPORT. What the operations of Machine/Bnd.lean keep (`Kept`). -/
namespace Sys2Proof.Machine

theorem State.setBnd_kept {q n} {s : State} {a1} {a2} (h : Kept q n s) :
    Kept q n (State.setBnd s a1 a2) := by
  unfold State.setBnd
  repeat' first | with_reducible assumption | lift_lets | (intro x; clear_value x) | simp only [Kept.mk]

theorem State.modBnd_kept {q n} {s : State} {a1} {a2} (h : Kept q n s) :
    Kept q n (State.modBnd s a1 a2) := by
  unfold State.modBnd
  repeat' first | with_reducible assumption | with_reducible apply State.setBnd_kept

theorem State.sendLeg_kept {q n} {s : State} {a1} {a2} {a3} (h : Kept q n s) :
    Kept q n (State.sendLeg s a1 a2 a3) := by
  unfold State.sendLeg
  repeat' first | with_reducible assumption | lift_lets | (intro x; clear_value x) | with_reducible apply State.emit_kept

theorem State.legsOff_kept {q n} {s : State} {a1} (h : Kept q n s) :
    Kept q n (State.legsOff s a1) := by
  unfold State.legsOff
  repeat' first
    | with_reducible assumption
    | intro x y (hx : Kept q n x)
    | lift_lets
    | (intro x; refine Kept.cut (q := q) (n := n) (x := x) ?_ ?_; subst x; rotate_left; clear_value x; intro hx)
    | with_reducible apply State.sendLeg_kept
    | with_reducible apply State.forEach_kept
    | with_reducible apply State.modBnd_kept

theorem State.lrEnd_kept {q n} {s : State} {a1} {a2} {a3} (h : Kept q n s) :
    Kept q n (State.lrEnd s a1 a2 a3) := by
  unfold State.lrEnd
  repeat' first
    | with_reducible assumption
    | lift_lets
    | (intro x; refine Kept.cut (q := q) (n := n) (x := x) ?_ ?_; subst x; rotate_left; clear_value x; intro hx)
    | (intro x; refine Kept.cut (q := q) (n := n) (x := x.1) ?_ ?_; subst x; rotate_left; clear_value x; intro hx)
    | (intro x; clear_value x)
    | with_reducible apply State.modBnd_kept
    | with_reducible apply State.raiseD_kept
    | with_reducible apply State.raise_kept
    | with_reducible apply State.setB_kept
    | with_reducible apply State.draw_kept
    | with_reducible apply State.setF_kept
    | with_reducible apply State.set1_kept
    | with_reducible apply State.emit_kept
    | with_reducible apply State.wrN_kept
    | with_reducible apply State.inc_kept
    | with_reducible apply Kept.ite
    | split

theorem State.bFault_kept {q n} {s : State} {a1} {a2} {a3} (h : Kept q n s) :
    Kept q n (State.bFault s a1 a2 a3) := by
  unfold State.bFault
  repeat' first
    | with_reducible assumption
    | with_reducible apply State.requestSs1_kept
    | with_reducible apply State.raiseStop_kept
    | with_reducible apply State.legsOff_kept
    | with_reducible apply State.bndHalt_kept
    | with_reducible apply State.lrEnd_kept
    | with_reducible apply Kept.ite

theorem State.angleLost_kept {q n} {s : State} {a1} (h : Kept q n s) :
    Kept q n (State.angleLost s a1) := by
  unfold State.angleLost
  repeat' first
    | with_reducible assumption
    | with_reducible apply State.modBnd_kept
    | with_reducible apply State.bFault_kept
    | with_reducible apply Kept.ite

theorem State.minpAct_kept {q n} {s : State} {a1} (h : Kept q n s) :
    Kept q n (State.minpAct s a1) := by
  unfold State.minpAct
  repeat' first | with_reducible assumption | with_reducible apply State.set1_kept | with_reducible apply State.inc_kept

theorem State.periodEdges_kept {q n} {s : State} {a1} {a2} {a3} {a4} {a5} (h : Kept q n s) :
    Kept q n (State.periodEdges s a1 a2 a3 a4 a5) := by
  unfold State.periodEdges
  repeat' first
    | with_reducible assumption
    | intro x y (hx : Kept q n x)
    | lift_lets
    | (intro x; refine Kept.cut (q := q) (n := n) (x := x) ?_ ?_; subst x; rotate_left; clear_value x; intro hx)
    | (intro x; clear_value x)
    | with_reducible apply State.forEach_kept
    | with_reducible apply State.minpAct_kept
    | with_reducible apply State.modBnd_kept
    | with_reducible apply Kept.ite

theorem State.applyVolt_kept {q n} {s : State} {a1} {a2} {a3} {a4} {a5} (h : Kept q n s) :
    Kept q n (State.applyVolt s a1 a2 a3 a4 a5) := by
  unfold State.applyVolt
  repeat' first
    | with_reducible assumption
    | lift_lets
    | (intro x; clear_value x)
    | with_reducible apply State.periodEdges_kept
    | with_reducible apply Kept.ite

theorem State.setBst_kept {q n} {s : State} {a1} {a2} (h : Kept q n s) :
    Kept q n (State.setBst s a1 a2) := by
  unfold State.setBst
  repeat' first | with_reducible assumption | with_reducible apply State.setF_kept

theorem State.bDisable_kept {q n} {s : State} {a1} (h : Kept q n s) :
    Kept q n (State.bDisable s a1) := by
  unfold State.bDisable
  repeat' first
    | with_reducible assumption
    | with_reducible apply State.legsOff_kept
    | with_reducible apply State.setBst_kept
    | with_reducible apply State.lrEnd_kept

theorem State.bEnable_kept {q n} {s : State} {a1} {a2} (h : Kept q n s) :
    Kept q n (State.bEnable s a1 a2) := by
  unfold State.bEnable
  repeat' first
    | with_reducible assumption
    | lift_lets
    | (intro x; clear_value x)
    | with_reducible apply State.bDisable_kept
    | with_reducible apply State.setBst_kept
    | with_reducible apply State.modBnd_kept
    | with_reducible apply State.setF_kept
    | with_reducible apply Kept.ite

theorem State.bSetMode_kept {q n} {s : State} {a1} {a2} (h : Kept q n s) :
    Kept q n (State.bSetMode s a1 a2) := by
  unfold State.bSetMode
  repeat' first
    | with_reducible assumption
    | lift_lets
    | (intro x; refine Kept.cut (q := q) (n := n) (x := x) ?_ ?_; subst x; rotate_left; clear_value x; intro hx)
    | (intro x; clear_value x)
    | with_reducible apply State.setBst_kept
    | with_reducible apply State.modBnd_kept
    | with_reducible apply State.setF_kept
    | with_reducible apply Kept.ite

theorem State.lrOpen_kept {q n} {s : State} {a1} {a2} {a3} {a4} {a5} {a6} (h : Kept q n s) :
    Kept q n (State.lrOpen s a1 a2 a3 a4 a5 a6) := by
  unfold State.lrOpen
  repeat' first
    | with_reducible assumption
    | lift_lets
    | (intro x; refine Kept.cut (q := q) (n := n) (x := x) ?_ ?_; subst x; rotate_left; clear_value x; intro hx)
    | (intro x; clear_value x)
    | with_reducible apply State.modBnd_kept
    | with_reducible apply State.lrEnd_kept
    | with_reducible apply State.inc_kept
    | with_reducible apply Kept.ite

theorem State.bAct_kept {q n} {s : State} {a1} {a2} (h : Kept q n s) :
    Kept q n (State.bAct s a1 a2) := by
  unfold State.bAct
  repeat' first
    | with_reducible assumption
    | lift_lets
    | (intro x; clear_value x)
    | with_reducible apply State.bSetMode_kept
    | with_reducible apply State.bEnable_kept
    | with_reducible apply State.modBnd_kept
    | with_reducible apply State.lrOpen_kept
    | with_reducible apply State.lrEnd_kept
    | with_reducible apply State.setF_kept
    | with_reducible apply State.wrN_kept
    | with_reducible apply State.clr_kept
    | split

theorem State.bActs_kept {q n} {s : State} {a1} (h : Kept q n s) :
    Kept q n (State.bActs s a1) := by
  unfold State.bActs
  repeat' first
    | with_reducible assumption
    | intro x y (hx : Kept q n x)
    | lift_lets
    | (intro x; clear_value x)
    | with_reducible apply State.forEach_kept
    | with_reducible apply State.modBnd_kept
    | with_reducible apply State.bAct_kept

theorem State.bShow_kept {q n} {s : State} {a1} (h : Kept q n s) :
    Kept q n (State.bShow s a1) := by
  unfold State.bShow
  repeat' first
    | with_reducible assumption
    | lift_lets
    | (intro x; refine Kept.cut (q := q) (n := n) (x := x) ?_ ?_; subst x; rotate_left; clear_value x; intro hx)
    | (intro x; clear_value x)
    | with_reducible apply State.setB_kept
    | with_reducible apply State.wrN_kept

theorem State.bStanding_kept {q n} {s : State} {a1} (h : Kept q n s) :
    Kept q n (State.bStanding s a1) := by
  unfold State.bStanding
  repeat' first
    | with_reducible assumption
    | lift_lets
    | (intro x; refine Kept.cut (q := q) (n := n) (x := x) ?_ ?_; subst x; rotate_left; clear_value x; intro hx)
    | with_reducible apply State.modBnd_kept
    | with_reducible apply State.bFault_kept
    | with_reducible apply Kept.ite

theorem State.noteRefused_kept {q n} {s : State} {a1} {a2} (h : Kept q n s) :
    Kept q n (State.noteRefused s a1 a2) := by
  unfold State.noteRefused
  repeat' first
    | with_reducible assumption
    | intro x y (hx : Kept q n x)
    | lift_lets
    | (intro x; refine Kept.cut (q := q) (n := n) (x := x) ?_ ?_; subst x; rotate_left; clear_value x; intro hx)
    | (intro x; clear_value x)
    | with_reducible apply State.forEach_kept
    | with_reducible apply State.minpAct_kept
    | with_reducible apply State.modBnd_kept
    | with_reducible apply Kept.ite

theorem State.choose_kept {q n} {s : State} {a1} {a2} (h : Kept q n s) :
    Kept q n (State.choose s a1 a2).1 := by
  unfold State.choose
  repeat' first
    | with_reducible assumption
    | lift_lets
    | (intro x; refine Kept.cut (q := q) (n := n) (x := x) ?_ ?_; subst x; rotate_left; clear_value x; intro hx)
    | (intro x; clear_value x)
    | with_reducible apply State.noteRefused_kept
    | with_reducible apply State.set1_kept
    | with_reducible apply State.inc_kept
    | split

theorem State.sendLevel_kept {q n} {s : State} {a1} {a2} {a3} {a4} (h : Kept q n s) :
    Kept q n (State.sendLevel s a1 a2 a3 a4) := by
  unfold State.sendLevel
  repeat' first
    | with_reducible assumption
    | lift_lets
    | (intro x; refine Kept.cut (q := q) (n := n) (x := x) ?_ ?_; subst x; rotate_left; clear_value x; intro hx)
    | with_reducible apply State.sendLeg_kept
    | with_reducible apply State.modBnd_kept
    | split

theorem State.sendCode_kept {q n} {s : State} {a1} {a2} (h : Kept q n s) :
    Kept q n (State.sendCode s a1 a2) := by
  unfold State.sendCode
  repeat' first
    | with_reducible assumption
    | intro x y (hx : Kept q n x)
    | lift_lets
    | (intro x; refine Kept.cut (q := q) (n := n) (x := x) ?_ ?_; subst x; rotate_left; clear_value x; intro hx)
    | (intro x; clear_value x)
    | with_reducible apply State.sendLevel_kept
    | with_reducible apply State.forEach_kept
    | with_reducible apply State.modBnd_kept
    | with_reducible apply Kept.ite

theorem State.shadows_kept {q n} {s : State} {a1} (h : Kept q n s) :
    Kept q n (State.shadows s a1) := by
  unfold State.shadows
  repeat' first
    | with_reducible assumption
    | intro x y (hx : Kept q n x)
    | lift_lets
    | (intro x; refine Kept.cut (q := q) (n := n) (x := x) ?_ ?_; subst x; rotate_left; clear_value x; intro hx)
    | (intro x; clear_value x)
    | with_reducible apply State.sendLeg_kept
    | with_reducible apply State.forEach_kept
    | with_reducible apply State.modBnd_kept
    | split

theorem State.bandDecide_kept {q n} {s : State} {a1} {a2} {a3} {a4} (h : Kept q n s) :
    Kept q n (State.bandDecide s a1 a2 a3 a4) := by
  unfold State.bandDecide
  repeat' first
    | with_reducible assumption
    | lift_lets
    | (intro x; refine Kept.cut (q := q) (n := n) (x := x) ?_ ?_; subst x; rotate_left; clear_value x; intro hx)
    | (intro x; refine Kept.cut (q := q) (n := n) (x := x.1) ?_ ?_; subst x; rotate_left; clear_value x; intro hx)
    | with_reducible apply State.sendCode_kept
    | with_reducible apply State.shadows_kept
    | with_reducible apply State.modBnd_kept
    | with_reducible apply State.choose_kept
    | with_reducible apply Kept.ite
    | split

theorem State.fwUpdate_kept {q n} {s : State} {a1} {a2} (h : Kept q n s) :
    Kept q n (State.fwUpdate s a1 a2) := by
  unfold State.fwUpdate
  repeat' first
    | with_reducible assumption
    | lift_lets
    | (intro x; refine Kept.cut (q := q) (n := n) (x := x) ?_ ?_; subst x; rotate_left; clear_value x; intro hx)
    | (intro x; clear_value x)
    | with_reducible apply State.setB_kept
    | with_reducible apply State.wrN_kept
    | with_reducible apply Kept.ite

theorem State.noteVsat_kept {q n} {s : State} {a1} {a2} (h : Kept q n s) :
    Kept q n (State.noteVsat s a1 a2) := by
  unfold State.noteVsat
  repeat' first
    | with_reducible assumption
    | lift_lets
    | (intro x; refine Kept.cut (q := q) (n := n) (x := x) ?_ ?_; subst x; rotate_left; clear_value x; intro hx)
    | with_reducible apply State.raiseSec_kept
    | with_reducible apply State.setB_kept
    | with_reducible apply State.set1_kept
    | with_reducible apply Kept.ite

theorem State.piLaw_kept {q n} {s : State} {a1} {a2} (h : Kept q n s) :
    Kept q n (State.piLaw s a1 a2).1 := by
  unfold State.piLaw
  repeat' first
    | with_reducible assumption
    | lift_lets
    | (intro x; refine Kept.cut (q := q) (n := n) (x := x) ?_ ?_; subst x; rotate_left; clear_value x; intro hx)
    | (intro x; clear_value x)
    | with_reducible apply State.noteVsat_kept
    | with_reducible apply State.fwUpdate_kept
    | with_reducible apply State.setBnd_kept
    | with_reducible apply State.wrN_kept
    | with_reducible apply Kept.ite

theorem State.carrierSample_kept {q n} {s : State} {a1} {a2} {a3} {a4} (h : Kept q n s) :
    Kept q n (State.carrierSample s a1 a2 a3 a4) := by
  unfold State.carrierSample
  repeat' first
    | with_reducible assumption
    | lift_lets
    | (intro x; refine Kept.cut (q := q) (n := n) (x := x.1) ?_ ?_; subst x; rotate_left; clear_value x; intro hx)
    | (intro x; clear_value x)
    | with_reducible apply State.applyVolt_kept
    | with_reducible apply State.piLaw_kept

theorem State.preset_kept {q n} {s : State} {a1} {a2} {a3} (h : Kept q n s) :
    Kept q n (State.preset s a1 a2 a3) := by
  unfold State.preset
  repeat' first
    | with_reducible assumption
    | lift_lets
    | (intro x; refine Kept.cut (q := q) (n := n) (x := x) ?_ ?_; subst x; rotate_left; clear_value x; intro hx)
    | (intro x; clear_value x)
    | with_reducible apply State.applyVolt_kept
    | with_reducible apply State.modBnd_kept
    | with_reducible apply Kept.ite

theorem State.bndInstant_kept {q n} {s : State} {a1} {a2} {a3} {a4} (h : Kept q n s) :
    Kept q n (State.bndInstant s a1 a2 a3 a4) := by
  unfold State.bndInstant
  repeat' first
    | with_reducible assumption
    | lift_lets
    | (intro x; refine Kept.cut (q := q) (n := n) (x := x) ?_ ?_; subst x; rotate_left; clear_value x; intro hx)
    | with_reducible apply State.carrierSample_kept
    | with_reducible apply State.setBst_kept
    | with_reducible apply State.preset_kept
    | with_reducible apply State.modBnd_kept
    | with_reducible apply Kept.ite

theorem State.bndRecord_kept {q n} {s : State} {a1} {a2} {a3} {a4} (h : Kept q n s) :
    Kept q n (State.bndRecord s a1 a2 a3 a4) := by
  unfold State.bndRecord
  repeat' first
    | with_reducible assumption
    | lift_lets
    | (intro x; refine Kept.cut (q := q) (n := n) (x := x) ?_ ?_; subst x; rotate_left; clear_value x; intro hx)
    | (intro x; clear_value x)
    | with_reducible apply State.consume_kept
    | with_reducible apply State.modBnd_kept
    | with_reducible apply Kept.ite

theorem bndClearCounters_kept {q n} {s : State} {a1} (h : Kept q n s) :
    Kept q n (bndClearCounters s a1) := by
  unfold bndClearCounters
  repeat' first | with_reducible assumption | intro x (hx : Kept q n x) | with_reducible apply State.zero_kept | with_reducible apply State.cmd_kept

theorem State.hallLost_kept {q n} {s : State} {a1} (h : Kept q n s) :
    Kept q n (State.hallLost s a1) := by
  unfold State.hallLost
  repeat' first
    | with_reducible assumption
    | intro x y (hx : Kept q n x)
    | with_reducible apply State.angleLost_kept
    | with_reducible apply State.hallFail_kept
    | with_reducible apply State.each_kept
    | with_reducible apply Kept.ite

theorem State.legZeros_kept {q n} {s : State} {a1} {a2} {a3} (h : Kept q n s) :
    Kept q n (State.legZeros s a1 a2 a3) := by
  unfold State.legZeros
  repeat' first
    | with_reducible assumption
    | intro x y (hx : Kept q n x)
    | with_reducible apply State.modLeg_kept
    | with_reducible apply State.each_kept
    | with_reducible apply Kept.ite

theorem State.lrTick_kept {q n} {s : State} {a1} {a2} (h : Kept q n s) :
    Kept q n (State.lrTick s a1 a2) := by
  unfold State.lrTick
  repeat' first
    | with_reducible assumption
    | lift_lets
    | (intro x; refine Kept.cut (q := q) (n := n) (x := x) ?_ ?_; subst x; rotate_left; clear_value x; intro hx)
    | (intro x; clear_value x)
    | with_reducible apply State.modBnd_kept
    | with_reducible apply State.lrEnd_kept
    | with_reducible apply Kept.ite
    | split

theorem State.noteResidual_kept {q n} {s : State} {a1} {a2} {a3} (h : Kept q n s) :
    Kept q n (State.noteResidual s a1 a2 a3) := by
  unfold State.noteResidual
  repeat' first
    | with_reducible assumption
    | lift_lets
    | (intro x; clear_value x)
    | with_reducible apply State.modBnd_kept
    | with_reducible apply Kept.ite

theorem State.override_kept {q n} {s : State} {a1} {a2} {a3} (h : Kept q n s) :
    Kept q n (State.override s a1 a2 a3) := by
  unfold State.override
  repeat' first
    | with_reducible assumption
    | lift_lets
    | (intro x; refine Kept.cut (q := q) (n := n) (x := x) ?_ ?_; subst x; rotate_left; clear_value x; intro hx)
    | (intro x; clear_value x)
    | with_reducible apply State.bandDecide_kept
    | with_reducible apply State.setBst_kept
    | with_reducible apply State.setBnd_kept
    | with_reducible apply State.raise_kept
    | with_reducible apply State.set1_kept
    | with_reducible apply State.inc_kept
    | with_reducible apply Kept.ite

theorem State.windowBit_kept {q n} {s : State} {a1} {a2} {a3} (h : Kept q n s) :
    Kept q n (State.windowBit s a1 a2 a3) := by
  unfold State.windowBit
  repeat' first
    | with_reducible assumption
    | lift_lets
    | (intro x; refine Kept.cut (q := q) (n := n) (x := x) ?_ ?_; subst x; rotate_left; clear_value x; intro hx)
    | (intro x; clear_value x)
    | with_reducible apply State.fastBit_kept
    | simp only [Kept.mk]

theorem angleTimeout_kept {q n} {s : State} {a1} (h : Kept q n s) :
    Kept q n (angleTimeout s a1) := by
  unfold angleTimeout
  repeat' first | with_reducible assumption | with_reducible apply State.angleLost_kept | with_reducible apply Kept.ite

theorem bandAdapt_kept {q n} {s : State} {a1} (h : Kept q n s) :
    Kept q n (bandAdapt s a1) := by
  unfold bandAdapt
  repeat' first
    | with_reducible assumption
    | lift_lets
    | (intro x; refine Kept.cut (q := q) (n := n) (x := x) ?_ ?_; subst x; rotate_left; clear_value x; intro hx)
    | (intro x; clear_value x)
    | with_reducible apply State.modBnd_kept
    | with_reducible apply State.wrN_kept
    | with_reducible apply Kept.ite

theorem bndCheckError_kept {q n} {s : State} {a1} (h : Kept q n s) :
    Kept q n (bndCheckError s a1) := by
  unfold bndCheckError
  repeat' first | with_reducible assumption | with_reducible apply State.giveOrSs1_kept

theorem bndEnable_kept {q n} {s : State} {a1} {a2} (h : Kept q n s) :
    Kept q n (bndEnable s a1 a2) := by
  unfold bndEnable
  repeat' first | with_reducible assumption | with_reducible apply State.bndRecord_kept

theorem bndSetLimit_kept {q n} {s : State} {a1} {a2} (h : Kept q n s) :
    Kept q n (bndSetLimit s a1 a2) := by
  unfold bndSetLimit
  repeat' first | with_reducible assumption | with_reducible apply State.bndRecord_kept

theorem bndSetMode_kept {q n} {s : State} {a1} {a2} (h : Kept q n s) :
    Kept q n (bndSetMode s a1 a2) := by
  unfold bndSetMode
  repeat' first | with_reducible assumption | with_reducible apply State.bndRecord_kept

theorem bndSwapBank_kept {q n} {s : State} {a1} {a2} (h : Kept q n s) :
    Kept q n (bndSwapBank s a1 a2) := by
  unfold bndSwapBank
  repeat' first | with_reducible assumption | with_reducible apply State.bndRecord_kept

theorem carrierInstant_kept {q n} {s : State} {a1} {a2} (h : Kept q n s) :
    Kept q n (carrierInstant s a1 a2) := by
  unfold carrierInstant
  repeat' first
    | with_reducible assumption
    | intro x y (hx : Kept q n x)
    | lift_lets
    | (intro x; clear_value x)
    | with_reducible apply State.carrierPass_kept
    | with_reducible apply State.bndInstant_kept
    | with_reducible apply State.legZeros_kept
    | with_reducible apply State.forEach_kept
    | with_reducible apply Kept.ite

theorem carrierLoss_kept {q n} {s : State} {a1} (h : Kept q n s) :
    Kept q n (carrierLoss s a1) := by
  unfold carrierLoss
  repeat' first
    | with_reducible assumption
    | with_reducible apply State.modBnd_kept
    | with_reducible apply State.bFault_kept
    | with_reducible apply Kept.ite

theorem edgeRecordIssue_kept {q n} {s : State} {a1} (h : Kept q n s) :
    Kept q n (edgeRecordIssue s a1) := by
  unfold edgeRecordIssue
  repeat' first
    | with_reducible assumption
    | lift_lets
    | (intro x; refine Kept.cut (q := q) (n := n) (x := x) ?_ ?_; subst x; rotate_left; clear_value x; intro hx)
    | (intro x; subst x)
    | with_reducible apply State.sendLevel_kept
    | with_reducible apply State.modBnd_kept
    | with_reducible apply Kept.ite
    | split

theorem fieldWeakeningUpdate_kept {q n} {s : State} {a1} (h : Kept q n s) :
    Kept q n (fieldWeakeningUpdate s a1) := by
  unfold fieldWeakeningUpdate
  repeat' first | with_reducible assumption | with_reducible apply State.fwUpdate_kept | with_reducible apply Kept.ite

theorem hallImpossibleTimeout_kept {q n} {s : State} {a1} (h : Kept q n s) :
    Kept q n (hallImpossibleTimeout s a1) := by
  unfold hallImpossibleTimeout
  repeat' first | with_reducible assumption | with_reducible apply State.hallLost_kept | with_reducible apply Kept.ite

theorem lrStepTimeout_kept {q n} {s : State} {a1} (h : Kept q n s) :
    Kept q n (lrStepTimeout s a1) := by
  unfold lrStepTimeout
  repeat' first | with_reducible assumption | with_reducible apply State.lrEnd_kept

theorem npLimitTimeout_kept {q n} {s : State} {a1} (h : Kept q n s) :
    Kept q n (npLimitTimeout s a1) := by
  unfold npLimitTimeout
  repeat' first
    | with_reducible assumption
    | lift_lets
    | (intro x; refine Kept.cut (q := q) (n := n) (x := x) ?_ ?_; subst x; rotate_left; clear_value x; intro hx)
    | with_reducible apply State.modBnd_kept
    | with_reducible apply State.bFault_kept
    | with_reducible apply State.raise_kept
    | with_reducible apply Kept.ite

theorem regulatorTick_kept {q n} {s : State} {a1} (h : Kept q n s) :
    Kept q n (regulatorTick s a1) := by
  unfold regulatorTick
  repeat' first
    | with_reducible assumption
    | lift_lets
    | (intro x; refine Kept.cut (q := q) (n := n) (x := x) ?_ ?_; subst x; rotate_left; clear_value x; intro hx)
    | (intro x; clear_value x)
    | with_reducible apply State.bandDecide_kept
    | with_reducible apply State.bStanding_kept
    | with_reducible apply State.override_kept
    | with_reducible apply State.setBst_kept
    | with_reducible apply State.modBnd_kept
    | with_reducible apply State.lrTick_kept
    | with_reducible apply State.bShow_kept
    | with_reducible apply State.bActs_kept
    | with_reducible apply Kept.ite

theorem residualWindow_kept {q n} {s : State} {a1} (h : Kept q n s) :
    Kept q n (residualWindow s a1) := by
  unfold residualWindow
  repeat' first
    | with_reducible assumption
    | lift_lets
    | (intro x; refine Kept.cut (q := q) (n := n) (x := x) ?_ ?_; subst x; rotate_left; clear_value x; intro hx)
    | (intro x; clear_value x)
    | with_reducible apply State.raiseSec_kept
    | with_reducible apply State.setBnd_kept
    | with_reducible apply State.set1_kept
    | with_reducible apply State.wrN_kept
    | with_reducible apply Kept.ite

theorem setAngle_kept {q n} {s : State} {a1} {a2} (h : Kept q n s) :
    Kept q n (setAngle s a1 a2) := by
  unfold setAngle
  repeat' first | with_reducible assumption | with_reducible apply State.bndRecord_kept

theorem setCurrent_kept {q n} {s : State} {a1} {a2} (h : Kept q n s) :
    Kept q n (setCurrent s a1 a2) := by
  unfold setCurrent
  repeat' first | with_reducible assumption | with_reducible apply State.bndRecord_kept

theorem setTmag_kept {q n} {s : State} {a1} {a2} (h : Kept q n s) :
    Kept q n (setTmag s a1 a2) := by
  unfold setTmag
  repeat' first | with_reducible assumption | with_reducible apply State.bndRecord_kept

theorem tmagTimeout_kept {q n} {s : State} {a1} (h : Kept q n s) :
    Kept q n (tmagTimeout s a1) := by
  unfold tmagTimeout
  repeat' first
    | with_reducible assumption
    | with_reducible apply State.raise_kept
    | with_reducible apply State.set1_kept
    | with_reducible apply Kept.ite

theorem vdcTimeout_kept {q n} {s : State} {a1} (h : Kept q n s) :
    Kept q n (vdcTimeout s a1) := by
  unfold vdcTimeout
  repeat' first
    | with_reducible assumption
    | lift_lets
    | (intro x; clear_value x)
    | with_reducible apply State.modBnd_kept
    | with_reducible apply State.bFault_kept
    | with_reducible apply Kept.ite

theorem windowOut_kept {q n} {s : State} {a1} {a2} (h : Kept q n s) :
    Kept q n (windowOut s a1 a2) := by
  unfold windowOut
  repeat' first
    | with_reducible assumption
    | intro x y (hx : Kept q n x)
    | with_reducible apply State.windowBit_kept
    | with_reducible apply State.forEach_kept
    | with_reducible apply Kept.ite

end Sys2Proof.Machine
end

