-- ==== Sys2Proof/Laws/KeptFpIssue.lean ====
section
/-! SUPPORT. What the operations of Machine/FpIssue.lean keep (`Kept`). -/
namespace Sys2Proof.Machine

theorem State.fpHalt_kept {q n} {s : State} {a1} {a2} (h : Kept q n s) :
    Kept q n (State.fpHalt s a1 a2) := by
  unfold State.fpHalt
  repeat' first
    | with_reducible assumption
    | lift_lets
    | (intro x; refine Kept.cut (q := q) (n := n) (x := x) ?_ ?_; subst x; rotate_left; clear_value x; intro hx)
    | (intro x; clear_value x)
    | with_reducible apply State.modCore_kept
    | with_reducible apply State.raiseD_kept
    | with_reducible apply State.setF_kept
    | with_reducible apply State.set1_kept
    | simp only [Kept.mk]

theorem State.fpDoCall_kept {q n} {s : State} {a1} {a2} {a3} {a4} (h : Kept q n s) :
    Kept q n (State.fpDoCall s a1 a2 a3 a4) := by
  unfold State.fpDoCall
  repeat' first
    | with_reducible assumption
    | lift_lets
    | (intro x; refine Kept.cut (q := q) (n := n) (x := x) ?_ ?_; subst x; rotate_left; clear_value x; intro hx)
    | (intro x; clear_value x)
    | with_reducible apply State.modCore_kept
    | with_reducible apply State.setF_kept
    | with_reducible apply State.set1_kept
    | with_reducible apply Kept.ite

theorem State.fpDoRet_kept {q n} {s : State} {a1} (h : Kept q n s) :
    Kept q n (State.fpDoRet s a1) := by
  unfold State.fpDoRet
  repeat' first
    | with_reducible assumption
    | lift_lets
    | (intro x; refine Kept.cut (q := q) (n := n) (x := x) ?_ ?_; subst x; rotate_left; clear_value x; intro hx)
    | (intro x; clear_value x)
    | with_reducible apply State.modCore_kept
    | with_reducible apply State.setF_kept
    | with_reducible apply State.clr_kept
    | with_reducible apply Kept.ite
    | split
    | with_reducible apply Kept.drawn

theorem State.fpJump_kept {q n} {s : State} {a1} {a2} (h : Kept q n s) :
    Kept q n (State.fpJump s a1 a2) := by
  unfold State.fpJump
  repeat' first | with_reducible assumption | lift_lets | (intro x; clear_value x) | with_reducible apply State.modCore_kept

theorem State.sprWrite_kept {q n} {s : State} {a1} {a2} {a3} (h : Kept q n s) :
    Kept q n (State.sprWrite s a1 a2 a3) := by
  unfold State.sprWrite
  repeat' first
    | with_reducible assumption
    | lift_lets
    | (intro x; clear_value x)
    | with_reducible apply State.modCore_kept
    | with_reducible apply State.setF_kept
    | with_reducible apply State.wr_kept
    | split

theorem State.fpAct_kept {q n} {s : State} {a1} {a2} {a3} {a4} (h : Kept q n s) :
    Kept q n (State.fpAct s a1 a2 a3 a4) := by
  unfold State.fpAct
  repeat' first
    | with_reducible assumption
    | lift_lets
    | (intro x; refine Kept.cut (q := q) (n := n) (x := x) ?_ ?_; subst x; rotate_left; clear_value x; intro hx)
    | (intro x; clear_value x)
    | with_reducible apply State.sprWrite_kept
    | with_reducible apply State.fpDoCall_kept
    | with_reducible apply State.modCore_kept
    | with_reducible apply State.fpDoRet_kept
    | with_reducible apply State.fpJump_kept
    | with_reducible apply State.setB_kept
    | with_reducible apply State.setF_kept
    | with_reducible apply State.set1_kept
    | with_reducible apply State.clr_kept
    | with_reducible apply Kept.ite
    | split

theorem State.fpLoopEnd_kept {q n} {s : State} {a1} {a2} (h : Kept q n s) :
    Kept q n (State.fpLoopEnd s a1 a2) := by
  unfold State.fpLoopEnd
  repeat' first
    | with_reducible assumption
    | lift_lets
    | (intro x; clear_value x)
    | with_reducible apply State.setCore_kept
    | with_reducible apply State.setF_kept
    | with_reducible apply Kept.ite
    | split

theorem State.fpCommit_kept {q n} {s : State} {a1} {a2} (h : Kept q n s) :
    Kept q n (State.fpCommit s a1 a2) := by
  unfold State.fpCommit
  repeat' first
    | with_reducible assumption
    | intro x y (hx : Kept q n x)
    | lift_lets
    | (intro x; refine Kept.cut (q := q) (n := n) (x := x) ?_ ?_; subst x; rotate_left; clear_value x; intro hx)
    | (intro x; clear_value x)
    | with_reducible apply State.fpLoopEnd_kept
    | with_reducible apply State.modCore_kept
    | with_reducible apply State.forEach_kept
    | with_reducible apply State.fpAct_kept
    | with_reducible apply State.wrN_kept
    | with_reducible apply Kept.ite
    | with_reducible apply Kept.drawn

theorem State.noteSbx_kept {q n} {s : State} {a1} {a2} (h : Kept q n s) :
    Kept q n (State.noteSbx s a1 a2) := by
  unfold State.noteSbx
  repeat' first
    | with_reducible assumption
    | lift_lets
    | (intro x; clear_value x)
    | with_reducible apply State.raise_kept
    | with_reducible apply State.set1_kept
    | with_reducible apply State.wrN_kept
    | with_reducible apply Kept.ite

theorem State.fpTrapAt_kept {q n} {s : State} {a1} {a2} {a3} {a4} (h : Kept q n s) :
    Kept q n (State.fpTrapAt s a1 a2 a3 a4) := by
  unfold State.fpTrapAt
  repeat' first
    | with_reducible assumption
    | lift_lets
    | (intro x; refine Kept.cut (q := q) (n := n) (x := x) ?_ ?_; subst x; rotate_left; clear_value x; intro hx)
    | (intro x; clear_value x)
    | with_reducible apply State.modCore_kept
    | with_reducible apply State.noteSbx_kept
    | with_reducible apply State.fpHalt_kept
    | with_reducible apply State.setF_kept
    | with_reducible apply State.set1_kept
    | with_reducible apply State.wrN_kept
    | with_reducible apply State.inc_kept
    | with_reducible apply State.clr_kept
    | with_reducible apply Kept.ite
    | split
    | with_reducible apply Kept.drawn

theorem State.fpFetched_kept {q n} {s : State} {a1} {a2} {a3} (h : Kept q n s) :
    Kept q n (State.fpFetched s a1 a2 a3) := by
  unfold State.fpFetched
  repeat' first
    | with_reducible assumption
    | lift_lets
    | (intro x; have : State → State := x; subst x; dsimp only)
    | (intro x; clear_value x)
    | with_reducible apply State.fpTrapAt_kept
    | with_reducible apply State.fpCommit_kept
    | with_reducible apply State.eccRead_kept
    | with_reducible apply State.modCore_kept
    | with_reducible apply State.fpHalt_kept
    | with_reducible apply Kept.ite
    | split

theorem State.fpIssue_kept {q n} {s : State} {a1} {a2} {a3} (h : Kept q n s) :
    Kept q n (State.fpIssue s a1 a2 a3) := by
  unfold State.fpIssue
  repeat' first
    | with_reducible assumption
    | lift_lets
    | (intro x; clear_value x)
    | with_reducible apply State.fpFetched_kept
    | with_reducible apply State.fpTrapAt_kept
    | with_reducible apply State.eccRead_kept
    | with_reducible apply State.fpHalt_kept
    | with_reducible apply Kept.ite

end Sys2Proof.Machine
end

