-- ==== Sys2Proof/Laws/KeptFpExec.lean ====
section
/-! SUPPORT. What the operations of Machine/FpExec.lean keep (`Kept`). -/
namespace Sys2Proof.Machine

theorem State.fpIssueAll_kept {q n} {s : State} {a1} {a2} (h : Kept q n s) :
    Kept q n (State.fpIssueAll s a1 a2) := by
  unfold State.fpIssueAll
  repeat' first | with_reducible assumption | with_reducible apply State.fpIssue_kept

theorem State.fpSubmit_kept {q n} {s : State} {a1} {a2} {a3} (h : Kept q n s) :
    Kept q n (State.fpSubmit s a1 a2 a3) := by
  unfold State.fpSubmit
  repeat' first
    | with_reducible assumption
    | lift_lets
    | (intro x; clear_value x)
    | with_reducible apply State.fpIssueAll_kept
    | with_reducible apply State.modCore_kept
    | with_reducible apply Kept.ite

end Sys2Proof.Machine
end

