-- ==== Sys2Proof/Laws/KeptFp.lean ====
section
/-! SUPPORT. What the operations of Machine/Fp.lean keep (`Kept`). -/
namespace Sys2Proof.Machine

theorem fpClearCounters_kept {q n} {s : State} {a1} (h : Kept q n s) :
    Kept q n (fpClearCounters s a1) := by
  unfold fpClearCounters
  repeat' first | with_reducible assumption | intro x (hx : Kept q n x) | with_reducible apply State.zero_kept | with_reducible apply State.cmd_kept

theorem State.fpLoadFrom_kept {q n} {s : State} {a1} {a2} {a3} {a4} (h : Kept q n s) :
    Kept q n (State.fpLoadFrom s a1 a2 a3 a4) := by
  unfold State.fpLoadFrom
  repeat' first
    | with_reducible assumption
    | lift_lets
    | (intro x; refine Kept.cut (q := q) (n := n) (x := x) ?_ ?_; subst x; rotate_left; clear_value x; intro hx)
    | (intro x; clear_value x)
    | with_reducible apply State.modCore_kept
    | with_reducible apply State.setF_kept
    | with_reducible apply State.set1_kept
    | simp only [Kept.mk]

theorem State.fpRelieve_kept {q n} {s : State} {a1} (h : Kept q n s) :
    Kept q n (State.fpRelieve s a1) := by
  unfold State.fpRelieve
  repeat' first | with_reducible assumption | with_reducible apply State.setF_kept | with_reducible apply State.clr_kept

theorem State.fpPolicy_kept {q n} {s : State} {a1} {a2} {a3} (h : Kept q n s) :
    Kept q n (State.fpPolicy s a1 a2 a3) := by
  unfold State.fpPolicy
  repeat' first
    | with_reducible assumption
    | lift_lets
    | (intro x; refine Kept.cut (q := q) (n := n) (x := x) ?_ ?_; subst x; rotate_left; clear_value x; intro hx)
    | (intro x; clear_value x)
    | with_reducible apply State.fpLoadFrom_kept
    | with_reducible apply State.requestSs1_kept
    | with_reducible apply State.obsStopped_kept
    | with_reducible apply State.raiseStop_kept
    | with_reducible apply State.fpRelieve_kept
    | with_reducible apply State.giveOrSs1_kept
    | with_reducible apply State.raise_kept
    | with_reducible apply State.set1_kept
    | with_reducible apply Kept.ite
    | split

theorem State.fpTakeGen_kept {q n} {s : State} {a1} {a2} {a3} {a4} (h : Kept q n s) :
    Kept q n (State.fpTakeGen s a1 a2 a3 a4) := by
  unfold State.fpTakeGen
  repeat' first
    | with_reducible assumption
    | intro x y (hx : Kept q n x)
    | lift_lets
    | (intro x; refine Kept.cut (q := q) (n := n) (x := x) ?_ ?_; subst x; rotate_left; clear_value x; intro hx)
    | with_reducible apply State.forEach_kept
    | with_reducible apply State.setGen_kept
    | with_reducible apply State.setF_kept
    | with_reducible apply Kept.ite

theorem State.servePolicy_kept {q n} {s : State} {a1} (h : Kept q n s) :
    Kept q n (State.servePolicy s a1) := by
  unfold State.servePolicy
  repeat' first
    | with_reducible assumption
    | lift_lets
    | (intro x; refine Kept.cut (q := q) (n := n) (x := x) ?_ ?_; subst x; rotate_left; clear_value x; intro hx)
    | (intro x; clear_value x)
    | with_reducible apply State.fpPolicy_kept
    | with_reducible apply Kept.ite
    | simp only [Kept.mk]

theorem State.serveThrough_kept {q n} {s : State} {a1} {a2} (h : Kept q n s) :
    Kept q n (State.serveThrough s a1 a2) := by
  induction a2 generalizing s with
  | zero => exact State.servePolicy_kept h
  | succ m ih =>
    unfold State.serveThrough
    split
    · exact h
    · exact Kept.ite (State.servePolicy_kept h) (ih (State.servePolicy_kept h))

theorem deqComplete_kept {q n} {s : State} {a1} (h : Kept q n s) :
    Kept q n (deqComplete s a1) := by
  unfold deqComplete
  repeat' first
    | with_reducible assumption
    | lift_lets
    | (intro x; refine Kept.cut (q := q) (n := n) (x := x) ?_ ?_; subst x; rotate_left; clear_value x; intro hx)
    | with_reducible apply State.modCore_kept
    | with_reducible apply Kept.ite
    | split
    | with_reducible refine State.deq_kept (by assumption) ?_

theorem enqComplete_kept {q n} {s : State} {a1} (h : Kept q n s) :
    Kept q n (enqComplete s a1) := by
  unfold enqComplete
  repeat' first
    | with_reducible assumption
    | lift_lets
    | (intro x; refine Kept.cut (q := q) (n := n) (x := x.1) ?_ ?_; subst x; rotate_left; clear_value x; intro hx)
    | with_reducible apply State.enqueue_kept
    | with_reducible apply State.modCore_kept
    | split

theorem inboxWrite_kept {q n} {s : State} {a1} (h : Kept q n s) :
    Kept q n (inboxWrite s a1) := by
  unfold inboxWrite
  repeat' first
    | with_reducible assumption
    | lift_lets
    | (intro x; refine Kept.cut (q := q) (n := n) (x := x) ?_ ?_; subst x; rotate_left; clear_value x; intro hx)
    | (intro x; clear_value x)
    | with_reducible apply State.raiseSec_kept
    | with_reducible apply State.modCore_kept
    | with_reducible apply State.setF_kept
    | with_reducible apply State.set1_kept
    | with_reducible apply State.inc_kept
    | with_reducible apply Kept.ite
    | split

theorem peekSample_kept {q n} {s : State} {a1} (h : Kept q n s) :
    Kept q n (peekSample s a1) := by
  unfold peekSample
  repeat' first
    | with_reducible assumption
    | lift_lets
    | (intro x; refine Kept.cut (q := q) (n := n) (x := x) ?_ ?_; subst x; rotate_left; clear_value x; intro hx)
    | (intro x; clear_value x)
    | with_reducible apply State.eccRead_kept
    | with_reducible apply State.wrN_kept
    | with_reducible apply State.wr_kept
    | with_reducible apply Kept.ite
    | with_reducible apply Kept.drawn

theorem sandboxBudget_kept {q n} {s : State} {a1} (h : Kept q n s) :
    Kept q n (sandboxBudget s a1) := by
  unfold sandboxBudget
  repeat' first
    | with_reducible assumption
    | lift_lets
    | (intro x; refine Kept.cut (q := q) (n := n) (x := x) ?_ ?_; subst x; rotate_left; clear_value x; intro hx)
    | with_reducible apply State.fpTrapAt_kept
    | with_reducible apply State.modCore_kept
    | with_reducible apply Kept.ite

theorem spareLoadDone_kept {q n} {s : State} {a1} {a2} {a3} (h : Kept q n s) :
    Kept q n (spareLoadDone s a1 a2 a3) := by
  unfold spareLoadDone
  repeat' first
    | with_reducible assumption
    | intro x y (hx : Kept q n x)
    | lift_lets
    | (intro x; refine Kept.cut (q := q) (n := n) (x := x) ?_ ?_; subst x; rotate_left; clear_value x; intro hx)
    | (intro x; clear_value x)
    | with_reducible apply State.fpTakeGen_kept
    | with_reducible apply State.eccRead_kept
    | with_reducible apply State.modCore_kept
    | with_reducible apply State.forEach_kept
    | with_reducible apply State.setQd_kept
    | with_reducible apply State.raise_kept
    | with_reducible apply State.setF_kept
    | with_reducible apply State.clr_kept
    | with_reducible apply Kept.ite
    | split
    | simp only [Kept.mk]

theorem spareSelfTest_kept {q n} {s : State} {a1} {a2} (h : Kept q n s) :
    Kept q n (spareSelfTest s a1 a2) := by
  unfold spareSelfTest
  repeat' first
    | with_reducible assumption
    | with_reducible apply State.raise_kept
    | with_reducible apply State.setF_kept
    | with_reducible apply Kept.ite
    | split

theorem sparesPolicy_kept {q n} {s : State} {a1} (h : Kept q n s) :
    Kept q n (sparesPolicy s a1) := by
  unfold sparesPolicy
  repeat' first | with_reducible assumption | with_reducible apply State.serveThrough_kept | with_reducible apply Kept.ite

theorem stallRelease_kept {q n} {s : State} {a1} (h : Kept q n s) :
    Kept q n (stallRelease s a1) := by
  unfold stallRelease
  repeat' first
    | with_reducible assumption
    | lift_lets
    | (intro x; clear_value x)
    | with_reducible apply State.fpIssue_kept
    | with_reducible apply Kept.ite

theorem storeDrain_kept {q n} {s : State} {a1} (h : Kept q n s) :
    Kept q n (storeDrain s a1) := by
  unfold storeDrain
  repeat' first
    | with_reducible assumption
    | lift_lets
    | (intro x; refine Kept.cut (q := q) (n := n) (x := x) ?_ ?_; subst x; rotate_left; clear_value x; intro hx)
    | (intro x; clear_value x)
    | with_reducible apply State.modCore_kept
    | with_reducible apply State.incBy_kept
    | with_reducible apply Kept.ite
    | with_reducible apply Kept.drawn

theorem waitWake_kept {q n} {s : State} {a1} {a2} (h : Kept q n s) :
    Kept q n (waitWake s a1 a2) := by
  unfold waitWake
  repeat' first
    | with_reducible assumption
    | lift_lets
    | (intro x; clear_value x)
    | with_reducible apply State.setCore_kept
    | with_reducible apply State.clr_kept
    | with_reducible apply Kept.ite

theorem watchdogExpiry_kept {q n} {s : State} {a1} (h : Kept q n s) :
    Kept q n (watchdogExpiry s a1) := by
  unfold watchdogExpiry
  repeat' first | with_reducible assumption | with_reducible apply State.fpHalt_kept | with_reducible apply Kept.ite

end Sys2Proof.Machine
end

