-- ==== Sys2Proof/Laws/KeptIsland.lean ====
section
/-! SUPPORT. What the operations of Machine/Island.lean keep (`Kept`). -/
namespace Sys2Proof.Machine

theorem State.modSi_kept {q n} {s : State} {a1} {a2} (h : Kept q n s) :
    Kept q n (State.modSi s a1 a2) := by
  unfold State.modSi
  repeat' first | with_reducible assumption | lift_lets | (intro x; clear_value x) | simp only [Kept.mk]

theorem State.cellEnables_kept {q n} {s : State} {a1} {a2} (h : Kept q n s) :
    Kept q n (State.cellEnables s a1 a2) := by
  unfold State.cellEnables
  repeat' first
    | with_reducible assumption
    | intro x y (hx : Kept q n x)
    | with_reducible apply State.setEnables_kept
    | with_reducible apply State.each_kept
    | with_reducible apply Kept.ite

theorem State.noteSafe_kept {q n} {s : State} (h : Kept q n s) :
    Kept q n (State.noteSafe s) := by
  unfold State.noteSafe
  repeat' first | with_reducible assumption | with_reducible apply State.setB_kept

theorem State.setCst_kept {q n} {s : State} {a1} {a2} (h : Kept q n s) :
    Kept q n (State.setCst s a1 a2) := by
  unfold State.setCst
  repeat' first | with_reducible assumption | with_reducible apply State.setF_kept

theorem State.siHeld_kept {q n} {s : State} {a1} (h : Kept q n s) :
    Kept q n (State.siHeld s a1) := by
  unfold State.siHeld
  repeat' first
    | with_reducible assumption
    | lift_lets
    | (intro x; refine Kept.cut (q := q) (n := n) (x := x) ?_ ?_; subst x; rotate_left; clear_value x; intro hx)
    | (intro x; subst x)
    | with_reducible apply State.cellEnables_kept
    | with_reducible apply State.brakeApply_kept
    | with_reducible apply State.cellHold_kept
    | with_reducible apply State.noteSafe_kept
    | with_reducible apply State.siRaise_kept
    | with_reducible apply State.setCst_kept
    | with_reducible apply State.stHalt_kept
    | with_reducible apply State.modSi_kept
    | with_reducible apply Kept.ite

theorem State.unitsOff_kept {q n} {s : State} (h : Kept q n s) :
    Kept q n (State.unitsOff s) := by
  unfold State.unitsOff
  repeat' first
    | with_reducible assumption
    | intro x y (hx : Kept q n x)
    | lift_lets
    | (intro x; refine Kept.cut (q := q) (n := n) (x := x) ?_ ?_; subst x; rotate_left; clear_value x; intro hx)
    | (intro x; clear_value x)
    | with_reducible apply State.setEnables_kept
    | with_reducible apply State.legHold_kept
    | with_reducible apply State.setAst_kept
    | with_reducible apply State.auxOff_kept
    | with_reducible apply State.stHalt_kept
    | with_reducible apply State.setF_kept
    | with_reducible apply State.each_kept
    | with_reducible apply Kept.ite
    | simp only [Kept.mk]

theorem State.haltEntry_kept {q n} {s : State} {a1} (h : Kept q n s) :
    Kept q n (State.haltEntry s a1) := by
  unfold State.haltEntry
  repeat' first
    | with_reducible assumption
    | intro x y (hx : Kept q n x)
    | lift_lets
    | (intro x; refine Kept.cut (q := q) (n := n) (x := x) ?_ ?_; subst x; rotate_left; clear_value x; intro hx)
    | with_reducible apply State.brakeApply_kept
    | with_reducible apply State.unitsOff_kept
    | with_reducible apply State.siHeld_kept
    | with_reducible apply State.setDom_kept
    | with_reducible apply State.setF_kept
    | with_reducible apply State.each_kept
    | with_reducible apply State.set1_kept
    | with_reducible apply Kept.ite

theorem State.islandFault_kept {q n} {s : State} (h : Kept q n s) :
    Kept q n (State.islandFault s) := by
  unfold State.islandFault
  repeat' first
    | with_reducible assumption
    | intro x y (hx : Kept q n x)
    | lift_lets
    | (intro x; refine Kept.cut (q := q) (n := n) (x := x) ?_ ?_; subst x; rotate_left; clear_value x; intro hx)
    | with_reducible apply State.setEnables_kept
    | with_reducible apply State.brakeApply_kept
    | with_reducible apply State.haltEntry_kept
    | with_reducible apply State.cutOthers_kept
    | with_reducible apply State.siRaise_kept
    | with_reducible apply State.siHeld_kept
    | with_reducible apply State.setF_kept
    | with_reducible apply State.each_kept
    | with_reducible apply State.set1_kept
    | with_reducible apply Kept.ite

end Sys2Proof.Machine
end

