-- ==== Sys2Proof/Laws/KeptSi.lean ====
section
/-! SUPPORT. What the operations of Machine/Si.lean keep (`Kept`). -/
namespace Sys2Proof.Machine

theorem State.brakeLead_kept {q n} {s : State} {a1} (h : Kept q n s) :
    Kept q n (State.brakeLead s a1) := by
  unfold State.brakeLead
  repeat' first
    | with_reducible assumption
    | with_reducible apply State.brakeApply_kept
    | with_reducible apply State.siHeld_kept
    | with_reducible apply State.modSi_kept
    | with_reducible apply Kept.ite

theorem State.brakeRefuse_kept {q n} {s : State} {a1} (h : Kept q n s) :
    Kept q n (State.brakeRefuse s a1) := by
  unfold State.brakeRefuse
  repeat' first
    | with_reducible assumption
    | with_reducible apply State.brakeApply_kept
    | with_reducible apply State.siRaise_kept
    | with_reducible apply State.modSt_kept

theorem State.modSf_kept {q n} {s : State} {a1} (h : Kept q n s) :
    Kept q n (State.modSf s a1) := by
  unfold State.modSf
  repeat' first | with_reducible assumption | lift_lets | (intro x; clear_value x) | simp only [Kept.mk]

theorem State.noteMode_kept {q n} {s : State} (h : Kept q n s) :
    Kept q n (State.noteMode s) := by
  unfold State.noteMode
  repeat' first | with_reducible assumption | with_reducible apply State.setF_kept

theorem State.siLimits_kept {q n} {s : State} {a1} (h : Kept q n s) :
    Kept q n (State.siLimits s a1) := by
  unfold State.siLimits
  repeat' first
    | with_reducible assumption
    | lift_lets
    | (intro x; clear_value x)
    | with_reducible apply State.modSi_kept
    | with_reducible apply State.setB_kept

theorem State.siSs1_kept {q n} {s : State} {a1} (h : Kept q n s) :
    Kept q n (State.siSs1 s a1) := by
  unfold State.siSs1
  repeat' first
    | with_reducible assumption
    | lift_lets
    | (intro x; refine Kept.cut (q := q) (n := n) (x := x) ?_ ?_; subst x; rotate_left; clear_value x; intro hx)
    | (intro x; clear_value x)
    | with_reducible apply State.noteSafe_kept
    | with_reducible apply State.siRaise_kept
    | with_reducible apply State.setCst_kept
    | with_reducible apply State.stHalt_kept
    | with_reducible apply State.modSi_kept

theorem State.siRefresh_kept {q n} {s : State} {a1} (h : Kept q n s) :
    Kept q n (State.siRefresh s a1) := by
  unfold State.siRefresh
  repeat' first
    | with_reducible assumption
    | lift_lets
    | (intro x; refine Kept.cut (q := q) (n := n) (x := x) ?_ ?_; subst x; rotate_left; clear_value x; intro hx)
    | (intro x; clear_value x)
    | with_reducible apply State.siLimits_kept
    | with_reducible apply State.siHeld_kept
    | with_reducible apply State.siSs1_kept
    | with_reducible apply State.setF_kept
    | with_reducible apply Kept.ite

theorem State.siAll_kept {q n} {s : State} (h : Kept q n s) :
    Kept q n (State.siAll s) := by
  unfold State.siAll
  repeat' first
    | with_reducible assumption
    | intro x y (hx : Kept q n x)
    | with_reducible apply State.siRefresh_kept
    | with_reducible apply State.each_kept

theorem State.sfTimeout_kept {q n} {s : State} (h : Kept q n s) :
    Kept q n (State.sfTimeout s) := by
  unfold State.sfTimeout
  repeat' first
    | with_reducible assumption
    | lift_lets
    | (intro x; refine Kept.cut (q := q) (n := n) (x := x) ?_ ?_; subst x; rotate_left; clear_value x; intro hx)
    | with_reducible apply State.noteMode_kept
    | with_reducible apply State.siRaise_kept
    | with_reducible apply State.siAll_kept
    | with_reducible apply State.modSf_kept
    | with_reducible apply Kept.ite

theorem State.netLose_kept {q n} {s : State} {a1} (h : Kept q n s) :
    Kept q n (State.netLose s a1) := by
  unfold State.netLose
  repeat' first
    | with_reducible assumption
    | lift_lets
    | (intro x; refine Kept.cut (q := q) (n := n) (x := x) ?_ ?_; subst x; rotate_left; clear_value x; intro hx)
    | (intro x; clear_value x)
    | with_reducible apply State.sfTimeout_kept
    | with_reducible apply State.noteMode_kept
    | with_reducible apply State.siRaise_kept
    | with_reducible apply State.modSf_kept
    | with_reducible apply Kept.ite

theorem heartbeatLoss_kept {q n} {s : State} (h : Kept q n s) :
    Kept q n (heartbeatLoss s) := by
  unfold heartbeatLoss
  repeat' first
    | with_reducible assumption
    | with_reducible apply State.siRaise_kept
    | with_reducible apply State.set1_kept
    | with_reducible apply Kept.ite

theorem State.setPair_kept {q n} {s : State} {a1} {a2} {a3} (h : Kept q n s) :
    Kept q n (State.setPair s a1 a2 a3) := by
  unfold State.setPair
  repeat' first | with_reducible assumption | with_reducible apply State.setB_kept

theorem State.pairEval_kept {q n} {s : State} {a1} (h : Kept q n s) :
    Kept q n (State.pairEval s a1) := by
  unfold State.pairEval
  repeat' first
    | with_reducible assumption
    | lift_lets
    | (intro x; refine Kept.cut (q := q) (n := n) (x := x) ?_ ?_; subst x; rotate_left; clear_value x; intro hx)
    | (intro x; clear_value x)
    | with_reducible apply State.setPair_kept
    | simp only [Kept.mk]

theorem cfgCrcCheck_kept {q n} {s : State} (h : Kept q n s) :
    Kept q n (cfgCrcCheck s) := by
  unfold cfgCrcCheck
  repeat' first
    | with_reducible assumption
    | with_reducible apply State.islandFault_kept
    | with_reducible apply State.siRaise_kept
    | with_reducible apply Kept.ite

theorem State.react_kept {q n} {s : State} {a1} {a2} {a3} {a4} (h : Kept q n s) :
    Kept q n (State.react s a1 a2 a3 a4) := by
  unfold State.react
  repeat' first
    | with_reducible assumption
    | lift_lets
    | (intro x; refine Kept.cut (q := q) (n := n) (x := x) ?_ ?_; subst x; rotate_left; clear_value x; intro hx)
    | (intro x; clear_value x)
    | with_reducible apply State.raiseWith_kept
    | with_reducible apply State.siRefresh_kept
    | with_reducible apply State.modSi_kept
    | with_reducible apply State.setF_kept
    | with_reducible apply State.inc_kept
    | with_reducible apply Kept.ite

theorem State.setInput_kept {q n} {s : State} {a1} {a2} (h : Kept q n s) :
    Kept q n (State.setInput s a1 a2) := by
  unfold State.setInput
  repeat' first | with_reducible assumption | with_reducible apply State.setB_kept

theorem State.sfPaired_kept {q n} {s : State} (h : Kept q n s) :
    Kept q n (State.sfPaired s) := by
  unfold State.sfPaired
  repeat' first
    | with_reducible assumption
    | lift_lets
    | (intro x; clear_value x)
    | with_reducible apply State.noteMode_kept
    | with_reducible apply State.modSf_kept
    | with_reducible apply Kept.ite

theorem State.siNormal_kept {q n} {s : State} {a1} (h : Kept q n s) :
    Kept q n (State.siNormal s a1) := by
  unfold State.siNormal
  repeat' first
    | with_reducible assumption
    | with_reducible apply State.cellEnables_kept
    | with_reducible apply State.noteSafe_kept
    | with_reducible apply State.setCst_kept
    | with_reducible apply State.modSi_kept
    | with_reducible apply Kept.ite

theorem State.siReset_kept {q n} {s : State} (h : Kept q n s) :
    Kept q n (State.siReset s) := by
  unfold State.siReset
  repeat' first
    | with_reducible assumption
    | intro x y (hx : Kept q n x)
    | with_reducible apply State.siNormal_kept
    | with_reducible apply State.siRaise_kept
    | with_reducible apply State.each_kept
    | with_reducible apply State.inc_kept
    | with_reducible apply Kept.ite

theorem State.sfAccept_kept {q n} {s : State} {a1} {a2} (h : Kept q n s) :
    Kept q n (State.sfAccept s a1 a2) := by
  unfold State.sfAccept
  repeat' first
    | with_reducible assumption
    | intro x y (hx : Kept q n x)
    | lift_lets
    | (intro x; refine Kept.cut (q := q) (n := n) (x := x) ?_ ?_; subst x; rotate_left; clear_value x; intro hx)
    | (intro x; clear_value x)
    | (intro x; subst x)
    | with_reducible apply State.brakeApply_kept
    | with_reducible apply State.noteMode_kept
    | with_reducible apply State.sfPaired_kept
    | with_reducible apply State.siReset_kept
    | with_reducible apply State.siAll_kept
    | with_reducible apply State.modSf_kept
    | with_reducible apply State.setF_kept
    | with_reducible apply State.each_kept
    | with_reducible apply Kept.ite
    | split

theorem State.sfChecks_kept {q n} {s : State} {a1} {a2} (h : Kept q n s) :
    Kept q n (State.sfChecks s a1 a2) := by
  unfold State.sfChecks
  repeat' first
    | with_reducible assumption
    | lift_lets
    | (intro x; clear_value x)
    | with_reducible apply State.sfAccept_kept
    | with_reducible apply State.inc_kept
    | with_reducible apply Kept.ite

theorem State.sfPartner_kept {q n} {s : State} {a1} {a2} (h : Kept q n s) :
    Kept q n (State.sfPartner s a1 a2) := by
  unfold State.sfPartner
  repeat' first
    | with_reducible assumption
    | with_reducible apply State.sfPaired_kept
    | with_reducible apply State.modSf_kept
    | with_reducible apply Kept.ite
    | split

theorem State.sfTake_kept {q n} {s : State} {a1} {a2} {a3} (h : Kept q n s) :
    Kept q n (State.sfTake s a1 a2 a3) := by
  unfold State.sfTake
  repeat' first
    | with_reducible assumption
    | lift_lets
    | (intro x; clear_value x)
    | with_reducible apply State.sfPartner_kept
    | with_reducible apply State.sfChecks_kept
    | with_reducible apply State.modSf_kept
    | with_reducible apply Kept.ite

theorem State.sfUnpaired_kept {q n} {s : State} (h : Kept q n s) :
    Kept q n (State.sfUnpaired s) := by
  unfold State.sfUnpaired
  repeat' first
    | with_reducible assumption
    | lift_lets
    | with_reducible apply State.netLose_kept
    | with_reducible apply State.modSf_kept
    | with_reducible apply State.inc_kept
    | with_reducible apply Kept.ite
    | split
    | dsimp only

theorem State.unreact_kept {q n} {s : State} {a1} {a2} (h : Kept q n s) :
    Kept q n (State.unreact s a1 a2) := by
  unfold State.unreact
  repeat' first
    | with_reducible assumption
    | with_reducible apply State.siRefresh_kept
    | with_reducible apply State.modSi_kept
    | with_reducible apply Kept.ite

theorem State.speedChecks_kept {q n} {s : State} {a1} {a2} {a3} (h : Kept q n s) :
    Kept q n (State.speedChecks s a1 a2 a3) := by
  unfold State.speedChecks
  repeat' first
    | with_reducible assumption
    | lift_lets
    | (intro x; refine Kept.cut (q := q) (n := n) (x := x) ?_ ?_; subst x; rotate_left; clear_value x; intro hx)
    | (intro x; clear_value x)
    | with_reducible apply State.unreact_kept
    | with_reducible apply State.siRaise_kept
    | with_reducible apply State.siHeld_kept
    | with_reducible apply State.setF_kept
    | with_reducible apply State.inc_kept
    | with_reducible apply Kept.ite

theorem State.siSpeedEval_kept {q n} {s : State} {a1} {a2} {a3} {a4} (h : Kept q n s) :
    Kept q n (State.siSpeedEval s a1 a2 a3 a4) := by
  unfold State.siSpeedEval
  repeat' first
    | with_reducible assumption
    | lift_lets
    | (intro x; clear_value x)
    | with_reducible apply State.speedChecks_kept
    | with_reducible apply State.wrN_kept
    | with_reducible apply Kept.ite

theorem State.torqueAgain_kept {q n} {s : State} {a1} (h : Kept q n s) :
    Kept q n (State.torqueAgain s a1) := by
  unfold State.torqueAgain
  repeat' first
    | with_reducible assumption
    | lift_lets
    | (intro x; refine Kept.cut (q := q) (n := n) (x := x) ?_ ?_; subst x; rotate_left; clear_value x; intro hx)
    | (intro x; clear_value x)
    | with_reducible apply State.unreact_kept
    | with_reducible apply Kept.ite

theorem State.torquePaths_kept {q n} {s : State} {a1} (h : Kept q n s) :
    Kept q n (State.torquePaths s a1) := by
  unfold State.torquePaths
  repeat' first
    | with_reducible assumption
    | lift_lets
    | (intro x; refine Kept.cut (q := q) (n := n) (x := x) ?_ ?_; subst x; rotate_left; clear_value x; intro hx)
    | (intro x; clear_value x)
    | with_reducible apply State.singlePath_kept
    | with_reducible apply State.react_kept
    | with_reducible apply Kept.ite

theorem brakeReleaseRequest_kept {q n} {s : State} {a1} (h : Kept q n s) :
    Kept q n (brakeReleaseRequest s a1) := by
  unfold brakeReleaseRequest
  repeat' first
    | with_reducible assumption
    | intro x y (hx : Kept q n x)
    | lift_lets
    | (intro x; refine Kept.cut (q := q) (n := n) (x := x) ?_ ?_; subst x; rotate_left; clear_value x; intro hx)
    | with_reducible apply State.brakeRefuse_kept
    | with_reducible apply State.cutClose_kept
    | with_reducible apply State.auxOn_kept
    | with_reducible apply State.modSt_kept
    | with_reducible apply State.each_kept
    | with_reducible apply State.clr_kept
    | with_reducible apply Kept.ite

theorem diverseSample_kept {q n} {s : State} {a1} (h : Kept q n s) :
    Kept q n (diverseSample s a1) := by
  unfold diverseSample
  repeat' first
    | with_reducible assumption
    | lift_lets
    | (intro x; refine Kept.cut (q := q) (n := n) (x := x) ?_ ?_; subst x; rotate_left; clear_value x; intro hx)
    | (intro x; clear_value x)
    | with_reducible apply State.torqueAgain_kept
    | with_reducible apply State.torquePaths_kept
    | with_reducible apply State.wrN_kept
    | with_reducible apply Kept.ite
    | split

theorem enableConfirmTimeout_kept {q n} {s : State} {a1} (h : Kept q n s) :
    Kept q n (enableConfirmTimeout s a1) := by
  unfold enableConfirmTimeout
  repeat' first
    | with_reducible assumption
    | with_reducible apply State.islandFault_kept
    | with_reducible apply State.siRaise_kept
    | with_reducible apply Kept.ite

theorem internalSs1Request_kept {q n} {s : State} {a1} (h : Kept q n s) :
    Kept q n (internalSs1Request s a1) := by
  unfold internalSs1Request
  repeat' first | with_reducible assumption | with_reducible apply State.requestSs1_kept | with_reducible apply State.siRefresh_kept

theorem lockstepMismatch_kept {q n} {s : State} (h : Kept q n s) :
    Kept q n (lockstepMismatch s) := by
  unfold lockstepMismatch
  repeat' first | with_reducible assumption | with_reducible apply State.islandFault_kept

theorem normalRestore_kept {q n} {s : State} {a1} (h : Kept q n s) :
    Kept q n (normalRestore s a1) := by
  unfold normalRestore
  repeat' first | with_reducible assumption | with_reducible apply State.siNormal_kept | with_reducible apply Kept.ite

theorem pairDiscrepancy_kept {q n} {s : State} {a1} (h : Kept q n s) :
    Kept q n (pairDiscrepancy s a1) := by
  unfold pairDiscrepancy
  repeat' first
    | with_reducible assumption
    | lift_lets
    | (intro x; refine Kept.cut (q := q) (n := n) (x := x) ?_ ?_; subst x; rotate_left; clear_value x; intro hx)
    | (intro x; clear_value x)
    | with_reducible apply State.siRaise_kept
    | with_reducible apply State.setPair_kept
    | with_reducible apply State.siAll_kept
    | with_reducible apply Kept.ite
    | simp only [Kept.mk]

theorem pairWindowEnd_kept {q n} {s : State} (h : Kept q n s) :
    Kept q n (pairWindowEnd s) := by
  unfold pairWindowEnd
  repeat' first | with_reducible assumption | with_reducible apply State.sfUnpaired_kept | with_reducible apply State.modSf_kept | split

theorem resetEdge_kept {q n} {s : State} {a1} {a2} (h : Kept q n s) :
    Kept q n (resetEdge s a1 a2) := by
  unfold resetEdge
  repeat' first
    | with_reducible assumption
    | lift_lets
    | (intro x; refine Kept.cut (q := q) (n := n) (x := x) ?_ ?_; subst x; rotate_left; clear_value x; intro hx)
    | with_reducible apply State.setInput_kept
    | with_reducible apply State.siReset_kept
    | with_reducible apply Kept.ite

theorem safetyFrameReceive_kept {q n} {s : State} {a1} {a2} (h : Kept q n s) :
    Kept q n (safetyFrameReceive s a1 a2) := by
  unfold safetyFrameReceive
  repeat' first
    | with_reducible assumption
    | lift_lets
    | (intro x; clear_value x)
    | with_reducible apply State.sfUnpaired_kept
    | with_reducible apply State.sfPartner_kept
    | with_reducible apply State.sfChecks_kept
    | with_reducible apply State.siRaise_kept
    | with_reducible apply State.sfTake_kept
    | with_reducible apply State.incBy_kept
    | with_reducible apply State.modSf_kept
    | with_reducible apply State.inc_kept
    | with_reducible apply Kept.ite
    | split

theorem sbcLeadEnd_kept {q n} {s : State} {a1} (h : Kept q n s) :
    Kept q n (sbcLeadEnd s a1) := by
  unfold sbcLeadEnd
  repeat' first | with_reducible assumption | with_reducible apply State.siHeld_kept | with_reducible apply Kept.ite

theorem sfTimeoutStep_kept {q n} {s : State} (h : Kept q n s) :
    Kept q n (sfTimeoutStep s) := by
  unfold sfTimeoutStep
  repeat' first | with_reducible assumption | with_reducible apply State.sfTimeout_kept | with_reducible apply Kept.ite

theorem siClockWindow_kept {q n} {s : State} {a1} (h : Kept q n s) :
    Kept q n (siClockWindow s a1) := by
  unfold siClockWindow
  repeat' first
    | with_reducible assumption
    | lift_lets
    | (intro x; refine Kept.cut (q := q) (n := n) (x := x) ?_ ?_; subst x; rotate_left; clear_value x; intro hx)
    | (intro x; clear_value x)
    | with_reducible apply State.islandFault_kept
    | with_reducible apply State.wrN_kept
    | with_reducible apply Kept.ite
    | simp only [Kept.mk]

theorem siEvaluation_kept {q n} {s : State} {a1} {a2} {a3} {a4} (h : Kept q n s) :
    Kept q n (siEvaluation s a1 a2 a3 a4) := by
  unfold siEvaluation
  repeat' first
    | with_reducible assumption
    | lift_lets
    | (intro x; refine Kept.cut (q := q) (n := n) (x := x) ?_ ?_; subst x; rotate_left; clear_value x; intro hx)
    | with_reducible apply State.torquePaths_kept
    | with_reducible apply State.siSpeedEval_kept
    | with_reducible apply Kept.ite

theorem siSelfTest_kept {q n} {s : State} {a1} (h : Kept q n s) :
    Kept q n (siSelfTest s a1) := by
  unfold siSelfTest
  repeat' first | with_reducible assumption | with_reducible apply State.islandFault_kept | with_reducible apply Kept.ite

theorem siSupplyFault_kept {q n} {s : State} (h : Kept q n s) :
    Kept q n (siSupplyFault s) := by
  unfold siSupplyFault
  repeat' first | with_reducible assumption | with_reducible apply State.islandFault_kept

theorem sinPairDemand_kept {q n} {s : State} {a1} {a2} {a3} (h : Kept q n s) :
    Kept q n (sinPairDemand s a1 a2 a3) := by
  unfold sinPairDemand
  repeat' first
    | with_reducible assumption
    | with_reducible apply State.pairEval_kept
    | with_reducible apply State.setInput_kept
    | with_reducible apply State.siAll_kept

theorem slsToleranceEnd_kept {q n} {s : State} {a1} (h : Kept q n s) :
    Kept q n (slsToleranceEnd s a1) := by
  unfold slsToleranceEnd
  repeat' first | with_reducible assumption | with_reducible apply State.react_kept | with_reducible apply Kept.ite

theorem sltToleranceEnd_kept {q n} {s : State} {a1} (h : Kept q n s) :
    Kept q n (sltToleranceEnd s a1) := by
  unfold sltToleranceEnd
  repeat' first | with_reducible assumption | with_reducible apply State.react_kept | with_reducible apply Kept.ite

theorem speedMismatch_kept {q n} {s : State} {a1} {a2} (h : Kept q n s) :
    Kept q n (speedMismatch s a1 a2) := by
  unfold speedMismatch
  repeat' first | with_reducible assumption | with_reducible apply State.react_kept | with_reducible apply Kept.ite

theorem ss1TimeEnd_kept {q n} {s : State} {a1} (h : Kept q n s) :
    Kept q n (ss1TimeEnd s a1) := by
  unfold ss1TimeEnd
  repeat' first | with_reducible assumption | with_reducible apply State.brakeLead_kept | with_reducible apply Kept.ite

theorem ss1TmaxEnd_kept {q n} {s : State} {a1} (h : Kept q n s) :
    Kept q n (ss1TmaxEnd s a1) := by
  unfold ss1TmaxEnd
  repeat' first | with_reducible assumption | with_reducible apply State.siHeld_kept | with_reducible apply Kept.ite

theorem standstillDetected_kept {q n} {s : State} {a1} (h : Kept q n s) :
    Kept q n (standstillDetected s a1) := by
  unfold standstillDetected
  repeat' first | with_reducible assumption | with_reducible apply State.brakeLead_kept | with_reducible apply Kept.ite

theorem stoClearTimer_kept {q n} {s : State} {a1} (h : Kept q n s) :
    Kept q n (stoClearTimer s a1) := by
  unfold stoClearTimer
  repeat' first
    | with_reducible assumption
    | with_reducible apply State.noteSafe_kept
    | with_reducible apply State.setCst_kept
    | with_reducible apply Kept.ite

theorem stoPairDemand_kept {q n} {s : State} {a1} {a2} (h : Kept q n s) :
    Kept q n (stoPairDemand s a1 a2) := by
  unfold stoPairDemand
  repeat' first
    | with_reducible assumption
    | with_reducible apply State.pairEval_kept
    | with_reducible apply State.setInput_kept
    | with_reducible apply State.siAll_kept

theorem stoRstStuck_kept {q n} {s : State} (h : Kept q n s) :
    Kept q n (stoRstStuck s) := by
  unfold stoRstStuck
  repeat' first | with_reducible assumption | with_reducible apply State.siRaise_kept | with_reducible apply Kept.ite

theorem torqueMismatch_kept {q n} {s : State} {a1} {a2} (h : Kept q n s) :
    Kept q n (torqueMismatch s a1 a2) := by
  unfold torqueMismatch
  repeat' first
    | with_reducible assumption
    | lift_lets
    | (intro x; refine Kept.cut (q := q) (n := n) (x := x) ?_ ?_; subst x; rotate_left; clear_value x; intro hx)
    | (intro x; clear_value x)
    | with_reducible apply State.torquePaths_kept
    | with_reducible apply State.react_kept
    | with_reducible apply Kept.ite

end Sys2Proof.Machine
end

