-- ==== Sys2Proof/Laws/KeptCan.lean ====
section
/-! SUPPORT. What the operations of Machine/Can.lean keep (`Kept`). -/
namespace Sys2Proof.Machine

theorem State.canFail_kept {q n} {s : State} {a1} {a2} {a3} (h : Kept q n s) :
    Kept q n (State.canFail s a1 a2 a3) := by
  unfold State.canFail
  repeat' first
    | with_reducible assumption
    | lift_lets
    | (intro x; refine Kept.cut (q := q) (n := n) (x := x) ?_ ?_; subst x; rotate_left; clear_value x; intro hx)
    | with_reducible apply State.raiseSec_kept
    | with_reducible apply State.setF_kept
    | with_reducible apply State.set1_kept
    | with_reducible apply State.clr_kept
    | with_reducible apply Kept.ite

theorem State.modCan_kept {q n} {s : State} {a1} {a2} (h : Kept q n s) :
    Kept q n (State.modCan s a1 a2) := by
  unfold State.modCan
  repeat' first | with_reducible assumption | lift_lets | (intro x; clear_value x) | simp only [Kept.mk]

theorem State.canAbort_kept {q n} {s : State} {a1} {a2} (h : Kept q n s) :
    Kept q n (State.canAbort s a1 a2) := by
  unfold State.canAbort
  repeat' first
    | with_reducible assumption
    | with_reducible apply State.canFail_kept
    | with_reducible apply State.modCan_kept
    | with_reducible apply Kept.ite
    | split

theorem State.canAbortAll_kept {q n} {s : State} {a1} {a2} (h : Kept q n s) :
    Kept q n (State.canAbortAll s a1 a2) := by
  unfold State.canAbortAll
  repeat' first | with_reducible assumption | with_reducible apply State.canAbort_kept | with_reducible apply State.modCan_kept

theorem State.canBufCmd_kept {q n} {s : State} {c b v} {act : State → State} (h : Kept q n s)
    (ha : ∀ t, Kept q n t → Kept q n (act t)) : Kept q n (State.canBufCmd s c b v act) := by
  unfold State.canBufCmd
  refine State.cmd_kept h ?_
  intro t ht
  split
  · exact ht
  · split
    · exact ha _ ht
    · exact ht

theorem State.setTtLevel_kept {q n} {s : State} {a1} {a2} (h : Kept q n s) :
    Kept q n (State.setTtLevel s a1 a2) := by
  unfold State.setTtLevel
  repeat' first
    | with_reducible assumption
    | with_reducible apply State.setF_kept
    | with_reducible apply State.set1_kept
    | with_reducible apply Kept.ite

theorem State.ttSevere_kept {q n} {s : State} {a1} (h : Kept q n s) :
    Kept q n (State.ttSevere s a1) := by
  unfold State.ttSevere
  repeat' first
    | with_reducible assumption
    | with_reducible apply State.setTtLevel_kept
    | with_reducible apply State.modCan_kept
    | with_reducible apply State.raise_kept
    | with_reducible apply State.clr_kept
    | with_reducible apply Kept.ite

theorem State.canBusOff_kept {q n} {s : State} {a1} (h : Kept q n s) :
    Kept q n (State.canBusOff s a1) := by
  unfold State.canBusOff
  repeat' first
    | with_reducible assumption
    | intro x y (hx : Kept q n x)
    | lift_lets
    | (intro x; refine Kept.cut (q := q) (n := n) (x := x) ?_ ?_; subst x; rotate_left; clear_value x; intro hx)
    | with_reducible apply State.ttSevere_kept
    | with_reducible apply State.netLose_kept
    | with_reducible apply State.canFail_kept
    | with_reducible apply State.modCan_kept
    | with_reducible apply State.raise_kept
    | with_reducible apply State.modSf_kept
    | with_reducible apply State.setF_kept
    | with_reducible apply State.each_kept
    | with_reducible apply State.set1_kept
    | with_reducible apply State.inc_kept
    | with_reducible apply State.clr_kept
    | with_reducible apply Kept.ite

theorem canAbortBuffer_kept {q n} {s : State} {a1} {a2} (h : Kept q n s) :
    Kept q n (canAbortBuffer s a1 a2) := by
  unfold canAbortBuffer
  repeat' first
    | with_reducible assumption
    | intro x (hx : Kept q n x)
    | with_reducible apply State.canAbortAll_kept
    | with_reducible apply State.canBufCmd_kept

theorem canClearCounters_kept {q n} {s : State} {a1} (h : Kept q n s) :
    Kept q n (canClearCounters s a1) := by
  unfold canClearCounters
  repeat' first | with_reducible assumption | intro x (hx : Kept q n x) | with_reducible apply State.zero_kept | with_reducible apply State.cmd_kept

theorem State.canRequest_kept {q n} {s : State} {a1} {a2} (h : Kept q n s) :
    Kept q n (State.canRequest s a1 a2) := by
  unfold State.canRequest
  repeat' first
    | with_reducible assumption
    | lift_lets
    | (intro x; refine Kept.cut (q := q) (n := n) (x := x) ?_ ?_; subst x; rotate_left; clear_value x; intro hx)
    | with_reducible apply State.canFail_kept
    | with_reducible apply State.set1_kept
    | with_reducible apply Kept.ite

theorem canRequestBuffer_kept {q n} {s : State} {a1} {a2} (h : Kept q n s) :
    Kept q n (canRequestBuffer s a1 a2) := by
  unfold canRequestBuffer
  repeat' first
    | with_reducible assumption
    | intro x (hx : Kept q n x)
    | with_reducible apply State.canRequest_kept
    | with_reducible apply State.canBufCmd_kept

theorem canRestartTt_kept {q n} {s : State} {a1} (h : Kept q n s) :
    Kept q n (canRestartTt s a1) := by
  unfold canRestartTt
  repeat' first
    | with_reducible assumption
    | intro x (hx : Kept q n x)
    | intro x y (hx : Kept q n x)
    | lift_lets
    | (intro x; refine Kept.cut (q := q) (n := n) (x := x) ?_ ?_; subst x; rotate_left; clear_value x; intro hx)
    | (intro x; clear_value x)
    | with_reducible apply State.raiseCleared_kept
    | with_reducible apply State.setTtLevel_kept
    | with_reducible apply State.forEach_kept
    | with_reducible apply State.modCan_kept
    | with_reducible apply State.cmd_kept
    | with_reducible apply State.clr_kept
    | with_reducible apply Kept.ite
    | split

theorem canStartRecovery_kept {q n} {s : State} {a1} (h : Kept q n s) :
    Kept q n (canStartRecovery s a1) := by
  unfold canStartRecovery
  repeat' first
    | with_reducible assumption
    | intro x (hx : Kept q n x)
    | with_reducible apply State.setF_kept
    | with_reducible apply State.cmd_kept
    | split

theorem State.canErrors_kept {q n} {s : State} {a1} {a2} {a3} (h : Kept q n s) :
    Kept q n (State.canErrors s a1 a2 a3) := by
  unfold State.canErrors
  repeat' first
    | with_reducible assumption
    | lift_lets
    | (intro x; refine Kept.cut (q := q) (n := n) (x := x) ?_ ?_; subst x; rotate_left; clear_value x; intro hx)
    | with_reducible apply State.canBusOff_kept
    | with_reducible apply State.modCan_kept
    | with_reducible apply State.raise_kept
    | with_reducible apply State.setB_kept
    | with_reducible apply State.setF_kept
    | with_reducible apply State.set1_kept
    | with_reducible apply State.wrN_kept
    | with_reducible apply Kept.ite

theorem State.canError_kept {q n} {s : State} {a1} {a2} {a3} {a4} {a5} (h : Kept q n s) :
    Kept q n (State.canError s a1 a2 a3 a4 a5) := by
  unfold State.canError
  repeat' first
    | with_reducible assumption
    | lift_lets
    | (intro x; refine Kept.cut (q := q) (n := n) (x := x) ?_ ?_; subst x; rotate_left; clear_value x; intro hx)
    | (intro x; clear_value x)
    | with_reducible apply State.canErrors_kept
    | with_reducible apply State.setF_kept
    | with_reducible apply State.inc_kept
    | with_reducible apply Kept.ite

theorem State.canForward_kept {q n} {s : State} {a1} {a2} {a3} (h : Kept q n s) :
    Kept q n (State.canForward s a1 a2 a3) := by
  unfold State.canForward
  repeat' first
    | with_reducible assumption
    | lift_lets
    | (intro x; clear_value x)
    | with_reducible apply State.emit_kept
    | with_reducible apply Kept.ite

theorem State.canLoad_kept {q n} {s : State} {a1} {a2} {a3} (h : Kept q n s) :
    Kept q n (State.canLoad s a1 a2 a3) := by
  unfold State.canLoad
  repeat' first
    | with_reducible assumption
    | intro x y (hx : Kept q n x)
    | with_reducible apply State.each_kept
    | with_reducible apply State.wrN_kept

theorem State.canOwn_kept {q n} {s : State} {a1} {a2} {a3} (h : Kept q n s) :
    Kept q n (State.canOwn s a1 a2 a3) := by
  unfold State.canOwn
  repeat' first
    | with_reducible assumption
    | lift_lets
    | (intro x; refine Kept.cut (q := q) (n := n) (x := x) ?_ ?_; subst x; rotate_left; clear_value x; intro hx)
    | with_reducible apply State.canLoad_kept
    | with_reducible apply State.modCan_kept
    | with_reducible apply State.set1_kept
    | with_reducible apply Kept.ite
    | split

theorem State.canSent_kept {q n} {s : State} {a1} {a2} {a3} {a4} (h : Kept q n s) :
    Kept q n (State.canSent s a1 a2 a3 a4) := by
  unfold State.canSent
  repeat' first
    | with_reducible assumption
    | lift_lets
    | (intro x; refine Kept.cut (q := q) (n := n) (x := x) ?_ ?_; subst x; rotate_left; clear_value x; intro hx)
    | with_reducible apply State.modCan_kept
    | with_reducible apply State.setB_kept
    | with_reducible apply State.setF_kept
    | with_reducible apply State.set1_kept
    | with_reducible apply State.wrN_kept
    | with_reducible apply Kept.ite

theorem State.canStart_kept {q n} {s : State} {a1} {a2} (h : Kept q n s) :
    Kept q n (State.canStart s a1 a2) := by
  unfold State.canStart
  repeat' first
    | with_reducible assumption
    | lift_lets
    | (intro x; refine Kept.cut (q := q) (n := n) (x := x) ?_ ?_; subst x; rotate_left; clear_value x; intro hx)
    | with_reducible apply State.canLoad_kept
    | with_reducible apply State.modCan_kept
    | with_reducible apply Kept.ite

theorem State.canTake_kept {q n} {s : State} {a1} {a2} {a3} {a4} (h : Kept q n s) :
    Kept q n (State.canTake s a1 a2 a3 a4) := by
  unfold State.canTake
  repeat' first
    | with_reducible assumption
    | lift_lets
    | (intro x; refine Kept.cut (q := q) (n := n) (x := x) ?_ ?_; subst x; rotate_left; clear_value x; intro hx)
    | (intro x; clear_value x)
    | with_reducible apply State.canForward_kept
    | with_reducible apply State.raiseSec_kept
    | with_reducible apply State.canLoad_kept
    | with_reducible apply State.modCan_kept
    | with_reducible apply State.setF_kept
    | with_reducible apply State.set1_kept
    | with_reducible apply State.wrN_kept
    | with_reducible apply State.inc_kept
    | with_reducible apply Kept.ite

theorem State.canUnsent_kept {q n} {s : State} {a1} {a2} {a3} {a4} (h : Kept q n s) :
    Kept q n (State.canUnsent s a1 a2 a3 a4) := by
  unfold State.canUnsent
  repeat' first | with_reducible assumption | with_reducible apply State.canFail_kept | with_reducible apply Kept.ite

theorem State.recAfter_kept {q n} {s : State} {a1} (h : Kept q n s) :
    Kept q n (State.recAfter s a1).1 := by
  unfold State.recAfter
  repeat' first | with_reducible assumption | lift_lets | (intro x; clear_value x) | split | simp only [Kept.mk] | with_reducible apply Kept.drawn

theorem State.ttMaster_kept {q n} {s : State} {a1} {a2} (h : Kept q n s) :
    Kept q n (State.ttMaster s a1 a2) := by
  unfold State.ttMaster
  repeat' first
    | with_reducible assumption
    | lift_lets
    | (intro x; refine Kept.cut (q := q) (n := n) (x := x) ?_ ?_; subst x; rotate_left; clear_value x; intro hx)
    | (intro x; clear_value x)
    | with_reducible apply State.modCan_kept
    | with_reducible apply State.raise_kept
    | with_reducible apply State.setF_kept
    | with_reducible apply State.set1_kept
    | with_reducible apply Kept.ite

theorem State.ttSyncMark_kept {q n} {s : State} {a1} {a2} {a3} {a4} (h : Kept q n s) :
    Kept q n (State.ttSyncMark s a1 a2 a3 a4) := by
  unfold State.ttSyncMark
  repeat' first
    | with_reducible assumption
    | lift_lets
    | (intro x; refine Kept.cut (q := q) (n := n) (x := x) ?_ ?_; subst x; rotate_left; clear_value x; intro hx)
    | (intro x; clear_value x)
    | (intro x; subst x)
    | with_reducible apply State.raiseCleared_kept
    | with_reducible apply State.setTtLevel_kept
    | with_reducible apply State.modCan_kept
    | with_reducible apply Kept.ite

theorem State.refReceive_kept {q n} {s : State} {a1} {a2} {a3} (h : Kept q n s) :
    Kept q n (State.refReceive s a1 a2 a3) := by
  unfold State.refReceive
  repeat' first
    | with_reducible assumption
    | lift_lets
    | (intro x; refine Kept.cut (q := q) (n := n) (x := x) ?_ ?_; subst x; rotate_left; clear_value x; intro hx)
    | (intro x; clear_value x)
    | with_reducible apply State.ttSyncMark_kept
    | with_reducible apply State.ttMaster_kept
    | with_reducible apply State.modCan_kept
    | with_reducible apply State.clr_kept
    | with_reducible apply Kept.ite

theorem State.refSent_kept {q n} {s : State} {a1} {a2} {a3} (h : Kept q n s) :
    Kept q n (State.refSent s a1 a2 a3) := by
  unfold State.refSent
  repeat' first
    | with_reducible assumption
    | with_reducible apply State.ttSyncMark_kept
    | with_reducible apply State.ttMaster_kept
    | with_reducible apply State.set1_kept

theorem canMbDataWrite_kept {q n} {s : State} {a1} {a2} {a3} {a4} (h : Kept q n s) :
    Kept q n (canMbDataWrite s a1 a2 a3 a4) := by
  unfold canMbDataWrite
  repeat' first
    | with_reducible assumption
    | with_reducible apply State.inc_kept
    | with_reducible apply State.wr_kept
    | with_reducible apply Kept.ite

theorem State.ttError_kept {q n} {s : State} {a1} (h : Kept q n s) :
    Kept q n (State.ttError s a1) := by
  unfold State.ttError
  repeat' first
    | with_reducible assumption
    | with_reducible apply State.setTtLevel_kept
    | with_reducible apply State.modCan_kept
    | with_reducible apply State.raise_kept
    | with_reducible apply Kept.ite

theorem State.ttMiss_kept {q n} {s : State} {a1} (h : Kept q n s) :
    Kept q n (State.ttMiss s a1) := by
  unfold State.ttMiss
  repeat' first
    | with_reducible assumption
    | lift_lets
    | (intro x; refine Kept.cut (q := q) (n := n) (x := x) ?_ ?_; subst x; rotate_left; clear_value x; intro hx)
    | with_reducible apply State.setTtLevel_kept
    | with_reducible apply State.modCan_kept
    | with_reducible apply State.raise_kept
    | with_reducible apply State.inc_kept
    | with_reducible apply Kept.ite

theorem busOffRecoveryDone_kept {q n} {s : State} {a1} (h : Kept q n s) :
    Kept q n (busOffRecoveryDone s a1) := by
  unfold busOffRecoveryDone
  repeat' first
    | with_reducible assumption
    | lift_lets
    | (intro x; refine Kept.cut (q := q) (n := n) (x := x) ?_ ?_; subst x; rotate_left; clear_value x; intro hx)
    | with_reducible apply State.raiseCleared_kept
    | with_reducible apply State.canErrors_kept
    | with_reducible apply State.modCan_kept
    | with_reducible apply State.modSf_kept
    | with_reducible apply State.setF_kept
    | with_reducible apply State.set1_kept
    | with_reducible apply Kept.ite

theorem busOffWaitEnd_kept {q n} {s : State} {a1} (h : Kept q n s) :
    Kept q n (busOffWaitEnd s a1) := by
  unfold busOffWaitEnd
  repeat' first | with_reducible assumption | with_reducible apply State.setF_kept | with_reducible apply Kept.ite

theorem canAbortRecord_kept {q n} {s : State} {a1} {a2} (h : Kept q n s) :
    Kept q n (canAbortRecord s a1 a2) := by
  unfold canAbortRecord
  repeat' first
    | with_reducible assumption
    | lift_lets
    | (intro x; refine Kept.cut (q := q) (n := n) (x := x) ?_ ?_; subst x; rotate_left; clear_value x; intro hx)
    | with_reducible apply State.canAbortAll_kept
    | with_reducible apply State.consume_kept
    | with_reducible apply Kept.ite

theorem canArbitrationStart_kept {q n} {s : State} {a1} (h : Kept q n s) :
    Kept q n (canArbitrationStart s a1) := by
  unfold canArbitrationStart
  repeat' first
    | with_reducible assumption
    | lift_lets
    | (intro x; refine Kept.cut (q := q) (n := n) (x := x) ?_ ?_; subst x; rotate_left; clear_value x; intro hx)
    | (intro x; clear_value x)
    | with_reducible apply State.canStart_kept
    | with_reducible apply State.modCan_kept
    | with_reducible apply State.set1_kept
    | with_reducible apply Kept.ite
    | split

theorem canBusError_kept {q n} {s : State} {a1} {a2} {a3} {a4} {a5} (h : Kept q n s) :
    Kept q n (canBusError s a1 a2 a3 a4 a5) := by
  unfold canBusError
  repeat' first | with_reducible assumption | with_reducible apply State.canError_kept | with_reducible apply Kept.ite

theorem canFrameReceive_kept {q n} {s : State} {a1} {a2} {a3} (h : Kept q n s) :
    Kept q n (canFrameReceive s a1 a2 a3) := by
  unfold canFrameReceive
  repeat' first
    | with_reducible assumption
    | lift_lets
    | (intro x; refine Kept.cut (q := q) (n := n) (x := x) ?_ ?_; subst x; rotate_left; clear_value x; intro hx)
    | with_reducible apply State.refReceive_kept
    | with_reducible apply State.canErrors_kept
    | with_reducible apply State.recAfter_kept
    | with_reducible apply State.raiseSec_kept
    | with_reducible apply State.canTake_kept
    | with_reducible apply State.modCan_kept
    | with_reducible apply State.set1_kept
    | with_reducible apply State.inc_kept
    | with_reducible apply Kept.ite
    | split

theorem canTxEnd_kept {q n} {s : State} {a1} {a2} {a3} {a4} (h : Kept q n s) :
    Kept q n (canTxEnd s a1 a2 a3 a4) := by
  unfold canTxEnd
  repeat' first
    | with_reducible assumption
    | lift_lets
    | (intro x; refine Kept.cut (q := q) (n := n) (x := x) ?_ ?_; subst x; rotate_left; clear_value x; intro hx)
    | with_reducible apply State.canUnsent_kept
    | with_reducible apply State.canErrors_kept
    | with_reducible apply State.canError_kept
    | with_reducible apply State.refSent_kept
    | with_reducible apply State.canSent_kept
    | with_reducible apply State.modCan_kept
    | with_reducible apply State.setF_kept
    | with_reducible apply State.inc_kept
    | with_reducible apply State.clr_kept
    | with_reducible apply Kept.ite
    | split

theorem masterPrioritySend_kept {q n} {s : State} {a1} (h : Kept q n s) :
    Kept q n (masterPrioritySend s a1) := by
  unfold masterPrioritySend
  repeat' first | with_reducible assumption | with_reducible apply State.modCan_kept | with_reducible apply Kept.ite

theorem protocolException_kept {q n} {s : State} {a1} (h : Kept q n s) :
    Kept q n (protocolException s a1) := by
  unfold protocolException
  repeat' first
    | with_reducible assumption
    | with_reducible apply State.raiseSec_kept
    | with_reducible apply State.modCan_kept
    | with_reducible apply State.set1_kept
    | with_reducible apply State.clr_kept
    | with_reducible apply Kept.ite

theorem send8_kept {q n} {s : State} {a1} {a2} (h : Kept q n s) :
    Kept q n (send8 s a1 a2) := by
  unfold send8
  repeat' first
    | with_reducible assumption
    | lift_lets
    | (intro x; refine Kept.cut (q := q) (n := n) (x := x) ?_ ?_; subst x; rotate_left; clear_value x; intro hx)
    | (intro x; clear_value x)
    | with_reducible apply State.canRequest_kept
    | with_reducible apply State.consume_kept
    | with_reducible apply State.modCan_kept
    | with_reducible apply State.setF_kept
    | with_reducible apply State.set1_kept
    | with_reducible apply State.wrN_kept
    | with_reducible apply State.inc_kept
    | with_reducible apply Kept.ite

theorem siStatusFrame_kept {q n} {s : State} (h : Kept q n s) :
    Kept q n (siStatusFrame s) := by
  unfold siStatusFrame
  repeat' first
    | with_reducible assumption
    | lift_lets
    | (intro x; refine Kept.cut (q := q) (n := n) (x := x) ?_ ?_; subst x; rotate_left; clear_value x; intro hx)
    | (intro x; clear_value x)
    | with_reducible apply State.canOwn_kept
    | with_reducible apply State.modSf_kept
    | with_reducible apply State.setF_kept
    | with_reducible apply Kept.ite

theorem statusFrameSend_kept {q n} {s : State} {a1} {a2} (h : Kept q n s) :
    Kept q n (statusFrameSend s a1 a2) := by
  unfold statusFrameSend
  repeat' first | with_reducible assumption | with_reducible apply State.set1_kept | with_reducible apply Kept.ite

theorem transmit_kept {q n} {s : State} {a1} {a2} (h : Kept q n s) :
    Kept q n (transmit s a1 a2) := by
  unfold transmit
  repeat' first
    | with_reducible assumption
    | lift_lets
    | (intro x; refine Kept.cut (q := q) (n := n) (x := x) ?_ ?_; subst x; rotate_left; clear_value x; intro hx)
    | with_reducible apply State.canRequest_kept
    | with_reducible apply State.consume_kept
    | with_reducible apply Kept.ite

theorem ttCycleStart_kept {q n} {s : State} {a1} (h : Kept q n s) :
    Kept q n (ttCycleStart s a1) := by
  unfold ttCycleStart
  repeat' first | with_reducible assumption | with_reducible apply State.modCan_kept | with_reducible apply Kept.ite

theorem ttReferenceLoss_kept {q n} {s : State} {a1} (h : Kept q n s) :
    Kept q n (ttReferenceLoss s a1) := by
  unfold ttReferenceLoss
  repeat' first | with_reducible assumption | with_reducible apply State.ttSevere_kept | with_reducible apply Kept.ite

theorem ttTrigger_kept {q n} {s : State} {a1} {a2} (h : Kept q n s) :
    Kept q n (ttTrigger s a1 a2) := by
  unfold ttTrigger
  repeat' first
    | with_reducible assumption
    | lift_lets
    | (intro x; refine Kept.cut (q := q) (n := n) (x := x) ?_ ?_; subst x; rotate_left; clear_value x; intro hx)
    | (intro x; clear_value x)
    | with_reducible apply State.ttMiss_kept
    | with_reducible apply State.modCan_kept
    | with_reducible apply State.set1_kept
    | with_reducible apply Kept.ite
    | split

theorem ttTxWindowMiss_kept {q n} {s : State} {a1} {a2} (h : Kept q n s) :
    Kept q n (ttTxWindowMiss s a1 a2) := by
  unfold ttTxWindowMiss
  repeat' first
    | with_reducible assumption
    | lift_lets
    | (intro x; clear_value x)
    | with_reducible apply State.ttError_kept
    | with_reducible apply State.canFail_kept
    | with_reducible apply State.ttMiss_kept
    | with_reducible apply State.modCan_kept
    | split
    | dsimp only

end Sys2Proof.Machine
end

