-- ==== Sys2Proof/Laws/KeptFields.lean ====
section
/-! SUPPORT. What the operations of Machine/Fields.lean keep (`Kept`). -/
namespace Sys2Proof.Machine

theorem State.fieldDefaults_kept {q n} {s : State} (h : Kept q n s) :
    Kept q n (State.fieldDefaults s) := by
  unfold State.fieldDefaults
  repeat' first
    | with_reducible assumption
    | intro x y (hx : Kept q n x)
    | with_reducible apply State.forEach_kept
    | with_reducible apply State.setF_kept
    | with_reducible apply Kept.ite

theorem State.putTable_kept {q n} {s : State} {a1} {a2} (h : Kept q n s) :
    Kept q n (State.putTable s a1 a2) := by
  induction a2 generalizing s a1 with
  | nil => simpa [State.putTable] using h
  | cons x t ih =>
    unfold State.putTable
    repeat' first | with_reducible assumption | lift_lets | with_reducible apply ih | with_reducible apply State.setF_kept

theorem State.withSpCount_kept {q n} {s : State} {a1} (h : Kept q n s) :
    Kept q n (State.withSpCount s a1) := by
  unfold State.withSpCount
  repeat' first | with_reducible assumption | lift_lets | (intro x; clear_value x) | simp only [Kept.mk]

theorem Build.run_kept {q n} {f : Build → Nat → List Nat → Build} {b : Build} {i l} (h : Kept q n b.s)
    (hf : ∀ c j e, Kept q n c.s → Kept q n (f c j e).s) : Kept q n (Build.run f b i l).s := by
  induction l generalizing b i with
  | nil => exact h
  | cons e t ih =>
    unfold Build.run
    split
    · exact h
    · exact ih (hf _ _ _ h)

theorem Build.ite_kept {q n} {c : Prop} [Decidable c] {a b : Build} (ha : Kept q n a.s) (hb : Kept q n b.s) :
    Kept q n (if c then a else b).s := by
  split
  · exact ha
  · exact hb

theorem Build.regEntry_kept {q n} {b : Build} {i e} (h : Kept q n b.s) : Kept q n (Build.regEntry b i e).s := by
  unfold Build.regEntry
  exact Build.ite_kept (State.wrN_kept h) h

theorem Build.block_kept {q n} {b : Build} {k i p l} (h : Kept q n b.s) : Kept q n (Build.block b k i p l).s := by
  induction k generalizing b i p l with
  | zero => exact h
  | succ k ih =>
    unfold Build.block
    dsimp only
    split
    · exact h
    · split
      · exact h
      · exact ih (State.putTable_kept h)

theorem Build.queueEntry_kept {q n} {p i e} {b : Build} (h : Kept q n b.s) : Kept q n (Build.queueEntry p b i e).s := by
  unfold Build.queueEntry
  dsimp only
  split
  · exact Kept.upd h rfl rfl rfl
  · exact h

theorem Build.selEntry_kept {q n} {p i e} {b : Build} (h : Kept q n b.s) : Kept q n (Build.selEntry p b i e).s := by
  unfold Build.selEntry
  dsimp only
  split
  · exact Kept.upd h rfl rfl rfl
  · exact h

theorem Build.queues_kept {q n} {p l} {b : Build} (h : Kept q n b.s) : Kept q n (Build.queues b p l).s := by
  unfold Build.queues
  dsimp only
  split
  · exact h
  · exact Build.run_kept (Build.run_kept h (fun c j e hc => Build.queueEntry_kept hc)) (fun c j e hc => Build.selEntry_kept hc)

theorem Build.spEntry_kept {q n} {p i e} {b : Build} (h : Kept q n b.s) : Kept q n (Build.spEntry p b i e).s := by
  unfold Build.spEntry
  exact Build.ite_kept (State.putTable_kept h) h

theorem Build.desatDefaults_kept {q n} {b : Build} (h : Kept q n b.s) : Kept q n (Build.desatDefaults b).s := by
  unfold Build.desatDefaults
  refine State.each_kept h ?_
  intro t j ht
  split
  · exact ht
  · exact State.setF_kept ht

theorem Build.andThen_kept {q n} {b : Build} {f : Build → Build} (h : Kept q n b.s) (hf : ∀ c, Kept q n c.s → Kept q n (f c).s) :
    Kept q n (Build.andThen b f).s := Build.ite_kept h (hf _ h)

theorem buildImage_kept {q n} {s : State} {base} (h : Kept q n s) : Kept q n (buildImage s base).1.s := by
  unfold buildImage
  dsimp only
  refine State.withSpCount_kept ?_
  refine Build.andThen_kept ?_ (fun _ hc => Build.run_kept hc (fun _ _ _ hd => Build.spEntry_kept hd))
  refine Build.andThen_kept ?_ (fun _ hc => Build.queues_kept hc)
  refine Build.andThen_kept ?_ (fun _ hc => Build.block_kept hc)
  refine Build.desatDefaults_kept ?_
  refine Build.run_kept ?_ (fun _ _ _ hc => Build.regEntry_kept hc)
  dsimp only
  with_reducible apply State.fieldDefaults_kept
  exact State.wr_kept h

end Sys2Proof.Machine
end

