-- ==== Sys2Proof/Laws/KeptStart.lean ====
section
/-! SUPPORT. What the operations of Machine/Start.lean keep (`Kept`). -/
namespace Sys2Proof.Machine

theorem State.stAngle_kept {q n} {s : State} {a1} {a2} {a3} (h : Kept q n s) :
    Kept q n (State.stAngle s a1 a2 a3) := by
  unfold State.stAngle
  repeat' first | with_reducible assumption | with_reducible apply State.modSt_kept | with_reducible apply State.emit_kept

theorem State.stCurrent_kept {q n} {s : State} {a1} {a2} {a3} {a4} (h : Kept q n s) :
    Kept q n (State.stCurrent s a1 a2 a3 a4) := by
  unfold State.stCurrent
  repeat' first | with_reducible assumption | lift_lets | (intro x; clear_value x) | with_reducible apply State.emit_kept

theorem State.alignSend_kept {q n} {s : State} {a1} (h : Kept q n s) :
    Kept q n (State.alignSend s a1) := by
  unfold State.alignSend
  repeat' first | with_reducible assumption | with_reducible apply State.stCurrent_kept | with_reducible apply State.stAngle_kept

theorem State.setSst_kept {q n} {s : State} {a1} {a2} (h : Kept q n s) :
    Kept q n (State.setSst s a1 a2) := by
  unfold State.setSst
  repeat' first | with_reducible assumption | with_reducible apply State.modSt_kept | with_reducible apply State.setF_kept

theorem State.stEnable_kept {q n} {s : State} {a1} {a2} (h : Kept q n s) :
    Kept q n (State.stEnable s a1 a2) := by
  unfold State.stEnable
  repeat' first | with_reducible assumption | with_reducible apply State.emit_kept

theorem State.align_kept {q n} {s : State} {a1} (h : Kept q n s) :
    Kept q n (State.align s a1) := by
  unfold State.align
  repeat' first
    | with_reducible assumption
    | with_reducible apply State.alignSend_kept
    | with_reducible apply State.stEnable_kept
    | with_reducible apply State.setSst_kept

theorem State.stLe_kept {q n} {s : State} {a1} {a2} {a3} (h : Kept q n s) :
    Kept q n (State.stLe s a1 a2 a3) := by
  unfold State.stLe
  repeat' first | with_reducible assumption | with_reducible apply State.emit_kept

theorem State.stLeOn_kept {q n} {s : State} {a1} {a2} {a3} (h : Kept q n s) :
    Kept q n (State.stLeOn s a1 a2 a3) := by
  unfold State.stLeOn
  repeat' first
    | with_reducible assumption
    | lift_lets
    | (intro x; refine Kept.cut (q := q) (n := n) (x := x.1) ?_ ?_; subst x; rotate_left; clear_value x; intro hx)
    | with_reducible apply State.draw_kept
    | with_reducible apply State.stLe_kept

theorem State.stRunning_kept {q n} {s : State} {a1} (h : Kept q n s) :
    Kept q n (State.stRunning s a1) := by
  unfold State.stRunning
  repeat' first
    | with_reducible assumption
    | with_reducible apply State.setSst_kept
    | with_reducible apply State.modSt_kept
    | with_reducible apply State.inc_kept

theorem State.checkPass_kept {q n} {s : State} {a1} (h : Kept q n s) :
    Kept q n (State.checkPass s a1) := by
  unfold State.checkPass
  repeat' first
    | with_reducible assumption
    | with_reducible apply State.stRunning_kept
    | with_reducible apply State.stCurrent_kept
    | with_reducible apply State.stEnable_kept
    | with_reducible apply State.setSst_kept
    | with_reducible apply State.stLeOn_kept
    | with_reducible apply State.align_kept
    | with_reducible apply State.modSt_kept
    | with_reducible apply Kept.ite

theorem State.modLe_kept {q n} {s : State} {a1} {a2} (h : Kept q n s) :
    Kept q n (State.modLe s a1 a2) := by
  unfold State.modLe
  repeat' first | with_reducible assumption | lift_lets | (intro x; clear_value x) | simp only [Kept.mk]

theorem State.dclCmd_kept {q n} {s : State} {v} {act : State → Nat × State} (h : Kept q n s)
    (ha : ∀ t, Kept q n t → Kept q n (act t).2) : Kept q n (State.dclCmd s v act) := State.cmdBiv_kept h ha

theorem dclClearCounters_kept {q n} {s : State} (h : Kept q n s) :
    Kept q n (dclClearCounters s) := by
  unfold dclClearCounters
  repeat' first | with_reducible assumption | intro x (hx : Kept q n x) | with_reducible apply State.dclCmd_kept | with_reducible apply State.wr_kept

theorem State.setDst_kept {q n} {s : State} {a1} (h : Kept q n s) :
    Kept q n (State.setDst s a1) := by
  unfold State.setDst
  repeat' first | with_reducible assumption | with_reducible apply State.setF_kept

theorem dclDischarge_kept {q n} {s : State} (h : Kept q n s) :
    Kept q n (dclDischarge s) := by
  unfold dclDischarge
  repeat' first
    | with_reducible assumption
    | intro x (hx : Kept q n x)
    | with_reducible apply State.dclCmd_kept
    | with_reducible apply State.setDst_kept
    | split

theorem State.mainOff_kept {q n} {s : State} (h : Kept q n s) :
    Kept q n (State.mainOff s) := by
  unfold State.mainOff
  repeat' first | with_reducible assumption | with_reducible apply State.auxOff_kept

theorem dclOpen_kept {q n} {s : State} (h : Kept q n s) :
    Kept q n (dclOpen s) := by
  unfold dclOpen
  repeat' first
    | with_reducible assumption
    | intro x (hx : Kept q n x)
    | with_reducible apply State.mainOff_kept
    | with_reducible apply State.dclCmd_kept
    | with_reducible apply State.setDst_kept
    | split

theorem State.preOn_kept {q n} {s : State} (h : Kept q n s) :
    Kept q n (State.preOn s) := by
  unfold State.preOn
  repeat' first | with_reducible assumption | with_reducible apply State.auxOn_kept

theorem dclPrecharge_kept {q n} {s : State} (h : Kept q n s) :
    Kept q n (dclPrecharge s) := by
  unfold dclPrecharge
  repeat' first
    | with_reducible assumption
    | intro x (hx : Kept q n x)
    | with_reducible apply State.dclRaise_kept
    | with_reducible apply State.dclCmd_kept
    | with_reducible apply State.setDst_kept
    | with_reducible apply State.preOn_kept
    | with_reducible apply State.inc_kept
    | split

theorem dclReset_kept {q n} {s : State} (h : Kept q n s) :
    Kept q n (dclReset s) := by
  unfold dclReset
  repeat' first
    | with_reducible assumption
    | intro x (hx : Kept q n x)
    | with_reducible apply State.dclCmd_kept
    | with_reducible apply State.setDst_kept
    | split

theorem State.preOff_kept {q n} {s : State} (h : Kept q n s) :
    Kept q n (State.preOff s) := by
  unfold State.preOff
  repeat' first | with_reducible assumption | with_reducible apply State.auxOff_kept

theorem mainConfirmed_kept {q n} {s : State} (h : Kept q n s) :
    Kept q n (mainConfirmed s) := by
  unfold mainConfirmed
  repeat' first
    | with_reducible assumption
    | intro x (hx : Kept q n x)
    | with_reducible apply State.dclCmd_kept
    | with_reducible apply State.setDst_kept
    | with_reducible apply State.preOff_kept
    | split

theorem stClearCounters_kept {q n} {s : State} {a1} (h : Kept q n s) :
    Kept q n (stClearCounters s a1) := by
  unfold stClearCounters
  repeat' first | with_reducible assumption | intro x (hx : Kept q n x) | with_reducible apply State.zero_kept | with_reducible apply State.cmd_kept

theorem State.stCause_kept {q n} {s : State} {a1} {a2} (h : Kept q n s) :
    Kept q n (State.stCause s a1 a2) := by
  unfold State.stCause
  repeat' first | with_reducible assumption | with_reducible apply State.setF_kept

theorem State.stStop_kept {q n} {s : State} {a1} {a2} (h : Kept q n s) :
    Kept q n (State.stStop s a1 a2) := by
  unfold State.stStop
  repeat' first
    | with_reducible assumption
    | with_reducible apply State.stEnable_kept
    | with_reducible apply State.stCause_kept
    | with_reducible apply State.setSst_kept
    | with_reducible apply State.modSt_kept

theorem stCoast_kept {q n} {s : State} {a1} (h : Kept q n s) :
    Kept q n (stCoast s a1) := by
  unfold stCoast
  repeat' first
    | with_reducible assumption
    | intro x (hx : Kept q n x)
    | lift_lets
    | (intro x; refine Kept.cut (q := q) (n := n) (x := x) ?_ ?_; subst x; rotate_left; clear_value x; intro hx)
    | with_reducible apply State.brakeApply_kept
    | with_reducible apply State.stStop_kept
    | with_reducible apply State.cmd_kept
    | with_reducible apply Kept.ite
    | split

theorem stReset_kept {q n} {s : State} {a1} (h : Kept q n s) :
    Kept q n (stReset s a1) := by
  unfold stReset
  repeat' first
    | with_reducible assumption
    | intro x (hx : Kept q n x)
    | with_reducible apply State.setSst_kept
    | with_reducible apply State.setF_kept
    | with_reducible apply State.cmd_kept
    | split

theorem State.startRefused_kept {q n} {s : State} {a1} {a2} (h : Kept q n s) :
    Kept q n (State.startRefused s a1 a2) := by
  unfold State.startRefused
  repeat' first
    | with_reducible assumption
    | with_reducible apply State.stCause_kept
    | with_reducible apply State.setSst_kept
    | with_reducible apply State.raise_kept
    | with_reducible apply State.set1_kept

theorem stStart_kept {q n} {s : State} {a1} (h : Kept q n s) :
    Kept q n (stStart s a1) := by
  unfold stStart
  repeat' first
    | with_reducible assumption
    | intro x (hx : Kept q n x)
    | with_reducible apply State.startRefused_kept
    | with_reducible apply State.stCause_kept
    | with_reducible apply State.setSst_kept
    | with_reducible apply State.modSt_kept
    | with_reducible apply State.setF_kept
    | with_reducible apply State.cmd_kept
    | split

theorem State.rampFrom_kept {q n} {s : State} {a1} {a2} {a3} {a4} (h : Kept q n s) :
    Kept q n (State.rampFrom s a1 a2 a3 a4) := by
  unfold State.rampFrom
  repeat' first | with_reducible assumption | with_reducible apply State.modSt_kept

theorem State.rampAim_kept {q n} {s : State} {a1} {a2} (h : Kept q n s) :
    Kept q n (State.rampAim s a1 a2) := by
  unfold State.rampAim
  repeat' first | with_reducible assumption | with_reducible apply State.rampFrom_kept

theorem State.rampSend_kept {q n} {s : State} {a1} (h : Kept q n s) :
    Kept q n (State.rampSend s a1) := by
  unfold State.rampSend
  repeat' first | with_reducible assumption | with_reducible apply State.stAngle_kept

theorem State.stStopping_kept {q n} {s : State} {a1} (h : Kept q n s) :
    Kept q n (State.stStopping s a1) := by
  unfold State.stStopping
  repeat' first
    | with_reducible assumption
    | lift_lets
    | (intro x; refine Kept.cut (q := q) (n := n) (x := x) ?_ ?_; subst x; rotate_left; clear_value x; intro hx)
    | (intro x; subst x)
    | with_reducible apply State.rampSend_kept
    | with_reducible apply State.rampAim_kept
    | with_reducible apply State.setSst_kept
    | with_reducible apply State.modSt_kept
    | with_reducible apply State.stLe_kept
    | with_reducible apply Kept.ite

theorem stStop_kept {q n} {s : State} {a1} (h : Kept q n s) :
    Kept q n (stStop s a1) := by
  unfold stStop
  repeat' first
    | with_reducible assumption
    | intro x (hx : Kept q n x)
    | lift_lets
    | (intro x; clear_value x)
    | with_reducible apply State.stStopping_kept
    | with_reducible apply State.stStop_kept
    | with_reducible apply State.cmd_kept
    | split

theorem State.mainOn_kept {q n} {s : State} (h : Kept q n s) :
    Kept q n (State.mainOn s) := by
  unfold State.mainOn
  repeat' first | with_reducible assumption | with_reducible apply State.auxOn_kept

theorem State.proofFail_kept {q n} {s : State} {a1} {a2} (h : Kept q n s) :
    Kept q n (State.proofFail s a1 a2) := by
  unfold State.proofFail
  repeat' first
    | with_reducible assumption
    | with_reducible apply State.brakeApply_kept
    | with_reducible apply State.stStop_kept
    | with_reducible apply State.raise_kept
    | with_reducible apply State.set1_kept

theorem State.stRenew_kept {q n} {s : State} {a1} (h : Kept q n s) :
    Kept q n (State.stRenew s a1) := by
  unfold State.stRenew
  repeat' first
    | with_reducible assumption
    | lift_lets
    | (intro x; clear_value x)
    | with_reducible apply State.alignSend_kept
    | with_reducible apply State.rampSend_kept
    | with_reducible apply Kept.ite

theorem State.stPeriod_kept {q n} {s : State} (h : Kept q n s) :
    Kept q n (State.stPeriod s) := by
  unfold State.stPeriod
  repeat' first
    | with_reducible assumption
    | intro x y (hx : Kept q n x)
    | with_reducible apply State.stRenew_kept
    | with_reducible apply State.each_kept
    | with_reducible apply Kept.ite

theorem State.takeBack_kept {q n} {s : State} {a1} {a2} {a3} {a4} (h : Kept q n s) :
    Kept q n (State.takeBack s a1 a2 a3 a4) := by
  unfold State.takeBack
  repeat' first
    | with_reducible assumption
    | with_reducible apply State.stCurrent_kept
    | with_reducible apply State.rampFrom_kept
    | with_reducible apply State.rampSend_kept
    | with_reducible apply State.stLe_kept

theorem State.tryFailed_kept {q n} {s : State} {a1} {a2} (h : Kept q n s) :
    Kept q n (State.tryFailed s a1 a2) := by
  unfold State.tryFailed
  repeat' first
    | with_reducible assumption
    | lift_lets
    | (intro x; refine Kept.cut (q := q) (n := n) (x := x) ?_ ?_; subst x; rotate_left; clear_value x; intro hx)
    | (intro x; clear_value x)
    | with_reducible apply State.stStop_kept
    | with_reducible apply State.setSst_kept
    | with_reducible apply State.raise_kept
    | with_reducible apply State.modSt_kept
    | with_reducible apply State.setF_kept
    | with_reducible apply State.set1_kept
    | with_reducible apply State.inc_kept
    | with_reducible apply Kept.ite

theorem alignTimeEnd_kept {q n} {s : State} {a1} (h : Kept q n s) :
    Kept q n (alignTimeEnd s a1) := by
  unfold alignTimeEnd
  repeat' first
    | with_reducible assumption
    | with_reducible apply State.stCurrent_kept
    | with_reducible apply State.rampFrom_kept
    | with_reducible apply State.rampSend_kept
    | with_reducible apply State.setSst_kept
    | with_reducible apply Kept.ite

theorem brakeApplyWaitEnd_kept {q n} {s : State} {a1} (h : Kept q n s) :
    Kept q n (brakeApplyWaitEnd s a1) := by
  unfold brakeApplyWaitEnd
  repeat' first | with_reducible assumption | with_reducible apply State.stStop_kept | with_reducible apply Kept.ite

theorem brakeReleaseWaitEnd_kept {q n} {s : State} {a1} (h : Kept q n s) :
    Kept q n (brakeReleaseWaitEnd s a1) := by
  unfold brakeReleaseWaitEnd
  repeat' first
    | with_reducible assumption
    | with_reducible apply State.brakeApply_kept
    | with_reducible apply State.stRunning_kept
    | with_reducible apply State.proofFail_kept
    | with_reducible apply State.siRaise_kept
    | with_reducible apply State.stLeOn_kept
    | with_reducible apply Kept.ite

theorem catchSyncEnd_kept {q n} {s : State} {a1} {a2} (h : Kept q n s) :
    Kept q n (catchSyncEnd s a1 a2) := by
  unfold catchSyncEnd
  repeat' first
    | with_reducible assumption
    | lift_lets
    | (intro x; clear_value x)
    | with_reducible apply State.stRunning_kept
    | with_reducible apply State.stLeOn_kept
    | with_reducible apply Kept.ite

theorem catchTimeout_kept {q n} {s : State} {a1} (h : Kept q n s) :
    Kept q n (catchTimeout s a1) := by
  unfold catchTimeout
  repeat' first | with_reducible assumption | with_reducible apply State.tryFailed_kept | with_reducible apply Kept.ite

theorem checkComplete_kept {q n} {s : State} {a1} (h : Kept q n s) :
    Kept q n (checkComplete s a1) := by
  unfold checkComplete
  repeat' first
    | with_reducible assumption
    | lift_lets
    | (intro x; refine Kept.cut (q := q) (n := n) (x := x) ?_ ?_; subst x; rotate_left; clear_value x; intro hx)
    | (intro x; clear_value x)
    | with_reducible apply State.startRefused_kept
    | with_reducible apply State.checkPass_kept
    | with_reducible apply State.cmdEnd_kept
    | with_reducible apply Kept.ite

theorem dischargeDone_kept {q n} {s : State} (h : Kept q n s) :
    Kept q n (dischargeDone s) := by
  unfold dischargeDone
  repeat' first | with_reducible assumption | with_reducible apply State.setDst_kept | with_reducible apply Kept.ite

theorem dischargeTimeout_kept {q n} {s : State} (h : Kept q n s) :
    Kept q n (dischargeTimeout s) := by
  unfold dischargeTimeout
  repeat' first
    | with_reducible assumption
    | with_reducible apply State.dclRaise_kept
    | with_reducible apply State.setDst_kept
    | with_reducible apply Kept.ite

theorem handoverConfirmed_kept {q n} {s : State} {a1} {a2} (h : Kept q n s) :
    Kept q n (handoverConfirmed s a1 a2) := by
  unfold handoverConfirmed
  repeat' first
    | with_reducible assumption
    | lift_lets
    | (intro x; refine Kept.cut (q := q) (n := n) (x := x) ?_ ?_; subst x; rotate_left; clear_value x; intro hx)
    | (intro x; clear_value x)
    | with_reducible apply State.stRunning_kept
    | with_reducible apply State.stCurrent_kept
    | with_reducible apply State.stAngle_kept
    | with_reducible apply State.stLeOn_kept
    | with_reducible apply State.stLe_kept
    | with_reducible apply Kept.ite

theorem handoverTimeout_kept {q n} {s : State} {a1} (h : Kept q n s) :
    Kept q n (handoverTimeout s a1) := by
  unfold handoverTimeout
  repeat' first | with_reducible assumption | with_reducible apply State.tryFailed_kept | with_reducible apply Kept.ite

theorem keTrackingWindow_kept {q n} {s : State} {a1} {a2} (h : Kept q n s) :
    Kept q n (keTrackingWindow s a1 a2) := by
  unfold keTrackingWindow
  repeat' first
    | with_reducible assumption
    | lift_lets
    | (intro x; refine Kept.cut (q := q) (n := n) (x := x) ?_ ?_; subst x; rotate_left; clear_value x; intro hx)
    | (intro x; clear_value x)
    | with_reducible apply State.raise_kept
    | with_reducible apply State.modSt_kept
    | with_reducible apply State.set1_kept
    | with_reducible apply State.wrN_kept
    | with_reducible apply Kept.ite

theorem keVerdict_kept {q n} {s : State} {a1} (h : Kept q n s) :
    Kept q n (keVerdict s a1) := by
  unfold keVerdict
  repeat' first
    | with_reducible assumption
    | lift_lets
    | (intro x; refine Kept.cut (q := q) (n := n) (x := x) ?_ ?_; subst x; rotate_left; clear_value x; intro hx)
    | (intro x; clear_value x)
    | with_reducible apply State.requestSs1_kept
    | with_reducible apply State.raiseStop_kept
    | with_reducible apply State.stCause_kept
    | with_reducible apply State.setSst_kept
    | with_reducible apply State.modSt_kept
    | with_reducible apply State.set1_kept
    | with_reducible apply Kept.ite

theorem mainTimeout_kept {q n} {s : State} (h : Kept q n s) :
    Kept q n (mainTimeout s) := by
  unfold mainTimeout
  repeat' first
    | with_reducible assumption
    | with_reducible apply State.dclRaise_kept
    | with_reducible apply State.mainOff_kept
    | with_reducible apply State.setDst_kept
    | with_reducible apply State.preOff_kept
    | with_reducible apply Kept.ite

theorem passEntry_kept {q n} {s : State} {a1} {a2} {a3} (h : Kept q n s) :
    Kept q n (passEntry s a1 a2 a3) := by
  unfold passEntry
  repeat' first
    | with_reducible assumption
    | lift_lets
    | (intro x; subst x)
    | with_reducible apply State.takeBack_kept
    | with_reducible apply State.setSst_kept
    | with_reducible apply State.stLe_kept
    | with_reducible apply Kept.ite

theorem prechargeSettled_kept {q n} {s : State} (h : Kept q n s) :
    Kept q n (prechargeSettled s) := by
  unfold prechargeSettled
  repeat' first
    | with_reducible assumption
    | with_reducible apply State.mainOn_kept
    | with_reducible apply State.setDst_kept
    | with_reducible apply Kept.ite

theorem prechargeT1Check_kept {q n} {s : State} (h : Kept q n s) :
    Kept q n (prechargeT1Check s) := by
  unfold prechargeT1Check
  repeat' first
    | with_reducible assumption
    | with_reducible apply State.dclRaise_kept
    | with_reducible apply State.setDst_kept
    | with_reducible apply State.preOff_kept
    | with_reducible apply Kept.ite

theorem prechargeTimeout_kept {q n} {s : State} (h : Kept q n s) :
    Kept q n (prechargeTimeout s) := by
  unfold prechargeTimeout
  repeat' first
    | with_reducible assumption
    | with_reducible apply State.dclRaise_kept
    | with_reducible apply State.setDst_kept
    | with_reducible apply State.preOff_kept
    | with_reducible apply Kept.ite

theorem proofPassed_kept {q n} {s : State} {a1} (h : Kept q n s) :
    Kept q n (proofPassed s a1) := by
  unfold proofPassed
  repeat' first | with_reducible assumption | with_reducible apply State.modSt_kept | with_reducible apply Kept.ite

theorem proofTimeout_kept {q n} {s : State} {a1} (h : Kept q n s) :
    Kept q n (proofTimeout s a1) := by
  unfold proofTimeout
  repeat' first | with_reducible assumption | with_reducible apply State.proofFail_kept | with_reducible apply Kept.ite

theorem rampReached_kept {q n} {s : State} {a1} (h : Kept q n s) :
    Kept q n (rampReached s a1) := by
  unfold rampReached
  repeat' first
    | with_reducible assumption
    | with_reducible apply State.rampSend_kept
    | with_reducible apply State.setSst_kept
    | with_reducible apply Kept.ite

theorem senseWindowEnd_kept {q n} {s : State} {a1} {a2} (h : Kept q n s) :
    Kept q n (senseWindowEnd s a1 a2) := by
  unfold senseWindowEnd
  repeat' first
    | with_reducible assumption
    | lift_lets
    | (intro x; refine Kept.cut (q := q) (n := n) (x := x) ?_ ?_; subst x; rotate_left; clear_value x; intro hx)
    | (intro x; clear_value x)
    | with_reducible apply State.tryFailed_kept
    | with_reducible apply State.stCurrent_kept
    | with_reducible apply State.stEnable_kept
    | with_reducible apply State.rampFrom_kept
    | with_reducible apply State.rampSend_kept
    | with_reducible apply State.setSst_kept
    | with_reducible apply State.align_kept
    | with_reducible apply State.wrN_kept
    | with_reducible apply Kept.ite

theorem standstillReached_kept {q n} {s : State} {a1} (h : Kept q n s) :
    Kept q n (standstillReached s a1) := by
  unfold standstillReached
  repeat' first
    | with_reducible assumption
    | with_reducible apply State.brakeApply_kept
    | with_reducible apply State.stStop_kept
    | with_reducible apply State.modSt_kept
    | with_reducible apply Kept.ite

theorem startRetryWaitEnd_kept {q n} {s : State} {a1} (h : Kept q n s) :
    Kept q n (startRetryWaitEnd s a1) := by
  unfold startRetryWaitEnd
  repeat' first
    | with_reducible assumption
    | lift_lets
    | (intro x; clear_value x)
    | with_reducible apply State.setSst_kept
    | with_reducible apply State.modSt_kept
    | with_reducible apply Kept.ite

end Sys2Proof.Machine
end

