-- ==== Sys2Proof/Laws/KeptLoop.lean ====
section
/-! SUPPORT. What the operations of Machine/Loop.lean keep (`Kept`). -/
namespace Sys2Proof.Machine

theorem State.keepY_kept {q n} {s : State} {a1} {a2} {a3} (h : Kept q n s) :
    Kept q n (State.keepY s a1 a2 a3) := by
  unfold State.keepY
  repeat' first | with_reducible assumption | with_reducible apply State.modLe_kept

theorem State.satFlag_kept {q n} {s : State} {a1} {a2} {a3} (h : Kept q n s) :
    Kept q n (State.satFlag s a1 a2 a3) := by
  unfold State.satFlag
  repeat' first
    | with_reducible assumption
    | lift_lets
    | (intro x; refine Kept.cut (q := q) (n := n) (x := x) ?_ ?_; subst x; rotate_left; clear_value x; intro hx)
    | with_reducible apply State.raiseSec_kept
    | with_reducible apply State.modLe_kept
    | with_reducible apply State.set1_kept
    | with_reducible apply Kept.ite

theorem State.setAcc_kept {q n} {s : State} {a1} {a2} {a3} (h : Kept q n s) :
    Kept q n (State.setAcc s a1 a2 a3) := by
  unfold State.setAcc
  repeat' first
    | with_reducible assumption
    | lift_lets
    | (intro x; refine Kept.cut (q := q) (n := n) (x := x) ?_ ?_; subst x; rotate_left; clear_value x; intro hx)
    | (intro x; clear_value x)
    | with_reducible apply State.satFlag_kept
    | with_reducible apply State.modLe_kept
    | with_reducible apply State.wrN_kept
    | with_reducible apply State.wrI_kept

theorem State.setEst_kept {q n} {s : State} {a1} {a2} (h : Kept q n s) :
    Kept q n (State.setEst s a1 a2) := by
  unfold State.setEst
  repeat' first | with_reducible assumption | with_reducible apply State.setF_kept

theorem State.fillLine_kept {q n} {s : State} {a1} {a2} {a3} (h : Kept q n s) :
    Kept q n (State.fillLine s a1 a2 a3) := by
  unfold State.fillLine
  repeat' first
    | with_reducible assumption
    | lift_lets
    | (intro x; refine Kept.cut (q := q) (n := n) (x := x) ?_ ?_; subst x; rotate_left; clear_value x; intro hx)
    | (intro x; clear_value x)
    | with_reducible apply State.modLe_kept
    | with_reducible apply State.inc_kept

theorem State.integrate_kept {q n} {s : State} {a1} {a2} {a3} (h : Kept q n s) :
    Kept q n (State.integrate s a1 a2 a3) := by
  unfold State.integrate
  repeat' first
    | with_reducible assumption
    | lift_lets
    | (intro x; clear_value x)
    | with_reducible apply State.setAcc_kept
    | with_reducible apply Kept.ite

theorem State.leMirror_kept {q n} {s : State} {a1} (h : Kept q n s) :
    Kept q n (State.leMirror s a1) := by
  unfold State.leMirror
  repeat' first | with_reducible assumption | lift_lets | (intro x; clear_value x) | simp only [Kept.mk]

theorem State.limiter_kept {q n} {s : State} {a1} {a2} {a3} (h : Kept q n s) :
    Kept q n (State.limiter s a1 a2 a3).1 := by
  unfold State.limiter
  repeat' first
    | with_reducible assumption
    | lift_lets
    | (intro x; refine Kept.cut (q := q) (n := n) (x := x) ?_ ?_; subst x; rotate_left; clear_value x; intro hx)
    | (intro x; clear_value x)
    | with_reducible apply State.integrate_kept
    | with_reducible apply State.satFlag_kept
    | with_reducible apply State.keepY_kept
    | with_reducible apply State.wrN_kept
    | with_reducible apply Kept.ite
    | split

theorem State.needLine_kept {q n} {s : State} {a1} {a2} {a3} (h : Kept q n s) :
    Kept q n (State.needLine s a1 a2 a3) := by
  unfold State.needLine
  repeat' first
    | with_reducible assumption
    | lift_lets
    | (intro x; clear_value x)
    | with_reducible apply State.fillLine_kept
    | with_reducible apply Kept.ite

theorem State.needLines_kept {q n} {s : State} {a1} {a2} (h : Kept q n s) :
    Kept q n (State.needLines s a1 a2) := by
  unfold State.needLines
  repeat' first
    | with_reducible assumption
    | lift_lets
    | (intro x; refine Kept.cut (q := q) (n := n) (x := x) ?_ ?_; subst x; rotate_left; clear_value x; intro hx)
    | with_reducible apply State.needLine_kept
    | with_reducible apply Kept.ite

theorem State.setServes_kept {q n} {s : State} {a1} {a2} (h : Kept q n s) :
    Kept q n (State.setServes s a1 a2) := by
  unfold State.setServes
  repeat' first | with_reducible assumption | with_reducible apply State.setF_kept | with_reducible apply State.set1_kept

theorem State.profile_kept {q n} {s : State} {a1} {a2} {a3} (h : Kept q n s) :
    Kept q n (State.profile s a1 a2 a3) := by
  unfold State.profile
  repeat' first
    | with_reducible assumption
    | lift_lets
    | (intro x; refine Kept.cut (q := q) (n := n) (x := x) ?_ ?_; subst x; rotate_left; clear_value x; intro hx)
    | (intro x; clear_value x)
    | with_reducible apply State.satFlag_kept
    | with_reducible apply State.modLe_kept
    | with_reducible apply State.set1_kept
    | with_reducible apply Kept.ite

theorem State.tComp_kept {q n} {s : State} {a1} {a2} {a3} (h : Kept q n s) :
    Kept q n (State.tComp s a1 a2 a3).1 := by
  unfold State.tComp
  repeat' first | with_reducible assumption | lift_lets | (intro x; clear_value x) | with_reducible apply State.satFlag_kept

end Sys2Proof.Machine
end

