-- ==== Sys2Proof/Laws/KeptLe.lean ====
section
/-! SUPPORT. What the operations of Machine/Le.lean keep (`Kept`). -/
namespace Sys2Proof.Machine

theorem State.bumpGen_kept {q n} {s : State} {a1} (h : Kept q n s) :
    Kept q n (State.bumpGen s a1) := by
  unfold State.bumpGen
  repeat' first | with_reducible assumption | with_reducible apply State.setGen_kept

theorem State.chopHot_kept {q n} {s : State} {a1} (h : Kept q n s) :
    Kept q n (State.chopHot s a1) := by
  unfold State.chopHot
  repeat' first
    | with_reducible assumption
    | lift_lets
    | (intro x; clear_value x)
    | with_reducible apply State.dclRaise_kept
    | with_reducible apply State.noteChop_kept
    | with_reducible apply State.set1_kept
    | with_reducible apply State.clr_kept
    | with_reducible apply Kept.ite

theorem State.chopSwitch_kept {q n} {s : State} {a1} {a2} {a3} (h : Kept q n s) :
    Kept q n (State.chopSwitch s a1 a2 a3) := by
  unfold State.chopSwitch
  repeat' first
    | with_reducible assumption
    | lift_lets
    | (intro x; clear_value x)
    | with_reducible apply State.emit_kept
    | with_reducible apply Kept.ite

theorem State.setE_kept {q n} {s : State} {a1} (h : Kept q n s) :
    Kept q n (State.setE s a1) := by
  unfold State.setE
  repeat' first | with_reducible assumption | simp only [Kept.mk]

theorem State.chopper_kept {q n} {s : State} {a1} {a2} (h : Kept q n s) :
    Kept q n (State.chopper s a1 a2).1 := by
  unfold State.chopper
  repeat' first
    | with_reducible assumption
    | lift_lets
    | (intro x; refine Kept.cut (q := q) (n := n) (x := x) ?_ ?_; subst x; rotate_left; clear_value x; intro hx)
    | (intro x; clear_value x)
    | with_reducible apply State.chopSwitch_kept
    | with_reducible apply State.chopHot_kept
    | with_reducible apply State.keepY_kept
    | with_reducible apply State.setB_kept
    | with_reducible apply State.setE_kept
    | with_reducible apply State.wrN_kept
    | split

theorem State.modPar_kept {q n} {s : State} {a1} {a2} (h : Kept q n s) :
    Kept q n (State.modPar s a1 a2) := by
  unfold State.modPar
  repeat' first | with_reducible assumption | lift_lets | (intro x; clear_value x) | simp only [Kept.mk]

theorem State.modMember_kept {q n} {s : State} {a1} {a2} {a3} (h : Kept q n s) :
    Kept q n (State.modMember s a1 a2 a3) := by
  unfold State.modMember
  repeat' first | with_reducible assumption | with_reducible apply State.modPar_kept

theorem State.sendHoist_kept {q n} {s : State} {a1} {a2} {a3} (h : Kept q n s) :
    Kept q n (State.sendHoist s a1 a2 a3) := by
  unfold State.sendHoist
  repeat' first
    | with_reducible assumption
    | intro x y (hx : Kept q n x)
    | lift_lets
    | (intro x; refine Kept.cut (q := q) (n := n) (x := x) ?_ ?_; subst x; rotate_left; clear_value x; intro hx)
    | (intro x; clear_value x)
    | with_reducible apply State.forEach_kept
    | with_reducible apply State.emit_kept

theorem State.syncHoist_kept {q n} {s : State} {a1} (h : Kept q n s) :
    Kept q n (State.syncHoist s a1) := by
  unfold State.syncHoist
  repeat' first
    | with_reducible assumption
    | lift_lets
    | (intro x; refine Kept.cut (q := q) (n := n) (x := x) ?_ ?_; subst x; rotate_left; clear_value x; intro hx)
    | (intro x; clear_value x)
    | with_reducible apply State.sendHoist_kept
    | with_reducible apply Kept.ite
    | split
    | with_reducible apply Kept.drawn

theorem leClearCounters_kept {q n} {s : State} {a1} (h : Kept q n s) :
    Kept q n (leClearCounters s a1) := by
  unfold leClearCounters
  repeat' first | with_reducible assumption | intro x (hx : Kept q n x) | with_reducible apply State.zero_kept | with_reducible apply State.cmd_kept

theorem State.parRaise_kept {q n} {s : State} {a1} {a2} (h : Kept q n s) :
    Kept q n (State.parRaise s a1 a2) := by
  unfold State.parRaise
  repeat' first | with_reducible assumption | with_reducible apply State.setBit_kept | with_reducible apply State.raise_kept

theorem State.setPstate_kept {q n} {s : State} {a1} {a2} (h : Kept q n s) :
    Kept q n (State.setPstate s a1 a2) := by
  unfold State.setPstate
  repeat' first | with_reducible assumption | with_reducible apply State.setF_kept

theorem State.setActive_kept {q n} {s : State} {a1} {a2} (h : Kept q n s) :
    Kept q n (State.setActive s a1 a2) := by
  unfold State.setActive
  repeat' first | with_reducible assumption | with_reducible apply State.setF_kept

theorem State.leCopy_kept {q n} {s : State} {a1} (h : Kept q n s) :
    Kept q n (State.leCopy s a1) := by
  unfold State.leCopy
  repeat' first
    | with_reducible assumption
    | intro x y (hx : Kept q n x)
    | lift_lets
    | (intro x; refine Kept.cut (q := q) (n := n) (x := x) ?_ ?_; subst x; rotate_left; clear_value x; intro hx)
    | (intro x; clear_value x)
    | with_reducible apply State.forEach_kept
    | with_reducible apply State.modLe_kept
    | with_reducible apply State.setF_kept
    | with_reducible apply State.wr_kept
    | with_reducible apply Kept.ite

theorem leCheckError_kept {q n} {s : State} {a1} (h : Kept q n s) :
    Kept q n (leCheckError s a1) := by
  unfold leCheckError
  repeat' first
    | with_reducible assumption
    | intro x y (hx : Kept q n x)
    | lift_lets
    | (intro x; refine Kept.cut (q := q) (n := n) (x := x) ?_ ?_; subst x; rotate_left; clear_value x; intro hx)
    | (intro x; clear_value x)
    | with_reducible apply State.raiseStop_kept
    | with_reducible apply State.giveOrSs1_kept
    | with_reducible apply State.bumpGen_kept
    | with_reducible apply State.setEst_kept
    | with_reducible apply State.leCopy_kept
    | with_reducible apply State.setGen_kept
    | with_reducible apply State.raise_kept
    | with_reducible apply State.setF_kept
    | with_reducible apply State.each_kept
    | with_reducible apply State.set1_kept
    | with_reducible apply Kept.ite
    | simp only [Kept.mk]

theorem State.forwardSpeed_kept {q n} {s : State} {a1} {a2} (h : Kept q n s) :
    Kept q n (State.forwardSpeed s a1 a2) := by
  unfold State.forwardSpeed
  repeat' first
    | with_reducible assumption
    | intro x y (hx : Kept q n x)
    | lift_lets
    | (intro x; clear_value x)
    | with_reducible apply State.each_kept
    | with_reducible apply State.emit_kept
    | with_reducible apply Kept.ite

theorem State.integratePart_kept {q n} {s : State} {a1} {a2} {a3} {a4} {a5} {a6} (h : Kept q n s) :
    Kept q n (State.integratePart s a1 a2 a3 a4 a5 a6) := by
  unfold State.integratePart
  repeat' first
    | with_reducible assumption
    | lift_lets
    | (intro x; refine Kept.cut (q := q) (n := n) (x := x) ?_ ?_; subst x; rotate_left; clear_value x; intro hx)
    | (intro x; clear_value x)
    | with_reducible apply State.integrate_kept
    | with_reducible apply State.keepY_kept
    | with_reducible apply Kept.ite

theorem State.joinMembers_kept {q n} {s : State} {a1} (h : Kept q n s) :
    Kept q n (State.joinMembers s a1) := by
  unfold State.joinMembers
  repeat' first
    | with_reducible assumption
    | intro x y (hx : Kept q n x)
    | lift_lets
    | (intro x; refine Kept.cut (q := q) (n := n) (x := x) ?_ ?_; subst x; rotate_left; clear_value x; intro hx)
    | (intro x; clear_value x)
    | with_reducible apply State.modMember_kept
    | with_reducible apply State.syncHoist_kept
    | with_reducible apply State.setActive_kept
    | with_reducible apply State.parRaise_kept
    | with_reducible apply State.forEach_kept
    | with_reducible apply State.clrBit_kept
    | with_reducible apply State.setF_kept
    | with_reducible apply Kept.ite

theorem State.lePreset_kept {q n} {s : State} {a1} {a2} {a3} {a4} (h : Kept q n s) :
    Kept q n (State.lePreset s a1 a2 a3 a4) := by
  unfold State.lePreset
  repeat' first
    | with_reducible assumption
    | with_reducible apply Kept.foldl
    | intro x y (hx : Kept q n x)
    | lift_lets
    | with_reducible apply State.setAcc_kept
    | with_reducible apply State.keepY_kept
    | with_reducible apply State.modLe_kept
    | with_reducible apply Kept.ite

theorem State.leRecord_kept {q n} {s : State} {c k o p} {f : State → State} (h : Kept q n s)
    (hf : ∀ t, Kept q n t → Kept q n (f t)) : Kept q n (State.leRecord s c k o p f) := by
  unfold State.leRecord
  have h1 := State.consume_kept (a1 := 0x880 + 16 * c + k) (a2 := o) (a3 := p) h
  dsimp only
  split
  · exact hf _ h1
  · exact h1

theorem State.leRuntime_kept {q n} {s : State} {c k o p} {f : State → State} (h : Kept q n s)
    (hf : ∀ t, Kept q n t → Kept q n (f t)) : Kept q n (State.leRuntime s c k o p f) := hf _ (State.consume_kept h)

theorem State.leSnap_kept {q n} {s : State} {a1} (h : Kept q n s) :
    Kept q n (State.leSnap s a1) := by
  unfold State.leSnap
  repeat' first
    | with_reducible assumption
    | lift_lets
    | (intro x; clear_value x)
    | with_reducible apply State.emit_kept
    | with_reducible apply Kept.ite

theorem State.leTake_kept {q n} {s : State} {a1} {a2} (h : Kept q n s) :
    Kept q n (State.leTake s a1 a2) := by
  unfold State.leTake
  repeat' first
    | with_reducible assumption
    | lift_lets
    | (intro x; refine Kept.cut (q := q) (n := n) (x := x) ?_ ?_; subst x; rotate_left; clear_value x; intro hx)
    | (intro x; clear_value x)
    | with_reducible apply State.fillLine_kept
    | with_reducible apply State.modLe_kept
    | with_reducible apply State.setF_kept
    | with_reducible apply Kept.ite

theorem State.limitPart_kept {q n} {s : State} {a1} {a2} (h : Kept q n s) :
    Kept q n (State.limitPart s a1 a2).1 := by
  unfold State.limitPart
  repeat' first
    | with_reducible assumption
    | lift_lets
    | (intro x; refine Kept.cut (q := q) (n := n) (x := x.1) ?_ ?_; subst x; rotate_left; clear_value x; intro hx)
    | with_reducible apply State.limiter_kept

theorem State.loopPart_kept {q n} {s : State} {a1} {a2} {a3} {a4} {a5} {a6} (h : Kept q n s) :
    Kept q n (State.loopPart s a1 a2 a3 a4 a5 a6).1 := by
  unfold State.loopPart
  repeat' first
    | with_reducible assumption
    | lift_lets
    | (intro x; refine Kept.cut (q := q) (n := n) (x := x) ?_ ?_; subst x; rotate_left; clear_value x; intro hx)
    | (intro x; clear_value x)
    | with_reducible apply State.satFlag_kept
    | with_reducible apply State.profile_kept
    | with_reducible apply Kept.ite

theorem State.mirrorSend_kept {q n} {s : State} {a1} {a2} {a3} (h : Kept q n s) :
    Kept q n (State.mirrorSend s a1 a2 a3) := by
  unfold State.mirrorSend
  repeat' first
    | with_reducible assumption
    | intro x y (hx : Kept q n x)
    | lift_lets
    | (intro x; clear_value x)
    | with_reducible apply State.sendSlot_kept
    | with_reducible apply State.modPar_kept
    | with_reducible apply State.each_kept
    | with_reducible apply Kept.ite

theorem State.moveCap_kept {q n} {s : State} {a1} {a2} (h : Kept q n s) :
    Kept q n (State.moveCap s a1 a2) := by
  unfold State.moveCap
  repeat' first
    | with_reducible assumption
    | lift_lets
    | (intro x; clear_value x)
    | with_reducible apply State.modMember_kept
    | with_reducible apply State.setF_kept
    | split

theorem State.noteHeld_kept {q n} {s : State} {a1} {a2} (h : Kept q n s) :
    Kept q n (State.noteHeld s a1 a2) := by
  unfold State.noteHeld
  repeat' first
    | with_reducible assumption
    | lift_lets
    | (intro x; refine Kept.cut (q := q) (n := n) (x := x) ?_ ?_; subst x; rotate_left; clear_value x; intro hx)
    | with_reducible apply State.raiseSec_kept
    | with_reducible apply State.modLe_kept
    | with_reducible apply State.set1_kept
    | with_reducible apply State.inc_kept
    | with_reducible apply Kept.ite

theorem State.outputPart_kept {q n} {s : State} {a1} {a2} {a3} {a4} {a5} {a6} {a7} {a8} (h : Kept q n s) :
    Kept q n (State.outputPart s a1 a2 a3 a4 a5 a6 a7 a8) := by
  unfold State.outputPart
  repeat' first
    | with_reducible assumption
    | lift_lets
    | (intro x; refine Kept.cut (q := q) (n := n) (x := x) ?_ ?_; subst x; rotate_left; clear_value x; intro hx)
    | (intro x; clear_value x)
    | with_reducible apply State.satFlag_kept
    | with_reducible apply State.modLe_kept
    | with_reducible apply State.set1_kept
    | with_reducible apply State.emit_kept
    | with_reducible apply State.wrN_kept
    | with_reducible apply State.inc_kept
    | with_reducible apply Kept.ite

theorem State.parRaiseSec_kept {q n} {s : State} {a1} {a2} (h : Kept q n s) :
    Kept q n (State.parRaiseSec s a1 a2) := by
  unfold State.parRaiseSec
  repeat' first | with_reducible assumption | with_reducible apply State.raiseSec_kept | with_reducible apply State.setBit_kept

theorem State.shareOut_kept {q n} {s : State} {a1} {a2} {a3} (h : Kept q n s) :
    Kept q n (State.shareOut s a1 a2 a3).1 := by
  unfold State.shareOut
  repeat' first
    | with_reducible assumption
    | intro x y (hx : Kept q n x)
    | lift_lets
    | (intro x; refine Kept.cut (q := q) (n := n) (x := x) ?_ ?_; subst x; rotate_left; clear_value x; intro hx)
    | (intro x; clear_value x)
    | with_reducible apply State.parRaiseSec_kept
    | with_reducible apply State.sendHoist_kept
    | with_reducible apply State.modMember_kept
    | with_reducible apply State.moveCap_kept
    | with_reducible apply State.forEach_kept
    | with_reducible apply State.setB_kept
    | with_reducible apply State.setF_kept
    | with_reducible apply State.each_kept
    | with_reducible apply State.inc_kept
    | with_reducible apply Kept.ite

theorem State.torquePart_kept {q n} {s : State} {a1} {a2} {a3} {a4} {a5} {a6} {a7} {a8} {a9} {a10} (h : Kept q n s) :
    Kept q n (State.torquePart s a1 a2 a3 a4 a5 a6 a7 a8 a9 a10).1 := by
  unfold State.torquePart
  repeat' first
    | with_reducible assumption
    | lift_lets
    | (intro x; refine Kept.cut (q := q) (n := n) (x := x) ?_ ?_; subst x; rotate_left; clear_value x; intro hx)
    | (intro x; refine Kept.cut (q := q) (n := n) (x := x.1) ?_ ?_; subst x; rotate_left; clear_value x; intro hx)
    | (intro x; clear_value x)
    | with_reducible apply State.shareOut_kept
    | with_reducible apply State.satFlag_kept
    | with_reducible apply State.tComp_kept
    | with_reducible apply State.setB_kept
    | with_reducible apply State.setF_kept
    | split

theorem State.pipeline_kept {q n} {s : State} {a1} {a2} {a3} {a4} {a5} (h : Kept q n s) :
    Kept q n (State.pipeline s a1 a2 a3 a4 a5).1 := by
  unfold State.pipeline
  repeat' first
    | with_reducible assumption
    | lift_lets
    | (intro x; refine Kept.cut (q := q) (n := n) (x := x) ?_ ?_; subst x; rotate_left; clear_value x; intro hx)
    | (intro x; refine Kept.cut (q := q) (n := n) (x := x.1) ?_ ?_; subst x; rotate_left; clear_value x; intro hx)
    | (intro x; clear_value x)
    | with_reducible apply State.integratePart_kept
    | with_reducible apply State.torquePart_kept
    | with_reducible apply State.outputPart_kept
    | with_reducible apply State.limitPart_kept
    | with_reducible apply State.loopPart_kept

theorem State.tabPut_kept {q n} {s : State} {a1} {a2} {a3} {a4} {a5} (h : Kept q n s) :
    Kept q n (State.tabPut s a1 a2 a3 a4 a5) := by
  unfold State.tabPut
  repeat' first
    | with_reducible assumption
    | lift_lets
    | (intro x; clear_value x)
    | with_reducible apply State.setF_kept
    | with_reducible apply Kept.ite

theorem clipReport_kept {q n} {s : State} {a1} {a2} (h : Kept q n s) :
    Kept q n (clipReport s a1 a2) := by
  unfold clipReport
  repeat' first
    | with_reducible assumption
    | intro x (hx : Kept q n x)
    | lift_lets
    | (intro x; clear_value x)
    | with_reducible apply State.modMember_kept
    | with_reducible apply State.leRecord_kept
    | with_reducible apply State.inc_kept
    | with_reducible apply Kept.ite
    | split

theorem feedback_kept {q n} {s : State} {a1} {a2} (h : Kept q n s) :
    Kept q n (feedback s a1 a2) := by
  unfold feedback
  repeat' first
    | with_reducible assumption
    | intro x (hx : Kept q n x)
    | with_reducible apply State.leRecord_kept
    | with_reducible apply State.modLe_kept
    | with_reducible apply Kept.ite

theorem gainWrite_kept {q n} {s : State} {a1} {a2} (h : Kept q n s) :
    Kept q n (gainWrite s a1 a2) := by
  unfold gainWrite
  repeat' first
    | with_reducible assumption
    | intro x (hx : Kept q n x)
    | lift_lets
    | (intro x; clear_value x)
    | with_reducible apply State.leRuntime_kept
    | with_reducible apply State.raise_kept
    | with_reducible apply State.set1_kept
    | with_reducible apply State.wrN_kept
    | with_reducible apply State.inc_kept
    | with_reducible apply Kept.ite

theorem leEnable_kept {q n} {s : State} {a1} {a2} (h : Kept q n s) :
    Kept q n (leEnable s a1 a2) := by
  unfold leEnable
  repeat' first
    | with_reducible assumption
    | intro x (hx : Kept q n x)
    | with_reducible apply State.leRecord_kept
    | with_reducible apply State.lePreset_kept
    | with_reducible apply State.setEst_kept
    | with_reducible apply Kept.ite

theorem leHold_kept {q n} {s : State} {a1} {a2} (h : Kept q n s) :
    Kept q n (leHold s a1 a2) := by
  unfold leHold
  repeat' first
    | with_reducible assumption
    | intro x (hx : Kept q n x)
    | with_reducible apply State.leRecord_kept
    | with_reducible apply State.setB_kept

theorem leSample_kept {q n} {s : State} {a1} (h : Kept q n s) :
    Kept q n (leSample s a1) := by
  unfold leSample
  repeat' first
    | with_reducible assumption
    | lift_lets
    | (intro x; refine Kept.cut (q := q) (n := n) (x := x) ?_ ?_; subst x; rotate_left; clear_value x; intro hx)
    | (intro x; refine Kept.cut (q := q) (n := n) (x := x.1) ?_ ?_; subst x; rotate_left; clear_value x; intro hx)
    | (intro x; clear_value x)
    | with_reducible apply State.joinMembers_kept
    | with_reducible apply State.mirrorSend_kept
    | with_reducible apply State.needLines_kept
    | with_reducible apply State.leMirror_kept
    | with_reducible apply State.pipeline_kept
    | with_reducible apply State.noteHeld_kept
    | with_reducible apply State.chopper_kept
    | with_reducible apply State.modPar_kept
    | with_reducible apply State.leTake_kept
    | with_reducible apply State.leSnap_kept
    | with_reducible apply State.setEst_kept
    | with_reducible apply State.modLe_kept
    | with_reducible apply State.wrN_kept
    | with_reducible apply State.inc_kept
    | with_reducible apply Kept.ite
    | split
    | with_reducible apply Kept.drawn

theorem leSetLimit_kept {q n} {s : State} {a1} {a2} (h : Kept q n s) :
    Kept q n (leSetLimit s a1 a2) := by
  unfold leSetLimit
  repeat' first
    | with_reducible assumption
    | intro x (hx : Kept q n x)
    | lift_lets
    | (intro x; clear_value x)
    | with_reducible apply State.leRuntime_kept
    | with_reducible apply State.setF_kept
    | with_reducible apply Kept.ite

theorem leSetMode_kept {q n} {s : State} {a1} {a2} (h : Kept q n s) :
    Kept q n (leSetMode s a1 a2) := by
  unfold leSetMode
  repeat' first
    | with_reducible assumption
    | intro x (hx : Kept q n x)
    | with_reducible apply State.leRecord_kept
    | with_reducible apply State.raise_kept
    | with_reducible apply State.modLe_kept
    | with_reducible apply State.set1_kept
    | with_reducible apply State.inc_kept
    | with_reducible apply Kept.ite

theorem leSpareResume_kept {q n} {s : State} (h : Kept q n s) :
    Kept q n (leSpareResume s) := by
  unfold leSpareResume
  repeat' first
    | with_reducible assumption
    | lift_lets
    | (intro x; refine Kept.cut (q := q) (n := n) (x := x) ?_ ?_; subst x; rotate_left; clear_value x; intro hx)
    | (intro x; clear_value x)
    | with_reducible apply State.setServes_kept
    | with_reducible apply State.setEst_kept
    | with_reducible apply State.set1_kept
    | with_reducible apply State.clr_kept
    | split
    | simp only [Kept.mk]

theorem leSwapBank_kept {q n} {s : State} {a1} {a2} (h : Kept q n s) :
    Kept q n (leSwapBank s a1 a2) := by
  unfold leSwapBank
  repeat' first
    | with_reducible assumption
    | intro x (hx : Kept q n x)
    | with_reducible apply State.leRecord_kept
    | with_reducible apply State.modLe_kept

theorem leSync_kept {q n} {s : State} {a1} {a2} {a3} (h : Kept q n s) :
    Kept q n (leSync s a1 a2 a3) := by
  unfold leSync
  repeat' first
    | with_reducible assumption
    | intro x (hx : Kept q n x)
    | with_reducible apply State.leRecord_kept
    | with_reducible apply State.leSnap_kept
    | with_reducible apply State.modLe_kept

theorem setPosition_kept {q n} {s : State} {a1} {a2} (h : Kept q n s) :
    Kept q n (setPosition s a1 a2) := by
  unfold setPosition
  repeat' first
    | with_reducible assumption
    | intro x (hx : Kept q n x)
    | with_reducible apply State.leRuntime_kept
    | with_reducible apply State.modLe_kept
    | with_reducible apply State.clr_kept

theorem setSpeed_kept {q n} {s : State} {a1} {a2} (h : Kept q n s) :
    Kept q n (setSpeed s a1 a2) := by
  unfold setSpeed
  repeat' first
    | with_reducible assumption
    | intro x (hx : Kept q n x)
    | with_reducible apply State.forwardSpeed_kept
    | with_reducible apply State.leRuntime_kept
    | with_reducible apply State.modLe_kept

theorem setTorque_kept {q n} {s : State} {a1} {a2} (h : Kept q n s) :
    Kept q n (setTorque s a1 a2) := by
  unfold setTorque
  repeat' first
    | with_reducible assumption
    | intro x (hx : Kept q n x)
    | with_reducible apply State.leRuntime_kept
    | with_reducible apply State.modLe_kept

theorem swapTable_kept {q n} {s : State} {a1} {a2} (h : Kept q n s) :
    Kept q n (swapTable s a1 a2) := by
  unfold swapTable
  repeat' first
    | with_reducible assumption
    | intro x (hx : Kept q n x)
    | with_reducible apply State.leRecord_kept
    | with_reducible apply State.modLe_kept

theorem tabWrite_kept {q n} {s : State} {a1} {a2} (h : Kept q n s) :
    Kept q n (tabWrite s a1 a2) := by
  unfold tabWrite
  repeat' first
    | with_reducible assumption
    | intro x (hx : Kept q n x)
    | intro x y (hx : Kept q n x)
    | lift_lets
    | (intro x; refine Kept.cut (q := q) (n := n) (x := x) ?_ ?_; subst x; rotate_left; clear_value x; intro hx)
    | (intro x; clear_value x)
    | with_reducible apply State.leRuntime_kept
    | with_reducible apply State.tabPut_kept
    | with_reducible apply State.raise_kept
    | with_reducible apply State.each_kept
    | with_reducible apply State.set1_kept
    | with_reducible apply Kept.ite

theorem torqueShare_kept {q n} {s : State} {a1} {a2} (h : Kept q n s) :
    Kept q n (torqueShare s a1 a2) := by
  unfold torqueShare
  repeat' first
    | with_reducible assumption
    | intro x (hx : Kept q n x)
    | lift_lets
    | (intro x; refine Kept.cut (q := q) (n := n) (x := x) ?_ ?_; subst x; rotate_left; clear_value x; intro hx)
    | (intro x; clear_value x)
    | with_reducible apply State.setPstate_kept
    | with_reducible apply State.leRecord_kept
    | with_reducible apply State.modPar_kept
    | with_reducible apply State.modLe_kept
    | with_reducible apply State.setF_kept
    | with_reducible apply Kept.ite

end Sys2Proof.Machine
end

