-- ==== Sys2Proof/Laws/KeptChecker.lean ====
section
/-! SUPPORT. What the operations of Machine/Checker.lean keep (`Kept`). -/
namespace Sys2Proof.Machine


theorem checkImage_kept {q n} {s : State} {a b c t} (hx : checkImage s a b c = .ok t) (h : Kept q n s) : Kept q n t := by
  unfold checkImage at hx
  dsimp only at hx
  split at hx
  · cases hx
  · split at hx
    · cases hx
    · split at hx
      · cases hx
      · cases hx; exact buildImage_kept h

end Sys2Proof.Machine
end

