-- ==== Sys2Proof/Laws/KeptFlt.lean ====
section
/-! SUPPORT. What the operations of Machine/Flt.lean keep (`Kept`). -/
namespace Sys2Proof.Machine

theorem State.bivStop_kept {q n} {s : State} {a1} (h : Kept q n s) :
    Kept q n (State.bivStop s a1).1 := by
  unfold State.bivStop
  repeat' first
    | with_reducible assumption
    | intro x y (hx : Kept q n x)
    | lift_lets
    | (intro x; clear_value x)
    | with_reducible apply State.requestSs1_kept
    | with_reducible apply State.forEach_kept
    | with_reducible apply State.set1_kept
    | with_reducible apply Kept.ite

theorem State.modFlt_kept {q n} {s : State} {a1} (h : Kept q n s) :
    Kept q n (State.modFlt s a1) := by
  unfold State.modFlt
  repeat' first | with_reducible assumption | simp only [Kept.mk]

theorem State.ringPut_kept {q n} {s : State} {a1} (h : Kept q n s) :
    Kept q n (State.ringPut s a1) := by
  unfold State.ringPut
  repeat' first
    | with_reducible assumption
    | lift_lets
    | (intro x; refine Kept.cut (q := q) (n := n) (x := x) ?_ ?_; subst x; rotate_left; clear_value x; intro hx)
    | (intro x; subst x)
    | with_reducible apply State.incMod_kept
    | with_reducible apply State.modFlt_kept
    | with_reducible apply State.set1_kept
    | with_reducible apply State.inc_kept
    | with_reducible apply Kept.ite

theorem State.writePennant_kept {q n} {s : State} {a1} (h : Kept q n s) :
    Kept q n (State.writePennant s a1) := by
  unfold State.writePennant
  repeat' first
    | with_reducible assumption
    | lift_lets
    | (intro x; clear_value x)
    | with_reducible apply State.ringPut_kept
    | with_reducible apply State.bivStop_kept
    | with_reducible apply State.modFlt_kept
    | with_reducible apply State.set1_kept
    | with_reducible apply State.wrN_kept
    | with_reducible apply State.inc_kept
    | with_reducible apply Kept.ite
    | split

theorem pennantWrite_kept {q n} {s : State} (h : Kept q n s) :
    Kept q n (pennantWrite s) := by
  unfold pennantWrite
  repeat' first | with_reducible assumption | with_reducible apply State.writePennant_kept | with_reducible apply State.modFlt_kept | split

theorem State.drainRaises_kept {q n} {s : State} {a1} (h : Kept q n s) :
    Kept q n (State.drainRaises s a1) := by
  induction a1 generalizing s with
  | zero => simpa [State.drainRaises] using h
  | succ m ih =>
    unfold State.drainRaises
    repeat' first | with_reducible assumption | lift_lets | with_reducible apply ih | with_reducible apply Machine.pennantWrite_kept

theorem State.writeRaises_kept {q n} {s : State} (h : Kept q n s) :
    Kept q n (State.writeRaises s) := by
  unfold State.writeRaises
  repeat' first | with_reducible assumption | with_reducible apply State.drainRaises_kept

theorem fltClearCounters_kept {q n} {s : State} (h : Kept q n s) :
    Kept q n (fltClearCounters s) := by
  unfold fltClearCounters
  repeat' first
    | with_reducible assumption
    | intro x (hx : Kept q n x)
    | with_reducible apply State.cmdBiv_kept
    | with_reducible apply State.zero_kept

theorem bivTmaxExpiry_kept {q n} {s : State} (h : Kept q n s) :
    Kept q n (bivTmaxExpiry s) := by
  unfold bivTmaxExpiry
  repeat' first | with_reducible assumption | with_reducible apply State.bivStop_kept | with_reducible apply Kept.ite

theorem bivouacEntry_kept {q n} {s : State} (h : Kept q n s) :
    Kept q n (bivouacEntry s) := by
  unfold bivouacEntry
  repeat' first
    | with_reducible assumption
    | intro x y (hx : Kept q n x)
    | lift_lets
    | (intro x; refine Kept.cut (q := q) (n := n) (x := x) ?_ ?_; subst x; rotate_left; clear_value x; intro hx)
    | with_reducible apply State.haltEntry_kept
    | with_reducible apply State.modLeg_kept
    | with_reducible apply State.setDom_kept
    | with_reducible apply State.modFlt_kept
    | with_reducible apply State.setF_kept
    | with_reducible apply State.each_kept
    | with_reducible apply State.set1_kept
    | with_reducible apply State.wrN_kept
    | with_reducible apply State.clr_kept
    | with_reducible apply Kept.ite

theorem bivouacFrame_kept {q n} {s : State} (h : Kept q n s) :
    Kept q n (bivouacFrame s) := by
  unfold bivouacFrame
  repeat' first
    | with_reducible assumption
    | lift_lets
    | (intro x; refine Kept.cut (q := q) (n := n) (x := x) ?_ ?_; subst x; rotate_left; clear_value x; intro hx)
    | (intro x; clear_value x)
    | with_reducible apply State.canOwn_kept
    | with_reducible apply State.modFlt_kept
    | with_reducible apply Kept.ite

end Sys2Proof.Machine
end

