-- ==== Sys2Proof/Laws/KeptHal.lean ====
section
/-! SUPPORT. What the operations of Machine/Hal.lean keep (`Kept`). -/
namespace Sys2Proof.Machine

theorem State.setTs_kept {q n} {s : State} {a1} (h : Kept q n s) :
    Kept q n (State.setTs s a1) := by
  unfold State.setTs
  repeat' first | with_reducible assumption | with_reducible apply State.setF_kept

theorem State.acquire_kept {q n} {s : State} {a1} (h : Kept q n s) :
    Kept q n (State.acquire s a1) := by
  unfold State.acquire
  repeat' first
    | with_reducible assumption
    | lift_lets
    | (intro x; refine Kept.cut (q := q) (n := n) (x := x) ?_ ?_; subst x; rotate_left; clear_value x; intro hx)
    | (intro x; clear_value x)
    | with_reducible apply State.setTs_kept
    | with_reducible apply State.setF_kept
    | with_reducible apply State.wrN_kept
    | simp only [Kept.mk]

theorem State.setLockCnt_kept {q n} {s : State} {a1} {a2} (h : Kept q n s) :
    Kept q n (State.setLockCnt s a1 a2) := by
  unfold State.setLockCnt
  repeat' first | with_reducible assumption | lift_lets | (intro x; clear_value x) | simp only [Kept.mk]

theorem State.acquireCheck_kept {q n} {s : State} {a1} (h : Kept q n s) :
    Kept q n (State.acquireCheck s a1) := by
  unfold State.acquireCheck
  repeat' first
    | with_reducible assumption
    | with_reducible apply State.setLockCnt_kept
    | with_reducible apply State.setTs_kept
    | with_reducible apply State.set1_kept
    | with_reducible apply Kept.ite

theorem State.burgeeConflict_kept {q n} {s : State} {a1} {a2} (h : Kept q n s) :
    Kept q n (State.burgeeConflict s a1 a2) := by
  unfold State.burgeeConflict
  repeat' first
    | with_reducible assumption
    | lift_lets
    | (intro x; refine Kept.cut (q := q) (n := n) (x := x) ?_ ?_; subst x; rotate_left; clear_value x; intro hx)
    | (intro x; clear_value x)
    | with_reducible apply State.modPort_kept
    | with_reducible apply State.raise_kept
    | with_reducible apply State.set1_kept
    | with_reducible apply Kept.ite
    | simp only [Kept.mk]

theorem State.climb_kept {q n} {s : State} (h : Kept q n s) :
    Kept q n (State.climb s) := by
  unfold State.climb
  repeat' first
    | with_reducible assumption
    | lift_lets
    | (intro x; clear_value x)
    | with_reducible apply State.setLockCnt_kept
    | with_reducible apply State.setF_kept
    | with_reducible apply Kept.ite
    | split

theorem halClearCounters_kept {q n} {s : State} (h : Kept q n s) :
    Kept q n (halClearCounters s) := by
  unfold halClearCounters
  repeat' first | with_reducible assumption | intro x (hx : Kept q n x) | with_reducible apply State.zero_kept | with_reducible apply State.cmd_kept

theorem halDisablePort_kept {q n} {s : State} {a1} (h : Kept q n s) :
    Kept q n (halDisablePort s a1) := by
  unfold halDisablePort
  repeat' first
    | with_reducible assumption
    | intro x (hx : Kept q n x)
    | with_reducible apply State.portLeave_kept
    | with_reducible apply State.modPort_kept
    | with_reducible apply State.cmd_kept
    | split

theorem State.portEnable_kept {q n} {s : State} {a1} (h : Kept q n s) :
    Kept q n (State.portEnable s a1) := by
  unfold State.portEnable
  repeat' first
    | with_reducible assumption
    | with_reducible apply State.portTryTrain_kept
    | with_reducible apply State.modPort_kept
    | with_reducible apply State.setPst_kept
    | with_reducible apply Kept.ite

theorem halEnablePort_kept {q n} {s : State} {a1} (h : Kept q n s) :
    Kept q n (halEnablePort s a1) := by
  unfold halEnablePort
  repeat' first
    | with_reducible assumption
    | intro x (hx : Kept q n x)
    | with_reducible apply State.portEnable_kept
    | with_reducible apply State.cmd_kept
    | split

theorem halRetrainPort_kept {q n} {s : State} {a1} (h : Kept q n s) :
    Kept q n (halRetrainPort s a1) := by
  unfold halRetrainPort
  repeat' first
    | with_reducible assumption
    | intro x (hx : Kept q n x)
    | with_reducible apply State.portLeave_kept
    | with_reducible apply State.sendBare_kept
    | with_reducible apply State.set1_kept
    | with_reducible apply State.cmd_kept
    | split

theorem State.showFreq_kept {q n} {s : State} (h : Kept q n s) :
    Kept q n (State.showFreq s) := by
  unfold State.showFreq
  repeat' first | with_reducible assumption | lift_lets | (intro x; clear_value x) | with_reducible apply State.wrI_kept

theorem State.setSlew_kept {q n} {s : State} {a1} (h : Kept q n s) :
    Kept q n (State.setSlew s a1) := by
  unfold State.setSlew
  repeat' first | with_reducible assumption | lift_lets | (intro x; clear_value x) | simp only [Kept.mk]

theorem State.disciplineBy_kept {q n} {s : State} {a1} (h : Kept q n s) :
    Kept q n (State.disciplineBy s a1) := by
  unfold State.disciplineBy
  repeat' first
    | with_reducible assumption
    | lift_lets
    | (intro x; refine Kept.cut (q := q) (n := n) (x := x) ?_ ?_; subst x; rotate_left; clear_value x; intro hx)
    | (intro x; clear_value x)
    | with_reducible apply State.showFreq_kept
    | with_reducible apply State.setSlew_kept
    | with_reducible apply State.wrI_kept
    | with_reducible apply Kept.ite
    | simp only [Kept.mk]

theorem State.enterDiverged_kept {q n} {s : State} (h : Kept q n s) :
    Kept q n (State.enterDiverged s) := by
  unfold State.enterDiverged
  repeat' first
    | with_reducible assumption
    | lift_lets
    | (intro x; refine Kept.cut (q := q) (n := n) (x := x) ?_ ?_; subst x; rotate_left; clear_value x; intro hx)
    | (intro x; clear_value x)
    | with_reducible apply State.showFreq_kept
    | with_reducible apply State.setTs_kept
    | with_reducible apply State.raise_kept
    | with_reducible apply State.setF_kept
    | with_reducible apply State.set1_kept
    | with_reducible apply State.clr_kept
    | simp only [Kept.mk]

theorem State.enterHoldover_kept {q n} {s : State} (h : Kept q n s) :
    Kept q n (State.enterHoldover s) := by
  unfold State.enterHoldover
  repeat' first
    | with_reducible assumption
    | intro x y (hx : Kept q n x)
    | lift_lets
    | (intro x; refine Kept.cut (q := q) (n := n) (x := x) ?_ ?_; subst x; rotate_left; clear_value x; intro hx)
    | (intro x; clear_value x)
    | with_reducible apply State.showFreq_kept
    | with_reducible apply State.modPort_kept
    | with_reducible apply State.setTs_kept
    | with_reducible apply State.raise_kept
    | with_reducible apply State.setF_kept
    | with_reducible apply State.each_kept
    | with_reducible apply State.set1_kept
    | simp only [Kept.mk]

theorem State.steer_kept {q n} {s : State} (h : Kept q n s) :
    Kept q n (State.steer s) := by
  unfold State.steer
  repeat' first
    | with_reducible assumption
    | lift_lets
    | (intro x; refine Kept.cut (q := q) (n := n) (x := x) ?_ ?_; subst x; rotate_left; clear_value x; intro hx)
    | (intro x; clear_value x)
    | with_reducible apply State.showFreq_kept
    | with_reducible apply State.setB_kept
    | with_reducible apply Kept.ite
    | with_reducible apply Kept.drawn

theorem State.enterMaster_kept {q n} {s : State} (h : Kept q n s) :
    Kept q n (State.enterMaster s) := by
  unfold State.enterMaster
  repeat' first
    | with_reducible assumption
    | lift_lets
    | (intro x; refine Kept.cut (q := q) (n := n) (x := x) ?_ ?_; subst x; rotate_left; clear_value x; intro hx)
    | (intro x; clear_value x)
    | with_reducible apply State.setTs_kept
    | with_reducible apply State.raise_kept
    | with_reducible apply State.steer_kept
    | with_reducible apply State.setF_kept
    | with_reducible apply State.set1_kept
    | with_reducible apply State.wrN_kept
    | simp only [Kept.mk]

theorem State.noteDeep_kept {q n} {s : State} (h : Kept q n s) :
    Kept q n (State.noteDeep s) := by
  unfold State.noteDeep
  repeat' first
    | with_reducible assumption
    | lift_lets
    | (intro x; refine Kept.cut (q := q) (n := n) (x := x) ?_ ?_; subst x; rotate_left; clear_value x; intro hx)
    | (intro x; clear_value x)
    | with_reducible apply State.raise_kept
    | with_reducible apply State.set1_kept
    | with_reducible apply Kept.ite
    | simp only [Kept.mk]

theorem State.follow_kept {q n} {s : State} {a1} (h : Kept q n s) :
    Kept q n (State.follow s a1) := by
  unfold State.follow
  repeat' first
    | with_reducible assumption
    | with_reducible apply State.noteDeep_kept
    | with_reducible apply State.acquire_kept
    | with_reducible apply Kept.ite

theorem State.foreignPeer_kept {q n} {s : State} {a1} {a2} (h : Kept q n s) :
    Kept q n (State.foreignPeer s a1 a2) := by
  unfold State.foreignPeer
  repeat' first
    | with_reducible assumption
    | lift_lets
    | (intro x; refine Kept.cut (q := q) (n := n) (x := x) ?_ ?_; subst x; rotate_left; clear_value x; intro hx)
    | (intro x; clear_value x)
    | with_reducible apply State.modPort_kept
    | with_reducible apply State.raise_kept
    | with_reducible apply State.set1_kept
    | with_reducible apply Kept.ite

theorem State.formTag_kept {q n} {s : State} (h : Kept q n s) :
    Kept q n (State.formTag s) := by
  unfold State.formTag
  repeat' first | with_reducible assumption | with_reducible apply State.wrN_kept

theorem State.hearMaster_kept {q n} {s : State} {a1} {a2} {a3} (h : Kept q n s) :
    Kept q n (State.hearMaster s a1 a2 a3) := by
  unfold State.hearMaster
  repeat' first
    | with_reducible assumption
    | lift_lets
    | (intro x; refine Kept.cut (q := q) (n := n) (x := x) ?_ ?_; subst x; rotate_left; clear_value x; intro hx)
    | (intro x; clear_value x)
    | with_reducible apply State.enterDiverged_kept
    | with_reducible apply State.noteDeep_kept
    | with_reducible apply State.acquire_kept
    | with_reducible apply State.follow_kept
    | with_reducible apply State.climb_kept
    | with_reducible apply State.raise_kept
    | with_reducible apply State.set1_kept
    | with_reducible apply State.clr_kept
    | with_reducible apply Kept.ite

theorem State.lockedCheck_kept {q n} {s : State} {a1} {a2} (h : Kept q n s) :
    Kept q n (State.lockedCheck s a1 a2) := by
  unfold State.lockedCheck
  repeat' first
    | with_reducible assumption
    | lift_lets
    | (intro x; refine Kept.cut (q := q) (n := n) (x := x) ?_ ?_; subst x; rotate_left; clear_value x; intro hx)
    | (intro x; clear_value x)
    | with_reducible apply State.setLockCnt_kept
    | with_reducible apply State.setTs_kept
    | with_reducible apply State.raise_kept
    | with_reducible apply State.set1_kept
    | with_reducible apply State.wrN_kept
    | with_reducible apply Kept.ite
    | simp only [Kept.mk]

theorem State.portUp_kept {q n} {s : State} {a1} {a2} (h : Kept q n s) :
    Kept q n (State.portUp s a1 a2) := by
  unfold State.portUp
  repeat' first
    | with_reducible assumption
    | intro x y (hx : Kept q n x)
    | lift_lets
    | (intro x; refine Kept.cut (q := q) (n := n) (x := x) ?_ ?_; subst x; rotate_left; clear_value x; intro hx)
    | (intro x; clear_value x)
    | with_reducible apply State.modPort_kept
    | with_reducible apply State.forEach_kept
    | with_reducible apply State.setPst_kept
    | with_reducible apply State.setF_kept
    | with_reducible apply State.set1_kept
    | with_reducible apply State.emit_kept
    | simp only [Kept.mk]

theorem State.proveClaim_kept {q n} {s : State} {a1} {a2} {a3} {a4} (h : Kept q n s) :
    Kept q n (State.proveClaim s a1 a2 a3 a4) := by
  unfold State.proveClaim
  repeat' first
    | with_reducible assumption
    | lift_lets
    | (intro x; clear_value x)
    | with_reducible apply State.fenceCell_kept
    | with_reducible apply State.cellHold_kept
    | with_reducible apply State.modPort_kept
    | with_reducible apply State.raise_kept
    | with_reducible apply State.setF_kept
    | with_reducible apply State.set1_kept
    | with_reducible apply Kept.ite

theorem State.reacquire_kept {q n} {s : State} {a1} (h : Kept q n s) :
    Kept q n (State.reacquire s a1) := by
  unfold State.reacquire
  repeat' first
    | with_reducible assumption
    | lift_lets
    | (intro x; refine Kept.cut (q := q) (n := n) (x := x) ?_ ?_; subst x; rotate_left; clear_value x; intro hx)
    | (intro x; clear_value x)
    | with_reducible apply State.enterHoldover_kept
    | with_reducible apply State.noteDeep_kept
    | with_reducible apply State.acquire_kept
    | with_reducible apply State.raise_kept
    | with_reducible apply State.set1_kept
    | with_reducible apply Kept.ite
    | simp only [Kept.mk]

theorem State.stepCount_kept {q n} {s : State} {a1} {a2} (h : Kept q n s) :
    Kept q n (State.stepCount s a1 a2) := by
  unfold State.stepCount
  repeat' first
    | with_reducible assumption
    | lift_lets
    | (intro x; refine Kept.cut (q := q) (n := n) (x := x) ?_ ?_; subst x; rotate_left; clear_value x; intro hx)
    | (intro x; clear_value x)
    | with_reducible apply State.showFreq_kept
    | with_reducible apply State.wrI_kept
    | simp only [Kept.mk]

theorem State.takeSlot_kept {q n} {s : State} {a1} {a2} {a3} (h : Kept q n s) :
    Kept q n (State.takeSlot s a1 a2 a3) := by
  unfold State.takeSlot
  repeat' first
    | with_reducible assumption
    | lift_lets
    | (intro x; have : State → State := x; subst x; dsimp only)
    | with_reducible apply State.sendSlot_kept
    | with_reducible apply State.modPort_kept
    | with_reducible apply State.inc_kept
    | with_reducible apply Kept.ite
    | split

theorem State.takeAll_kept {q n} {s : State} {a1} {a2} {a3} (h : Kept q n s) :
    Kept q n (State.takeAll s a1 a2 a3) := by
  induction a3 generalizing s a1 a2 with
  | nil => simpa [State.takeAll] using h
  | cons x t ih =>
    unfold State.takeAll
    repeat' first | with_reducible assumption | lift_lets | with_reducible apply ih | with_reducible apply State.takeSlot_kept

theorem State.upstreamExchange_kept {q n} {s : State} {a1} {a2} {a3} (h : Kept q n s) :
    Kept q n (State.upstreamExchange s a1 a2 a3) := by
  unfold State.upstreamExchange
  dsimp only
  repeat' first
    | with_reducible assumption
    | with_reducible apply State.enterDiverged_kept
    | with_reducible apply State.acquireCheck_kept
    | with_reducible apply State.disciplineBy_kept
    | with_reducible apply State.lockedCheck_kept
    | with_reducible apply State.stepCount_kept
    | with_reducible apply State.reacquire_kept
    | with_reducible apply State.setF_kept
    | with_reducible apply State.wrN_kept
    | with_reducible apply Kept.ite
    | simp only [Kept.mk]

theorem cageSupplyOn_kept {q n} {s : State} {a1} (h : Kept q n s) :
    Kept q n (cageSupplyOn s a1) := by
  unfold cageSupplyOn
  repeat' first | with_reducible assumption | with_reducible apply State.modPort_kept

theorem codewordReceive_kept {q n} {s : State} {a1} {a2} (h : Kept q n s) :
    Kept q n (codewordReceive s a1 a2) := by
  unfold codewordReceive
  repeat' first
    | with_reducible assumption
    | lift_lets
    | (intro x; refine Kept.cut (q := q) (n := n) (x := x) ?_ ?_; subst x; rotate_left; clear_value x; intro hx)
    | (intro x; clear_value x)
    | (intro x; subst x)
    | with_reducible apply State.portRetrain_kept
    | with_reducible apply State.modPort_kept
    | with_reducible apply State.raiseMs_kept
    | with_reducible apply State.takeAll_kept
    | with_reducible apply State.setPst_kept
    | with_reducible apply State.set1_kept
    | with_reducible apply State.inc_kept
    | with_reducible apply Kept.ite
    | split

theorem countWrap_kept {q n} {s : State} (h : Kept q n s) :
    Kept q n (countWrap s) := by
  unfold countWrap
  repeat' first
    | with_reducible assumption
    | lift_lets
    | (intro x; clear_value x)
    | with_reducible apply State.set1_kept
    | with_reducible apply Kept.ite
    | simp only [Kept.mk]

theorem electionWon_kept {q n} {s : State} (h : Kept q n s) :
    Kept q n (electionWon s) := by
  unfold electionWon
  repeat' first
    | with_reducible assumption
    | with_reducible apply State.enterMaster_kept
    | with_reducible apply State.set1_kept
    | with_reducible apply Kept.ite

theorem freeElection_kept {q n} {s : State} (h : Kept q n s) :
    Kept q n (freeElection s) := by
  unfold freeElection
  repeat' first
    | with_reducible assumption
    | with_reducible apply State.enterMaster_kept
    | with_reducible apply State.formTag_kept
    | with_reducible apply Kept.ite

theorem masterAliveStale_kept {q n} {s : State} (h : Kept q n s) :
    Kept q n (masterAliveStale s) := by
  unfold masterAliveStale
  repeat' first
    | with_reducible assumption
    | intro x y (hx : Kept q n x)
    | with_reducible apply State.enterHoldover_kept
    | with_reducible apply State.modPort_kept
    | with_reducible apply State.each_kept
    | with_reducible apply Kept.ite

theorem pluggablePresent_kept {q n} {s : State} {a1} {a2} {a3} {a4} {a5} {a6} (h : Kept q n s) :
    Kept q n (pluggablePresent s a1 a2 a3 a4 a5 a6) := by
  unfold pluggablePresent
  repeat' first
    | with_reducible assumption
    | lift_lets
    | (intro x; refine Kept.cut (q := q) (n := n) (x := x) ?_ ?_; subst x; rotate_left; clear_value x; intro hx)
    | (intro x; clear_value x)
    | with_reducible apply State.portTryTrain_kept
    | with_reducible apply State.modPort_kept
    | with_reducible apply State.raise_kept
    | with_reducible apply State.setF_kept
    | with_reducible apply State.set1_kept
    | with_reducible apply Kept.ite

theorem portLinkLoss_kept {q n} {s : State} {a1} {a2} (h : Kept q n s) :
    Kept q n (portLinkLoss s a1 a2) := by
  unfold portLinkLoss
  repeat' first
    | with_reducible assumption
    | lift_lets
    | (intro x; refine Kept.cut (q := q) (n := n) (x := x) ?_ ?_; subst x; rotate_left; clear_value x; intro hx)
    | (intro x; subst x)
    | with_reducible apply State.trainFail_kept
    | with_reducible apply State.portLeave_kept
    | with_reducible apply State.modPort_kept
    | with_reducible apply State.raise_kept
    | with_reducible apply State.setF_kept
    | with_reducible apply State.set1_kept
    | with_reducible apply State.wrN_kept
    | with_reducible apply Kept.ite
    | split

theorem refInputLost_kept {q n} {s : State} {a1} (h : Kept q n s) :
    Kept q n (refInputLost s a1) := by
  unfold refInputLost
  repeat' first
    | with_reducible assumption
    | lift_lets
    | (intro x; subst x)
    | with_reducible apply State.raise_kept
    | with_reducible apply State.steer_kept
    | with_reducible apply State.set1_kept
    | with_reducible apply State.clr_kept
    | with_reducible apply Kept.ite
    | split

theorem referenceReturn_kept {q n} {s : State} {a1} (h : Kept q n s) :
    Kept q n (referenceReturn s a1) := by
  unfold referenceReturn
  repeat' first | with_reducible assumption | with_reducible apply State.steer_kept | with_reducible apply State.set1_kept | split

theorem routeCellReceive_kept {q n} {s : State} {a1} {a2} (h : Kept q n s) :
    Kept q n (routeCellReceive s a1 a2) := by
  unfold routeCellReceive
  repeat' first
    | with_reducible assumption
    | lift_lets
    | (intro x; refine Kept.cut (q := q) (n := n) (x := x) ?_ ?_; subst x; rotate_left; clear_value x; intro hx)
    | with_reducible apply State.modPort_kept
    | with_reducible apply Kept.ite

theorem routeCellSend_kept {q n} {s : State} (h : Kept q n s) :
    Kept q n (routeCellSend s) := by
  unfold routeCellSend
  repeat' first
    | with_reducible assumption
    | intro x y (hx : Kept q n x)
    | lift_lets
    | (intro x; clear_value x)
    | with_reducible apply State.transmit_kept
    | with_reducible apply State.each_kept
    | with_reducible apply Kept.ite

theorem routeCellTimeout_kept {q n} {s : State} {a1} (h : Kept q n s) :
    Kept q n (routeCellTimeout s a1) := by
  unfold routeCellTimeout
  repeat' first | with_reducible assumption | with_reducible apply State.modPort_kept | with_reducible apply Kept.ite

theorem rxLosCleared_kept {q n} {s : State} {a1} (h : Kept q n s) :
    Kept q n (rxLosCleared s a1) := by
  unfold rxLosCleared
  repeat' first | with_reducible assumption | with_reducible apply State.portTryTrain_kept | with_reducible apply State.modPort_kept

theorem tick_kept {q n} {s : State} (h : Kept q n s) :
    Kept q n (tick s) := by
  unfold tick
  repeat' first
    | with_reducible assumption
    | lift_lets
    | (intro x; clear_value x)
    | with_reducible apply Machine.countWrap_kept
    | with_reducible apply Kept.ite
    | simp only [Kept.mk]

theorem timeSlotReceive_kept {q n} {s : State} {a1} {a2} {a3} {a4} {a5} (h : Kept q n s) :
    Kept q n (timeSlotReceive s a1 a2 a3 a4 a5) := by
  unfold timeSlotReceive
  repeat' first
    | with_reducible assumption
    | intro x y (hx : Kept q n x)
    | lift_lets
    | (intro x; refine Kept.cut (q := q) (n := n) (x := x) ?_ ?_; subst x; rotate_left; clear_value x; intro hx)
    | (intro x; clear_value x)
    | (intro x; subst x)
    | with_reducible apply State.upstreamExchange_kept
    | with_reducible apply State.burgeeConflict_kept
    | with_reducible apply State.foreignPeer_kept
    | with_reducible apply State.hearMaster_kept
    | with_reducible apply State.proveClaim_kept
    | with_reducible apply State.showCand_kept
    | with_reducible apply State.modPort_kept
    | with_reducible apply State.forEach_kept
    | with_reducible apply State.portUp_kept
    | with_reducible apply State.raise_kept
    | with_reducible apply State.each_kept
    | with_reducible apply State.set1_kept
    | with_reducible apply State.wrI_kept
    | with_reducible apply Kept.ite
    | split

theorem timeSlotSend_kept {q n} {s : State} {a1} (h : Kept q n s) :
    Kept q n (timeSlotSend s a1) := by
  unfold timeSlotSend
  repeat' first
    | with_reducible assumption
    | lift_lets
    | (intro x; refine Kept.cut (q := q) (n := n) (x := x) ?_ ?_; subst x; rotate_left; clear_value x; intro hx)
    | (intro x; clear_value x)
    | with_reducible apply State.setPort_kept
    | with_reducible apply Kept.ite
    | simp only [Kept.mk]

theorem trainingSettled_kept {q n} {s : State} {a1} (h : Kept q n s) :
    Kept q n (trainingSettled s a1) := by
  unfold trainingSettled
  repeat' first
    | with_reducible assumption
    | with_reducible apply State.sendBare_kept
    | with_reducible apply State.modPort_kept
    | with_reducible apply State.setPst_kept
    | with_reducible apply Kept.ite

theorem trainingTimeout_kept {q n} {s : State} {a1} (h : Kept q n s) :
    Kept q n (trainingTimeout s a1) := by
  unfold trainingTimeout
  repeat' first
    | with_reducible assumption
    | with_reducible apply State.trainFail_kept
    | with_reducible apply State.portLeave_kept
    | with_reducible apply State.set1_kept
    | with_reducible apply Kept.ite

theorem upstreamSilence_kept {q n} {s : State} (h : Kept q n s) :
    Kept q n (upstreamSilence s) := by
  unfold upstreamSilence
  repeat' first
    | with_reducible assumption
    | lift_lets
    | (intro x; refine Kept.cut (q := q) (n := n) (x := x) ?_ ?_; subst x; rotate_left; clear_value x; intro hx)
    | (intro x; clear_value x)
    | with_reducible apply State.enterHoldover_kept
    | with_reducible apply State.reacquire_kept
    | with_reducible apply State.modPort_kept
    | with_reducible apply Kept.ite
    | split

end Sys2Proof.Machine
end

