-- ==== Sys2Proof/Laws/KeptPrelude.lean ====
section
/-! SUPPORT. What the operations of Machine/Prelude.lean keep (`Kept`). -/
namespace Sys2Proof.Machine

theorem State.reborn_kept {q n} {s : State} (h : Kept q n s) :
    Kept q n (State.reborn s) := by
  exact ⟨h.1, h.2.1, rfl⟩

theorem State.sleepDoms_kept {q n} {s : State} {a1} (h : Kept q n s) :
    Kept q n (State.sleepDoms s a1) := by
  unfold State.sleepDoms
  repeat' first
    | with_reducible assumption
    | intro x y (hx : Kept q n x)
    | lift_lets
    | (intro x; refine Kept.cut (q := q) (n := n) (x := x) ?_ ?_; subst x; rotate_left; clear_value x; intro hx)
    | with_reducible apply State.setDom_kept
    | with_reducible apply State.each_kept
    | with_reducible apply State.wr_kept
    | with_reducible apply Kept.ite

theorem State.sleep_kept {q n} {s : State} {a1} (h : Kept q n s) :
    Kept q n (State.sleep s a1) := by
  unfold State.sleep
  repeat' first
    | with_reducible assumption
    | intro x y (hx : Kept q n x)
    | lift_lets
    | (intro x; refine Kept.cut (q := q) (n := n) (x := x) ?_ ?_; subst x; rotate_left; clear_value x; intro hx)
    | with_reducible apply State.sleepDoms_kept
    | with_reducible apply State.forEach_kept
    | with_reducible apply State.reborn_kept
    | with_reducible apply State.setF_kept
    | with_reducible apply State.wr_kept
    | with_reducible apply Kept.ite

theorem State.keepRing_kept {q n} {s : State} {s2 : State} (h : Kept q n s) (h2 : Kept q n s2) :
    Kept q n (State.keepRing s s2) := by
  unfold State.keepRing
  repeat' first | with_reducible assumption | with_reducible apply State.modFlt_kept | with_reducible apply State.wr_kept

theorem State.prelude_kept {q n} {s : State} {a1} {a2} {a3} (h : Kept q n s) :
    Kept q n (State.prelude s a1 a2 a3) := by
  unfold State.prelude
  repeat' first
    | with_reducible assumption
    | lift_lets
    | (intro x; refine Kept.cut (q := q) (n := n) (x := x) ?_ ?_; subst x; rotate_left; clear_value x; intro hx)
    | (intro x; clear_value x)
    | with_reducible apply State.keepRing_kept
    | with_reducible apply State.reborn_kept
    | with_reducible apply State.setF_kept
    | with_reducible apply State.wrN_kept
    | with_reducible apply State.wr_kept
    | with_reducible apply Kept.ite
    | simp only [Kept.mk]

theorem State.restart_kept {q n} {s : State} {a1} {a2} (h : Kept q n s) :
    Kept q n (State.restart s a1 a2) := by
  unfold State.restart
  repeat' first | with_reducible assumption | with_reducible apply State.writeRaises_kept | with_reducible apply State.prelude_kept

theorem State.preludeEnd_kept {q n} {s : State} (h : Kept q n s) :
    Kept q n (State.preludeEnd s) := by
  unfold State.preludeEnd
  repeat' first
    | with_reducible assumption
    | lift_lets
    | (intro x; refine Kept.cut (q := q) (n := n) (x := x) ?_ ?_; subst x; rotate_left; clear_value x; intro hx)
    | (intro x; clear_value x)
    | with_reducible apply State.setF_kept
    | simp only [Kept.mk]

theorem aux24Cutoff_kept {q n} {s : State} (h : Kept q n s) :
    Kept q n (aux24Cutoff s) := by
  unfold aux24Cutoff
  repeat' first
    | with_reducible assumption
    | intro x y (hx : Kept q n x)
    | lift_lets
    | (intro x; refine Kept.cut (q := q) (n := n) (x := x) ?_ ?_; subst x; rotate_left; clear_value x; intro hx)
    | (intro x; clear_value x)
    | with_reducible apply State.reborn_kept
    | with_reducible apply State.setF_kept
    | with_reducible apply State.each_kept
    | with_reducible apply State.wr_kept
    | simp only [Kept.mk]

theorem aux24PowerUp_kept {q n} {s : State} {a1} (h : Kept q n s) :
    Kept q n (aux24PowerUp s a1) := by
  unfold aux24PowerUp
  repeat' first | with_reducible assumption | with_reducible apply State.prelude_kept | with_reducible apply Kept.ite

theorem can0DominantWake_kept {q n} {s : State} {a1} (h : Kept q n s) :
    Kept q n (can0DominantWake s a1) := by
  unfold can0DominantWake
  repeat' first | with_reducible assumption | with_reducible apply State.prelude_kept | with_reducible apply Kept.ite

theorem wakeEdge_kept {q n} {s : State} {a1} (h : Kept q n s) :
    Kept q n (wakeEdge s a1) := by
  unfold wakeEdge
  repeat' first | with_reducible assumption | with_reducible apply State.prelude_kept | with_reducible apply Kept.ite

theorem wakeFrame_kept {q n} {s : State} {a1} {a2} {a3} {a4} {a5} {a6} {a7} (h : Kept q n s) :
    Kept q n (wakeFrame s a1 a2 a3 a4 a5 a6 a7) := by
  unfold wakeFrame
  repeat' first | with_reducible assumption | with_reducible apply State.prelude_kept | with_reducible apply Kept.ite

theorem wakeFrameErrors_kept {q n} {s : State} {a1} {a2} (h : Kept q n s) :
    Kept q n (wakeFrameErrors s a1 a2) := by
  unfold wakeFrameErrors
  repeat' first | with_reducible assumption | with_reducible apply State.prelude_kept | with_reducible apply Kept.ite

end Sys2Proof.Machine
end

