-- ==== Sys2Proof/Laws/KeptHk.lean ====
section
/-! SUPPORT. What the operations of Machine/Hk.lean keep (`Kept`). -/
namespace Sys2Proof.Machine

theorem hkClearCounters_kept {q n} {s : State} (h : Kept q n s) :
    Kept q n (hkClearCounters s) := by
  unfold hkClearCounters
  repeat' first | with_reducible assumption | intro x (hx : Kept q n x) | with_reducible apply State.zero_kept | with_reducible apply State.cmd_kept

theorem State.compMgmt_kept {q n} {s : State} (h : Kept q n s) :
    Kept q n (State.compMgmt s) := by
  unfold State.compMgmt
  repeat' first | with_reducible assumption | lift_lets | (intro x; clear_value x) | with_reducible apply State.setFI_kept

theorem State.compPll_kept {q n} {s : State} (h : Kept q n s) :
    Kept q n (State.compPll s) := by
  unfold State.compPll
  repeat' first
    | with_reducible assumption
    | lift_lets
    | (intro x; refine Kept.cut (q := q) (n := n) (x := x) ?_ ?_; subst x; rotate_left; clear_value x; intro hx)
    | (intro x; clear_value x)
    | with_reducible apply State.showFreq_kept
    | with_reducible apply State.setFI_kept
    | with_reducible apply State.setB_kept
    | with_reducible apply Kept.ite

theorem State.modHk_kept {q n} {s : State} {a1} (h : Kept q n s) :
    Kept q n (State.modHk s a1) := by
  unfold State.modHk
  repeat' first | with_reducible assumption | simp only [Kept.mk]

theorem State.hkCell_kept {q n} {s : State} {a1} (h : Kept q n s) :
    Kept q n (State.hkCell s a1) := by
  unfold State.hkCell
  repeat' first
    | with_reducible assumption
    | lift_lets
    | (intro x; refine Kept.cut (q := q) (n := n) (x := x) ?_ ?_; subst x; rotate_left; clear_value x; intro hx)
    | (intro x; clear_value x)
    | with_reducible apply State.modHk_kept
    | with_reducible apply State.setB_kept
    | with_reducible apply Kept.ite

theorem State.hkDie_kept {q n} {s : State} {a1} (h : Kept q n s) :
    Kept q n (State.hkDie s a1) := by
  unfold State.hkDie
  repeat' first
    | with_reducible assumption
    | lift_lets
    | (intro x; refine Kept.cut (q := q) (n := n) (x := x) ?_ ?_; subst x; rotate_left; clear_value x; intro hx)
    | (intro x; clear_value x)
    | with_reducible apply State.modHk_kept
    | with_reducible apply State.setB_kept
    | with_reducible apply State.setF_kept
    | with_reducible apply State.set1_kept
    | with_reducible apply State.clr_kept
    | split

theorem State.hkPush_kept {q n} {s : State} {a1} (h : Kept q n s) :
    Kept q n (State.hkPush s a1) := by
  unfold State.hkPush
  repeat' first | with_reducible assumption | with_reducible apply State.modHk_kept

theorem State.hkRaise_kept {q n} {s : State} {a1} {a2} (h : Kept q n s) :
    Kept q n (State.hkRaise s a1 a2) := by
  unfold State.hkRaise
  repeat' first | with_reducible assumption | with_reducible apply State.setBit_kept | with_reducible apply State.raise_kept

theorem State.hkRateField_kept {q n} {s : State} {a1} (h : Kept q n s) :
    Kept q n (State.hkRateField s a1).1 := by
  unfold State.hkRateField
  repeat' first | with_reducible assumption | split | simp only [Kept.mk] | with_reducible apply Kept.drawn

theorem State.hkEvalDie_kept {q n} {s : State} (h : Kept q n s) :
    Kept q n (State.hkEvalDie s) := by
  unfold State.hkEvalDie
  repeat' first
    | with_reducible assumption
    | lift_lets
    | (intro x; refine Kept.cut (q := q) (n := n) (x := x) ?_ ?_; subst x; rotate_left; clear_value x; intro hx)
    | (intro x; clear_value x)
    | with_reducible apply State.raiseCleared_kept
    | with_reducible apply State.hkRateField_kept
    | with_reducible apply State.hkRaise_kept
    | with_reducible apply State.hkPush_kept
    | with_reducible apply State.modHk_kept
    | with_reducible apply State.setF_kept
    | with_reducible apply Kept.ite

theorem State.hkEvalTemp_kept {q n} {s : State} {a1} (h : Kept q n s) :
    Kept q n (State.hkEvalTemp s a1) := by
  unfold State.hkEvalTemp
  repeat' first
    | with_reducible assumption
    | lift_lets
    | (intro x; refine Kept.cut (q := q) (n := n) (x := x) ?_ ?_; subst x; rotate_left; clear_value x; intro hx)
    | (intro x; clear_value x)
    | with_reducible apply State.raiseCleared_kept
    | with_reducible apply State.hkRateField_kept
    | with_reducible apply State.hkRaise_kept
    | with_reducible apply State.hkPush_kept
    | with_reducible apply State.setB_kept
    | with_reducible apply State.setF_kept
    | with_reducible apply Kept.ite

theorem State.hkEvaluate_kept {q n} {s : State} (h : Kept q n s) :
    Kept q n (State.hkEvaluate s) := by
  unfold State.hkEvaluate
  repeat' first
    | with_reducible assumption
    | intro x y (hx : Kept q n x)
    | with_reducible apply State.hkEvalTemp_kept
    | with_reducible apply State.hkEvalDie_kept
    | with_reducible apply State.hkCell_kept
    | with_reducible apply State.each_kept

theorem State.hkNext_kept {q n} {s : State} {a1} (h : Kept q n s) :
    Kept q n (State.hkNext s a1) := by
  unfold State.hkNext
  repeat' first
    | with_reducible assumption
    | lift_lets
    | (intro x; refine Kept.cut (q := q) (n := n) (x := x) ?_ ?_; subst x; rotate_left; clear_value x; intro hx)
    | with_reducible apply State.incMod_kept
    | with_reducible apply State.setF_kept
    | with_reducible apply Kept.ite

theorem State.hkTemp_kept {q n} {s : State} {a1} {a2} (h : Kept q n s) :
    Kept q n (State.hkTemp s a1 a2) := by
  unfold State.hkTemp
  repeat' first
    | with_reducible assumption
    | lift_lets
    | (intro x; refine Kept.cut (q := q) (n := n) (x := x) ?_ ?_; subst x; rotate_left; clear_value x; intro hx)
    | (intro x; clear_value x)
    | with_reducible apply State.raiseCleared_kept
    | with_reducible apply State.hkRaise_kept
    | with_reducible apply State.setFI_kept
    | with_reducible apply State.set1_kept
    | with_reducible apply State.clr_kept
    | with_reducible apply Kept.ite
    | split

theorem State.hkTask_kept {q n} {s : State} {a1} {a2} (h : Kept q n s) :
    Kept q n (State.hkTask s a1 a2) := by
  unfold State.hkTask
  repeat' first
    | with_reducible assumption
    | intro x y (hx : Kept q n x)
    | with_reducible apply State.hkEvaluate_kept
    | with_reducible apply State.sarCalStep_kept
    | with_reducible apply State.refRound_kept
    | with_reducible apply State.compMgmt_kept
    | with_reducible apply State.compTest_kept
    | with_reducible apply State.compPll_kept
    | with_reducible apply State.hkTemp_kept
    | with_reducible apply State.hkDie_kept
    | with_reducible apply State.each_kept
    | with_reducible apply State.wrN_kept
    | with_reducible apply Kept.ite
    | split

theorem State.setStep_kept {q n} {s : State} {a1} {a2} (h : Kept q n s) :
    Kept q n (State.setStep s a1 a2) := by
  unfold State.setStep
  repeat' first
    | with_reducible assumption
    | lift_lets
    | (intro x; refine Kept.cut (q := q) (n := n) (x := x) ?_ ?_; subst x; rotate_left; clear_value x; intro hx)
    | with_reducible apply State.setB_kept
    | with_reducible apply State.setF_kept

theorem State.throttle_kept {q n} {s : State} {a1} (h : Kept q n s) :
    Kept q n (State.throttle s a1) := by
  unfold State.throttle
  repeat' first
    | with_reducible assumption
    | lift_lets
    | (intro x; refine Kept.cut (q := q) (n := n) (x := x) ?_ ?_; subst x; rotate_left; clear_value x; intro hx)
    | (intro x; clear_value x)
    | with_reducible apply State.hkRaise_kept
    | with_reducible apply State.setStep_kept
    | with_reducible apply State.modHk_kept
    | with_reducible apply State.clr_kept
    | with_reducible apply Kept.ite

theorem State.tsdCount_kept {q n} {s : State} (h : Kept q n s) :
    Kept q n (State.tsdCount s) := by
  unfold State.tsdCount
  repeat' first
    | with_reducible assumption
    | with_reducible apply State.modHk_kept
    | with_reducible apply State.setF_kept
    | with_reducible apply Kept.ite

theorem State.tsdTrip_kept {q n} {s : State} {a1} (h : Kept q n s) :
    Kept q n (State.tsdTrip s a1) := by
  unfold State.tsdTrip
  repeat' first
    | with_reducible assumption
    | lift_lets
    | (intro x; refine Kept.cut (q := q) (n := n) (x := x) ?_ ?_; subst x; rotate_left; clear_value x; intro hx)
    | with_reducible apply State.haltEntry_kept
    | with_reducible apply State.hkRaise_kept
    | with_reducible apply State.modHk_kept
    | with_reducible apply State.setF_kept
    | with_reducible apply State.set1_kept
    | with_reducible apply State.inc_kept
    | with_reducible apply State.clr_kept

theorem State.tsdWait_kept {q n} {s : State} {a1} (h : Kept q n s) :
    Kept q n (State.tsdWait s a1) := by
  unfold State.tsdWait
  repeat' first
    | with_reducible assumption
    | with_reducible apply State.raiseCleared_kept
    | with_reducible apply State.set1_kept
    | with_reducible apply State.clr_kept
    | with_reducible apply Kept.ite
    | split

theorem hkSlot_kept {q n} {s : State} {a1} {a2} (h : Kept q n s) :
    Kept q n (hkSlot s a1 a2) := by
  unfold hkSlot
  repeat' first
    | with_reducible assumption
    | lift_lets
    | (intro x; refine Kept.cut (q := q) (n := n) (x := x) ?_ ?_; subst x; rotate_left; clear_value x; intro hx)
    | (intro x; clear_value x)
    | with_reducible apply State.raiseSec_kept
    | with_reducible apply State.hkNext_kept
    | with_reducible apply State.setBit_kept
    | with_reducible apply State.hkTask_kept
    | with_reducible apply State.inc_kept
    | with_reducible apply Kept.ite

theorem thermalShutdownReading_kept {q n} {s : State} {a1} (h : Kept q n s) :
    Kept q n (thermalShutdownReading s a1) := by
  unfold thermalShutdownReading
  repeat' first
    | with_reducible assumption
    | lift_lets
    | (intro x; refine Kept.cut (q := q) (n := n) (x := x) ?_ ?_; subst x; rotate_left; clear_value x; intro hx)
    | with_reducible apply State.preludeEnd_kept
    | with_reducible apply State.tsdCount_kept
    | with_reducible apply State.tsdWait_kept
    | with_reducible apply State.tsdTrip_kept
    | with_reducible apply State.modHk_kept
    | with_reducible apply Kept.ite
    | split

theorem throttleTick_kept {q n} {s : State} (h : Kept q n s) :
    Kept q n (throttleTick s) := by
  unfold throttleTick
  repeat' first
    | with_reducible assumption
    | intro x y (hx : Kept q n x)
    | with_reducible apply State.throttle_kept
    | with_reducible apply State.each_kept
    | with_reducible apply Kept.ite

end Sys2Proof.Machine
end

