-- ==== Sys2Proof/Laws/KeptPar.lean ====
section
/-! SUPPORT. What the operations of Machine/Par.lean keep (`Kept`). -/
namespace Sys2Proof.Machine

theorem State.bumpCell_kept {q n} {s : State} {a1} {a2} (h : Kept q n s) :
    Kept q n (State.bumpCell s a1 a2) := by
  unfold State.bumpCell
  repeat' first
    | with_reducible assumption
    | intro x y (hx : Kept q n x)
    | lift_lets
    | (intro x; refine Kept.cut (q := q) (n := n) (x := x) ?_ ?_; subst x; rotate_left; clear_value x; intro hx)
    | with_reducible apply State.bumpGen_kept
    | with_reducible apply State.each_kept
    | with_reducible apply Kept.ite

theorem parClearCounters_kept {q n} {s : State} {a1} (h : Kept q n s) :
    Kept q n (parClearCounters s a1) := by
  unfold parClearCounters
  repeat' first | with_reducible assumption | intro x (hx : Kept q n x) | with_reducible apply State.zero_kept | with_reducible apply State.cmd_kept

theorem parHandback_kept {q n} {s : State} {a1} {a2} (h : Kept q n s) :
    Kept q n (parHandback s a1 a2) := by
  unfold parHandback
  repeat' first
    | with_reducible assumption
    | intro x (hx : Kept q n x)
    | lift_lets
    | (intro x; refine Kept.cut (q := q) (n := n) (x := x) ?_ ?_; subst x; rotate_left; clear_value x; intro hx)
    | (intro x; clear_value x)
    | with_reducible apply State.cellHold_kept
    | with_reducible apply State.setOwner_kept
    | with_reducible apply State.modPar_kept
    | with_reducible apply State.auxOff_kept
    | with_reducible apply State.cmdBiv_kept
    | with_reducible apply State.setF_kept
    | with_reducible apply State.clr_kept
    | split

theorem State.sendAccept_kept {q n} {s : State} {a1} {a2} {a3} {a4} {a5} (h : Kept q n s) :
    Kept q n (State.sendAccept s a1 a2 a3 a4 a5) := by
  unfold State.sendAccept
  repeat' first | with_reducible assumption | with_reducible apply State.emit_kept

theorem rejoin_kept {q n} {s : State} {a1} {a2} (h : Kept q n s) :
    Kept q n (rejoin s a1 a2) := by
  unfold rejoin
  repeat' first
    | with_reducible assumption
    | intro x (hx : Kept q n x)
    | intro x y (hx : Kept q n x)
    | lift_lets
    | (intro x; refine Kept.cut (q := q) (n := n) (x := x) ?_ ?_; subst x; rotate_left; clear_value x; intro hx)
    | (intro x; clear_value x)
    | with_reducible apply State.sendAccept_kept
    | with_reducible apply State.modMember_kept
    | with_reducible apply State.syncHoist_kept
    | with_reducible apply State.forEach_kept
    | with_reducible apply State.cmdBiv_kept
    | with_reducible apply State.setF_kept
    | with_reducible apply Kept.ite
    | split

theorem State.loadEngine_kept {q n} {s : State} {a1} {a2} {a3} (h : Kept q n s) :
    Kept q n (State.loadEngine s a1 a2 a3) := by
  unfold State.loadEngine
  repeat' first
    | with_reducible assumption
    | intro x y (hx : Kept q n x)
    | with_reducible apply Kept.foldl
    | lift_lets
    | (intro x; refine Kept.cut (q := q) (n := n) (x := x) ?_ ?_; subst x; rotate_left; clear_value x; intro hx)
    | (intro x; clear_value x)
    | with_reducible apply State.setAcc_kept
    | with_reducible apply State.setEst_kept
    | with_reducible apply State.keepY_kept
    | with_reducible apply State.modLe_kept
    | with_reducible apply State.setF_kept
    | with_reducible apply State.each_kept
    | with_reducible apply State.setE_kept
    | with_reducible apply State.wrN_kept
    | with_reducible apply Kept.ite

theorem State.loadRegulator_kept {q n} {s : State} {a1} {a2} (h : Kept q n s) :
    Kept q n (State.loadRegulator s a1 a2) := by
  unfold State.loadRegulator
  repeat' first
    | with_reducible assumption
    | lift_lets
    | (intro x; refine Kept.cut (q := q) (n := n) (x := x) ?_ ?_; subst x; rotate_left; clear_value x; intro hx)
    | (intro x; clear_value x)
    | with_reducible apply State.modBnd_kept
    | with_reducible apply State.wrN_kept

theorem State.replaceMember_kept {q n} {s : State} {a1} {a2} {a3} {a4} {a5} {a6} (h : Kept q n s) :
    Kept q n (State.replaceMember s a1 a2 a3 a4 a5 a6) := by
  unfold State.replaceMember
  repeat' first | with_reducible assumption | with_reducible apply State.modMember_kept | with_reducible apply State.setF_kept | split

theorem State.setMgen_kept {q n} {s : State} {a1} {a2} (h : Kept q n s) :
    Kept q n (State.setMgen s a1 a2) := by
  unfold State.setMgen
  repeat' first
    | with_reducible assumption
    | lift_lets
    | (intro x; refine Kept.cut (q := q) (n := n) (x := x) ?_ ?_; subst x; rotate_left; clear_value x; intro hx)
    | with_reducible apply State.setGen_kept
    | with_reducible apply State.setF_kept
    | with_reducible apply Kept.ite

theorem State.takeMembership_kept {q n} {s : State} {a1} {a2} (h : Kept q n s) :
    Kept q n (State.takeMembership s a1 a2) := by
  unfold State.takeMembership
  repeat' first
    | with_reducible assumption
    | intro x y (hx : Kept q n x)
    | lift_lets
    | (intro x; refine Kept.cut (q := q) (n := n) (x := x) ?_ ?_; subst x; rotate_left; clear_value x; intro hx)
    | (intro x; clear_value x)
    | with_reducible apply State.replaceMember_kept
    | with_reducible apply State.modMember_kept
    | with_reducible apply State.setActive_kept
    | with_reducible apply State.setMgen_kept
    | with_reducible apply State.modPar_kept
    | with_reducible apply State.setF_kept
    | with_reducible apply State.each_kept
    | with_reducible apply Kept.ite

theorem State.takeover_kept {q n} {s : State} {a1} (h : Kept q n s) :
    Kept q n (State.takeover s a1) := by
  unfold State.takeover
  repeat' first
    | with_reducible assumption
    | lift_lets
    | (intro x; refine Kept.cut (q := q) (n := n) (x := x) ?_ ?_; subst x; rotate_left; clear_value x; intro hx)
    | (intro x; clear_value x)
    | with_reducible apply State.takeMembership_kept
    | with_reducible apply State.loadRegulator_kept
    | with_reducible apply State.loadEngine_kept
    | with_reducible apply State.setPstate_kept
    | with_reducible apply State.bumpCell_kept
    | with_reducible apply State.setOwner_kept
    | with_reducible apply State.modPar_kept
    | with_reducible apply State.auxOn_kept
    | with_reducible apply State.setF_kept
    | with_reducible apply State.set1_kept
    | with_reducible apply State.emit_kept

theorem State.decideTakeover_kept {q n} {s : State} {a1} (h : Kept q n s) :
    Kept q n (State.decideTakeover s a1) := by
  unfold State.decideTakeover
  repeat' first
    | with_reducible assumption
    | with_reducible apply State.takeover_kept
    | with_reducible apply State.parRaise_kept
    | with_reducible apply Kept.ite

theorem State.judgeSilence_kept {q n} {s : State} {a1} (h : Kept q n s) :
    Kept q n (State.judgeSilence s a1) := by
  unfold State.judgeSilence
  repeat' first
    | with_reducible assumption
    | lift_lets
    | (intro x; clear_value x)
    | with_reducible apply State.decideTakeover_kept
    | with_reducible apply Kept.ite

theorem State.noteAlive_kept {q n} {s : State} {a1} {a2} {a3} (h : Kept q n s) :
    Kept q n (State.noteAlive s a1 a2 a3) := by
  unfold State.noteAlive
  repeat' first
    | with_reducible assumption
    | lift_lets
    | (intro x; refine Kept.cut (q := q) (n := n) (x := x) ?_ ?_; subst x; rotate_left; clear_value x; intro hx)
    | with_reducible apply State.modMember_kept
    | with_reducible apply State.setActive_kept
    | with_reducible apply Kept.ite

theorem State.ownership_kept {q n} {s : State} {p} {f : State → Nat → State} (h : Kept q n s)
    (hf : ∀ t j, Kept q n t → Kept q n (f t j)) : Kept q n (State.ownership s p f) := by
  unfold State.ownership
  split
  · split
    · exact hf _ _ h
    · exact State.inc_kept h
  · exact h

theorem State.takeMirror_kept {q n} {s : State} {a1} (h : Kept q n s) :
    Kept q n (State.takeMirror s a1) := by
  unfold State.takeMirror
  repeat' first | with_reducible assumption | with_reducible apply State.modPort_kept | split

theorem accept_kept {q n} {s : State} {a1} (h : Kept q n s) :
    Kept q n (accept s a1) := by
  unfold accept
  repeat' first
    | with_reducible assumption
    | lift_lets
    | (intro x; refine Kept.cut (q := q) (n := n) (x := x) ?_ ?_; subst x; rotate_left; clear_value x; intro hx)
    | (intro x; clear_value x)
    | with_reducible apply State.setPstate_kept
    | with_reducible apply State.consume_kept
    | with_reducible apply State.setMgen_kept
    | with_reducible apply State.modPar_kept
    | with_reducible apply Kept.ite

theorem alive_kept {q n} {s : State} {a1} (h : Kept q n s) :
    Kept q n (alive s a1) := by
  unfold alive
  repeat' first
    | with_reducible assumption
    | lift_lets
    | (intro x; refine Kept.cut (q := q) (n := n) (x := x) ?_ ?_; subst x; rotate_left; clear_value x; intro hx)
    | (intro x; clear_value x)
    | with_reducible apply State.sendAccept_kept
    | with_reducible apply State.modMember_kept
    | with_reducible apply State.noteAlive_kept
    | with_reducible apply State.parRaise_kept
    | with_reducible apply State.consume_kept
    | with_reducible apply Kept.ite
    | split

theorem aliveSend_kept {q n} {s : State} {a1} (h : Kept q n s) :
    Kept q n (aliveSend s a1) := by
  unfold aliveSend
  repeat' first
    | with_reducible assumption
    | lift_lets
    | (intro x; clear_value x)
    | with_reducible apply State.emit_kept
    | with_reducible apply Kept.ite

theorem fence_kept {q n} {s : State} {a1} (h : Kept q n s) :
    Kept q n (fence s a1) := by
  unfold fence
  repeat' first
    | with_reducible assumption
    | intro x y (hx : Kept q n x)
    | lift_lets
    | (intro x; refine Kept.cut (q := q) (n := n) (x := x) ?_ ?_; subst x; rotate_left; clear_value x; intro hx)
    | (intro x; subst x)
    | with_reducible apply State.ownership_kept
    | with_reducible apply State.fenceCell_kept
    | with_reducible apply State.parRaise_kept
    | with_reducible apply State.consume_kept
    | with_reducible apply Kept.ite

theorem giveTimeout_kept {q n} {s : State} {a1} (h : Kept q n s) :
    Kept q n (giveTimeout s a1) := by
  unfold giveTimeout
  repeat' first
    | with_reducible assumption
    | with_reducible apply State.requestSs1_kept
    | with_reducible apply State.setPstate_kept
    | with_reducible apply Kept.ite

theorem handback_kept {q n} {s : State} {a1} (h : Kept q n s) :
    Kept q n (handback s a1) := by
  unfold handback
  repeat' first
    | with_reducible assumption
    | intro x y (hx : Kept q n x)
    | lift_lets
    | (intro x; refine Kept.cut (q := q) (n := n) (x := x) ?_ ?_; subst x; rotate_left; clear_value x; intro hx)
    | with_reducible apply State.setPstate_kept
    | with_reducible apply State.enterDiag_kept
    | with_reducible apply State.ownership_kept
    | with_reducible apply State.setOwner_kept
    | with_reducible apply State.consume_kept
    | with_reducible apply State.setF_kept
    | with_reducible apply State.each_kept
    | with_reducible apply Kept.ite

theorem handbackSelectEnd_kept {q n} {s : State} {a1} (h : Kept q n s) :
    Kept q n (handbackSelectEnd s a1) := by
  unfold handbackSelectEnd
  repeat' first
    | with_reducible assumption
    | lift_lets
    | (intro x; refine Kept.cut (q := q) (n := n) (x := x) ?_ ?_; subst x; rotate_left; clear_value x; intro hx)
    | (intro x; clear_value x)
    | with_reducible apply State.setPstate_kept
    | with_reducible apply State.modPar_kept
    | with_reducible apply State.cmdEnd_kept
    | with_reducible apply State.emit_kept
    | with_reducible apply Kept.ite

theorem memberLost_kept {q n} {s : State} {a1} {a2} (h : Kept q n s) :
    Kept q n (memberLost s a1 a2) := by
  unfold memberLost
  repeat' first
    | with_reducible assumption
    | with_reducible apply State.setActive_kept
    | with_reducible apply State.parRaise_kept
    | with_reducible apply State.setBit_kept
    | with_reducible apply Kept.ite

theorem mirrorTimeout_kept {q n} {s : State} {a1} (h : Kept q n s) :
    Kept q n (mirrorTimeout s a1) := by
  unfold mirrorTimeout
  repeat' first
    | with_reducible assumption
    | with_reducible apply State.judgeSilence_kept
    | with_reducible apply State.parRaise_kept
    | with_reducible apply State.modPar_kept
    | with_reducible apply Kept.ite

theorem mirroredStreamReceive_kept {q n} {s : State} {a1} {a2} (h : Kept q n s) :
    Kept q n (mirroredStreamReceive s a1 a2) := by
  unfold mirroredStreamReceive
  repeat' first
    | with_reducible assumption
    | intro x y (hx : Kept q n x)
    | lift_lets
    | (intro x; refine Kept.cut (q := q) (n := n) (x := x) ?_ ?_; subst x; rotate_left; clear_value x; intro hx)
    | (intro x; clear_value x)
    | with_reducible apply State.decideTakeover_kept
    | with_reducible apply State.takeMirror_kept
    | with_reducible apply State.setPstate_kept
    | with_reducible apply State.parRaise_kept
    | with_reducible apply State.forEach_kept
    | with_reducible apply State.modPar_kept
    | with_reducible apply Kept.ite

theorem portLoss_kept {q n} {s : State} {a1} {a2} (h : Kept q n s) :
    Kept q n (portLoss s a1 a2) := by
  unfold portLoss
  repeat' first
    | with_reducible assumption
    | intro x y (hx : Kept q n x)
    | with_reducible apply State.judgeSilence_kept
    | with_reducible apply Machine.portLinkLoss_kept
    | with_reducible apply State.each_kept

theorem setPeriodHost_kept {q n} {s : State} {a1} {a2} {a3} (h : Kept q n s) :
    Kept q n (setPeriodHost s a1 a2 a3) := by
  unfold setPeriodHost
  repeat' first
    | with_reducible assumption
    | intro x y (hx : Kept q n x)
    | lift_lets
    | (intro x; refine Kept.cut (q := q) (n := n) (x := x) ?_ ?_; subst x; rotate_left; clear_value x; intro hx)
    | with_reducible apply State.syncHoist_kept
    | with_reducible apply State.each_kept
    | with_reducible apply Machine.setPeriod_kept
    | with_reducible apply Kept.ite

theorem shareTimeout_kept {q n} {s : State} {a1} (h : Kept q n s) :
    Kept q n (shareTimeout s a1) := by
  unfold shareTimeout
  repeat' first
    | with_reducible assumption
    | with_reducible apply State.setPstate_kept
    | with_reducible apply State.parRaise_kept
    | with_reducible apply State.modPar_kept
    | with_reducible apply Kept.ite

theorem taken_kept {q n} {s : State} {a1} (h : Kept q n s) :
    Kept q n (taken s a1) := by
  unfold taken
  repeat' first
    | with_reducible assumption
    | intro x y (hx : Kept q n x)
    | with_reducible apply State.replaceMember_kept
    | with_reducible apply State.consume_kept
    | with_reducible apply State.setMgen_kept
    | with_reducible apply State.modPar_kept
    | with_reducible apply State.each_kept
    | with_reducible apply Kept.ite

theorem takeoverSelectEnd_kept {q n} {s : State} {a1} (h : Kept q n s) :
    Kept q n (takeoverSelectEnd s a1) := by
  unfold takeoverSelectEnd
  repeat' first
    | with_reducible assumption
    | intro x y (hx : Kept q n x)
    | lift_lets
    | (intro x; refine Kept.cut (q := q) (n := n) (x := x) ?_ ?_; subst x; rotate_left; clear_value x; intro hx)
    | (intro x; clear_value x)
    | with_reducible apply State.setPstate_kept
    | with_reducible apply State.parRaise_kept
    | with_reducible apply State.bEnable_kept
    | with_reducible apply State.forEach_kept
    | with_reducible apply State.setBst_kept
    | with_reducible apply State.modBnd_kept
    | with_reducible apply State.emit_kept
    | with_reducible apply Kept.ite

end Sys2Proof.Machine
end

