-- ==== Sys2Proof/Laws/KeptLoad.lean ====
section
/-! SUPPORT. What the operations of Machine/Load.lean keep (`Kept`). -/
namespace Sys2Proof.Machine

theorem State.canSet_kept {q n} {s : State} {a1} {a2} {a3} {a4} {a5} {a6} (h : Kept q n s) :
    Kept q n (State.canSet s a1 a2 a3 a4 a5 a6) := by
  unfold State.canSet
  repeat' first
    | with_reducible assumption
    | lift_lets
    | (intro x; refine Kept.cut (q := q) (n := n) (x := x) ?_ ?_; subst x; rotate_left; clear_value x; intro hx)
    | with_reducible apply State.setB_kept
    | with_reducible apply State.setF_kept
    | with_reducible apply State.set1_kept
    | with_reducible apply State.wrN_kept
    | with_reducible apply State.wr_kept

theorem State.clampDt_kept {q n} {s : State} {a1} (h : Kept q n s) :
    Kept q n (State.clampDt s a1).1 := by
  unfold State.clampDt
  repeat' first | with_reducible assumption | with_reducible apply State.setF_kept | split

theorem State.domUp_kept {q n} {s : State} {a1} (h : Kept q n s) :
    Kept q n (State.domUp s a1) := by
  unfold State.domUp
  repeat' first | with_reducible assumption | with_reducible apply State.setDom_kept | with_reducible apply Kept.ite

theorem State.domsAtLoad_kept {q n} {s : State} (h : Kept q n s) :
    Kept q n (State.domsAtLoad s) := by
  unfold State.domsAtLoad
  repeat' first
    | with_reducible assumption
    | intro x y (hx : Kept q n x)
    | with_reducible apply State.setDom_kept
    | with_reducible apply State.domUp_kept
    | with_reducible apply State.each_kept
    | with_reducible apply Kept.ite

theorem State.loadBnd_kept {q n} {s : State} {a1} (h : Kept q n s) :
    Kept q n (State.loadBnd s a1) := by
  unfold State.loadBnd
  repeat' first
    | with_reducible assumption
    | lift_lets
    | (intro x; refine Kept.cut (q := q) (n := n) (x := x) ?_ ?_; subst x; rotate_left; clear_value x; intro hx)
    | with_reducible apply State.setBst_kept
    | with_reducible apply State.setF_kept
    | with_reducible apply State.wrN_kept
    | with_reducible apply Kept.ite

theorem State.loadCan_kept {q n} {s : State} {a1} (h : Kept q n s) :
    Kept q n (State.loadCan s a1) := by
  unfold State.loadCan
  repeat' first
    | with_reducible assumption
    | intro x y (hx : Kept q n x)
    | lift_lets
    | (intro x; refine Kept.cut (q := q) (n := n) (x := x) ?_ ?_; subst x; rotate_left; clear_value x; intro hx)
    | (intro x; clear_value x)
    | with_reducible apply State.canSet_kept
    | with_reducible apply State.each_kept
    | with_reducible apply State.wr_kept
    | with_reducible apply Kept.ite

theorem State.loadDcl_kept {q n} {s : State} (h : Kept q n s) :
    Kept q n (State.loadDcl s) := by
  unfold State.loadDcl
  repeat' first | with_reducible assumption | with_reducible apply State.setDst_kept

theorem State.loadDesc7_kept {q n} {s : State} {a1} (h : Kept q n s) :
    Kept q n (State.loadDesc7 s a1) := by
  unfold State.loadDesc7
  repeat' first
    | with_reducible assumption
    | intro x y (hx : Kept q n x)
    | lift_lets
    | (intro x; clear_value x)
    | with_reducible apply State.keepY_kept
    | with_reducible apply State.each_kept
    | with_reducible apply State.wrN_kept
    | with_reducible apply Kept.ite

theorem State.loadFp_kept {q n} {s : State} {a1} {a2} {a3} (h : Kept q n s) :
    Kept q n (State.loadFp s a1 a2 a3) := by
  unfold State.loadFp
  repeat' first
    | with_reducible assumption
    | lift_lets
    | (intro x; have : State → State := x; subst x; dsimp only)
    | with_reducible apply State.modCore_kept
    | with_reducible apply State.setF_kept
    | with_reducible apply State.set1_kept
    | with_reducible apply Kept.ite

theorem State.loadInput_kept {q n} {s : State} {a1} (h : Kept q n s) :
    Kept q n (State.loadInput s a1) := by
  unfold State.loadInput
  repeat' first
    | with_reducible assumption
    | lift_lets
    | (intro x; refine Kept.cut (q := q) (n := n) (x := x) ?_ ?_; subst x; rotate_left; clear_value x; intro hx)
    | with_reducible apply State.winRestart_kept
    | with_reducible apply State.settleDec_kept
    | with_reducible apply State.setF_kept
    | with_reducible apply State.set1_kept
    | with_reducible apply Kept.ite

theorem State.loadLe_kept {q n} {s : State} {a1} (h : Kept q n s) :
    Kept q n (State.loadLe s a1) := by
  unfold State.loadLe
  repeat' first
    | with_reducible assumption
    | lift_lets
    | (intro x; refine Kept.cut (q := q) (n := n) (x := x) ?_ ?_; subst x; rotate_left; clear_value x; intro hx)
    | with_reducible apply State.needLines_kept
    | with_reducible apply State.setServes_kept
    | with_reducible apply State.setEst_kept
    | with_reducible apply State.setF_kept
    | with_reducible apply Kept.ite

theorem State.loadLeg_kept {q n} {s : State} {a1} (h : Kept q n s) :
    Kept q n (State.loadLeg s a1) := by
  unfold State.loadLeg
  repeat' first
    | with_reducible assumption
    | lift_lets
    | (intro x; refine Kept.cut (q := q) (n := n) (x := x) ?_ ?_; subst x; rotate_left; clear_value x; intro hx)
    | (intro x; refine Kept.cut (q := q) (n := n) (x := x.1) ?_ ?_; subst x; rotate_left; clear_value x; intro hx)
    | (intro x; clear_value x)
    | with_reducible apply State.clampDt_kept
    | with_reducible apply State.raise_kept
    | with_reducible apply State.set1_kept
    | with_reducible apply State.wr_kept
    | with_reducible apply Kept.ite
    | split

theorem State.loadPar_kept {q n} {s : State} {a1} (h : Kept q n s) :
    Kept q n (State.loadPar s a1) := by
  unfold State.loadPar
  repeat' first
    | with_reducible assumption
    | lift_lets
    | (intro x; refine Kept.cut (q := q) (n := n) (x := x) ?_ ?_; subst x; rotate_left; clear_value x; intro hx)
    | (intro x; clear_value x)
    | with_reducible apply State.setPstate_kept
    | with_reducible apply State.modMember_kept
    | with_reducible apply State.setActive_kept
    | with_reducible apply State.setOwner_kept
    | with_reducible apply State.modPar_kept
    | with_reducible apply State.setF_kept
    | with_reducible apply State.wrN_kept
    | with_reducible apply Kept.ite

theorem State.loadPos_kept {q n} {s : State} (h : Kept q n s) :
    Kept q n (State.loadPos s) := by
  unfold State.loadPos
  repeat' first
    | with_reducible assumption
    | intro x y (hx : Kept q n x)
    | with_reducible apply State.setF_kept
    | with_reducible apply State.each_kept

theorem State.loadSns_kept {q n} {s : State} (h : Kept q n s) :
    Kept q n (State.loadSns s) := by
  unfold State.loadSns
  repeat' first
    | with_reducible assumption
    | intro x y (hx : Kept q n x)
    | lift_lets
    | (intro x; refine Kept.cut (q := q) (n := n) (x := x) ?_ ?_; subst x; rotate_left; clear_value x; intro hx)
    | with_reducible apply State.noteSpares_kept
    | with_reducible apply State.loadInput_kept
    | with_reducible apply State.setF_kept
    | with_reducible apply State.each_kept

theorem State.loadStart_kept {q n} {s : State} {a1} (h : Kept q n s) :
    Kept q n (State.loadStart s a1) := by
  unfold State.loadStart
  repeat' first | with_reducible assumption | with_reducible apply State.setSst_kept | with_reducible apply Kept.ite

theorem State.loadStep_kept {q n} {s : State} {a1} (h : Kept q n s) :
    Kept q n (State.loadStep s a1) := by
  unfold State.loadStep
  repeat' first
    | with_reducible assumption
    | intro x y (hx : Kept q n x)
    | lift_lets
    | (intro x; refine Kept.cut (q := q) (n := n) (x := x) ?_ ?_; subst x; rotate_left; clear_value x; intro hx)
    | (intro x; clear_value x)
    | with_reducible apply State.domsAtLoad_kept
    | with_reducible apply State.loadDesc7_kept
    | with_reducible apply State.loadStart_kept
    | with_reducible apply State.notePool_kept
    | with_reducible apply State.leMirror_kept
    | with_reducible apply State.noteChop_kept
    | with_reducible apply State.loadLeg_kept
    | with_reducible apply State.loadDcl_kept
    | with_reducible apply State.loadCan_kept
    | with_reducible apply State.setStep_kept
    | with_reducible apply State.loadBnd_kept
    | with_reducible apply State.loadPar_kept
    | with_reducible apply State.loadPos_kept
    | with_reducible apply State.loadSns_kept
    | with_reducible apply State.loadLe_kept
    | with_reducible apply State.loadFp_kept
    | with_reducible apply State.setEst_kept
    | with_reducible apply State.setF_kept
    | with_reducible apply State.each_kept
    | with_reducible apply State.set1_kept
    | with_reducible apply State.wrN_kept
    | with_reducible apply Kept.ite
    | simp only [Kept.mk]

end Sys2Proof.Machine
end

