-- ==== Sys2Proof/Laws/KeptKey.lean ====
section
/-! SUPPORT. What the operations of Machine/Key.lean keep (`Kept`). -/
namespace Sys2Proof.Machine

theorem State.modMgt_kept {q n} {s : State} {a1} (h : Kept q n s) :
    Kept q n (State.modMgt s a1) := by
  unfold State.modMgt
  repeat' first | with_reducible assumption | simp only [Kept.mk]

theorem State.modKey_kept {q n} {s : State} {a1} (h : Kept q n s) :
    Kept q n (State.modKey s a1) := by
  unfold State.modKey
  repeat' first | with_reducible assumption | simp only [Kept.mk]

theorem State.showSlots_kept {q n} {s : State} (h : Kept q n s) :
    Kept q n (State.showSlots s) := by
  unfold State.showSlots
  repeat' first
    | with_reducible assumption
    | lift_lets
    | (intro x; refine Kept.cut (q := q) (n := n) (x := x) ?_ ?_; subst x; rotate_left; clear_value x; intro hx)
    | (intro x; clear_value x)
    | with_reducible apply State.wrN_kept

theorem State.wantDesc_kept {q n} {s : State} {a1} (h : Kept q n s) :
    Kept q n (State.wantDesc s a1) := by
  unfold State.wantDesc
  repeat' first | with_reducible assumption | with_reducible apply State.showSlots_kept | with_reducible apply State.modKey_kept

theorem State.pchRaise_kept {q n} {s : State} {a1} {a2} (h : Kept q n s) :
    Kept q n (State.pchRaise s a1 a2) := by
  unfold State.pchRaise
  repeat' first | with_reducible assumption | with_reducible apply State.setBit_kept | with_reducible apply State.raiseD_kept

theorem State.keyFail_kept {q n} {s : State} (h : Kept q n s) :
    Kept q n (State.keyFail s) := by
  unfold State.keyFail
  repeat' first | with_reducible assumption | with_reducible apply State.pchRaise_kept | with_reducible apply State.modKey_kept

theorem State.keyWrote_kept {q n} {s : State} (h : Kept q n s) :
    Kept q n (State.keyWrote s) := by
  unfold State.keyWrote
  repeat' first
    | with_reducible assumption
    | with_reducible apply State.raiseCleared_kept
    | with_reducible apply State.modKey_kept
    | with_reducible apply Kept.ite

theorem State.writeDesc_kept {q n} {s : State} {a1} (h : Kept q n s) :
    Kept q n (State.writeDesc s a1) := by
  unfold State.writeDesc
  repeat' first
    | with_reducible assumption
    | lift_lets
    | (intro x; clear_value x)
    | with_reducible apply State.showSlots_kept
    | with_reducible apply State.keyWrote_kept
    | with_reducible apply State.keyFail_kept
    | with_reducible apply State.modKey_kept
    | with_reducible apply Kept.ite
    | split

theorem State.noteDeferred_kept {q n} {s : State} (h : Kept q n s) :
    Kept q n (State.noteDeferred s) := by
  unfold State.noteDeferred
  repeat' first | with_reducible assumption | with_reducible apply State.pchRaise_kept | with_reducible apply Kept.ite

theorem State.writeCount_kept {q n} {s : State} {a1} (h : Kept q n s) :
    Kept q n (State.writeCount s a1) := by
  unfold State.writeCount
  repeat' first
    | with_reducible assumption
    | with_reducible apply State.keyWrote_kept
    | with_reducible apply State.keyFail_kept
    | with_reducible apply State.modKey_kept
    | with_reducible apply Kept.ite

theorem State.plug_kept {q n} {s : State} {a1} (h : Kept q n s) :
    Kept q n (State.plug s a1) := by
  unfold State.plug
  repeat' first | with_reducible assumption | with_reducible apply State.modKey_kept | split

theorem State.progImage_kept {q n} {s : State} {a1} {a2} {a3} (h : Kept q n s) :
    Kept q n (State.progImage s a1 a2 a3) := by
  unfold State.progImage
  repeat' first | with_reducible assumption | lift_lets | (intro x; clear_value x) | with_reducible apply State.modKey_kept

theorem State.updDrain_kept {q n} {s : State} (h : Kept q n s) :
    Kept q n (State.updDrain s) := by
  unfold State.updDrain
  repeat' first
    | with_reducible assumption
    | intro x y (hx : Kept q n x)
    | with_reducible apply State.progImage_kept
    | with_reducible apply State.keyWrote_kept
    | with_reducible apply State.forEach_kept
    | with_reducible apply State.modMgt_kept
    | with_reducible apply Kept.ite
    | split

end Sys2Proof.Machine
end

