-- ==== Sys2Proof/Laws/KeptLog.lean ====
section
/-! SUPPORT. What the operations of Machine/Log.lean keep (`Kept`). -/
namespace Sys2Proof.Machine

theorem State.mgtNote_kept {q n} {s : State} {a1} (h : Kept q n s) :
    Kept q n (State.mgtNote s a1) := by
  unfold State.mgtNote
  repeat' first | with_reducible assumption | with_reducible apply State.setBit_kept

theorem State.catchUp_kept {q n} {s : State} (h : Kept q n s) :
    Kept q n (State.catchUp s) := by
  unfold State.catchUp
  repeat' first | with_reducible assumption | with_reducible apply State.wrN_kept | with_reducible apply Kept.ite

theorem State.eraseAhead_kept {q n} {s : State} (h : Kept q n s) :
    Kept q n (State.eraseAhead s) := by
  unfold State.eraseAhead
  repeat' first
    | with_reducible assumption
    | lift_lets
    | (intro x; clear_value x)
    | with_reducible apply State.modKey_kept
    | with_reducible apply Kept.ite

theorem State.setHead_kept {q n} {s : State} {a1} (h : Kept q n s) :
    Kept q n (State.setHead s a1) := by
  unfold State.setHead
  repeat' first | with_reducible assumption | with_reducible apply State.eraseAhead_kept | with_reducible apply State.wrN_kept

theorem State.pageBad_kept {q n} {s : State} {a1} {a2} (h : Kept q n s) :
    Kept q n (State.pageBad s a1 a2) := by
  unfold State.pageBad
  repeat' first
    | with_reducible assumption
    | lift_lets
    | (intro x; refine Kept.cut (q := q) (n := n) (x := x) ?_ ?_; subst x; rotate_left; clear_value x; intro hx)
    | (intro x; clear_value x)
    | with_reducible apply State.keyFail_kept
    | with_reducible apply State.mgtNote_kept
    | with_reducible apply State.setHead_kept
    | with_reducible apply State.modMgt_kept
    | with_reducible apply State.modKey_kept
    | with_reducible apply State.raise_kept
    | with_reducible apply State.set1_kept
    | with_reducible apply State.inc_kept
    | with_reducible apply Kept.ite

theorem State.pageGood_kept {q n} {s : State} {a1} (h : Kept q n s) :
    Kept q n (State.pageGood s a1) := by
  unfold State.pageGood
  repeat' first
    | with_reducible assumption
    | lift_lets
    | (intro x; refine Kept.cut (q := q) (n := n) (x := x) ?_ ?_; subst x; rotate_left; clear_value x; intro hx)
    | (intro x; clear_value x)
    | with_reducible apply State.keyWrote_kept
    | with_reducible apply State.setHead_kept
    | with_reducible apply State.modMgt_kept
    | with_reducible apply State.modKey_kept
    | with_reducible apply State.wrN_kept

theorem logFlushPage_kept {q n} {s : State} {a1} (h : Kept q n s) :
    Kept q n (logFlushPage s a1) := by
  unfold logFlushPage
  repeat' first
    | with_reducible assumption
    | lift_lets
    | (intro x; refine Kept.cut (q := q) (n := n) (x := x) ?_ ?_; subst x; rotate_left; clear_value x; intro hx)
    | (intro x; clear_value x)
    | with_reducible apply State.pageGood_kept
    | with_reducible apply State.pageBad_kept
    | with_reducible apply State.catchUp_kept
    | with_reducible apply Kept.ite
    | split

theorem State.flushPages_kept {q n} {s : State} {a1} (h : Kept q n s) :
    Kept q n (State.flushPages s a1) := by
  induction a1 generalizing s with
  | zero => simpa [State.flushPages] using h
  | succ m ih =>
    unfold State.flushPages
    repeat' first
      | with_reducible assumption
      | lift_lets
      | with_reducible apply ih
      | with_reducible apply Machine.logFlushPage_kept
      | with_reducible apply Kept.ite

theorem logHeadSearch_kept {q n} {s : State} (h : Kept q n s) :
    Kept q n (logHeadSearch s) := by
  unfold logHeadSearch
  repeat' first
    | with_reducible assumption
    | with_reducible apply State.setHead_kept
    | with_reducible apply State.wrN_kept
    | with_reducible apply Kept.ite
    | split
    | with_reducible apply Kept.drawn

theorem State.flushAll_kept {q n} {s : State} {a1} (h : Kept q n s) :
    Kept q n (State.flushAll s a1) := by
  unfold State.flushAll
  repeat' first
    | with_reducible assumption
    | lift_lets
    | (intro x; refine Kept.cut (q := q) (n := n) (x := x) ?_ ?_; subst x; rotate_left; clear_value x; intro hx)
    | with_reducible apply State.writeRaises_kept
    | with_reducible apply State.flushPages_kept
    | with_reducible apply Machine.logHeadSearch_kept
    | with_reducible apply Machine.logFlushPage_kept
    | split

end Sys2Proof.Machine
end

