-- ==== Sys2Proof/Laws/KeptPitch.lean ====
section
/-! SUPPORT. What the operations of Machine/Pitch.lean keep (`Kept`). -/
namespace Sys2Proof.Machine

theorem markPending_kept {q n} {s : State} {a1} (h : Kept q n s) :
    Kept q n (markPending s a1) := by
  unfold markPending
  repeat' first
    | with_reducible assumption
    | intro x (hx : Kept q n x)
    | with_reducible apply State.writeDesc_kept
    | with_reducible apply State.wantDesc_kept
    | with_reducible apply State.cmdBiv_kept
    | split

theorem pchClearCounters_kept {q n} {s : State} (h : Kept q n s) :
    Kept q n (pchClearCounters s) := by
  unfold pchClearCounters
  repeat' first | with_reducible assumption | intro x (hx : Kept q n x) | with_reducible apply State.zero_kept | with_reducible apply State.cmd_kept

theorem State.diagStart_kept {q n} {s : State} {a1} (h : Kept q n s) :
    Kept q n (State.diagStart s a1) := by
  unfold State.diagStart
  repeat' first
    | with_reducible assumption
    | lift_lets
    | (intro x; refine Kept.cut (q := q) (n := n) (x := x) ?_ ?_; subst x; rotate_left; clear_value x; intro hx)
    | with_reducible apply State.gateSupply_kept
    | with_reducible apply State.beginRun_kept
    | with_reducible apply State.setGst_kept
    | with_reducible apply State.sink_kept
    | with_reducible apply Kept.ite

theorem State.modSp_kept {q n} {s : State} {a1} {a2} (h : Kept q n s) :
    Kept q n (State.modSp s a1 a2) := by
  unfold State.modSp
  repeat' first | with_reducible assumption | with_reducible apply State.modKey_kept

theorem State.noImage_kept {q n} {s : State} (h : Kept q n s) :
    Kept q n (State.noImage s) := by
  unfold State.noImage
  repeat' first
    | with_reducible assumption
    | with_reducible apply State.haltEntry_kept
    | with_reducible apply State.pchRaise_kept
    | with_reducible apply State.set1_kept

theorem State.refuseSlot_kept {q n} {s : State} {a1} {a2} (h : Kept q n s) :
    Kept q n (State.refuseSlot s a1 a2) := by
  unfold State.refuseSlot
  repeat' first
    | with_reducible assumption
    | lift_lets
    | (intro x; refine Kept.cut (q := q) (n := n) (x := x) ?_ ?_; subst x; rotate_left; clear_value x; intro hx)
    | (intro x; refine Kept.cut (q := q) (n := n) (x := x.1) ?_ ?_; subst x; rotate_left; clear_value x; intro hx)
    | with_reducible apply State.pchRaise_kept
    | with_reducible apply State.setF_kept
    | with_reducible apply State.wrN_kept
    | split
    | simp only [Kept.mk]
    | with_reducible apply Kept.drawn

theorem State.noKey_kept {q n} {s : State} {a1} (h : Kept q n s) :
    Kept q n (State.noKey s a1) := by
  unfold State.noKey
  repeat' first | with_reducible assumption | with_reducible apply State.refuseSlot_kept | with_reducible apply State.noImage_kept

theorem State.pitchAux_kept {q n} {s : State} {a1} (h : Kept q n s) :
    Kept q n (State.pitchAux s a1) := by
  unfold State.pitchAux
  repeat' first
    | with_reducible assumption
    | intro x y (hx : Kept q n x)
    | lift_lets
    | (intro x; refine Kept.cut (q := q) (n := n) (x := x) ?_ ?_; subst x; rotate_left; clear_value x; intro hx)
    | (intro x; clear_value x)
    | with_reducible apply Machine.auxDiagComplete_kept
    | with_reducible apply State.setAst_kept
    | with_reducible apply State.domUp_kept
    | with_reducible apply State.each_kept
    | with_reducible apply Kept.ite

theorem State.pitchClocks_kept {q n} {s : State} (h : Kept q n s) :
    Kept q n (State.pitchClocks s) := by
  unfold State.pitchClocks
  repeat' first
    | with_reducible assumption
    | intro x y (hx : Kept q n x)
    | lift_lets
    | (intro x; refine Kept.cut (q := q) (n := n) (x := x) ?_ ?_; subst x; rotate_left; clear_value x; intro hx)
    | with_reducible apply State.domUp_kept
    | with_reducible apply State.each_kept
    | with_reducible apply State.wrN_kept
    | with_reducible apply Kept.ite

theorem State.pitchGates_kept {q n} {s : State} {a1} (h : Kept q n s) :
    Kept q n (State.pitchGates s a1) := by
  unfold State.pitchGates
  repeat' first
    | with_reducible assumption
    | intro x y (hx : Kept q n x)
    | lift_lets
    | (intro x; refine Kept.cut (q := q) (n := n) (x := x) ?_ ?_; subst x; rotate_left; clear_value x; intro hx)
    | (intro x; clear_value x)
    | with_reducible apply State.unplugChan_kept
    | with_reducible apply State.diagResult_kept
    | with_reducible apply State.diagStart_kept
    | with_reducible apply State.setF_kept
    | with_reducible apply State.each_kept
    | with_reducible apply State.sink_kept
    | with_reducible apply Kept.ite

theorem State.pitchIsland_kept {q n} {s : State} {a1} (h : Kept q n s) :
    Kept q n (State.pitchIsland s a1) := by
  unfold State.pitchIsland
  repeat' first
    | with_reducible assumption
    | intro x y (hx : Kept q n x)
    | lift_lets
    | (intro x; refine Kept.cut (q := q) (n := n) (x := x) ?_ ?_; subst x; rotate_left; clear_value x; intro hx)
    | with_reducible apply State.islandFault_kept
    | with_reducible apply State.setEnables_kept
    | with_reducible apply State.brakeApply_kept
    | with_reducible apply State.pairEval_kept
    | with_reducible apply State.noteSafe_kept
    | with_reducible apply State.noteMode_kept
    | with_reducible apply State.siRaise_kept
    | with_reducible apply Machine.cfgCrcCheck_kept
    | with_reducible apply State.siAll_kept
    | with_reducible apply State.setF_kept
    | with_reducible apply State.each_kept
    | with_reducible apply Kept.ite
    | split

theorem State.pitchKey_kept {q n} {s : State} {a1} (h : Kept q n s) :
    Kept q n (State.pitchKey s a1) := by
  unfold State.pitchKey
  repeat' first
    | with_reducible assumption
    | lift_lets
    | (intro x; refine Kept.cut (q := q) (n := n) (x := x) ?_ ?_; subst x; rotate_left; clear_value x; intro hx)
    | (intro x; clear_value x)
    | with_reducible apply State.noteDeferred_kept
    | with_reducible apply State.writeCount_kept
    | with_reducible apply State.showSlots_kept
    | with_reducible apply State.modKey_kept
    | with_reducible apply State.setF_kept
    | with_reducible apply State.wrN_kept

theorem State.pitchPort_kept {q n} {s : State} {a1} (h : Kept q n s) :
    Kept q n (State.pitchPort s a1) := by
  unfold State.pitchPort
  repeat' first
    | with_reducible assumption
    | with_reducible apply State.portEnable_kept
    | with_reducible apply State.domUp_kept
    | with_reducible apply Kept.ite

theorem State.pitchReady_kept {q n} {s : State} (h : Kept q n s) :
    Kept q n (State.pitchReady s) := by
  unfold State.pitchReady
  repeat' first
    | with_reducible assumption
    | intro x y (hx : Kept q n x)
    | lift_lets
    | (intro x; refine Kept.cut (q := q) (n := n) (x := x) ?_ ?_; subst x; rotate_left; clear_value x; intro hx)
    | (intro x; clear_value x)
    | with_reducible apply State.enterMaster_kept
    | with_reducible apply State.gateSupply_kept
    | with_reducible apply State.pitchPort_kept
    | with_reducible apply State.formTag_kept
    | with_reducible apply State.leSnap_kept
    | with_reducible apply State.modLe_kept
    | with_reducible apply State.setF_kept
    | with_reducible apply State.each_kept
    | with_reducible apply Kept.ite
    | simp only [Kept.mk]

theorem State.pitchRun_kept {q n} {s : State} {a1} {a2} (h : Kept q n s) :
    Kept q n (State.pitchRun s a1 a2) := by
  unfold State.pitchRun
  repeat' first
    | with_reducible assumption
    | lift_lets
    | (intro x; refine Kept.cut (q := q) (n := n) (x := x) ?_ ?_; subst x; rotate_left; clear_value x; intro hx)
    | with_reducible apply State.noteDeferred_kept
    | with_reducible apply State.pitchIsland_kept
    | with_reducible apply State.writeRaises_kept
    | with_reducible apply State.pitchGates_kept
    | with_reducible apply State.pitchReady_kept
    | with_reducible apply State.writeDesc_kept
    | with_reducible apply State.pitchAux_kept
    | with_reducible apply State.loadStep_kept
    | with_reducible apply State.setF_kept
    | with_reducible apply Kept.ite

theorem State.slotPassed_kept {q n} {s : State} {a1} {a2} (h : Kept q n s) :
    Kept q n (State.slotPassed s a1 a2) := by
  unfold State.slotPassed
  repeat' first
    | with_reducible assumption
    | lift_lets
    | (intro x; refine Kept.cut (q := q) (n := n) (x := x) ?_ ?_; subst x; rotate_left; clear_value x; intro hx)
    | (intro x; clear_value x)
    | with_reducible apply State.pchRaise_kept
    | with_reducible apply State.wantDesc_kept
    | with_reducible apply State.setF_kept
    | with_reducible apply State.set1_kept
    | with_reducible apply Kept.ite

theorem State.spRec_kept {q n} {s : State} {a1} {a2} (h : Kept q n s) :
    Kept q n (State.spRec s a1 a2).1 := by
  unfold State.spRec
  repeat' first | with_reducible assumption | lift_lets | (intro x; clear_value x) | split | simp only [Kept.mk] | with_reducible apply Kept.drawn

theorem State.spSend_kept {q n} {s : State} {a1} {a2} (h : Kept q n s) :
    Kept q n (State.spSend s a1 a2) := by
  unfold State.spSend
  repeat' first
    | with_reducible assumption
    | lift_lets
    | (intro x; refine Kept.cut (q := q) (n := n) (x := x.1) ?_ ?_; subst x; rotate_left; clear_value x; intro hx)
    | with_reducible apply State.raiseSec_kept
    | with_reducible apply State.enqueue_kept
    | with_reducible apply State.setBit_kept
    | with_reducible apply State.modSp_kept
    | with_reducible apply State.spRec_kept
    | with_reducible apply State.inc_kept
    | with_reducible apply Kept.ite

theorem State.spTake_kept {q n} {s : State} {a1} {a2} (h : Kept q n s) :
    Kept q n (State.spTake a1 s a2) := by
  unfold State.spTake
  repeat' first
    | with_reducible assumption
    | lift_lets
    | (intro x; refine Kept.cut (q := q) (n := n) (x := x) ?_ ?_; subst x; rotate_left; clear_value x; intro hx)
    | (intro x; clear_value x)
    | with_reducible apply State.raiseCleared_kept
    | with_reducible apply State.spSend_kept
    | with_reducible apply State.modSp_kept
    | with_reducible apply Kept.ite

theorem State.spFrame_kept {q n} {s : State} {a1} {a2} (h : Kept q n s) :
    Kept q n (State.spFrame s a1 a2) := by
  unfold State.spFrame
  repeat' first
    | with_reducible assumption
    | intro x y (hx : Kept q n x)
    | lift_lets
    | (intro x; refine Kept.cut (q := q) (n := n) (x := x) ?_ ?_; subst x; rotate_left; clear_value x; intro hx)
    | (intro x; clear_value x)
    | with_reducible apply State.forEach_kept
    | with_reducible apply State.spTake_kept
    | with_reducible apply State.modKey_kept
    | with_reducible apply State.incBy_kept
    | with_reducible apply State.clr_kept

theorem State.spInbound_kept {q n} {s : State} {a1} (h : Kept q n s) :
    Kept q n (State.spInbound s a1) := by
  unfold State.spInbound
  repeat' first
    | with_reducible assumption
    | intro x y (hx : Kept q n x)
    | lift_lets
    | (intro x; refine Kept.cut (q := q) (n := n) (x := x) ?_ ?_; subst x; rotate_left; clear_value x; intro hx)
    | with_reducible apply State.consume_kept
    | with_reducible apply State.forEach_kept
    | with_reducible apply State.spTake_kept

theorem State.trySlots_kept {q n} {s : State} {a1} {a2} {a3} (h : Kept q n s) :
    Kept q n (State.trySlots s a1 a2 a3).1 := by
  induction a3 generalizing s a1 a2 with
  | nil => simpa [State.trySlots] using h
  | cons x t ih =>
    unfold State.trySlots
    repeat' first
      | with_reducible assumption
      | lift_lets
      | (intro x; refine Kept.cut (q := q) (n := n) (x := x) ?_ ?_; subst x; rotate_left; clear_value x; intro hx)
      | with_reducible apply ih
      | with_reducible apply State.refuseSlot_kept
      | with_reducible apply State.wantDesc_kept
      | with_reducible apply State.setF_kept
      | with_reducible apply Kept.ite
      | split
      | with_reducible refine checkImage_kept (by assumption) ?_

theorem deferredKeyWrite_kept {q n} {s : State} {a1} (h : Kept q n s) :
    Kept q n (deferredKeyWrite s a1) := by
  unfold deferredKeyWrite
  repeat' first
    | with_reducible assumption
    | with_reducible apply State.writeCount_kept
    | with_reducible apply State.writeDesc_kept
    | with_reducible apply State.updDrain_kept

theorem keyInserted_kept {q n} {s : State} {a1} (h : Kept q n s) :
    Kept q n (keyInserted s a1) := by
  unfold keyInserted
  repeat' first
    | with_reducible assumption
    | lift_lets
    | (intro x; refine Kept.cut (q := q) (n := n) (x := x) ?_ ?_; subst x; rotate_left; clear_value x; intro hx)
    | (intro x; clear_value x)
    | with_reducible apply State.raiseCleared_kept
    | with_reducible apply State.showSlots_kept
    | with_reducible apply State.pchRaise_kept
    | with_reducible apply State.modKey_kept
    | with_reducible apply State.plug_kept
    | with_reducible apply State.wrN_kept
    | with_reducible apply Kept.ite

theorem keyRemoved_kept {q n} {s : State} (h : Kept q n s) :
    Kept q n (keyRemoved s) := by
  unfold keyRemoved
  repeat' first
    | with_reducible assumption
    | lift_lets
    | (intro x; refine Kept.cut (q := q) (n := n) (x := x) ?_ ?_; subst x; rotate_left; clear_value x; intro hx)
    | with_reducible apply State.pchRaise_kept
    | with_reducible apply State.modKey_kept
    | with_reducible apply Kept.ite

theorem pitchSequence_kept {q n} {s : State} {a1} (h : Kept q n s) :
    Kept q n (pitchSequence s a1) := by
  unfold pitchSequence
  repeat' first
    | with_reducible assumption
    | lift_lets
    | (intro x; refine Kept.cut (q := q) (n := n) (x := x) ?_ ?_; subst x; rotate_left; clear_value x; intro hx)
    | (intro x; clear_value x)
    | with_reducible apply State.noteDeferred_kept
    | with_reducible apply State.pitchClocks_kept
    | with_reducible apply State.slotPassed_kept
    | with_reducible apply State.writeDesc_kept
    | with_reducible apply State.pitchKey_kept
    | with_reducible apply State.trySlots_kept
    | with_reducible apply State.pitchRun_kept
    | with_reducible apply State.noImage_kept
    | with_reducible apply State.noKey_kept
    | with_reducible apply State.plug_kept
    | with_reducible apply State.setF_kept
    | with_reducible apply State.wrN_kept
    | with_reducible apply Kept.ite
    | split
    | with_reducible refine Kept.fst (by assumption) ?_

theorem setpointRoute_kept {q n} {s : State} {a1} (h : Kept q n s) :
    Kept q n (setpointRoute s a1) := by
  unfold setpointRoute
  repeat' first
    | with_reducible assumption
    | with_reducible apply State.spInbound_kept
    | with_reducible apply State.spFrame_kept
    | with_reducible apply Kept.ite
    | split

theorem setpointTimeout_kept {q n} {s : State} {a1} (h : Kept q n s) :
    Kept q n (setpointTimeout s a1) := by
  unfold setpointTimeout
  repeat' first
    | with_reducible assumption
    | lift_lets
    | (intro x; refine Kept.cut (q := q) (n := n) (x := x) ?_ ?_; subst x; rotate_left; clear_value x; intro hx)
    | with_reducible apply State.pchRaise_kept
    | with_reducible apply State.spSend_kept
    | with_reducible apply State.modSp_kept
    | with_reducible apply Kept.ite

end Sys2Proof.Machine
end

