-- ==== Sys2Proof/Laws/KeptPwr.lean ====
section
/-! SUPPORT. What the operations of Machine/Pwr.lean keep (`Kept`). -/
namespace Sys2Proof.Machine

theorem State.goSleep_kept {q n} {s : State} {a1} {a2} {a3} (h : Kept q n s) :
    Kept q n (State.goSleep s a1 a2 a3) := by
  unfold State.goSleep
  repeat' first
    | with_reducible assumption
    | lift_lets
    | (intro x; refine Kept.cut (q := q) (n := n) (x := x) ?_ ?_; subst x; rotate_left; clear_value x; intro hx)
    | with_reducible apply State.flushAll_kept
    | with_reducible apply State.cmdSet_kept
    | with_reducible apply State.sleep_kept
    | with_reducible apply Kept.ite

theorem listenCommand_kept {q n} {s : State} {a1} (h : Kept q n s) :
    Kept q n (listenCommand s a1) := by
  unfold listenCommand
  repeat' first | with_reducible assumption | with_reducible apply State.goSleep_kept

theorem pwrClearCounters_kept {q n} {s : State} (h : Kept q n s) :
    Kept q n (pwrClearCounters s) := by
  unfold pwrClearCounters
  repeat' first | with_reducible assumption | intro x (hx : Kept q n x) | with_reducible apply State.zero_kept | with_reducible apply State.cmd_kept

theorem State.enter_kept {q n} {s : State} {a1} {a2} (h : Kept q n s) :
    Kept q n (State.enter s a1 a2) := by
  unfold State.enter
  repeat' first | with_reducible assumption | with_reducible apply State.setF_kept

theorem readyCommand_kept {q n} {s : State} (h : Kept q n s) :
    Kept q n (readyCommand s) := by
  unfold readyCommand
  repeat' first
    | with_reducible assumption
    | intro x (hx : Kept q n x)
    | intro x y (hx : Kept q n x)
    | with_reducible apply State.enter_kept
    | with_reducible apply State.each_kept
    | with_reducible apply State.sink_kept
    | with_reducible apply State.cmd_kept
    | split

theorem State.pwrRaise_kept {q n} {s : State} {a1} {a2} {a3} (h : Kept q n s) :
    Kept q n (State.pwrRaise s a1 a2 a3) := by
  unfold State.pwrRaise
  repeat' first | with_reducible assumption | with_reducible apply State.raise_kept | with_reducible apply State.set1_kept

theorem State.restartHeld_kept {q n} {s : State} (h : Kept q n s) :
    Kept q n (State.restartHeld s) := by
  unfold State.restartHeld
  repeat' first | with_reducible assumption | with_reducible apply State.pwrRaise_kept | with_reducible apply State.inc_kept

theorem restartCommand_kept {q n} {s : State} {a1} (h : Kept q n s) :
    Kept q n (restartCommand s a1) := by
  unfold restartCommand
  repeat' first
    | with_reducible assumption
    | with_reducible apply State.restartHeld_kept
    | with_reducible apply State.restart_kept
    | with_reducible apply State.cmdSet_kept
    | with_reducible apply Kept.ite

theorem runCommand_kept {q n} {s : State} (h : Kept q n s) :
    Kept q n (runCommand s) := by
  unfold runCommand
  repeat' first
    | with_reducible assumption
    | intro x (hx : Kept q n x)
    | with_reducible apply State.enter_kept
    | with_reducible apply State.cmd_kept
    | split

theorem stowCommand_kept {q n} {s : State} {a1} (h : Kept q n s) :
    Kept q n (stowCommand s a1) := by
  unfold stowCommand
  repeat' first | with_reducible assumption | with_reducible apply State.goSleep_kept

theorem clkClearCounters_kept {q n} {s : State} (h : Kept q n s) :
    Kept q n (clkClearCounters s) := by
  unfold clkClearCounters
  repeat' first | with_reducible assumption | intro x (hx : Kept q n x) | with_reducible apply State.zero_kept | with_reducible apply State.cmd_kept

theorem State.groupDead_kept {q n} {s : State} {a1} (h : Kept q n s) :
    Kept q n (State.groupDead s a1) := by
  unfold State.groupDead
  repeat' first
    | with_reducible assumption
    | intro x y (hx : Kept q n x)
    | lift_lets
    | (intro x; refine Kept.cut (q := q) (n := n) (x := x) ?_ ?_; subst x; rotate_left; clear_value x; intro hx)
    | (intro x; clear_value x)
    | with_reducible apply State.retireDec_kept
    | with_reducible apply Machine.decCheckError_kept
    | with_reducible apply Machine.sdInputLost_kept
    | with_reducible apply State.each_kept
    | with_reducible apply Kept.ite

theorem State.domEffect_kept {q n} {s : State} {a1} (h : Kept q n s) :
    Kept q n (State.domEffect s a1) := by
  unfold State.domEffect
  repeat' first
    | with_reducible assumption
    | intro x y (hx : Kept q n x)
    | lift_lets
    | (intro x; refine Kept.cut (q := q) (n := n) (x := x) ?_ ?_; subst x; rotate_left; clear_value x; intro hx)
    | (intro x; clear_value x)
    | with_reducible apply State.islandFault_kept
    | with_reducible apply State.portRetire_kept
    | with_reducible apply Machine.primaryLinkFault_kept
    | with_reducible apply State.haltEntry_kept
    | with_reducible apply State.brakeLost_kept
    | with_reducible apply State.sarRetire_kept
    | with_reducible apply State.canBusOff_kept
    | with_reducible apply State.auxRetire_kept
    | with_reducible apply State.groupDead_kept
    | with_reducible apply State.giveOrSs1_kept
    | with_reducible apply State.hallLost_kept
    | with_reducible apply Machine.heartbeatLoss_kept
    | with_reducible apply State.fpHalt_kept
    | with_reducible apply State.setEst_kept
    | with_reducible apply State.modAux_kept
    | with_reducible apply Machine.leCheckError_kept
    | with_reducible apply State.each_kept
    | with_reducible apply State.set1_kept
    | with_reducible apply Kept.ite

theorem State.domOff_kept {q n} {s : State} {a1} (h : Kept q n s) :
    Kept q n (State.domOff s a1) := by
  unfold State.domOff
  repeat' first
    | with_reducible assumption
    | with_reducible apply State.gateSupply_kept
    | with_reducible apply State.setDom_kept
    | with_reducible apply Kept.ite

theorem State.freeCause_kept {q n} {s : State} (h : Kept q n s) :
    Kept q n (State.freeCause s).1 := by
  unfold State.freeCause
  repeat' first | with_reducible assumption | simp only [Kept.mk] | with_reducible apply Kept.drawn

theorem State.noteAux24_kept {q n} {s : State} {a1} {a2} (h : Kept q n s) :
    Kept q n (State.noteAux24 s a1 a2) := by
  unfold State.noteAux24
  repeat' first | with_reducible assumption | with_reducible apply State.wrN_kept

theorem autoRunEntry_kept {q n} {s : State} (h : Kept q n s) :
    Kept q n (autoRunEntry s) := by
  unfold autoRunEntry
  repeat' first
    | with_reducible assumption
    | with_reducible apply State.freeCause_kept
    | with_reducible apply State.enter_kept
    | with_reducible apply Kept.ite

theorem aux24Dropout_kept {q n} {s : State} {a1} {a2} (h : Kept q n s) :
    Kept q n (aux24Dropout s a1 a2) := by
  unfold aux24Dropout
  repeat' first
    | with_reducible assumption
    | lift_lets
    | (intro x; refine Kept.cut (q := q) (n := n) (x := x) ?_ ?_; subst x; rotate_left; clear_value x; intro hx)
    | with_reducible apply State.haltEntry_kept
    | with_reducible apply State.noteAux24_kept
    | with_reducible apply State.pwrRaise_kept
    | with_reducible apply Kept.ite

theorem aux24High_kept {q n} {s : State} {a1} {a2} (h : Kept q n s) :
    Kept q n (aux24High s a1 a2) := by
  unfold aux24High
  repeat' first | with_reducible assumption | with_reducible apply State.noteAux24_kept | with_reducible apply State.pwrRaise_kept

theorem aux24Low_kept {q n} {s : State} {a1} {a2} (h : Kept q n s) :
    Kept q n (aux24Low s a1 a2) := by
  unfold aux24Low
  repeat' first | with_reducible assumption | with_reducible apply State.noteAux24_kept | with_reducible apply State.pwrRaise_kept

theorem domainFailure_kept {q n} {s : State} {a1} (h : Kept q n s) :
    Kept q n (domainFailure s a1) := by
  unfold domainFailure
  repeat' first
    | with_reducible assumption
    | lift_lets
    | (intro x; refine Kept.cut (q := q) (n := n) (x := x) ?_ ?_; subst x; rotate_left; clear_value x; intro hx)
    | with_reducible apply State.domEffect_kept
    | with_reducible apply State.pwrRaise_kept
    | with_reducible apply State.domOff_kept
    | with_reducible apply State.setBit_kept
    | with_reducible apply State.inc_kept
    | with_reducible apply Kept.ite

theorem mgmtClockWindow_kept {q n} {s : State} {a1} (h : Kept q n s) :
    Kept q n (mgmtClockWindow s a1) := by
  unfold mgmtClockWindow
  repeat' first
    | with_reducible assumption
    | lift_lets
    | (intro x; refine Kept.cut (q := q) (n := n) (x := x) ?_ ?_; subst x; rotate_left; clear_value x; intro hx)
    | (intro x; clear_value x)
    | with_reducible apply State.pwrRaise_kept
    | with_reducible apply State.wrN_kept
    | with_reducible apply Kept.ite
    | simp only [Kept.mk]

theorem pllLockLoss_kept {q n} {s : State} {a1} (h : Kept q n s) :
    Kept q n (pllLockLoss s a1) := by
  unfold pllLockLoss
  repeat' first
    | with_reducible assumption
    | lift_lets
    | (intro x; refine Kept.cut (q := q) (n := n) (x := x) ?_ ?_; subst x; rotate_left; clear_value x; intro hx)
    | with_reducible apply State.haltEntry_kept
    | with_reducible apply State.freeCause_kept
    | with_reducible apply State.pwrRaise_kept
    | with_reducible apply State.clrBit_kept
    | with_reducible apply State.set1_kept
    | with_reducible apply State.inc_kept
    | with_reducible apply Kept.ite

theorem restartEdge_kept {q n} {s : State} {a1} (h : Kept q n s) :
    Kept q n (restartEdge s a1) := by
  unfold restartEdge
  repeat' first
    | with_reducible assumption
    | with_reducible apply State.restartHeld_kept
    | with_reducible apply State.restart_kept
    | with_reducible apply Kept.ite

theorem xtalDeviationWindow_kept {q n} {s : State} {a1} (h : Kept q n s) :
    Kept q n (xtalDeviationWindow s a1) := by
  unfold xtalDeviationWindow
  repeat' first
    | with_reducible assumption
    | lift_lets
    | (intro x; refine Kept.cut (q := q) (n := n) (x := x) ?_ ?_; subst x; rotate_left; clear_value x; intro hx)
    | (intro x; clear_value x)
    | with_reducible apply State.pwrRaise_kept
    | with_reducible apply State.wrN_kept
    | with_reducible apply Kept.ite
    | simp only [Kept.mk]

end Sys2Proof.Machine
end

