-- ==== Sys2Proof/Laws/KeptUpdate.lean ====
section
/-! SUPPORT. What the operations of Machine/Update.lean keep (`Kept`). -/
namespace Sys2Proof.Machine

theorem State.closeUpd_kept {q n} {s : State} (h : Kept q n s) :
    Kept q n (State.closeUpd s) := by
  unfold State.closeUpd
  repeat' first | with_reducible assumption | with_reducible apply State.modMgt_kept

theorem State.markSlot_kept {q n} {s : State} {a1} {a2} {a3} (h : Kept q n s) :
    Kept q n (State.markSlot s a1 a2 a3) := by
  unfold State.markSlot
  repeat' first | with_reducible assumption | with_reducible apply State.writeDesc_kept | with_reducible apply State.wantDesc_kept

theorem State.abortUpd_kept {q n} {s : State} {a1} {a2} (h : Kept q n s) :
    Kept q n (State.abortUpd s a1 a2) := by
  unfold State.abortUpd
  repeat' first
    | with_reducible assumption
    | with_reducible apply State.markSlot_kept
    | with_reducible apply State.closeUpd_kept
    | with_reducible apply State.mgtNote_kept
    | with_reducible apply State.raise_kept

theorem State.beginUpd_kept {q n} {s : State} {a1} {a2} {a3} {a4} (h : Kept q n s) :
    Kept q n (State.beginUpd s a1 a2 a3 a4) := by
  unfold State.beginUpd
  repeat' first
    | with_reducible assumption
    | lift_lets
    | (intro x; refine Kept.cut (q := q) (n := n) (x := x) ?_ ?_; subst x; rotate_left; clear_value x; intro hx)
    | (intro x; clear_value x)
    | with_reducible apply State.markSlot_kept
    | with_reducible apply State.modMgt_kept

theorem mgtAbortSession_kept {q n} {s : State} {a1} (h : Kept q n s) :
    Kept q n (mgtAbortSession s a1) := by
  unfold mgtAbortSession
  repeat' first
    | with_reducible assumption
    | intro x (hx : Kept q n x)
    | with_reducible apply State.abortUpd_kept
    | with_reducible apply State.cmd_kept
    | split

theorem mgtClearCounters_kept {q n} {s : State} (h : Kept q n s) :
    Kept q n (mgtClearCounters s) := by
  unfold mgtClearCounters
  repeat' first | with_reducible assumption | intro x (hx : Kept q n x) | with_reducible apply State.zero_kept | with_reducible apply State.cmd_kept

theorem State.endUpd_kept {q n} {s : State} {a1} {a2} (h : Kept q n s) :
    Kept q n (State.endUpd s a1 a2).1 := by
  unfold State.endUpd
  repeat' first
    | with_reducible assumption
    | lift_lets
    | (intro x; refine Kept.cut (q := q) (n := n) (x := x) ?_ ?_; subst x; rotate_left; clear_value x; intro hx)
    | (intro x; clear_value x)
    | with_reducible apply State.markSlot_kept
    | with_reducible apply State.closeUpd_kept
    | with_reducible apply State.mgtNote_kept
    | with_reducible apply State.raiseD_kept
    | split

theorem State.takeUpd_kept {q n} {s : State} {a1} {a2} {a3} (h : Kept q n s) :
    Kept q n (State.takeUpd s a1 a2 a3) := by
  unfold State.takeUpd
  repeat' first
    | with_reducible assumption
    | lift_lets
    | (intro x; refine Kept.cut (q := q) (n := n) (x := x) ?_ ?_; subst x; rotate_left; clear_value x; intro hx)
    | (intro x; clear_value x)
    | with_reducible apply State.progImage_kept
    | with_reducible apply State.keyWrote_kept
    | with_reducible apply State.keyFail_kept
    | with_reducible apply State.modMgt_kept
    | with_reducible apply Kept.ite
    | split

theorem updIdleTimeout_kept {q n} {s : State} {a1} (h : Kept q n s) :
    Kept q n (updIdleTimeout s a1) := by
  unfold updIdleTimeout
  repeat' first | with_reducible assumption | with_reducible apply State.abortUpd_kept | with_reducible apply Kept.ite | split

end Sys2Proof.Machine
end

