-- ==== Sys2Proof/Laws/KeptRegWrite.lean ====
section
/-! SUPPORT. What the operations of Machine/RegWrite.lean keep (`Kept`). -/
namespace Sys2Proof.Machine

theorem State.invalid_kept {q n} {s : State} {a1} {a2} (h : Kept q n s) :
    Kept q n (State.invalid s a1 a2) := by
  unfold State.invalid
  repeat' first | with_reducible assumption | intro x (hx : Kept q n x) | with_reducible apply State.cmd_kept

theorem State.canCmd_kept {q n} {s : State} {a1} {a2} (h : Kept q n s) :
    Kept q n (State.canCmd s a1 a2) := by
  unfold State.canCmd
  repeat' first
    | with_reducible assumption
    | with_reducible apply Machine.canStartRecovery_kept
    | with_reducible apply Machine.canClearCounters_kept
    | with_reducible apply Machine.canRequestBuffer_kept
    | with_reducible apply Machine.canAbortBuffer_kept
    | with_reducible apply State.invalid_kept
    | with_reducible apply Machine.canRestartTt_kept
    | with_reducible apply Kept.ite

theorem State.enqCmd_kept {q n} {s : State} {a1} (h : Kept q n s) :
    Kept q n (State.enqCmd s a1) := by
  unfold State.enqCmd
  repeat' first
    | with_reducible assumption
    | lift_lets
    | (intro x; refine Kept.cut (q := q) (n := n) (x := x) ?_ ?_; subst x; rotate_left; clear_value x; intro hx)
    | (intro x; clear_value x)
    | with_reducible apply State.invalid_kept
    | with_reducible apply Machine.hqEnqueue_kept
    | with_reducible apply Kept.ite
    | simp only [Kept.mk]

theorem State.linkCmd_kept {q n} {s : State} {a1} (h : Kept q n s) :
    Kept q n (State.linkCmd s a1) := by
  unfold State.linkCmd
  repeat' first
    | with_reducible assumption
    | with_reducible apply Machine.dclClearCounters_kept
    | with_reducible apply State.invalid_kept
    | with_reducible apply Machine.mainConfirmed_kept
    | with_reducible apply Machine.dclDischarge_kept
    | with_reducible apply Machine.dclPrecharge_kept
    | with_reducible apply Machine.dclReset_kept
    | with_reducible apply Machine.dclOpen_kept
    | split

theorem State.parCmd_kept {q n} {s : State} {a1} {a2} {a3} (h : Kept q n s) :
    Kept q n (State.parCmd s a1 a2 a3) := by
  unfold State.parCmd
  repeat' first
    | with_reducible assumption
    | with_reducible apply Machine.parClearCounters_kept
    | with_reducible apply State.invalid_kept
    | with_reducible apply Machine.parHandback_kept
    | with_reducible apply Machine.rejoin_kept
    | split

theorem State.pwrCmd_kept {q n} {s : State} {a1} {a2} (h : Kept q n s) :
    Kept q n (State.pwrCmd s a1 a2) := by
  unfold State.pwrCmd
  repeat' first
    | with_reducible assumption
    | with_reducible apply Machine.pwrClearCounters_kept
    | with_reducible apply Machine.restartCommand_kept
    | with_reducible apply Machine.listenCommand_kept
    | with_reducible apply State.invalid_kept
    | with_reducible apply Machine.readyCommand_kept
    | with_reducible apply Machine.stowCommand_kept
    | with_reducible apply Machine.runCommand_kept
    | split

theorem State.stCmd_kept {q n} {s : State} {a1} {a2} (h : Kept q n s) :
    Kept q n (State.stCmd s a1 a2) := by
  unfold State.stCmd
  repeat' first
    | with_reducible assumption
    | with_reducible apply Machine.stClearCounters_kept
    | with_reducible apply State.invalid_kept
    | with_reducible apply Machine.stReset_kept
    | with_reducible apply Machine.stStart_kept
    | with_reducible apply Machine.stCoast_kept
    | with_reducible apply Machine.stStop_kept
    | split

theorem State.unitCmd_kept {q n} {s : State} {a1} {a2} {a3} (h : Kept q n s) :
    Kept q n (State.unitCmd s a1 a2 a3) := by
  unfold State.unitCmd
  repeat' first
    | with_reducible assumption
    | with_reducible apply Machine.snsClearCounters_kept
    | with_reducible apply Machine.gdRunDiagnostics_kept
    | with_reducible apply Machine.auxClearCounters_kept
    | with_reducible apply Machine.halClearCounters_kept
    | with_reducible apply Machine.edgClearCounters_kept
    | with_reducible apply Machine.snsRotationStep_kept
    | with_reducible apply Machine.gdClearCounters_kept
    | with_reducible apply Machine.gdClearChannel_kept
    | with_reducible apply Machine.halDisablePort_kept
    | with_reducible apply Machine.auxClearOutput_kept
    | with_reducible apply Machine.halRetrainPort_kept
    | with_reducible apply Machine.auxRequestOff_kept
    | with_reducible apply State.invalid_kept
    | with_reducible apply Machine.halEnablePort_kept
    | with_reducible apply Machine.auxRequestOn_kept
    | with_reducible apply Machine.edgClearLeg_kept
    | with_reducible apply Kept.ite

theorem State.cmdWrite_kept {q n} {s : State} {a1} {a2} {a3} (h : Kept q n s) :
    Kept q n (State.cmdWrite s a1 a2 a3) := by
  unfold State.cmdWrite
  repeat' first
    | with_reducible assumption
    | lift_lets
    | (intro x; clear_value x)
    | with_reducible apply Machine.mgtClearCounters_kept
    | with_reducible apply Machine.pchClearCounters_kept
    | with_reducible apply Machine.clkClearCounters_kept
    | with_reducible apply Machine.bndClearCounters_kept
    | with_reducible apply Machine.posClearCounters_kept
    | with_reducible apply Machine.fltClearCounters_kept
    | with_reducible apply Machine.hkClearCounters_kept
    | with_reducible apply Machine.mgtAbortSession_kept
    | with_reducible apply Machine.hqClearCounters_kept
    | with_reducible apply Machine.leClearCounters_kept
    | with_reducible apply Machine.fpClearCounters_kept
    | with_reducible apply State.unitCmd_kept
    | with_reducible apply State.invalid_kept
    | with_reducible apply State.linkCmd_kept
    | with_reducible apply State.enqCmd_kept
    | with_reducible apply State.pwrCmd_kept
    | with_reducible apply State.parCmd_kept
    | with_reducible apply State.canCmd_kept
    | with_reducible apply Machine.markPending_kept
    | with_reducible apply State.stCmd_kept
    | with_reducible apply Kept.ite
    | split

theorem State.lockWrite_kept {q n} {s : State} (h : Kept q n s) :
    Kept q n (State.lockWrite s) := by
  unfold State.lockWrite
  repeat' first
    | with_reducible assumption
    | with_reducible apply State.raiseSec_kept
    | with_reducible apply State.mgtNote_kept
    | with_reducible apply State.inc_kept

theorem State.w1cWrite_kept {q n} {s : State} {a1} {a2} {a3} (h : Kept q n s) :
    Kept q n (State.w1cWrite s a1 a2 a3) := by
  unfold State.w1cWrite
  repeat' first | with_reducible assumption | with_reducible apply State.wr_kept | with_reducible apply Kept.ite

theorem fpPeekAddrWrite_kept {q n} {s : State} {a1} {a2} (h : Kept q n s) :
    Kept q n (fpPeekAddrWrite s a1 a2) := by
  unfold fpPeekAddrWrite
  repeat' first | with_reducible assumption | with_reducible apply State.wr_kept | with_reducible apply Kept.ite

theorem State.regWrite_kept {q n} {s : State} {a1} {a2} {a3} {a4} (h : Kept q n s) :
    Kept q n (State.regWrite s a1 a2 a3 a4) := by
  unfold State.regWrite
  repeat' first
    | with_reducible assumption
    | lift_lets
    | (intro x; clear_value x)
    | with_reducible apply Machine.fpPeekAddrWrite_kept
    | with_reducible apply State.lockWrite_kept
    | with_reducible apply Machine.canMbDataWrite_kept
    | with_reducible apply State.cmdWrite_kept
    | with_reducible apply State.w1cWrite_kept
    | with_reducible apply Machine.hqEnqWrite_kept
    | with_reducible apply Kept.ite
    | split

theorem lockWrite_kept {q n} {s : State} {a1} (h : Kept q n s) :
    Kept q n (lockWrite s a1) := by
  unfold lockWrite
  repeat' first | with_reducible assumption | with_reducible apply State.lockWrite_kept | with_reducible apply Kept.ite

theorem registerWrite_kept {q n} {s : State} {a1} {a2} {a3} {a4} {a5} (h : Kept q n s) :
    Kept q n (registerWrite s a1 a2 a3 a4 a5) := by
  unfold registerWrite
  repeat' first | with_reducible assumption | with_reducible apply State.regWrite_kept | with_reducible apply Kept.ite

theorem w1cClear_kept {q n} {s : State} {a1} {a2} {a3} (h : Kept q n s) :
    Kept q n (w1cClear s a1 a2 a3) := by
  unfold w1cClear
  repeat' first
    | with_reducible assumption
    | lift_lets
    | (intro x; clear_value x)
    | with_reducible apply State.w1cWrite_kept
    | with_reducible apply Kept.ite

end Sys2Proof.Machine
end

