-- ==== Sys2Proof/Laws/KeptMgt.lean ====
section
/-! SUPPORT. What the operations of Machine/Mgt.lean keep (`Kept`). -/
namespace Sys2Proof.Machine

theorem State.cellBad_kept {q n} {s : State} {a1} (h : Kept q n s) :
    Kept q n (State.cellBad s a1) := by
  unfold State.cellBad
  repeat' first
    | with_reducible assumption
    | with_reducible apply State.raiseSec_kept
    | with_reducible apply State.mgtNote_kept
    | with_reducible apply State.inc_kept

theorem State.correlate_kept {q n} {s : State} {a1} (h : Kept q n s) :
    Kept q n (State.correlate s a1) := by
  unfold State.correlate
  repeat' first
    | with_reducible assumption
    | lift_lets
    | (intro x; refine Kept.cut (q := q) (n := n) (x := x) ?_ ?_; subst x; rotate_left; clear_value x; intro hx)
    | (intro x; clear_value x)
    | with_reducible apply State.mgtNote_kept
    | with_reducible apply State.modFlt_kept
    | with_reducible apply State.wrN_kept

theorem State.deliver_kept {q n} {s : State} {a b r} (hx : State.deliver s a b = some r) (h : Kept q n s) : Kept q n r := by
  unfold State.deliver at hx
  split at hx
  · cases hx; exact h
  · split at hx
    · cases hx; exact State.clr_kept h
    · cases hx
  · split at hx
    · cases hx
    · obtain ⟨l, _, rfl⟩ := Option.map_eq_some_iff.1 hx
      exact State.modPort_kept h

theorem State.sendCell_kept {q n} {s : State} {a1} {a2} (h : Kept q n s) :
    Kept q n (State.sendCell s a1 a2) := by
  unfold State.sendCell
  repeat' first
    | with_reducible assumption
    | with_reducible apply State.transmit_kept
    | with_reducible apply State.canOwn_kept
    | with_reducible apply State.modMgt_kept
    | split

theorem State.respond_kept {q n} {s : State} {a1} {a2} {a3} {a4} {a5} (h : Kept q n s) :
    Kept q n (State.respond s a1 a2 a3 a4 a5) := by
  unfold State.respond
  repeat' first | with_reducible assumption | with_reducible apply State.sendCell_kept

theorem State.forward_kept {q n} {s : State} {a1} {a2} (h : Kept q n s) :
    Kept q n (State.forward s a1 a2) := by
  unfold State.forward
  repeat' first
    | with_reducible assumption
    | lift_lets
    | (intro x; refine Kept.cut (q := q) (n := n) (x := x.1) ?_ ?_; subst x; rotate_left; clear_value x; intro hx)
    | (intro x; clear_value x)
    | with_reducible apply State.sendSlot_kept
    | with_reducible apply State.respond_kept
    | with_reducible apply State.modMgt_kept
    | with_reducible apply Kept.ite

theorem State.queueReq_kept {q n} {s : State} {a1} {a2} (h : Kept q n s) :
    Kept q n (State.queueReq s a1 a2) := by
  unfold State.queueReq
  repeat' first | with_reducible assumption | with_reducible apply State.modMgt_kept

theorem State.settle_kept {q n} {s : State} {a1} (h : Kept q n s) :
    Kept q n (State.settle s a1) := by
  induction a1 generalizing s with
  | zero => simpa [State.settle] using h
  | succ m ih =>
    unfold State.settle
    repeat' first
      | with_reducible assumption
      | lift_lets
      | with_reducible apply ih
      | with_reducible apply State.respond_kept
      | with_reducible apply State.modMgt_kept
      | with_reducible apply Kept.ite
      | split

theorem State.serve_kept {q n} {s : State} {op} {f : State → MgtReq → State × MgtRes} (h : Kept q n s)
    (hf : ∀ t r, Kept q n t → Kept q n (f t r).1) : Kept q n (State.serve s op f) := by
  unfold State.serve
  have h0 := State.settle_kept (a1 := s.mgt.queue.length) h
  dsimp only
  split
  · exact h0
  · rename_i r t _
    refine Kept.ite h0 ?_
    have h1 : Kept q n (if op = 1 then ((s.settle s.mgt.queue.length).modMgt (fun q => { q with queue := t }))
        else ((s.settle s.mgt.queue.length).modMgt (fun q => { q with queue := t })).inc rMGT_CNT_REQ) :=
      Kept.ite (State.modMgt_kept h0) (State.inc_kept (State.modMgt_kept h0))
    split
    · rename_i u x e
      exact State.respond_kept (Kept.fst e (hf _ _ h1))
    · rename_i u e
      exact Kept.fst e (hf _ _ h1)

theorem State.updCell_kept {q n} {s : State} {a1} {a2} {a3} (h : Kept q n s) :
    Kept q n (State.updCell s a1 a2 a3).1 := by
  unfold State.updCell
  repeat' first | with_reducible assumption | lift_lets | (intro x; clear_value x) | with_reducible apply State.takeUpd_kept | split

theorem State.updFinish_kept {q n} {s : State} {a1} {a2} {a3} (h : Kept q n s) :
    Kept q n (State.updFinish s a1 a2 a3).1 := by
  unfold State.updFinish
  repeat' first
    | with_reducible assumption
    | lift_lets
    | (intro x; refine Kept.cut (q := q) (n := n) (x := x.1) ?_ ?_; subst x; rotate_left; clear_value x; intro hx)
    | with_reducible apply State.endUpd_kept
    | split

theorem State.writeWords_kept {q n} {s : State} {a1} {a2} {a3} {a4} (h : Kept q n s) :
    Kept q n (State.writeWords s a1 a2 a3 a4).1 := by
  induction a4 generalizing s a1 a2 a3 with
  | nil => simpa [State.writeWords] using h
  | cons x t ih =>
    unfold State.writeWords
    repeat' first
      | with_reducible assumption
      | lift_lets
      | (intro x; refine Kept.cut (q := q) (n := n) (x := x) ?_ ?_; subst x; rotate_left; clear_value x; intro hx)
      | with_reducible apply ih
      | with_reducible apply State.regWrite_kept
      | split

theorem cellReceive_kept {q n} {s : State} {a1} {a2} (h : Kept q n s) :
    Kept q n (cellReceive s a1 a2) := by
  unfold cellReceive
  repeat' first
    | with_reducible assumption
    | with_reducible apply State.queueReq_kept
    | with_reducible apply State.cellBad_kept
    | with_reducible apply State.forward_kept
    | with_reducible apply State.modMgt_kept
    | with_reducible apply Kept.ite
    | split
    | with_reducible refine State.deliver_kept (by assumption) ?_

theorem forwardResponse_kept {q n} {s : State} (h : Kept q n s) :
    Kept q n (forwardResponse s) := by
  unfold forwardResponse
  repeat' first
    | with_reducible assumption
    | lift_lets
    | (intro x; refine Kept.cut (q := q) (n := n) (x := x) ?_ ?_; subst x; rotate_left; clear_value x; intro hx)
    | with_reducible apply State.sendCell_kept
    | with_reducible apply State.modMgt_kept
    | with_reducible apply Kept.ite
    | split

theorem forwardTimeout_kept {q n} {s : State} (h : Kept q n s) :
    Kept q n (forwardTimeout s) := by
  unfold forwardTimeout
  repeat' first | with_reducible assumption | with_reducible apply State.modMgt_kept

theorem logRead_kept {q n} {s : State} (h : Kept q n s) :
    Kept q n (logRead s) := by
  unfold logRead
  repeat' first
    | with_reducible assumption
    | intro x y (hx : Kept q n x)
    | lift_lets
    | (intro x; clear_value x)
    | with_reducible apply State.serve_kept
    | split

theorem mpHeartbeat_kept {q n} {s : State} {a1} (h : Kept q n s) :
    Kept q n (mpHeartbeat s a1) := by
  unfold mpHeartbeat
  repeat' first
    | with_reducible assumption
    | with_reducible apply State.incMod_kept
    | with_reducible apply State.set1_kept
    | with_reducible apply State.clr_kept
    | with_reducible apply Kept.ite

theorem ping_kept {q n} {s : State} (h : Kept q n s) :
    Kept q n (ping s) := by
  unfold ping
  repeat' first | with_reducible assumption | intro x y (hx : Kept q n x) | with_reducible apply State.serve_kept

theorem readRequest_kept {q n} {s : State} (h : Kept q n s) :
    Kept q n (readRequest s) := by
  unfold readRequest
  repeat' first | with_reducible assumption | intro x y (hx : Kept q n x) | with_reducible apply State.serve_kept

theorem timeCorr_kept {q n} {s : State} (h : Kept q n s) :
    Kept q n (timeCorr s) := by
  unfold timeCorr
  repeat' first
    | with_reducible assumption
    | intro x y (hx : Kept q n x)
    | with_reducible apply State.correlate_kept
    | with_reducible apply State.serve_kept
    | split

theorem updAbort_kept {q n} {s : State} {a1} (h : Kept q n s) :
    Kept q n (updAbort s a1) := by
  unfold updAbort
  repeat' first
    | with_reducible assumption
    | intro x y (hx : Kept q n x)
    | with_reducible apply State.abortUpd_kept
    | with_reducible apply State.serve_kept
    | split

theorem updBegin_kept {q n} {s : State} {a1} (h : Kept q n s) :
    Kept q n (updBegin s a1) := by
  unfold updBegin
  repeat' first
    | with_reducible assumption
    | intro x y (hx : Kept q n x)
    | lift_lets
    | (intro x; clear_value x)
    | with_reducible apply State.beginUpd_kept
    | with_reducible apply State.serve_kept
    | split

theorem updData_kept {q n} {s : State} {a1} (h : Kept q n s) :
    Kept q n (updData s a1) := by
  unfold updData
  repeat' first
    | with_reducible assumption
    | intro x y (hx : Kept q n x)
    | lift_lets
    | with_reducible apply State.updDrain_kept
    | with_reducible apply State.updCell_kept
    | with_reducible apply State.serve_kept
    | split

theorem updEnd_kept {q n} {s : State} {a1} (h : Kept q n s) :
    Kept q n (updEnd s a1) := by
  unfold updEnd
  repeat' first
    | with_reducible assumption
    | intro x y (hx : Kept q n x)
    | lift_lets
    | with_reducible apply State.updFinish_kept
    | with_reducible apply State.updDrain_kept
    | with_reducible apply State.serve_kept
    | split

theorem writeRequest_kept {q n} {s : State} {a1} (h : Kept q n s) :
    Kept q n (writeRequest s a1) := by
  unfold writeRequest
  repeat' first
    | with_reducible assumption
    | intro x y (hx : Kept q n x)
    | lift_lets
    | (intro x; refine Kept.cut (q := q) (n := n) (x := x.1) ?_ ?_; subst x; rotate_left; clear_value x; intro hx)
    | (intro x; clear_value x)
    | with_reducible apply State.writeWords_kept
    | with_reducible apply State.serve_kept
    | split

end Sys2Proof.Machine
end

