-- ==== Sys2Proof/Laws/KeptExec.lean ====
section
/-! SUPPORT. What every command keeps (`Kept`). -/
namespace Sys2Proof.Machine

theorem Kept.next {q n} {x t : State} (h : Kept q n x) (e : Host.Outcome.next (φ := Fault) (ρ := Refusal) x = .next t) : Kept q n t := by
  cases e; exact h

theorem execOpAdd_kept {q n} {s t : State} {a1} {a2} {a3} {a4} {a5} (h : Kept q n s)
    (e : execOpAdd a1 a2 a3 a4 a5 s = .next t) : Kept q n t := Kept.next (State.fpSubmit_kept h) e

theorem execOpSub_kept {q n} {s t : State} {a1} {a2} {a3} {a4} {a5} (h : Kept q n s)
    (e : execOpSub a1 a2 a3 a4 a5 s = .next t) : Kept q n t := Kept.next (State.fpSubmit_kept h) e

theorem execOpAnd_kept {q n} {s t : State} {a1} {a2} {a3} {a4} {a5} (h : Kept q n s)
    (e : execOpAnd a1 a2 a3 a4 a5 s = .next t) : Kept q n t := Kept.next (State.fpSubmit_kept h) e

theorem execOpOr_kept {q n} {s t : State} {a1} {a2} {a3} {a4} {a5} (h : Kept q n s)
    (e : execOpOr a1 a2 a3 a4 a5 s = .next t) : Kept q n t := Kept.next (State.fpSubmit_kept h) e

theorem execOpXor_kept {q n} {s t : State} {a1} {a2} {a3} {a4} {a5} (h : Kept q n s)
    (e : execOpXor a1 a2 a3 a4 a5 s = .next t) : Kept q n t := Kept.next (State.fpSubmit_kept h) e

theorem execAndn_kept {q n} {s t : State} {a1} {a2} {a3} {a4} {a5} (h : Kept q n s)
    (e : execAndn a1 a2 a3 a4 a5 s = .next t) : Kept q n t := Kept.next (State.fpSubmit_kept h) e

theorem execShl_kept {q n} {s t : State} {a1} {a2} {a3} {a4} {a5} (h : Kept q n s)
    (e : execShl a1 a2 a3 a4 a5 s = .next t) : Kept q n t := Kept.next (State.fpSubmit_kept h) e

theorem execShr_kept {q n} {s t : State} {a1} {a2} {a3} {a4} {a5} (h : Kept q n s)
    (e : execShr a1 a2 a3 a4 a5 s = .next t) : Kept q n t := Kept.next (State.fpSubmit_kept h) e

theorem execShra_kept {q n} {s t : State} {a1} {a2} {a3} {a4} {a5} (h : Kept q n s)
    (e : execShra a1 a2 a3 a4 a5 s = .next t) : Kept q n t := Kept.next (State.fpSubmit_kept h) e

theorem execFpMin_kept {q n} {s t : State} {a1} {a2} {a3} {a4} {a5} (h : Kept q n s)
    (e : execFpMin a1 a2 a3 a4 a5 s = .next t) : Kept q n t := Kept.next (State.fpSubmit_kept h) e

theorem execFpMax_kept {q n} {s t : State} {a1} {a2} {a3} {a4} {a5} (h : Kept q n s)
    (e : execFpMax a1 a2 a3 a4 a5 s = .next t) : Kept q n t := Kept.next (State.fpSubmit_kept h) e

theorem execFpAbs_kept {q n} {s t : State} {a1} {a2} {a3} {a4} (h : Kept q n s)
    (e : execFpAbs a1 a2 a3 a4 s = .next t) : Kept q n t := Kept.next (State.fpSubmit_kept h) e

theorem execSeq_kept {q n} {s t : State} {a1} {a2} {a3} {a4} {a5} (h : Kept q n s)
    (e : execSeq a1 a2 a3 a4 a5 s = .next t) : Kept q n t := Kept.next (State.fpSubmit_kept h) e

theorem execSlt_kept {q n} {s t : State} {a1} {a2} {a3} {a4} {a5} (h : Kept q n s)
    (e : execSlt a1 a2 a3 a4 a5 s = .next t) : Kept q n t := Kept.next (State.fpSubmit_kept h) e

theorem execSltu_kept {q n} {s t : State} {a1} {a2} {a3} {a4} {a5} (h : Kept q n s)
    (e : execSltu a1 a2 a3 a4 a5 s = .next t) : Kept q n t := Kept.next (State.fpSubmit_kept h) e

theorem execMovi_kept {q n} {s t : State} {a1} {a2} {a3} {a4} (h : Kept q n s)
    (e : execMovi a1 a2 a3 a4 s = .next t) : Kept q n t := Kept.next (State.fpSubmit_kept h) e

theorem execMovhi_kept {q n} {s t : State} {a1} {a2} {a3} {a4} (h : Kept q n s)
    (e : execMovhi a1 a2 a3 a4 s = .next t) : Kept q n t := Kept.next (State.fpSubmit_kept h) e

theorem execOpMul_kept {q n} {s t : State} {a1} {a2} {a3} {a4} {a5} (h : Kept q n s)
    (e : execOpMul a1 a2 a3 a4 a5 s = .next t) : Kept q n t := Kept.next (State.fpSubmit_kept h) e

theorem execAddsH_kept {q n} {s t : State} {a1} {a2} {a3} {a4} {a5} (h : Kept q n s)
    (e : execAddsH a1 a2 a3 a4 a5 s = .next t) : Kept q n t := Kept.next (State.fpSubmit_kept h) e

theorem execSubsH_kept {q n} {s t : State} {a1} {a2} {a3} {a4} {a5} (h : Kept q n s)
    (e : execSubsH a1 a2 a3 a4 a5 s = .next t) : Kept q n t := Kept.next (State.fpSubmit_kept h) e

theorem execMpy_kept {q n} {s t : State} {a1} {a2} {a3} {a4} {a5} (h : Kept q n s)
    (e : execMpy a1 a2 a3 a4 a5 s = .next t) : Kept q n t := Kept.next (State.fpSubmit_kept h) e

theorem execMac_kept {q n} {s t : State} {a1} {a2} {a3} {a4} {a5} (h : Kept q n s)
    (e : execMac a1 a2 a3 a4 a5 s = .next t) : Kept q n t := Kept.next (State.fpSubmit_kept h) e

theorem execMsu_kept {q n} {s t : State} {a1} {a2} {a3} {a4} {a5} (h : Kept q n s)
    (e : execMsu a1 a2 a3 a4 a5 s = .next t) : Kept q n t := Kept.next (State.fpSubmit_kept h) e

theorem execAccadd_kept {q n} {s t : State} {a1} {a2} {a3} (h : Kept q n s)
    (e : execAccadd a1 a2 a3 s = .next t) : Kept q n t := Kept.next (State.fpSubmit_kept h) e

theorem execAccset_kept {q n} {s t : State} {a1} {a2} {a3} {a4} (h : Kept q n s)
    (e : execAccset a1 a2 a3 a4 s = .next t) : Kept q n t := Kept.next (State.fpSubmit_kept h) e

theorem execAccshl_kept {q n} {s t : State} {a1} {a2} {a3} {a4} (h : Kept q n s)
    (e : execAccshl a1 a2 a3 a4 s = .next t) : Kept q n t := Kept.next (State.fpSubmit_kept h) e

theorem execAccshr_kept {q n} {s t : State} {a1} {a2} {a3} {a4} (h : Kept q n s)
    (e : execAccshr a1 a2 a3 a4 s = .next t) : Kept q n t := Kept.next (State.fpSubmit_kept h) e

theorem execAccrd_kept {q n} {s t : State} {a1} {a2} {a3} {a4} {a5} (h : Kept q n s)
    (e : execAccrd a1 a2 a3 a4 a5 s = .next t) : Kept q n t := Kept.next (State.fpSubmit_kept h) e

theorem execAccrdW_kept {q n} {s t : State} {a1} {a2} {a3} {a4} (h : Kept q n s)
    (e : execAccrdW a1 a2 a3 a4 s = .next t) : Kept q n t := Kept.next (State.fpSubmit_kept h) e

theorem execNorm_kept {q n} {s t : State} {a1} {a2} {a3} {a4} (h : Kept q n s)
    (e : execNorm a1 a2 a3 a4 s = .next t) : Kept q n t := Kept.next (State.fpSubmit_kept h) e

theorem execNormH_kept {q n} {s t : State} {a1} {a2} {a3} {a4} (h : Kept q n s)
    (e : execNormH a1 a2 a3 a4 s = .next t) : Kept q n t := Kept.next (State.fpSubmit_kept h) e

theorem execNormacc_kept {q n} {s t : State} {a1} {a2} {a3} {a4} (h : Kept q n s)
    (e : execNormacc a1 a2 a3 a4 s = .next t) : Kept q n t := Kept.next (State.fpSubmit_kept h) e

theorem execBexp_kept {q n} {s t : State} {a1} {a2} {a3} {a4} (h : Kept q n s)
    (e : execBexp a1 a2 a3 a4 s = .next t) : Kept q n t := Kept.next (State.fpSubmit_kept h) e

theorem execExpx_kept {q n} {s t : State} {a1} {a2} {a3} {a4} (h : Kept q n s)
    (e : execExpx a1 a2 a3 a4 s = .next t) : Kept q n t := Kept.next (State.fpSubmit_kept h) e

theorem execFadd_kept {q n} {s t : State} {a1} {a2} {a3} {a4} {a5} (h : Kept q n s)
    (e : execFadd a1 a2 a3 a4 a5 s = .next t) : Kept q n t := Kept.next (State.fpSubmit_kept h) e

theorem execFsub_kept {q n} {s t : State} {a1} {a2} {a3} {a4} {a5} (h : Kept q n s)
    (e : execFsub a1 a2 a3 a4 a5 s = .next t) : Kept q n t := Kept.next (State.fpSubmit_kept h) e

theorem execFmul_kept {q n} {s t : State} {a1} {a2} {a3} {a4} {a5} (h : Kept q n s)
    (e : execFmul a1 a2 a3 a4 a5 s = .next t) : Kept q n t := Kept.next (State.fpSubmit_kept h) e

theorem execFma_kept {q n} {s t : State} {a1} {a2} {a3} {a4} {a5} {a6} (h : Kept q n s)
    (e : execFma a1 a2 a3 a4 a5 a6 s = .next t) : Kept q n t := Kept.next (State.fpSubmit_kept h) e

theorem execFms_kept {q n} {s t : State} {a1} {a2} {a3} {a4} {a5} {a6} (h : Kept q n s)
    (e : execFms a1 a2 a3 a4 a5 a6 s = .next t) : Kept q n t := Kept.next (State.fpSubmit_kept h) e

theorem execFdiv_kept {q n} {s t : State} {a1} {a2} {a3} {a4} {a5} (h : Kept q n s)
    (e : execFdiv a1 a2 a3 a4 a5 s = .next t) : Kept q n t := Kept.next (State.fpSubmit_kept h) e

theorem execFsqrt_kept {q n} {s t : State} {a1} {a2} {a3} {a4} (h : Kept q n s)
    (e : execFsqrt a1 a2 a3 a4 s = .next t) : Kept q n t := Kept.next (State.fpSubmit_kept h) e

theorem execFscale_kept {q n} {s t : State} {a1} {a2} {a3} {a4} {a5} (h : Kept q n s)
    (e : execFscale a1 a2 a3 a4 a5 s = .next t) : Kept q n t := Kept.next (State.fpSubmit_kept h) e

theorem execFmin_kept {q n} {s t : State} {a1} {a2} {a3} {a4} {a5} (h : Kept q n s)
    (e : execFmin a1 a2 a3 a4 a5 s = .next t) : Kept q n t := Kept.next (State.fpSubmit_kept h) e

theorem execFmax_kept {q n} {s t : State} {a1} {a2} {a3} {a4} {a5} (h : Kept q n s)
    (e : execFmax a1 a2 a3 a4 a5 s = .next t) : Kept q n t := Kept.next (State.fpSubmit_kept h) e

theorem execFabs_kept {q n} {s t : State} {a1} {a2} {a3} {a4} (h : Kept q n s)
    (e : execFabs a1 a2 a3 a4 s = .next t) : Kept q n t := Kept.next (State.fpSubmit_kept h) e

theorem execFneg_kept {q n} {s t : State} {a1} {a2} {a3} {a4} (h : Kept q n s)
    (e : execFneg a1 a2 a3 a4 s = .next t) : Kept q n t := Kept.next (State.fpSubmit_kept h) e

theorem execFceq_kept {q n} {s t : State} {a1} {a2} {a3} {a4} {a5} (h : Kept q n s)
    (e : execFceq a1 a2 a3 a4 a5 s = .next t) : Kept q n t := Kept.next (State.fpSubmit_kept h) e

theorem execFclt_kept {q n} {s t : State} {a1} {a2} {a3} {a4} {a5} (h : Kept q n s)
    (e : execFclt a1 a2 a3 a4 a5 s = .next t) : Kept q n t := Kept.next (State.fpSubmit_kept h) e

theorem execFcle_kept {q n} {s t : State} {a1} {a2} {a3} {a4} {a5} (h : Kept q n s)
    (e : execFcle a1 a2 a3 a4 a5 s = .next t) : Kept q n t := Kept.next (State.fpSubmit_kept h) e

theorem execFcvtSW_kept {q n} {s t : State} {a1} {a2} {a3} {a4} (h : Kept q n s)
    (e : execFcvtSW a1 a2 a3 a4 s = .next t) : Kept q n t := Kept.next (State.fpSubmit_kept h) e

theorem execFcvtWS_kept {q n} {s t : State} {a1} {a2} {a3} {a4} (h : Kept q n s)
    (e : execFcvtWS a1 a2 a3 a4 s = .next t) : Kept q n t := Kept.next (State.fpSubmit_kept h) e

theorem execFcvtSQ15_kept {q n} {s t : State} {a1} {a2} {a3} {a4} (h : Kept q n s)
    (e : execFcvtSQ15 a1 a2 a3 a4 s = .next t) : Kept q n t := Kept.next (State.fpSubmit_kept h) e

theorem execFcvtQ15S_kept {q n} {s t : State} {a1} {a2} {a3} {a4} (h : Kept q n s)
    (e : execFcvtQ15S a1 a2 a3 a4 s = .next t) : Kept q n t := Kept.next (State.fpSubmit_kept h) e

theorem execMfs_kept {q n} {s t : State} {a1} {a2} {a3} {a4} (h : Kept q n s)
    (e : execMfs a1 a2 a3 a4 s = .next t) : Kept q n t := Kept.next (State.fpSubmit_kept h) e

theorem execMts_kept {q n} {s t : State} {a1} {a2} {a3} {a4} (h : Kept q n s)
    (e : execMts a1 a2 a3 a4 s = .next t) : Kept q n t := Kept.next (State.fpSubmit_kept h) e

theorem execLdB_kept {q n} {s t : State} {a1} {a2} {a3} {a4} (h : Kept q n s)
    (e : execLdB a1 a2 a3 a4 s = .next t) : Kept q n t := Kept.next (State.fpSubmit_kept h) e

theorem execLdBu_kept {q n} {s t : State} {a1} {a2} {a3} {a4} (h : Kept q n s)
    (e : execLdBu a1 a2 a3 a4 s = .next t) : Kept q n t := Kept.next (State.fpSubmit_kept h) e

theorem execLdH_kept {q n} {s t : State} {a1} {a2} {a3} {a4} (h : Kept q n s)
    (e : execLdH a1 a2 a3 a4 s = .next t) : Kept q n t := Kept.next (State.fpSubmit_kept h) e

theorem execLdHu_kept {q n} {s t : State} {a1} {a2} {a3} {a4} (h : Kept q n s)
    (e : execLdHu a1 a2 a3 a4 s = .next t) : Kept q n t := Kept.next (State.fpSubmit_kept h) e

theorem execLdW_kept {q n} {s t : State} {a1} {a2} {a3} {a4} (h : Kept q n s)
    (e : execLdW a1 a2 a3 a4 s = .next t) : Kept q n t := Kept.next (State.fpSubmit_kept h) e

theorem execLdD_kept {q n} {s t : State} {a1} {a2} {a3} {a4} (h : Kept q n s)
    (e : execLdD a1 a2 a3 a4 s = .next t) : Kept q n t := Kept.next (State.fpSubmit_kept h) e

theorem execStB_kept {q n} {s t : State} {a1} {a2} {a3} {a4} (h : Kept q n s)
    (e : execStB a1 a2 a3 a4 s = .next t) : Kept q n t := Kept.next (State.fpSubmit_kept h) e

theorem execStH_kept {q n} {s t : State} {a1} {a2} {a3} {a4} (h : Kept q n s)
    (e : execStH a1 a2 a3 a4 s = .next t) : Kept q n t := Kept.next (State.fpSubmit_kept h) e

theorem execStW_kept {q n} {s t : State} {a1} {a2} {a3} {a4} (h : Kept q n s)
    (e : execStW a1 a2 a3 a4 s = .next t) : Kept q n t := Kept.next (State.fpSubmit_kept h) e

theorem execStD_kept {q n} {s t : State} {a1} {a2} {a3} {a4} (h : Kept q n s)
    (e : execStD a1 a2 a3 a4 s = .next t) : Kept q n t := Kept.next (State.fpSubmit_kept h) e

theorem execFpFence_kept {q n} {s t : State} {a1} {a2} (h : Kept q n s)
    (e : execFpFence a1 a2 s = .next t) : Kept q n t := Kept.next (State.fpSubmit_kept h) e

theorem execDeq_kept {q n} {s t : State} {a1} {a2} {a3} {a4} {a5} (h : Kept q n s)
    (e : execDeq a1 a2 a3 a4 a5 s = .next t) : Kept q n t := Kept.next (State.fpSubmit_kept h) e

theorem execEnq_kept {q n} {s t : State} {a1} {a2} {a3} {a4} (h : Kept q n s)
    (e : execEnq a1 a2 a3 a4 s = .next t) : Kept q n t := Kept.next (State.fpSubmit_kept h) e

theorem execWspill_kept {q n} {s t : State} {a1} {a2} {a3} (h : Kept q n s)
    (e : execWspill a1 a2 a3 s = .next t) : Kept q n t := Kept.next (State.fpSubmit_kept h) e

theorem execWfill_kept {q n} {s t : State} {a1} {a2} {a3} (h : Kept q n s)
    (e : execWfill a1 a2 a3 s = .next t) : Kept q n t := Kept.next (State.fpSubmit_kept h) e

theorem execFpBr_kept {q n} {s t : State} {a1} {a2} {a3} (h : Kept q n s)
    (e : execFpBr a1 a2 a3 s = .next t) : Kept q n t := Kept.next (State.fpSubmit_kept h) e

theorem execFpCall_kept {q n} {s t : State} {a1} {a2} {a3} (h : Kept q n s)
    (e : execFpCall a1 a2 a3 s = .next t) : Kept q n t := Kept.next (State.fpSubmit_kept h) e

theorem execCallr_kept {q n} {s t : State} {a1} {a2} {a3} (h : Kept q n s)
    (e : execCallr a1 a2 a3 s = .next t) : Kept q n t := Kept.next (State.fpSubmit_kept h) e

theorem execBeqz_kept {q n} {s t : State} {a1} {a2} {a3} {a4} (h : Kept q n s)
    (e : execBeqz a1 a2 a3 a4 s = .next t) : Kept q n t := Kept.next (State.fpSubmit_kept h) e

theorem execBnez_kept {q n} {s t : State} {a1} {a2} {a3} {a4} (h : Kept q n s)
    (e : execBnez a1 a2 a3 a4 s = .next t) : Kept q n t := Kept.next (State.fpSubmit_kept h) e

theorem execBltz_kept {q n} {s t : State} {a1} {a2} {a3} {a4} (h : Kept q n s)
    (e : execBltz a1 a2 a3 a4 s = .next t) : Kept q n t := Kept.next (State.fpSubmit_kept h) e

theorem execBgez_kept {q n} {s t : State} {a1} {a2} {a3} {a4} (h : Kept q n s)
    (e : execBgez a1 a2 a3 a4 s = .next t) : Kept q n t := Kept.next (State.fpSubmit_kept h) e

theorem execFpRet_kept {q n} {s t : State} {a1} {a2} (h : Kept q n s)
    (e : execFpRet a1 a2 s = .next t) : Kept q n t := Kept.next (State.fpSubmit_kept h) e

theorem execXret_kept {q n} {s t : State} {a1} {a2} (h : Kept q n s)
    (e : execXret a1 a2 s = .next t) : Kept q n t := Kept.next (State.fpSubmit_kept h) e

theorem execFpLoop_kept {q n} {s t : State} {a1} {a2} {a3} {a4} (h : Kept q n s)
    (e : execFpLoop a1 a2 a3 a4 s = .next t) : Kept q n t := Kept.next (State.fpSubmit_kept h) e

theorem execLoopr_kept {q n} {s t : State} {a1} {a2} {a3} {a4} {a5} (h : Kept q n s)
    (e : execLoopr a1 a2 a3 a4 a5 s = .next t) : Kept q n t := Kept.next (State.fpSubmit_kept h) e

theorem execFpWait_kept {q n} {s t : State} {a1} {a2} {a3} {a4} (h : Kept q n s)
    (e : execFpWait a1 a2 a3 a4 s = .next t) : Kept q n t := Kept.next (State.fpSubmit_kept h) e

theorem execFpTrap_kept {q n} {s t : State} {a1} {a2} {a3} (h : Kept q n s)
    (e : execFpTrap a1 a2 a3 s = .next t) : Kept q n t := Kept.next (State.fpSubmit_kept h) e

theorem execWaitWake_kept {q n} {s t : State} {a1} {a2} (h : Kept q n s)
    (e : execWaitWake a1 a2 s = .next t) : Kept q n t := Kept.next (State.lit_kept h (waitWake_kept h)) e

theorem execStallRelease_kept {q n} {s t : State} {a1} (h : Kept q n s)
    (e : execStallRelease a1 s = .next t) : Kept q n t := Kept.next (State.lit_kept h (stallRelease_kept h)) e

theorem execStoreDrain_kept {q n} {s t : State} {a1} (h : Kept q n s)
    (e : execStoreDrain a1 s = .next t) : Kept q n t := Kept.next (State.lit_kept h (storeDrain_kept h)) e

theorem execDeqComplete_kept {q n} {s t : State} {a1} (h : Kept q n s)
    (e : execDeqComplete a1 s = .next t) : Kept q n t := Kept.next (State.lit_kept h (deqComplete_kept h)) e

theorem execEnqComplete_kept {q n} {s t : State} {a1} (h : Kept q n s)
    (e : execEnqComplete a1 s = .next t) : Kept q n t := Kept.next (State.lit_kept h (enqComplete_kept h)) e

theorem execInboxWrite_kept {q n} {s t : State} {a1} (h : Kept q n s)
    (e : execInboxWrite a1 s = .next t) : Kept q n t := Kept.next (State.lit_kept h (inboxWrite_kept h)) e

theorem execWatchdogExpiry_kept {q n} {s t : State} {a1} (h : Kept q n s)
    (e : execWatchdogExpiry a1 s = .next t) : Kept q n t := Kept.next (State.lit_kept h (watchdogExpiry_kept h)) e

theorem execSandboxBudgetExhausted_kept {q n} {s t : State} {a1} (h : Kept q n s)
    (e : execSandboxBudgetExhausted a1 s = .next t) : Kept q n t := Kept.next (State.lit_kept h (sandboxBudget_kept h)) e

theorem execSparesPolicy_kept {q n} {s t : State} {a1} (h : Kept q n s)
    (e : execSparesPolicy a1 s = .next t) : Kept q n t := Kept.next (State.lit_kept h (sparesPolicy_kept h)) e

theorem execSpareSelfTest_kept {q n} {s t : State} {a1} {a2} (h : Kept q n s)
    (e : execSpareSelfTest a1 a2 s = .next t) : Kept q n t := Kept.next (State.lit_kept h (spareSelfTest_kept h)) e

theorem execPeekSample_kept {q n} {s t : State} {a1} (h : Kept q n s)
    (e : execPeekSample a1 s = .next t) : Kept q n t := Kept.next (State.lit_kept h (peekSample_kept h)) e

theorem execSpareLoadDone_kept {q n} {s t : State} {a1} {a2} {a3} (h : Kept q n s)
    (e : execSpareLoadDone a1 a2 a3 s = .next t) : Kept q n t := Kept.next (State.lit_kept h (spareLoadDone_kept h)) e

theorem execFpClearCounters_kept {q n} {s t : State} {a1} (h : Kept q n s)
    (e : execFpClearCounters a1 s = .next t) : Kept q n t := Kept.next (State.lit_kept h (fpClearCounters_kept h)) e

theorem execRegisterWrite_kept {q n} {s t : State} {a1} {a2} {a3} {a4} {a5} (h : Kept q n s)
    (e : execRegisterWrite a1 a2 a3 a4 a5 s = .next t) : Kept q n t := Kept.next (State.lit_kept h (registerWrite_kept h)) e

theorem execW1cClear_kept {q n} {s t : State} {a1} {a2} {a3} (h : Kept q n s)
    (e : execW1cClear a1 a2 a3 s = .next t) : Kept q n t := Kept.next (State.lit_kept h (w1cClear_kept h)) e

theorem execLockWrite_kept {q n} {s t : State} {a1} {a2} (h : Kept q n s)
    (e : execLockWrite a1 a2 s = .next t) : Kept q n t := Kept.next (State.lit_kept h (lockWrite_kept h)) e

theorem execFpPeekAddrWrite_kept {q n} {s t : State} {a1} {a2} (h : Kept q n s)
    (e : execFpPeekAddrWrite a1 a2 s = .next t) : Kept q n t := Kept.next (State.lit_kept h (fpPeekAddrWrite_kept h)) e

theorem execTimeSlotSend_kept {q n} {s t : State} {a1} (h : Kept q n s)
    (e : execTimeSlotSend a1 s = .next t) : Kept q n t := Kept.next (State.lit_kept h (timeSlotSend_kept h)) e

theorem execTimeSlotReceive_kept {q n} {s t : State} {a1} {a2} {a3} {a4} {a5} (h : Kept q n s)
    (e : execTimeSlotReceive a1 a2 a3 a4 a5 s = .next t) : Kept q n t := Kept.next (State.lit_kept h (timeSlotReceive_kept h)) e

theorem execFreeElectionTimeout_kept {q n} {s t : State} (h : Kept q n s)
    (e : execFreeElectionTimeout s = .next t) : Kept q n t := Kept.next (State.lit_kept h (freeElection_kept h)) e

theorem execUpstreamSilence_kept {q n} {s t : State} (h : Kept q n s)
    (e : execUpstreamSilence s = .next t) : Kept q n t := Kept.next (State.lit_kept h (upstreamSilence_kept h)) e

theorem execMasterAliveStale_kept {q n} {s t : State} (h : Kept q n s)
    (e : execMasterAliveStale s = .next t) : Kept q n t := Kept.next (State.lit_kept h (masterAliveStale_kept h)) e

theorem execCandidateElectionWon_kept {q n} {s t : State} (h : Kept q n s)
    (e : execCandidateElectionWon s = .next t) : Kept q n t := Kept.next (State.lit_kept h (electionWon_kept h)) e

theorem execCountWrap_kept {q n} {s t : State} (h : Kept q n s)
    (e : execCountWrap s = .next t) : Kept q n t := Kept.next (State.lit_kept h (countWrap_kept h)) e

theorem execRefInputLost_kept {q n} {s t : State} {a1} (h : Kept q n s)
    (e : execRefInputLost a1 s = .next t) : Kept q n t := Kept.next (State.lit_kept h (refInputLost_kept h)) e

theorem execCodewordReceive_kept {q n} {s t : State} {a1} {a2} (h : Kept q n s)
    (e : execCodewordReceive a1 a2 s = .next t) : Kept q n t := Kept.next (State.lit_kept h (codewordReceive_kept h)) e

theorem execRouteCellSend_kept {q n} {s t : State} (h : Kept q n s)
    (e : execRouteCellSend s = .next t) : Kept q n t := Kept.next (State.lit_kept h (routeCellSend_kept h)) e

theorem execRouteCellReceive_kept {q n} {s t : State} {a1} {a2} (h : Kept q n s)
    (e : execRouteCellReceive a1 a2 s = .next t) : Kept q n t := Kept.next (State.lit_kept h (routeCellReceive_kept h)) e

theorem execRouteCellTimeout_kept {q n} {s t : State} {a1} (h : Kept q n s)
    (e : execRouteCellTimeout a1 s = .next t) : Kept q n t := Kept.next (State.lit_kept h (routeCellTimeout_kept h)) e

theorem execPluggablePresent_kept {q n} {s t : State} {a1} {a2} {a3} {a4} {a5} {a6} (h : Kept q n s)
    (e : execPluggablePresent a1 a2 a3 a4 a5 a6 s = .next t) : Kept q n t := Kept.next (State.lit_kept h (pluggablePresent_kept h)) e

theorem execCageSupplyOn_kept {q n} {s t : State} {a1} (h : Kept q n s)
    (e : execCageSupplyOn a1 s = .next t) : Kept q n t := Kept.next (State.lit_kept h (cageSupplyOn_kept h)) e

theorem execTrainingSettled_kept {q n} {s t : State} {a1} (h : Kept q n s)
    (e : execTrainingSettled a1 s = .next t) : Kept q n t := Kept.next (State.lit_kept h (trainingSettled_kept h)) e

theorem execTrainingTimeout_kept {q n} {s t : State} {a1} (h : Kept q n s)
    (e : execTrainingTimeout a1 s = .next t) : Kept q n t := Kept.next (State.lit_kept h (trainingTimeout_kept h)) e

theorem execPortLinkLoss_kept {q n} {s t : State} {a1} {a2} (h : Kept q n s)
    (e : execPortLinkLoss a1 a2 s = .next t) : Kept q n t := Kept.next (State.lit_kept h (portLoss_kept h)) e

theorem execHalClearCounters_kept {q n} {s t : State} (h : Kept q n s)
    (e : execHalClearCounters s = .next t) : Kept q n t := Kept.next (State.lit_kept h (halClearCounters_kept h)) e

theorem execHalRetrainPort_kept {q n} {s t : State} {a1} (h : Kept q n s)
    (e : execHalRetrainPort a1 s = .next t) : Kept q n t := Kept.next (State.lit_kept h (halRetrainPort_kept h)) e

theorem execHalDisablePort_kept {q n} {s t : State} {a1} (h : Kept q n s)
    (e : execHalDisablePort a1 s = .next t) : Kept q n t := Kept.next (State.lit_kept h (halDisablePort_kept h)) e

theorem execHalEnablePort_kept {q n} {s t : State} {a1} (h : Kept q n s)
    (e : execHalEnablePort a1 s = .next t) : Kept q n t := Kept.next (State.lit_kept h (halEnablePort_kept h)) e

theorem execRxLosCleared_kept {q n} {s t : State} {a1} (h : Kept q n s)
    (e : execRxLosCleared a1 s = .next t) : Kept q n t := Kept.next (State.lit_kept h (rxLosCleared_kept h)) e

theorem execReferenceReturn_kept {q n} {s t : State} {a1} (h : Kept q n s)
    (e : execReferenceReturn a1 s = .next t) : Kept q n t := Kept.next (State.lit_kept h (referenceReturn_kept h)) e

theorem execRecordArrival_kept {q n} {s t : State} {a1} {a2} (h : Kept q n s)
    (e : execRecordArrival a1 a2 s = .next t) : Kept q n t := Kept.next (State.lit_kept h (recordArrival_kept h)) e

theorem execRecordFire_kept {q n} {s t : State} {a1} (h : Kept q n s)
    (e : execRecordFire a1 s = .next t) : Kept q n t := Kept.next (State.lit_kept h (recordFire_kept h)) e

theorem execCommitArrival_kept {q n} {s t : State} {a1} {a2} (h : Kept q n s)
    (e : execCommitArrival a1 a2 s = .next t) : Kept q n t := Kept.next (State.lit_kept h (commitArrival_kept h)) e

theorem execAbortArrival_kept {q n} {s t : State} {a1} {a2} (h : Kept q n s)
    (e : execAbortArrival a1 a2 s = .next t) : Kept q n t := Kept.next (State.lit_kept h (abortArrival_kept h)) e

theorem execGroupDeadline_kept {q n} {s t : State} {a1} {a2} (h : Kept q n s)
    (e : execGroupDeadline a1 a2 s = .next t) : Kept q n t := Kept.next (State.lit_kept h (groupDeadline_kept h)) e

theorem execGroupLaunch_kept {q n} {s t : State} {a1} {a2} (h : Kept q n s)
    (e : execGroupLaunch a1 a2 s = .next t) : Kept q n t := Kept.next (State.lit_kept h (groupLaunch_kept h)) e

theorem execGroupRelease_kept {q n} {s t : State} {a1} {a2} (h : Kept q n s)
    (e : execGroupRelease a1 a2 s = .next t) : Kept q n t := Kept.next (State.lit_kept h (groupRelease_kept h)) e

theorem execHqClearCounters_kept {q n} {s t : State} (h : Kept q n s)
    (e : execHqClearCounters s = .next t) : Kept q n t := Kept.next (State.lit_kept h (hqClearCounters_kept h)) e

theorem execHqEnqWrite_kept {q n} {s t : State} {a1} {a2} {a3} (h : Kept q n s)
    (e : execHqEnqWrite a1 a2 a3 s = .next t) : Kept q n t := Kept.next (State.lit_kept h (hqEnqWrite_kept h)) e

theorem execHqEnqueue_kept {q n} {s t : State} (h : Kept q n s)
    (e : execHqEnqueue s = .next t) : Kept q n t := Kept.next (State.lit_kept h (hqEnqueue_kept h)) e

theorem execSdInputLost_kept {q n} {s t : State} {a1} (h : Kept q n s)
    (e : execSdInputLost a1 s = .next t) : Kept q n t := Kept.next (State.lit_kept h (sdInputLost_kept h)) e

theorem execSdInputRecovered_kept {q n} {s t : State} {a1} (h : Kept q n s)
    (e : execSdInputRecovered a1 s = .next t) : Kept q n t := Kept.next (State.lit_kept h (sdInputRecovered_kept h)) e

theorem execDecOutput_kept {q n} {s t : State} {a1} {a2} {a3} (h : Kept q n s)
    (e : execDecOutput a1 a2 a3 s = .next t) : Kept q n t := Kept.next (State.lit_kept h (decOutput_kept h)) e

theorem execSetFilter_kept {q n} {s t : State} {a1} {a2} (h : Kept q n s)
    (e : execSetFilter a1 a2 s = .next t) : Kept q n t := Kept.next (State.lit_kept h (setFilter_kept h)) e

theorem execDecAlign_kept {q n} {s t : State} {a1} {a2} (h : Kept q n s)
    (e : execDecAlign a1 a2 s = .next t) : Kept q n t := Kept.next (State.lit_kept h (decAlign_kept h)) e

theorem execWindowOut_kept {q n} {s t : State} {a1} {a2} (h : Kept q n s)
    (e : execWindowOut a1 a2 s = .next t) : Kept q n t := Kept.next (State.lit_kept h (windowOut_kept h)) e

theorem execRotationTick_kept {q n} {s t : State} (h : Kept q n s)
    (e : execRotationTick s = .next t) : Kept q n t := Kept.next (State.lit_kept h (rotationTick_kept h)) e

theorem execShadowHandover_kept {q n} {s t : State} {a1} (h : Kept q n s)
    (e : execShadowHandover a1 s = .next t) : Kept q n t := Kept.next (State.lit_kept h (shadowHandover_kept h)) e

theorem execShadowMismatch_kept {q n} {s t : State} {a1} (h : Kept q n s)
    (e : execShadowMismatch a1 s = .next t) : Kept q n t := Kept.next (State.lit_kept h (shadowMismatch_kept h)) e

theorem execPatternTestDone_kept {q n} {s t : State} {a1} {a2} (h : Kept q n s)
    (e : execPatternTestDone a1 a2 s = .next t) : Kept q n t := Kept.next (State.lit_kept h (patternTestDone_kept h)) e

theorem execDecCheckError_kept {q n} {s t : State} {a1} (h : Kept q n s)
    (e : execDecCheckError a1 s = .next t) : Kept q n t := Kept.next (State.lit_kept h (decCheckError_kept h)) e

theorem execSnsClearCounters_kept {q n} {s t : State} (h : Kept q n s)
    (e : execSnsClearCounters s = .next t) : Kept q n t := Kept.next (State.lit_kept h (snsClearCounters_kept h)) e

theorem execSnsRotationStep_kept {q n} {s t : State} (h : Kept q n s)
    (e : execSnsRotationStep s = .next t) : Kept q n t := Kept.next (State.lit_kept h (snsRotationStep_kept h)) e

theorem execConvert_kept {q n} {s t : State} {a1} {a2} (h : Kept q n s)
    (e : execConvert a1 a2 s = .next t) : Kept q n t := Kept.next (State.lit_kept h (convert_kept h)) e

theorem execRunSeq_kept {q n} {s t : State} {a1} {a2} (h : Kept q n s)
    (e : execRunSeq a1 a2 s = .next t) : Kept q n t := Kept.next (State.lit_kept h (runSeq_kept h)) e

theorem execSarConversionEnd_kept {q n} {s t : State} {a1} {a2} {a3} (h : Kept q n s)
    (e : execSarConversionEnd a1 a2 a3 s = .next t) : Kept q n t := Kept.next (State.lit_kept h (sarConversionEnd_kept h)) e

theorem execSarCalStall_kept {q n} {s t : State} {a1} (h : Kept q n s)
    (e : execSarCalStall a1 s = .next t) : Kept q n t := Kept.next (State.lit_kept h (sarCalStall_kept h)) e

theorem execVonSample_kept {q n} {s t : State} {a1} {a2} (h : Kept q n s)
    (e : execVonSample a1 a2 s = .next t) : Kept q n t := Kept.next (State.lit_kept h (vonSample_kept h)) e

theorem execVonEntryWritten_kept {q n} {s t : State} {a1} {a2} {a3} (h : Kept q n s)
    (e : execVonEntryWritten a1 a2 a3 s = .next t) : Kept q n t := Kept.next (State.lit_kept h (vonEntryWritten_kept h)) e

theorem execCodingError_kept {q n} {s t : State} {a1} (h : Kept q n s)
    (e : execCodingError a1 s = .next t) : Kept q n t := Kept.next (State.lit_kept h (codingError_kept h)) e

theorem execHallSyncChange_kept {q n} {s t : State} {a1} {a2} {a3} {a4} (h : Kept q n s)
    (e : execHallSyncChange a1 a2 a3 a4 s = .next t) : Kept q n t := Kept.next (State.lit_kept h (hallSyncChange_kept h)) e

theorem execHallImpossibleTimeout_kept {q n} {s t : State} {a1} (h : Kept q n s)
    (e : execHallImpossibleTimeout a1 s = .next t) : Kept q n t := Kept.next (State.lit_kept h (hallImpossibleTimeout_kept h)) e

theorem execHallLevelAccepted_kept {q n} {s t : State} {a1} {a2} {a3} (h : Kept q n s)
    (e : execHallLevelAccepted a1 a2 a3 s = .next t) : Kept q n t := Kept.next (State.lit_kept h (hallLevelAccepted_kept h)) e

theorem execIndexEdgeAccepted_kept {q n} {s t : State} {a1} {a2} {a3} {a4} {a5} (h : Kept q n s)
    (e : execIndexEdgeAccepted a1 a2 a3 a4 a5 s = .next t) : Kept q n t := Kept.next (State.lit_kept h (indexEdgeAccepted_kept h)) e

theorem execProbeEdgeAccepted_kept {q n} {s t : State} {a1} {a2} {a3} {a4} {a5} (h : Kept q n s)
    (e : execProbeEdgeAccepted a1 a2 a3 a4 a5 s = .next t) : Kept q n t := Kept.next (State.lit_kept h (probeEdgeAccepted_kept h)) e

theorem execSnapshot_kept {q n} {s t : State} {a1} {a2} (h : Kept q n s)
    (e : execSnapshot a1 a2 s = .next t) : Kept q n t := Kept.next (State.lit_kept h (snapshot_kept h)) e

theorem execHptSelect_kept {q n} {s t : State} {a1} {a2} (h : Kept q n s)
    (e : execHptSelect a1 a2 s = .next t) : Kept q n t := Kept.next (State.lit_kept h (hptSelect_kept h)) e

theorem execPosClearCounters_kept {q n} {s t : State} (h : Kept q n s)
    (e : execPosClearCounters s = .next t) : Kept q n t := Kept.next (State.lit_kept h (posClearCounters_kept h)) e

theorem execCarrierSync_kept {q n} {s t : State} {a1} {a2} {a3} (h : Kept q n s)
    (e : execCarrierSync a1 a2 a3 s = .next t) : Kept q n t := Kept.next (State.lit_kept h (carrierSync_kept h)) e

theorem execSetPeriod_kept {q n} {s t : State} {a1} {a2} {a3} (h : Kept q n s)
    (e : execSetPeriod a1 a2 a3 s = .next t) : Kept q n t := Kept.next (State.lit_kept h (setPeriodHost_kept h)) e

theorem execCarrierStop_kept {q n} {s t : State} {a1} {a2} (h : Kept q n s)
    (e : execCarrierStop a1 a2 s = .next t) : Kept q n t := Kept.next (State.lit_kept h (carrierStop_kept h)) e

theorem execCarrierInstant_kept {q n} {s t : State} {a1} {a2} (h : Kept q n s)
    (e : execCarrierInstant a1 a2 s = .next t) : Kept q n t := Kept.next (State.lit_kept h (carrierInstant_kept h)) e

theorem execLegSet_kept {q n} {s t : State} {a1} {a2} {a3} {a4} (h : Kept q n s)
    (e : execLegSet a1 a2 a3 a4 s = .next t) : Kept q n t := Kept.next (State.lit_kept h (legSet_kept h)) e

theorem execOutSet_kept {q n} {s t : State} {a1} {a2} {a3} {a4} (h : Kept q n s)
    (e : execOutSet a1 a2 a3 a4 s = .next t) : Kept q n t := Kept.next (State.lit_kept h (outSet_kept h)) e

theorem execDeadTimeElapsed_kept {q n} {s t : State} {a1} {a2} (h : Kept q n s)
    (e : execDeadTimeElapsed a1 a2 s = .next t) : Kept q n t := Kept.next (State.lit_kept h (deadTimeElapsed_kept h)) e

theorem execDelayLineSwap_kept {q n} {s t : State} {a1} {a2} (h : Kept q n s)
    (e : execDelayLineSwap a1 a2 s = .next t) : Kept q n t := Kept.next (State.lit_kept h (delayLineSwap_kept h)) e

theorem execLineCalibrationDone_kept {q n} {s t : State} {a1} {a2} (h : Kept q n s)
    (e : execLineCalibrationDone a1 a2 s = .next t) : Kept q n t := Kept.next (State.lit_kept h (lineCalibrationDone_kept h)) e

theorem execTripPinQualified_kept {q n} {s t : State} {a1} {a2} (h : Kept q n s)
    (e : execTripPinQualified a1 a2 s = .next t) : Kept q n t := Kept.next (State.lit_kept h (tripPinQualified_kept h)) e

theorem execTripRowActive_kept {q n} {s t : State} {a1} (h : Kept q n s)
    (e : execTripRowActive a1 s = .next t) : Kept q n t := Kept.next (State.lit_kept h (tripRowActive_kept h)) e

theorem execPeriodStart_kept {q n} {s t : State} {a1} (h : Kept q n s)
    (e : execPeriodStart a1 s = .next t) : Kept q n t := Kept.next (State.lit_kept h (periodStart_kept h)) e

theorem execLegRetryWaitEnd_kept {q n} {s t : State} {a1} (h : Kept q n s)
    (e : execLegRetryWaitEnd a1 s = .next t) : Kept q n t := Kept.next (State.lit_kept h (legRetryWaitEnd_kept h)) e

theorem execLegTripPersist_kept {q n} {s t : State} {a1} (h : Kept q n s)
    (e : execLegTripPersist a1 s = .next t) : Kept q n t := Kept.next (State.lit_kept h (legTripPersist_kept h)) e

theorem execEdgClearCounters_kept {q n} {s t : State} (h : Kept q n s)
    (e : execEdgClearCounters s = .next t) : Kept q n t := Kept.next (State.lit_kept h (edgClearCounters_kept h)) e

theorem execEdgClearLeg_kept {q n} {s t : State} {a1} (h : Kept q n s)
    (e : execEdgClearLeg a1 s = .next t) : Kept q n t := Kept.next (State.lit_kept h (edgClearLeg_kept h)) e

theorem execLineCheckError_kept {q n} {s t : State} {a1} (h : Kept q n s)
    (e : execLineCheckError a1 s = .next t) : Kept q n t := Kept.next (State.lit_kept h (lineCheckError_kept h)) e

theorem execCarrierCheckFail_kept {q n} {s t : State} {a1} (h : Kept q n s)
    (e : execCarrierCheckFail a1 s = .next t) : Kept q n t := Kept.next (State.lit_kept h (carrierCheckFail_kept h)) e

theorem execT3lInnerElapsed_kept {q n} {s t : State} {a1} (h : Kept q n s)
    (e : execT3lInnerElapsed a1 s = .next t) : Kept q n t := Kept.next (State.lit_kept h (t3lInnerElapsed_kept h)) e

theorem execSupplyReady_kept {q n} {s t : State} {a1} {a2} {a3} (h : Kept q n s)
    (e : execSupplyReady a1 a2 a3 s = .next t) : Kept q n t := Kept.next (State.lit_kept h (supplyReady_kept h)) e

theorem execSupplyFault_kept {q n} {s t : State} {a1} {a2} {a3} (h : Kept q n s)
    (e : execSupplyFault a1 a2 a3 s = .next t) : Kept q n t := Kept.next (State.lit_kept h (supplyFault_kept h)) e

theorem execSupplyOverload_kept {q n} {s t : State} {a1} {a2} (h : Kept q n s)
    (e : execSupplyOverload a1 a2 s = .next t) : Kept q n t := Kept.next (State.lit_kept h (supplyOverload_kept h)) e

theorem execGateCommandArrival_kept {q n} {s t : State} {a1} {a2} {a3} {a4} (h : Kept q n s)
    (e : execGateCommandArrival a1 a2 a3 a4 s = .next t) : Kept q n t := Kept.next (State.lit_kept h (gateCommandArrival_kept h)) e

theorem execProfilePhaseEnd_kept {q n} {s t : State} {a1} {a2} (h : Kept q n s)
    (e : execProfilePhaseEnd a1 a2 s = .next t) : Kept q n t := Kept.next (State.lit_kept h (profilePhaseEnd_kept h)) e

theorem execBlankingEnd_kept {q n} {s t : State} {a1} {a2} (h : Kept q n s)
    (e : execBlankingEnd a1 a2 s = .next t) : Kept q n t := Kept.next (State.lit_kept h (blankingEnd_kept h)) e

theorem execDesatDetected_kept {q n} {s t : State} {a1} (h : Kept q n s)
    (e : execDesatDetected a1 s = .next t) : Kept q n t := Kept.next (State.lit_kept h (desatDetected_kept h)) e

theorem execSoftTurnOffEnd_kept {q n} {s t : State} {a1} (h : Kept q n s)
    (e : execSoftTurnOffEnd a1 s = .next t) : Kept q n t := Kept.next (State.lit_kept h (softTurnOffEnd_kept h)) e

theorem execDesatFlagArrival_kept {q n} {s t : State} {a1} (h : Kept q n s)
    (e : execDesatFlagArrival a1 s = .next t) : Kept q n t := Kept.next (State.lit_kept h (desatFlagArrival_kept h)) e

theorem execGateOffReport_kept {q n} {s t : State} {a1} {a2} (h : Kept q n s)
    (e : execGateOffReport a1 a2 s = .next t) : Kept q n t := Kept.next (State.lit_kept h (gateOffReport_kept h)) e

theorem execGateMiss_kept {q n} {s t : State} {a1} {a2} (h : Kept q n s)
    (e : execGateMiss a1 a2 s = .next t) : Kept q n t := Kept.next (State.lit_kept h (gateMiss_kept h)) e

theorem execIsolatedLinkLoss_kept {q n} {s t : State} {a1} (h : Kept q n s)
    (e : execIsolatedLinkLoss a1 s = .next t) : Kept q n t := Kept.next (State.lit_kept h (isolatedLinkLoss_kept h)) e

theorem execPrimaryLinkFault_kept {q n} {s t : State} {a1} (h : Kept q n s)
    (e : execPrimaryLinkFault a1 s = .next t) : Kept q n t := Kept.next (State.lit_kept h (primaryLinkFault_kept h)) e

theorem execGdRetryWaitEnd_kept {q n} {s t : State} {a1} {a2} (h : Kept q n s)
    (e : execGdRetryWaitEnd a1 a2 s = .next t) : Kept q n t := Kept.next (State.lit_kept h (gdRetryWaitEnd_kept h)) e

theorem execGdClear_kept {q n} {s t : State} {a1} {a2} {a3} (h : Kept q n s)
    (e : execGdClear a1 a2 a3 s = .next t) : Kept q n t := Kept.next (State.lit_kept h (gdClear_kept h)) e

theorem execGdClearChannel_kept {q n} {s t : State} {a1} {a2} (h : Kept q n s)
    (e : execGdClearChannel a1 a2 s = .next t) : Kept q n t := Kept.next (State.lit_kept h (gdClearChannel_kept h)) e

theorem execGdRunDiagnostics_kept {q n} {s t : State} {a1} (h : Kept q n s)
    (e : execGdRunDiagnostics a1 s = .next t) : Kept q n t := Kept.next (State.lit_kept h (gdRunDiagnostics_kept h)) e

theorem execGdClearCounters_kept {q n} {s t : State} (h : Kept q n s)
    (e : execGdClearCounters s = .next t) : Kept q n t := Kept.next (State.lit_kept h (gdClearCounters_kept h)) e

theorem execInterlockOpen_kept {q n} {s t : State} {a1} (h : Kept q n s)
    (e : execInterlockOpen a1 s = .next t) : Kept q n t := Kept.next (State.lit_kept h (interlockOpen_kept h)) e

theorem execInterlockClosedSettled_kept {q n} {s t : State} {a1} (h : Kept q n s)
    (e : execInterlockClosedSettled a1 s = .next t) : Kept q n t := Kept.next (State.lit_kept h (interlockClosedSettled_kept h)) e

theorem execDiagnosticsComplete_kept {q n} {s t : State} {a1} {a2} {a3} {a4} (h : Kept q n s)
    (e : execDiagnosticsComplete a1 a2 a3 a4 s = .next t) : Kept q n t := Kept.next (State.lit_kept h (diagnosticsComplete_kept h)) e

theorem execFswWindow_kept {q n} {s t : State} {a1} (h : Kept q n s)
    (e : execFswWindow a1 s = .next t) : Kept q n t := Kept.next (State.lit_kept h (fswWindow_kept h)) e

theorem execRegulatorTick_kept {q n} {s t : State} {a1} (h : Kept q n s)
    (e : execRegulatorTick a1 s = .next t) : Kept q n t := Kept.next (State.lit_kept h (regulatorTick_kept h)) e

theorem execSetCurrent_kept {q n} {s t : State} {a1} {a2} (h : Kept q n s)
    (e : execSetCurrent a1 a2 s = .next t) : Kept q n t := Kept.next (State.lit_kept h (setCurrent_kept h)) e

theorem execBndSetMode_kept {q n} {s t : State} {a1} {a2} (h : Kept q n s)
    (e : execBndSetMode a1 a2 s = .next t) : Kept q n t := Kept.next (State.lit_kept h (bndSetMode_kept h)) e

theorem execBndSwapBank_kept {q n} {s t : State} {a1} {a2} (h : Kept q n s)
    (e : execBndSwapBank a1 a2 s = .next t) : Kept q n t := Kept.next (State.lit_kept h (bndSwapBank_kept h)) e

theorem execBndEnable_kept {q n} {s t : State} {a1} {a2} (h : Kept q n s)
    (e : execBndEnable a1 a2 s = .next t) : Kept q n t := Kept.next (State.lit_kept h (bndEnable_kept h)) e

theorem execSetAngle_kept {q n} {s t : State} {a1} {a2} (h : Kept q n s)
    (e : execSetAngle a1 a2 s = .next t) : Kept q n t := Kept.next (State.lit_kept h (setAngle_kept h)) e

theorem execBndSetLimit_kept {q n} {s t : State} {a1} {a2} (h : Kept q n s)
    (e : execBndSetLimit a1 a2 s = .next t) : Kept q n t := Kept.next (State.lit_kept h (bndSetLimit_kept h)) e

theorem execSetTmag_kept {q n} {s t : State} {a1} {a2} (h : Kept q n s)
    (e : execSetTmag a1 a2 s = .next t) : Kept q n t := Kept.next (State.lit_kept h (setTmag_kept h)) e

theorem execEdgeRecordIssue_kept {q n} {s t : State} {a1} (h : Kept q n s)
    (e : execEdgeRecordIssue a1 s = .next t) : Kept q n t := Kept.next (State.lit_kept h (edgeRecordIssue_kept h)) e

theorem execAngleTimeout_kept {q n} {s t : State} {a1} (h : Kept q n s)
    (e : execAngleTimeout a1 s = .next t) : Kept q n t := Kept.next (State.lit_kept h (angleTimeout_kept h)) e

theorem execVdcTimeout_kept {q n} {s t : State} {a1} (h : Kept q n s)
    (e : execVdcTimeout a1 s = .next t) : Kept q n t := Kept.next (State.lit_kept h (vdcTimeout_kept h)) e

theorem execCarrierLoss_kept {q n} {s t : State} {a1} (h : Kept q n s)
    (e : execCarrierLoss a1 s = .next t) : Kept q n t := Kept.next (State.lit_kept h (carrierLoss_kept h)) e

theorem execNpLimitTimeout_kept {q n} {s t : State} {a1} (h : Kept q n s)
    (e : execNpLimitTimeout a1 s = .next t) : Kept q n t := Kept.next (State.lit_kept h (npLimitTimeout_kept h)) e

theorem execBandAdapt_kept {q n} {s t : State} {a1} (h : Kept q n s)
    (e : execBandAdapt a1 s = .next t) : Kept q n t := Kept.next (State.lit_kept h (bandAdapt_kept h)) e

theorem execFieldWeakeningUpdate_kept {q n} {s t : State} {a1} (h : Kept q n s)
    (e : execFieldWeakeningUpdate a1 s = .next t) : Kept q n t := Kept.next (State.lit_kept h (fieldWeakeningUpdate_kept h)) e

theorem execTmagTimeout_kept {q n} {s t : State} {a1} (h : Kept q n s)
    (e : execTmagTimeout a1 s = .next t) : Kept q n t := Kept.next (State.lit_kept h (tmagTimeout_kept h)) e

theorem execResidualWindow_kept {q n} {s t : State} {a1} (h : Kept q n s)
    (e : execResidualWindow a1 s = .next t) : Kept q n t := Kept.next (State.lit_kept h (residualWindow_kept h)) e

theorem execLrStepTimeout_kept {q n} {s t : State} {a1} (h : Kept q n s)
    (e : execLrStepTimeout a1 s = .next t) : Kept q n t := Kept.next (State.lit_kept h (lrStepTimeout_kept h)) e

theorem execBndClearCounters_kept {q n} {s t : State} {a1} (h : Kept q n s)
    (e : execBndClearCounters a1 s = .next t) : Kept q n t := Kept.next (State.lit_kept h (bndClearCounters_kept h)) e

theorem execBndCheckError_kept {q n} {s t : State} {a1} (h : Kept q n s)
    (e : execBndCheckError a1 s = .next t) : Kept q n t := Kept.next (State.lit_kept h (bndCheckError_kept h)) e

theorem execStStart_kept {q n} {s t : State} {a1} (h : Kept q n s)
    (e : execStStart a1 s = .next t) : Kept q n t := Kept.next (State.lit_kept h (stStart_kept h)) e

theorem execStStop_kept {q n} {s t : State} {a1} (h : Kept q n s)
    (e : execStStop a1 s = .next t) : Kept q n t := Kept.next (State.lit_kept h (stStop_kept h)) e

theorem execStCoast_kept {q n} {s t : State} {a1} (h : Kept q n s)
    (e : execStCoast a1 s = .next t) : Kept q n t := Kept.next (State.lit_kept h (stCoast_kept h)) e

theorem execStClearCounters_kept {q n} {s t : State} {a1} (h : Kept q n s)
    (e : execStClearCounters a1 s = .next t) : Kept q n t := Kept.next (State.lit_kept h (stClearCounters_kept h)) e

theorem execStReset_kept {q n} {s t : State} {a1} (h : Kept q n s)
    (e : execStReset a1 s = .next t) : Kept q n t := Kept.next (State.lit_kept h (stReset_kept h)) e

theorem execCheckComplete_kept {q n} {s t : State} {a1} (h : Kept q n s)
    (e : execCheckComplete a1 s = .next t) : Kept q n t := Kept.next (State.lit_kept h (checkComplete_kept h)) e

theorem execSenseWindowEnd_kept {q n} {s t : State} {a1} {a2} (h : Kept q n s)
    (e : execSenseWindowEnd a1 a2 s = .next t) : Kept q n t := Kept.next (State.lit_kept h (senseWindowEnd_kept h)) e

theorem execCatchSyncEnd_kept {q n} {s t : State} {a1} {a2} (h : Kept q n s)
    (e : execCatchSyncEnd a1 a2 s = .next t) : Kept q n t := Kept.next (State.lit_kept h (catchSyncEnd_kept h)) e

theorem execCatchTimeout_kept {q n} {s t : State} {a1} (h : Kept q n s)
    (e : execCatchTimeout a1 s = .next t) : Kept q n t := Kept.next (State.lit_kept h (catchTimeout_kept h)) e

theorem execAlignTimeEnd_kept {q n} {s t : State} {a1} (h : Kept q n s)
    (e : execAlignTimeEnd a1 s = .next t) : Kept q n t := Kept.next (State.lit_kept h (alignTimeEnd_kept h)) e

theorem execRampReached_kept {q n} {s t : State} {a1} (h : Kept q n s)
    (e : execRampReached a1 s = .next t) : Kept q n t := Kept.next (State.lit_kept h (rampReached_kept h)) e

theorem execHandoverConfirmed_kept {q n} {s t : State} {a1} {a2} (h : Kept q n s)
    (e : execHandoverConfirmed a1 a2 s = .next t) : Kept q n t := Kept.next (State.lit_kept h (handoverConfirmed_kept h)) e

theorem execHandoverTimeout_kept {q n} {s t : State} {a1} (h : Kept q n s)
    (e : execHandoverTimeout a1 s = .next t) : Kept q n t := Kept.next (State.lit_kept h (handoverTimeout_kept h)) e

theorem execPassEntry_kept {q n} {s t : State} {a1} {a2} {a3} (h : Kept q n s)
    (e : execPassEntry a1 a2 a3 s = .next t) : Kept q n t := Kept.next (State.lit_kept h (passEntry_kept h)) e

theorem execProofPassed_kept {q n} {s t : State} {a1} (h : Kept q n s)
    (e : execProofPassed a1 s = .next t) : Kept q n t := Kept.next (State.lit_kept h (proofPassed_kept h)) e

theorem execProofTimeout_kept {q n} {s t : State} {a1} (h : Kept q n s)
    (e : execProofTimeout a1 s = .next t) : Kept q n t := Kept.next (State.lit_kept h (proofTimeout_kept h)) e

theorem execBrakeReleaseWaitEnd_kept {q n} {s t : State} {a1} (h : Kept q n s)
    (e : execBrakeReleaseWaitEnd a1 s = .next t) : Kept q n t := Kept.next (State.lit_kept h (brakeReleaseWaitEnd_kept h)) e

theorem execStartRetryWaitEnd_kept {q n} {s t : State} {a1} (h : Kept q n s)
    (e : execStartRetryWaitEnd a1 s = .next t) : Kept q n t := Kept.next (State.lit_kept h (startRetryWaitEnd_kept h)) e

theorem execStandstillReached_kept {q n} {s t : State} {a1} (h : Kept q n s)
    (e : execStandstillReached a1 s = .next t) : Kept q n t := Kept.next (State.lit_kept h (standstillReached_kept h)) e

theorem execBrakeApplyWaitEnd_kept {q n} {s t : State} {a1} (h : Kept q n s)
    (e : execBrakeApplyWaitEnd a1 s = .next t) : Kept q n t := Kept.next (State.lit_kept h (brakeApplyWaitEnd_kept h)) e

theorem execKeTrackingWindow_kept {q n} {s t : State} {a1} {a2} (h : Kept q n s)
    (e : execKeTrackingWindow a1 a2 s = .next t) : Kept q n t := Kept.next (State.lit_kept h (keTrackingWindow_kept h)) e

theorem execKeVerdict_kept {q n} {s t : State} {a1} (h : Kept q n s)
    (e : execKeVerdict a1 s = .next t) : Kept q n t := Kept.next (State.lit_kept h (keVerdict_kept h)) e

theorem execDclPrecharge_kept {q n} {s t : State} (h : Kept q n s)
    (e : execDclPrecharge s = .next t) : Kept q n t := Kept.next (State.lit_kept h (dclPrecharge_kept h)) e

theorem execDclOpen_kept {q n} {s t : State} (h : Kept q n s)
    (e : execDclOpen s = .next t) : Kept q n t := Kept.next (State.lit_kept h (dclOpen_kept h)) e

theorem execDclDischarge_kept {q n} {s t : State} (h : Kept q n s)
    (e : execDclDischarge s = .next t) : Kept q n t := Kept.next (State.lit_kept h (dclDischarge_kept h)) e

theorem execDclClearCounters_kept {q n} {s t : State} (h : Kept q n s)
    (e : execDclClearCounters s = .next t) : Kept q n t := Kept.next (State.lit_kept h (dclClearCounters_kept h)) e

theorem execDclReset_kept {q n} {s t : State} (h : Kept q n s)
    (e : execDclReset s = .next t) : Kept q n t := Kept.next (State.lit_kept h (dclReset_kept h)) e

theorem execMainConfirmed_kept {q n} {s t : State} (h : Kept q n s)
    (e : execMainConfirmed s = .next t) : Kept q n t := Kept.next (State.lit_kept h (mainConfirmed_kept h)) e

theorem execPrechargeT1Check_kept {q n} {s t : State} (h : Kept q n s)
    (e : execPrechargeT1Check s = .next t) : Kept q n t := Kept.next (State.lit_kept h (prechargeT1Check_kept h)) e

theorem execPrechargeSettled_kept {q n} {s t : State} (h : Kept q n s)
    (e : execPrechargeSettled s = .next t) : Kept q n t := Kept.next (State.lit_kept h (prechargeSettled_kept h)) e

theorem execPrechargeTimeout_kept {q n} {s t : State} (h : Kept q n s)
    (e : execPrechargeTimeout s = .next t) : Kept q n t := Kept.next (State.lit_kept h (prechargeTimeout_kept h)) e

theorem execMainTimeout_kept {q n} {s t : State} (h : Kept q n s)
    (e : execMainTimeout s = .next t) : Kept q n t := Kept.next (State.lit_kept h (mainTimeout_kept h)) e

theorem execDischargeDone_kept {q n} {s t : State} (h : Kept q n s)
    (e : execDischargeDone s = .next t) : Kept q n t := Kept.next (State.lit_kept h (dischargeDone_kept h)) e

theorem execDischargeTimeout_kept {q n} {s t : State} (h : Kept q n s)
    (e : execDischargeTimeout s = .next t) : Kept q n t := Kept.next (State.lit_kept h (dischargeTimeout_kept h)) e

theorem execLeSample_kept {q n} {s t : State} {a1} (h : Kept q n s)
    (e : execLeSample a1 s = .next t) : Kept q n t := Kept.next (State.lit_kept h (leSample_kept h)) e

theorem execSetSpeed_kept {q n} {s t : State} {a1} {a2} (h : Kept q n s)
    (e : execSetSpeed a1 a2 s = .next t) : Kept q n t := Kept.next (State.lit_kept h (setSpeed_kept h)) e

theorem execSetPosition_kept {q n} {s t : State} {a1} {a2} (h : Kept q n s)
    (e : execSetPosition a1 a2 s = .next t) : Kept q n t := Kept.next (State.lit_kept h (setPosition_kept h)) e

theorem execSetTorque_kept {q n} {s t : State} {a1} {a2} (h : Kept q n s)
    (e : execSetTorque a1 a2 s = .next t) : Kept q n t := Kept.next (State.lit_kept h (setTorque_kept h)) e

theorem execLeSwapBank_kept {q n} {s t : State} {a1} {a2} (h : Kept q n s)
    (e : execLeSwapBank a1 a2 s = .next t) : Kept q n t := Kept.next (State.lit_kept h (leSwapBank_kept h)) e

theorem execSwapTable_kept {q n} {s t : State} {a1} {a2} (h : Kept q n s)
    (e : execSwapTable a1 a2 s = .next t) : Kept q n t := Kept.next (State.lit_kept h (swapTable_kept h)) e

theorem execLeSetMode_kept {q n} {s t : State} {a1} {a2} (h : Kept q n s)
    (e : execLeSetMode a1 a2 s = .next t) : Kept q n t := Kept.next (State.lit_kept h (leSetMode_kept h)) e

theorem execLeEnable_kept {q n} {s t : State} {a1} {a2} (h : Kept q n s)
    (e : execLeEnable a1 a2 s = .next t) : Kept q n t := Kept.next (State.lit_kept h (leEnable_kept h)) e

theorem execLeSync_kept {q n} {s t : State} {a1} {a2} {a3} (h : Kept q n s)
    (e : execLeSync a1 a2 a3 s = .next t) : Kept q n t := Kept.next (State.lit_kept h (leSync_kept h)) e

theorem execLeHold_kept {q n} {s t : State} {a1} {a2} (h : Kept q n s)
    (e : execLeHold a1 a2 s = .next t) : Kept q n t := Kept.next (State.lit_kept h (leHold_kept h)) e

theorem execFeedback_kept {q n} {s t : State} {a1} {a2} (h : Kept q n s)
    (e : execFeedback a1 a2 s = .next t) : Kept q n t := Kept.next (State.lit_kept h (feedback_kept h)) e

theorem execLeSetLimit_kept {q n} {s t : State} {a1} {a2} (h : Kept q n s)
    (e : execLeSetLimit a1 a2 s = .next t) : Kept q n t := Kept.next (State.lit_kept h (leSetLimit_kept h)) e

theorem execGainWrite_kept {q n} {s t : State} {a1} {a2} (h : Kept q n s)
    (e : execGainWrite a1 a2 s = .next t) : Kept q n t := Kept.next (State.lit_kept h (gainWrite_kept h)) e

theorem execTabWrite_kept {q n} {s t : State} {a1} {a2} (h : Kept q n s)
    (e : execTabWrite a1 a2 s = .next t) : Kept q n t := Kept.next (State.lit_kept h (tabWrite_kept h)) e

theorem execTorqueShare_kept {q n} {s t : State} {a1} {a2} (h : Kept q n s)
    (e : execTorqueShare a1 a2 s = .next t) : Kept q n t := Kept.next (State.lit_kept h (torqueShare_kept h)) e

theorem execClipReport_kept {q n} {s t : State} {a1} {a2} (h : Kept q n s)
    (e : execClipReport a1 a2 s = .next t) : Kept q n t := Kept.next (State.lit_kept h (clipReport_kept h)) e

theorem execLeCheckError_kept {q n} {s t : State} {a1} (h : Kept q n s)
    (e : execLeCheckError a1 s = .next t) : Kept q n t := Kept.next (State.lit_kept h (leCheckError_kept h)) e

theorem execLeSpareResume_kept {q n} {s t : State} (h : Kept q n s)
    (e : execLeSpareResume s = .next t) : Kept q n t := Kept.next (State.lit_kept h (leSpareResume_kept h)) e

theorem execLeClearCounters_kept {q n} {s t : State} {a1} (h : Kept q n s)
    (e : execLeClearCounters a1 s = .next t) : Kept q n t := Kept.next (State.lit_kept h (leClearCounters_kept h)) e

theorem execFence_kept {q n} {s t : State} {a1} (h : Kept q n s)
    (e : execFence a1 s = .next t) : Kept q n t := Kept.next (State.lit_kept h (fence_kept h)) e

theorem execAlive_kept {q n} {s t : State} {a1} (h : Kept q n s)
    (e : execAlive a1 s = .next t) : Kept q n t := Kept.next (State.lit_kept h (alive_kept h)) e

theorem execAccept_kept {q n} {s t : State} {a1} (h : Kept q n s)
    (e : execAccept a1 s = .next t) : Kept q n t := Kept.next (State.lit_kept h (accept_kept h)) e

theorem execTaken_kept {q n} {s t : State} {a1} (h : Kept q n s)
    (e : execTaken a1 s = .next t) : Kept q n t := Kept.next (State.lit_kept h (taken_kept h)) e

theorem execHandback_kept {q n} {s t : State} {a1} (h : Kept q n s)
    (e : execHandback a1 s = .next t) : Kept q n t := Kept.next (State.lit_kept h (handback_kept h)) e

theorem execAliveSend_kept {q n} {s t : State} {a1} (h : Kept q n s)
    (e : execAliveSend a1 s = .next t) : Kept q n t := Kept.next (State.lit_kept h (aliveSend_kept h)) e

theorem execMemberLost_kept {q n} {s t : State} {a1} {a2} (h : Kept q n s)
    (e : execMemberLost a1 a2 s = .next t) : Kept q n t := Kept.next (State.lit_kept h (memberLost_kept h)) e

theorem execMirroredStreamReceive_kept {q n} {s t : State} {a1} {a2} {a3} {a4} {a5} {a6} {a7} (h : Kept q n s)
    (e : execMirroredStreamReceive a1 a2 a3 a4 a5 a6 a7 s = .next t) : Kept q n t := Kept.next (State.lit_kept h (mirroredStreamReceive_kept h)) e

theorem execMirrorTimeout_kept {q n} {s t : State} {a1} (h : Kept q n s)
    (e : execMirrorTimeout a1 s = .next t) : Kept q n t := Kept.next (State.lit_kept h (mirrorTimeout_kept h)) e

theorem execTakeoverSelectEnd_kept {q n} {s t : State} {a1} (h : Kept q n s)
    (e : execTakeoverSelectEnd a1 s = .next t) : Kept q n t := Kept.next (State.lit_kept h (takeoverSelectEnd_kept h)) e

theorem execGiveTimeout_kept {q n} {s t : State} {a1} (h : Kept q n s)
    (e : execGiveTimeout a1 s = .next t) : Kept q n t := Kept.next (State.lit_kept h (giveTimeout_kept h)) e

theorem execShareTimeout_kept {q n} {s t : State} {a1} (h : Kept q n s)
    (e : execShareTimeout a1 s = .next t) : Kept q n t := Kept.next (State.lit_kept h (shareTimeout_kept h)) e

theorem execParClearCounters_kept {q n} {s t : State} {a1} (h : Kept q n s)
    (e : execParClearCounters a1 s = .next t) : Kept q n t := Kept.next (State.lit_kept h (parClearCounters_kept h)) e

theorem execRejoin_kept {q n} {s t : State} {a1} {a2} (h : Kept q n s)
    (e : execRejoin a1 a2 s = .next t) : Kept q n t := Kept.next (State.lit_kept h (rejoin_kept h)) e

theorem execParHandback_kept {q n} {s t : State} {a1} {a2} (h : Kept q n s)
    (e : execParHandback a1 a2 s = .next t) : Kept q n t := Kept.next (State.lit_kept h (parHandback_kept h)) e

theorem execHandbackSelectEnd_kept {q n} {s t : State} {a1} (h : Kept q n s)
    (e : execHandbackSelectEnd a1 s = .next t) : Kept q n t := Kept.next (State.lit_kept h (handbackSelectEnd_kept h)) e

theorem execStoPairDemand_kept {q n} {s t : State} {a1} {a2} (h : Kept q n s)
    (e : execStoPairDemand a1 a2 s = .next t) : Kept q n t := Kept.next (State.lit_kept h (stoPairDemand_kept h)) e

theorem execSinPairDemand_kept {q n} {s t : State} {a1} {a2} {a3} (h : Kept q n s)
    (e : execSinPairDemand a1 a2 a3 s = .next t) : Kept q n t := Kept.next (State.lit_kept h (sinPairDemand_kept h)) e

theorem execPairDiscrepancy_kept {q n} {s t : State} {a1} (h : Kept q n s)
    (e : execPairDiscrepancy a1 s = .next t) : Kept q n t := Kept.next (State.lit_kept h (pairDiscrepancy_kept h)) e

theorem execResetEdge_kept {q n} {s t : State} {a1} {a2} (h : Kept q n s)
    (e : execResetEdge a1 a2 s = .next t) : Kept q n t := Kept.next (State.lit_kept h (resetEdge_kept h)) e

theorem execStoRstStuck_kept {q n} {s t : State} (h : Kept q n s)
    (e : execStoRstStuck s = .next t) : Kept q n t := Kept.next (State.lit_kept h (stoRstStuck_kept h)) e

theorem execStoClearTimer_kept {q n} {s t : State} {a1} (h : Kept q n s)
    (e : execStoClearTimer a1 s = .next t) : Kept q n t := Kept.next (State.lit_kept h (stoClearTimer_kept h)) e

theorem execNormalRestore_kept {q n} {s t : State} {a1} (h : Kept q n s)
    (e : execNormalRestore a1 s = .next t) : Kept q n t := Kept.next (State.lit_kept h (normalRestore_kept h)) e

theorem execSs1TimeEnd_kept {q n} {s t : State} {a1} (h : Kept q n s)
    (e : execSs1TimeEnd a1 s = .next t) : Kept q n t := Kept.next (State.lit_kept h (ss1TimeEnd_kept h)) e

theorem execSs1TmaxEnd_kept {q n} {s t : State} {a1} (h : Kept q n s)
    (e : execSs1TmaxEnd a1 s = .next t) : Kept q n t := Kept.next (State.lit_kept h (ss1TmaxEnd_kept h)) e

theorem execStandstillDetected_kept {q n} {s t : State} {a1} (h : Kept q n s)
    (e : execStandstillDetected a1 s = .next t) : Kept q n t := Kept.next (State.lit_kept h (standstillDetected_kept h)) e

theorem execSbcLeadEnd_kept {q n} {s t : State} {a1} (h : Kept q n s)
    (e : execSbcLeadEnd a1 s = .next t) : Kept q n t := Kept.next (State.lit_kept h (sbcLeadEnd_kept h)) e

theorem execSiEvaluation_kept {q n} {s t : State} {a1} {a2} {a3} {a4} (h : Kept q n s)
    (e : execSiEvaluation a1 a2 a3 a4 s = .next t) : Kept q n t := Kept.next (State.lit_kept h (siEvaluation_kept h)) e

theorem execSpeedMismatch_kept {q n} {s t : State} {a1} {a2} (h : Kept q n s)
    (e : execSpeedMismatch a1 a2 s = .next t) : Kept q n t := Kept.next (State.lit_kept h (speedMismatch_kept h)) e

theorem execSlsToleranceEnd_kept {q n} {s t : State} {a1} (h : Kept q n s)
    (e : execSlsToleranceEnd a1 s = .next t) : Kept q n t := Kept.next (State.lit_kept h (slsToleranceEnd_kept h)) e

theorem execSltToleranceEnd_kept {q n} {s t : State} {a1} (h : Kept q n s)
    (e : execSltToleranceEnd a1 s = .next t) : Kept q n t := Kept.next (State.lit_kept h (sltToleranceEnd_kept h)) e

theorem execDiverseSample_kept {q n} {s t : State} {a1} (h : Kept q n s)
    (e : execDiverseSample a1 s = .next t) : Kept q n t := Kept.next (State.lit_kept h (diverseSample_kept h)) e

theorem execTorqueMismatch_kept {q n} {s t : State} {a1} {a2} (h : Kept q n s)
    (e : execTorqueMismatch a1 a2 s = .next t) : Kept q n t := Kept.next (State.lit_kept h (torqueMismatch_kept h)) e

theorem execSafetyFrameReceive_kept {q n} {s t : State} {a1} {a2} (h : Kept q n s)
    (e : execSafetyFrameReceive a1 a2 s = .next t) : Kept q n t := Kept.next (State.lit_kept h (safetyFrameReceive_kept h)) e

theorem execPairWindowEnd_kept {q n} {s t : State} (h : Kept q n s)
    (e : execPairWindowEnd s = .next t) : Kept q n t := Kept.next (State.lit_kept h (pairWindowEnd_kept h)) e

theorem execSfTimeout_kept {q n} {s t : State} (h : Kept q n s)
    (e : execSfTimeout s = .next t) : Kept q n t := Kept.next (State.lit_kept h (sfTimeoutStep_kept h)) e

theorem execSiStatusFrame_kept {q n} {s t : State} (h : Kept q n s)
    (e : execSiStatusFrame s = .next t) : Kept q n t := Kept.next (State.lit_kept h (siStatusFrame_kept h)) e

theorem execHeartbeatLoss_kept {q n} {s t : State} (h : Kept q n s)
    (e : execHeartbeatLoss s = .next t) : Kept q n t := Kept.next (State.lit_kept h (heartbeatLoss_kept h)) e

theorem execSiClockWindow_kept {q n} {s t : State} {a1} (h : Kept q n s)
    (e : execSiClockWindow a1 s = .next t) : Kept q n t := Kept.next (State.lit_kept h (siClockWindow_kept h)) e

theorem execSiSupplyFault_kept {q n} {s t : State} (h : Kept q n s)
    (e : execSiSupplyFault s = .next t) : Kept q n t := Kept.next (State.lit_kept h (siSupplyFault_kept h)) e

theorem execLockstepMismatch_kept {q n} {s t : State} (h : Kept q n s)
    (e : execLockstepMismatch s = .next t) : Kept q n t := Kept.next (State.lit_kept h (lockstepMismatch_kept h)) e

theorem execEnableConfirmTimeout_kept {q n} {s t : State} {a1} (h : Kept q n s)
    (e : execEnableConfirmTimeout a1 s = .next t) : Kept q n t := Kept.next (State.lit_kept h (enableConfirmTimeout_kept h)) e

theorem execCfgCrcCheck_kept {q n} {s t : State} (h : Kept q n s)
    (e : execCfgCrcCheck s = .next t) : Kept q n t := Kept.next (State.lit_kept h (cfgCrcCheck_kept h)) e

theorem execSiSelfTest_kept {q n} {s t : State} {a1} (h : Kept q n s)
    (e : execSiSelfTest a1 s = .next t) : Kept q n t := Kept.next (State.lit_kept h (siSelfTest_kept h)) e

theorem execInternalSs1Request_kept {q n} {s t : State} {a1} (h : Kept q n s)
    (e : execInternalSs1Request a1 s = .next t) : Kept q n t := Kept.next (State.lit_kept h (internalSs1Request_kept h)) e

theorem execBrakeReleaseRequest_kept {q n} {s t : State} {a1} (h : Kept q n s)
    (e : execBrakeReleaseRequest a1 s = .next t) : Kept q n t := Kept.next (State.lit_kept h (brakeReleaseRequest_kept h)) e

theorem execPennantWrite_kept {q n} {s t : State} (h : Kept q n s)
    (e : execPennantWrite s = .next t) : Kept q n t := Kept.next (State.lit_kept h (pennantWrite_kept h)) e

theorem execBivouacEntry_kept {q n} {s t : State} (h : Kept q n s)
    (e : execBivouacEntry s = .next t) : Kept q n t := Kept.next (State.lit_kept h (bivouacEntry_kept h)) e

theorem execBivouacFrame_kept {q n} {s t : State} (h : Kept q n s)
    (e : execBivouacFrame s = .next t) : Kept q n t := Kept.next (State.lit_kept h (bivouacFrame_kept h)) e

theorem execBivTmaxExpiry_kept {q n} {s t : State} (h : Kept q n s)
    (e : execBivTmaxExpiry s = .next t) : Kept q n t := Kept.next (State.lit_kept h (bivTmaxExpiry_kept h)) e

theorem execFltClearCounters_kept {q n} {s t : State} (h : Kept q n s)
    (e : execFltClearCounters s = .next t) : Kept q n t := Kept.next (State.lit_kept h (fltClearCounters_kept h)) e

theorem execCanFrameReceive_kept {q n} {s t : State} {a1} {a2} {a3} (h : Kept q n s)
    (e : execCanFrameReceive a1 a2 a3 s = .next t) : Kept q n t := Kept.next (State.lit_kept h (canFrameReceive_kept h)) e

theorem execCanTxEnd_kept {q n} {s t : State} {a1} {a2} {a3} {a4} (h : Kept q n s)
    (e : execCanTxEnd a1 a2 a3 a4 s = .next t) : Kept q n t := Kept.next (State.lit_kept h (canTxEnd_kept h)) e

theorem execBusOffWaitEnd_kept {q n} {s t : State} {a1} (h : Kept q n s)
    (e : execBusOffWaitEnd a1 s = .next t) : Kept q n t := Kept.next (State.lit_kept h (busOffWaitEnd_kept h)) e

theorem execBusOffRecoveryDone_kept {q n} {s t : State} {a1} (h : Kept q n s)
    (e : execBusOffRecoveryDone a1 s = .next t) : Kept q n t := Kept.next (State.lit_kept h (busOffRecoveryDone_kept h)) e

theorem execCanClearCounters_kept {q n} {s t : State} {a1} (h : Kept q n s)
    (e : execCanClearCounters a1 s = .next t) : Kept q n t := Kept.next (State.lit_kept h (canClearCounters_kept h)) e

theorem execCanRequestBuffer_kept {q n} {s t : State} {a1} {a2} (h : Kept q n s)
    (e : execCanRequestBuffer a1 a2 s = .next t) : Kept q n t := Kept.next (State.lit_kept h (canRequestBuffer_kept h)) e

theorem execCanAbortBuffer_kept {q n} {s t : State} {a1} {a2} (h : Kept q n s)
    (e : execCanAbortBuffer a1 a2 s = .next t) : Kept q n t := Kept.next (State.lit_kept h (canAbortBuffer_kept h)) e

theorem execCanStartRecovery_kept {q n} {s t : State} {a1} (h : Kept q n s)
    (e : execCanStartRecovery a1 s = .next t) : Kept q n t := Kept.next (State.lit_kept h (canStartRecovery_kept h)) e

theorem execCanRestartTt_kept {q n} {s t : State} {a1} (h : Kept q n s)
    (e : execCanRestartTt a1 s = .next t) : Kept q n t := Kept.next (State.lit_kept h (canRestartTt_kept h)) e

theorem execTransmit_kept {q n} {s t : State} {a1} {a2} (h : Kept q n s)
    (e : execTransmit a1 a2 s = .next t) : Kept q n t := Kept.next (State.lit_kept h (transmit_kept h)) e

theorem execSend8_kept {q n} {s t : State} {a1} {a2} (h : Kept q n s)
    (e : execSend8 a1 a2 s = .next t) : Kept q n t := Kept.next (State.lit_kept h (send8_kept h)) e

theorem execCanAbortRecord_kept {q n} {s t : State} {a1} {a2} (h : Kept q n s)
    (e : execCanAbortRecord a1 a2 s = .next t) : Kept q n t := Kept.next (State.lit_kept h (canAbortRecord_kept h)) e

theorem execCanMbDataWrite_kept {q n} {s t : State} {a1} {a2} {a3} {a4} (h : Kept q n s)
    (e : execCanMbDataWrite a1 a2 a3 a4 s = .next t) : Kept q n t := Kept.next (State.lit_kept h (canMbDataWrite_kept h)) e

theorem execStatusFrameSend_kept {q n} {s t : State} {a1} {a2} (h : Kept q n s)
    (e : execStatusFrameSend a1 a2 s = .next t) : Kept q n t := Kept.next (State.lit_kept h (statusFrameSend_kept h)) e

theorem execTtCycleStart_kept {q n} {s t : State} {a1} (h : Kept q n s)
    (e : execTtCycleStart a1 s = .next t) : Kept q n t := Kept.next (State.lit_kept h (ttCycleStart_kept h)) e

theorem execMasterPrioritySend_kept {q n} {s t : State} {a1} (h : Kept q n s)
    (e : execMasterPrioritySend a1 s = .next t) : Kept q n t := Kept.next (State.lit_kept h (masterPrioritySend_kept h)) e

theorem execTtTrigger_kept {q n} {s t : State} {a1} {a2} (h : Kept q n s)
    (e : execTtTrigger a1 a2 s = .next t) : Kept q n t := Kept.next (State.lit_kept h (ttTrigger_kept h)) e

theorem execTtTxWindowMiss_kept {q n} {s t : State} {a1} {a2} (h : Kept q n s)
    (e : execTtTxWindowMiss a1 a2 s = .next t) : Kept q n t := Kept.next (State.lit_kept h (ttTxWindowMiss_kept h)) e

theorem execTtReferenceLoss_kept {q n} {s t : State} {a1} (h : Kept q n s)
    (e : execTtReferenceLoss a1 s = .next t) : Kept q n t := Kept.next (State.lit_kept h (ttReferenceLoss_kept h)) e

theorem execCanBusError_kept {q n} {s t : State} {a1} {a2} {a3} {a4} {a5} (h : Kept q n s)
    (e : execCanBusError a1 a2 a3 a4 a5 s = .next t) : Kept q n t := Kept.next (State.lit_kept h (canBusError_kept h)) e

theorem execProtocolException_kept {q n} {s t : State} {a1} (h : Kept q n s)
    (e : execProtocolException a1 s = .next t) : Kept q n t := Kept.next (State.lit_kept h (protocolException_kept h)) e

theorem execCanArbitrationStart_kept {q n} {s t : State} {a1} (h : Kept q n s)
    (e : execCanArbitrationStart a1 s = .next t) : Kept q n t := Kept.next (State.lit_kept h (canArbitrationStart_kept h)) e

theorem execAuxSet_kept {q n} {s t : State} {a1} {a2} (h : Kept q n s)
    (e : execAuxSet a1 a2 s = .next t) : Kept q n t := Kept.next (State.lit_kept h (auxSet_kept h)) e

theorem execAuxRequestOn_kept {q n} {s t : State} {a1} (h : Kept q n s)
    (e : execAuxRequestOn a1 s = .next t) : Kept q n t := Kept.next (State.lit_kept h (auxRequestOn_kept h)) e

theorem execAuxRequestOff_kept {q n} {s t : State} {a1} (h : Kept q n s)
    (e : execAuxRequestOff a1 s = .next t) : Kept q n t := Kept.next (State.lit_kept h (auxRequestOff_kept h)) e

theorem execAuxClearOutput_kept {q n} {s t : State} {a1} (h : Kept q n s)
    (e : execAuxClearOutput a1 s = .next t) : Kept q n t := Kept.next (State.lit_kept h (auxClearOutput_kept h)) e

theorem execAuxClearCounters_kept {q n} {s t : State} (h : Kept q n s)
    (e : execAuxClearCounters s = .next t) : Kept q n t := Kept.next (State.lit_kept h (auxClearCounters_kept h)) e

theorem execPullinStart_kept {q n} {s t : State} {a1} (h : Kept q n s)
    (e : execPullinStart a1 s = .next t) : Kept q n t := Kept.next (State.lit_kept h (pullinStart_kept h)) e

theorem execPeakEnd_kept {q n} {s t : State} {a1} (h : Kept q n s)
    (e : execPeakEnd a1 s = .next t) : Kept q n t := Kept.next (State.lit_kept h (peakEnd_kept h)) e

theorem execHoldOkReached_kept {q n} {s t : State} {a1} {a2} (h : Kept q n s)
    (e : execHoldOkReached a1 a2 s = .next t) : Kept q n t := Kept.next (State.lit_kept h (holdOkReached_kept h)) e

theorem execHoldRegulationLost_kept {q n} {s t : State} {a1} {a2} (h : Kept q n s)
    (e : execHoldRegulationLost a1 a2 s = .next t) : Kept q n t := Kept.next (State.lit_kept h (holdRegulationLost_kept h)) e

theorem execAuxOvercurrent_kept {q n} {s t : State} {a1} {a2} (h : Kept q n s)
    (e : execAuxOvercurrent a1 a2 s = .next t) : Kept q n t := Kept.next (State.lit_kept h (auxOvercurrent_kept h)) e

theorem execFeedOvercurrent_kept {q n} {s t : State} {a1} {a2} (h : Kept q n s)
    (e : execFeedOvercurrent a1 a2 s = .next t) : Kept q n t := Kept.next (State.lit_kept h (feedOvercurrent_kept h)) e

theorem execAuxRetryWaitEnd_kept {q n} {s t : State} {a1} (h : Kept q n s)
    (e : execAuxRetryWaitEnd a1 s = .next t) : Kept q n t := Kept.next (State.lit_kept h (auxRetryWaitEnd_kept h)) e

theorem execAuxDiagComplete_kept {q n} {s t : State} {a1} {a2} {a3} {a4} (h : Kept q n s)
    (e : execAuxDiagComplete a1 a2 a3 a4 s = .next t) : Kept q n t := Kept.next (State.lit_kept h (auxDiagComplete_kept h)) e

theorem execPitchSequence_kept {q n} {s t : State} {a1} (h : Kept q n s)
    (e : execPitchSequence a1 s = .next t) : Kept q n t := Kept.next (State.lit_kept h (pitchSequence_kept h)) e

theorem execKeyRemoved_kept {q n} {s t : State} (h : Kept q n s)
    (e : execKeyRemoved s = .next t) : Kept q n t := Kept.next (keyRemoved_kept h) e

theorem execKeyInserted_kept {q n} {s t : State} {a1} (h : Kept q n s)
    (e : execKeyInserted a1 s = .next t) : Kept q n t := Kept.next (keyInserted_kept h) e

theorem execDeferredKeyWrite_kept {q n} {s t : State} {a1} (h : Kept q n s)
    (e : execDeferredKeyWrite a1 s = .next t) : Kept q n t := Kept.next (State.lit_kept h (deferredKeyWrite_kept h)) e

theorem execPchClearCounters_kept {q n} {s t : State} (h : Kept q n s)
    (e : execPchClearCounters s = .next t) : Kept q n t := Kept.next (State.lit_kept h (pchClearCounters_kept h)) e

theorem execMarkPending_kept {q n} {s t : State} {a1} (h : Kept q n s)
    (e : execMarkPending a1 s = .next t) : Kept q n t := Kept.next (State.lit_kept h (markPending_kept h)) e

theorem execSetpointRoute_kept {q n} {s t : State} {a1} (h : Kept q n s)
    (e : execSetpointRoute a1 s = .next t) : Kept q n t := Kept.next (State.lit_kept h (setpointRoute_kept h)) e

theorem execSetpointTimeout_kept {q n} {s t : State} {a1} (h : Kept q n s)
    (e : execSetpointTimeout a1 s = .next t) : Kept q n t := Kept.next (State.lit_kept h (setpointTimeout_kept h)) e

theorem execAux24PowerUp_kept {q n} {s t : State} {a1} (h : Kept q n s)
    (e : execAux24PowerUp a1 s = .next t) : Kept q n t := Kept.next (aux24PowerUp_kept h) e

theorem execAux24Cutoff_kept {q n} {s t : State} (h : Kept q n s)
    (e : execAux24Cutoff s = .next t) : Kept q n t := Kept.next (aux24Cutoff_kept h) e

theorem execAux24Dropout_kept {q n} {s t : State} {a1} {a2} (h : Kept q n s)
    (e : execAux24Dropout a1 a2 s = .next t) : Kept q n t := Kept.next (State.lit_kept h (aux24Dropout_kept h)) e

theorem execAux24Low_kept {q n} {s t : State} {a1} {a2} (h : Kept q n s)
    (e : execAux24Low a1 a2 s = .next t) : Kept q n t := Kept.next (State.lit_kept h (aux24Low_kept h)) e

theorem execAux24High_kept {q n} {s t : State} {a1} {a2} (h : Kept q n s)
    (e : execAux24High a1 a2 s = .next t) : Kept q n t := Kept.next (State.lit_kept h (aux24High_kept h)) e

theorem execWakeEdge_kept {q n} {s t : State} {a1} (h : Kept q n s)
    (e : execWakeEdge a1 s = .next t) : Kept q n t := Kept.next (wakeEdge_kept h) e

theorem execCan0DominantWake_kept {q n} {s t : State} {a1} (h : Kept q n s)
    (e : execCan0DominantWake a1 s = .next t) : Kept q n t := Kept.next (can0DominantWake_kept h) e

theorem execWakeFrame_kept {q n} {s t : State} {a1} {a2} {a3} {a4} {a5} {a6} {a7} (h : Kept q n s)
    (e : execWakeFrame a1 a2 a3 a4 a5 a6 a7 s = .next t) : Kept q n t := Kept.next (wakeFrame_kept h) e

theorem execWakeFrameErrors_kept {q n} {s t : State} {a1} {a2} (h : Kept q n s)
    (e : execWakeFrameErrors a1 a2 s = .next t) : Kept q n t := Kept.next (wakeFrameErrors_kept h) e

theorem execPwrClearCounters_kept {q n} {s t : State} (h : Kept q n s)
    (e : execPwrClearCounters s = .next t) : Kept q n t := Kept.next (State.lit_kept h (pwrClearCounters_kept h)) e

theorem execRunCommand_kept {q n} {s t : State} (h : Kept q n s)
    (e : execRunCommand s = .next t) : Kept q n t := Kept.next (State.lit_kept h (runCommand_kept h)) e

theorem execReadyCommand_kept {q n} {s t : State} (h : Kept q n s)
    (e : execReadyCommand s = .next t) : Kept q n t := Kept.next (State.lit_kept h (readyCommand_kept h)) e

theorem execListenCommand_kept {q n} {s t : State} {a1} (h : Kept q n s)
    (e : execListenCommand a1 s = .next t) : Kept q n t := Kept.next (State.lit_kept h (listenCommand_kept h)) e

theorem execStowCommand_kept {q n} {s t : State} {a1} (h : Kept q n s)
    (e : execStowCommand a1 s = .next t) : Kept q n t := Kept.next (State.lit_kept h (stowCommand_kept h)) e

theorem execRestartCommand_kept {q n} {s t : State} {a1} (h : Kept q n s)
    (e : execRestartCommand a1 s = .next t) : Kept q n t := Kept.next (State.lit_kept h (restartCommand_kept h)) e

theorem execRestartEdge_kept {q n} {s t : State} {a1} (h : Kept q n s)
    (e : execRestartEdge a1 s = .next t) : Kept q n t := Kept.next (State.lit_kept h (restartEdge_kept h)) e

theorem execAutoRunEntry_kept {q n} {s t : State} (h : Kept q n s)
    (e : execAutoRunEntry s = .next t) : Kept q n t := Kept.next (State.lit_kept h (autoRunEntry_kept h)) e

theorem execDomainFailure_kept {q n} {s t : State} {a1} (h : Kept q n s)
    (e : execDomainFailure a1 s = .next t) : Kept q n t := Kept.next (State.lit_kept h (domainFailure_kept h)) e

theorem execPllLockLoss_kept {q n} {s t : State} {a1} (h : Kept q n s)
    (e : execPllLockLoss a1 s = .next t) : Kept q n t := Kept.next (State.lit_kept h (pllLockLoss_kept h)) e

theorem execXtalDeviationWindow_kept {q n} {s t : State} {a1} (h : Kept q n s)
    (e : execXtalDeviationWindow a1 s = .next t) : Kept q n t := Kept.next (State.lit_kept h (xtalDeviationWindow_kept h)) e

theorem execMgmtClockWindow_kept {q n} {s t : State} {a1} (h : Kept q n s)
    (e : execMgmtClockWindow a1 s = .next t) : Kept q n t := Kept.next (State.lit_kept h (mgmtClockWindow_kept h)) e

theorem execClkClearCounters_kept {q n} {s t : State} (h : Kept q n s)
    (e : execClkClearCounters s = .next t) : Kept q n t := Kept.next (State.lit_kept h (clkClearCounters_kept h)) e

theorem execHkSlot_kept {q n} {s t : State} {a1} {a2} (h : Kept q n s)
    (e : execHkSlot a1 a2 s = .next t) : Kept q n t := Kept.next (State.lit_kept h (hkSlot_kept h)) e

theorem execThrottleTick_kept {q n} {s t : State} (h : Kept q n s)
    (e : execThrottleTick s = .next t) : Kept q n t := Kept.next (State.lit_kept h (throttleTick_kept h)) e

theorem execThermalShutdownReading_kept {q n} {s t : State} {a1} (h : Kept q n s)
    (e : execThermalShutdownReading a1 s = .next t) : Kept q n t := Kept.next (thermalShutdownReading_kept h) e

theorem execHkClearCounters_kept {q n} {s t : State} (h : Kept q n s)
    (e : execHkClearCounters s = .next t) : Kept q n t := Kept.next (State.lit_kept h (hkClearCounters_kept h)) e

theorem execMpHeartbeat_kept {q n} {s t : State} {a1} (h : Kept q n s)
    (e : execMpHeartbeat a1 s = .next t) : Kept q n t := Kept.next (State.lit_kept h (mpHeartbeat_kept h)) e

theorem execCellReceive_kept {q n} {s t : State} {a1} {a2} (h : Kept q n s)
    (e : execCellReceive a1 a2 s = .next t) : Kept q n t := Kept.next (State.lit_kept h (cellReceive_kept h)) e

theorem execMgtRead_kept {q n} {s t : State} (h : Kept q n s)
    (e : execMgtRead s = .next t) : Kept q n t := Kept.next (State.lit_kept h (readRequest_kept h)) e

theorem execMgtWrite_kept {q n} {s t : State} {a1} (h : Kept q n s)
    (e : execMgtWrite a1 s = .next t) : Kept q n t := Kept.next (State.lit_kept h (writeRequest_kept h)) e

theorem execLogRead_kept {q n} {s t : State} (h : Kept q n s)
    (e : execLogRead s = .next t) : Kept q n t := Kept.next (State.lit_kept h (logRead_kept h)) e

theorem execTimeCorr_kept {q n} {s t : State} (h : Kept q n s)
    (e : execTimeCorr s = .next t) : Kept q n t := Kept.next (State.lit_kept h (timeCorr_kept h)) e

theorem execUpdBegin_kept {q n} {s t : State} {a1} (h : Kept q n s)
    (e : execUpdBegin a1 s = .next t) : Kept q n t := Kept.next (State.lit_kept h (updBegin_kept h)) e

theorem execUpdData_kept {q n} {s t : State} {a1} (h : Kept q n s)
    (e : execUpdData a1 s = .next t) : Kept q n t := Kept.next (State.lit_kept h (updData_kept h)) e

theorem execUpdEnd_kept {q n} {s t : State} {a1} (h : Kept q n s)
    (e : execUpdEnd a1 s = .next t) : Kept q n t := Kept.next (State.lit_kept h (updEnd_kept h)) e

theorem execUpdAbort_kept {q n} {s t : State} {a1} (h : Kept q n s)
    (e : execUpdAbort a1 s = .next t) : Kept q n t := Kept.next (State.lit_kept h (updAbort_kept h)) e

theorem execPing_kept {q n} {s t : State} (h : Kept q n s)
    (e : execPing s = .next t) : Kept q n t := Kept.next (State.lit_kept h (ping_kept h)) e

theorem execForwardResponse_kept {q n} {s t : State} (h : Kept q n s)
    (e : execForwardResponse s = .next t) : Kept q n t := Kept.next (State.lit_kept h (forwardResponse_kept h)) e

theorem execForwardTimeout_kept {q n} {s t : State} (h : Kept q n s)
    (e : execForwardTimeout s = .next t) : Kept q n t := Kept.next (State.lit_kept h (forwardTimeout_kept h)) e

theorem execLogFlushPage_kept {q n} {s t : State} {a1} (h : Kept q n s)
    (e : execLogFlushPage a1 s = .next t) : Kept q n t := Kept.next (State.lit_kept h (logFlushPage_kept h)) e

theorem execLogHeadSearch_kept {q n} {s t : State} (h : Kept q n s)
    (e : execLogHeadSearch s = .next t) : Kept q n t := Kept.next (State.lit_kept h (logHeadSearch_kept h)) e

theorem execUpdIdleTimeout_kept {q n} {s t : State} {a1} (h : Kept q n s)
    (e : execUpdIdleTimeout a1 s = .next t) : Kept q n t := Kept.next (State.lit_kept h (updIdleTimeout_kept h)) e

theorem execMgtClearCounters_kept {q n} {s t : State} (h : Kept q n s)
    (e : execMgtClearCounters s = .next t) : Kept q n t := Kept.next (State.lit_kept h (mgtClearCounters_kept h)) e

theorem execMgtAbortSession_kept {q n} {s t : State} {a1} (h : Kept q n s)
    (e : execMgtAbortSession a1 s = .next t) : Kept q n t := Kept.next (State.lit_kept h (mgtAbortSession_kept h)) e

/-- Every command keeps what waits behind it, draws free values upward, and leaves the register bank canonical. -/
theorem exec_kept {q n} {c : Instr} {s t : State} (h : Kept q n s) (e : exec c s = .next t) : Kept q n t := by
  cases c with
  | opAdd _ _ _ _ _ => exact execOpAdd_kept h e
  | opSub _ _ _ _ _ => exact execOpSub_kept h e
  | opAnd _ _ _ _ _ => exact execOpAnd_kept h e
  | opOr _ _ _ _ _ => exact execOpOr_kept h e
  | opXor _ _ _ _ _ => exact execOpXor_kept h e
  | andn _ _ _ _ _ => exact execAndn_kept h e
  | shl _ _ _ _ _ => exact execShl_kept h e
  | shr _ _ _ _ _ => exact execShr_kept h e
  | shra _ _ _ _ _ => exact execShra_kept h e
  | fpMin _ _ _ _ _ => exact execFpMin_kept h e
  | fpMax _ _ _ _ _ => exact execFpMax_kept h e
  | fpAbs _ _ _ _ => exact execFpAbs_kept h e
  | seq _ _ _ _ _ => exact execSeq_kept h e
  | slt _ _ _ _ _ => exact execSlt_kept h e
  | sltu _ _ _ _ _ => exact execSltu_kept h e
  | movi _ _ _ _ => exact execMovi_kept h e
  | movhi _ _ _ _ => exact execMovhi_kept h e
  | opMul _ _ _ _ _ => exact execOpMul_kept h e
  | addsH _ _ _ _ _ => exact execAddsH_kept h e
  | subsH _ _ _ _ _ => exact execSubsH_kept h e
  | mpy _ _ _ _ _ => exact execMpy_kept h e
  | mac _ _ _ _ _ => exact execMac_kept h e
  | msu _ _ _ _ _ => exact execMsu_kept h e
  | accadd _ _ _ => exact execAccadd_kept h e
  | accset _ _ _ _ => exact execAccset_kept h e
  | accshl _ _ _ _ => exact execAccshl_kept h e
  | accshr _ _ _ _ => exact execAccshr_kept h e
  | accrd _ _ _ _ _ => exact execAccrd_kept h e
  | accrdW _ _ _ _ => exact execAccrdW_kept h e
  | norm _ _ _ _ => exact execNorm_kept h e
  | normH _ _ _ _ => exact execNormH_kept h e
  | normacc _ _ _ _ => exact execNormacc_kept h e
  | bexp _ _ _ _ => exact execBexp_kept h e
  | expx _ _ _ _ => exact execExpx_kept h e
  | fadd _ _ _ _ _ => exact execFadd_kept h e
  | fsub _ _ _ _ _ => exact execFsub_kept h e
  | fmul _ _ _ _ _ => exact execFmul_kept h e
  | fma _ _ _ _ _ _ => exact execFma_kept h e
  | fms _ _ _ _ _ _ => exact execFms_kept h e
  | fdiv _ _ _ _ _ => exact execFdiv_kept h e
  | fsqrt _ _ _ _ => exact execFsqrt_kept h e
  | fscale _ _ _ _ _ => exact execFscale_kept h e
  | fmin _ _ _ _ _ => exact execFmin_kept h e
  | fmax _ _ _ _ _ => exact execFmax_kept h e
  | fabs _ _ _ _ => exact execFabs_kept h e
  | fneg _ _ _ _ => exact execFneg_kept h e
  | fceq _ _ _ _ _ => exact execFceq_kept h e
  | fclt _ _ _ _ _ => exact execFclt_kept h e
  | fcle _ _ _ _ _ => exact execFcle_kept h e
  | fcvtSW _ _ _ _ => exact execFcvtSW_kept h e
  | fcvtWS _ _ _ _ => exact execFcvtWS_kept h e
  | fcvtSQ15 _ _ _ _ => exact execFcvtSQ15_kept h e
  | fcvtQ15S _ _ _ _ => exact execFcvtQ15S_kept h e
  | mfs _ _ _ _ => exact execMfs_kept h e
  | mts _ _ _ _ => exact execMts_kept h e
  | ldB _ _ _ _ => exact execLdB_kept h e
  | ldBu _ _ _ _ => exact execLdBu_kept h e
  | ldH _ _ _ _ => exact execLdH_kept h e
  | ldHu _ _ _ _ => exact execLdHu_kept h e
  | ldW _ _ _ _ => exact execLdW_kept h e
  | ldD _ _ _ _ => exact execLdD_kept h e
  | stB _ _ _ _ => exact execStB_kept h e
  | stH _ _ _ _ => exact execStH_kept h e
  | stW _ _ _ _ => exact execStW_kept h e
  | stD _ _ _ _ => exact execStD_kept h e
  | fpFence _ _ => exact execFpFence_kept h e
  | deq _ _ _ _ _ => exact execDeq_kept h e
  | enq _ _ _ _ => exact execEnq_kept h e
  | wspill _ _ _ => exact execWspill_kept h e
  | wfill _ _ _ => exact execWfill_kept h e
  | fpBr _ _ _ => exact execFpBr_kept h e
  | fpCall _ _ _ => exact execFpCall_kept h e
  | callr _ _ _ => exact execCallr_kept h e
  | beqz _ _ _ _ => exact execBeqz_kept h e
  | bnez _ _ _ _ => exact execBnez_kept h e
  | bltz _ _ _ _ => exact execBltz_kept h e
  | bgez _ _ _ _ => exact execBgez_kept h e
  | fpRet _ _ => exact execFpRet_kept h e
  | xret _ _ => exact execXret_kept h e
  | fpLoop _ _ _ _ => exact execFpLoop_kept h e
  | loopr _ _ _ _ _ => exact execLoopr_kept h e
  | fpWait _ _ _ _ => exact execFpWait_kept h e
  | fpTrap _ _ _ => exact execFpTrap_kept h e
  | waitWake _ _ => exact execWaitWake_kept h e
  | stallRelease _ => exact execStallRelease_kept h e
  | storeDrain _ => exact execStoreDrain_kept h e
  | deqComplete _ => exact execDeqComplete_kept h e
  | enqComplete _ => exact execEnqComplete_kept h e
  | inboxWrite _ => exact execInboxWrite_kept h e
  | watchdogExpiry _ => exact execWatchdogExpiry_kept h e
  | sandboxBudgetExhausted _ => exact execSandboxBudgetExhausted_kept h e
  | sparesPolicy _ => exact execSparesPolicy_kept h e
  | spareSelfTest _ _ => exact execSpareSelfTest_kept h e
  | peekSample _ => exact execPeekSample_kept h e
  | spareLoadDone _ _ _ => exact execSpareLoadDone_kept h e
  | fpClearCounters _ => exact execFpClearCounters_kept h e
  | registerWrite _ _ _ _ _ => exact execRegisterWrite_kept h e
  | w1cClear _ _ _ => exact execW1cClear_kept h e
  | lockWrite a v => exact execLockWrite_kept (a2 := v) h e
  | fpPeekAddrWrite _ _ => exact execFpPeekAddrWrite_kept h e
  | timeSlotSend _ => exact execTimeSlotSend_kept h e
  | timeSlotReceive _ _ _ _ _ => exact execTimeSlotReceive_kept h e
  | freeElectionTimeout => exact execFreeElectionTimeout_kept h e
  | upstreamSilence => exact execUpstreamSilence_kept h e
  | masterAliveStale => exact execMasterAliveStale_kept h e
  | candidateElectionWon => exact execCandidateElectionWon_kept h e
  | countWrap => exact execCountWrap_kept h e
  | refInputLost _ => exact execRefInputLost_kept h e
  | codewordReceive _ _ => exact execCodewordReceive_kept h e
  | routeCellSend => exact execRouteCellSend_kept h e
  | routeCellReceive _ _ => exact execRouteCellReceive_kept h e
  | routeCellTimeout _ => exact execRouteCellTimeout_kept h e
  | pluggablePresent _ _ _ _ _ _ => exact execPluggablePresent_kept h e
  | cageSupplyOn _ => exact execCageSupplyOn_kept h e
  | trainingSettled _ => exact execTrainingSettled_kept h e
  | trainingTimeout _ => exact execTrainingTimeout_kept h e
  | portLinkLoss _ _ => exact execPortLinkLoss_kept h e
  | halClearCounters => exact execHalClearCounters_kept h e
  | halRetrainPort _ => exact execHalRetrainPort_kept h e
  | halDisablePort _ => exact execHalDisablePort_kept h e
  | halEnablePort _ => exact execHalEnablePort_kept h e
  | rxLosCleared _ => exact execRxLosCleared_kept h e
  | referenceReturn _ => exact execReferenceReturn_kept h e
  | recordArrival _ _ => exact execRecordArrival_kept h e
  | recordFire _ => exact execRecordFire_kept h e
  | commitArrival _ _ => exact execCommitArrival_kept h e
  | abortArrival _ _ => exact execAbortArrival_kept h e
  | groupDeadline _ _ => exact execGroupDeadline_kept h e
  | groupLaunch _ _ => exact execGroupLaunch_kept h e
  | groupRelease _ _ => exact execGroupRelease_kept h e
  | hqClearCounters => exact execHqClearCounters_kept h e
  | hqEnqWrite _ _ _ => exact execHqEnqWrite_kept h e
  | hqEnqueue => exact execHqEnqueue_kept h e
  | sdInputLost _ => exact execSdInputLost_kept h e
  | sdInputRecovered _ => exact execSdInputRecovered_kept h e
  | decOutput _ _ _ => exact execDecOutput_kept h e
  | setFilter _ _ => exact execSetFilter_kept h e
  | decAlign _ _ => exact execDecAlign_kept h e
  | windowOut _ _ => exact execWindowOut_kept h e
  | rotationTick => exact execRotationTick_kept h e
  | shadowHandover _ => exact execShadowHandover_kept h e
  | shadowMismatch _ => exact execShadowMismatch_kept h e
  | patternTestDone _ _ => exact execPatternTestDone_kept h e
  | decCheckError _ => exact execDecCheckError_kept h e
  | snsClearCounters => exact execSnsClearCounters_kept h e
  | snsRotationStep => exact execSnsRotationStep_kept h e
  | convert _ _ => exact execConvert_kept h e
  | runSeq _ _ => exact execRunSeq_kept h e
  | sarConversionEnd _ _ _ => exact execSarConversionEnd_kept h e
  | sarCalStall _ => exact execSarCalStall_kept h e
  | vonSample _ _ => exact execVonSample_kept h e
  | vonEntryWritten _ _ _ => exact execVonEntryWritten_kept h e
  | codingError _ => exact execCodingError_kept h e
  | hallSyncChange _ _ _ _ => exact execHallSyncChange_kept h e
  | hallImpossibleTimeout _ => exact execHallImpossibleTimeout_kept h e
  | hallLevelAccepted _ _ _ => exact execHallLevelAccepted_kept h e
  | indexEdgeAccepted _ _ _ _ _ => exact execIndexEdgeAccepted_kept h e
  | probeEdgeAccepted _ _ _ _ _ => exact execProbeEdgeAccepted_kept h e
  | snapshot _ _ => exact execSnapshot_kept h e
  | hptSelect _ _ => exact execHptSelect_kept h e
  | posClearCounters => exact execPosClearCounters_kept h e
  | carrierSync _ _ _ => exact execCarrierSync_kept h e
  | setPeriod _ _ _ => exact execSetPeriod_kept h e
  | carrierStop _ _ => exact execCarrierStop_kept h e
  | carrierInstant _ _ => exact execCarrierInstant_kept h e
  | legSet _ _ _ _ => exact execLegSet_kept h e
  | outSet _ _ _ _ => exact execOutSet_kept h e
  | deadTimeElapsed _ _ => exact execDeadTimeElapsed_kept h e
  | delayLineSwap _ _ => exact execDelayLineSwap_kept h e
  | lineCalibrationDone _ _ => exact execLineCalibrationDone_kept h e
  | tripPinQualified _ _ => exact execTripPinQualified_kept h e
  | tripRowActive _ => exact execTripRowActive_kept h e
  | periodStart _ => exact execPeriodStart_kept h e
  | legRetryWaitEnd _ => exact execLegRetryWaitEnd_kept h e
  | legTripPersist _ => exact execLegTripPersist_kept h e
  | edgClearCounters => exact execEdgClearCounters_kept h e
  | edgClearLeg _ => exact execEdgClearLeg_kept h e
  | lineCheckError _ => exact execLineCheckError_kept h e
  | carrierCheckFail _ => exact execCarrierCheckFail_kept h e
  | t3lInnerElapsed _ => exact execT3lInnerElapsed_kept h e
  | supplyReady _ _ _ => exact execSupplyReady_kept h e
  | supplyFault _ _ _ => exact execSupplyFault_kept h e
  | supplyOverload _ _ => exact execSupplyOverload_kept h e
  | gateCommandArrival _ _ _ _ => exact execGateCommandArrival_kept h e
  | profilePhaseEnd _ _ => exact execProfilePhaseEnd_kept h e
  | blankingEnd _ _ => exact execBlankingEnd_kept h e
  | desatDetected _ => exact execDesatDetected_kept h e
  | softTurnOffEnd _ => exact execSoftTurnOffEnd_kept h e
  | desatFlagArrival _ => exact execDesatFlagArrival_kept h e
  | gateOffReport _ _ => exact execGateOffReport_kept h e
  | gateMiss _ _ => exact execGateMiss_kept h e
  | isolatedLinkLoss _ => exact execIsolatedLinkLoss_kept h e
  | primaryLinkFault _ => exact execPrimaryLinkFault_kept h e
  | gdRetryWaitEnd _ _ => exact execGdRetryWaitEnd_kept h e
  | gdClear _ _ _ => exact execGdClear_kept h e
  | gdClearChannel _ _ => exact execGdClearChannel_kept h e
  | gdRunDiagnostics _ => exact execGdRunDiagnostics_kept h e
  | gdClearCounters => exact execGdClearCounters_kept h e
  | interlockOpen _ => exact execInterlockOpen_kept h e
  | interlockClosedSettled _ => exact execInterlockClosedSettled_kept h e
  | diagnosticsComplete _ _ _ _ => exact execDiagnosticsComplete_kept h e
  | fswWindow _ => exact execFswWindow_kept h e
  | regulatorTick _ => exact execRegulatorTick_kept h e
  | setCurrent _ _ => exact execSetCurrent_kept h e
  | bndSetMode _ _ => exact execBndSetMode_kept h e
  | bndSwapBank _ _ => exact execBndSwapBank_kept h e
  | bndEnable _ _ => exact execBndEnable_kept h e
  | setAngle _ _ => exact execSetAngle_kept h e
  | bndSetLimit _ _ => exact execBndSetLimit_kept h e
  | setTmag _ _ => exact execSetTmag_kept h e
  | edgeRecordIssue _ => exact execEdgeRecordIssue_kept h e
  | angleTimeout _ => exact execAngleTimeout_kept h e
  | vdcTimeout _ => exact execVdcTimeout_kept h e
  | carrierLoss _ => exact execCarrierLoss_kept h e
  | npLimitTimeout _ => exact execNpLimitTimeout_kept h e
  | bandAdapt _ => exact execBandAdapt_kept h e
  | fieldWeakeningUpdate _ => exact execFieldWeakeningUpdate_kept h e
  | tmagTimeout _ => exact execTmagTimeout_kept h e
  | residualWindow _ => exact execResidualWindow_kept h e
  | lrStepTimeout _ => exact execLrStepTimeout_kept h e
  | bndClearCounters _ => exact execBndClearCounters_kept h e
  | bndCheckError _ => exact execBndCheckError_kept h e
  | stStart _ => exact execStStart_kept h e
  | stStop _ => exact execStStop_kept h e
  | stCoast _ => exact execStCoast_kept h e
  | stClearCounters _ => exact execStClearCounters_kept h e
  | stReset _ => exact execStReset_kept h e
  | checkComplete _ => exact execCheckComplete_kept h e
  | senseWindowEnd _ _ => exact execSenseWindowEnd_kept h e
  | catchSyncEnd _ _ => exact execCatchSyncEnd_kept h e
  | catchTimeout _ => exact execCatchTimeout_kept h e
  | alignTimeEnd _ => exact execAlignTimeEnd_kept h e
  | rampReached _ => exact execRampReached_kept h e
  | handoverConfirmed _ _ => exact execHandoverConfirmed_kept h e
  | handoverTimeout _ => exact execHandoverTimeout_kept h e
  | passEntry _ _ _ => exact execPassEntry_kept h e
  | proofPassed _ => exact execProofPassed_kept h e
  | proofTimeout _ => exact execProofTimeout_kept h e
  | brakeReleaseWaitEnd _ => exact execBrakeReleaseWaitEnd_kept h e
  | startRetryWaitEnd _ => exact execStartRetryWaitEnd_kept h e
  | standstillReached _ => exact execStandstillReached_kept h e
  | brakeApplyWaitEnd _ => exact execBrakeApplyWaitEnd_kept h e
  | keTrackingWindow _ _ => exact execKeTrackingWindow_kept h e
  | keVerdict _ => exact execKeVerdict_kept h e
  | dclPrecharge => exact execDclPrecharge_kept h e
  | dclOpen => exact execDclOpen_kept h e
  | dclDischarge => exact execDclDischarge_kept h e
  | dclClearCounters => exact execDclClearCounters_kept h e
  | dclReset => exact execDclReset_kept h e
  | mainConfirmed => exact execMainConfirmed_kept h e
  | prechargeT1Check => exact execPrechargeT1Check_kept h e
  | prechargeSettled => exact execPrechargeSettled_kept h e
  | prechargeTimeout => exact execPrechargeTimeout_kept h e
  | mainTimeout => exact execMainTimeout_kept h e
  | dischargeDone => exact execDischargeDone_kept h e
  | dischargeTimeout => exact execDischargeTimeout_kept h e
  | leSample _ => exact execLeSample_kept h e
  | setSpeed _ _ => exact execSetSpeed_kept h e
  | setPosition _ _ => exact execSetPosition_kept h e
  | setTorque _ _ => exact execSetTorque_kept h e
  | leSwapBank _ _ => exact execLeSwapBank_kept h e
  | swapTable _ _ => exact execSwapTable_kept h e
  | leSetMode _ _ => exact execLeSetMode_kept h e
  | leEnable _ _ => exact execLeEnable_kept h e
  | leSync _ _ _ => exact execLeSync_kept h e
  | leHold _ _ => exact execLeHold_kept h e
  | feedback _ _ => exact execFeedback_kept h e
  | leSetLimit _ _ => exact execLeSetLimit_kept h e
  | gainWrite _ _ => exact execGainWrite_kept h e
  | tabWrite _ _ => exact execTabWrite_kept h e
  | torqueShare _ _ => exact execTorqueShare_kept h e
  | clipReport _ _ => exact execClipReport_kept h e
  | leCheckError _ => exact execLeCheckError_kept h e
  | leSpareResume => exact execLeSpareResume_kept h e
  | leClearCounters _ => exact execLeClearCounters_kept h e
  | fence _ => exact execFence_kept h e
  | alive _ => exact execAlive_kept h e
  | accept _ => exact execAccept_kept h e
  | taken _ => exact execTaken_kept h e
  | handback _ => exact execHandback_kept h e
  | aliveSend _ => exact execAliveSend_kept h e
  | memberLost _ _ => exact execMemberLost_kept h e
  | mirroredStreamReceive _ _ _ _ _ _ _ => exact execMirroredStreamReceive_kept h e
  | mirrorTimeout _ => exact execMirrorTimeout_kept h e
  | takeoverSelectEnd _ => exact execTakeoverSelectEnd_kept h e
  | giveTimeout _ => exact execGiveTimeout_kept h e
  | shareTimeout _ => exact execShareTimeout_kept h e
  | parClearCounters _ => exact execParClearCounters_kept h e
  | rejoin _ _ => exact execRejoin_kept h e
  | parHandback _ _ => exact execParHandback_kept h e
  | handbackSelectEnd _ => exact execHandbackSelectEnd_kept h e
  | stoPairDemand _ _ => exact execStoPairDemand_kept h e
  | sinPairDemand _ _ _ => exact execSinPairDemand_kept h e
  | pairDiscrepancy _ => exact execPairDiscrepancy_kept h e
  | resetEdge _ _ => exact execResetEdge_kept h e
  | stoRstStuck => exact execStoRstStuck_kept h e
  | stoClearTimer _ => exact execStoClearTimer_kept h e
  | normalRestore _ => exact execNormalRestore_kept h e
  | ss1TimeEnd _ => exact execSs1TimeEnd_kept h e
  | ss1TmaxEnd _ => exact execSs1TmaxEnd_kept h e
  | standstillDetected _ => exact execStandstillDetected_kept h e
  | sbcLeadEnd _ => exact execSbcLeadEnd_kept h e
  | siEvaluation _ _ _ _ => exact execSiEvaluation_kept h e
  | speedMismatch _ _ => exact execSpeedMismatch_kept h e
  | slsToleranceEnd _ => exact execSlsToleranceEnd_kept h e
  | sltToleranceEnd _ => exact execSltToleranceEnd_kept h e
  | diverseSample _ => exact execDiverseSample_kept h e
  | torqueMismatch _ _ => exact execTorqueMismatch_kept h e
  | safetyFrameReceive _ _ => exact execSafetyFrameReceive_kept h e
  | pairWindowEnd => exact execPairWindowEnd_kept h e
  | sfTimeout => exact execSfTimeout_kept h e
  | siStatusFrame => exact execSiStatusFrame_kept h e
  | heartbeatLoss => exact execHeartbeatLoss_kept h e
  | siClockWindow _ => exact execSiClockWindow_kept h e
  | siSupplyFault => exact execSiSupplyFault_kept h e
  | lockstepMismatch => exact execLockstepMismatch_kept h e
  | enableConfirmTimeout _ => exact execEnableConfirmTimeout_kept h e
  | cfgCrcCheck => exact execCfgCrcCheck_kept h e
  | siSelfTest _ => exact execSiSelfTest_kept h e
  | internalSs1Request _ => exact execInternalSs1Request_kept h e
  | brakeReleaseRequest _ => exact execBrakeReleaseRequest_kept h e
  | pennantWrite => exact execPennantWrite_kept h e
  | bivouacEntry => exact execBivouacEntry_kept h e
  | bivouacFrame => exact execBivouacFrame_kept h e
  | bivTmaxExpiry => exact execBivTmaxExpiry_kept h e
  | fltClearCounters => exact execFltClearCounters_kept h e
  | canFrameReceive _ _ _ => exact execCanFrameReceive_kept h e
  | canTxEnd _ _ _ _ => exact execCanTxEnd_kept h e
  | busOffWaitEnd _ => exact execBusOffWaitEnd_kept h e
  | busOffRecoveryDone _ => exact execBusOffRecoveryDone_kept h e
  | canClearCounters _ => exact execCanClearCounters_kept h e
  | canRequestBuffer _ _ => exact execCanRequestBuffer_kept h e
  | canAbortBuffer _ _ => exact execCanAbortBuffer_kept h e
  | canStartRecovery _ => exact execCanStartRecovery_kept h e
  | canRestartTt _ => exact execCanRestartTt_kept h e
  | transmit _ _ => exact execTransmit_kept h e
  | send8 _ _ => exact execSend8_kept h e
  | canAbortRecord _ _ => exact execCanAbortRecord_kept h e
  | canMbDataWrite _ _ _ _ => exact execCanMbDataWrite_kept h e
  | statusFrameSend _ _ => exact execStatusFrameSend_kept h e
  | ttCycleStart _ => exact execTtCycleStart_kept h e
  | masterPrioritySend _ => exact execMasterPrioritySend_kept h e
  | ttTrigger _ _ => exact execTtTrigger_kept h e
  | ttTxWindowMiss _ _ => exact execTtTxWindowMiss_kept h e
  | ttReferenceLoss _ => exact execTtReferenceLoss_kept h e
  | canBusError _ _ _ _ _ => exact execCanBusError_kept h e
  | protocolException _ => exact execProtocolException_kept h e
  | canArbitrationStart _ => exact execCanArbitrationStart_kept h e
  | auxSet _ _ => exact execAuxSet_kept h e
  | auxRequestOn _ => exact execAuxRequestOn_kept h e
  | auxRequestOff _ => exact execAuxRequestOff_kept h e
  | auxClearOutput _ => exact execAuxClearOutput_kept h e
  | auxClearCounters => exact execAuxClearCounters_kept h e
  | pullinStart _ => exact execPullinStart_kept h e
  | peakEnd _ => exact execPeakEnd_kept h e
  | holdOkReached _ _ => exact execHoldOkReached_kept h e
  | holdRegulationLost _ _ => exact execHoldRegulationLost_kept h e
  | auxOvercurrent _ _ => exact execAuxOvercurrent_kept h e
  | feedOvercurrent _ _ => exact execFeedOvercurrent_kept h e
  | auxRetryWaitEnd _ => exact execAuxRetryWaitEnd_kept h e
  | auxDiagComplete _ _ _ _ => exact execAuxDiagComplete_kept h e
  | pitchSequence _ => exact execPitchSequence_kept h e
  | keyRemoved => exact execKeyRemoved_kept h e
  | keyInserted _ => exact execKeyInserted_kept h e
  | deferredKeyWrite _ => exact execDeferredKeyWrite_kept h e
  | pchClearCounters => exact execPchClearCounters_kept h e
  | markPending _ => exact execMarkPending_kept h e
  | setpointRoute _ => exact execSetpointRoute_kept h e
  | setpointTimeout _ => exact execSetpointTimeout_kept h e
  | aux24PowerUp _ => exact execAux24PowerUp_kept h e
  | aux24Cutoff => exact execAux24Cutoff_kept h e
  | aux24Dropout _ _ => exact execAux24Dropout_kept h e
  | aux24Low _ _ => exact execAux24Low_kept h e
  | aux24High _ _ => exact execAux24High_kept h e
  | wakeEdge _ => exact execWakeEdge_kept h e
  | can0DominantWake _ => exact execCan0DominantWake_kept h e
  | wakeFrame _ _ _ _ _ _ _ => exact execWakeFrame_kept h e
  | wakeFrameErrors _ _ => exact execWakeFrameErrors_kept h e
  | pwrClearCounters => exact execPwrClearCounters_kept h e
  | runCommand => exact execRunCommand_kept h e
  | readyCommand => exact execReadyCommand_kept h e
  | listenCommand _ => exact execListenCommand_kept h e
  | stowCommand _ => exact execStowCommand_kept h e
  | restartCommand _ => exact execRestartCommand_kept h e
  | restartEdge _ => exact execRestartEdge_kept h e
  | autoRunEntry => exact execAutoRunEntry_kept h e
  | domainFailure _ => exact execDomainFailure_kept h e
  | pllLockLoss _ => exact execPllLockLoss_kept h e
  | xtalDeviationWindow _ => exact execXtalDeviationWindow_kept h e
  | mgmtClockWindow _ => exact execMgmtClockWindow_kept h e
  | clkClearCounters => exact execClkClearCounters_kept h e
  | hkSlot _ _ => exact execHkSlot_kept h e
  | throttleTick => exact execThrottleTick_kept h e
  | thermalShutdownReading _ => exact execThermalShutdownReading_kept h e
  | hkClearCounters => exact execHkClearCounters_kept h e
  | mpHeartbeat _ => exact execMpHeartbeat_kept h e
  | cellReceive _ _ => exact execCellReceive_kept h e
  | mgtRead => exact execMgtRead_kept h e
  | mgtWrite _ => exact execMgtWrite_kept h e
  | logRead => exact execLogRead_kept h e
  | timeCorr => exact execTimeCorr_kept h e
  | updBegin _ => exact execUpdBegin_kept h e
  | updData _ => exact execUpdData_kept h e
  | updEnd _ => exact execUpdEnd_kept h e
  | updAbort _ => exact execUpdAbort_kept h e
  | ping => exact execPing_kept h e
  | forwardResponse => exact execForwardResponse_kept h e
  | forwardTimeout => exact execForwardTimeout_kept h e
  | logFlushPage _ => exact execLogFlushPage_kept h e
  | logHeadSearch => exact execLogHeadSearch_kept h e
  | updIdleTimeout _ => exact execUpdIdleTimeout_kept h e
  | mgtClearCounters => exact execMgtClearCounters_kept h e
  | mgtAbortSession _ => exact execMgtAbortSession_kept h e

end Sys2Proof.Machine
end

