-- ==== Sys2Proof/WellFormed.lean ====
section
/-! DEFINITION. Which command terms a sender can send: what the operand types admit and the rules do not. -/
namespace Sys2Proof

/-- A codeword carries exactly six slots (R57). -/
def Codeword.wellFormed (c : Codeword) : Bool := c.slots.length == 6

/-- Key addresses lie below 0x0700_0000 (R412). -/
def keyAddress (a : Nat) : Bool := decide (a < 0x07000000)

/-- A key on J15 holds bytes at key addresses. -/
def KeyAtJ15.wellFormed : KeyAtJ15 → Bool
  | .other flash => flash.all (fun p => keyAddress p.1)
  | _ => true

/-- What a run of Pitch measures: 24 gate channels, 12 auxiliary outputs (R180, R407); reads at key addresses. -/
def PitchRun.wellFormed (r : PitchRun) : Bool :=
  r.key.wellFormed && r.badReads.all keyAddress && r.gate.length == 24 && r.aux.length == 12

/-- What a failed program leaves is as long as the program: a page of the log 256 bytes (R468), a cell of an update 16 (R474). -/
def leftover (n : Nat) (l : Option (List Byte)) : Bool :=
  match l with
  | some b => b.length == n
  | none => true

/-- A command that can be sent. -/
def Instr.wellFormed (i : Instr) : Bool :=
  match i with
  | .codewordReceive _ (some c) => c.wellFormed
  | .pitchSequence r => r.wellFormed
  | .keyInserted k => k.wellFormed
  | .listenCommand l => leftover 256 l
  | .stowCommand l => leftover 256 l
  | .logFlushPage l => leftover 256 l
  | .updData l => leftover 16 l
  | .registerWrite _ _ _ _ inp => leftover 256 inp.flush
  | .mgtWrite inp => leftover 256 inp.flush
  | _ => true

end Sys2Proof
end

