-- ==== Sys2Proof/Tests/Slice0.lean ====
section
/-! SUPPORT. The model's own tests: the spec's examples, terms that are no commands, and states that meet the hypotheses of every statement, clause by
clause. -/

section
set_option Elab.async false
set_option linter.unusedVariables false
open Sys2Proof Sys2Proof.Machine

namespace Sys2Proof.Tests

/-- Addresses of the map as the section's own examples work them out (22_register_map.md, under R495; 00_scope.md, after R17). -/
theorem test_map_examples : rCAN_MB_DATA 1 20 1 = 0x0C011A44 ∧ rLE_DESC 2 (3 * 8 + 6) = 0x08020178 ∧ rSNS_VON_LAST 5 0 = 0x03380AB0 ∧
    rEDG_EO_CAL 15 = 0x0517000C := by decide

/-- A field's bits are those of the table: `GD_DIAG_CFG.RGE` lies in bits 7:0 (22_register_map.md). -/
theorem test_field_write : (State.reset.setF (fGD_DIAG_CFG_RGE 3) 100).rdN (rGD_DIAG_CFG 3) % 256 = 100 := by decide +kernel

/-- The exchange of 02_halyard_time.md, example after R52: the offset is 320 units, the delay 200 ns; both are held doubled. -/
theorem test_exchange : exchange 256000000 256051520 256102720 256153600 0 = (2 * 320, 2 * 51200) := by decide

/-- 05_position_feedback.md, example: step 5. -/
theorem test_hall_speed : hallSpeed 1 (20000000 * 256) 5000 = 3431 := by decide +kernel

/-- 06_edge_generator.md, example: step 1: EDGE period 4,061,728, tap 51. -/
theorem test_edge_place : placeEdge (8123456 * 256 + 202) = 4061728 * 512 + 51 * 4 := by decide

/-- 06_edge_generator.md, example: z₀ of Burgee 2. -/
theorem test_carrier_zero : ((carrierSync ((State.reset.set1 (fEDG_CAR_CFG_ENABLE 0)).setF (fEDG_CAR_CFG_OFFSET 0) 16384) 0
    (BitVec.ofNat 128 25600000) (8000000 * 256)).carZero 0) = 8100000 * 256 := by decide +kernel

/-- R164: code 63 is 8.0 A. -/
theorem test_slope_current : slopeCurrent 0 = 63 ∧ slopeCurrent 63 = 8 * 126 := by decide

/-- 07_gate_channels.md, example after R180: `RGE` = 10.0 kΩ gives 50 µA. -/
theorem test_test_current : ((State.reset.setF (fGD_DIAG_CFG_RGE 4) 100).beginRun 4).testCurrent 4 = 50 := by decide +kernel

/-- 11_paralleling_and_takeover.md, example: samples k, k + 1 and k + 2. -/
theorem test_divide : divide 9 26214 [(0, 64, 16384), (1, 64, 16384), (2, 64, 16384), (3, 64, 16384)] = ([(0, 6555), (1, 6553), (2, 6553), (3, 6553)], 0) ∧
    divide 9 26214 [(0, 64, 16384), (1, 64, 16384), (2, 64, 3932), (3, 64, 16384)] = ([(2, 3932), (0, 7428), (1, 7427), (3, 7427)], 0) ∧
    divide 9 26214 [(0, 64, 16384), (1, 64, 16384), (2, 64, 3996), (3, 64, 16384)] = ([(2, 3996), (0, 7406), (1, 7406), (3, 7406)], 0) := by decide

/-- 17_pitch.md, example: 2,480 kW at GAIN 33,554 is 20,316. -/
theorem test_setpoint :
    roundAway (2480 * 33554) 4096 = 20316 := by decide

/-- 19_thermal_housekeeping.md, example: steps 2 to 4. -/
theorem test_throttle_limits : [15, 14, 13].map (fun k => ((State.reset.setF (fBND_LIMITS_IMAX 2) 29491).setStep 2 k).fld (fHK_THROTTLE_LIMIT 2)) =
    [27647, 25804, 23961] := by decide +kernel

/-- R297: −1 × −1 gives exactly +1.0 in Q9.31 (the accumulator of `MPY`). -/
theorem test_q15_product : 2 * (sgn16 0x8000 * sgn16 0x8000) = 2 ^ 31 := by decide

/-- R310: the table's sums and differences. -/
theorem test_fadd_table : fAdd 0x7F7FFFFF 0x7F7FFFFF = (0x7F800000, flOF + flNX) ∧ fAdd 0x7F7FFFFF 1 = (0x7F7FFFFF, flNX) ∧ fAdd 1 1 = (2, 0) ∧
    fSub 1 1 = (0, 0) ∧ fSub 0xFF7FFFFF 0x7F7FFFFF = (0xFF800000, flOF + flNX) ∧ fSub 0x7F7FFFFF 1 = (0x7F7FFFFF, flNX) := by decide +kernel

/-- R310: the table's products. -/
theorem test_fmul_table : fMul 0x7F7FFFFF 0x40000000 = (0x7F800000, flOF + flNX) ∧ fMul 0x7F7FFFFF 1 = (0x34FFFFFF, 0) ∧
    fMul 1 0x3F000000 = (0, flUF + flNX) ∧ fMul 1 1 = (0, flUF + flNX) ∧ fFma 0x7F7FFFFF 0x40000000 0xFF7FFFFF = (0x7F7FFFFF, 0) ∧
    fFma 1 0x3F000000 1 = (2, flUF + flNX) ∧ fFma 0x7F7FFFFF 0x7F7FFFFF 0xFF800000 = (0xFF800000, 0) := by decide +kernel

/-- R310: the table's quotients and roots. -/
theorem test_fdiv_table : fDiv 0x7F7FFFFF 0x3F000000 = (0x7F800000, flOF + flNX) ∧ fDiv 0x7F7FFFFF 1 = (0x7F800000, flOF + flNX) ∧
    fDiv 1 0x40000000 = (0, flUF + flNX) ∧ fDiv 1 0x7F7FFFFF = (0, flUF + flNX) ∧ fDiv 1 0 = (0x7F800000, flDZ) ∧
    fSqrt 1 = (0x1A3504F3, flNX) ∧ fSqrt 0x7F7FFFFF = (0x5F7FFFFF, flNX) ∧ fSqrt 0x80000001 = (0x7FC00000, flNV) := by decide +kernel

/-- R310: the table's scaling, conversions and exponents. -/
theorem test_fcvt_table : fScale 1 0xFFFFFFFF = (0, flUF + flNX) ∧ fToW 0x7F7FFFFF = (0x7FFFFFFF, flNV) ∧ fToW 1 = (0, flNX) ∧
    fToQ15 0x7F7FFFFF = (0x7FFF, flNV) ∧ fToQ15 1 = (0, flNX) ∧ fExpX 1 = -149 ∧ fExpX 0x7F7FFFFF = 127 := by decide +kernel

/-- FIPS 180-4, the example of one block: "abc". -/
theorem test_sha256_abc : sha256 [0x61, 0x62, 0x63] = 0xBA7816BF8F01CFEA414140DE5DAE2223B00361A396177A9CB410FF61F20015AD := by decide +kernel

/-- CRC-32C of "123456789" is 0xE306_9283 and CRC-16 with initial 0xFFFF of it 0x29B1, the check values of these codes (R343, R355). -/
theorem test_crc_checks : crc32c [0x31, 0x32, 0x33, 0x34, 0x35, 0x36, 0x37, 0x38, 0x39] = 0xE3069283 ∧
    crc16 [0x31, 0x32, 0x33, 0x34, 0x35, 0x36, 0x37, 0x38, 0x39] = 0x29B1 ∧ crc8 [0x31, 0x32, 0x33, 0x34, 0x35, 0x36, 0x37, 0x38, 0x39] = 0xDF := by
  decide +kernel

/-! ### Terms that are no commands -/

/-- A run of Pitch that finds all 24 channels and 12 outputs. -/
def aRun : PitchRun := ⟨.other [(0x06FFFFFF, 0x5A)], [0x100], false, false, List.replicate 24 (5, 5, 0), 0, List.replicate 12 (5, 5, 0), none, 300⟩
/-- A register write's operands. -/
def anInp (l : Option (List Byte)) : CmdIn := ⟨true, 0, false, false, l, none, 0⟩

theorem test_wf_codeword : (Instr.codewordReceive 1 (some ⟨0, [], 0⟩)).wellFormed = false ∧
    (Instr.codewordReceive 1 (some ⟨0, [0, 0, 0, 0, 0, 0], 0⟩)).wellFormed = true := by decide
theorem test_wf_key : (Instr.keyInserted (.other [(0x07000000, 0)])).wellFormed = false ∧ (Instr.keyInserted (.other [(0x06FFFFFF, 0)])).wellFormed = true := by
  decide
theorem test_wf_pitch : (Instr.pitchSequence aRun).wellFormed = true ∧ (Instr.pitchSequence { aRun with gate := [] }).wellFormed = false ∧
    (Instr.pitchSequence { aRun with aux := aRun.aux.tail }).wellFormed = false ∧
    (Instr.pitchSequence { aRun with badReads := [0x07000000] }).wellFormed = false ∧
    (Instr.pitchSequence { aRun with key := .other [(0x07000001, 1)] }).wellFormed = false := by decide
theorem test_wf_leftover : (Instr.listenCommand (some [])).wellFormed = false ∧ (Instr.stowCommand (some [1])).wellFormed = false ∧
    (Instr.logFlushPage (some (List.replicate 255 0))).wellFormed = false ∧ (Instr.updData (some [])).wellFormed = false ∧
    (Instr.updData (some (List.replicate 16 0))).wellFormed = true ∧ (Instr.logFlushPage none).wellFormed = true := by decide +kernel
theorem test_wf_write : (Instr.registerWrite 0 0 true 0 (anInp (some []))).wellFormed = false ∧ (Instr.mgtWrite (anInp (some []))).wellFormed = false ∧
    (Instr.registerWrite 0 0 true 0 (anInp none)).wellFormed = true := by decide

/-! ### Witnesses written by hand -/

/-- A module in RUN. -/
def running : State := State.reset.setF fPWR_STATUS_STATE psRUN
/-- A processor inside a sandbox of 4 pages. -/
def boxed : State := (((running.setF (fFP_STATUS_STATE 1) fpRUNNING).set1 (fFP_STATUS_SBXM 1)).setF (fFP_SBX_DATA_DLAST 1) 3)

/-- The hypotheses of `Obligations.FpSandboxIsolation` can be met, by an operation that completes. -/
theorem test_hyps_FpSandboxIsolation : ∃ (s t : State) (f : Fin 10) (i : Instr) (last : Bool), s.sbxm f.val = true ∧ s.trapm f.val = false ∧
    (∀ u : State, exec i u = .next (u.fpSubmit f.val last i)) ∧ exec i s = .next t :=
  ⟨boxed, boxed.fpSubmit 1 true (.fpTrap 1 true 3), 1, .fpTrap 1 true 3, true, by decide +kernel, by decide +kernel, fun _ => rfl, rfl⟩

/-- The operands that the NaN clauses of `Obligations.FpFloatAndNaN` speak of. -/
theorem test_hyps_FpNaN : fIsSNaN 0x7F800001 = true ∧ fIsNaN 0x7FC00000 = true ∧ fIsSNaN 0x7FC00000 = false ∧ fIsNaN 0x3F800000 = false ∧
    fIsZero 0x80000000 = true ∧ fIsZero 0 = true ∧ fIsNaN (fDiv 0 0).1 = true := by decide +kernel

/-- A pattern of a two-level leg that R151 allows and one it does not (`Obligations.EdgInterlock`). -/
theorem test_hyps_EdgInterlock : ∃ s : State, patAllowed (s.legType 2) (s.pat 2) = true ∧ patAllowed 1 3 = false :=
  ⟨((State.reset.setF (fEDG_LEG_CFG_TYPE 2) 1).setF (fEDG_LEG_CFG_BASE 2) 4).setF (fEDG_LEG_STATUS_OUT 2) 2, by decide +kernel, by decide +kernel⟩

/-- An ARMED channel that drives its gate, the others off (`Obligations.GdOnlyArmedDrives`). -/
theorem test_hyps_GdOnlyArmedDrives : ∃ s : State, (∀ g, g < 24 → (s.gate g).drive.isOn = true → s.gst g = gARMED) ∧ (s.gate 3).drive.isOn = true :=
  ⟨(State.reset.setGst 3 gARMED).modGate 3 (fun q => { q with drive := .on3 }), by decide +kernel, by decide +kernel⟩

/-- A BUSY command register (`Obligations.BusyCommandIgnored`). -/
theorem test_hyps_BusyCommandIgnored : ∃ (s : State) (a : Word), a.toNat % 4 = 0 ∧ accessOf (s.parAddr a.toNat) = some .cmd ∧
    s.cmdStatus (s.parAddr a.toNat) = stBUSY :=
  ⟨running.wrN rGD_CMD (stBUSY * 65536), BitVec.ofNat 32 rGD_CMD, by decide +kernel, by decide +kernel, by decide +kernel⟩

/-- A command of the table that is such a write. -/
theorem test_hyps_BusyCommandIgnored_row : ∃ (s : State) (inp : CmdIn) (r n : Nat) (i : Instr), CmdRow inp r n i ∧ s.cmdStatus r = stBUSY :=
  ⟨running.wrN rGD_CMD (stBUSY * 65536), ⟨true, 0, false, false, none, none, 0⟩, rGD_CMD, 1, .gdClearCounters, ⟨0, 0, 0, 0, 0, 0, by simp⟩, by decide +kernel⟩

/-- A value that the table of a CMD register does not give (`Obligations.RegisterWrites`, the clause on INVALID). -/
theorem test_hyps_RegisterWrites_invalid : ∃ (s : State) (inp : CmdIn) (v : Word), accessOf rPWR_CMD = some .cmd ∧ CmdReady s rPWR_CMD ∧
    ∀ i, ¬ CmdRow inp rPWR_CMD (v.toNat % 65536) i := by
  refine ⟨running, ⟨true, 0, false, false, none, none, 0⟩, 0x777, by decide +kernel, ⟨by decide +kernel, by decide +kernel, by decide +kernel, by decide +kernel⟩, ?_⟩
  rintro i ⟨c, o, g, e, f, b, h⟩
  simp [rAUX_CMD, rBND_CMD, rBND_DCL_CMD, rBND_ST_CMD, rCAN_CMD, rCLK_CMD, rEDG_CMD, rFLT_CMD, rFP_CMD, rGD_CMD, rHAL_CMD, rHK_CMD, rHQ_CMD, rHQ_ENQ_CMD, rLE_CMD, rLE_PAR_CMD, rMGT_CMD, rPCH_CMD, rPOS_CMD, rPWR_CMD, rSNS_CMD] at h
  omega

/-- States with a command waiting, with time counting, with none, asleep (`Obligations.StepRunsFront`, `Obligations.AsleepIsInert`). -/
theorem test_hyps_StepRunsFront : (∃ (s : State) (c : Instr) (l : List Instr), s.pending = c :: l) ∧ (∃ s : State, s.pending = []) ∧
    (∃ s : State, s.clk.counting = true ∧ s.now + 512 < 2 ^ 64) ∧ (∃ s : State, s.mute = true ∧ s.clk.counting = false) :=
  ⟨⟨{ State.reset with pending := [.gdClearCounters] }, .gdClearCounters, [], rfl⟩, ⟨State.reset, rfl⟩,
    ⟨{ State.reset with clk := { State.reset.clk with counting := true } }, by decide +kernel, by decide +kernel⟩,
    ⟨State.reset.setF fPWR_STATUS_STATE psSTOW, by decide +kernel, by decide +kernel⟩⟩

/-- A state in canonical form whose step answers a next state (`Obligations.StepKeepsSafe`). -/
theorem test_hyps_StepKeepsSafe : ∃ s t : State, Safe s ∧ step s = .next t :=
  ⟨State.reset, idle State.reset, show State.reset.regs.wf resetVal = true by decide +kernel, rfl⟩

/-- Asleep, a command that is none of the nine, and one of them excluded (`Obligations.AsleepIsInert`). -/
theorem test_hyps_AsleepIsInert : ∃ (s : State) (f : Fin 10) (last : Bool) (c : Instr), s.mute = true ∧ s.fpState f.val ≠ fpRUNNING ∧
    ∀ u : State, exec c u = .next (u.fpSubmit f.val last c) :=
  ⟨State.reset.setF fPWR_STATUS_STATE psSTOW, 1, true, .fpTrap 1 true 3, by decide +kernel, by decide +kernel, fun _ => rfl⟩

end Sys2Proof.Tests

namespace Sys2Proof.Tests.W10
def b0 : State := State.reset.setF fPWR_STATUS_STATE psRUN
def rg (l : List (Nat × Word)) (c : FpCore) : FpCore := l.foldl (fun c x => c.setPhys x.1 x.2) c
def fp1 : State := ((b0.setF (fFP_STATUS_STATE 1) 1).setF (fFP_STATUS_WRES 1) 3).setF (fFP_STATUS_QOFS 1) 3 |>.setF (fFP_STATUS_WCUR 1) 2 |>.setF (rFP_CFG 1 |> fun _ => fFP_CFG_WDOG 1) 20 |>.setF (fFP_STATUS_CELL 1) 2 |>.set1 (fFP_STATUS_CELL_VALID 1) |>.modCore 1 fun c => rg [(1, 0x12345678), (2, 0xFFFFFFF0), (3, 7), (4, 0x200), (5,0x1E000), (6, 33), (41,0x80000000), (42, 0x3F800000), (43, 0x7FC00000), (44, 0x00000003)] { c with
  pc := 0x100, acc0 := 0x7FFFFFFFFF, acc1 := 0x1234567, dmem := [(0x80, 0xDEADBEEF), (0x81, 0x11223344)], sb := [⟨0x210, 4, 0xA5A5A5A5⟩], rets := [0x40, 0x44], cbase := 0x200, clen := 64, xpc := 0x88, xwin := 5, xvec := 0x4000, sbxLeft := 99 }
def rgs2 : List FpReg := [.g 0, .g 2, .g 4, .w 1, .w 4, .q 31]
def pairs {α β} (a : List α) (b : List β) : List (α × β) := a.flatMap fun x => b.map fun y => (x, y)
abbrev T := State × Fin 10 × FpReg × FpReg × FpReg × FpSrc × BitVec 16
def chk (s : State) (f : Fin 10) (rd : FpReg) (ra : FpReg) (rb : FpReg) (b : FpSrc) (imm : BitVec 16) : List T := [(s, f, rd, ra, rb, b, imm)]
def merge (l : List (List T)) : List T := l.flatten
def L0 : List T := merge ((pairs rgs2 (pairs rgs2 rgs2)).map fun (x, y, z) => chk fp1 1 x y z (if x = y then .reg z else .imm 33) 0x8001)
/-- The hypotheses of `Obligations.FpIntegerResults`, clause by clause, can be met. -/
theorem test_hyps_FpIntegerResults_0 :
    (∃ (s : State) (f : Fin 10), (FpIdle s f.val)) :=
  ⟨(L0[0]'(by decide +kernel)).1, (L0[0]'(by decide +kernel)).2.1, by (repeat' first | apply And.intro | apply FpIdle.mk | apply FpReady.mk); all_goals first | decide +kernel | (intro _; rfl)⟩
end Sys2Proof.Tests.W10

namespace Sys2Proof.Tests.W11
def b0 : State := State.reset.setF fPWR_STATUS_STATE psRUN
def rg (l : List (Nat × Word)) (c : FpCore) : FpCore := l.foldl (fun c x => c.setPhys x.1 x.2) c
def fp1 : State := ((b0.setF (fFP_STATUS_STATE 1) 1).setF (fFP_STATUS_WRES 1) 3).setF (fFP_STATUS_QOFS 1) 3 |>.setF (fFP_STATUS_WCUR 1) 2 |>.setF (rFP_CFG 1 |> fun _ => fFP_CFG_WDOG 1) 20 |>.setF (fFP_STATUS_CELL 1) 2 |>.set1 (fFP_STATUS_CELL_VALID 1) |>.modCore 1 fun c => rg [(1, 0x12345678), (2, 0xFFFFFFF0), (3, 7), (4, 0x200), (5,0x1E000), (6, 33), (41,0x80000000), (42, 0x3F800000), (43, 0x7FC00000), (44, 0x00000003)] { c with
  pc := 0x100, acc0 := 0x7FFFFFFFFF, acc1 := 0x1234567, dmem := [(0x80, 0xDEADBEEF), (0x81, 0x11223344)], sb := [⟨0x210, 4, 0xA5A5A5A5⟩], rets := [0x40, 0x44], cbase := 0x200, clen := 64, xpc := 0x88, xwin := 5, xvec := 0x4000, sbxLeft := 99 }
def rgs2 : List FpReg := [.g 0, .g 2, .g 4, .w 1, .w 4, .q 31]
def pairs {α β} (a : List α) (b : List β) : List (α × β) := a.flatMap fun x => b.map fun y => (x, y)
abbrev T := State × Fin 10 × FpReg × FpReg × FpReg × Fin 2 × Fin 9
def chk (s : State) (f : Fin 10) (rd : FpReg) (ra : FpReg) (rb : FpReg) (n : Fin 2) (imm : Fin 9) : List T := [(s, f, rd, ra, rb, n, imm)]
def merge (l : List (List T)) : List T := l.flatten
def L0 : List T := merge ((pairs rgs2 (pairs rgs2 rgs2)).map fun (x, y, z) => chk fp1 1 x y z 0 3)
/-- The hypotheses of `Obligations.FpPackedResults`, clause by clause, can be met. -/
theorem test_hyps_FpPackedResults_0 :
    (∃ (s : State) (f : Fin 10), (FpIdle s f.val)) :=
  ⟨(L0[0]'(by decide +kernel)).1, (L0[0]'(by decide +kernel)).2.1, by (repeat' first | apply And.intro | apply FpIdle.mk | apply FpReady.mk); all_goals first | decide +kernel | (intro _; rfl)⟩
end Sys2Proof.Tests.W11

namespace Sys2Proof.Tests.W12
def b0 : State := State.reset.setF fPWR_STATUS_STATE psRUN
def rg (l : List (Nat × Word)) (c : FpCore) : FpCore := l.foldl (fun c x => c.setPhys x.1 x.2) c
def fp1 : State := ((b0.setF (fFP_STATUS_STATE 1) 1).setF (fFP_STATUS_WRES 1) 3).setF (fFP_STATUS_QOFS 1) 3 |>.setF (fFP_STATUS_WCUR 1) 2 |>.setF (rFP_CFG 1 |> fun _ => fFP_CFG_WDOG 1) 20 |>.setF (fFP_STATUS_CELL 1) 2 |>.set1 (fFP_STATUS_CELL_VALID 1) |>.modCore 1 fun c => rg [(1, 0x12345678), (2, 0xFFFFFFF0), (3, 7), (4, 0x200), (5,0x1E000), (6, 33), (41,0x80000000), (42, 0x3F800000), (43, 0x7FC00000), (44, 0x00000003)] { c with
  pc := 0x100, acc0 := 0x7FFFFFFFFF, acc1 := 0x1234567, dmem := [(0x80, 0xDEADBEEF), (0x81, 0x11223344)], sb := [⟨0x210, 4, 0xA5A5A5A5⟩], rets := [0x40, 0x44], cbase := 0x200, clen := 64, xpc := 0x88, xwin := 5, xvec := 0x4000, sbxLeft := 99 }
def rgs2 : List FpReg := [.g 0, .g 2, .g 4, .w 1, .w 4, .q 31]
def pairs {α β} (a : List α) (b : List β) : List (α × β) := a.flatMap fun x => b.map fun y => (x, y)
abbrev T := State × Fin 10 × Fin 2 × FpHalf × FpHalf × FpReg × Fin 32
def chk (s : State) (f : Fin 10) (n : Fin 2) (a : FpHalf) (b : FpHalf) (ra : FpReg) (imm : Fin 32) : List T := [(s, f, n, a, b, ra, imm)]
def merge (l : List (List T)) : List T := l.flatten
def L0 : List T := merge ((pairs rgs2 rgs2).map fun (x, y) => chk fp1 1 (if x = y then 0 else 1) ⟨x, true⟩ ⟨y,false⟩ y 7)
/-- The hypotheses of `Obligations.FpAccumulatorResults`, clause by clause, can be met. -/
theorem test_hyps_FpAccumulatorResults_0 :
    (∃ (s : State) (f : Fin 10), (FpIdle s f.val)) :=
  ⟨(L0[0]'(by decide +kernel)).1, (L0[0]'(by decide +kernel)).2.1, by (repeat' first | apply And.intro | apply FpIdle.mk | apply FpReady.mk); all_goals first | decide +kernel | (intro _; rfl)⟩
end Sys2Proof.Tests.W12

namespace Sys2Proof.Tests.W13
def b0 : State := State.reset.setF fPWR_STATUS_STATE psRUN
def rg (l : List (Nat × Word)) (c : FpCore) : FpCore := l.foldl (fun c x => c.setPhys x.1 x.2) c
def fp1 : State := ((b0.setF (fFP_STATUS_STATE 1) 1).setF (fFP_STATUS_WRES 1) 3).setF (fFP_STATUS_QOFS 1) 3 |>.setF (fFP_STATUS_WCUR 1) 2 |>.setF (rFP_CFG 1 |> fun _ => fFP_CFG_WDOG 1) 20 |>.setF (fFP_STATUS_CELL 1) 2 |>.set1 (fFP_STATUS_CELL_VALID 1) |>.modCore 1 fun c => rg [(1, 0x12345678), (2, 0xFFFFFFF0), (3, 7), (4, 0x200), (5,0x1E000), (6, 33), (41,0x80000000), (42, 0x3F800000), (43, 0x7FC00000), (44, 0x00000003)] { c with
  pc := 0x100, acc0 := 0x7FFFFFFFFF, acc1 := 0x1234567, dmem := [(0x80, 0xDEADBEEF), (0x81, 0x11223344)], sb := [⟨0x210, 4, 0xA5A5A5A5⟩], rets := [0x40, 0x44], cbase := 0x200, clen := 64, xpc := 0x88, xwin := 5, xvec := 0x4000, sbxLeft := 99 }
def rgs2 : List FpReg := [.g 0, .g 2, .g 4, .w 1, .w 4, .q 31]
def pairs {α β} (a : List α) (b : List β) : List (α × β) := a.flatMap fun x => b.map fun y => (x, y)
abbrev T := State × Fin 10 × FpReg × FpReg × FpReg × FpReg
def chk (s : State) (f : Fin 10) (d : FpReg) (ra : FpReg) (rb : FpReg) (rc : FpReg) : List T := [(s, f, d, ra, rb, rc)]
def merge (l : List (List T)) : List T := l.flatten
def L0 : List T := merge ((pairs rgs2 (pairs rgs2 rgs2)).map fun (x, y, z) => chk fp1 1 x y z x)
/-- The hypotheses of `Obligations.FpFloatResults`, clause by clause, can be met. -/
theorem test_hyps_FpFloatResults_0 :
    (∃ (s : State) (f : Fin 10), (FpIdle s f.val)) :=
  ⟨(L0[0]'(by decide +kernel)).1, (L0[0]'(by decide +kernel)).2.1, by (repeat' first | apply And.intro | apply FpIdle.mk | apply FpReady.mk); all_goals first | decide +kernel | (intro _; rfl)⟩
end Sys2Proof.Tests.W13

namespace Sys2Proof.Tests.W15
def b0 : State := State.reset.setF fPWR_STATUS_STATE psRUN
def rg (l : List (Nat × Word)) (c : FpCore) : FpCore := l.foldl (fun c x => c.setPhys x.1 x.2) c
def fp1 : State := ((b0.setF (fFP_STATUS_STATE 1) 1).setF (fFP_STATUS_WRES 1) 3).setF (fFP_STATUS_QOFS 1) 3 |>.setF (fFP_STATUS_WCUR 1) 2 |>.setF (rFP_CFG 1 |> fun _ => fFP_CFG_WDOG 1) 20 |>.setF (fFP_STATUS_CELL 1) 2 |>.set1 (fFP_STATUS_CELL_VALID 1) |>.modCore 1 fun c => rg [(1, 0x12345678), (2, 0xFFFFFFF0), (3, 7), (4, 0x200), (5,0x1E000), (6, 33), (41,0x80000000), (42, 0x3F800000), (43, 0x7FC00000), (44, 0x00000003)] { c with
  pc := 0x100, acc0 := 0x7FFFFFFFFF, acc1 := 0x1234567, dmem := [(0x80, 0xDEADBEEF), (0x81, 0x11223344)], sb := [⟨0x210, 4, 0xA5A5A5A5⟩], rets := [0x40, 0x44], cbase := 0x200, clen := 64, xpc := 0x88, xwin := 5, xvec := 0x4000, sbxLeft := 99 }
def regsL : List FpReg := [.g 0, .g 1, .g 2, .g 3, .g 4, .g 5, .g 6, .w 1, .w 2, .w 3, .w 4, .q 31, .q 5]
def rgs2 : List FpReg := [.g 0, .g 2, .g 4, .w 1, .w 4, .q 31]
def pairs {α β} (a : List α) (b : List β) : List (α × β) := a.flatMap fun x => b.map fun y => (x, y)
def adr : List FpAddr := (regsL.flatMap fun r => [.off r 0, .off r 0x10, .off r 1, .post r 4, .circ r 8, .rev r (.g 3)])
abbrev T := State × Fin 10 × FpReg × FpAddr
def chk (s : State) (f : Fin 10) (rd : FpReg) (a : FpAddr) : List T := [(s, f, rd, a)]
def merge (l : List (List T)) : List T := l.flatten
def L0 : List T := merge ((pairs rgs2 adr).map fun (x, y) => chk fp1 1 x y)
/-- The hypotheses of `Obligations.FpLoads`, clause by clause, can be met. -/
theorem test_hyps_FpLoads_0 :
    (∃ (s : State) (f : Fin 10), (FpIdle s f.val)) :=
  ⟨(L0[0]'(by decide +kernel)).1, (L0[0]'(by decide +kernel)).2.1, by (repeat' first | apply And.intro | apply FpIdle.mk | apply FpReady.mk); all_goals first | decide +kernel | (intro _; rfl)⟩
end Sys2Proof.Tests.W15

namespace Sys2Proof.Tests.W16
def b0 : State := State.reset.setF fPWR_STATUS_STATE psRUN
def rg (l : List (Nat × Word)) (c : FpCore) : FpCore := l.foldl (fun c x => c.setPhys x.1 x.2) c
def fp1 : State := ((b0.setF (fFP_STATUS_STATE 1) 1).setF (fFP_STATUS_WRES 1) 3).setF (fFP_STATUS_QOFS 1) 3 |>.setF (fFP_STATUS_WCUR 1) 2 |>.setF (rFP_CFG 1 |> fun _ => fFP_CFG_WDOG 1) 20 |>.setF (fFP_STATUS_CELL 1) 2 |>.set1 (fFP_STATUS_CELL_VALID 1) |>.modCore 1 fun c => rg [(1, 0x12345678), (2, 0xFFFFFFF0), (3, 7), (4, 0x200), (5,0x1E000), (6, 33), (41,0x80000000), (42, 0x3F800000), (43, 0x7FC00000), (44, 0x00000003)] { c with
  pc := 0x100, acc0 := 0x7FFFFFFFFF, acc1 := 0x1234567, dmem := [(0x80, 0xDEADBEEF), (0x81, 0x11223344)], sb := [⟨0x210, 4, 0xA5A5A5A5⟩], rets := [0x40, 0x44], cbase := 0x200, clen := 64, xpc := 0x88, xwin := 5, xvec := 0x4000, sbxLeft := 99 }
def regsL : List FpReg := [.g 0, .g 1, .g 2, .g 3, .g 4, .g 5, .g 6, .w 1, .w 2, .w 3, .w 4, .q 31, .q 5]
def rgs2 : List FpReg := [.g 0, .g 2, .g 4, .w 1, .w 4, .q 31]
def pairs {α β} (a : List α) (b : List β) : List (α × β) := a.flatMap fun x => b.map fun y => (x, y)
def fp2 : State := fp1.modCore 1 fun c => { c with sb := [] }
def adr : List FpAddr := (regsL.flatMap fun r => [.off r 0, .off r 0x10, .off r 1, .post r 4, .circ r 8, .rev r (.g 3)])
abbrev T := State × Fin 10 × FpReg × FpAddr
def chk (s : State) (f : Fin 10) (rs : FpReg) (a : FpAddr) : List T := [(s, f, rs, a)]
def merge (l : List (List T)) : List T := l.flatten
def L1 : List T := merge ((pairs rgs2 adr).map fun (x, y) => chk fp2 1 x y)
/-- The hypotheses of `Obligations.FpStores`, clause by clause, can be met. -/
theorem test_hyps_FpStores_0 :
    (∃ (s : State) (f : Fin 10), (FpIdle s f.val) ∧ (let c := s.core f.val; (c.sb = []))) :=
  ⟨(L1[0]'(by decide +kernel)).1, (L1[0]'(by decide +kernel)).2.1, by (repeat' first | apply And.intro | apply FpIdle.mk | apply FpReady.mk); all_goals first | decide +kernel | (intro _; rfl)⟩
end Sys2Proof.Tests.W16

namespace Sys2Proof.Tests.W17
def b0 : State := State.reset.setF fPWR_STATUS_STATE psRUN
def rg (l : List (Nat × Word)) (c : FpCore) : FpCore := l.foldl (fun c x => c.setPhys x.1 x.2) c
def fp1 : State := ((b0.setF (fFP_STATUS_STATE 1) 1).setF (fFP_STATUS_WRES 1) 3).setF (fFP_STATUS_QOFS 1) 3 |>.setF (fFP_STATUS_WCUR 1) 2 |>.setF (rFP_CFG 1 |> fun _ => fFP_CFG_WDOG 1) 20 |>.setF (fFP_STATUS_CELL 1) 2 |>.set1 (fFP_STATUS_CELL_VALID 1) |>.modCore 1 fun c => rg [(1, 0x12345678), (2, 0xFFFFFFF0), (3, 7), (4, 0x200), (5,0x1E000), (6, 33), (41,0x80000000), (42, 0x3F800000), (43, 0x7FC00000), (44, 0x00000003)] { c with
  pc := 0x100, acc0 := 0x7FFFFFFFFF, acc1 := 0x1234567, dmem := [(0x80, 0xDEADBEEF), (0x81, 0x11223344)], sb := [⟨0x210, 4, 0xA5A5A5A5⟩], rets := [0x40, 0x44], cbase := 0x200, clen := 64, xpc := 0x88, xwin := 5, xvec := 0x4000, sbxLeft := 99 }
def fp2 : State := fp1.modCore 1 fun c => { c with sb := [] }
abbrev T := State × Fin 10
def chk (s : State) (f : Fin 10) : List T := [(s, f)]
def merge (l : List (List T)) : List T := l.flatten
def L0 : List T := merge [chk fp1 1, chk fp2 1, chk (fp1.modCore 1 fun c => {c with sb := [⟨0x1FFFA, 8, 0x1122334455667788⟩, ⟨0x1FFFC, 2, 0xFFFF⟩]}) 1]
/-- The hypotheses of `Obligations.FpStoreDrain`, clause by clause, can be met. -/
theorem test_hyps_FpStoreDrain_0 :
    (∃ (s : State) (f : Fin 10), (s.mute = false) ∧ ((s.core f.val).stalled = false) ∧ (let c := s.core f.val; (c.sb = []))) :=
  ⟨(L0[1]'(by decide +kernel)).1, (L0[1]'(by decide +kernel)).2, by decide +kernel⟩
end Sys2Proof.Tests.W17

namespace Sys2Proof.Tests.W18
def b0 : State := State.reset.setF fPWR_STATUS_STATE psRUN
def rg (l : List (Nat × Word)) (c : FpCore) : FpCore := l.foldl (fun c x => c.setPhys x.1 x.2) c
def fp1 : State := ((b0.setF (fFP_STATUS_STATE 1) 1).setF (fFP_STATUS_WRES 1) 3).setF (fFP_STATUS_QOFS 1) 3 |>.setF (fFP_STATUS_WCUR 1) 2 |>.setF (rFP_CFG 1 |> fun _ => fFP_CFG_WDOG 1) 20 |>.setF (fFP_STATUS_CELL 1) 2 |>.set1 (fFP_STATUS_CELL_VALID 1) |>.modCore 1 fun c => rg [(1, 0x12345678), (2, 0xFFFFFFF0), (3, 7), (4, 0x200), (5,0x1E000), (6, 33), (41,0x80000000), (42, 0x3F800000), (43, 0x7FC00000), (44, 0x00000003)] { c with
  pc := 0x100, acc0 := 0x7FFFFFFFFF, acc1 := 0x1234567, dmem := [(0x80, 0xDEADBEEF), (0x81, 0x11223344)], sb := [⟨0x210, 4, 0xA5A5A5A5⟩], rets := [0x40, 0x44], cbase := 0x200, clen := 64, xpc := 0x88, xwin := 5, xvec := 0x4000, sbxLeft := 99 }
def fp2 : State := fp1.modCore 1 fun c => { c with sb := [] }
def fp3 : State := fp2.set1 (fFP_STATUS_TRAPM 1)
abbrev T := State × Fin 10 × FpReg × FpReg
def chk (s : State) (f : Fin 10) (rd : FpReg) (ra : FpReg) : List T := [(s, f, rd, ra)]
def merge (l : List (List T)) : List T := l.flatten
def L0 : List T := merge [chk fp1 1 (.g 2) (.g 2), chk fp3 1 (.g 0) (.w 1)]
/-- The hypotheses of `Obligations.FpSpecialRegisters`, clause by clause, can be met. -/
theorem test_hyps_FpSpecialRegisters_0 :
    (∃ (s : State) (f : Fin 10), (FpIdle s f.val) ∧ (let n := f.val; (s.trapm n = true))) :=
  ⟨(L0[1]'(by decide +kernel)).1, (L0[1]'(by decide +kernel)).2.1, by (repeat' first | apply And.intro | apply FpIdle.mk | apply FpReady.mk); all_goals first | decide +kernel | (intro _; rfl)⟩
end Sys2Proof.Tests.W18

namespace Sys2Proof.Tests.W19
def b0 : State := State.reset.setF fPWR_STATUS_STATE psRUN
def rg (l : List (Nat × Word)) (c : FpCore) : FpCore := l.foldl (fun c x => c.setPhys x.1 x.2) c
def fp1 : State := ((b0.setF (fFP_STATUS_STATE 1) 1).setF (fFP_STATUS_WRES 1) 3).setF (fFP_STATUS_QOFS 1) 3 |>.setF (fFP_STATUS_WCUR 1) 2 |>.setF (rFP_CFG 1 |> fun _ => fFP_CFG_WDOG 1) 20 |>.setF (fFP_STATUS_CELL 1) 2 |>.set1 (fFP_STATUS_CELL_VALID 1) |>.modCore 1 fun c => rg [(1, 0x12345678), (2, 0xFFFFFFF0), (3, 7), (4, 0x200), (5,0x1E000), (6, 33), (41,0x80000000), (42, 0x3F800000), (43, 0x7FC00000), (44, 0x00000003)] { c with
  pc := 0x100, acc0 := 0x7FFFFFFFFF, acc1 := 0x1234567, dmem := [(0x80, 0xDEADBEEF), (0x81, 0x11223344)], sb := [⟨0x210, 4, 0xA5A5A5A5⟩], rets := [0x40, 0x44], cbase := 0x200, clen := 64, xpc := 0x88, xwin := 5, xvec := 0x4000, sbxLeft := 99 }
def regsL : List FpReg := [.g 0, .g 1, .g 2, .g 3, .g 4, .g 5, .g 6, .w 1, .w 2, .w 3, .w 4, .q 31, .q 5]
def pairs {α β} (a : List α) (b : List β) : List (α × β) := a.flatMap fun x => b.map fun y => (x, y)
def fp2 : State := fp1.modCore 1 fun c => { c with sb := [] }
def fp3 : State := fp2.set1 (fFP_STATUS_TRAPM 1)
abbrev T := State × Fin 10 × FpReg × BitVec 16 × FpSrc × Fin 8
def chk (s : State) (f : Fin 10) (ra : FpReg) (l : BitVec 16) (b : FpSrc) (kr : Fin 8) : List T := [(s, f, ra, l, b, kr)]
def merge (l : List (List T)) : List T := l.flatten
def L0 : List T := merge ((pairs regsL [FpSrc.imm 0, .imm 5, .reg (.g 3), .reg (.g 0), .imm 70000]).flatMap fun (x, y) => [chk fp1 1 x 0x300 y 2, chk fp3 1 x 0x300 y 2])
/-- The hypotheses of `Obligations.FpControl`, clause by clause, can be met. -/
theorem test_hyps_FpControl_0 :
    (∃ (s : State) (f : Fin 10), (FpIdle s f.val) ∧ (let n := f.val; let wr := s.fld (fFP_STATUS_WRES n); (s.trapm n = false) ∧ (wr < 15))) ∧
    (∃ (s : State) (f : Fin 10), (FpIdle s f.val) ∧ (let n := f.val; (s.trapm n = true))) ∧
    (∃ (s : State) (f : Fin 10) (b : FpSrc), (FpIdle s f.val) ∧ (let n := f.val; let count := (s.srcVal n b).toNat; (count < 65536))) :=
  ⟨⟨(L0[0]'(by decide +kernel)).1, (L0[0]'(by decide +kernel)).2.1, by (repeat' first | apply And.intro | apply FpIdle.mk | apply FpReady.mk); all_goals first | decide +kernel | (intro _; rfl)⟩,
    ⟨(L0[1]'(by decide +kernel)).1, (L0[1]'(by decide +kernel)).2.1, by (repeat' first | apply And.intro | apply FpIdle.mk | apply FpReady.mk); all_goals first | decide +kernel | (intro _; rfl)⟩,
    ⟨(L0[0]'(by decide +kernel)).1, (L0[0]'(by decide +kernel)).2.1, (L0[0]'(by decide +kernel)).2.2.2.2.1, by (repeat' first | apply And.intro | apply FpIdle.mk | apply FpReady.mk); all_goals first | decide +kernel | (intro _; rfl)⟩⟩
end Sys2Proof.Tests.W19

namespace Sys2Proof.Tests.W20
def b0 : State := State.reset.setF fPWR_STATUS_STATE psRUN
def rg (l : List (Nat × Word)) (c : FpCore) : FpCore := l.foldl (fun c x => c.setPhys x.1 x.2) c
def fp1 : State := ((b0.setF (fFP_STATUS_STATE 1) 1).setF (fFP_STATUS_WRES 1) 3).setF (fFP_STATUS_QOFS 1) 3 |>.setF (fFP_STATUS_WCUR 1) 2 |>.setF (rFP_CFG 1 |> fun _ => fFP_CFG_WDOG 1) 20 |>.setF (fFP_STATUS_CELL 1) 2 |>.set1 (fFP_STATUS_CELL_VALID 1) |>.modCore 1 fun c => rg [(1, 0x12345678), (2, 0xFFFFFFF0), (3, 7), (4, 0x200), (5,0x1E000), (6, 33), (41,0x80000000), (42, 0x3F800000), (43, 0x7FC00000), (44, 0x00000003)] { c with
  pc := 0x100, acc0 := 0x7FFFFFFFFF, acc1 := 0x1234567, dmem := [(0x80, 0xDEADBEEF), (0x81, 0x11223344)], sb := [⟨0x210, 4, 0xA5A5A5A5⟩], rets := [0x40, 0x44], cbase := 0x200, clen := 64, xpc := 0x88, xwin := 5, xvec := 0x4000, sbxLeft := 99 }
def regsL : List FpReg := [.g 0, .g 1, .g 2, .g 3, .g 4, .g 5, .g 6, .w 1, .w 2, .w 3, .w 4, .q 31, .q 5]
def rgs2 : List FpReg := [.g 0, .g 2, .g 4, .w 1, .w 4, .q 31]
def pairs {α β} (a : List α) (b : List β) : List (α × β) := a.flatMap fun x => b.map fun y => (x, y)
def fp2 : State := fp1.modCore 1 fun c => { c with sb := [] }
def fp3 : State := fp2.set1 (fFP_STATUS_TRAPM 1)
abbrev T := State × Fin 10 × FpReg × FpReg × FpReg
def chk (s : State) (f : Fin 10) (rd : FpReg) (ra : FpReg) (rb : FpReg) : List T := [(s, f, rd, ra, rb)]
def merge (l : List (List T)) : List T := l.flatten
def L0 : List T := merge ((pairs rgs2 (pairs regsL regsL)).flatMap fun (x, y, z) => [chk fp1 1 x y z, chk fp3 1 x y z, chk fp2 1 x y z])
/-- The hypotheses of `Obligations.FpQueueAndWindow`, clause by clause, can be met. -/
theorem test_hyps_FpQueueAndWindow_0 :
    (∃ (s : State) (f : Fin 10) (rb : FpReg), (FpIdle s f.val) ∧ (let n := f.val; let b := (s.fpReg n rb).toNat; (b % 32 = 0) ∧ (b + 32 ≤ 0x1E000))) ∧
    (∃ (s : State) (f : Fin 10) (ra : FpReg), (FpIdle s f.val) ∧ (let n := f.val; let c := s.core n; let a := (s.fpReg n ra).toNat; (a + 32 ≤ 0x20000) ∧ (∀ e ∈ c.sb, overlap a 32 e.addr e.size = false))) ∧
    (∃ (s : State) (f : Fin 10) (ra : FpReg), (FpIdle s f.val) ∧ (let n := f.val; let c := s.core n; let a := (s.fpReg n ra).toNat; let wr := s.fld (fFP_STATUS_WRES n); (s.trapm n = true) ∧ (a % 4 = 0) ∧ (c.sb = []) ∧ (wr ≠ 1) ∧ (a + 64 ≤ 0x1E000))) ∧
    (∃ (s : State) (f : Fin 10) (ra : FpReg), (FpIdle s f.val) ∧ (let n := f.val; let a := (s.fpReg n ra).toNat; let wr := s.fld (fFP_STATUS_WRES n); (s.trapm n = true) ∧ (a % 4 = 0) ∧ (wr ≠ 15) ∧ (a + 64 ≤ 0x20000))) :=
  ⟨⟨(L0[1]'(by decide +kernel)).1, (L0[1]'(by decide +kernel)).2.1, (L0[1]'(by decide +kernel)).2.2.2.2, by (repeat' first | apply And.intro | apply FpIdle.mk | apply FpReady.mk); all_goals first | decide +kernel | (intro _; rfl)⟩,
    ⟨(L0[1]'(by decide +kernel)).1, (L0[1]'(by decide +kernel)).2.1, (L0[1]'(by decide +kernel)).2.2.2.1, by (repeat' first | apply And.intro | apply FpIdle.mk | apply FpReady.mk); all_goals first | decide +kernel | (intro _; rfl)⟩,
    ⟨(L0[1]'(by decide +kernel)).1, (L0[1]'(by decide +kernel)).2.1, (L0[1]'(by decide +kernel)).2.2.2.1, by (repeat' first | apply And.intro | apply FpIdle.mk | apply FpReady.mk); all_goals first | decide +kernel | (intro _; rfl)⟩,
    ⟨(L0[1]'(by decide +kernel)).1, (L0[1]'(by decide +kernel)).2.1, (L0[1]'(by decide +kernel)).2.2.2.1, by (repeat' first | apply And.intro | apply FpIdle.mk | apply FpReady.mk); all_goals first | decide +kernel | (intro _; rfl)⟩⟩
end Sys2Proof.Tests.W20

namespace Sys2Proof.Tests.W21
def b0 : State := State.reset.setF fPWR_STATUS_STATE psRUN
def rg (l : List (Nat × Word)) (c : FpCore) : FpCore := l.foldl (fun c x => c.setPhys x.1 x.2) c
def fp1 : State := ((b0.setF (fFP_STATUS_STATE 1) 1).setF (fFP_STATUS_WRES 1) 3).setF (fFP_STATUS_QOFS 1) 3 |>.setF (fFP_STATUS_WCUR 1) 2 |>.setF (rFP_CFG 1 |> fun _ => fFP_CFG_WDOG 1) 20 |>.setF (fFP_STATUS_CELL 1) 2 |>.set1 (fFP_STATUS_CELL_VALID 1) |>.modCore 1 fun c => rg [(1, 0x12345678), (2, 0xFFFFFFF0), (3, 7), (4, 0x200), (5,0x1E000), (6, 33), (41,0x80000000), (42, 0x3F800000), (43, 0x7FC00000), (44, 0x00000003)] { c with
  pc := 0x100, acc0 := 0x7FFFFFFFFF, acc1 := 0x1234567, dmem := [(0x80, 0xDEADBEEF), (0x81, 0x11223344)], sb := [⟨0x210, 4, 0xA5A5A5A5⟩], rets := [0x40, 0x44], cbase := 0x200, clen := 64, xpc := 0x88, xwin := 5, xvec := 0x4000, sbxLeft := 99 }
def regsL : List FpReg := [.g 0, .g 1, .g 2, .g 3, .g 4, .g 5, .g 6, .w 1, .w 2, .w 3, .w 4, .q 31, .q 5]
def rgs2 : List FpReg := [.g 0, .g 2, .g 4, .w 1, .w 4, .q 31]
def pairs {α β} (a : List α) (b : List β) : List (α × β) := a.flatMap fun x => b.map fun y => (x, y)
def adr : List FpAddr := (regsL.flatMap fun r => [.off r 0, .off r 0x10, .off r 1, .post r 4, .circ r 8, .rev r (.g 3)])
abbrev T := State × Fin 10 × FpReg × FpReg × FpAddr × BitVec 16 × Fin 16 × BitVec 8
def chk (s : State) (f : Fin 10) (rd : FpReg) (ra : FpReg) (a : FpAddr) (l : BitVec 16) (imm : Fin 16) (r : BitVec 8) : List T := [(s, f, rd, ra, a, l, imm, r)]
def merge (l : List (List T)) : List T := l.flatten
def L0 : List T := merge ((pairs rgs2 adr).flatMap fun (x, y) => [1, 3, 15].flatMap fun k => [chk (fp1.setF (fFP_STATUS_WRES 1) k) 1 x x y 0x300 3 0x16, chk (fp1.setF (fFP_STATUS_WRES 1) k) 1 x x y 0x300 3 8])
/-- The hypotheses of `Obligations.FpTraps`, clause by clause, can be met. -/
theorem test_hyps_FpTraps_0 :
    (∃ (s : State) (f : Fin 10), (FpIdle s f.val) ∧ (s.trapm f.val = false) ∧ (let n := f.val; let wr := s.fld (fFP_STATUS_WRES n); (wr = 1))) ∧
    (∃ (s : State) (f : Fin 10), (FpIdle s f.val) ∧ (s.trapm f.val = false) ∧ (let n := f.val; let pc := (s.core n).pc; let wr := s.fld (fFP_STATUS_WRES n); (wr = 15) ∧ (s.inCode n pc = false))) ∧
    (∃ (s : State) (f : Fin 10) (r : BitVec 8), (FpIdle s f.val) ∧ (s.trapm f.val = false) ∧ (0x15 < r.toNat)) ∧
    (∃ (s : State) (f : Fin 10) (r : BitVec 8), (FpIdle s f.val) ∧ (s.trapm f.val = false) ∧ (2 ≤ sprAccess r.toNat)) ∧
    (∃ (s : State) (f : Fin 10) (a : FpAddr), (FpIdle s f.val) ∧ (s.trapm f.val = false) ∧ (let n := f.val; let x := (s.addrOf n a).1; (x % 4 ≠ 0))) ∧
    (∃ (s : State) (f : Fin 10) (a : FpAddr), (FpIdle s f.val) ∧ (s.trapm f.val = false) ∧ (let n := f.val; let x := (s.addrOf n a).1; (x % 4 = 0) ∧ (0x20000 ≤ x))) :=
  ⟨⟨(L0[12]'(by decide +kernel)).1, (L0[12]'(by decide +kernel)).2.1, by (repeat' first | apply And.intro | apply FpIdle.mk | apply FpReady.mk); all_goals first | decide +kernel | (intro _; rfl)⟩,
    ⟨(L0[40]'(by decide +kernel)).1, (L0[40]'(by decide +kernel)).2.1, by (repeat' first | apply And.intro | apply FpIdle.mk | apply FpReady.mk); all_goals first | decide +kernel | (intro _; rfl)⟩,
    ⟨(L0[12]'(by decide +kernel)).1, (L0[12]'(by decide +kernel)).2.1, (L0[12]'(by decide +kernel)).2.2.2.2.2.2.2, by (repeat' first | apply And.intro | apply FpIdle.mk | apply FpReady.mk); all_goals first | decide +kernel | (intro _; rfl)⟩,
    ⟨(L0[12]'(by decide +kernel)).1, (L0[12]'(by decide +kernel)).2.1, (L0[12]'(by decide +kernel)).2.2.2.2.2.2.2, by (repeat' first | apply And.intro | apply FpIdle.mk | apply FpReady.mk); all_goals first | decide +kernel | (intro _; rfl)⟩,
    ⟨(L0[12]'(by decide +kernel)).1, (L0[12]'(by decide +kernel)).2.1, (L0[12]'(by decide +kernel)).2.2.2.2.1, by (repeat' first | apply And.intro | apply FpIdle.mk | apply FpReady.mk); all_goals first | decide +kernel | (intro _; rfl)⟩,
    ⟨(L0[40]'(by decide +kernel)).1, (L0[40]'(by decide +kernel)).2.1, (L0[40]'(by decide +kernel)).2.2.2.2.1, by (repeat' first | apply And.intro | apply FpIdle.mk | apply FpReady.mk); all_goals first | decide +kernel | (intro _; rfl)⟩⟩
/-- Further clauses of `Obligations.FpTraps`. -/
theorem test_hyps_FpTraps_1 :
    (∃ (s : State) (f : Fin 10) (a : FpAddr), (FpIdle s f.val) ∧ (s.trapm f.val = false) ∧ (let n := f.val; let x := (s.addrOf n a).1; (x % 4 = 0) ∧ (0x1E000 ≤ x) ∧ (x < 0x20000))) :=
  ⟨(L0[180]'(by decide +kernel)).1, (L0[180]'(by decide +kernel)).2.1, (L0[180]'(by decide +kernel)).2.2.2.2.1, by (repeat' first | apply And.intro | apply FpIdle.mk | apply FpReady.mk); all_goals first | decide +kernel | (intro _; rfl)⟩
end Sys2Proof.Tests.W21

namespace Sys2Proof.Tests.W22
def b0 : State := State.reset.setF fPWR_STATUS_STATE psRUN
def rg (l : List (Nat × Word)) (c : FpCore) : FpCore := l.foldl (fun c x => c.setPhys x.1 x.2) c
def fp1 : State := ((b0.setF (fFP_STATUS_STATE 1) 1).setF (fFP_STATUS_WRES 1) 3).setF (fFP_STATUS_QOFS 1) 3 |>.setF (fFP_STATUS_WCUR 1) 2 |>.setF (rFP_CFG 1 |> fun _ => fFP_CFG_WDOG 1) 20 |>.setF (fFP_STATUS_CELL 1) 2 |>.set1 (fFP_STATUS_CELL_VALID 1) |>.modCore 1 fun c => rg [(1, 0x12345678), (2, 0xFFFFFFF0), (3, 7), (4, 0x200), (5,0x1E000), (6, 33), (41,0x80000000), (42, 0x3F800000), (43, 0x7FC00000), (44, 0x00000003)] { c with
  pc := 0x100, acc0 := 0x7FFFFFFFFF, acc1 := 0x1234567, dmem := [(0x80, 0xDEADBEEF), (0x81, 0x11223344)], sb := [⟨0x210, 4, 0xA5A5A5A5⟩], rets := [0x40, 0x44], cbase := 0x200, clen := 64, xpc := 0x88, xwin := 5, xvec := 0x4000, sbxLeft := 99 }
def regsL : List FpReg := [.g 0, .g 1, .g 2, .g 3, .g 4, .g 5, .g 6, .w 1, .w 2, .w 3, .w 4, .q 31, .q 5]
def rgs2 : List FpReg := [.g 0, .g 2, .g 4, .w 1, .w 4, .q 31]
def pairs {α β} (a : List α) (b : List β) : List (α × β) := a.flatMap fun x => b.map fun y => (x, y)
def fp2 : State := fp1.modCore 1 fun c => { c with sb := [] }
def fp3 : State := fp2.set1 (fFP_STATUS_TRAPM 1)
def adr : List FpAddr := (regsL.flatMap fun r => [.off r 0, .off r 0x10, .off r 1, .post r 4, .circ r 8, .rev r (.g 3)])
def fq1 : State := fp2.modCore 1 fun c => { c with flips := [(0x40, 2)] }
def fq2 : State := fp2.modCore 1 fun c => { c with flips := [(0x41, 2)], parity := [(1, true), (4, true)] }
abbrev T := State × Fin 10 × FpReg × FpReg × FpAddr × BitVec 16 × Fin 16 × BitVec 8
def chk (s : State) (f : Fin 10) (rd : FpReg) (ra : FpReg) (a : FpAddr) (l : BitVec 16) (imm : Fin 16) (r : BitVec 8) : List T := [(s, f, rd, ra, a, l, imm, r)]
def merge (l : List (List T)) : List T := l.flatten
def L0 : List T := merge ((pairs rgs2 adr).flatMap fun (x, y) => [1, 3, 15].flatMap fun k => [chk (fp3.setF (fFP_STATUS_WRES 1) k) 1 x x y 0x300 3 0x16, chk (fp1.setF (fFP_STATUS_WRES 1) k) 1 x x y 0x300 3 8])
def L1 : List T := merge ((pairs rgs2 adr).flatMap fun (x, y) => [chk fq1 1 x x y 0x300 3 0x16, chk fq2 1 (.g 4) (.g 1) y 0x300 3 8, chk fq2 1 x x y 0x300 3 8])
/-- The hypotheses of `Obligations.FpHalts`, clause by clause, can be met. -/
theorem test_hyps_FpHalts_0 :
    (∃ (s : State) (f : Fin 10), let n := f.val; (FpIdle s n) ∧ (s.trapm n = true) ∧ (s.fld (fFP_STATUS_WRES n) = 1)) ∧
    (∃ (s : State) (f : Fin 10) (a : FpAddr), let n := f.val; (FpIdle s n) ∧ (s.trapm n = true) ∧ ((s.addrOf n a).1 % 4 ≠ 0)) ∧
    (∃ (s : State) (f : Fin 10) (r : BitVec 8), let n := f.val; (FpIdle s n) ∧ (s.trapm n = true) ∧ (0x15 < r.toNat)) ∧
    (∃ (s : State) (f : Fin 10), let n := f.val; (s.mute = false) ∧ (s.fpState n = fpRUNNING) ∧ (s.fld (fFP_CFG_WDOG n) ≠ 0)) ∧
    (∃ (s : State) (f : Fin 10), let n := f.val; (FpReady s n) ∧ (2 ≤ (s.core n).flips.at 0 ((s.core n).pc / 4))) ∧
    (∃ (s : State) (f : Fin 10), let n := f.val; (FpReady s n) ∧ ((s.core n).flips.at 0 ((s.core n).pc / 4) = 0)) :=
  ⟨⟨(L0[12]'(by decide +kernel)).1, (L0[12]'(by decide +kernel)).2.1, by (repeat' first | apply And.intro | apply FpIdle.mk | apply FpReady.mk); all_goals first | decide +kernel | (intro _; rfl)⟩,
    ⟨(L0[12]'(by decide +kernel)).1, (L0[12]'(by decide +kernel)).2.1, (L0[12]'(by decide +kernel)).2.2.2.2.1, by (repeat' first | apply And.intro | apply FpIdle.mk | apply FpReady.mk); all_goals first | decide +kernel | (intro _; rfl)⟩,
    ⟨(L0[12]'(by decide +kernel)).1, (L0[12]'(by decide +kernel)).2.1, (L0[12]'(by decide +kernel)).2.2.2.2.2.2.2, by (repeat' first | apply And.intro | apply FpIdle.mk | apply FpReady.mk); all_goals first | decide +kernel | (intro _; rfl)⟩,
    ⟨(L0[12]'(by decide +kernel)).1, (L0[12]'(by decide +kernel)).2.1, by decide +kernel⟩,
    ⟨(L1[0]'(by decide +kernel)).1, (L1[0]'(by decide +kernel)).2.1, by (repeat' first | apply And.intro | apply FpReady.mk); all_goals first | decide +kernel | (intro _; rfl)⟩,
    ⟨(L0[12]'(by decide +kernel)).1, (L0[12]'(by decide +kernel)).2.1, by (repeat' first | apply And.intro | apply FpReady.mk); all_goals first | decide +kernel | (intro _; rfl)⟩⟩
end Sys2Proof.Tests.W22

namespace Sys2Proof.Tests.W24
def b0 : State := State.reset.setF fPWR_STATUS_STATE psRUN
def rg (l : List (Nat × Word)) (c : FpCore) : FpCore := l.foldl (fun c x => c.setPhys x.1 x.2) c
def fp1 : State := ((b0.setF (fFP_STATUS_STATE 1) 1).setF (fFP_STATUS_WRES 1) 3).setF (fFP_STATUS_QOFS 1) 3 |>.setF (fFP_STATUS_WCUR 1) 2 |>.setF (rFP_CFG 1 |> fun _ => fFP_CFG_WDOG 1) 20 |>.setF (fFP_STATUS_CELL 1) 2 |>.set1 (fFP_STATUS_CELL_VALID 1) |>.modCore 1 fun c => rg [(1, 0x12345678), (2, 0xFFFFFFF0), (3, 7), (4, 0x200), (5,0x1E000), (6, 33), (41,0x80000000), (42, 0x3F800000), (43, 0x7FC00000), (44, 0x00000003)] { c with
  pc := 0x100, acc0 := 0x7FFFFFFFFF, acc1 := 0x1234567, dmem := [(0x80, 0xDEADBEEF), (0x81, 0x11223344)], sb := [⟨0x210, 4, 0xA5A5A5A5⟩], rets := [0x40, 0x44], cbase := 0x200, clen := 64, xpc := 0x88, xwin := 5, xvec := 0x4000, sbxLeft := 99 }
def fp2 : State := fp1.modCore 1 fun c => { c with sb := [] }
def fs : State := (fp2.modCore 1 fun c => {c with stalled := true, waitRd := 3, evRec := true, bundle := [.opAdd 1 false (.g 1) (.g 2) (.reg (.g 3)), .opAdd 1 false (.g 3) (.g 1) (.reg (.g 1)), .fadd 1 false (.w 1) (.w 2) (.w 2)].take 2}).set1 (fFP_STATUS_WAITING 1)
abbrev T := State × Fin 10 × Bool
def chk (s : State) (f : Fin 10) (cycle : Bool) : List T := [(s, f, cycle)]
def merge (l : List (List T)) : List T := l.flatten
def L0 : List T := merge [chk fs 1 true, chk fs 1 false, chk (fs.set1 (fFP_STATUS_SBXM 1)) 1 true]
/-- The hypotheses of `Obligations.FpProcessorEvents`, clause by clause, can be met. -/
theorem test_hyps_FpProcessorEvents_0 :
    (∃ (s : State) (f : Fin 10), (s.mute = false) ∧ (let n := f.val; let c := s.core n; (s.fpState n = fpRUNNING) ∧ (c.stalled = true) ∧ (c.loops = []) ∧ (∀ w, c.flips.at 0 w = 0) ∧ (∀ p, c.parity.at false p = false) ∧ (let ops := c.bundle.map (fpEval s n); (bundleOk ops = true) ∧ (c.notReady ops = false) ∧ (c.pc + 4 * ops.length ≤ 0x10000) ∧ (∀ o ∈ ops, o.trap = none ∧ o.stall = false ∧ o.act = .none ∧ o.drew = false ∧ o.flags < 2048)))) ∧
    (∃ (s : State) (f : Fin 10) (cycle : Bool), (s.mute = false) ∧ (let n := f.val; let c := s.core n; let v := (if c.evRec then 1 else 0) + (if c.evInbox then 2 else 0) + (if cycle then 4 else 0); (s.on (fFP_STATUS_WAITING n) = true) ∧ (v ≠ 0))) ∧
    (∃ (s : State) (f : Fin 10), (s.mute = false) ∧ (let n := f.val; (s.fpState n = fpRUNNING) ∧ (s.sbxm n = true) ∧ (s.trapm n = false))) ∧
    (∃ (s : State) (f : Fin 10), (s.mute = false) ∧ (let n := f.val; let c := s.core n; (s.fpState n ≠ fpOFF) ∧ (∀ w ∈ s.peekWords n, c.flips.at 0 w ≠ 1))) :=
  ⟨⟨(L0[2]'(by decide +kernel)).1, (L0[2]'(by decide +kernel)).2.1, by (repeat' first | apply And.intro); all_goals first | decide +kernel | (intro _; rfl)⟩,
    ⟨(L0[2]'(by decide +kernel)).1, (L0[2]'(by decide +kernel)).2.1, (L0[2]'(by decide +kernel)).2.2, by decide +kernel⟩,
    ⟨(L0[2]'(by decide +kernel)).1, (L0[2]'(by decide +kernel)).2.1, by decide +kernel⟩,
    ⟨(L0[2]'(by decide +kernel)).1, (L0[2]'(by decide +kernel)).2.1, by (repeat' first | apply And.intro); all_goals first | decide +kernel | (intro _; rfl)⟩⟩
end Sys2Proof.Tests.W24

namespace Sys2Proof.Tests.W25
def b0 : State := State.reset.setF fPWR_STATUS_STATE psRUN
def rg (l : List (Nat × Word)) (c : FpCore) : FpCore := l.foldl (fun c x => c.setPhys x.1 x.2) c
def fp1 : State := ((b0.setF (fFP_STATUS_STATE 1) 1).setF (fFP_STATUS_WRES 1) 3).setF (fFP_STATUS_QOFS 1) 3 |>.setF (fFP_STATUS_WCUR 1) 2 |>.setF (rFP_CFG 1 |> fun _ => fFP_CFG_WDOG 1) 20 |>.setF (fFP_STATUS_CELL 1) 2 |>.set1 (fFP_STATUS_CELL_VALID 1) |>.modCore 1 fun c => rg [(1, 0x12345678), (2, 0xFFFFFFF0), (3, 7), (4, 0x200), (5,0x1E000), (6, 33), (41,0x80000000), (42, 0x3F800000), (43, 0x7FC00000), (44, 0x00000003)] { c with
  pc := 0x100, acc0 := 0x7FFFFFFFFF, acc1 := 0x1234567, dmem := [(0x80, 0xDEADBEEF), (0x81, 0x11223344)], sb := [⟨0x210, 4, 0xA5A5A5A5⟩], rets := [0x40, 0x44], cbase := 0x200, clen := 64, xpc := 0x88, xwin := 5, xvec := 0x4000, sbxLeft := 99 }
def fp2 : State := fp1.modCore 1 fun c => { c with sb := [] }
def r0 : Rec := Rec.sealed { time := 1000000, target := 0x1005, src := 0, opcode := 0x10, flags := 0, gtag := 0, gen := 0, payload := 5, seq := 0, crc := 0 }
def hd (f : Bool) (i : Nat) : Held := { idx := i, rsv := false, r := r0, fired := f }
def g0 : State := (fp2.setQd 0x1005 { (fp2.qd 0x1005) with owner := 1, quota := 8, held := [hd true 7, hd false 8] }).modCore 1 fun c => { c with deqs := [(4, 0x1005, 0x200), (2, 0x1005, 0x220)], enqs := [(3, r0)], inPend := [0x11223344556677889900aabbccddeeff, 7], flips := [(16384+0x80, 1)] }
def g1 : State := g0.modCore 1 fun c => { c with inFull := true }
def g2 : State := g0.setQd 0x1005 { (g0.qd 0x1005) with held := [hd false 7] }
def g3 : State := g0.setQd 0x1005 { (g0.qd 0x1005) with owner := 2 }
def g4 : State := g0.setQd 0x1005 { (g0.qd 0x1005) with held := [] }
abbrev T := State × Fin 10
def chk (s : State) (f : Fin 10) : List T := [(s, f)]
def merge (l : List (List T)) : List T := l.flatten
def L0 : List T := merge [chk g0 1, chk g1 1, chk g2 1, chk g3 1, chk g4 1, chk (g4.setQd 0x1005 { (g4.qd 0x1005) with enable := true }) 1]
/-- The hypotheses of `Obligations.FpCompletions`, clause by clause, can be met. -/
theorem test_hyps_FpCompletions_0 :
    (∃ (s : State), (s.mute = false)) :=
  ⟨(L0[0]'(by decide +kernel)).1, by decide +kernel⟩
end Sys2Proof.Tests.W25

namespace Sys2Proof.Tests.W26
def b0 : State := State.reset.setF fPWR_STATUS_STATE psRUN
def rg (l : List (Nat × Word)) (c : FpCore) : FpCore := l.foldl (fun c x => c.setPhys x.1 x.2) c
def fp1 : State := ((b0.setF (fFP_STATUS_STATE 1) 1).setF (fFP_STATUS_WRES 1) 3).setF (fFP_STATUS_QOFS 1) 3 |>.setF (fFP_STATUS_WCUR 1) 2 |>.setF (rFP_CFG 1 |> fun _ => fFP_CFG_WDOG 1) 20 |>.setF (fFP_STATUS_CELL 1) 2 |>.set1 (fFP_STATUS_CELL_VALID 1) |>.modCore 1 fun c => rg [(1, 0x12345678), (2, 0xFFFFFFF0), (3, 7), (4, 0x200), (5,0x1E000), (6, 33), (41,0x80000000), (42, 0x3F800000), (43, 0x7FC00000), (44, 0x00000003)] { c with
  pc := 0x100, acc0 := 0x7FFFFFFFFF, acc1 := 0x1234567, dmem := [(0x80, 0xDEADBEEF), (0x81, 0x11223344)], sb := [⟨0x210, 4, 0xA5A5A5A5⟩], rets := [0x40, 0x44], cbase := 0x200, clen := 64, xpc := 0x88, xwin := 5, xvec := 0x4000, sbxLeft := 99 }
def h0 : State := fp1.setF (fFP_STATUS_STATE 1) 4
def h1 : State := { h0 with fp := { h0.fp with owed := [3,1] } }
def h2 : State := (h1.setF (fFP_STATUS_STATE 9) 6)
def h3 : State := (((h1.setF (fFP_STATUS_STATE 4) 1).setF (fFP_STATUS_CELL 4) 2).set1 (fFP_STATUS_CELL_VALID 4)).setF (fFP_STATUS_ROLE 4) 1
def h3b : State := h3.modCore 3 fun c => { c with haltAt := 99999 }
def h4 : State := { h1 with fp := { h1.fp with owed := [], loads := [(1, 0)] } }
def h5 : State := h4.modCore 0 fun c => {c with dmem := [(3,4)]}
abbrev T := State × Fin 10
def chk (s : State) (f : Fin 10) : List T := [(s, f)]
def merge (l : List (List T)) : List T := l.flatten
def L0 : List T := merge [chk h1 1, chk h2 1, chk h3 1, chk h3b 1, chk (h2.modCore 3 fun c => { c with haltAt := 99999 }) 1,chk (h4.modCore 0 fun c => {c with flips := [(3,2)]}) 1, chk h5 1, chk h2 9, chk fp1 0]
/-- The hypotheses of `Obligations.FpSpares`, clause by clause, can be met. -/
theorem test_hyps_FpSpares_0 :
    (∃ (s : State) (f : Fin 10), (s.mute = false) ∧ (let n := f.val; (s.fp.owed.contains n = false))) ∧
    (∃ (s : State) (f : Fin 10), (s.mute = false) ∧ (let n := f.val; (s.inBiv = false) ∧ (s.nextOwed s.fp.owed = some n) ∧ (s.on (fFP_STATUS_CELL_VALID n) = true))) ∧
    (∃ (s : State) (f : Fin 10), (s.mute = false) ∧ (let n := f.val; (s.fpState n = fpSPARE ∨ s.fpState n = fpTESTING))) :=
  ⟨⟨(L0[7]'(by decide +kernel)).1, (L0[7]'(by decide +kernel)).2, by decide +kernel⟩,
    ⟨(L0[3]'(by decide +kernel)).1, (L0[3]'(by decide +kernel)).2, by decide +kernel⟩,
    ⟨(L0[7]'(by decide +kernel)).1, (L0[7]'(by decide +kernel)).2, by decide +kernel⟩⟩
end Sys2Proof.Tests.W26

namespace Sys2Proof.Tests.W30
def b0 : State := State.reset.setF fPWR_STATUS_STATE psRUN
def mk (t q op fl tag gen : Nat) (p : Quad) : Rec := Rec.sealed { time := BitVec.ofNat 40 t, target := BitVec.ofNat 16 q, src := 255, opcode := BitVec.ofNat 8 op, flags := BitVec.ofNat 8 fl, gtag := BitVec.ofNat 16 tag, gen := BitVec.ofNat 16 gen, payload := p, seq := 0, crc := 0 }
def hd (i : Nat) (f : Bool) (r : Rec) : Held := { idx := i, rsv := false, r := r, fired := f }
def q0 : State := ({ b0 with clk := { b0.clk with count := 77 * 4096 } } : State)
def en (s : State) (q : Nat) (gc : Bool) (quota : Nat) (l : List Held) : State := s.setQd q { s.qd q with enable := true, genCheck := gc, owner := 1, quota := quota, held := l }
def sh : Nat := q0.short
def e0 (q : Nat) : State := en q0 q false 4 [hd 9 false (mk (sh+50) q 0x10 0 0 0 0), hd 8 false (mk (sh+90) q 0x10 0 0 0 0)]
def st (s : State) (r : Rec) : State := (List.range 8).foldl (fun s k => s.wr (rHQ_ENQ k) ((r.slot >>> (32*k)).setWidth 32)) s
def cases : List (State × Rec × Nat) := [3, 0x12, 0x841, 0x1005, 0x7F0].flatMap fun q => [sh + 70, sh, sh + 2^40 - 5, sh + 2^39].flatMap fun t => [0,1].flatMap fun fl => [0x10].map fun op =>
  let r := mk (t % 2^40) q op fl 0 0 (if q = 0x841 then 5 else 0)
  (st { e0 q with hq := { (e0 q).hq with fabric := [r] } } (mk (t % 2^40) q op fl 0 0 (if q = 0x841 then 5 else 0)), r, q)
abbrev T := State × Rec × Nat
def chk (s : State) (r : Rec) (q : Nat) : List T := [(s, r, q)]
def merge (l : List (List T)) : List T := l.flatten
def L0 : List T := merge (cases.map fun x => chk x.1 x.2.1 x.2.2)
/-- The hypotheses of `Obligations.HqRecordAccepted`, clause by clause, can be met. -/
theorem test_hyps_HqRecordAccepted_0 :
    (∃ (s : State) (r : Rec) (q : Nat), (s.mute = false) ∧ (HqTakes s r q) ∧ (let d := s.dOf r.time.toNat; let late := bit r.flags.toNat 0; (3 ≤ q) ∧ (q < 0x1000) ∧ (r.opcode ≠ 0) ∧ (d = 0 ∨ (2 ^ 39 < d ∧ late = true)))) ∧
    (∃ (s : State) (r : Rec) (q : Nat), (s.mute = false) ∧ (HqTakes s r q) ∧ (let d := s.dOf r.time.toNat; let late := bit r.flags.toNat 0; (2 ^ 39 < d) ∧ (late = false))) ∧
    (∃ (s : State) (r : Rec) (q : Nat), (s.mute = false) ∧ (HqTakes s r q) ∧ (let d := s.dOf r.time.toNat; (r = s.staged) ∧ (0 < d) ∧ (d ≤ 2 ^ 39) ∧ (s.hq.stagers.length ≤ 1) ∧ (s.inBiv = false) ∧ (s.ps ≠ psPITCH) ∧ (s.cmdStatus rHQ_ENQ_CMD ≠ stBUSY))) :=
  ⟨⟨(L0[2]'(by decide +kernel)).1, (L0[2]'(by decide +kernel)).2.1, (L0[2]'(by decide +kernel)).2.2, by (repeat' first | apply And.intro | apply HqTakes.mk); all_goals first | decide +kernel | (intro _; rfl)⟩,
    ⟨(L0[4]'(by decide +kernel)).1, (L0[4]'(by decide +kernel)).2.1, (L0[4]'(by decide +kernel)).2.2, by (repeat' first | apply And.intro | apply HqTakes.mk); all_goals first | decide +kernel | (intro _; rfl)⟩,
    ⟨(L0[0]'(by decide +kernel)).1, (L0[0]'(by decide +kernel)).2.1, (L0[0]'(by decide +kernel)).2.2, by (repeat' first | apply And.intro | apply HqTakes.mk); all_goals first | decide +kernel | (intro _; rfl)⟩⟩
end Sys2Proof.Tests.W30

namespace Sys2Proof.Tests.W31
def b0 : State := State.reset.setF fPWR_STATUS_STATE psRUN
def mk (t q op fl tag gen : Nat) (p : Quad) : Rec := Rec.sealed { time := BitVec.ofNat 40 t, target := BitVec.ofNat 16 q, src := 255, opcode := BitVec.ofNat 8 op, flags := BitVec.ofNat 8 fl, gtag := BitVec.ofNat 16 tag, gen := BitVec.ofNat 16 gen, payload := p, seq := 0, crc := 0 }
def hd (i : Nat) (f : Bool) (r : Rec) : Held := { idx := i, rsv := false, r := r, fired := f }
def q0 : State := ({ b0 with clk := { b0.clk with count := 77 * 4096 } } : State)
def en (s : State) (q : Nat) (gc : Bool) (quota : Nat) (l : List Held) : State := s.setQd q { s.qd q with enable := true, genCheck := gc, owner := 1, quota := quota, held := l }
def sh : Nat := q0.short
def e0 : State := en (en (en (en (en q0 3 true 1 [hd 9 false (mk (sh+50) 3 0x10 0 0 0 0)]) 0x841 true 2 []) 0 false 1 []) 0x12 false 8 []) 0x1005 true 0 []
def e1 : State := { e0 with hq := { e0.hq with usedMain := 131072, loaded := true } }
def e2 : State := (e1.setF fHQ_CFG_SYS_RSV 10)
def e3 : State := en e2 0 false 0 []
def cases : List Rec := [0, 3, 0x12, 0x841, 0x1005, 0x900].flatMap fun q => [sh + 70, sh, sh + 2^40 - 5].flatMap fun t => [0,1,3,2,8].flatMap fun fl => [1,2,0x10,7].flatMap fun op => [(0,0),(5,1)].map fun tg =>
  mk (t % 2^40) q op fl tg.1 tg.2 (if op = 1 then 3 <<< 64 else 5)
abbrev T := State × Rec
def chk (s : State) (r : Rec) : List T := [(s, r)]
def merge (l : List (List T)) : List T := l.flatten
def L0 : List T := merge ([e0,e1,e2,e3].flatMap fun s => cases.map fun x => chk s x)
/-- The hypotheses of `Obligations.HqChecksInOrder`, clause by clause, can be met. -/
theorem test_hyps_HqChecksInOrder_0 :
    (∃ (s : State) (r : Rec), (s.mute = false) ∧ (r.target.toNat < 0x8000) ∧ (isMember r = false)) :=
  ⟨(L0[0]'(by decide +kernel)).1, (L0[0]'(by decide +kernel)).2, by decide +kernel⟩
end Sys2Proof.Tests.W31

namespace Sys2Proof.Tests.W32
def b0 : State := State.reset.setF fPWR_STATUS_STATE psRUN
def mk (t q op fl tag gen : Nat) (p : Quad) : Rec := Rec.sealed { time := BitVec.ofNat 40 t, target := BitVec.ofNat 16 q, src := 255, opcode := BitVec.ofNat 8 op, flags := BitVec.ofNat 8 fl, gtag := BitVec.ofNat 16 tag, gen := BitVec.ofNat 16 gen, payload := p, seq := 0, crc := 0 }
def hd (i : Nat) (f : Bool) (r : Rec) : Held := { idx := i, rsv := false, r := r, fired := f }
def q0 : State := ({ b0 with clk := { b0.clk with count := 77 * 4096 } } : State)
def en (s : State) (q : Nat) (gc : Bool) (quota : Nat) (l : List Held) : State := s.setQd q { s.qd q with enable := true, genCheck := gc, owner := 1, quota := quota, held := l }
def sh : Nat := q0.short
def e0 (gc : Bool) (g : Nat) (b : Bool) : State := let s := [0x841, 3, 2, 0x1005].foldl (fun s q => en s q gc 8 [hd 9 b (mk (sh+50) q 0x10 0 0 g 0), hd 7 false (mk (sh+55) q 0x10 0 0 g 5), hd 6 false (mk (sh+55) q 0x10 0 0 1 5), { hd 5 false (mk (sh+55) q 0x10 0 0 1 5) with rsv := true }]) q0
  { s with hq := { s.hq with loaded := true, usedMain := 16, usedRsv := 2, stagers := [4] } }
def all : List State := [true,false].flatMap fun gc => [1, 2].flatMap fun g => [true,false].flatMap fun b => [e0 gc g b, (e0 gc g b).setF fPWR_STATUS_STATE psPITCH, (e0 gc g b).setF fPWR_STATUS_STATE psBIVOUAC]
abbrev T := State × BitVec 16
def chk (s : State) (q : BitVec 16) : List T := [(s, q)]
def merge (l : List (List T)) : List T := l.flatten
def L0 : List T := merge (all.flatMap fun s => [0x841, 3, 2, 0x1005, 7].map fun q => chk s (BitVec.ofNat 16 q))
/-- The hypotheses of `Obligations.HqDispatch`, clause by clause, can be met. -/
theorem test_hyps_HqDispatch_0 :
    (∃ (s : State), (s.mute = false) ∧ (s.ps = psPITCH)) ∧
    (∃ (s : State) (q : BitVec 16), (s.mute = false) ∧ (let n := q.toNat; (s.ps ≠ psPITCH) ∧ ((s.qd n).held.find? (fun h => !h.fired && !isMember h.r) = none))) :=
  ⟨⟨(L0[5]'(by decide +kernel)).1, by decide +kernel⟩,
    ⟨(L0[4]'(by decide +kernel)).1, (L0[4]'(by decide +kernel)).2, by decide +kernel⟩⟩
end Sys2Proof.Tests.W32

namespace Sys2Proof.Tests.W33
def b0 : State := State.reset.setF fPWR_STATUS_STATE psRUN
def mk (t q op fl tag gen : Nat) (p : Quad) : Rec := Rec.sealed { time := BitVec.ofNat 40 t, target := BitVec.ofNat 16 q, src := 255, opcode := BitVec.ofNat 8 op, flags := BitVec.ofNat 8 fl, gtag := BitVec.ofNat 16 tag, gen := BitVec.ofNat 16 gen, payload := p, seq := 0, crc := 0 }
def hd (i : Nat) (f : Bool) (r : Rec) : Held := { idx := i, rsv := false, r := r, fired := f }
def q0 : State := ({ b0 with clk := { b0.clk with count := 77 * 4096 } } : State)
def en (s : State) (q : Nat) (gc : Bool) (quota : Nat) (l : List Held) : State := s.setQd q { s.qd q with enable := true, genCheck := gc, owner := 1, quota := quota, held := l }
def sh : Nat := q0.short
def mem (q s : Nat) : Rec := { mk (sh+5000) q 0x10 2 3 0 0 with src := BitVec.ofNat 8 s }
def gr (o : Nat) (st : GState) (n e : Nat) : Group := { (openGroup 4 o 3 (sh+5000) 0x841) with state := st, held := n, expected := e, mask := if e = 0 then 0 else 0x21 }
def base (o : Nat) (g : Group) : State :=
  let s := en (en (en q0 0 false 8 []) 0x841 false 8 [hd 9 false (mem 0x841 o), hd 1 false (mk (sh+5000) 0x841 0x10 0 0 0 0)]) 0x1005 false 8 [hd 7 false (mem 0x1005 o)]
  { s with hq := { s.hq with groups := [g, { gr 5 .opened 0 0 with gtag := 4, idx := 9 }], usedMain := 3 } }
def com (n : Nat) : Rec := mk (sh + 5000) 0 1 3 3 0 (BitVec.ofNat 128 (n * 2^64 + 0x21))
def abo (o : Nat) : Rec := mk (sh + 5000) 0 2 3 3 0 (BitVec.ofNat 128 (o + 256 * 4))
def own : Nat := q0.own
abbrev T := State × BitVec 8 × BitVec 16 × Group × Rec
def chk (s : State) (orig : BitVec 8) (tag : BitVec 16) (g : Group) (r : Rec) : List T := [(s, orig, tag, g, r)]
def merge (l : List (List T)) : List T := l.flatten
def L0 : List T := merge ([own, 5].flatMap fun o => [GState.opened, .commitWait, .armed, .fired, .aborted].flatMap fun st => [0,2].flatMap fun e => [com 2, com 3, com 1, abo 5, abo own].map fun r => let g := gr o st 2 e; chk (base o g) (BitVec.ofNat 8 o) 3 g r)
/-- The hypotheses of `Obligations.HqGroups`, clause by clause, can be met. -/
theorem test_hyps_HqGroups_0 :
    (∃ (s : State) (orig : BitVec 8) (tag : BitVec 16) (g : Group) (r : Rec), (s.mute = false) ∧ (s.group orig.toNat tag.toNat = some g) ∧ (let o := orig.toNat; (r.opcode = 1) ∧ (r.target = 0) ∧ (r.gtag = tag) ∧ (o = s.own) ∧ ((s.own32 r).flags.toNat < 8) ∧ (bit r.flags.toNat 1 = true) ∧ (s.screen 0 (s.own32 r) = 0) ∧ (s.beforeD g.time = true) ∧ (g.state = .opened) ∧ (let n := Quad.h r.payload 8; (g.held ≤ n)))) ∧
    (∃ (s : State) (orig : BitVec 8) (tag : BitVec 16) (g : Group) (r : Rec), (s.mute = false) ∧ (s.group orig.toNat tag.toNat = some g) ∧ (let o := orig.toNat; (r.opcode = 2) ∧ (r.target = 0) ∧ (r.gtag = tag) ∧ (Quad.b r.payload 0 = o) ∧ (o ≠ s.own) ∧ ((s.own32 r).flags.toNat < 8) ∧ (bit r.flags.toNat 1 = true) ∧ (s.screen 0 (s.own32 r) = 0) ∧ (g.state = .armed))) ∧
    (∃ (s : State) (orig : BitVec 8) (tag : BitVec 16) (g : Group), (s.mute = false) ∧ (s.group orig.toNat tag.toNat = some g) ∧ (g.state = .commitWait)) ∧
    (∃ (s : State) (orig : BitVec 8) (tag : BitVec 16) (g : Group), (s.mute = false) ∧ (s.group orig.toNat tag.toNat = some g) ∧ (g.state = .armed ∨ g.state = .fired ∨ g.state = .aborted)) ∧
    (∃ (s : State) (orig : BitVec 8) (tag : BitVec 16) (g : Group), (s.mute = false) ∧ (s.group orig.toNat tag.toNat = some g) ∧ (g.state ≠ .armed)) ∧
    (∃ (s : State) (orig : BitVec 8) (tag : BitVec 16) (g : Group), (s.mute = false) ∧ (s.group orig.toNat tag.toNat = some g) ∧ (g.state = .fired ∨ g.state = .aborted)) :=
  ⟨⟨(L0[0]'(by decide +kernel)).1, (L0[0]'(by decide +kernel)).2.1, (L0[0]'(by decide +kernel)).2.2.1, (L0[0]'(by decide +kernel)).2.2.2.1, (L0[0]'(by decide +kernel)).2.2.2.2, by decide +kernel⟩,
    ⟨(L0[73]'(by decide +kernel)).1, (L0[73]'(by decide +kernel)).2.1, (L0[73]'(by decide +kernel)).2.2.1, (L0[73]'(by decide +kernel)).2.2.2.1, (L0[73]'(by decide +kernel)).2.2.2.2, by decide +kernel⟩,
    ⟨(L0[10]'(by decide +kernel)).1, (L0[10]'(by decide +kernel)).2.1, (L0[10]'(by decide +kernel)).2.2.1, (L0[10]'(by decide +kernel)).2.2.2.1, by decide +kernel⟩,
    ⟨(L0[30]'(by decide +kernel)).1, (L0[30]'(by decide +kernel)).2.1, (L0[30]'(by decide +kernel)).2.2.1, (L0[30]'(by decide +kernel)).2.2.2.1, by decide +kernel⟩,
    ⟨(L0[0]'(by decide +kernel)).1, (L0[0]'(by decide +kernel)).2.1, (L0[0]'(by decide +kernel)).2.2.1, (L0[0]'(by decide +kernel)).2.2.2.1, by decide +kernel⟩,
    ⟨(L0[30]'(by decide +kernel)).1, (L0[30]'(by decide +kernel)).2.1, (L0[30]'(by decide +kernel)).2.2.1, (L0[30]'(by decide +kernel)).2.2.2.1, by decide +kernel⟩⟩
/-- Further clauses of `Obligations.HqGroups`. -/
theorem test_hyps_HqGroups_1 :
    (∃ (s : State) (orig : BitVec 8) (tag : BitVec 16) (g : Group), (s.mute = false) ∧ (s.group orig.toNat tag.toNat = some g) ∧ (g.state = .opened ∨ g.state = .commitWait ∨ g.state = .armed)) :=
  ⟨(L0[0]'(by decide +kernel)).1, (L0[0]'(by decide +kernel)).2.1, (L0[0]'(by decide +kernel)).2.2.1, (L0[0]'(by decide +kernel)).2.2.2.1, by decide +kernel⟩
end Sys2Proof.Tests.W33

namespace Sys2Proof.Tests.W40
def b0 : State := State.reset.setF fPWR_STATUS_STATE psRUN
def regL : List Nat := hqCounters ++ halCounters ++ (List.range 24).flatMap (fun g => [rGD_CNT_DESAT g, rGD_CNT_LATCH g, rEDG_EO_CNT_EDGES g]) ++ (List.range 12).flatMap (fun g => [rEDG_LEG_STATUS g, rAUX_CNT_ON g]) ++ fpCounters 3 ++ leCounters 2 ++ canCounters 1 ++ [rCLK_CNT_UNLOCK, rHK_CNT_TSD, rMGT_CNT_REQ, rBND_LR_MAX 2, rPOS_CNT_SKIP 1, rHQ_POOL_FREE, rHQ_POOL_MIN]
def all : State := (regL.foldl (fun s a => s.wr a (BitVec.ofNat 32 (a*7+1))) b0).setF fPWR_STATUS_STATE psRUN
def cl (s : State) : State := [rHAL_CMD, rSNS_CMD, rEDG_CMD, rPOS_CMD, rHQ_CMD, rFP_CMD 3, rBND_CMD 2, rBND_ST_CMD 2, rBND_DCL_CMD, rLE_CMD 2, rLE_PAR_CMD 2, rFLT_CMD, rCAN_CMD 1, rPCH_CMD, rPWR_CMD, rCLK_CMD, rHK_CMD, rMGT_CMD, rGD_CMD, rAUX_CMD].foldl (fun s a => s.wr a 0) s
abbrev T := State × Fin 10 × Fin 4 × Fin 4 × Fin 5
def chk (s : State) (f : Fin 10) (c : Fin 4) (n : Fin 4) (e : Fin 5) : List T := [(s, f, c, n, e)]
def merge (l : List (List T)) : List T := l.flatten
def L0 : List T := merge [chk b0 3 2 1 2, chk (cl all) 3 2 1 2, chk (b0.setF fPWR_STATUS_STATE psPITCH) 3 2 1 2, chk ((cl all).setF fPWR_STATUS_STATE psBIVOUAC) 3 2 1 2]
/-- The hypotheses of `Obligations.ClearCounters`, clause by clause, can be met. -/
theorem test_hyps_ClearCounters_0 :
    (∃ (s : State), (CmdReady s rHQ_CMD)) ∧
    (∃ (s : State), (CmdReady s rEDG_CMD)) ∧
    (∃ (s : State), (CmdReady s rPOS_CMD)) :=
  ⟨⟨(L0[0]'(by decide +kernel)).1, by (repeat' first | apply And.intro | apply CmdReady.mk); all_goals first | decide +kernel | (intro _; rfl)⟩,
    ⟨(L0[0]'(by decide +kernel)).1, by (repeat' first | apply And.intro | apply CmdReady.mk); all_goals first | decide +kernel | (intro _; rfl)⟩,
    ⟨(L0[0]'(by decide +kernel)).1, by (repeat' first | apply And.intro | apply CmdReady.mk); all_goals first | decide +kernel | (intro _; rfl)⟩⟩
end Sys2Proof.Tests.W40

namespace Sys2Proof.Tests.W50
def b0 : State := State.reset.setF fPWR_STATUS_STATE psRUN
abbrev T := State
def chk (s : State) : List T := [s]
def merge (l : List (List T)) : List T := l.flatten
def L0 : List T := merge [chk State.reset, chk { b0 with clk := { b0.clk with counting := true, count := 1024 } }, chk { b0 with clk := { b0.clk with counting := true, count := -512 } }]
/-- The hypotheses of `Obligations.CountWraps`, clause by clause, can be met. -/
theorem test_hyps_CountWraps_0 :
    (∃ (s : State), (s.pending = []) ∧ (s.clk.counting = false)) ∧
    (∃ (s : State), (s.pending = []) ∧ (s.clk.counting = true) ∧ (s.now % 512 = 0)) ∧
    (∃ (s : State), (s.mute = false) ∧ (s.clk.counting = true) ∧ (2 ^ 64 ≤ s.now + 512)) ∧
    (∃ (s : State), (s.mute = false) ∧ (s.clk.counting = false ∨ s.now + 512 < 2 ^ 64)) :=
  ⟨⟨(L0[0]'(by decide +kernel)), by decide +kernel⟩,
    ⟨(L0[2]'(by decide +kernel)), by decide +kernel⟩,
    ⟨(L0[2]'(by decide +kernel)), by decide +kernel⟩,
    ⟨(L0[0]'(by decide +kernel)), by decide +kernel⟩⟩
end Sys2Proof.Tests.W50

namespace Sys2Proof.Tests.W51
def b0 : State := State.reset.setF fPWR_STATUS_STATE psRUN
def mk (ts : Nat) : State := (((((b0.setF fHAL_STATUS_TSTATE ts).set1 fHAL_CFG_MASTER_ELIG).set1 fHAL_CFG_REF_IN_EN).setF fHAL_STATUS_OWN_BURGEE 5).setF fHAL_STATUS_UPPORT 2).set1 fHAL_REF_STATUS_PPS_PRESENT
def mk2 (ts : Nat) : State := ((((((b0.setF fHAL_STATUS_TSTATE ts).set1 fHAL_CFG_MASTER_ELIG).set1 fHAL_CFG_REF_IN_EN).setF fHAL_STATUS_OWN_BURGEE 5).setF fHAL_STATUS_UPPORT 2).set1 fHAL_REF_STATUS_PPS_PRESENT).set1 fHAL_REF_STATUS_REF_LOCKED |>.setPst 2 pUP |>.setPort 2 { PortSt.init with peerMaster := 3, peerDepth := 1}
abbrev T := State
def chk (s : State) : List T := [s]
def merge (l : List (List T)) : List T := l.flatten
def L0 : List T := merge ((List.range 6).map fun n => merge [chk (mk n), chk (mk2 n)])
/-- The hypotheses of `Obligations.HalTimeStates`, clause by clause, can be met. -/
theorem test_hyps_HalTimeStates_0 :
    (∃ (s : State), (s.mute = false) ∧ (let elig := s.on fHAL_CFG_MASTER_ELIG = true; (s.ts = tFREE) ∧ elig ∧ (s.bestUp = none) ∧ (s.own ≤ s.hal.cand))) ∧
    (∃ (s : State), (s.mute = false) ∧ (let elig := s.on fHAL_CFG_MASTER_ELIG = true; (s.ts = tHOLDOVER) ∧ elig ∧ (s.own ≤ s.hal.cand))) ∧
    (∃ (s : State), (s.mute = false) ∧ (s.ts = tLOCKED ∨ s.ts = tACQUIRE) ∧ (let up := s.fld fHAL_STATUS_UPPORT; let lost := s.setPort up { s.port up with peerMaster := 255 }; (lost.bestUp = none))) ∧
    (∃ (s : State), (s.mute = false) ∧ (s.ts ≠ tLOCKED) ∧ (s.ts ≠ tACQUIRE)) ∧
    (∃ (s : State), (s.mute = false) ∧ (s.ts ≠ tFREE)) ∧
    (∃ (s : State), (s.mute = false) ∧ (s.ts ≠ tHOLDOVER)) :=
  ⟨⟨(L0[0]'(by decide +kernel)), by decide +kernel⟩,
    ⟨(L0[8]'(by decide +kernel)), by decide +kernel⟩,
    ⟨(L0[2]'(by decide +kernel)), by decide +kernel⟩,
    ⟨(L0[0]'(by decide +kernel)), by decide +kernel⟩,
    ⟨(L0[2]'(by decide +kernel)), by decide +kernel⟩,
    ⟨(L0[0]'(by decide +kernel)), by decide +kernel⟩⟩
end Sys2Proof.Tests.W51

namespace Sys2Proof.Tests.W52
def b0 : State := State.reset.setF fPWR_STATUS_STATE psRUN
def st (n : Nat) : State := ((b0.setPst 1 n).setPort 1 { PortSt.init with trainFails := 2, present := true, accepted := true, rxLos := true, sent := [(1,2)] }).setF (fHAL_PORT_STATE_PEER 1) 5
abbrev T := State × Fin 4
def chk (s : State) (p : Fin 4) : List T := [(s, p)]
def merge (l : List (List T)) : List T := l.flatten
def L0 : List T := merge ((List.range 7).map fun n => chk (st n) 1)
def L1 : List T := merge ([0,3,5,6].map fun n => chk ((st n).setF fHAL_CFG_STANDALONE 1) 1)
/-- The hypotheses of `Obligations.HalPorts`, clause by clause, can be met. -/
theorem test_hyps_HalPorts_0 :
    (∃ (s : State) (p : Fin 4), (s.mute = false) ∧ (let n := p.val; (s.pst n = pTRAIN))) ∧
    (∃ (s : State) (p : Fin 4), (s.mute = false) ∧ (let n := p.val; (s.pst n ≠ pTRAIN))) ∧
    (∃ (s : State) (p : Fin 4), (s.mute = false) ∧ (let n := p.val; (s.pst n = pUP) ∧ (∀ c, c < 4 → s.pstate c ≠ 4))) ∧
    (∃ (s : State) (p : Fin 4), (s.mute = false) ∧ (let n := p.val; (CmdReady s rHAL_CMD) ∧ (s.pst n ∉ [pDISABLED, pDOWN, pRETIRED]))) ∧
    (∃ (s : State) (p : Fin 4), (s.mute = false) ∧ (let n := p.val; (CmdReady s rHAL_CMD) ∧ (s.pst n ∈ [pDISABLED, pDOWN, pRETIRED]))) ∧
    (∃ (s : State) (p : Fin 4), (s.mute = false) ∧ (let n := p.val; (CmdReady s rHAL_CMD) ∧ (s.pst n ≠ pRETIRED))) :=
  ⟨⟨(L0[2]'(by decide +kernel)).1, (L0[2]'(by decide +kernel)).2, by decide +kernel⟩,
    ⟨(L1[2]'(by decide +kernel)).1, (L1[2]'(by decide +kernel)).2, by decide +kernel⟩,
    ⟨(L1[2]'(by decide +kernel)).1, (L1[2]'(by decide +kernel)).2, by decide +kernel⟩,
    ⟨(L1[2]'(by decide +kernel)).1, (L1[2]'(by decide +kernel)).2, by (repeat' first | apply And.intro | apply CmdReady.mk); all_goals first | decide +kernel | (intro _; rfl)⟩,
    ⟨(L0[0]'(by decide +kernel)).1, (L0[0]'(by decide +kernel)).2, by (repeat' first | apply And.intro | apply CmdReady.mk); all_goals first | decide +kernel | (intro _; rfl)⟩,
    ⟨(L1[2]'(by decide +kernel)).1, (L1[2]'(by decide +kernel)).2, by (repeat' first | apply And.intro | apply CmdReady.mk); all_goals first | decide +kernel | (intro _; rfl)⟩⟩
/-- Further clauses of `Obligations.HalPorts`. -/
theorem test_hyps_HalPorts_1 :
    (∃ (s : State) (p : Fin 4), (s.mute = false) ∧ (let n := p.val; (CmdReady s rHAL_CMD) ∧ (s.pst n = pDISABLED) ∧ (s.on fHAL_CFG_STANDALONE = false))) ∧
    (∃ (s : State), (s.mute = false) ∧ (CmdReady s rHAL_CMD) ∧ (s.on fHAL_CFG_STANDALONE = true)) :=
  ⟨⟨(L0[0]'(by decide +kernel)).1, (L0[0]'(by decide +kernel)).2, by (repeat' first | apply And.intro | apply CmdReady.mk); all_goals first | decide +kernel | (intro _; rfl)⟩,
    ⟨(L1[2]'(by decide +kernel)).1, by (repeat' first | apply And.intro | apply CmdReady.mk); all_goals first | decide +kernel | (intro _; rfl)⟩⟩
end Sys2Proof.Tests.W52

namespace Sys2Proof.Tests.W53
def b0 : State := State.reset.setF fPWR_STATUS_STATE psRUN
def st (n : Nat) : State := ((b0.setPst 1 n).setPort 1 { PortSt.init with lseqRx := some 4, credit := 3, freed := 2000, txRecord := [1,2], txMgmt := [3,4,5], present := true, accepted := true, rxLos := true, sent := [(1,2)] }).setF (fHAL_PORT_STATE_PEER 1) 5
abbrev T := State × Fin 4
def chk (s : State) (p : Fin 4) : List T := [(s, p)]
def merge (l : List (List T)) : List T := l.flatten
def L0 : List T := merge ((List.range 6).map fun n => chk (st n) 1)
/-- The hypotheses of `Obligations.HalSlots`, clause by clause, can be met. -/
theorem test_hyps_HalSlots_0 :
    (∃ (s : State) (p : Fin 4), (s.mute = false) ∧ (let n := p.val; (s.pst n = pUP ∨ s.pst n = pPROVE))) ∧
    (∃ (s : State) (p : Fin 4), (s.mute = false) ∧ (let n := p.val; (s.pst n ≠ pUP) ∧ (s.pst n ≠ pPROVE))) ∧
    (∃ (s : State) (p : Fin 4), (s.mute = false) ∧ (let n := p.val; (s.pst n = pPROVE))) ∧
    (∃ (s : State) (p : Fin 4), (s.mute = false) ∧ (let n := p.val; (s.pst n = pUP))) :=
  ⟨⟨(L0[4]'(by decide +kernel)).1, (L0[4]'(by decide +kernel)).2, by decide +kernel⟩,
    ⟨(L0[0]'(by decide +kernel)).1, (L0[0]'(by decide +kernel)).2, by decide +kernel⟩,
    ⟨(L0[4]'(by decide +kernel)).1, (L0[4]'(by decide +kernel)).2, by decide +kernel⟩,
    ⟨(L0[5]'(by decide +kernel)).1, (L0[5]'(by decide +kernel)).2, by decide +kernel⟩⟩
end Sys2Proof.Tests.W53

namespace Sys2Proof.Tests.W60
def b0 : State := State.reset.setF fPWR_STATUS_STATE psRUN
def a (e l r k c ig : Nat) : State := ((((((b0.setF (fSNS_SD_CFG_ENABLE 9) e |>.setF (fSNS_GROUP_CFG_ENABLE 1) 1).setF (fSNS_SD_STATUS_LOST 9) l).setF (fSNS_SD_CFG_ROLE 9) r).setF (fSNS_SD_STATUS_ACTIVE 9) k).setF (fSNS_GROUP_CFG_CODING 1) c).setF (fSNS_DEC_STATUS_STATE 7) c).setF (fSNS_DEC_CFG_INPUT 7) 9 |>.setF (fSNS_DEC_CFG_ORDER 7) 3 |>.setF (fSNS_WIN_CFG_ENABLE 9) 1 |>.setFI (fSNS_WIN_LIM_HI 9) 3 |> fun s => { s with sns := { s.sns with ignore := s.sns.ignore.put 0 9 ig }}
abbrev T := State × Fin 48
def chk (s : State) (n : Fin 48) : List T := [(s, n)]
def merge (l : List (List T)) : List T := l.flatten
def L0 : List T := merge ([0,1].flatMap fun e => [0,1].flatMap fun l => [0,1].flatMap fun r => [0,1].flatMap fun k => [0,1].flatMap fun c => [0,2].map fun ig => chk (a e l r k c ig) 9)
/-- The hypotheses of `Obligations.SnsInputs`, clause by clause, can be met. -/
theorem test_hyps_SnsInputs_0 :
    (∃ (s : State) (n : Fin 48), (s.mute = false) ∧ (let i := n.val; let live := s.sdUsed i = true; let lost := s.on (fSNS_SD_STATUS_LOST i) = true; live ∧ (¬ lost))) ∧
    (∃ (s : State) (n : Fin 48), (s.mute = false) ∧ (let i := n.val; let live := s.sdUsed i = true; let lost := s.on (fSNS_SD_STATUS_LOST i) = true; (¬ live ∨ lost))) ∧
    (∃ (s : State) (n : Fin 48), (s.mute = false) ∧ (let i := n.val; let live := s.sdUsed i = true; live ∧ (s.on (fSNS_SD_STATUS_ACTIVE i) = false))) ∧
    (∃ (s : State) (n : Fin 48), (s.mute = false) ∧ (let i := n.val; let live := s.sdUsed i = true; (¬ live ∨ s.on (fSNS_SD_STATUS_ACTIVE i) = true))) ∧
    (∃ (s : State) (n : Fin 48), (s.mute = false) ∧ (let i := n.val; let live := s.sdUsed i = true; live ∧ (s.on (fSNS_GROUP_CFG_CODING (i / 8)) = true))) ∧
    (∃ (s : State) (n : Fin 48), (s.mute = false) ∧ (let i := n.val; let live := s.sdUsed i = true; (¬ live ∨ s.on (fSNS_GROUP_CFG_CODING (i / 8)) = false))) :=
  ⟨⟨(L0[34]'(by decide +kernel)).1, (L0[34]'(by decide +kernel)).2, by decide +kernel⟩,
    ⟨(L0[0]'(by decide +kernel)).1, (L0[0]'(by decide +kernel)).2, by decide +kernel⟩,
    ⟨(L0[34]'(by decide +kernel)).1, (L0[34]'(by decide +kernel)).2, by decide +kernel⟩,
    ⟨(L0[0]'(by decide +kernel)).1, (L0[0]'(by decide +kernel)).2, by decide +kernel⟩,
    ⟨(L0[34]'(by decide +kernel)).1, (L0[34]'(by decide +kernel)).2, by decide +kernel⟩,
    ⟨(L0[0]'(by decide +kernel)).1, (L0[0]'(by decide +kernel)).2, by decide +kernel⟩⟩
end Sys2Proof.Tests.W60

namespace Sys2Proof.Tests.W61
def b0 : State := State.reset.setF fPWR_STATUS_STATE psRUN
def sd (s : State) (d st inp : Nat) : State := ((((s.setF (fSNS_DEC_STATUS_STATE d) st).setF (fSNS_DEC_CFG_INPUT d) inp).setF (fSNS_DEC_CFG_ORDER d) 3).setF (fSNS_DEC_CFG_OSR_LOG d) 3).setF (fSNS_DEC_SCALE_GAIN d) 3000
def a (st7 st8 : Nat) (x : DecSt) (biv pd : Nat) : State := (((sd (sd (sd b0 4 1 11) 7 st7 (if st7 = 1 then 9 else 63)) 8 st8 20).setDec 7 x).setF fSNS_SPARES_ROT_NEXT 11).setF fPWR_STATUS_STATE (if biv = 1 then psBIVOUAC else psRUN) |>.setF (fSNS_DEC_STATUS_SETTLE_REM 7) pd
def xs : List DecSt := [DecSt.init, {DecSt.init with pend := some (2,5), aligned := true}, {DecSt.init with shadowOf := 11, eqs := 4}, {DecSt.init with shadowOf := 11, eqs := 3, outs := 9}, {DecSt.init with shadowOf := 11, eqs := 3, outs := 7}]
abbrev T := State × Fin 52
def chk (s : State) (d : Fin 52) : List T := [(s, d)]
def merge (l : List (List T)) : List T := l.flatten
def L0 : List T := merge ((List.range 6).flatMap fun st => [2,5].flatMap fun s8 => xs.flatMap fun x => [0,1].flatMap fun b => [2].map fun pd => chk (a st s8 x b pd) 7)
/-- The hypotheses of `Obligations.SnsDecimators`, clause by clause, can be met. -/
theorem test_hyps_SnsDecimators_0 :
    (∃ (s : State), (s.mute = false) ∧ (s.rotating = true ∨ s.inBiv = true)) ∧
    (∃ (s : State), (s.mute = false) ∧ (CmdReady s rSNS_CMD) ∧ (s.decSpare = none ∨ s.rotating = true)) ∧
    (∃ (s : State) (d : Fin 52), (s.mute = false) ∧ (let i := d.val; (s.decState i ≠ dSHADOW))) ∧
    (∃ (s : State) (d : Fin 52), (s.mute = false) ∧ (let i := d.val; let x := s.dec i; (s.decState i = dSHADOW) ∧ (x.retest = false) ∧ (x.eqs < 4) ∧ (x.outs < s.decK i + 5))) ∧
    (∃ (s : State) (d : Fin 52), (s.mute = false) ∧ (let i := d.val; let x := s.dec i; (s.decState i = dSHADOW) ∧ (x.retest = false) ∧ (x.eqs < 4) ∧ (s.decK i + 5 ≤ x.outs))) ∧
    (∃ (s : State) (d : Fin 52), (s.mute = false) ∧ (let i := d.val; let x := s.dec i; (s.decState i = dTEST) ∧ (x.retest = false))) :=
  ⟨⟨(L0[1]'(by decide +kernel)).1, by decide +kernel⟩,
    ⟨(L0[30]'(by decide +kernel)).1, by (repeat' first | apply And.intro | apply CmdReady.mk); all_goals first | decide +kernel | (intro _; rfl)⟩,
    ⟨(L0[1]'(by decide +kernel)).1, (L0[1]'(by decide +kernel)).2, by decide +kernel⟩,
    ⟨(L0[60]'(by decide +kernel)).1, (L0[60]'(by decide +kernel)).2, by decide +kernel⟩,
    ⟨(L0[66]'(by decide +kernel)).1, (L0[66]'(by decide +kernel)).2, by decide +kernel⟩,
    ⟨(L0[80]'(by decide +kernel)).1, (L0[80]'(by decide +kernel)).2, by decide +kernel⟩⟩
/-- Further clauses of `Obligations.SnsDecimators`. -/
theorem test_hyps_SnsDecimators_1 :
    (∃ (s : State) (d : Fin 52), (s.mute = false) ∧ (let i := d.val; (s.decState i ≠ dSERVING))) ∧
    (∃ (s : State) (d : Fin 52), (s.mute = false) ∧ (let i := d.val; let n := s.decInput i; (s.decState i = dSERVING) ∧ (s.decSubstitute = none) ∧ (s.fld (fSNS_SD_CFG_ROLE n) ≠ 1))) :=
  ⟨⟨(L0[1]'(by decide +kernel)).1, (L0[1]'(by decide +kernel)).2, by decide +kernel⟩,
    ⟨(L0[30]'(by decide +kernel)).1, (L0[30]'(by decide +kernel)).2, by decide +kernel⟩⟩
end Sys2Proof.Tests.W61

namespace Sys2Proof.Tests.W62
def b0 : State := State.reset.setF fPWR_STATUS_STATE psRUN
def cs : List (List Conv) := [[], [{chan := 9, gain := 2, acq := 60, delayed := true, launch := 5, subst := false}], [{chan := 9, gain := 2, acq := 60, delayed := true, launch := 5, subst := false},{chan := 8, gain := 2, acq := 60, delayed := true, launch := 5, subst := false}]]
def a (ret cal v : Nat) (x : List Conv) (b : Bool) : State := (((((((b0.setF (fSNS_SAR_STATE_RETIRED 2) ret).setF (fSNS_SAR_STATE_CAL_ACTIVE 2) cal).setF (fSNS_SAR_CFG_CAL_EN 2) v).setF (fSNS_SAR_SEQ_VALID 2 9) v).setF (fSNS_SAR_SEQ_CHAN 2 9) 11).setSar 2 {SarSt.init with convs := x, settle := 3}).setVon 5 {busy := b, range := 1, start := 77 + 2^32, reason := ret * 3}).setF (fSNS_VON_CFG_ENABLE 5) v
abbrev T := State × Fin 4 × Fin 24
def chk (s : State) (c : Fin 4) (g : Fin 24) : List T := [(s, c, g)]
def merge (l : List (List T)) : List T := l.flatten
def L0 : List T := merge ([0,1].flatMap fun r => [0,1].flatMap fun k => [0,1].flatMap fun v => cs.flatMap fun x => [true,false].map fun b => chk (a r k v x b) 2 5)
/-- The hypotheses of `Obligations.SnsConverters`, clause by clause, can be met. -/
theorem test_hyps_SnsConverters_0 :
    (∃ (s : State) (c : Fin 4), (s.mute = false) ∧ (let i := c.val; (s.on (fSNS_SAR_CFG_CAL_EN i) = true) ∧ (s.on (fSNS_SAR_STATE_RETIRED i) = false))) ∧
    (∃ (s : State) (c : Fin 4), (s.mute = false) ∧ (let i := c.val; (s.on (fSNS_SAR_CFG_CAL_EN i) = false ∨ s.on (fSNS_SAR_STATE_RETIRED i) = true))) ∧
    (∃ (s : State), (s.mute = false) ∧ (CmdReady s rSNS_CMD)) :=
  ⟨⟨(L0[6]'(by decide +kernel)).1, (L0[6]'(by decide +kernel)).2.1, by decide +kernel⟩,
    ⟨(L0[0]'(by decide +kernel)).1, (L0[0]'(by decide +kernel)).2.1, by decide +kernel⟩,
    ⟨(L0[0]'(by decide +kernel)).1, by (repeat' first | apply And.intro | apply CmdReady.mk); all_goals first | decide +kernel | (intro _; rfl)⟩⟩
end Sys2Proof.Tests.W62

namespace Sys2Proof.Tests.W63
def b0 : State := (State.reset.setF fPWR_STATUS_STATE psRUN).wr (rPOS_HALL_MAP 2) 0x1a2c5#32
def b1 : State := (b0.wrN (rPOS_HALL_MAP 2) ((1 + 3*8 + 2*64 + 5*512 + 0*4096+ 4*32768))).setF (fPOS_SPD_BASE_BASE 2) 3000 |>.setF (fPOS_SPD_CFG_SPD_TMO 2) 1 |>.setFI (fPOS_SPEED_WE 2) (-300)
def a (u : Nat) (x : HallSt) (inv : Nat) : State := ((b1.setF (fPOS_HALL_STATUS_STATE 2) u).setHall 2 x).setF (fPOS_HALL_CFG_DIR_INV 2) inv
def xs : List HallSt := [HallSt.init, {HallSt.init with lastValid := 1, hasEdge := true}, {HallSt.init with lastValid := 1, hasEdge := true, lastDir := 1, intervals := [5,6,7,8,9,10]}, {HallSt.init with lastValid := 1, hasEdge := true, lastDir := -1, rejWin := 3, rejCnt := 4}]
abbrev T := State × Fin 6
def chk (s : State) (h : Fin 6) : List T := [(s, h)]
def merge (l : List (List T)) : List T := l.flatten
def L0 : List T := merge ((List.range 5).flatMap fun st => xs.flatMap fun x => [(0,0),(1,10),(0,300000000)].map fun (b,tm) => chk ({ a st {x with lastDt := tm/20 } b with clk := { b0.clk with count := BitVec.ofNat 64 tm }}.wrN (rPOS_INTERVAL 2) (tm / 10)) 2)
/-- The hypotheses of `Obligations.PosHall`, clause by clause, can be met. -/
theorem test_hyps_PosHall_0 :
    (∃ (s : State), (s.mute = false)) :=
  ⟨(L0[0]'(by decide +kernel)).1, by decide +kernel⟩
end Sys2Proof.Tests.W63

namespace Sys2Proof.Tests.W64
def b0 : State := State.reset.setF fPWR_STATUS_STATE psRUN |>.wrN (rPOS_COUNT 2) 1005 |>.wrN (rPOS_IDX_LATCH 3) 5 |>.setF (fPOS_IDX_CFG_TRIPLET 3) 2 |>.setF (fPOS_PRB_CFG_TRIPLET 3) 2 |>.setF (fPOS_SPD_CFG_COUNTS_REV 2) 999
def a (en pol q tol : Nat) (x : HallSt) (l : Bool) : State := (((((b0.setF (fPOS_IDX_CFG_ENABLE 3) en).setF (fPOS_PRB_CFG_ENABLE 3) en).setF (fPOS_IDX_CFG_POL 3) pol).setF (fPOS_PRB_CFG_POL 3) pol).setF (fPOS_PRB_CFG_DEST_Q 3) q).setF (fPOS_IDX_CFG_DRIFT_TOL 3) tol |>.setHall 2 x |> fun s => { s with pos := { s.pos with latched := s.pos.latched.put false 3 l } }
def xs : List HallSt := [HallSt.init, {HallSt.init with tainted := 8}, {HallSt.init with rev := 8}, {HallSt.init with fwd := 15, tainted := 7}]
abbrev T := State × Fin 4
def chk (s : State) (k : Fin 4) : List T := [(s, k)]
def merge (l : List (List T)) : List T := l.flatten
def L0 : List T := merge ([0,1].flatMap fun e => [0,1].flatMap fun p => [0,0x8205].flatMap fun q => [0,20].flatMap fun tol => xs.flatMap fun x => [true,false].map fun l => chk (a e p q tol x l) 3)
/-- The hypotheses of `Obligations.PosLatches`, clause by clause, can be met. -/
theorem test_hyps_PosLatches_0 :
    (∃ (s : State), (s.mute = false)) :=
  ⟨(L0[0]'(by decide +kernel)).1, by decide +kernel⟩
end Sys2Proof.Tests.W64

namespace Sys2Proof.Tests.W65
def b0 : State := (State.reset.setF fPWR_STATUS_STATE psRUN)|>.setF (fEDG_LEG_CFG_TYPE 2) 1 |>.setF (fEDG_LEG_CFG_BASE 2) 4 |>.setF (fEDG_LEG_STATUS_OUT 2) 1
def a (en st rt o sg : Nat) (f : Nat) : State := (((b0.setF (fEDG_CAR_CFG_ENABLE 3) en).setF (fEDG_CAR_STATUS_ST 3) st).wrN (rEDG_CAR_PERIOD 3) 70000).setF (fEDG_CAR_CFG_OFFSET 3) 0x8000 |>.setF (fEDG_EO_STATUS_RETIRED o) rt |>.setF (fEDG_EO_STATUS_SERVING o) (f/10) |>.setF (fEDG_EO_STATUS_SINGLE o) sg|>.setOut o { OutSt.init with fails0 := f%10, fails1 := f%10 }
abbrev T := State × Fin 8 × Fin 24
def chk (s : State) (c : Fin 8) (o : Fin 24) : List T := [(s, c, o)]
def merge (l : List (List T)) : List T := l.flatten
def L0 : List T := merge ([(1,1),(1,0),(0,2)].flatMap fun (e,p) => [(0,0),(0,1),(1,0)].flatMap fun (q,sg) => [5,9].flatMap fun o => [0,2,12].map fun l => chk (a e p q o sg l) 3 (Fin.ofNat 24 o))
/-- The hypotheses of `Obligations.EdgCarriers`, clause by clause, can be met. -/
theorem test_hyps_EdgCarriers_0 :
    (∃ (s : State) (o : Fin 24), (s.mute = false) ∧ (let k := o.val; (s.on (fEDG_EO_STATUS_RETIRED k) = false) ∧ (s.on (fEDG_EO_STATUS_SINGLE k) = false))) ∧
    (∃ (s : State) (o : Fin 24), (s.mute = false) ∧ (let k := o.val; (s.on (fEDG_EO_STATUS_RETIRED k) = true))) ∧
    (∃ (s : State) (o : Fin 24), (s.mute = false) ∧ (let k := o.val; (s.on (fEDG_EO_STATUS_RETIRED k) = false) ∧ (s.legOf k = none))) :=
  ⟨⟨(L0[3]'(by decide +kernel)).1, (L0[3]'(by decide +kernel)).2.2, by decide +kernel⟩,
    ⟨(L0[12]'(by decide +kernel)).1, (L0[12]'(by decide +kernel)).2.2, by decide +kernel⟩,
    ⟨(L0[3]'(by decide +kernel)).1, (L0[3]'(by decide +kernel)).2.2, by decide +kernel⟩⟩
end Sys2Proof.Tests.W65

namespace Sys2Proof.Tests.W66
def b0 : State := (State.reset.setF fPWR_STATUS_STATE psRUN)|>.setF (fEDG_LEG_CFG_BASE 2) 4 |>.setF (fEDG_LEG_DTA_DT_DN 2) 100 |>.setF (fEDG_CFG_T3L_INNER) 7 |>.setF fHAL_STATUS_OWN_BURGEE 3
def a (ty pt tg st ow ip : Nat) : State := (((b0.setF (fEDG_LEG_CFG_TYPE 2) ty).setF (fEDG_LEG_STATUS_OUT 2) pt).setF (fEDG_LEG_STATUS_TARGET 2) tg).setF (fEDG_LEG_STATUS_TSTATE 2) st|>.setF (fGD_OWN_OWNER 4) ow |>.setF (fGD_OWN_OWNER 5) ow|>.setF (fGD_OWN_OWNER 6) ow|>.setF (fGD_OWN_OWNER 7) ow |>.setLeg 2 {LegSt.init with innerPend := ip, tripAt := 1000} |>.setOut 4 { OutSt.init with offAt := 5555 }
def ps : List (Nat × Nat) := [(1,1),(0,2),(2,0),(0,0),(3,3),(2,12)]
abbrev T := State × Fin 24 × Fin 12 × Quad × Time × Bool
def chk (s : State) (o : Fin 24) (n : Fin 12) (p : Quad) (tm : Time) (late : Bool) : List T := [(s, o, n, p, tm, late)]
def merge (l : List (List T)) : List T := l.flatten
def L0 : List T := merge ([1,2,3,4].flatMap fun ty => ps.flatMap fun pt => [0,1,2].flatMap fun st => [0,3].flatMap fun ow => [0,1,2,3].flatMap fun v => [4,5,9].map fun o => chk (a ty pt.1 pt.2 st ow (v%2*2)) (Fin.ofNat 24 o) 2 (BitVec.ofNat 128 v) 0x123456 (v%2==1))
/-- The hypotheses of `Obligations.EdgRequests`, clause by clause, can be met. -/
theorem test_hyps_EdgRequests_0 :
    (∃ (s : State) (o : Fin 24) (p : Quad), (s.mute = false) ∧ (let k := o.val; (s.legOf k = none ∨ s.eoAccepts k 0x10 p = false))) ∧
    (∃ (s : State) (o : Fin 24) (p : Quad), (s.mute = false) ∧ (let k := o.val; (s.legOf k = none ∨ s.eoAccepts k 0x11 p = false))) ∧
    (∃ (s : State) (o : Fin 24) (n : Fin 12) (p : Quad), (s.mute = false) ∧ (let k := o.val; let l := n.val; (s.legOf k = some l) ∧ (s.eoAccepts k 0x10 p = true) ∧ (tLATCHED ≤ s.tst l))) ∧
    (∃ (s : State) (o : Fin 24) (n : Fin 12) (p : Quad), (s.mute = false) ∧ (let k := o.val; let l := n.val; (s.legOf k = some l) ∧ (s.eoAccepts k 0x11 p = true) ∧ (tLATCHED ≤ s.tst l))) ∧
    (∃ (s : State) (o : Fin 24) (n : Fin 12) (p : Quad), (s.mute = false) ∧ (let k := o.val; let l := n.val; (s.legOf k = some l) ∧ (s.eoAccepts k 0x10 p = true) ∧ (s.tst l = tCUT))) ∧
    (∃ (s : State) (o : Fin 24) (n : Fin 12) (p : Quad), (s.mute = false) ∧ (let k := o.val; let l := n.val; let b := s.legBase l; let fits := LegsFit s; (s.legOf k = some l) ∧ (s.legType l = 1) ∧ (s.eoAccepts k 0x10 p = true) ∧ (s.tst l = tNORMAL) ∧ fits ∧ (s.pat l = 1) ∧ (p.b 0 = 2) ∧ (s.fld (fEDG_LEG_DTA_DT_DN l) ≠ 0))) :=
  ⟨⟨(L0[2]'(by decide +kernel)).1, (L0[2]'(by decide +kernel)).2.1, (L0[2]'(by decide +kernel)).2.2.2.1, by decide +kernel⟩,
    ⟨(L0[2]'(by decide +kernel)).1, (L0[2]'(by decide +kernel)).2.1, (L0[2]'(by decide +kernel)).2.2.2.1, by decide +kernel⟩,
    ⟨(L0[120]'(by decide +kernel)).1, (L0[120]'(by decide +kernel)).2.1, (L0[120]'(by decide +kernel)).2.2.1, (L0[120]'(by decide +kernel)).2.2.2.1, by decide +kernel⟩,
    ⟨(L0[120]'(by decide +kernel)).1, (L0[120]'(by decide +kernel)).2.1, (L0[120]'(by decide +kernel)).2.2.1, (L0[120]'(by decide +kernel)).2.2.2.1, by decide +kernel⟩,
    ⟨(L0[24]'(by decide +kernel)).1, (L0[24]'(by decide +kernel)).2.1, (L0[24]'(by decide +kernel)).2.2.1, (L0[24]'(by decide +kernel)).2.2.2.1, by decide +kernel⟩,
    ⟨(L0[6]'(by decide +kernel)).1, (L0[6]'(by decide +kernel)).2.1, (L0[6]'(by decide +kernel)).2.2.1, (L0[6]'(by decide +kernel)).2.2.2.1, by unfold LegsFit; decide +kernel⟩⟩
/-- Further clauses of `Obligations.EdgRequests`. -/
theorem test_hyps_EdgRequests_1 :
    (∃ (s : State) (o : Fin 24) (n : Fin 12) (p : Quad), (s.mute = false) ∧ (let k := o.val; let l := n.val; let fits := LegsFit s; (s.legOf k = some l) ∧ (s.legType l = 4) ∧ (s.eoAccepts k 0x11 p = true) ∧ (s.tst l = tNORMAL) ∧ fits ∧ (s.pat l ≤ 1))) ∧
    (∃ (s : State) (o : Fin 24) (n : Fin 12) (p : Quad), (s.mute = false) ∧ (let k := o.val; let l := n.val; let b := s.legBase l; (s.legOf k = some l) ∧ (s.legType l = 2 ∨ s.legType l = 3) ∧ (s.eoAccepts k 0x11 p = true) ∧ (s.tst l = tNORMAL) ∧ (patAllowed (s.legType l) (withBit (s.target l) (k - b) (p.b 0 == 1)) = false))) ∧
    (∃ (s : State) (n : Fin 12), (s.mute = false) ∧ (let l := n.val; let fits := LegsFit s; (s.legType l = 1) ∧ (s.pat l = 0) ∧ (s.target l = 2) ∧ (s.swOn l 0 = false) ∧ fits ∧ (s.onsAllowed l = false))) ∧
    (∃ (s : State) (n : Fin 12), (s.mute = false) ∧ (let l := n.val; let fits := LegsFit s; (s.legType l = 1) ∧ (s.pat l = 0) ∧ (s.target l = 2) ∧ (s.swOn l 0 = false) ∧ fits ∧ (s.onsAllowed l = true))) ∧
    (∃ (s : State) (n : Fin 12), (s.mute = false) ∧ (let l := n.val; (s.legType l ≠ 2))) ∧
    (∃ (s : State) (n : Fin 12), (s.mute = false) ∧ (let l := n.val; let fits := LegsFit s; (s.legType l = 2) ∧ (s.pat l = 2) ∧ (s.target l = 0) ∧ (s.swOn l 0 = false) ∧ fits ∧ ((s.leg l).innerSoft = false))) :=
  ⟨⟨(L0[1296]'(by decide +kernel)).1, (L0[1296]'(by decide +kernel)).2.1, (L0[1296]'(by decide +kernel)).2.2.1, (L0[1296]'(by decide +kernel)).2.2.2.1, by unfold LegsFit; decide +kernel⟩,
    ⟨(L0[579]'(by decide +kernel)).1, (L0[579]'(by decide +kernel)).2.1, (L0[579]'(by decide +kernel)).2.2.1, (L0[579]'(by decide +kernel)).2.2.2.1, by decide +kernel⟩,
    ⟨(L0[120]'(by decide +kernel)).1, (L0[120]'(by decide +kernel)).2.2.1, by unfold LegsFit; decide +kernel⟩,
    ⟨(L0[84]'(by decide +kernel)).1, (L0[84]'(by decide +kernel)).2.2.1, by unfold LegsFit; decide +kernel⟩,
    ⟨(L0[2]'(by decide +kernel)).1, (L0[2]'(by decide +kernel)).2.2.1, by decide +kernel⟩,
    ⟨(L0[579]'(by decide +kernel)).1, (L0[579]'(by decide +kernel)).2.2.1, by unfold LegsFit; decide +kernel⟩⟩
end Sys2Proof.Tests.W66

namespace Sys2Proof.Tests.W67
def b0 : State := (State.reset.setF fPWR_STATUS_STATE psRUN)|>.setF (fEDG_LEG_CFG_BASE 2) 4 |>.setF (fEDG_LEG_CFG_TYPE 2) 1 |>.setF fEDG_RETRY_CFG_TRIES 1 |>.setF fEDG_CFG_CBC_K 3
def a (st pt tg hd en m act : Nat) (w : Bool) (cl : List Nat) : State := (((b0.setF (fEDG_LEG_STATUS_OUT 2) pt).setF (fEDG_LEG_STATUS_TARGET 2) tg).setF (fEDG_LEG_STATUS_TSTATE 2) st).setF (fEDG_LEG_STATUS_HELD 2) hd |>.setLeg 2 {LegSt.init with conflictHold := w, waiting := w, clears := cl} |>.setF fEDG_TRIPPIN_CFG_ENABLE1 en |>.setF fEDG_TRIPPIN_CFG_ACTION1 act |>.setF (fEDG_TRIP_MASK_LEGS 49) m |>.setF fEDG_TRIPPIN_STATUS_ACT (en * 2)
def st2 := [0,1,2,3].flatMap fun st => [(1,1),(2,0)].flatMap fun pt => [0,3].flatMap fun hd => [0,1].flatMap fun en => [0,4].flatMap fun m => [0,1].flatMap fun act => [(true,[]),(false,[0])].map fun (w,cl) => a st pt.1 pt.2 hd en m act w cl
abbrev T := State × Fin 12 × Fin 52
def chk (s : State) (n : Fin 12) (r : Fin 52) : List T := [(s, n, r)]
def merge (l : List (List T)) : List T := l.flatten
def L0 : List T := merge (st2.map fun s => chk s 2 49)
def L1 : List T := merge ((st2.take 40).map fun s => chk (s.modLeg 2 (fun q => { q with periodAt := 1000000 })) 2 49)
/-- The hypotheses of `Obligations.EdgTrips`, clause by clause, can be met. -/
theorem test_hyps_EdgTrips_0 :
    (∃ (s : State) (r : Fin 52), (s.mute = false) ∧ (let w := r.val; (s.rowCut w = false) ∧ (s.rowLatch w = false))) ∧
    (∃ (s : State) (r : Fin 52), (s.mute = false) ∧ (let w := r.val; (∀ m, m < 12 → s.rowSelects w m = false))) ∧
    (∃ (s : State) (n : Fin 12) (r : Fin 52), (s.mute = false) ∧ (let l := n.val; let w := r.val; let two := s.legType l = 1 ∧ s.pat l < 3 ∧ LegsFit s; let mine := s.rowSelects w l = true ∧ ∀ m, m < 12 → m ≠ l → s.rowSelects w m = false; let spent := s.fld fEDG_RETRY_CFG_TRIES ≤ (last60 s.now (s.leg l).clears).length; mine ∧ two ∧ (s.rowLatch w = true) ∧ (s.tst l < tLATCHED) ∧ (¬ spent))) ∧
    (∃ (s : State) (n : Fin 12) (r : Fin 52), (s.mute = false) ∧ (let l := n.val; let w := r.val; let two := s.legType l = 1 ∧ s.pat l < 3 ∧ LegsFit s; let mine := s.rowSelects w l = true ∧ ∀ m, m < 12 → m ≠ l → s.rowSelects w m = false; let spent := s.fld fEDG_RETRY_CFG_TRIES ≤ (last60 s.now (s.leg l).clears).length; mine ∧ two ∧ (s.rowLatch w = true) ∧ (s.tst l < tLATCHED) ∧ spent)) ∧
    (∃ (s : State) (n : Fin 12) (r : Fin 52), (s.mute = false) ∧ (let l := n.val; let w := r.val; let two := s.legType l = 1 ∧ s.pat l < 3 ∧ LegsFit s; let mine := s.rowSelects w l = true ∧ ∀ m, m < 12 → m ≠ l → s.rowSelects w m = false; mine ∧ two ∧ (s.rowLatch w = false) ∧ (s.rowCut w = true) ∧ (s.tst l = tNORMAL))) ∧
    (∃ (s : State) (n : Fin 12), (s.mute = false) ∧ (let l := n.val; (s.periodDue l = none))) :=
  ⟨⟨(L1[0]'(by decide +kernel)).1, (L1[0]'(by decide +kernel)).2.2, by decide +kernel⟩,
    ⟨(L1[0]'(by decide +kernel)).1, (L1[0]'(by decide +kernel)).2.2, by decide +kernel⟩,
    ⟨(L0[14]'(by decide +kernel)).1, (L0[14]'(by decide +kernel)).2.1, (L0[14]'(by decide +kernel)).2.2, by unfold LegsFit; decide +kernel⟩,
    ⟨(L0[15]'(by decide +kernel)).1, (L0[15]'(by decide +kernel)).2.1, (L0[15]'(by decide +kernel)).2.2, by unfold LegsFit; decide +kernel⟩,
    ⟨(L0[12]'(by decide +kernel)).1, (L0[12]'(by decide +kernel)).2.1, (L0[12]'(by decide +kernel)).2.2, by unfold LegsFit; decide +kernel⟩,
    ⟨(L1[0]'(by decide +kernel)).1, (L1[0]'(by decide +kernel)).2.1, by decide +kernel⟩⟩
/-- Further clauses of `Obligations.EdgTrips`. -/
theorem test_hyps_EdgTrips_1 :
    (∃ (s : State) (n : Fin 12), (s.mute = false) ∧ (let l := n.val; (s.tst l ≠ tLATCHED ∨ (s.leg l).waiting = false ∨ s.tripActive l = true))) ∧
    (∃ (s : State) (n : Fin 12), (s.mute = false) ∧ (let l := n.val; (s.tst l = tLATCHED) ∧ ((s.leg l).waiting = true) ∧ (s.tripActive l = false))) ∧
    (∃ (s : State) (n : Fin 12), (s.mute = false) ∧ (let l := n.val; (s.tst l ≠ tLATCHED ∨ s.tripActive l = false))) ∧
    (∃ (s : State) (n : Fin 12), (s.mute = false) ∧ (let l := n.val; (s.tst l = tLATCHED) ∧ (s.tripActive l = true))) ∧
    (∃ (s : State) (n : Fin 12), (s.mute = false) ∧ (let l := n.val; (CmdReady s rEDG_CMD) ∧ (s.tst l = tRETIRED ∨ (s.tst l = tLATCHED ∧ s.tripActive l = true)))) ∧
    (∃ (s : State) (n : Fin 12), (s.mute = false) ∧ (let l := n.val; (CmdReady s rEDG_CMD) ∧ (s.tst l = tNORMAL ∨ s.tst l = tCUT))) :=
  ⟨⟨(L1[0]'(by decide +kernel)).1, (L1[0]'(by decide +kernel)).2.1, by decide +kernel⟩,
    ⟨(L0[128]'(by decide +kernel)).1, (L0[128]'(by decide +kernel)).2.1, by decide +kernel⟩,
    ⟨(L1[0]'(by decide +kernel)).1, (L1[0]'(by decide +kernel)).2.1, by decide +kernel⟩,
    ⟨(L0[140]'(by decide +kernel)).1, (L0[140]'(by decide +kernel)).2.1, by decide +kernel⟩,
    ⟨(L0[140]'(by decide +kernel)).1, (L0[140]'(by decide +kernel)).2.1, by (repeat' first | apply And.intro | apply CmdReady.mk); all_goals first | decide +kernel | (intro _; rfl)⟩,
    ⟨(L1[0]'(by decide +kernel)).1, (L1[0]'(by decide +kernel)).2.1, by (repeat' first | apply And.intro | apply CmdReady.mk); all_goals first | decide +kernel | (intro _; rfl)⟩⟩
/-- Further clauses of `Obligations.EdgTrips`. -/
theorem test_hyps_EdgTrips_2 :
    (∃ (s : State) (n : Fin 12), (s.mute = false) ∧ (let l := n.val; (CmdReady s rEDG_CMD) ∧ (s.tst l = tLATCHED) ∧ (s.tripActive l = false))) :=
  ⟨(L0[128]'(by decide +kernel)).1, (L0[128]'(by decide +kernel)).2.1, by (repeat' first | apply And.intro | apply CmdReady.mk); all_goals first | decide +kernel | (intro _; rfl)⟩
end Sys2Proof.Tests.W67

namespace Sys2Proof.Tests.W69
def b0 : State := (State.reset.setF fPWR_STATUS_STATE psRUN)|>.setF (fEDG_LEG_CFG_BASE 2) 4 |>.setF (fEDG_LEG_CFG_TYPE 2) 1 |>.setF fHAL_STATUS_OWN_BURGEE 3 |>.setF (fEDG_LEG_STATUS_OUT 2) 1 |>.setF (fGD_OWN_OWNER 5) 3 |>.setF (fGD_OWN_OWNER 9) 3 |> fun s => { s with clk := { s.clk with count := 100000 }}
def a (g st cfg n : Nat) (x : GateSt) : State := (((b0.setF (fGD_STATUS_STATE g) st).wrN (rGD_CFG g) cfg).setF fGD_RETRY_CFG_TRIES n).setGate g x |>.set1 (fGD_STATUS_SUPPLY_READY g) |>.setB (fGD_CFG_DESAT_EN g) (cfg ≠ 0)|>.setB (fGD_CFG_VGMON_EN g) (cfg ≠ 0) |>.setB (fGD_CFG_DESAT_LOCAL g) (cfg == 1) |>.setB (fGD_CFG_ON_MODE g) (cfg == 1) |>.setF (fGD_VGMON_VG_ON_TH g) 30 |>.setF (fGD_VGMON_VG_OFF_TH g) 250
def ds : List Drive := [.strongSink, .on1, .on2, .on3, .off1, .off2, .soft, .hiZ, .pullDown]
def xs : List GateSt := GateSt.init :: ds.flatMap fun d => [(true,0,false),(false,1,true),(true,2,true),(false,1,false),(true,1,false)].map fun (l,f,bl) => {GateSt.init with drive := d, isoLevel := l, flag := f, blanking := bl, treatOn := bl, supplyOn := l || bl, gse := true, sen := true, levelAt := f * 49000, isoDown := bl, inRun := f==0}
abbrev T := State × Fin 24
def chk (s : State) (c : Fin 24) : List T := [(s, c)]
def merge (l : List (List T)) : List T := l.flatten
def L0 : List T := merge ([(5,1,0,0),(5,2,1,1),(9,2,2,1),(5,2,0,1)].flatMap fun (g,st,cf,n) => xs.map fun x => chk (a g st cf n x) (Fin.ofNat 24 g))
/-- The hypotheses of `Obligations.GdDrive`, clause by clause, can be met. -/
theorem test_hyps_GdDrive_0 :
    (∃ (s : State) (c : Fin 24), (s.mute = false) ∧ (let g := c.val; let q := s.gate g; (s.on (fGD_CFG_DESAT_EN g) = false ∨ q.drive.isOn = false ∨ q.blanking = true))) ∧
    (∃ (s : State) (c : Fin 24), (s.mute = false) ∧ (let g := c.val; let q := s.gate g; (s.on (fGD_CFG_DESAT_EN g) = true) ∧ (q.drive.isOn = true) ∧ (q.blanking = false))) ∧
    (∃ (s : State) (c : Fin 24), (s.mute = false) ∧ (let g := c.val; let q := s.gate g; (q.drive ≠ .soft))) ∧
    (∃ (s : State) (c : Fin 24), (s.mute = false) ∧ (let g := c.val; let q := s.gate g; (q.drive = .soft))) ∧
    (∃ (s : State) (c : Fin 24), (s.mute = false) ∧ (let g := c.val; let q := s.gate g; (q.flag = 0))) ∧
    (∃ (s : State) (c : Fin 24), (s.mute = false) ∧ (let g := c.val; let q := s.gate g; let left := s.gst g = gARMED ∧ (s.gdTries g).length < s.gdN ∧ s.inBiv = false; (q.flag = 1) ∧ left ∧ (q.awaitInner = false) ∧ (LegsFit s))) :=
  ⟨⟨(L0[0]'(by decide +kernel)).1, (L0[0]'(by decide +kernel)).2, by decide +kernel⟩,
    ⟨(L0[55]'(by decide +kernel)).1, (L0[55]'(by decide +kernel)).2, by decide +kernel⟩,
    ⟨(L0[0]'(by decide +kernel)).1, (L0[0]'(by decide +kernel)).2, by decide +kernel⟩,
    ⟨(L0[125]'(by decide +kernel)).1, (L0[125]'(by decide +kernel)).2, by decide +kernel⟩,
    ⟨(L0[0]'(by decide +kernel)).1, (L0[0]'(by decide +kernel)).2, by decide +kernel⟩,
    ⟨(L0[55]'(by decide +kernel)).1, (L0[55]'(by decide +kernel)).2, by unfold LegsFit; decide +kernel⟩⟩
/-- Further clauses of `Obligations.GdDrive`. -/
theorem test_hyps_GdDrive_1 :
    (∃ (s : State) (c : Fin 24), (s.mute = false) ∧ (let g := c.val; let q := s.gate g; (q.flag = 2) ∧ (s.legOf g = none))) :=
  ⟨(L0[125]'(by decide +kernel)).1, (L0[125]'(by decide +kernel)).2, by decide +kernel⟩
end Sys2Proof.Tests.W69

namespace Sys2Proof.Tests.W70
def b0 : State := (State.reset.setF fPWR_STATUS_STATE psRUN)|>.setF (fEDG_LEG_CFG_BASE 2) 4 |>.setF (fEDG_LEG_CFG_TYPE 2) 1 |>.setF fHAL_STATUS_OWN_BURGEE 3 |>.setF (fEDG_LEG_STATUS_OUT 2) 1 |>.setF (fGD_OWN_OWNER 5) 3 |>.setF (fGD_OWN_OWNER 9) 3 |> fun s => { s with clk := { s.clk with count := 100000 }}
def a (g st ps n h : Nat) (x : GateSt) : State := (((b0.setF (fGD_STATUS_STATE g) st).setF fPWR_STATUS_STATE ps).setF fGD_RETRY_CFG_TRIES n).setGate g x |>.set1 (fGD_STATUS_SUPPLY_READY g) |>.setF fGD_HARNESS_CLOSED h |>.setF (fGD_ENVELOPE_FSW_MAX g) 1000 |>.wrN (rGD_DIAG_PEER g) (n*8)
def xs : List GateSt := GateSt.init :: [.strongSink, .on1, .soft].flatMap fun d => [(true,false,true),(false,true,false),(true,true,true)].map fun (l,f,bl) => {GateSt.init with drive := d, waiting := l, supplyBad := f && bl, linkBad := f, isoDown := bl, diagRun := bl, inRun := l, supplyOn := l, gse := true, sen := true, ons := if l then 200 else 7}
abbrev T := State × Fin 24
def chk (s : State) (c : Fin 24) : List T := [(s, c)]
def merge (l : List (List T)) : List T := l.flatten
def L0 : List T := merge ([5].flatMap fun g => [0,1,2,3,4,5,6].flatMap fun st => [(psREADY,0,63), (psRUN,1,63),(psRUN,0,0)].flatMap fun (ps,n,h) => xs.map fun x => chk (a g st ps n h x) (Fin.ofNat 24 g))
/-- The hypotheses of `Obligations.GdStates`, clause by clause, can be met. -/
theorem test_hyps_GdStates_0 :
    (∃ (s : State) (c : Fin 24), (s.mute = false) ∧ (let g := c.val; (s.gst g ≠ gARMED))) ∧
    (∃ (s : State) (c : Fin 24), (s.mute = false) ∧ (let g := c.val; let left := s.gst g = gARMED ∧ (s.gdTries g).length < s.gdN ∧ s.inBiv = false; left)) ∧
    (∃ (s : State) (c : Fin 24), (s.mute = false) ∧ (let g := c.val; (CmdReady s rGD_CMD) ∧ (s.ps ≠ psREADY ∨ (s.gst g ≠ gARMED ∧ s.gst g ≠ gUNOWNED)))) ∧
    (∃ (s : State) (c : Fin 24), (s.mute = false) ∧ (let g := c.val; (CmdReady s rGD_CMD) ∧ (s.ps = psREADY) ∧ (s.gst g = gARMED ∨ s.gst g = gUNOWNED))) :=
  ⟨⟨(L0[0]'(by decide +kernel)).1, (L0[0]'(by decide +kernel)).2, by decide +kernel⟩,
    ⟨(L0[70]'(by decide +kernel)).1, (L0[70]'(by decide +kernel)).2, by decide +kernel⟩,
    ⟨(L0[10]'(by decide +kernel)).1, (L0[10]'(by decide +kernel)).2, by (repeat' first | apply And.intro | apply CmdReady.mk); all_goals first | decide +kernel | (intro _; rfl)⟩,
    ⟨(L0[0]'(by decide +kernel)).1, (L0[0]'(by decide +kernel)).2, by (repeat' first | apply And.intro | apply CmdReady.mk); all_goals first | decide +kernel | (intro _; rfl)⟩⟩
end Sys2Proof.Tests.W70

namespace Sys2Proof.Tests.W72
def b0 : State := (State.reset.setF fPWR_STATUS_STATE psRUN) |>.setF (fBND_BASE_I_BASE 1) 300 |>.setF (fBND_BASE_V_BASE 1) 800 |>.setF (fBND_WBASE_W_BASE 1) 3000 |>.setF (fBND_LIMITS_IMAX 1) 30000 |>.setF (fHK_THROTTLE_STEP 1) 16 |>.setF (fBND_MACH_L_SIGMA 1) 2000 |>.setF (fEDG_LEG_CFG_TYPE 2) 1 |>.setF (fEDG_LEG_CFG_CELL 2) 1 |>.setF (fEDG_LEG_CFG_BASE 2) 4 |>.setF (fBND_LR_CFG_LR_STEP 1) 100 |>.setF (fBND_STATUS_STATE 2) 3
def lr0 : LrStep := { t0 := 5, i0d := 1, i0q := 2, ud := 1, uq := 0, mag := 500, tmin := 700, bound := true, left := true, run := false }
def a (st m : Nat) (x : BndCell) : State := ((b0.setF (fBND_STATUS_STATE 1) st).setF (fBND_STATUS_MODE 1) m).setBnd 1 x
def rc (k op : Nat) (p : Nat) : List BndRec := [⟨k, op, BitVec.ofNat 128 p, 7, 5, 6⟩]
def xs (p : Nat) : List BndCell := [{ BndCell.init with edges := [⟨50, 0, 2⟩, ⟨40, 0, 0⟩] }, { BndCell.init with carLost := true, edges := [⟨40, 0, 0⟩], level := [(0, 1)], since := [(0,900)] }, { BndCell.init with recs := rc 0 0x10 p, lr := some lr0 }, { BndCell.init with recs := rc 0 0x11 p, waitZero := true }, { BndCell.init with recs := rc 0 0x12 p },{ BndCell.init with recs := rc 0 0x13 p }, { BndCell.init with recs := rc 0 0x13 p, angLost := true }, { BndCell.init with recs := rc 1 0x10 p },{ BndCell.init with recs := rc 2 0x10 p },{ BndCell.init with recs := rc 2 0x11 p }]
abbrev T := State × Fin 4 × Quad
def chk (s : State) (c : Fin 4) (p : Quad) : List T := [(s, c, p)]
def merge (l : List (List T)) : List T := l.flatten
def L0 : List T := merge ((List.range 7).flatMap fun st => [(0,0),(1,1),(2,0x7000000)].flatMap fun (m,p) => (xs p).map fun x => chk (a st m x) 1 (BitVec.ofNat 128 p))
def L1 : List T := merge ((List.range 7).flatMap fun st => (xs 1).map fun x => chk (a st 0 x) 1 1)
/-- The hypotheses of `Obligations.BndRecords`, clause by clause, can be met. -/
theorem test_hyps_BndRecords_0 :
    (∃ (s : State) (c : Fin 4) (p : Quad), (s.mute = false) ∧ (let i := c.val; let q := 0x840 + 16 * i; let x := s.bndC i; let st := s.bst i; let due := fun (k op : Nat) => x.recs.map (fun r => (r.q, r.op, r.p)) = [(k, op, p)]; (st ≠ bOFF) ∧ (due 0 0x10))) ∧
    (∃ (s : State) (c : Fin 4) (p : Quad), (s.mute = false) ∧ (let i := c.val; let q := 0x840 + 16 * i; let x := s.bndC i; let st := s.bst i; let due := fun (k op : Nat) => x.recs.map (fun r => (r.q, r.op, r.p)) = [(k, op, p)]; (st ≠ bOFF) ∧ (due 0 0x11) ∧ (bndAccepts 0 0x11 p = true))) ∧
    (∃ (s : State) (c : Fin 4) (p : Quad), (s.mute = false) ∧ (let i := c.val; let q := 0x840 + 16 * i; let x := s.bndC i; let st := s.bst i; let due := fun (k op : Nat) => x.recs.map (fun r => (r.q, r.op, r.p)) = [(k, op, p)]; (st ≠ bOFF) ∧ (due 0 0x12) ∧ (bndAccepts 0 0x12 p = true))) ∧
    (∃ (s : State) (c : Fin 4) (p : Quad), (s.mute = false) ∧ (let i := c.val; let q := 0x840 + 16 * i; let x := s.bndC i; let st := s.bst i; let due := fun (k op : Nat) => x.recs.map (fun r => (r.q, r.op, r.p)) = [(k, op, p)]; let fit := s.vdcStands i = false ∧ s.angStands i = false ∧ x.npOut = false; (due 0 0x13) ∧ (p.b 0 = 1) ∧ (st = bIDLE) ∧ (x.waitZero = false) ∧ (s.bmode i = 1) ∧ fit)) ∧
    (∃ (s : State) (c : Fin 4) (p : Quad), (s.mute = false) ∧ (let i := c.val; let q := 0x840 + 16 * i; let x := s.bndC i; let st := s.bst i; let due := fun (k op : Nat) => x.recs.map (fun r => (r.q, r.op, r.p)) = [(k, op, p)]; (due 0 0x13) ∧ (p.b 0 = 1) ∧ (st = bIDLE) ∧ (s.bmode i ≠ 1))) ∧
    (∃ (s : State) (c : Fin 4) (p : Quad), (s.mute = false) ∧ (let i := c.val; let q := 0x840 + 16 * i; let x := s.bndC i; let st := s.bst i; let due := fun (k op : Nat) => x.recs.map (fun r => (r.q, r.op, r.p)) = [(k, op, p)]; (due 0 0x13) ∧ (p.b 0 = 1) ∧ (st = bHALTED))) :=
  ⟨⟨(L0[32]'(by decide +kernel)).1, (L0[32]'(by decide +kernel)).2.1, (L0[32]'(by decide +kernel)).2.2, by decide +kernel⟩,
    ⟨(L0[33]'(by decide +kernel)).1, (L0[33]'(by decide +kernel)).2.1, (L0[33]'(by decide +kernel)).2.2, by decide +kernel⟩,
    ⟨(L0[34]'(by decide +kernel)).1, (L0[34]'(by decide +kernel)).2.1, (L0[34]'(by decide +kernel)).2.2, by decide +kernel⟩,
    ⟨(L0[45]'(by decide +kernel)).1, (L0[45]'(by decide +kernel)).2.1, (L0[45]'(by decide +kernel)).2.2, by decide +kernel⟩,
    ⟨(L1[15]'(by decide +kernel)).1, (L1[15]'(by decide +kernel)).2.1, (L1[15]'(by decide +kernel)).2.2, by decide +kernel⟩,
    ⟨(L0[195]'(by decide +kernel)).1, (L0[195]'(by decide +kernel)).2.1, (L0[195]'(by decide +kernel)).2.2, by decide +kernel⟩⟩
/-- Further clauses of `Obligations.BndRecords`. -/
theorem test_hyps_BndRecords_1 :
    (∃ (s : State) (c : Fin 4) (p : Quad), (s.mute = false) ∧ (let i := c.val; let q := 0x840 + 16 * i; let x := s.bndC i; let due := fun (k op : Nat) => x.recs.map (fun r => (r.q, r.op, r.p)) = [(k, op, p)]; (due 0 0x13) ∧ (p.b 0 = 0) ∧ (s.bRun i = true))) ∧
    (∃ (s : State) (c : Fin 4) (p : Quad), (s.mute = false) ∧ (let i := c.val; let q := 0x840 + 16 * i; let x := s.bndC i; let st := s.bst i; let due := fun (k op : Nat) => x.recs.map (fun r => (r.q, r.op, r.p)) = [(k, op, p)]; (due 0 0x13) ∧ (p.b 0 = 0) ∧ (st = bIDLE))) ∧
    (∃ (s : State) (c : Fin 4) (p : Quad), (s.mute = false) ∧ (let i := c.val; let q := 0x840 + 16 * i; let x := s.bndC i; let st := s.bst i; let due := fun (k op : Nat) => x.recs.map (fun r => (r.q, r.op, r.p)) = [(k, op, p)]; (due 0 0x13) ∧ (p.b 0 = 0) ∧ (st = bHALTED) ∧ (s.bCause i = true))) ∧
    (∃ (s : State) (c : Fin 4) (p : Quad), (s.mute = false) ∧ (let i := c.val; let q := 0x840 + 16 * i; let x := s.bndC i; let st := s.bst i; let due := fun (k op : Nat) => x.recs.map (fun r => (r.q, r.op, r.p)) = [(k, op, p)]; (due 0 0x13) ∧ (p.b 0 = 0) ∧ (st = bHALTED) ∧ (s.bCause i = false))) ∧
    (∃ (s : State) (c : Fin 4) (p : Quad), (s.mute = false) ∧ (let i := c.val; let q := 0x840 + 16 * i; let x := s.bndC i; let st := s.bst i; let due := fun (k op : Nat) => x.recs.map (fun r => (r.q, r.op, r.p)) = [(k, op, p)]; (st ≠ bOFF) ∧ (due 1 0x10))) ∧
    (∃ (s : State) (c : Fin 4) (p : Quad), (s.mute = false) ∧ (let i := c.val; let q := 0x840 + 16 * i; let x := s.bndC i; let st := s.bst i; let due := fun (k op : Nat) => x.recs.map (fun r => (r.q, r.op, r.p)) = [(k, op, p)]; (st ≠ bOFF) ∧ (due 2 0x10))) :=
  ⟨⟨(L0[65]'(by decide +kernel)).1, (L0[65]'(by decide +kernel)).2.1, (L0[65]'(by decide +kernel)).2.2, by decide +kernel⟩,
    ⟨(L0[35]'(by decide +kernel)).1, (L0[35]'(by decide +kernel)).2.1, (L0[35]'(by decide +kernel)).2.2, by decide +kernel⟩,
    ⟨(L0[186]'(by decide +kernel)).1, (L0[186]'(by decide +kernel)).2.1, (L0[186]'(by decide +kernel)).2.2, by decide +kernel⟩,
    ⟨(L0[185]'(by decide +kernel)).1, (L0[185]'(by decide +kernel)).2.1, (L0[185]'(by decide +kernel)).2.2, by decide +kernel⟩,
    ⟨(L0[37]'(by decide +kernel)).1, (L0[37]'(by decide +kernel)).2.1, (L0[37]'(by decide +kernel)).2.2, by decide +kernel⟩,
    ⟨(L0[38]'(by decide +kernel)).1, (L0[38]'(by decide +kernel)).2.1, (L0[38]'(by decide +kernel)).2.2, by decide +kernel⟩⟩
/-- Further clauses of `Obligations.BndRecords`. -/
theorem test_hyps_BndRecords_2 :
    (∃ (s : State) (c : Fin 4) (p : Quad), (s.mute = false) ∧ (let i := c.val; let q := 0x840 + 16 * i; let x := s.bndC i; let st := s.bst i; let due := fun (k op : Nat) => x.recs.map (fun r => (r.q, r.op, r.p)) = [(k, op, p)]; (st ≠ bOFF) ∧ (due 2 0x11))) ∧
    (∃ (s : State) (c : Fin 4), (s.mute = false) ∧ (let i := c.val; let x := s.bndC i; (x.edges = []))) :=
  ⟨⟨(L0[39]'(by decide +kernel)).1, (L0[39]'(by decide +kernel)).2.1, (L0[39]'(by decide +kernel)).2.2, by decide +kernel⟩,
    ⟨(L0[32]'(by decide +kernel)).1, (L0[32]'(by decide +kernel)).2.1, by decide +kernel⟩⟩
end Sys2Proof.Tests.W72

namespace Sys2Proof.Tests.W73
def b0 : State := (State.reset.setF fPWR_STATUS_STATE psRUN) |>.setF (fBND_BASE_I_BASE 1) 300 |>.setF (fBND_BASE_V_BASE 1) 800 |>.setF (fBND_WBASE_W_BASE 1) 3000 |>.setF (fBND_LIMITS_IMAX 1) 30000 |>.setF (fHK_THROTTLE_STEP 1) 16 |>.setF (fBND_MACH_L_SIGMA 1) 2000 |>.setF (fEDG_LEG_CFG_TYPE 2) 1 |>.setF (fEDG_LEG_CFG_CELL 2) 1 |>.setF (fEDG_LEG_CFG_BASE 2) 4 |>.setF (fBND_LR_CFG_LR_STEP 1) 100 |>.setF (fBND_STATUS_STATE 2) 3 |>.setF (fEDG_LEG_CFG_CAR_EN 2) 1 |>.setF (fEDG_LEG_CFG_CAR 2) 3 |>.setF (fEDG_CAR_STATUS_ST 3) 1 |>.wrN (rEDG_CAR_PERIOD 3) 10000 |>.setF (fEDG_LEG_STATUS_OUT 2) 1 |>.wrN (rBND_CNT_STEPS 1) 3000
def lr0 : LrStep := { t0 := 5, i0d := 1, i0q := 2, ud := 1, uq := 0, mag := 500, tmin := 700, bound := true, left := true, run := true }
def a (st m ang h np : Nat) (x : BndCell) : State := ((((((b0.setF (fBND_STATUS_STATE 1) st).setF (fBND_STATUS_MODE 1) m).setBnd 1 x).setF (fBND_SRC_ANG_SRC 1) ang).setF (fPOS_HALL_STATUS_STATE 0) h).setF (fBND_CFG_TOPO 1) np).setF (fBND_CFG_FW_EN 1) ang |>.setF (fBND_CFG_ADAPT_EN 1) ang |>.setF (fBND_ADAPT_H_MIN 1) 50 |>.setF (fBND_ADAPT_H_MAX 1) 500 |>.setF (fEDG_LEG_STATUS_TSTATE 2) np|>.setF (fLE_PAR_STAGE_PARTNER 1) (if h = 3 then 7 else 255) |> fun s => { s with sns := { s.sns with good := [(0, mkEntry 0 0 (5 * np) 0 0 0 0 0)] }, edg := { s.edg with carPeak := s.edg.carPeak.put false 3 (ang == 1) } }
def xs : List BndCell := [BndCell.init, { BndCell.init with ia := 5000, waitZero := true, edges := [⟨50, 0, 2⟩, ⟨40, 0, 0⟩], resSum := 100000000, resN := 3 }, { BndCell.init with carLost := true, owed := true, lr := some lr0, resSum := 5, resN := 2, angLost := true }, { BndCell.init with npOut := true }]
abbrev T := State × Fin 4
def chk (s : State) (c : Fin 4) : List T := [(s, c)]
def merge (l : List (List T)) : List T := l.flatten
def L0 : List T := merge ([0,1,2,3,4,5,6].flatMap fun st => [st % 3].flatMap fun m => xs.flatMap fun x => [(0,1,0),(1,3,1),(0,3,1)].map fun (ang,h,np) => chk (a st m ang h np x) 1)
def L1 : List T := merge ((List.range 7).flatMap fun st => [0, 2].flatMap fun m => [BndCell.init, { BndCell.init with vdcLost := some (mkEntry 0 0 0 0 0 0 0 0) }].map fun x => chk (a st m 0 1 0 x) 1)
/-- The hypotheses of `Obligations.BndEvents`, clause by clause, can be met. -/
theorem test_hyps_BndEvents_0 :
    (∃ (s : State) (c : Fin 4), (s.mute = false) ∧ (let i := c.val; let st := s.bst i; (st = bOFF))) ∧
    (∃ (s : State) (c : Fin 4), (s.mute = false) ∧ (let i := c.val; (s.bRun i = true) ∧ (s.fld (fBND_SRC_ANG_SRC i) ≠ 1))) ∧
    (∃ (s : State) (c : Fin 4), (s.mute = false) ∧ (let i := c.val; let st := s.bst i; (s.bRun i = true) ∧ (st = bCARRIER ∨ st = bRESYNC))) ∧
    (∃ (s : State) (c : Fin 4), (s.mute = false) ∧ (let i := c.val; (s.bRun i = true) ∧ (s.fld (fBND_LIMITS_NP_LIM i) < (s.bDnp i).natAbs))) ∧
    (∃ (s : State) (c : Fin 4), (s.mute = false) ∧ (let i := c.val; (s.fld (fBND_SRC_ANG_SRC i) = 1))) ∧
    (∃ (s : State) (c : Fin 4), (s.mute = false) ∧ (let i := c.val; let st := s.bst i; (st = bIDLE ∨ st = bHALTED) ∧ (s.fld (fBND_SRC_ANG_SRC i) ≠ 1))) :=
  ⟨⟨(L0[0]'(by decide +kernel)).1, (L0[0]'(by decide +kernel)).2, by decide +kernel⟩,
    ⟨(L0[27]'(by decide +kernel)).1, (L0[27]'(by decide +kernel)).2, by decide +kernel⟩,
    ⟨(L0[27]'(by decide +kernel)).1, (L0[27]'(by decide +kernel)).2, by decide +kernel⟩,
    ⟨(L0[46]'(by decide +kernel)).1, (L0[46]'(by decide +kernel)).2, by decide +kernel⟩,
    ⟨(L0[46]'(by decide +kernel)).1, (L0[46]'(by decide +kernel)).2, by decide +kernel⟩,
    ⟨(L0[14]'(by decide +kernel)).1, (L0[14]'(by decide +kernel)).2, by decide +kernel⟩⟩
/-- Further clauses of `Obligations.BndEvents`. -/
theorem test_hyps_BndEvents_1 :
    (∃ (s : State) (c : Fin 4), (s.mute = false) ∧ (let i := c.val; let st := s.bst i; (st = bIDLE ∨ st = bHALTED) ∧ (s.fld (fBND_LIMITS_NP_LIM i) < (s.bDnp i).natAbs))) ∧
    (∃ (s : State) (c : Fin 4), (s.mute = false) ∧ (let i := c.val; ((s.bDnp i).natAbs ≤ s.fld (fBND_LIMITS_NP_LIM i)))) ∧
    (∃ (s : State) (c : Fin 4), (s.mute = false) ∧ (let i := c.val; let x := s.bndC i; let st := s.bst i; let calm := x.recs = [] ∧ s.vdcStands i = false ∧ s.angStands i = false ∧ s.npStands i = false; (st = bCARRIER) ∧ (s.bmode i = 2) ∧ calm ∧ (x.lr = none) ∧ ((s.fld (fBND_BANDS_H_OVR i) : Rat) * (s.fld (fBND_BANDS_H_OVR i) : Rat) < vsq (s.bandIn i).e))) ∧
    (∃ (s : State) (c : Fin 4), (s.mute = false) ∧ (let i := c.val; let x := s.bndC i; let st := s.bst i; let calm := x.recs = [] ∧ s.vdcStands i = false ∧ s.angStands i = false ∧ s.npStands i = false; (st = bCARRIER) ∧ (s.bmode i ≠ 2) ∧ calm)) ∧
    (∃ (s : State) (c : Fin 4), (s.mute = false) ∧ (let i := c.val; let x := s.bndC i; let st := s.bst i; let calm := x.recs = [] ∧ s.vdcStands i = false ∧ s.angStands i = false ∧ s.npStands i = false; (st = bOVERRIDE) ∧ calm ∧ (x.lr = none) ∧ (vsq (s.bandIn i).e ≤ (s.fld (fBND_BANDS_H_CAR i) : Rat) * (s.fld (fBND_BANDS_H_CAR i) : Rat)) ∧ (x.ovrAt + s.fld (fBND_TIMING_T_MINP i) * 2560 ≤ s.now))) ∧
    (∃ (s : State) (c : Fin 4), (s.mute = false) ∧ (let i := c.val; let x := s.bndC i; (s.bRun i = true) ∧ (x.recs = []) ∧ (s.vdcStands i = true))) :=
  ⟨⟨(L0[14]'(by decide +kernel)).1, (L0[14]'(by decide +kernel)).2, by decide +kernel⟩,
    ⟨(L0[27]'(by decide +kernel)).1, (L0[27]'(by decide +kernel)).2, by decide +kernel⟩,
    ⟨(L0[27]'(by decide +kernel)).1, (L0[27]'(by decide +kernel)).2, by decide +kernel⟩,
    ⟨(L1[8]'(by decide +kernel)).1, (L1[8]'(by decide +kernel)).2, by decide +kernel⟩,
    ⟨(L0[48]'(by decide +kernel)).1, (L0[48]'(by decide +kernel)).2, by decide +kernel⟩,
    ⟨(L1[9]'(by decide +kernel)).1, (L1[9]'(by decide +kernel)).2, by decide +kernel⟩⟩
/-- Further clauses of `Obligations.BndEvents`. -/
theorem test_hyps_BndEvents_2 :
    (∃ (s : State) (c : Fin 4), (s.mute = false) ∧ (let i := c.val; let x := s.bndC i; (s.bRun i = true) ∧ (x.recs = []) ∧ (s.vdcStands i = false) ∧ (s.angStands i = true))) ∧
    (∃ (s : State) (c : Fin 4), (s.mute = false) ∧ (let i := c.val; let x := s.bndC i; (s.bRun i = true) ∧ (x.recs = []) ∧ (s.vdcStands i = false) ∧ (s.angStands i = false) ∧ (s.npStands i = true))) ∧
    (∃ (s : State) (c : Fin 4), (s.mute = false) ∧ (let i := c.val; let st := s.bst i; (st ≠ bOFF) ∧ (s.bSwitches i ≠ 0))) ∧
    (∃ (s : State) (c : Fin 4), (s.mute = false) ∧ (let i := c.val; let st := s.bst i; (s.bRun i = false ∨ st = bCARRIER ∨ s.bVdc i = 0))) ∧
    (∃ (s : State) (c : Fin 4), (s.mute = false) ∧ (let i := c.val; let st := s.bst i; (s.bRun i = true) ∧ (st ≠ bCARRIER) ∧ (s.bVdc i ≠ 0))) ∧
    (∃ (s : State) (c : Fin 4), (s.mute = false) ∧ (let i := c.val; let x := s.bndC i; (x.resN = 0))) :=
  ⟨⟨(L0[30]'(by decide +kernel)).1, (L0[30]'(by decide +kernel)).2, by decide +kernel⟩,
    ⟨(L0[46]'(by decide +kernel)).1, (L0[46]'(by decide +kernel)).2, by decide +kernel⟩,
    ⟨(L0[27]'(by decide +kernel)).1, (L0[27]'(by decide +kernel)).2, by decide +kernel⟩,
    ⟨(L0[27]'(by decide +kernel)).1, (L0[27]'(by decide +kernel)).2, by decide +kernel⟩,
    ⟨(L0[46]'(by decide +kernel)).1, (L0[46]'(by decide +kernel)).2, by decide +kernel⟩,
    ⟨(L0[46]'(by decide +kernel)).1, (L0[46]'(by decide +kernel)).2, by decide +kernel⟩⟩
/-- Further clauses of `Obligations.BndEvents`. -/
theorem test_hyps_BndEvents_3 :
    (∃ (s : State) (c : Fin 4), (s.mute = false) ∧ (let i := c.val; let x := s.bndC i; let st := s.bst i; (st ≠ bOFF) ∧ (x.resN ≠ 0))) ∧
    (∃ (s : State) (c : Fin 4), (s.mute = false) ∧ (let i := c.val; (s.isProtected i = false))) ∧
    (∃ (s : State) (c : Fin 4), (s.mute = false) ∧ (let i := c.val; (s.isProtected i = true) ∧ (LegsFit s))) :=
  ⟨⟨(L0[27]'(by decide +kernel)).1, (L0[27]'(by decide +kernel)).2, by decide +kernel⟩,
    ⟨(L0[27]'(by decide +kernel)).1, (L0[27]'(by decide +kernel)).2, by decide +kernel⟩,
    ⟨(L0[46]'(by decide +kernel)).1, (L0[46]'(by decide +kernel)).2, by unfold LegsFit; decide +kernel⟩⟩
end Sys2Proof.Tests.W73

namespace Sys2Proof.Tests.W74
def b0 : State := (State.reset.setF fPWR_STATUS_STATE psRUN) |>.setF (fBND_STATUS_STATE 1) 1 |>.setF (fEDG_LEG_CFG_TYPE 2) 1 |>.setF (fEDG_LEG_CFG_CELL 2) 1 |>.setF (fEDG_LEG_CFG_BASE 2) 4 |>.setF (fGD_STATUS_STATE 4) 2 |>.setF (fGD_STATUS_STATE 5) 2 |>.setF (fAUX_STATUS_STATE 3) 3
def a (st d fly brk m k cv : Nat) (x : StCell) : State := (((((((b0.setSst 1 st).setF fBND_DCL_STATUS_DSTATE d).setF (fBND_ST_CFG_FLY_EN 1) fly).setF (fBND_ST_CFG_BRK_EN 1) brk).setF (fSI_CELL_CFG_BRK_OUT 1) (8*brk)).setF (fBND_ST_CFG_METHOD 1) m).setF (fBND_ST_STATUS_CAUSE 1) k).modSt 1 (fun _ => x) |>.wrN (rBND_ST_CMD 1) (131072 + cv)
def xs : List StCell := [StCell.init, { StCell.init with retry := true, ask := 2, judged := true, rampOn := true, rampW := 30, rampTo := 90 }]
abbrev T := State × Fin 4
def chk (s : State) (c : Fin 4) : List T := [(s, c)]
def merge (l : List (List T)) : List T := l.flatten
def L0 : List T := merge ((List.range 14).flatMap fun st => [(2,0,0),(4,1,0),(4,0,1),(4,0,0)].flatMap fun (d,fly,brk) => [(0,5,1),(2,3,2)].flatMap fun (m, k, cv) => xs.map fun x => chk (a st d fly brk m k cv x) 1)
/-- The hypotheses of `Obligations.StartCommands`, clause by clause, can be met. -/
theorem test_hyps_StartCommands_0 :
    (∃ (s : State) (c : Fin 4), (s.mute = false) ∧ (let i := c.val; let st := s.sst i; let reg := rBND_ST_CMD i; (CmdReady s reg) ∧ (st = sSTOPPED) ∧ (s.linkBusy i = true))) ∧
    (∃ (s : State) (c : Fin 4), (s.mute = false) ∧ (let i := c.val; let st := s.sst i; let reg := rBND_ST_CMD i; (CmdReady s reg) ∧ (st = sSTOPPED) ∧ (s.linkBusy i = false))) ∧
    (∃ (s : State) (c : Fin 4), (s.mute = false) ∧ (let i := c.val; let st := s.sst i; let reg := rBND_ST_CMD i; (CmdReady s reg) ∧ (st = sCHECK ∨ st = sSENSE ∨ st = sALIGN))) ∧
    (∃ (s : State) (c : Fin 4), (s.mute = false) ∧ (let i := c.val; let st := s.sst i; let reg := rBND_ST_CMD i; (CmdReady s reg) ∧ (st ∈ [sRUNNING, sCATCH, sRAMP, sHANDOVER, sPROOF]))) ∧
    (∃ (s : State) (c : Fin 4), (s.mute = false) ∧ (let i := c.val; let st := s.sst i; let reg := rBND_ST_CMD i; (CmdReady s reg) ∧ (st = sPASS))) ∧
    (∃ (s : State) (c : Fin 4), (s.mute = false) ∧ (let i := c.val; let st := s.sst i; let reg := rBND_ST_CMD i; (CmdReady s reg) ∧ (st ∈ [sOFF, sSTOPPING, sFAILED, sLOCKED]))) :=
  ⟨⟨(L0[17]'(by decide +kernel)).1, (L0[17]'(by decide +kernel)).2, by (repeat' first | apply And.intro | apply CmdReady.mk); all_goals first | decide +kernel | (intro _; rfl)⟩,
    ⟨(L0[20]'(by decide +kernel)).1, (L0[20]'(by decide +kernel)).2, by (repeat' first | apply And.intro | apply CmdReady.mk); all_goals first | decide +kernel | (intro _; rfl)⟩,
    ⟨(L0[32]'(by decide +kernel)).1, (L0[32]'(by decide +kernel)).2, by (repeat' first | apply And.intro | apply CmdReady.mk); all_goals first | decide +kernel | (intro _; rfl)⟩,
    ⟨(L0[64]'(by decide +kernel)).1, (L0[64]'(by decide +kernel)).2, by (repeat' first | apply And.intro | apply CmdReady.mk); all_goals first | decide +kernel | (intro _; rfl)⟩,
    ⟨(L0[160]'(by decide +kernel)).1, (L0[160]'(by decide +kernel)).2, by (repeat' first | apply And.intro | apply CmdReady.mk); all_goals first | decide +kernel | (intro _; rfl)⟩,
    ⟨(L0[0]'(by decide +kernel)).1, (L0[0]'(by decide +kernel)).2, by (repeat' first | apply And.intro | apply CmdReady.mk); all_goals first | decide +kernel | (intro _; rfl)⟩⟩
/-- Further clauses of `Obligations.StartCommands`. -/
theorem test_hyps_StartCommands_1 :
    (∃ (s : State) (c : Fin 4), (s.mute = false) ∧ (let i := c.val; let st := s.sst i; let reg := rBND_ST_CMD i; (CmdReady s reg) ∧ (st = sOFF ∨ st = sLOCKED))) ∧
    (∃ (s : State) (c : Fin 4), (s.mute = false) ∧ (let i := c.val; let st := s.sst i; let reg := rBND_ST_CMD i; (CmdReady s reg) ∧ (st ≠ sOFF) ∧ (st ≠ sLOCKED))) ∧
    (∃ (s : State) (c : Fin 4), (s.mute = false) ∧ (let i := c.val; let st := s.sst i; let reg := rBND_ST_CMD i; (CmdReady s reg) ∧ (st = sFAILED))) ∧
    (∃ (s : State) (c : Fin 4), (s.mute = false) ∧ (let i := c.val; let st := s.sst i; let reg := rBND_ST_CMD i; (CmdReady s reg) ∧ (st ≠ sFAILED) ∧ (st ≠ sSTOPPED))) ∧
    (∃ (s : State) (c : Fin 4), (s.mute = false) ∧ (let i := c.val; let st := s.sst i; (st ≠ sCHECK))) ∧
    (∃ (s : State) (c : Fin 4), (s.mute = false) ∧ (let i := c.val; let st := s.sst i; (st = sCHECK) ∧ (s.checkCause i ≠ 0))) :=
  ⟨⟨(L0[0]'(by decide +kernel)).1, (L0[0]'(by decide +kernel)).2, by (repeat' first | apply And.intro | apply CmdReady.mk); all_goals first | decide +kernel | (intro _; rfl)⟩,
    ⟨(L0[17]'(by decide +kernel)).1, (L0[17]'(by decide +kernel)).2, by (repeat' first | apply And.intro | apply CmdReady.mk); all_goals first | decide +kernel | (intro _; rfl)⟩,
    ⟨(L0[192]'(by decide +kernel)).1, (L0[192]'(by decide +kernel)).2, by (repeat' first | apply And.intro | apply CmdReady.mk); all_goals first | decide +kernel | (intro _; rfl)⟩,
    ⟨(L0[0]'(by decide +kernel)).1, (L0[0]'(by decide +kernel)).2, by (repeat' first | apply And.intro | apply CmdReady.mk); all_goals first | decide +kernel | (intro _; rfl)⟩,
    ⟨(L0[0]'(by decide +kernel)).1, (L0[0]'(by decide +kernel)).2, by decide +kernel⟩,
    ⟨(L0[32]'(by decide +kernel)).1, (L0[32]'(by decide +kernel)).2, by decide +kernel⟩⟩
/-- Further clauses of `Obligations.StartCommands`. -/
theorem test_hyps_StartCommands_2 :
    (∃ (s : State) (c : Fin 4), (s.mute = false) ∧ (let i := c.val; let st := s.sst i; (st = sCHECK) ∧ (s.checkCause i = 0) ∧ (s.on (fBND_ST_CFG_FLY_EN i) = true))) ∧
    (∃ (s : State) (c : Fin 4), (s.mute = false) ∧ (let i := c.val; let st := s.sst i; (st = sCHECK) ∧ (s.checkCause i = 0) ∧ (s.on (fBND_ST_CFG_FLY_EN i) = false) ∧ (s.method i = 0))) ∧
    (∃ (s : State) (c : Fin 4), (s.mute = false) ∧ (let i := c.val; let st := s.sst i; (st = sCHECK) ∧ (s.checkCause i = 0) ∧ (s.on (fBND_ST_CFG_FLY_EN i) = false) ∧ (s.method i = 2) ∧ (s.on (fBND_ST_CFG_BRK_EN i) = false))) ∧
    (∃ (s : State) (c : Fin 4), (s.mute = false) ∧ (let i := c.val; let st := s.sst i; (st = sCHECK) ∧ (s.checkCause i = 0) ∧ (s.on (fBND_ST_CFG_FLY_EN i) = false) ∧ (s.method i ≠ 0) ∧ (s.on (fBND_ST_CFG_BRK_EN i) = true))) ∧
    (∃ (s : State) (c : Fin 4), (s.mute = false) ∧ (let i := c.val; let x := s.stC i; let st := s.sst i; let k := s.fld (fBND_ST_STATUS_CAUSE i); (st ≠ sSTOPPED ∨ x.retry = false ∨ (k ≠ 5 ∧ k ≠ 6)))) ∧
    (∃ (s : State) (c : Fin 4), (s.mute = false) ∧ (let i := c.val; let x := s.stC i; let st := s.sst i; let k := s.fld (fBND_ST_STATUS_CAUSE i); (st = sSTOPPED) ∧ (x.retry = true) ∧ (k = 5 ∨ k = 6))) :=
  ⟨⟨(L0[36]'(by decide +kernel)).1, (L0[36]'(by decide +kernel)).2, by decide +kernel⟩,
    ⟨(L0[40]'(by decide +kernel)).1, (L0[40]'(by decide +kernel)).2, by decide +kernel⟩,
    ⟨(L0[46]'(by decide +kernel)).1, (L0[46]'(by decide +kernel)).2, by decide +kernel⟩,
    ⟨(L0[42]'(by decide +kernel)).1, (L0[42]'(by decide +kernel)).2, by decide +kernel⟩,
    ⟨(L0[0]'(by decide +kernel)).1, (L0[0]'(by decide +kernel)).2, by decide +kernel⟩,
    ⟨(L0[17]'(by decide +kernel)).1, (L0[17]'(by decide +kernel)).2, by decide +kernel⟩⟩
end Sys2Proof.Tests.W74

namespace Sys2Proof.Tests.W75
def b0 : State := (State.reset.setF fPWR_STATUS_STATE psRUN) |>.setF (fBND_STATUS_STATE 1) 1 |>.setF (fEDG_LEG_CFG_TYPE 2) 1 |>.setF (fEDG_LEG_CFG_CELL 2) 1 |>.setF (fEDG_LEG_CFG_BASE 2) 4 |>.setF (fBND_ST_FLY_FLY_VMIN 1) 300 |>.setF (fBND_ST_HAND_W_HAND 1) 1000 |>.setF (fBND_BASE_I_BASE 1) 300 |>.setF (fBND_BASE_V_BASE 1) 800 |>.setF (fBND_WBASE_W_BASE 1) 3000 |>.setF (fBND_ST_RAMP_RAMP_ACC 1) 33 |>.setF (fBND_ST_KE_KE_WARN 1) 200 |>.setF (fBND_ST_KE_KE_DEMAG 1) 100 |>.setF (fBND_ST_KE_KE_WRONG 1) 20
def a (st m tr brk : Nat) (th : Nat) (x : StCell) : State := ((((((b0.setSst 1 st).setF (fBND_ST_CFG_ST_TRIES 1) tr).setF (fBND_ST_CFG_BRK_EN 1) brk).setF (fSI_CELL_CFG_BRK_OUT 1) (8*brk)).setF (fBND_ST_CFG_METHOD 1) m).setF (fAUX_STATUS_STATE 3) 3).modSt 1 (fun _ => x) |>.modLe 1 (fun e => { e with vTgt := -300 }) |>.setBnd 1 { BndCell.init with angle := some (0, 5, (th : Int)) } |>.setF (fAUX_STATUS_HOLD_OK 3) 1
def b1 (s : State) (k : Nat) : State := ({ s with clk := { s.clk with count := BitVec.ofNat 64 (k * 30 * 256000000) } }.setF (fBND_ST_FLY_FLY_SYNC 1) 20 |>.setF (fBND_ST_HAND_T_HAND 1) 20 |>.setF (fBND_ST_BRAKE_I_PROOF 1) (k * 100)).setF (fBND_ST_FLY_FLY_WIN 1) 1 |>.setF (fBND_ST_STOP_W_ZERO 1) 40 |>.setF (fSNS_AN_CFG_PHASE 1) 1 |>.setF (fBND_MACH2_PSI_M 1) 2000 |>.wrN (rBND_KE_EST 1) (k * 4200 * 65536) |>.modLe 1 (fun e => { e with vTgt := if k = 1 then 5 else -300 })
def xs : List StCell := [StCell.init, { StCell.init with retry := true, ask := 2, judged := true, warnRun := 9, rampOn := true }, { StCell.init with ask := 3, brakeWait := true, warnRun := 9, demagRun := 9, rampOn := true, rampW := 30, rampTo := 30, rampTh := 1 }, { StCell.init with rampW := 3, rampTo := 30 }]
abbrev T := State × Fin 4
def chk (s : State) (c : Fin 4) : List T := [(s, c)]
def merge (l : List (List T)) : List T := l.flatten
def L0 : List T := merge ((List.range 14).flatMap fun st => [(0,0,0,0),(1,3,1,2000),(0,3,0,2000),(1,0,1,0)].flatMap fun (m,tr,brk,th) => [0,1].flatMap fun k => xs.map fun x => chk (b1 (a st m tr brk th x) k) 1)
/-- The hypotheses of `Obligations.StartSequence`, clause by clause, can be met. -/
theorem test_hyps_StartSequence_0 :
    (∃ (s : State) (c : Fin 4), (s.mute = false) ∧ (let i := c.val; let st := s.sst i; (st = sCATCH))) ∧
    (∃ (s : State) (c : Fin 4), (s.mute = false) ∧ (let i := c.val; let st := s.sst i; (st ≠ sCATCH))) ∧
    (∃ (s : State) (c : Fin 4), (s.mute = false) ∧ (let i := c.val; let st := s.sst i; (st ≠ sALIGN))) ∧
    (∃ (s : State) (c : Fin 4), (s.mute = false) ∧ (let i := c.val; let st := s.sst i; (st ≠ sHANDOVER))) ∧
    (∃ (s : State) (c : Fin 4), (s.mute = false) ∧ (let i := c.val; let st := s.sst i; (st = sALIGN))) ∧
    (∃ (s : State) (c : Fin 4), (s.mute = false) ∧ (let i := c.val; let x := s.stC i; let st := s.sst i; ((st ≠ sRAMP ∧ st ≠ sPASS) ∨ (s.ramp i).2 ≠ x.rampTo))) :=
  ⟨⟨(L0[128]'(by decide +kernel)).1, (L0[128]'(by decide +kernel)).2, by decide +kernel⟩,
    ⟨(L0[4]'(by decide +kernel)).1, (L0[4]'(by decide +kernel)).2, by decide +kernel⟩,
    ⟨(L0[4]'(by decide +kernel)).1, (L0[4]'(by decide +kernel)).2, by decide +kernel⟩,
    ⟨(L0[4]'(by decide +kernel)).1, (L0[4]'(by decide +kernel)).2, by decide +kernel⟩,
    ⟨(L0[160]'(by decide +kernel)).1, (L0[160]'(by decide +kernel)).2, by decide +kernel⟩,
    ⟨(L0[4]'(by decide +kernel)).1, (L0[4]'(by decide +kernel)).2, by decide +kernel⟩⟩
/-- Further clauses of `Obligations.StartSequence`. -/
theorem test_hyps_StartSequence_1 :
    (∃ (s : State) (c : Fin 4), (s.mute = false) ∧ (let i := c.val; let x := s.stC i; let st := s.sst i; (st = sRAMP ∨ st = sPASS) ∧ ((s.ramp i).2 = x.rampTo))) ∧
    (∃ (s : State) (c : Fin 4), (s.mute = false) ∧ (let i := c.val; let st := s.sst i; (st = sHANDOVER))) ∧
    (∃ (s : State) (c : Fin 4), (s.mute = false) ∧ (let i := c.val; let x := s.stC i; let st := s.sst i; (st ≠ sPROOF ∨ x.ask ≠ 0))) ∧
    (∃ (s : State) (c : Fin 4), (s.mute = false) ∧ (let i := c.val; let x := s.stC i; (x.since + 100 * msU < s.now ∨ s.proofIq i = false))) ∧
    (∃ (s : State) (c : Fin 4), (s.mute = false) ∧ (let i := c.val; let x := s.stC i; let st := s.sst i; (st = sPROOF) ∧ (x.ask = 0) ∧ (s.now ≤ x.since + 100 * msU) ∧ (s.proofIq i = true))) ∧
    (∃ (s : State) (c : Fin 4), (s.mute = false) ∧ (let i := c.val; let x := s.stC i; let st := s.sst i; (st ≠ sPROOF ∨ x.ask < 2))) :=
  ⟨⟨(L0[192]'(by decide +kernel)).1, (L0[192]'(by decide +kernel)).2, by decide +kernel⟩,
    ⟨(L0[224]'(by decide +kernel)).1, (L0[224]'(by decide +kernel)).2, by decide +kernel⟩,
    ⟨(L0[4]'(by decide +kernel)).1, (L0[4]'(by decide +kernel)).2, by decide +kernel⟩,
    ⟨(L0[4]'(by decide +kernel)).1, (L0[4]'(by decide +kernel)).2, by decide +kernel⟩,
    ⟨(L0[256]'(by decide +kernel)).1, (L0[256]'(by decide +kernel)).2, by decide +kernel⟩,
    ⟨(L0[4]'(by decide +kernel)).1, (L0[4]'(by decide +kernel)).2, by decide +kernel⟩⟩
/-- Further clauses of `Obligations.StartSequence`. -/
theorem test_hyps_StartSequence_2 :
    (∃ (s : State) (c : Fin 4), (s.mute = false) ∧ (let i := c.val; let x := s.stC i; let st := s.sst i; (st = sPROOF) ∧ (x.ask = 2) ∧ (s.brakesHeld i = true))) ∧
    (∃ (s : State) (c : Fin 4), (s.mute = false) ∧ (let i := c.val; let x := s.stC i; let st := s.sst i; (st = sPROOF) ∧ (x.ask = 3))) ∧
    (∃ (s : State) (c : Fin 4), (s.mute = false) ∧ (let i := c.val; let st := s.sst i; (st ≠ sSTOPPING))) ∧
    (∃ (s : State) (c : Fin 4), (s.mute = false) ∧ (let i := c.val; let st := s.sst i; (st ≠ sSTOPPING ∨ s.atRest i = false))) ∧
    (∃ (s : State) (c : Fin 4), (s.mute = false) ∧ (let i := c.val; let st := s.sst i; (st = sSTOPPING) ∧ (s.atRest i = true) ∧ (s.on (fBND_ST_CFG_BRK_EN i) = false))) ∧
    (∃ (s : State) (c : Fin 4), (s.mute = false) ∧ (let i := c.val; let st := s.sst i; (st = sSTOPPING) ∧ (s.atRest i = true) ∧ (s.on (fBND_ST_CFG_BRK_EN i) = true))) :=
  ⟨⟨(L0[257]'(by decide +kernel)).1, (L0[257]'(by decide +kernel)).2, by decide +kernel⟩,
    ⟨(L0[258]'(by decide +kernel)).1, (L0[258]'(by decide +kernel)).2, by decide +kernel⟩,
    ⟨(L0[4]'(by decide +kernel)).1, (L0[4]'(by decide +kernel)).2, by decide +kernel⟩,
    ⟨(L0[4]'(by decide +kernel)).1, (L0[4]'(by decide +kernel)).2, by decide +kernel⟩,
    ⟨(L0[352]'(by decide +kernel)).1, (L0[352]'(by decide +kernel)).2, by decide +kernel⟩,
    ⟨(L0[361]'(by decide +kernel)).1, (L0[361]'(by decide +kernel)).2, by decide +kernel⟩⟩
/-- Further clauses of `Obligations.StartSequence`. -/
theorem test_hyps_StartSequence_3 :
    (∃ (s : State) (c : Fin 4), (s.mute = false) ∧ (let i := c.val; let x := s.stC i; let st := s.sst i; (st = sSTOPPING) ∧ (x.brakeWait = true))) ∧
    (∃ (s : State) (c : Fin 4), (s.mute = false) ∧ (let i := c.val; let x := s.stC i; (s.keValid i = false ∨ x.judged = true))) ∧
    (∃ (s : State) (c : Fin 4), (s.mute = false) ∧ (let i := c.val; let x := s.stC i; (s.keValid i = true) ∧ (x.judged = false))) :=
  ⟨⟨(L0[354]'(by decide +kernel)).1, (L0[354]'(by decide +kernel)).2, by decide +kernel⟩,
    ⟨(L0[4]'(by decide +kernel)).1, (L0[4]'(by decide +kernel)).2, by decide +kernel⟩,
    ⟨(L0[296]'(by decide +kernel)).1, (L0[296]'(by decide +kernel)).2, by decide +kernel⟩⟩
end Sys2Proof.Tests.W75

namespace Sys2Proof.Tests.W76
def b0 : State := (State.reset.setF fPWR_STATUS_STATE psRUN) |>.setF fBND_DCL_CFG_PRE_AUX 3 |>.setF fBND_DCL_CFG_MAIN_AUX 9 |>.setF (fAUX_CFG_MODE 3) 2 |>.setF (fAUX_CFG_MODE 9) 1 |>.setF (fHSF_CFG_FEED_LIM 1) 3000 |>.setF (fAUX_CFG_I_HOLD 3) 500 |>.setF (fBND_DCL_PRE2_PRE_V1) 50 |>.setF (fBND_DCL_PRE_PRE_DV) 10 |>.setF (fBND_BASE_V_BASE 0) 800 |>.setF fBND_DCL_DIS_DIS_V 60
def a (d tt v ps cell : Nat) : State := (((((b0.setF fBND_DCL_STATUS_DSTATE d).setF (fHK_TEMP_CFG_TYPE 0) tt).setF fPWR_STATUS_STATE ps).setF (fBND_ST_STATUS_STATE 0) cell).setF (fAUX_STATUS_STATE 3) (if d = 1 then 0 else 3)).setF (fBND_DCL_CFG_DCL_VSRC) 1 |>.setF (fBND_DCL_CFG_CH_LEG) (if cell = 1 then 2 else 15) |>.setF (fEDG_LEG_CFG_TYPE 2) 4 |>.setF (fEDG_LEG_CFG_BASE 2) 4 |>.setF (fGD_STATUS_STATE 4) 2 |>.setF (fEDG_LEG_CFG_TYPE 3) 1 |>.setF (fEDG_LEG_CFG_BASE 3) 8 |> fun s => { s with sns := { s.sns with good := [(0, mkEntry 0 0 v 0 0 0 0 0), (1, mkEntry 0 0 4000 0 0 0 0 0)] } }
abbrev T := State
def chk (s : State) : List T := [s]
def merge (l : List (List T)) : List T := l.flatten
def L0 : List T := merge ((List.range 7).flatMap fun d => [0,1].flatMap fun tt => [0,2400,4000].flatMap fun v => [psRUN, psREADY].flatMap fun ps => [1,9].map fun cell => chk (a d tt v ps cell))
def L1 : List T := merge ((List.range 7).flatMap fun d => [0,2400].flatMap fun v => [1,9].map fun cell => chk (((((a d 1 v psRUN cell).setF (fHK_TEMP_VAL_INVALID 0) 0).setF (fHK_TEMP_VAL_VALUE 0) 0).setF (fHSF_CFG_FEED_LIM 1) 200).setF (fAUX_CFG_I_HOLD 3) 50))
/-- The hypotheses of `Obligations.DcLink`, clause by clause, can be met. -/
theorem test_hyps_DcLink_0 :
    (∃ (s : State), (s.mute = false) ∧ (let d := s.dst; let reg := rBND_DCL_CMD; let pre := s.fld fBND_DCL_CFG_PRE_AUX; let quiet := fun (n : Nat) => n < 12 ∧ (s.amode n = 2 → s.holdSum n ≤ s.fld (fHSF_CFG_FEED_LIM (n / 2))); (CmdReady s reg) ∧ (d = 1) ∧ (s.preTempOk = true) ∧ (quiet pre))) ∧
    (∃ (s : State), (s.mute = false) ∧ (let d := s.dst; let reg := rBND_DCL_CMD; (CmdReady s reg) ∧ (d = 1) ∧ (s.preTempOk = false))) ∧
    (∃ (s : State), (s.mute = false) ∧ (let d := s.dst; let reg := rBND_DCL_CMD; (CmdReady s reg) ∧ (d ≠ 1) ∧ (d ≠ 4))) ∧
    (∃ (s : State), (s.mute = false) ∧ (let d := s.dst; let reg := rBND_DCL_CMD; (CmdReady s reg) ∧ (d = 4) ∧ (s.linkIdle = true))) ∧
    (∃ (s : State), (s.mute = false) ∧ (let d := s.dst; let reg := rBND_DCL_CMD; (CmdReady s reg) ∧ (d ≠ 4 ∨ s.linkIdle = false))) ∧
    (∃ (s : State), (s.mute = false) ∧ (let d := s.dst; let reg := rBND_DCL_CMD; (CmdReady s reg) ∧ (d = 1) ∧ (s.linkLow = true))) :=
  ⟨⟨(L1[4]'(by decide +kernel)), by (repeat' first | apply And.intro | apply CmdReady.mk); all_goals first | decide +kernel | (intro _; rfl)⟩,
    ⟨(L0[24]'(by decide +kernel)), by (repeat' first | apply And.intro | apply CmdReady.mk); all_goals first | decide +kernel | (intro _; rfl)⟩,
    ⟨(L0[0]'(by decide +kernel)), by (repeat' first | apply And.intro | apply CmdReady.mk); all_goals first | decide +kernel | (intro _; rfl)⟩,
    ⟨(L0[96]'(by decide +kernel)), by (repeat' first | apply And.intro | apply CmdReady.mk); all_goals first | decide +kernel | (intro _; rfl)⟩,
    ⟨(L0[0]'(by decide +kernel)), by (repeat' first | apply And.intro | apply CmdReady.mk); all_goals first | decide +kernel | (intro _; rfl)⟩,
    ⟨(L0[24]'(by decide +kernel)), by (repeat' first | apply And.intro | apply CmdReady.mk); all_goals first | decide +kernel | (intro _; rfl)⟩⟩
/-- Further clauses of `Obligations.DcLink`. -/
theorem test_hyps_DcLink_1 :
    (∃ (s : State), (s.mute = false) ∧ (let d := s.dst; let reg := rBND_DCL_CMD; (CmdReady s reg) ∧ (d = 1) ∧ (s.linkLow = false) ∧ (s.ps = psRUN) ∧ (s.linkIdle = true) ∧ (s.chopAvail = true))) ∧
    (∃ (s : State), (s.mute = false) ∧ (let d := s.dst; let reg := rBND_DCL_CMD; (CmdReady s reg) ∧ (d ≠ 1 ∨ (s.linkLow = false ∧ (s.ps ≠ psRUN ∨ s.linkIdle = false ∨ s.chopAvail = false))))) ∧
    (∃ (s : State), (s.mute = false) ∧ (let d := s.dst; let reg := rBND_DCL_CMD; (CmdReady s reg) ∧ (d = 6))) ∧
    (∃ (s : State), (s.mute = false) ∧ (let d := s.dst; let reg := rBND_DCL_CMD; (CmdReady s reg) ∧ (d ≠ 6))) ∧
    (∃ (s : State), (s.mute = false) ∧ (let d := s.dst; let reg := rBND_DCL_CMD; (CmdReady s reg) ∧ (d = 3))) ∧
    (∃ (s : State), (s.mute = false) ∧ (let d := s.dst; let reg := rBND_DCL_CMD; (CmdReady s reg) ∧ (d ≠ 3))) :=
  ⟨⟨(L0[32]'(by decide +kernel)), by (repeat' first | apply And.intro | apply CmdReady.mk); all_goals first | decide +kernel | (intro _; rfl)⟩,
    ⟨(L0[0]'(by decide +kernel)), by (repeat' first | apply And.intro | apply CmdReady.mk); all_goals first | decide +kernel | (intro _; rfl)⟩,
    ⟨(L0[144]'(by decide +kernel)), by (repeat' first | apply And.intro | apply CmdReady.mk); all_goals first | decide +kernel | (intro _; rfl)⟩,
    ⟨(L0[0]'(by decide +kernel)), by (repeat' first | apply And.intro | apply CmdReady.mk); all_goals first | decide +kernel | (intro _; rfl)⟩,
    ⟨(L0[72]'(by decide +kernel)), by (repeat' first | apply And.intro | apply CmdReady.mk); all_goals first | decide +kernel | (intro _; rfl)⟩,
    ⟨(L0[0]'(by decide +kernel)), by (repeat' first | apply And.intro | apply CmdReady.mk); all_goals first | decide +kernel | (intro _; rfl)⟩⟩
/-- Further clauses of `Obligations.DcLink`. -/
theorem test_hyps_DcLink_2 :
    (∃ (s : State), (s.mute = false) ∧ (let d := s.dst; (d ≠ 2 ∨ (s.fld fBND_DCL_PRE2_PRE_V1 : Rat) ≤ s.dclVdc))) ∧
    (∃ (s : State), (s.mute = false) ∧ (let d := s.dst; (d = 2) ∧ (s.dclVdc < (s.fld fBND_DCL_PRE2_PRE_V1 : Rat)))) ∧
    (∃ (s : State), (s.mute = false) ∧ (let d := s.dst; (d ≠ 2 ∨ (s.fld fBND_DCL_PRE_PRE_DV : Rat) ≤ s.dclVsrc - s.dclVdc))) ∧
    (∃ (s : State), (s.mute = false) ∧ (let d := s.dst; let main := s.fld fBND_DCL_CFG_MAIN_AUX; let quiet := fun (n : Nat) => n < 12 ∧ (s.amode n = 2 → s.holdSum n ≤ s.fld (fHSF_CFG_FEED_LIM (n / 2))); (d = 2) ∧ (s.dclVsrc - s.dclVdc < (s.fld fBND_DCL_PRE_PRE_DV : Rat)) ∧ (quiet main))) ∧
    (∃ (s : State), (s.mute = false) ∧ (let d := s.dst; (d ≠ 2))) ∧
    (∃ (s : State), (s.mute = false) ∧ (let d := s.dst; (d ≠ 5 ∨ s.linkLow = false))) :=
  ⟨⟨(L0[0]'(by decide +kernel)), by decide +kernel⟩,
    ⟨(L0[48]'(by decide +kernel)), by decide +kernel⟩,
    ⟨(L0[0]'(by decide +kernel)), by decide +kernel⟩,
    ⟨(L0[56]'(by decide +kernel)), by decide +kernel⟩,
    ⟨(L0[0]'(by decide +kernel)), by decide +kernel⟩,
    ⟨(L0[0]'(by decide +kernel)), by decide +kernel⟩⟩
/-- Further clauses of `Obligations.DcLink`. -/
theorem test_hyps_DcLink_3 :
    (∃ (s : State), (s.mute = false) ∧ (let d := s.dst; (d = 5) ∧ (s.linkLow = true))) ∧
    (∃ (s : State), (s.mute = false) ∧ (let d := s.dst; (d ≠ 5))) :=
  ⟨⟨(L0[120]'(by decide +kernel)), by decide +kernel⟩,
    ⟨(L0[0]'(by decide +kernel)), by decide +kernel⟩⟩
end Sys2Proof.Tests.W76

namespace Sys2Proof.Tests.W77
def b0 : State := (State.reset.setF fPWR_STATUS_STATE psRUN) |>.setF (fHSF_CFG_FEED_LIM 1) 900 |>.setF (fAUX_CFG_I_HOLD 3) 500 |>.setF (fAUX_CFG_I_HOLD 2) 500 |>.setF (fPWR_AUX24_V) 2400 |>.setF (fSI_CELL_CFG_BRK_OUT 1) 8 |> fun s => { s with clk := { s.clk with count := 100000 } }
def a (n st md st2 tr hs : Nat) (x : AuxOut) : State := (((((b0.setF (fAUX_STATUS_STATE n) st).setF (fAUX_CFG_MODE n) md).setF (fAUX_STATUS_STATE 2) st2).setF fAUX_RETRY_CFG_TRIES tr).setF ⟨rHSF_STATUS 1, 31, 28⟩ hs).modAux n (fun _ => x)
def xs : List AuxOut := [AuxOut.init, { AuxOut.init with waiting := true, tries := [5], owed := 0x0D01 }]
abbrev T := State × Fin 12 × Fin 8
def chk (s : State) (o : Fin 12) (r : Fin 8) : List T := [(s, o, r)]
def merge (l : List (List T)) : List T := l.flatten
def L0 : List T := merge ([3, 9].flatMap fun n => (List.range 9).flatMap fun st => [(0,0,1,1),(1,3,2,0),(2,3,1,1),(2,0,2,1)].flatMap fun (md,s2,tr,hs) => xs.map fun x => chk (a n st md s2 tr hs x) (Fin.ofNat 12 n) 3)
/-- The hypotheses of `Obligations.AuxOutputs`, clause by clause, can be met. -/
theorem test_hyps_AuxOutputs_0 :
    (∃ (s : State) (o : Fin 12), (s.mute = false) ∧ (let n := o.val; let st := s.ast n; let mode := s.amode n; (CmdReady s rAUX_CMD) ∧ (mode = 0 ∨ st ≠ aOFF))) ∧
    (∃ (s : State) (o : Fin 12), (s.mute = false) ∧ (let n := o.val; let st := s.ast n; let mode := s.amode n; (CmdReady s rAUX_CMD) ∧ (mode ≠ 0) ∧ (st = aOFF))) ∧
    (∃ (s : State) (o : Fin 12), (s.mute = false) ∧ (let n := o.val; let mode := s.amode n; (CmdReady s rAUX_CMD) ∧ (mode = 0))) ∧
    (∃ (s : State) (o : Fin 12), (s.mute = false) ∧ (let n := o.val; let st := s.ast n; (CmdReady s rAUX_CMD) ∧ (st = aRETIRED))) ∧
    (∃ (s : State) (o : Fin 12), (s.mute = false) ∧ (let n := o.val; let st := s.ast n; (CmdReady s rAUX_CMD) ∧ (st ≠ aRETIRED) ∧ (st ≠ aLATCHED))) ∧
    (∃ (s : State) (o : Fin 12), (s.mute = false) ∧ (let n := o.val; let st := s.ast n; (CmdReady s rAUX_CMD) ∧ (st = aLATCHED))) :=
  ⟨⟨(L0[0]'(by decide +kernel)).1, (L0[0]'(by decide +kernel)).2.1, by (repeat' first | apply And.intro | apply CmdReady.mk); all_goals first | decide +kernel | (intro _; rfl)⟩,
    ⟨(L0[2]'(by decide +kernel)).1, (L0[2]'(by decide +kernel)).2.1, by (repeat' first | apply And.intro | apply CmdReady.mk); all_goals first | decide +kernel | (intro _; rfl)⟩,
    ⟨(L0[0]'(by decide +kernel)).1, (L0[0]'(by decide +kernel)).2.1, by (repeat' first | apply And.intro | apply CmdReady.mk); all_goals first | decide +kernel | (intro _; rfl)⟩,
    ⟨(L0[64]'(by decide +kernel)).1, (L0[64]'(by decide +kernel)).2.1, by (repeat' first | apply And.intro | apply CmdReady.mk); all_goals first | decide +kernel | (intro _; rfl)⟩,
    ⟨(L0[0]'(by decide +kernel)).1, (L0[0]'(by decide +kernel)).2.1, by (repeat' first | apply And.intro | apply CmdReady.mk); all_goals first | decide +kernel | (intro _; rfl)⟩,
    ⟨(L0[49]'(by decide +kernel)).1, (L0[49]'(by decide +kernel)).2.1, by (repeat' first | apply And.intro | apply CmdReady.mk); all_goals first | decide +kernel | (intro _; rfl)⟩⟩
/-- Further clauses of `Obligations.AuxOutputs`. -/
theorem test_hyps_AuxOutputs_1 :
    (∃ (s : State) (r : Fin 8), (s.mute = false) ∧ (let m := r.val; (s.mayPull m = false))) ∧
    (∃ (s : State) (r : Fin 8), (s.mute = false) ∧ (let m := r.val; (s.mayPull m = true))) ∧
    (∃ (s : State) (r : Fin 8), (s.mute = false) ∧ (let m := r.val; (s.ast m ≠ aPULLIN))) ∧
    (∃ (s : State) (r : Fin 8), (s.mute = false) ∧ (let m := r.val; (s.ast m = aPULLIN))) ∧
    (∃ (s : State) (o : Fin 12), (s.mute = false) ∧ (let n := o.val; let st := s.ast n; let x := s.auxO n; (st ≠ aLATCHED ∨ x.waiting = false))) ∧
    (∃ (s : State) (o : Fin 12), (s.mute = false) ∧ (let n := o.val; let st := s.ast n; let x := s.auxO n; (st = aLATCHED) ∧ (x.waiting = true))) :=
  ⟨⟨(L0[0]'(by decide +kernel)).1, (L0[0]'(by decide +kernel)).2.2, by decide +kernel⟩,
    ⟨(L0[8]'(by decide +kernel)).1, (L0[8]'(by decide +kernel)).2.2, by decide +kernel⟩,
    ⟨(L0[0]'(by decide +kernel)).1, (L0[0]'(by decide +kernel)).2.2, by decide +kernel⟩,
    ⟨(L0[16]'(by decide +kernel)).1, (L0[16]'(by decide +kernel)).2.2, by decide +kernel⟩,
    ⟨(L0[0]'(by decide +kernel)).1, (L0[0]'(by decide +kernel)).2.1, by decide +kernel⟩,
    ⟨(L0[49]'(by decide +kernel)).1, (L0[49]'(by decide +kernel)).2.1, by decide +kernel⟩⟩
end Sys2Proof.Tests.W77

namespace Sys2Proof.Tests.W78
def b0 : State := ((List.range 5).foldl (fun s i => s.setF (fLE_STATUS_STATE i) 1) (State.reset.setF fPWR_STATUS_STATE psRUN))
def a (st n ps role lead tab sw act : Nat) : State := (((((((b0.setEst n st).setF (fLE_PAR_STATUS_PSTATE (b0.leCell n)) ps).setF (fLE_PAR_CFG_ROLE (b0.leCell n)) role).setF (fLE_CFG_LEAD n) lead).setF (fLE_STATUS_TAB_BANK n) tab).setF (fLE_PAR_ACTIVE_ACT (b0.leCell n)) act).modLe n (fun e => { e with swap := sw, y := [(2, 5)] })).setF (fLE_PAR_MEMBER_MBURGEE (b0.leCell n) 0) b0.own |>.setF (fLE_PAR_MEMBER_MCELL (b0.leCell n) 0) (b0.leCell n) |>.setF (fLE_PAR_MEMBER_MBURGEE (b0.leCell n) 1) 5 |>.setF (fLE_PAR_MEMBER_MCELL (b0.leCell n) 1) 2 |>.setF (fLE_PAR_STATUS_SAMPLE (b0.leCell n)) 7
def ps : List Quad := [0x0007010105#128, 0x0007FFFF05#128]
abbrev T := State × Fin 5 × Quad × Time
def chk (s : State) (n : Fin 5) (p : Quad) (l : Time) : List T := [(s, n, p, l)]
def merge (l : List (List T)) : List T := l.flatten
def L0 : List T := merge ([1,2,4].flatMap fun st => [(0, 0, 0), (0, 1, 1), (3, 2, 0), (2, 1, 1), (0, 1, 0)].flatMap fun (pst, ro, le) => [0,1].flatMap fun tab => [0,2].flatMap fun sw => ps.map fun p => chk (a st 1 pst ro le tab sw 3) 1 p 1234)
def L1 : List T := merge ([0,1,2,3,4].flatMap fun st => [(0,0),(1,1)].flatMap fun (ro, le) => [0x0007010101#128, 0x0009010100#128, 0x0300000000000000000000000005#128, 0x030000000000000000000B000002#128].map fun p => chk (a st 1 0 ro le 0 0 3) 1 p 1234)
/-- The hypotheses of `Obligations.LeRecords`, clause by clause, can be met. -/
theorem test_hyps_LeRecords_0 :
    (∃ (s : State) (n : Fin 5), (s.mute = false) ∧ (let i := n.val; let c := s.leCell i; let on := s.est i = eIDLE ∨ s.est i = eRUNNING; (s.role c ≠ 1 ∨ s.on (fLE_CFG_LEAD i) = false))) ∧
    (∃ (s : State) (n : Fin 5), (s.mute = false) ∧ (let i := n.val; let c := s.leCell i; let on := s.est i = eIDLE ∨ s.est i = eRUNNING; (s.role c = 1) ∧ (s.on (fLE_CFG_LEAD i) = true))) ∧
    (∃ (s : State) (n : Fin 5) (p : Quad), (s.mute = false) ∧ (let i := n.val; let on := s.est i = eIDLE ∨ s.est i = eRUNNING; on ∧ (p.b 0 ≠ 1))) ∧
    (∃ (s : State) (n : Fin 5) (p : Quad), (s.mute = false) ∧ (let i := n.val; (s.est i = eRUNNING) ∧ (p.b 0 = 1))) ∧
    (∃ (s : State) (n : Fin 5) (p : Quad), (s.mute = false) ∧ (let i := n.val; (s.est i = eIDLE) ∧ (p.b 0 = 1))) ∧
    (∃ (s : State) (n : Fin 5) (p : Quad), (s.mute = false) ∧ (let i := n.val; let on := s.est i = eIDLE ∨ s.est i = eRUNNING; on ∧ (p.b 13 % 4 ≠ 0))) :=
  ⟨⟨(L0[0]'(by decide +kernel)).1, (L0[0]'(by decide +kernel)).2.1, by decide +kernel⟩,
    ⟨(L1[14]'(by decide +kernel)).1, (L1[14]'(by decide +kernel)).2.1, by decide +kernel⟩,
    ⟨(L0[0]'(by decide +kernel)).1, (L0[0]'(by decide +kernel)).2.1, (L0[0]'(by decide +kernel)).2.2.1, by decide +kernel⟩,
    ⟨(L1[16]'(by decide +kernel)).1, (L1[16]'(by decide +kernel)).2.1, (L1[16]'(by decide +kernel)).2.2.1, by decide +kernel⟩,
    ⟨(L1[8]'(by decide +kernel)).1, (L1[8]'(by decide +kernel)).2.1, (L1[8]'(by decide +kernel)).2.2.1, by decide +kernel⟩,
    ⟨(L1[14]'(by decide +kernel)).1, (L1[14]'(by decide +kernel)).2.1, (L1[14]'(by decide +kernel)).2.2.1, by decide +kernel⟩⟩
/-- Further clauses of `Obligations.LeRecords`. -/
theorem test_hyps_LeRecords_1 :
    (∃ (s : State) (n : Fin 5) (p : Quad), (s.mute = false) ∧ (let i := n.val; let on := s.est i = eIDLE ∨ s.est i = eRUNNING; on ∧ (p.b 13 % 4 = 0))) ∧
    (∃ (s : State) (p : Quad), (s.mute = false) ∧ (6 < p.b 0 ∨ 1 < p.b 1 ∨ 1 < p.b 2 ∨ 32767 < p.h 3 ∨ 8 < p.b 5)) ∧
    (∃ (s : State) (n : Fin 5) (p : Quad), (s.mute = false) ∧ (let i := n.val; (p.b 0 ≤ 6) ∧ (p.b 1 ≤ 1) ∧ (p.b 2 ≤ 1) ∧ (p.h 3 ≤ 32767) ∧ (p.b 5 ≤ 8) ∧ (p.b 2 = s.bankNext i))) ∧
    (∃ (s : State) (n : Fin 5) (p : Quad), (s.mute = false) ∧ (let i := n.val; (p.b 0 ≤ 6) ∧ (p.b 1 ≤ 1) ∧ (p.b 2 ≤ 1) ∧ (p.h 3 ≤ 32767) ∧ (p.b 5 ≤ 8) ∧ (p.b 2 ≠ s.bankNext i))) ∧
    (∃ (s : State) (p : Quad), (s.mute = false) ∧ (p.b 1 = 0 ∨ 6 < p.b 1 ∨ 4096 < p.h 2 + p.b 1)) ∧
    (∃ (s : State) (p : Quad), (s.mute = false) ∧ (p.b 1 ≠ 0) ∧ (p.b 1 ≤ 6) ∧ (p.h 2 + p.b 1 ≤ 4096)) :=
  ⟨⟨(L0[0]'(by decide +kernel)).1, (L0[0]'(by decide +kernel)).2.1, (L0[0]'(by decide +kernel)).2.2.1, by decide +kernel⟩,
    ⟨(L0[17]'(by decide +kernel)).1, (L0[17]'(by decide +kernel)).2.2.1, by decide +kernel⟩,
    ⟨(L1[14]'(by decide +kernel)).1, (L1[14]'(by decide +kernel)).2.1, (L1[14]'(by decide +kernel)).2.2.1, by decide +kernel⟩,
    ⟨(L0[0]'(by decide +kernel)).1, (L0[0]'(by decide +kernel)).2.1, (L0[0]'(by decide +kernel)).2.2.1, by decide +kernel⟩,
    ⟨(L1[14]'(by decide +kernel)).1, (L1[14]'(by decide +kernel)).2.2.1, by decide +kernel⟩,
    ⟨(L0[0]'(by decide +kernel)).1, (L0[0]'(by decide +kernel)).2.2.1, by decide +kernel⟩⟩
/-- Further clauses of `Obligations.LeRecords`. -/
theorem test_hyps_LeRecords_2 :
    (∃ (s : State) (n : Fin 5), (s.mute = false) ∧ (let i := n.val; let c := s.leCell i; let on := s.est i = eIDLE ∨ s.est i = eRUNNING; on ∧ (s.pstate c = 3) ∧ ((s.parC c).rejoin = false))) ∧
    (∃ (s : State) (n : Fin 5), (s.mute = false) ∧ (let i := n.val; let c := s.leCell i; let on := s.est i = eIDLE ∨ s.est i = eRUNNING; on ∧ (s.pstate c ≠ 3 ∨ (s.parC c).rejoin = true))) ∧
    (∃ (s : State) (n : Fin 5), (s.mute = false) ∧ (let i := n.val; let on := s.est i = eIDLE ∨ s.est i = eRUNNING; on ∧ (s.on (fLE_CFG_LEAD i) = false))) ∧
    (∃ (s : State) (n : Fin 5) (p : Quad), (s.mute = false) ∧ (let i := n.val; let c := s.leCell i; let on := s.est i = eIDLE ∨ s.est i = eRUNNING; on ∧ (s.on (fLE_CFG_LEAD i) = true) ∧ (p.h 3 ≠ s.fld (fLE_PAR_STATUS_SAMPLE c)))) :=
  ⟨⟨(L0[17]'(by decide +kernel)).1, (L0[17]'(by decide +kernel)).2.1, by decide +kernel⟩,
    ⟨(L0[0]'(by decide +kernel)).1, (L0[0]'(by decide +kernel)).2.1, by decide +kernel⟩,
    ⟨(L0[0]'(by decide +kernel)).1, (L0[0]'(by decide +kernel)).2.1, by decide +kernel⟩,
    ⟨(L1[14]'(by decide +kernel)).1, (L1[14]'(by decide +kernel)).2.1, (L1[14]'(by decide +kernel)).2.2.1, by decide +kernel⟩⟩
end Sys2Proof.Tests.W78

namespace Sys2Proof.Tests.W79
def b0 : State := ((List.range 5).foldl (fun s i => s.setF (fLE_STATUS_STATE i) 1) ((State.reset.setF fPWR_STATUS_STATE psRUN).setF (fBND_STATUS_STATE 1) 3)) |> fun s => { s with clk := { s.clk with counting := true, count := 10000000 } }
def a (st n md b4 bs role act ps : Nat) (x : LeEng) : State := ((((((((b0.setEst n st).setEst 4 b4).setF (fLE_STATUS_MODE n) md).setF (fLE_TIMING_T_S n) 50).setF (fLE_TIMING_OUT_DELAY n) 5).setF (fBND_STATUS_STATE 1) bs).setF (fLE_PAR_CFG_ROLE 1) role).setF (fLE_CFG_LEAD n) role).modLe n (fun _ => x) |>.setF (fLE_PAR_ACTIVE_ACT 1) act |>.setF (fPWR_STATUS_STATE) ps |>.setF (fLE_PAR_MEMBER_MBURGEE 1 0) b0.own |>.setF (fLE_PAR_MEMBER_MCELL 1 0) 1 |>.setF (fLE_PAR_MEMBER_MBURGEE 1 1) 5 |>.setF (fLE_KTI_KTI_M n) 3000 |>.setF (fLE_PAR_STAGE_PARTNER 1) (if act = 0 then 255 else 4)
def xs : List LeEng := [{ LeEng.init with k := 3, trq := 500, swap := 2, modeNext := 3, tab := 1, fbSpd := -500 }, { LeEng.init with k := 3000000 }, { LeEng.init with k := 1, share := 900, fbSpd := 300, vTgt := 77 }]
def ws : List State := ([1,2,4].flatMap fun st => [0,1,2,3].flatMap fun md => [(3, psRUN), (3, 5), (1, psRUN)].flatMap fun (b4, ps) => [1, 3].flatMap fun bs => [(1, 3), (0, 0)].flatMap fun (ro, act) => xs.map fun x => a st 1 md b4 bs ro act ps x)
abbrev T := State × Fin 5
def chk (s : State) (n : Fin 5) : List T := [(s, n)]
def merge (l : List (List T)) : List T := l.flatten
def L0 : List T := merge (ws.map fun s => chk s 1)
def L2 : List T := merge ([0,3,4].flatMap fun st => xs.map fun x => chk (a st 1 1 3 1 0 0 psRUN x) 1)
/-- The hypotheses of `Obligations.LeSamples`, clause by clause, can be met. -/
theorem test_hyps_LeSamples_0 :
    (∃ (s : State) (n : Fin 5), (s.mute = false) ∧ (let i := n.val; let due := s.clk.counting = true ∧ s.nextSample i ≤ s.now; (¬ due))) ∧
    (∃ (s : State) (n : Fin 5), (s.mute = false) ∧ (let i := n.val; (s.est i ∉ [eIDLE, eRUNNING, eFAILED]))) ∧
    (∃ (s : State) (n : Fin 5), (s.mute = false) ∧ (let i := n.val; let due := s.clk.counting = true ∧ s.nextSample i ≤ s.now; due ∧ (s.est i = eIDLE ∨ s.est i = eRUNNING))) ∧
    (∃ (s : State) (n : Fin 5), (s.mute = false) ∧ (let i := n.val; (s.est i ≠ eIDLE) ∧ (s.est i ≠ eRUNNING))) ∧
    (∃ (s : State) (n : Fin 5), (s.mute = false) ∧ (let i := n.val; let c := s.leCell i; (s.est i = eIDLE ∨ s.est i = eRUNNING) ∧ (i = 4 ∨ s.est 4 ≠ eSPARE ∨ s.inBiv = true) ∧ (s.isProtected c = false))) ∧
    (∃ (s : State) (n : Fin 5), (s.mute = false) ∧ (let i := n.val; (s.est i = eIDLE ∨ s.est i = eRUNNING) ∧ (i < 4) ∧ (s.est 4 = eSPARE) ∧ (s.inBiv = false) ∧ (Safe s))) :=
  ⟨⟨(L2[1]'(by decide +kernel)).1, (L2[1]'(by decide +kernel)).2, by decide +kernel⟩,
    ⟨(L2[1]'(by decide +kernel)).1, (L2[1]'(by decide +kernel)).2, by decide +kernel⟩,
    ⟨(L0[0]'(by decide +kernel)).1, (L0[0]'(by decide +kernel)).2, by decide +kernel⟩,
    ⟨(L2[1]'(by decide +kernel)).1, (L2[1]'(by decide +kernel)).2, by decide +kernel⟩,
    ⟨(L0[15]'(by decide +kernel)).1, (L0[15]'(by decide +kernel)).2, by decide +kernel⟩,
    ⟨(L0[0]'(by decide +kernel)).1, (L0[0]'(by decide +kernel)).2, by unfold Safe; decide +kernel⟩⟩
/-- Further clauses of `Obligations.LeSamples`. -/
theorem test_hyps_LeSamples_1 :
    (∃ (s : State), (s.mute = false) ∧ (s.le.resume = none)) :=
  ⟨(L2[1]'(by decide +kernel)).1, by decide +kernel⟩
end Sys2Proof.Tests.W79

namespace Sys2Proof.Tests.W80
def b0 : State := (State.reset.setF fPWR_STATUS_STATE psRUN) |> fun s => { s with clk := { s.clk with counting := true, count := 10000000000 }, hq := { s.hq with loaded := true } }
def a (role pst ps cmd act : Nat) (ms : List (Nat × Member)) : State := (((((((b0.setF (fLE_PAR_CFG_ROLE 1) role).setF (fLE_PAR_STATUS_PSTATE 1) pst).setF fPWR_STATUS_STATE ps).wrN (rLE_PAR_CMD 1) cmd).setF (fLE_PAR_ACTIVE_ACT 1) act).setF (fLE_PAR_CFG_MACHINE 1) 9).setF (fLE_PAR_TIMING_SHARE_TMO 1) 4) |>.setF (fLE_PAR_MEMBER_MBURGEE 1 0) b0.own |>.setF (fLE_PAR_MEMBER_MCELL 1 0) 1 |>.setF (fLE_PAR_MEMBER_MBURGEE 1 1) 5 |>.setF (fLE_PAR_MEMBER_MCELL 1 1) 2 |>.setF (fLE_PAR_MEMBER_MBURGEE 1 2) 6 |>.setF (fLE_PAR_MEMBER_SHARE_MAX 1 2) 128 |> (fun s => [3,4,5,6,7].foldl (fun s j => s.setF (fLE_PAR_MEMBER_MBURGEE 1 j) 255) s) |>.modPar 1 (fun q => { q with mem := ms, silent := 7, lead := 5 }) |>.setF (fLE_PAR_CFG_MACHINE 0) 3 |>.setF (fLE_PAR_CFG_MACHINE 2) 3 |>.setF (fLE_PAR_CFG_MACHINE 3) 3 |>.setF (fLE_TIMING_T_S 1) 300 |>.setF (fLE_PAR_TIMING_SHARE_DELAY 1) 500 |>.setF (fHQ_CFG_GUARD) 1 |>.set1 fHAL_STATUS_RUN_TIME_OK
def mss : List (List (Nat × Member)) := [[], [(1, { Member.init with gen := 4, tq := -77 }), (2, { Member.init with gen := 65535, droop := true, tq := -99, pst := 3 })]]
def st : List State := [1,2].flatMap fun role => [(1, psRUN, 0), (2, psRUN, 0x30002), (3, psRUN, 0), (2, 5, 0), (2, psREADY, 0)].flatMap fun (pst, ps, cmd) => [1, 7].flatMap fun act => mss.map fun m => a role pst ps cmd act m
def dg : Nat := (a 1 1 psRUN 0 1 []).machineDigest 1
def pa (cell pst dgx off : Nat) : Quad := BitVec.ofNat 128 (9 + cell * 256 + pst * 65536 + 3 * 2^24 + 0x9999 * 2^40 + dgx * 2^56 + off * 2^88)
def recs : List Rec := ([pa 2 1 dg 5100, pa 0 1 dg 5100, pa 0 3 dg 5100, pa 0 1 5 5100, pa 1 1 dg 77, 0x00_0004_0109#128, 0x05_0004_0109#128, 0x00_0004_0108#128].flatMap fun p => [5, 6].map fun b => { time := 9999999000, target := 1, src := BitVec.ofNat 8 b, opcode := 0x10, flags := 1, gtag := 0, gen := 0, payload := p, seq := 0, crc := 0 })
abbrev T := State × Fin 4 × Fin 8 × Quad × Rec × BitVec 8
def chk (s : State) (c : Fin 4) (j : Fin 8) (p : Quad) (r : Rec) (ok : BitVec 8) : List T := [(s, c, j, p, r, ok)]
def merge (l : List (List T)) : List T := l.flatten
def L0 : List T := merge (st.flatMap fun s => recs.map fun r => chk s 1 1 0x0033_07_07_00_06_09 r 4)
def L1 : List T := merge (st.flatMap fun s => recs.take 1 |>.map fun r => chk s 1 2 0x0033_00_2A_02_05_09 r 255)
/-- The hypotheses of `Obligations.ParMembers`, clause by clause, can be met. -/
theorem test_hyps_ParMembers_0 :
    (∃ (s : State) (c : Fin 4), (s.mute = false) ∧ (let i := c.val; (s.role i ≠ 2))) ∧
    (∃ (s : State) (c : Fin 4), (s.mute = false) ∧ (let i := c.val; (s.role i = 2))) ∧
    (∃ (s : State) (r : Rec), (s.mute = false) ∧ (let a : Quad := r.payload; let b := r.src.toNat; (s.leadCell (a.b 0) = none))) ∧
    (∃ (s : State) (r : Rec), (s.mute = false) ∧ (let a : Quad := r.payload; let b := r.src.toNat; let d := a.b 1; (3 < d ∨ s.role d ≠ 2 ∨ s.fld (fLE_PAR_CFG_MACHINE d) ≠ a.b 0 ∨ a.b 4 ≠ 0))) ∧
    (∃ (s : State) (r : Rec), (s.mute = false) ∧ (let a : Quad := r.payload; let b := r.src.toNat; let d := a.b 1; (d ≤ 3) ∧ (s.role d = 2) ∧ (s.fld (fLE_PAR_CFG_MACHINE d) = a.b 0) ∧ (a.b 4 = 0))) ∧
    (∃ (s : State) (c : Fin 4) (j : Fin 8), (s.mute = false) ∧ (let i := c.val; let k := j.val; let lost := s.role i = 1 ∧ s.memActive i k = true ∧ ¬ (s.memBurgee i k = s.own ∧ s.memCell i k = i) ∧ (s.member i k).aliveAt + 3 * msU ≤ s.now; (¬ lost))) :=
  ⟨⟨(L0[14]'(by decide +kernel)).1, (L0[14]'(by decide +kernel)).2.1, by decide +kernel⟩,
    ⟨(L1[24]'(by decide +kernel)).1, (L1[24]'(by decide +kernel)).2.1, by decide +kernel⟩,
    ⟨(L0[14]'(by decide +kernel)).1, (L0[14]'(by decide +kernel)).2.2.2.2.1, by decide +kernel⟩,
    ⟨(L0[14]'(by decide +kernel)).1, (L0[14]'(by decide +kernel)).2.2.2.2.1, by decide +kernel⟩,
    ⟨(L0[328]'(by decide +kernel)).1, (L0[328]'(by decide +kernel)).2.2.2.2.1, by decide +kernel⟩,
    ⟨(L0[14]'(by decide +kernel)).1, (L0[14]'(by decide +kernel)).2.1, (L0[14]'(by decide +kernel)).2.2.1, by decide +kernel⟩⟩
/-- Further clauses of `Obligations.ParMembers`. -/
theorem test_hyps_ParMembers_1 :
    (∃ (s : State) (c : Fin 4) (j : Fin 8), (s.mute = false) ∧ (let i := c.val; let k := j.val; let lost := s.role i = 1 ∧ s.memActive i k = true ∧ ¬ (s.memBurgee i k = s.own ∧ s.memCell i k = i) ∧ (s.member i k).aliveAt + 3 * msU ≤ s.now; lost)) ∧
    (∃ (s : State) (c : Fin 4), (s.mute = false) ∧ (let i := c.val; let splits := s.role i = 2 ∧ s.pstate i = 2 ∧ s.fld (fLE_PAR_TIMING_SHARE_TMO i) ≤ (s.parC i).silent; (¬ splits))) ∧
    (∃ (s : State) (c : Fin 4), (s.mute = false) ∧ (let i := c.val; let splits := s.role i = 2 ∧ s.pstate i = 2 ∧ s.fld (fLE_PAR_TIMING_SHARE_TMO i) ≤ (s.parC i).silent; splits)) ∧
    (∃ (s : State) (c : Fin 4), (s.mute = false) ∧ (let i := c.val; let cmd := rLE_PAR_CMD i; (s.inBiv = true) ∧ (s.cmdStatus cmd ≠ stBUSY))) ∧
    (∃ (s : State) (c : Fin 4) (ok : BitVec 8), (s.mute = false) ∧ (let i := c.val; let cmd := rLE_PAR_CMD i; let listed := fun f => s.memBurgee i f ≠ 255 ∧ ¬ (s.memBurgee i f = s.own ∧ s.memCell i f = i); let refused := s.role i ≠ 1 ∨ s.ps ≠ psRUN ∨ ¬ (∀ f, f < 8 → listed f → (s.member i f).droop = true → s.reached (s.memBurgee i f) = true ∧ bit ok.toNat f = true); (CmdReady s cmd) ∧ refused)) ∧
    (∃ (s : State) (c : Fin 4) (ok : BitVec 8), (s.mute = false) ∧ (let i := c.val; let cmd := rLE_PAR_CMD i; let listed := fun f => s.memBurgee i f ≠ 255 ∧ ¬ (s.memBurgee i f = s.own ∧ s.memCell i f = i); let refused := s.role i ≠ 1 ∨ s.ps ≠ psRUN ∨ ¬ (∀ f, f < 8 → listed f → (s.member i f).droop = true → s.reached (s.memBurgee i f) = true ∧ bit ok.toNat f = true); (CmdReady s cmd) ∧ (¬ refused))) :=
  ⟨⟨(L1[14]'(by decide +kernel)).1, (L1[14]'(by decide +kernel)).2.1, (L1[14]'(by decide +kernel)).2.2.1, by decide +kernel⟩,
    ⟨(L0[14]'(by decide +kernel)).1, (L0[14]'(by decide +kernel)).2.1, by decide +kernel⟩,
    ⟨(L1[24]'(by decide +kernel)).1, (L1[24]'(by decide +kernel)).2.1, by decide +kernel⟩,
    ⟨(L1[14]'(by decide +kernel)).1, (L1[14]'(by decide +kernel)).2.1, by decide +kernel⟩,
    ⟨(L1[24]'(by decide +kernel)).1, (L1[24]'(by decide +kernel)).2.1, (L1[24]'(by decide +kernel)).2.2.2.2.2, by (repeat' first | apply And.intro | apply CmdReady.mk); all_goals first | decide +kernel | (intro _; rfl)⟩,
    ⟨(L0[14]'(by decide +kernel)).1, (L0[14]'(by decide +kernel)).2.1, (L0[14]'(by decide +kernel)).2.2.2.2.2, by (repeat' first | apply And.intro | apply CmdReady.mk); all_goals first | decide +kernel | (intro _; rfl)⟩⟩
end Sys2Proof.Tests.W80

namespace Sys2Proof.Tests.W81
def sndr : State := (((State.reset.setF fPWR_STATUS_STATE psRUN).setF fHAL_STATUS_OWN_BURGEE 5).setF (fLE_PAR_STAGE_PARTNER 2) 3 |>.setF (fLE_PAR_STAGE_STAGE_ID 2) 77 |>.setF (fLE_PAR_CFG_MACHINE 2) 9 |>.setF (fLE_PAR_GEN_G 2) 4 |>.wrN (rLE_PAR_DIGEST 2) 0xABCD |>.setF (fLE_STATUS_MODE 2) 2).modLe 2 (fun e => { e with vTgt := 777, pTgt := -5, share := 40 }) |>.setEst 2 2 |>.modBnd 2 (fun b => { b with intD := 3, form := 1, ia := 100, ib := -100 }) |>.setF (fLE_PAR_STATUS_SAMPLE 2) 500
def slots (s : State) : List Slot := (List.range 6).map (fun k => s.mirrorSlot 2 2 k 1234567 8)
def b0 : State := ((State.reset.setF fPWR_STATUS_STATE psRUN).setF fHAL_STATUS_OWN_BURGEE 3) |> fun s => { s with clk := { s.clk with counting := true, count := 10000000000 }, hq := { s.hq with loaded := true } }
def a (role pst ps cmd gst sil dig : Nat) (q : ParCell) : State := (((((((b0.setF (fLE_PAR_CFG_ROLE 1) role).setF (fLE_PAR_STATUS_PSTATE 1) pst).setF fPWR_STATUS_STATE ps).wrN (rLE_PAR_CMD 1) cmd).setF (fLE_PAR_CFG_SILENT_TKO 1) sil).setF (fLE_PAR_CFG_MACHINE 1) 9).setF (fLE_PAR_STAGE_STAGE_ID 1) 77) |>.setF (fLE_PAR_STAGE_PARTNER 1) 5 |>.setF (fLE_PAR_STAGE_PCELL 1) 2 |>.setF (fLE_PAR_GEN_G 1) 2 |>.wrN (rLE_PAR_DIGEST 1) dig |>.setF (fEDG_LEG_CFG_TYPE 2) 1 |>.setF (fEDG_LEG_CFG_CELL 2) 1 |>.setF (fEDG_LEG_CFG_BASE 2) 4 |>.setF (fGD_STATUS_STATE 4) gst |>.setF (fGD_STATUS_STATE 5) 2 |>.setF (fGD_OWN_OWNER 4) 3 |>.setF (fBND_STATUS_STATE 1) (if gst = 2 then 1 else 3) |>.setF (fLE_PAR_MEMBER_MBURGEE 1 0) 3 |>.setF (fLE_PAR_MEMBER_MCELL 1 0) 1 |>.setF (fLE_PAR_MEMBER_MBURGEE 1 1) 7 |> (fun s => [2,3,4,5,6,7].foldl (fun s j => s.setF (fLE_PAR_MEMBER_MBURGEE 1 j) 255) s) |>.modPar 1 (fun _ => q) |>.setF (fEDG_LEG_CFG_TYPE 3) 1 |>.setF (fEDG_LEG_CFG_CELL 3) 2 |>.setF (fEDG_LEG_CFG_BASE 3) 6 |>.setF (fLE_PAR_STAGE_PARTNER 0) 255 |>.setF (fLE_PAR_STAGE_PARTNER 2) 255 |>.setF (fLE_PAR_STAGE_PARTNER 3) 255 |>.modPort 1 (fun p => { p with lastPeer := 5, leftAt := 9999900000 }) |>.modPort 2 (fun p => { p with lastPeer := 5, leftAt := 9999900010 })
def qs : List ParCell := [ParCell.init, { ParCell.init with parts := slots sndr, lead := 5, setAt := 9999800000 }, { ParCell.init with took := true, orig := 3 }, { ParCell.init with handing := true, took := true, orig := 3 }]
def st : List State := [3,1].flatMap fun role => [(0, psRUN, 0), (4, psRUN, 0x30002), (4, 5, 0), (5, psRUN, 0), (6, psREADY, 0)].flatMap fun (pst, ps, cmd) => [(2, 1, 0xABCD), (5, 0, 0xABCE)].flatMap fun (g, sil, dig) => qs.map fun m => a role pst ps cmd g sil dig m
def g (l : List Slot) (k : Nat) : Slot := l.getD k 0
abbrev T := State × Fin 4 × Quad × Slot × Slot × Slot × Slot × Slot × Slot × Bool
def chk (s : State) (c : Fin 4) (p : Quad) (x0 : Slot) (x1 : Slot) (x2 : Slot) (x3 : Slot) (x4 : Slot) (x5 : Slot) (ok : Bool) : List T := [(s, c, p, x0, x1, x2, x3, x4, x5, ok)]
def merge (l : List (List T)) : List T := l.flatten
def L0 : List T := merge (st.flatMap fun s => [slots sndr, slots (sndr.setF (fLE_PAR_STATUS_PSTATE 2) 6)].flatMap fun l => [0x01_05_0007_004D#128, 0x01_05_0001_004D#128].map fun p => chk s 1 p (g l 0) (g l 1) (g l 2) (g l 3) (g l 4) (g l 5) true)
def L1 : List T := merge ((st.take 9).flatMap fun s => [0x01_05_0007_004C#128].map fun p => chk s 1 p 0 0 0 0 0 0 false)
/-- The hypotheses of `Obligations.ParTakeover`, clause by clause, can be met. -/
theorem test_hyps_ParTakeover_0 :
    (∃ (s : State) (p : Quad), (s.mute = false) ∧ (s.stageCell (p.h 0) = none)) ∧
    (∃ (s : State) (c : Fin 4) (x0 : Slot) (x1 : Slot) (x2 : Slot) (x3 : Slot) (x4 : Slot) (x5 : Slot), (s.mute = false) ∧ (let i := c.val; let l := [x0, x1, x2, x3, x4, x5]; let fits := s.setOk i l = true ∧ (s.parC i).took = false ∧ (s.pstate i = 0 ∨ s.pstate i = 4); (¬ fits))) ∧
    (∃ (s : State) (c : Fin 4) (x0 : Slot) (x1 : Slot) (x2 : Slot) (x3 : Slot) (x4 : Slot) (x5 : Slot), (s.mute = false) ∧ (let i := c.val; let l := [x0, x1, x2, x3, x4, x5]; let fits := s.setOk i l = true ∧ (s.parC i).took = false ∧ (s.pstate i = 0 ∨ s.pstate i = 4); let same := part l 5 / 65536 % 2 ^ 32 = s.rdN (rLE_PAR_DIGEST i) ∧ part l 5 / 2 ^ 56 % 65536 = s.fld (fLE_PAR_STAGE_STAGE_ID i); fits ∧ (¬ same))) ∧
    (∃ (s : State) (c : Fin 4) (x0 : Slot) (x1 : Slot) (x2 : Slot) (x3 : Slot) (x4 : Slot) (x5 : Slot), (s.mute = false) ∧ (let i := c.val; let l := [x0, x1, x2, x3, x4, x5]; let watching := s.pstate i = 4 ∨ (s.pstate i = 0 ∧ s.watchReady i = true); let fits := s.setOk i l = true ∧ (s.parC i).took = false ∧ (s.pstate i = 0 ∨ s.pstate i = 4); let same := part l 5 / 65536 % 2 ^ 32 = s.rdN (rLE_PAR_DIGEST i) ∧ part l 5 / 2 ^ 56 % 65536 = s.fld (fLE_PAR_STAGE_STAGE_ID i); fits ∧ same ∧ (¬ (watching ∧ bit (part l 0) 0 = true)))) ∧
    (∃ (s : State) (c : Fin 4) (x0 : Slot) (x1 : Slot) (x2 : Slot) (x3 : Slot) (x4 : Slot) (x5 : Slot), (s.mute = false) ∧ (let i := c.val; let l := [x0, x1, x2, x3, x4, x5]; let watching := s.pstate i = 4 ∨ (s.pstate i = 0 ∧ s.watchReady i = true); let fits := s.setOk i l = true ∧ (s.parC i).took = false ∧ (s.pstate i = 0 ∨ s.pstate i = 4); let same := part l 5 / 65536 % 2 ^ 32 = s.rdN (rLE_PAR_DIGEST i) ∧ part l 5 / 2 ^ 56 % 65536 = s.fld (fLE_PAR_STAGE_STAGE_ID i); fits ∧ same ∧ watching ∧ (bit (part l 0) 0 = true) ∧ (s.ps ≠ psRUN))) ∧
    (∃ (s : State) (c : Fin 4) (x0 : Slot) (x1 : Slot) (x2 : Slot) (x3 : Slot) (x4 : Slot) (x5 : Slot), (s.mute = false) ∧ (let i := c.val; let l := [x0, x1, x2, x3, x4, x5]; let watching := s.pstate i = 4 ∨ (s.pstate i = 0 ∧ s.watchReady i = true); let fits := s.setOk i l = true ∧ (s.parC i).took = false ∧ (s.pstate i = 0 ∨ s.pstate i = 4); let same := part l 5 / 65536 % 2 ^ 32 = s.rdN (rLE_PAR_DIGEST i) ∧ part l 5 / 2 ^ 56 % 65536 = s.fld (fLE_PAR_STAGE_STAGE_ID i); fits ∧ same ∧ watching ∧ (bit (part l 0) 0 = true) ∧ (s.ps = psRUN))) :=
  ⟨⟨(L1[0]'(by decide +kernel)).1, (L1[0]'(by decide +kernel)).2.2.1, by decide +kernel⟩,
    ⟨(L1[0]'(by decide +kernel)).1, (L1[0]'(by decide +kernel)).2.1, (L1[0]'(by decide +kernel)).2.2.2.1, (L1[0]'(by decide +kernel)).2.2.2.2.1, (L1[0]'(by decide +kernel)).2.2.2.2.2.1, (L1[0]'(by decide +kernel)).2.2.2.2.2.2.1, (L1[0]'(by decide +kernel)).2.2.2.2.2.2.2.1, (L1[0]'(by decide +kernel)).2.2.2.2.2.2.2.2.1, by decide +kernel⟩,
    ⟨(L0[80]'(by decide +kernel)).1, (L0[80]'(by decide +kernel)).2.1, (L0[80]'(by decide +kernel)).2.2.2.1, (L0[80]'(by decide +kernel)).2.2.2.2.1, (L0[80]'(by decide +kernel)).2.2.2.2.2.1, (L0[80]'(by decide +kernel)).2.2.2.2.2.2.1, (L0[80]'(by decide +kernel)).2.2.2.2.2.2.2.1, (L0[80]'(by decide +kernel)).2.2.2.2.2.2.2.2.1, by decide +kernel⟩,
    ⟨(L0[0]'(by decide +kernel)).1, (L0[0]'(by decide +kernel)).2.1, (L0[0]'(by decide +kernel)).2.2.2.1, (L0[0]'(by decide +kernel)).2.2.2.2.1, (L0[0]'(by decide +kernel)).2.2.2.2.2.1, (L0[0]'(by decide +kernel)).2.2.2.2.2.2.1, (L0[0]'(by decide +kernel)).2.2.2.2.2.2.2.1, (L0[0]'(by decide +kernel)).2.2.2.2.2.2.2.2.1, by decide +kernel⟩,
    ⟨(L0[66]'(by decide +kernel)).1, (L0[66]'(by decide +kernel)).2.1, (L0[66]'(by decide +kernel)).2.2.2.1, (L0[66]'(by decide +kernel)).2.2.2.2.1, (L0[66]'(by decide +kernel)).2.2.2.2.2.1, (L0[66]'(by decide +kernel)).2.2.2.2.2.2.1, (L0[66]'(by decide +kernel)).2.2.2.2.2.2.2.1, (L0[66]'(by decide +kernel)).2.2.2.2.2.2.2.2.1, by decide +kernel⟩,
    ⟨(L0[2]'(by decide +kernel)).1, (L0[2]'(by decide +kernel)).2.1, (L0[2]'(by decide +kernel)).2.2.2.1, (L0[2]'(by decide +kernel)).2.2.2.2.1, (L0[2]'(by decide +kernel)).2.2.2.2.2.1, (L0[2]'(by decide +kernel)).2.2.2.2.2.2.1, (L0[2]'(by decide +kernel)).2.2.2.2.2.2.2.1, (L0[2]'(by decide +kernel)).2.2.2.2.2.2.2.2.1, by decide +kernel⟩⟩
/-- Further clauses of `Obligations.ParTakeover`. -/
theorem test_hyps_ParTakeover_1 :
    (∃ (s : State) (c : Fin 4), (s.mute = false) ∧ (let i := c.val; (s.pstate i ≠ 4))) ∧
    (∃ (s : State) (c : Fin 4), (s.mute = false) ∧ (let i := c.val; (s.pstate i = 4) ∧ (s.on (fLE_PAR_CFG_SILENT_TKO i) = false))) ∧
    (∃ (s : State) (c : Fin 4), (s.mute = false) ∧ (let i := c.val; (s.pstate i = 5))) ∧
    (∃ (s : State) (c : Fin 4), (s.mute = false) ∧ (let i := c.val; (s.pstate i ≠ 6))) ∧
    (∃ (s : State) (c : Fin 4), (s.mute = false) ∧ (let i := c.val; (s.pstate i = 6))) ∧
    (∃ (s : State) (c : Fin 4), (s.mute = false) ∧ (let i := c.val; let cmd := rLE_PAR_CMD i; (s.inBiv = true) ∧ (s.cmdStatus cmd ≠ stBUSY))) :=
  ⟨⟨(L1[0]'(by decide +kernel)).1, (L1[0]'(by decide +kernel)).2.1, by decide +kernel⟩,
    ⟨(L0[80]'(by decide +kernel)).1, (L0[80]'(by decide +kernel)).2.1, by decide +kernel⟩,
    ⟨(L0[96]'(by decide +kernel)).1, (L0[96]'(by decide +kernel)).2.1, by decide +kernel⟩,
    ⟨(L1[0]'(by decide +kernel)).1, (L1[0]'(by decide +kernel)).2.1, by decide +kernel⟩,
    ⟨(L0[140]'(by decide +kernel)).1, (L0[140]'(by decide +kernel)).2.1, by decide +kernel⟩,
    ⟨(L0[80]'(by decide +kernel)).1, (L0[80]'(by decide +kernel)).2.1, by decide +kernel⟩⟩
/-- Further clauses of `Obligations.ParTakeover`. -/
theorem test_hyps_ParTakeover_2 :
    (∃ (s : State) (c : Fin 4) (ok : Bool), (s.mute = false) ∧ (let i := c.val; let cmd := rLE_PAR_CMD i; (CmdReady s cmd) ∧ ((s.parC i).took = false ∨ s.pstate i = 5 ∨ s.bst i ≠ bIDLE ∨ ok = false ∨ s.reached (s.parC i).orig = false))) ∧
    (∃ (s : State) (c : Fin 4) (ok : Bool), (s.mute = false) ∧ (let i := c.val; let cmd := rLE_PAR_CMD i; (CmdReady s cmd) ∧ ((s.parC i).took = true) ∧ (s.pstate i ≠ 5) ∧ (s.bst i = bIDLE) ∧ (ok = true) ∧ (s.reached (s.parC i).orig = true))) ∧
    (∃ (s : State) (c : Fin 4), (s.mute = false) ∧ (let i := c.val; ((s.parC i).handing = false))) ∧
    (∃ (s : State) (c : Fin 4), (s.mute = false) ∧ (let i := c.val; ((s.parC i).handing = true))) :=
  ⟨⟨(L1[0]'(by decide +kernel)).1, (L1[0]'(by decide +kernel)).2.1, (L1[0]'(by decide +kernel)).2.2.2.2.2.2.2.2.2, by (repeat' first | apply And.intro | apply CmdReady.mk); all_goals first | decide +kernel | (intro _; rfl)⟩,
    ⟨(L0[140]'(by decide +kernel)).1, (L0[140]'(by decide +kernel)).2.1, (L0[140]'(by decide +kernel)).2.2.2.2.2.2.2.2.2, by (repeat' first | apply And.intro | apply CmdReady.mk); all_goals first | decide +kernel | (intro _; rfl)⟩,
    ⟨(L1[0]'(by decide +kernel)).1, (L1[0]'(by decide +kernel)).2.1, by decide +kernel⟩,
    ⟨(L0[140]'(by decide +kernel)).1, (L0[140]'(by decide +kernel)).2.1, by decide +kernel⟩⟩
end Sys2Proof.Tests.W81

namespace Sys2Proof.Tests.W82
def b0 : State := ((State.reset.setF fPWR_STATUS_STATE psRUN).setF fSI_STATUS_ISTATE 1).setF fSI_CFG_STO_CELLS 6 |>.setF (fEDG_LEG_CFG_TYPE 2) 1 |>.setF (fEDG_LEG_CFG_CELL 2) 1 |>.setF (fEDG_LEG_CFG_BASE 2) 4 |>.setF (fEDG_LEG_CFG_TYPE 3) 1 |>.setF (fEDG_LEG_CFG_CELL 3) 2 |>.setF (fEDG_LEG_CFG_BASE 3) 6 |>.setF (fAUX_CFG_MODE 3) 2 |>.setF (fHSF_CFG_FEED_LIM 1) 300
def a (ist cst man inp brk dis : Nat) (q : SiCell) (ask ps : Nat) : State := ((((((b0.setF fSI_STATUS_ISTATE ist).setCst 1 cst).setF (fSI_CELL_CFG_MAN_RST 1) man).wrN rSI_INPUTS inp).setF (fSI_CELL_CFG_BRK_OUT 1) (8*brk)).setF (fSI_CELL_CFG_SBC_EN 1) brk).setF (fSI_SS1_CFG_SBC_LEAD 1) (if cst = 3 then 5 * man else 0) |>.setCst 2 2 |>.modSi 1 (fun _ => q) |>.modSt 1 (fun _ => { StCell.init with ask := ask }) |>.modGate 4 (fun q => { q with gse := true, sen := true, drive := .on1, supplyOn := true }) |>.modGate 6 (fun q => { q with gse := true, sen := true, drive := .on1, supplyOn := true })|>.wrN rSI_PAIR_STATUS (dis * 0x101) |>.wrN rSI_PAIR_CFG 0xF3_FC_F2_21 |>.setF fPWR_STATUS_STATE ps |>.setF (fSI_STATUS_MP_LOST) man |>.setF (fSI_CELL_STATUS_DEMAND 1) dis |>.setF (fSI_CELL_CFG_SLS_EN 1) 1 |>.wrN rSI_CFG_CRC (if man = 1 then 5 else 0) |>.setF (fAUX_CFG_I_HOLD 3) (if ps = psRUN then 10 else 200) |>.setF (fSI_CELL_CFG_SF_BIND 1) man |> fun s => { s with si := { s.si with clkBad := man } }
def qs : List SiCell := [SiCell.init, { SiCell.init with lead := true }, { SiCell.init with ss1r := true, stopLine := true }]
def st : List State := [1,2,0].flatMap fun ist => [0,1,2,3].flatMap fun cst => [0,1].flatMap fun man => [(0x0, 0), (0x07FF0400, 1), (0x05550000, 0)].flatMap fun (inp, dis) => qs.flatMap fun q => [(1, psRUN), (0, 5)].map fun (ask, ps) => a ist cst man inp (1 - man * (ask)) dis q ask ps
def st2 := st.filter (fun s => s.ist = 1)
def th7 (l : List State) (m r : Nat) : List State := (l.zipIdx.filter (fun x => x.2 % m = r)).map Prod.fst
def crcd (s : State) : State := s.wrN rSI_CFG_CRC (crc32c (siLockRegs.flatMap (fun a => bytesOf 4 (s.rdN a))))
abbrev T := State × Fin 4 × Fin 4 × Fin 5 × Fin 24 × Bool × Bool × BitVec 16
def chk (s : State) (c : Fin 4) (p : Fin 4) (k : Fin 5) (g : Fin 24) (a : Bool) (b : Bool) (dev : BitVec 16) : List T := [(s, c, p, k, g, a, b, dev)]
def merge (l : List (List T)) : List T := l.flatten
def L0 : List T := merge ((th7 st 19 1).map fun s => chk s 1 1 1 4 true false 77)
def L1 : List T := merge ((th7 st2 13 2).flatMap fun s => [(0,true,true,700)].map fun (k, x, y, d) => chk s 1 0 k 6 x y d)
def L2 : List T := merge ((th7 st2 13 5).flatMap fun s => [(3,false,true,65000)].map fun (k, x, y, d) => chk s 1 0 k 6 x y d)
def L3 : List T := merge ([1,0].flatMap fun ist => [2,3].flatMap fun cst => qs.map fun q => chk (crcd ((a ist cst 0 0x07FF0400 1 0 q 1 psRUN).setF (fSI_SS1_CFG_SBC_LEAD 1) 5)) 1 1 2 9 false true 300)
/-- The hypotheses of `Obligations.SiCells`, clause by clause, can be met. -/
theorem test_hyps_SiCells_0 :
    (∃ (s : State) (k : Fin 5), (s.mute = false) ∧ ((s.channels k.val).1 = (s.channels k.val).2 ∨ s.pairDisc k.val = true)) ∧
    (∃ (s : State) (k : Fin 5), (s.mute = false) ∧ ((s.channels k.val).1 ≠ (s.channels k.val).2) ∧ (s.pairDisc k.val = false)) ∧
    (∃ (s : State) (a : Bool) (b : Bool), (s.mute = false) ∧ (let active := s.ist = iACTIVE; (a = false ∨ b = false ∨ ¬ active))) ∧
    (∃ (s : State), (s.mute = false) ∧ (let active := s.ist = iACTIVE; active ∧ (∀ d, d < 4 → s.cst d ≠ cCLEAR))) ∧
    (∃ (s : State), (s.mute = false) ∧ (s.input 10 = false)) ∧
    (∃ (s : State), (s.mute = false) ∧ (s.input 10 = true)) :=
  ⟨⟨(L0[0]'(by decide +kernel)).1, (L0[0]'(by decide +kernel)).2.2.2.1, by decide +kernel⟩,
    ⟨(L0[15]'(by decide +kernel)).1, (L0[15]'(by decide +kernel)).2.2.2.1, by decide +kernel⟩,
    ⟨(L0[0]'(by decide +kernel)).1, (L0[0]'(by decide +kernel)).2.2.2.2.2.1, (L0[0]'(by decide +kernel)).2.2.2.2.2.2.1, by decide +kernel⟩,
    ⟨(L0[0]'(by decide +kernel)).1, by decide +kernel⟩,
    ⟨(L0[0]'(by decide +kernel)).1, by decide +kernel⟩,
    ⟨(L0[15]'(by decide +kernel)).1, by decide +kernel⟩⟩
/-- Further clauses of `Obligations.SiCells`. -/
theorem test_hyps_SiCells_1 :
    (∃ (s : State) (c : Fin 4), (s.mute = false) ∧ (let i := c.val; let active := s.ist = iACTIVE; (¬ (active ∧ s.cst i = cHELD ∧ s.fld (fSI_CELL_STATUS_DEMAND i) = 0)))) ∧
    (∃ (s : State) (c : Fin 4), (s.mute = false) ∧ (let i := c.val; let active := s.ist = iACTIVE; active ∧ (s.cst i = cHELD) ∧ (s.fld (fSI_CELL_STATUS_DEMAND i) = 0))) ∧
    (∃ (s : State) (c : Fin 4), (s.mute = false) ∧ (let i := c.val; let active := s.ist = iACTIVE; (s.on (fSI_CELL_CFG_MAN_RST i) = true ∨ s.cst i ≠ cCLEAR ∨ ¬ active ∨ s.inBiv = true))) ∧
    (∃ (s : State) (c : Fin 4), (s.mute = false) ∧ (let i := c.val; let active := s.ist = iACTIVE; (s.on (fSI_CELL_CFG_MAN_RST i) = false) ∧ (s.cst i = cCLEAR) ∧ active ∧ (s.inBiv = false))) ∧
    (∃ (s : State) (c : Fin 4), (s.mute = false) ∧ (let i := c.val; let ends := s.cst i = cSS1 ∧ (s.siC i).ss1r = false ∧ (s.siC i).lead = false; (¬ ends))) ∧
    (∃ (s : State) (c : Fin 4), (s.mute = false) ∧ (let i := c.val; let sbc := s.on (fSI_CELL_CFG_SBC_EN i) = true ∧ s.fld (fSI_SS1_CFG_SBC_LEAD i) ≠ 0; let ends := s.cst i = cSS1 ∧ (s.siC i).ss1r = false ∧ (s.siC i).lead = false; ends ∧ sbc)) :=
  ⟨⟨(L0[15]'(by decide +kernel)).1, (L0[15]'(by decide +kernel)).2.1, by decide +kernel⟩,
    ⟨(L0[0]'(by decide +kernel)).1, (L0[0]'(by decide +kernel)).2.1, by decide +kernel⟩,
    ⟨(L0[0]'(by decide +kernel)).1, (L0[0]'(by decide +kernel)).2.1, by decide +kernel⟩,
    ⟨(L2[3]'(by decide +kernel)).1, (L2[3]'(by decide +kernel)).2.1, by decide +kernel⟩,
    ⟨(L0[0]'(by decide +kernel)).1, (L0[0]'(by decide +kernel)).2.1, by decide +kernel⟩,
    ⟨(L3[3]'(by decide +kernel)).1, (L3[3]'(by decide +kernel)).2.1, by decide +kernel⟩⟩
/-- Further clauses of `Obligations.SiCells`. -/
theorem test_hyps_SiCells_2 :
    (∃ (s : State) (c : Fin 4), (s.mute = false) ∧ (let i := c.val; let sbc := s.on (fSI_CELL_CFG_SBC_EN i) = true ∧ s.fld (fSI_SS1_CFG_SBC_LEAD i) ≠ 0; let ends := s.cst i = cSS1 ∧ (s.siC i).ss1r = false ∧ (s.siC i).lead = false; ends ∧ (¬ sbc))) ∧
    (∃ (s : State) (c : Fin 4), (s.mute = false) ∧ (let i := c.val; let ends := s.cst i = cSS1 ∧ (s.siC i).ss1r = true ∧ (s.siC i).lead = false ∧ s.rdN (rSI_SPEED i) % 65536 ≤ s.fld (fSI_SPD_CFG_W_ZERO_S i); (¬ ends))) ∧
    (∃ (s : State) (c : Fin 4), (s.mute = false) ∧ (let i := c.val; let sbc := s.on (fSI_CELL_CFG_SBC_EN i) = true ∧ s.fld (fSI_SS1_CFG_SBC_LEAD i) ≠ 0; let ends := s.cst i = cSS1 ∧ (s.siC i).ss1r = true ∧ (s.siC i).lead = false ∧ s.rdN (rSI_SPEED i) % 65536 ≤ s.fld (fSI_SPD_CFG_W_ZERO_S i); ends ∧ sbc)) ∧
    (∃ (s : State) (c : Fin 4), (s.mute = false) ∧ (let i := c.val; let sbc := s.on (fSI_CELL_CFG_SBC_EN i) = true ∧ s.fld (fSI_SS1_CFG_SBC_LEAD i) ≠ 0; let ends := s.cst i = cSS1 ∧ (s.siC i).ss1r = true ∧ (s.siC i).lead = false ∧ s.rdN (rSI_SPEED i) % 65536 ≤ s.fld (fSI_SPD_CFG_W_ZERO_S i); ends ∧ (¬ sbc))) ∧
    (∃ (s : State) (c : Fin 4), (s.mute = false) ∧ (let i := c.val; (s.cst i ≠ cSS1))) ∧
    (∃ (s : State) (c : Fin 4), (s.mute = false) ∧ (let i := c.val; (s.cst i ≠ cSS1 ∨ (s.siC i).lead = false))) :=
  ⟨⟨(L1[10]'(by decide +kernel)).1, (L1[10]'(by decide +kernel)).2.1, by decide +kernel⟩,
    ⟨(L0[0]'(by decide +kernel)).1, (L0[0]'(by decide +kernel)).2.1, by decide +kernel⟩,
    ⟨(L0[22]'(by decide +kernel)).1, (L0[22]'(by decide +kernel)).2.1, by decide +kernel⟩,
    ⟨(L0[15]'(by decide +kernel)).1, (L0[15]'(by decide +kernel)).2.1, by decide +kernel⟩,
    ⟨(L0[0]'(by decide +kernel)).1, (L0[0]'(by decide +kernel)).2.1, by decide +kernel⟩,
    ⟨(L0[0]'(by decide +kernel)).1, (L0[0]'(by decide +kernel)).2.1, by decide +kernel⟩⟩
/-- Further clauses of `Obligations.SiCells`. -/
theorem test_hyps_SiCells_3 :
    (∃ (s : State) (c : Fin 4), (s.mute = false) ∧ (let i := c.val; (s.cst i = cSS1) ∧ ((s.siC i).lead = true))) ∧
    (∃ (s : State), (s.mute = false) ∧ (s.on fSI_STATUS_MP_LOST = true)) ∧
    (∃ (s : State), (s.mute = false) ∧ (s.on fSI_STATUS_MP_LOST = false)) ∧
    (∃ (s : State) (dev : BitVec 16), (s.mute = false) ∧ (let bad := if 500 < dev.toInt.natAbs then s.si.clkBad + 1 else 0; (bad < 2 ∨ s.ist = iFAULT))) ∧
    (∃ (s : State), (s.mute = false) ∧ (s.siCrcOk = true)) ∧
    (∃ (s : State) (g : Fin 24), (s.mute = false) ∧ ((s.gate g.val).gse = true) ∧ ((s.gate g.val).sen = true)) :=
  ⟨⟨(L0[7]'(by decide +kernel)).1, (L0[7]'(by decide +kernel)).2.1, by decide +kernel⟩,
    ⟨(L0[15]'(by decide +kernel)).1, by decide +kernel⟩,
    ⟨(L0[0]'(by decide +kernel)).1, by decide +kernel⟩,
    ⟨(L0[0]'(by decide +kernel)).1, (L0[0]'(by decide +kernel)).2.2.2.2.2.2.2, by decide +kernel⟩,
    ⟨(L3[3]'(by decide +kernel)).1, by decide +kernel⟩,
    ⟨(L0[0]'(by decide +kernel)).1, (L0[0]'(by decide +kernel)).2.2.2.2.1, by decide +kernel⟩⟩
/-- Further clauses of `Obligations.SiCells`. -/
theorem test_hyps_SiCells_4 :
    (∃ (s : State), (s.mute = false) ∧ (s.ist = iFAULT)) ∧
    (∃ (s : State) (dev : BitVec 16), (s.mute = false) ∧ (let bad := if 500 < dev.toInt.natAbs then s.si.clkBad + 1 else 0; (s.ist ≠ iFAULT) ∧ (2 ≤ bad))) ∧
    (∃ (s : State), (s.mute = false) ∧ (s.ist ≠ iFAULT) ∧ (s.siCrcOk = false)) ∧
    (∃ (s : State) (g : Fin 24), (s.mute = false) ∧ (s.ist ≠ iFAULT) ∧ ((s.gate g.val).gse = false ∨ (s.gate g.val).sen = false)) ∧
    (∃ (s : State) (c : Fin 4), (s.mute = false) ∧ (let i := c.val; ((s.stC i).ask ≠ 1))) ∧
    (∃ (s : State) (c : Fin 4), (s.mute = false) ∧ (let i := c.val; let active := s.ist = iACTIVE; ((s.stC i).ask = 1) ∧ (let refused := s.on (fSI_CELL_CFG_SBC_EN i) = true ∧ (s.cst i ≠ cNORMAL ∨ ¬ active ∨ (s.on (fSI_CELL_CFG_SF_BIND i) = true ∧ bit s.si.sf.brake i = false)); refused))) :=
  ⟨⟨(L0[15]'(by decide +kernel)).1, by decide +kernel⟩,
    ⟨(L1[10]'(by decide +kernel)).1, (L1[10]'(by decide +kernel)).2.2.2.2.2.2.2, by decide +kernel⟩,
    ⟨(L0[0]'(by decide +kernel)).1, by decide +kernel⟩,
    ⟨(L3[3]'(by decide +kernel)).1, (L3[3]'(by decide +kernel)).2.2.2.2.1, by decide +kernel⟩,
    ⟨(L0[0]'(by decide +kernel)).1, (L0[0]'(by decide +kernel)).2.1, by decide +kernel⟩,
    ⟨(L3[3]'(by decide +kernel)).1, (L3[3]'(by decide +kernel)).2.1, by decide +kernel⟩⟩
/-- Further clauses of `Obligations.SiCells`. -/
theorem test_hyps_SiCells_5 :
    (∃ (s : State) (c : Fin 4), (s.mute = false) ∧ (let i := c.val; let active := s.ist = iACTIVE; ((s.stC i).ask = 1) ∧ (let refused := s.on (fSI_CELL_CFG_SBC_EN i) = true ∧ (s.cst i ≠ cNORMAL ∨ ¬ active ∨ (s.on (fSI_CELL_CFG_SF_BIND i) = true ∧ bit s.si.sf.brake i = false)); (¬ refused)))) :=
  ⟨(L0[15]'(by decide +kernel)).1, (L0[15]'(by decide +kernel)).2.1, by decide +kernel⟩
end Sys2Proof.Tests.W82

namespace Sys2Proof.Tests.W83
def fr (seq ts : Nat) (pay : List Nat) (ok : Bool) : BitVec 512 :=
  let body := ofBytes (bytesOf 2 seq ++ bytesOf 2 ts ++ [pay.length, 1] ++ pay)
  BitVec.ofNat 512 (body + (frameCheck 0x1234 (BitVec.ofNat 512 body) + (if ok then 0 else 1)) * 2 ^ 480)
def b0 : State := ((State.reset.setF fPWR_STATUS_STATE psRUN).setF fSI_STATUS_ISTATE 1).setF fSI_CFG_STO_CELLS 6 |>.setF (fEDG_LEG_CFG_TYPE 2) 1 |>.setF (fEDG_LEG_CFG_CELL 2) 1 |>.setF (fEDG_LEG_CFG_BASE 2) 4 |>.setF fSI_SF_CFG_SF_EN 1 |>.setF fSI_SF_CFG_SEQ_WIN 4 |>.setF fSI_SF_CFG_TS_TOL 2 |>.setF fSI_SF_CFG_NET_MISS 2 |>.setF fSI_SF_ID_SF_ID_CMD 0x1234 |>.setF (fSI_CELL_CFG_SF_BIND 1) 1 |>.setF (fSI_CELL_CFG_SLS_EN 1) 1 |>.setF (fSI_CELL_CFG_SLT_EN 1) 1 |> fun s => { s with clk := { s.clk with count := 10000000000, counting := true } }
def a (ist cst hs spd tq rx fb : Nat) (q : SiCell) (sf : SfSt) : State := (((((b0.setF fSI_STATUS_ISTATE ist).setCst 1 cst).setF (fSI_CELL_CFG_HALL_SEN 1) hs).setF (fSI_CELL_CFG_TM_EN 1) hs).wrN (rSI_SPEED 1) spd).wrN (rSI_TORQUE 1) tq |>.setF (fSI_CELL_STATUS_SLS_ON 1) 1 |>.setF (fSI_CELL_STATUS_SLT_ON 1) 1 |>.setF (fSI_SPD_CFG_SLS_LIM 1) 500 |>.setF (fSI_TQ_CFG_SLT_LIM 1) 500 |>.setF (fSI_TM_CFG_TM_TOL 1) 50 |>.setF (fSI_TQ_CFG_I_RATED 1) 900 |>.setF (fSI_CELL_CFG_SLS_REACT 1) rx |>.setF (fSI_CELL_CFG_TM_REACT 1) rx |>.setF (fSI_CELL_CFG_SF_REACT 1) rx |>.setF fSI_SF_CFG_FALLBACK_EN fb |>.wrN rSI_PAIR_CFG 0x21_20_24_23 |>.wrN rSI_PAIR_STATUS (6*fb) |>.setF (fSI_CELL_STATUS_SINGLE_PATH 1) (if tq = 77 then 1 else 0) |>.setF (fSNS_AN_CFG_ROLE 3) (if hs = 1 then 1 else 0) |>.setF (fSNS_AN_CFG_CELL 3) 1 |>.setF (fSNS_SD_CFG_ENABLE 2) 1 |>.setF (fSNS_SD_CFG_CELL 2) 1 |>.setF (fSNS_SD_CFG_ROLE 2) 1 |>.setB ⟨rPWR_DOM_ON 0, 4, 4⟩ (fb == 1) |>.wrN rSI_SF_SEQ 0x50020 |>.modSi 1 (fun _ => q) |> fun s => { s with si := { s.si with sf := sf } }
def fok := fr 0x21 1000 [0xF, 0xF, 0xFF, 0xF, 0] true
def fsto := fr 0x22 1000 [0xD, 0xF, 0xFF, 0xF, 0] true
def ff := [fok, fsto, fr 0x20 1000 [] true, fr 0x21 9000 [0xF] true, fr 0x2A 1000 [0xF] true, fr 0x21 1000 [1] false]
def sfs : List SfSt := ff.flatMap (fun f => [{ SfSt.init with held := some (0, f, 9999999900), any := true, first := false, accTs := 990, accAt := 9999590000, sto := 3 }]) ++ [SfSt.init, { SfSt.init with any := true, mode := 2, first := false, accTs := 990, accAt := 9999590000 }, { SfSt.init with mode := 3, acc := some (fok, 99, false), miss := [(1, 3)] }, { SfSt.init with held := some (1, fok, 99), miss := [(0, 3)] }, { SfSt.init with held := some (0, fsto, 9999999900) }]
def qs : List SiCell := [SiCell.init, { SiCell.init with lead := true, react := 20 }, { SiCell.init with ss1r := true, stopLine := true, t0 := 9000000000, v0 := 300 }]
def st : List State := [1,2].flatMap fun ist => [2,3,1].flatMap fun cst => [0,1].flatMap fun hs => [(700 + 65536 * 200, 700, 1, 0), (100 + 65536*100, 10 + 65536*20, 0, 1), (300 + 65536*100, 77, 0, 1), (600+65536*600, 600 + 65536*300, 0, 0)].flatMap fun (sp, tq, rx, fb) => qs.flatMap fun q => [SfSt.init].map fun sf => a ist cst hs sp tq rx fb q sf
def st3 : List State := sfs.flatMap fun sf => [0,1].map fun fb => a 1 2 1 77 77 fb fb SiCell.init sf
def th7 (l : List State) (m r : Nat) : List State := (l.zipIdx.filter (fun x => x.2 % m = r)).map Prod.fst
def grp (s : State) : State := (List.range 6).foldl (fun s k => s.setF (fSNS_GROUP_CFG_ENABLE k) 1) s
def lone (s : State) : State := (((grp s).setF (fSI_CELL_CFG_HALL_SEN 1) 0).setF (fSNS_AN_CFG_ROLE 3) 0).setF (fSNS_SD_CFG_ENABLE 2) 0
abbrev T := State × Fin 4 × Fin 2 × BitVec 512 × Nat × Nat × Bool
def chk (s : State) (c : Fin 4) (n : Fin 2) (f : BitVec 512) (dt : Nat) (tau : Nat) (imp : Bool) : List T := [(s, c, n, f, dt, tau, imp)]
def merge (l : List (List T)) : List T := l.flatten
def L0 : List T := merge ((th7 st 3 1).flatMap fun s => [(2000000, true), (90, false)].map fun (d, b) => chk s 1 1 fok d 5 b)
def L1 : List T := merge (st3.flatMap fun s => [0, 1].flatMap fun n => ff.map fun f => chk s 1 n f 5 5 true)
def L2 : List T := merge ([1,2].flatMap fun cst => [10 + 65536*20, 77, 600 + 65536*300, 77 + 65536 * 2000].flatMap fun tq => [0, 1].flatMap fun sp => [true, false].flatMap fun b => [grp, lone].map fun g => chk (((g (a 1 cst 1 77 tq 0 0 SiCell.init SfSt.init))).setF (fSI_CELL_STATUS_SINGLE_PATH 1) sp) 1 1 fok 2000000 5 b)
def L3 : List T := merge ([0x20, 0x21, 0x1F].flatMap fun q => [1, 2, 3].flatMap fun m => [0, 1].flatMap fun n => [fok, fsto].map fun f => chk ((a 1 2 1 77 77 0 1 SiCell.init { SfSt.init with any := true, mode := m, first := false, accTs := 990, accAt := 9959040000 }).wrN rSI_SF_SEQ q) 1 n f 5 5 false)
/-- The hypotheses of `Obligations.SiMonitors`, clause by clause, can be met. -/
theorem test_hyps_SiMonitors_0 :
    (∃ (s : State) (c : Fin 4), (s.mute = false) ∧ (let i := c.val; let active := s.ist = iACTIVE; let hall := active ∧ s.on (fSI_CELL_CFG_HALL_SEN i) = true; let tm := active ∧ s.on (fSI_CELL_CFG_TM_EN i) = true; let lost := s.diverseLost i = true ∨ s.sigmaLost i = true; (¬ hall) ∧ (¬ (tm ∧ lost)))) ∧
    (∃ (s : State) (c : Fin 4), (s.mute = false) ∧ (let i := c.val; let active := s.ist = iACTIVE; let tm := active ∧ s.on (fSI_CELL_CFG_TM_EN i) = true; tm ∧ (s.diverseLost i = true) ∧ (s.sigmaLost i = true) ∧ (s.on (fSI_CELL_CFG_HALL_SEN i) = false) ∧ (bit (s.siC i).react 6 = false))) ∧
    (∃ (s : State) (c : Fin 4) (imp : Bool), (s.mute = false) ∧ (let i := c.val; let active := s.ist = iACTIVE; let hall := active ∧ s.on (fSI_CELL_CFG_HALL_SEN i) = true; hall ∧ (imp = false) ∧ (s.speedsAgree i = true))) ∧
    (∃ (s : State) (c : Fin 4) (imp : Bool), (s.mute = false) ∧ (let i := c.val; let active := s.ist = iACTIVE; let hall := active ∧ s.on (fSI_CELL_CFG_HALL_SEN i) = true; hall ∧ (imp = true ∨ s.speedsAgree i = false) ∧ (bit (s.siC i).react (if imp then 5 else 4) = true))) ∧
    (∃ (s : State) (c : Fin 4) (imp : Bool), (s.mute = false) ∧ (let i := c.val; let active := s.ist = iACTIVE; let hall := active ∧ s.on (fSI_CELL_CFG_HALL_SEN i) = true; hall ∧ (imp = true ∨ s.speedsAgree i = false) ∧ (bit (s.siC i).react (if imp then 5 else 4) = false))) ∧
    (∃ (s : State) (c : Fin 4), (s.mute = false) ∧ (let i := c.val; let active := s.ist = iACTIVE; let vb := s.rdN (rSI_SPEED i) % 65536; (¬ active ∨ s.on (fSI_CELL_STATUS_SLS_ON i) = false ∨ vb ≤ s.fld (fSI_SPD_CFG_SLS_LIM i) ∨ bit (s.siC i).react 0 = true))) :=
  ⟨⟨(L0[0]'(by decide +kernel)).1, (L0[0]'(by decide +kernel)).2.1, by decide +kernel⟩,
    ⟨(L2[1]'(by decide +kernel)).1, (L2[1]'(by decide +kernel)).2.1, by decide +kernel⟩,
    ⟨(L0[11]'(by decide +kernel)).1, (L0[11]'(by decide +kernel)).2.1, (L0[11]'(by decide +kernel)).2.2.2.2.2.2, by decide +kernel⟩,
    ⟨(L0[9]'(by decide +kernel)).1, (L0[9]'(by decide +kernel)).2.1, (L0[9]'(by decide +kernel)).2.2.2.2.2.2, by decide +kernel⟩,
    ⟨(L1[2]'(by decide +kernel)).1, (L1[2]'(by decide +kernel)).2.1, (L1[2]'(by decide +kernel)).2.2.2.2.2.2, by decide +kernel⟩,
    ⟨(L0[50]'(by decide +kernel)).1, (L0[50]'(by decide +kernel)).2.1, by decide +kernel⟩⟩
/-- Further clauses of `Obligations.SiMonitors`. -/
theorem test_hyps_SiMonitors_1 :
    (∃ (s : State) (c : Fin 4), (s.mute = false) ∧ (let i := c.val; let active := s.ist = iACTIVE; let vb := s.rdN (rSI_SPEED i) % 65536; active ∧ (s.on (fSI_CELL_STATUS_SLS_ON i) = true) ∧ (s.fld (fSI_SPD_CFG_SLS_LIM i) < vb) ∧ (bit (s.siC i).react 0 = false))) ∧
    (∃ (s : State) (c : Fin 4), (s.mute = false) ∧ (let i := c.val; let active := s.ist = iACTIVE; let sd := s.rdN (rSI_TORQUE i) % 65536; let dv := s.rdN (rSI_TORQUE i) / 65536; (¬ active ∨ s.on (fSI_CELL_STATUS_SLT_ON i) = false ∨ max dv sd ≤ s.fld (fSI_TQ_CFG_SLT_LIM i) ∨ bit (s.siC i).react 1 = true))) ∧
    (∃ (s : State) (c : Fin 4), (s.mute = false) ∧ (let i := c.val; let active := s.ist = iACTIVE; let sd := s.rdN (rSI_TORQUE i) % 65536; let dv := s.rdN (rSI_TORQUE i) / 65536; active ∧ (s.on (fSI_CELL_STATUS_SLT_ON i) = true) ∧ (s.fld (fSI_TQ_CFG_SLT_LIM i) < max dv sd) ∧ (bit (s.siC i).react 1 = false))) ∧
    (∃ (s : State) (c : Fin 4), (s.mute = false) ∧ (let i := c.val; let active := s.ist = iACTIVE; let tm := active ∧ s.on (fSI_CELL_CFG_TM_EN i) = true; (¬ tm))) ∧
    (∃ (s : State) (c : Fin 4) (imp : Bool), (s.mute = false) ∧ (let i := c.val; let active := s.ist = iACTIVE; let tm := active ∧ s.on (fSI_CELL_CFG_TM_EN i) = true; let sd := s.rdN (rSI_TORQUE i) % 65536; let dv := s.rdN (rSI_TORQUE i) / 65536; tm ∧ (s.diverseLost i = false) ∧ (s.sigmaLost i = false) ∧ (s.on (fSI_CELL_STATUS_SINGLE_PATH i) = false) ∧ (imp = false) ∧ (((sd : Int) - dv).natAbs ≤ s.fld (fSI_TM_CFG_TM_TOL i)))) ∧
    (∃ (s : State) (c : Fin 4) (imp : Bool), (s.mute = false) ∧ (let i := c.val; let active := s.ist = iACTIVE; let tm := active ∧ s.on (fSI_CELL_CFG_TM_EN i) = true; let sd := s.rdN (rSI_TORQUE i) % 65536; let dv := s.rdN (rSI_TORQUE i) / 65536; tm ∧ (s.diverseLost i = false) ∧ (s.sigmaLost i = false) ∧ (s.on (fSI_CELL_STATUS_SINGLE_PATH i) = false) ∧ (imp = true ∨ s.fld (fSI_TM_CFG_TM_TOL i) < ((sd : Int) - dv).natAbs) ∧ (bit (s.siC i).react 2 = false))) :=
  ⟨⟨(L0[0]'(by decide +kernel)).1, (L0[0]'(by decide +kernel)).2.1, by decide +kernel⟩,
    ⟨(L0[50]'(by decide +kernel)).1, (L0[50]'(by decide +kernel)).2.1, by decide +kernel⟩,
    ⟨(L0[0]'(by decide +kernel)).1, (L0[0]'(by decide +kernel)).2.1, by decide +kernel⟩,
    ⟨(L0[0]'(by decide +kernel)).1, (L0[0]'(by decide +kernel)).2.1, by decide +kernel⟩,
    ⟨(L2[2]'(by decide +kernel)).1, (L2[2]'(by decide +kernel)).2.1, (L2[2]'(by decide +kernel)).2.2.2.2.2.2, by decide +kernel⟩,
    ⟨(L2[0]'(by decide +kernel)).1, (L2[0]'(by decide +kernel)).2.1, (L2[0]'(by decide +kernel)).2.2.2.2.2.2, by decide +kernel⟩⟩
/-- Further clauses of `Obligations.SiMonitors`. -/
theorem test_hyps_SiMonitors_2 :
    (∃ (s : State) (c : Fin 4), (s.mute = false) ∧ (let i := c.val; let active := s.ist = iACTIVE; let tm := active ∧ s.on (fSI_CELL_CFG_TM_EN i) = true; let sd := s.rdN (rSI_TORQUE i) % 65536; let dv := s.rdN (rSI_TORQUE i) / 65536; tm ∧ (s.diverseLost i = false) ∧ (s.sigmaLost i = false) ∧ (s.on (fSI_CELL_STATUS_SINGLE_PATH i) = true) ∧ (2 * max dv sd ≤ s.fld (fSI_TQ_CFG_I_RATED i) + 2 * s.fld (fSI_TM_CFG_TM_TOL i)))) ∧
    (∃ (s : State) (c : Fin 4), (s.mute = false) ∧ (let i := c.val; let active := s.ist = iACTIVE; let tm := active ∧ s.on (fSI_CELL_CFG_TM_EN i) = true; let sd := s.rdN (rSI_TORQUE i) % 65536; let dv := s.rdN (rSI_TORQUE i) / 65536; tm ∧ (s.diverseLost i = false) ∧ (s.sigmaLost i = false) ∧ (s.on (fSI_CELL_STATUS_SINGLE_PATH i) = true) ∧ (s.fld (fSI_TQ_CFG_I_RATED i) + 2 * s.fld (fSI_TM_CFG_TM_TOL i) < 2 * max dv sd) ∧ (bit (s.siC i).react 3 = false))) ∧
    (∃ (s : State) (n : Fin 2), (s.mute = false) ∧ (let active := s.ist = iACTIVE; let q := s.si.sf; let sfOn := s.on fSI_SF_CFG_SF_EN = true ∧ active; let live := sfOn ∧ bit q.busOff n.val = false; (¬ live))) ∧
    (∃ (s : State) (n : Fin 2) (f : BitVec 512), (s.mute = false) ∧ (let active := s.ist = iACTIVE; let q := s.si.sf; let sfOn := s.on fSI_SF_CFG_SF_EN = true ∧ active; let live := sfOn ∧ bit q.busOff n.val = false; live ∧ (s.frameOk f = false))) ∧
    (∃ (s : State) (n : Fin 2) (f : BitVec 512), (s.mute = false) ∧ (let active := s.ist = iACTIVE; let q := s.si.sf; let sfOn := s.on fSI_SF_CFG_SF_EN = true ∧ active; let live := sfOn ∧ bit q.busOff n.val = false; live ∧ (s.frameOk f = true) ∧ (q.mode ≠ 1) ∧ (q.mode ≠ 2 + n.val) ∧ (q.acc = none))) ∧
    (∃ (s : State) (n : Fin 2) (f : BitVec 512), (s.mute = false) ∧ (let active := s.ist = iACTIVE; let q := s.si.sf; let sfOn := s.on fSI_SF_CFG_SF_EN = true ∧ active; let live := sfOn ∧ bit q.busOff n.val = false; let seq := frameHalf f 0; let old := s.rdN rSI_SF_SEQ % 65536; let dual := live ∧ s.frameOk f = true ∧ q.mode = 1; dual ∧ (q.any = true) ∧ (seq = old))) :=
  ⟨⟨(L2[4]'(by decide +kernel)).1, (L2[4]'(by decide +kernel)).2.1, by decide +kernel⟩,
    ⟨(L2[20]'(by decide +kernel)).1, (L2[20]'(by decide +kernel)).2.1, by decide +kernel⟩,
    ⟨(L0[50]'(by decide +kernel)).1, (L0[50]'(by decide +kernel)).2.2.1, by decide +kernel⟩,
    ⟨(L1[2]'(by decide +kernel)).1, (L1[2]'(by decide +kernel)).2.2.1, (L1[2]'(by decide +kernel)).2.2.2.1, by decide +kernel⟩,
    ⟨(L1[174]'(by decide +kernel)).1, (L1[174]'(by decide +kernel)).2.2.1, (L1[174]'(by decide +kernel)).2.2.2.1, by decide +kernel⟩,
    ⟨(L3[12]'(by decide +kernel)).1, (L3[12]'(by decide +kernel)).2.2.1, (L3[12]'(by decide +kernel)).2.2.2.1, by decide +kernel⟩⟩
/-- Further clauses of `Obligations.SiMonitors`. -/
theorem test_hyps_SiMonitors_3 :
    (∃ (s : State) (n : Fin 2) (f : BitVec 512), (s.mute = false) ∧ (let active := s.ist = iACTIVE; let q := s.si.sf; let sfOn := s.on fSI_SF_CFG_SF_EN = true ∧ active; let live := sfOn ∧ bit q.busOff n.val = false; let seq := frameHalf f 0; let old := s.rdN rSI_SF_SEQ % 65536; let dual := live ∧ s.frameOk f = true ∧ q.mode = 1; dual ∧ (¬ (q.any = true ∧ seq = old)) ∧ (q.held = none))) ∧
    (∃ (s : State) (n : Fin 2) (f : BitVec 512), (s.mute = false) ∧ (let active := s.ist = iACTIVE; let q := s.si.sf; let sfOn := s.on fSI_SF_CFG_SF_EN = true ∧ active; let live := sfOn ∧ bit q.busOff n.val = false; let seq := frameHalf f 0; let old := s.rdN rSI_SF_SEQ % 65536; let d := (seq + 65536 - old) % 65536; live ∧ (s.frameOk f = true) ∧ (q.mode = 2 + n.val) ∧ (¬ (q.any = true ∧ seq = old)) ∧ (q.held = none) ∧ (q.first = false) ∧ (d = 0 ∨ s.fld fSI_SF_CFG_SEQ_WIN < d))) ∧
    (∃ (s : State) (n : Fin 2) (f : BitVec 512) (dt : Nat) (tau : Nat), (s.mute = false) ∧ (let active := s.ist = iACTIVE; let q := s.si.sf; let now := max (if dt = 0 then 0 else islandSpeed dt) (islandSpeed tau); let sfOn := s.on fSI_SF_CFG_SF_EN = true ∧ active; let live := sfOn ∧ bit q.busOff n.val = false; let seq := frameHalf f 0; let old := s.rdN rSI_SF_SEQ % 65536; let d := (seq + 65536 - old) % 65536; let timing := (frameHalf f 2 + 65536 - q.accTs) % 65536 * 16 * usU; let apart := s.now - q.accAt; let late := 100 * (s.fld fSI_SF_CFG_TS_TOL * 16 * usU) + apart < 100 * ((timing : Int) - apart).natAbs; live ∧ (s.frameOk f = true) ∧ (q.mode = 2 + n.val) ∧ (¬ (q.any = true ∧ seq = old)) ∧ (q.held = none) ∧ (q.first = false) ∧ (d ≠ 0) ∧ (d ≤ s.fld fSI_SF_CFG_SEQ_WIN) ∧ late)) ∧
    (∃ (s : State) (n : Fin 2) (f : BitVec 512) (dt : Nat) (tau : Nat), (s.mute = false) ∧ (let active := s.ist = iACTIVE; let q := s.si.sf; let now := max (if dt = 0 then 0 else islandSpeed dt) (islandSpeed tau); let sfOn := s.on fSI_SF_CFG_SF_EN = true ∧ active; let live := sfOn ∧ bit q.busOff n.val = false; let seq := frameHalf f 0; let old := s.rdN rSI_SF_SEQ % 65536; let d := (seq + 65536 - old) % 65536; let timing := (frameHalf f 2 + 65536 - q.accTs) % 65536 * 16 * usU; let apart := s.now - q.accAt; let late := 100 * (s.fld fSI_SF_CFG_TS_TOL * 16 * usU) + apart < 100 * ((timing : Int) - apart).natAbs; live ∧ (s.frameOk f = true) ∧ (q.mode = 2 + n.val) ∧ (¬ (q.any = true ∧ seq = old)) ∧ (q.held = none) ∧ (q.first = false) ∧ (d ≠ 0) ∧ (d ≤ s.fld fSI_SF_CFG_SEQ_WIN) ∧ (¬ late))) ∧
    (∃ (s : State), (s.mute = false) ∧ (let q := s.si.sf; (q.held = none) ∧ (∀ x : SafetyFrame × Nat × Bool, q.acc = some x → x.2.2 = true))) ∧
    (∃ (s : State), (s.mute = false) ∧ (let active := s.ist = iACTIVE; let q := s.si.sf; let sfOn := s.on fSI_SF_CFG_SF_EN = true ∧ active; (¬ sfOn ∨ q.tmo = true))) :=
  ⟨⟨(L0[0]'(by decide +kernel)).1, (L0[0]'(by decide +kernel)).2.2.1, (L0[0]'(by decide +kernel)).2.2.2.1, by decide +kernel⟩,
    ⟨(L1[172]'(by decide +kernel)).1, (L1[172]'(by decide +kernel)).2.2.1, (L1[172]'(by decide +kernel)).2.2.2.1, by decide +kernel⟩,
    ⟨(L1[168]'(by decide +kernel)).1, (L1[168]'(by decide +kernel)).2.2.1, (L1[168]'(by decide +kernel)).2.2.2.1, (L1[168]'(by decide +kernel)).2.2.2.2.1, (L1[168]'(by decide +kernel)).2.2.2.2.2.1, by decide +kernel⟩,
    ⟨(L3[4]'(by decide +kernel)).1, (L3[4]'(by decide +kernel)).2.2.1, (L3[4]'(by decide +kernel)).2.2.2.1, (L3[4]'(by decide +kernel)).2.2.2.2.1, (L3[4]'(by decide +kernel)).2.2.2.2.2.1, by decide +kernel⟩,
    ⟨(L0[0]'(by decide +kernel)).1, by decide +kernel⟩,
    ⟨(L0[50]'(by decide +kernel)).1, by decide +kernel⟩⟩
/-- Further clauses of `Obligations.SiMonitors`. -/
theorem test_hyps_SiMonitors_4 :
    (∃ (s : State), (s.mute = false) ∧ (let active := s.ist = iACTIVE; let q := s.si.sf; let sfOn := s.on fSI_SF_CFG_SF_EN = true ∧ active; sfOn ∧ (q.tmo = false))) ∧
    (∃ (s : State), (s.mute = false) ∧ (s.on fSI_SF_CFG_SF_EN = false ∨ s.domOn 4 = false)) ∧
    (∃ (s : State), (s.mute = false) ∧ (s.on fSI_SF_CFG_SF_EN = true) ∧ (s.domOn 4 = true)) :=
  ⟨⟨(L0[0]'(by decide +kernel)).1, by decide +kernel⟩,
    ⟨(L0[0]'(by decide +kernel)).1, by decide +kernel⟩,
    ⟨(L0[50]'(by decide +kernel)).1, by decide +kernel⟩⟩
end Sys2Proof.Tests.W83

namespace Sys2Proof.Tests.W84
def b0 : State := ((State.reset.setF fPWR_STATUS_STATE psRUN).setB ⟨rPWR_DOM_ON 1, 25, 25⟩ true).setF (fCAN_CFG_ENABLE 1) 1 |>.setF (fCAN_CFG_BOFF_AUTO 1) 1 |>.setF (fCAN_MB_CFG_EN 1 9) 1 |>.setF (fCAN_MB_ID_V 1 9) 0x123 |>.setF (fCAN_MB_MASK_V 1 9) 0x1FFF |>.setF (fCAN_MB_CFG_SEQ_CHK 1 9) 1 |>.setF (fCAN_MB_CFG_EN 1 20) 1 |>.setF (fCAN_MB_FWD_FWD_Q 1 20) 0x205 |>.setF (fCAN_MB_ID_V 1 20) 0x7F |>.setF (fCAN_MB_MASK_V 1 20) 0x1FFFFFFF |>.setF (fCAN_MB_CFG_EN 1 30) 1 |>.setF (fCAN_MB_CFG_DIR 1 30) 1 |>.setF (fCAN_MB_ID_V 1 30) 0x400000 |>.setF (fCAN_MB_CFG_EN 1 31) 1 |>.setF (fCAN_MB_CFG_DIR 1 31) 1 |>.setF (fCAN_MB_CFG_TT 1 31) 1 |>.setF (fCAN_STS_CFG_CELLS 1) 6
def a (fcs lo nd pend os tt cmd : Nat) (q : CanCh) : State := ((((((b0.setF (fCAN_STATUS_FCS 1) fcs).setF (fCAN_CFG_LISTEN_ONLY 1) lo).setF (fCAN_MB_STAT_ND 1 9) nd).setF (fCAN_MB_STAT_ND 1 20) nd).setF (fCAN_MB_STAT_TXPEND 1 30) pend).setF (fCAN_MB_CFG_ONESHOT 1 30) os).setF (fCAN_CFG_TT_EN 1) tt |>.wrN (rCAN_CMD 1) cmd |>.setF (fCAN_STS_CFG_STS_EN 1) (tt+os) |>.modCan 1 (fun _ => q) |>.setF (fCAN_MB_STAT_TXPEND 1 4) pend
def fr0 : CanFrame := { ident := 0x123, ide := false, fdf := false, brs := false, esi := false, rtr := false, dlc := 3, data := 0x05040302010005 }
def qs : List CanCh := [CanCh.init, { CanCh.init with tec := 254, rxe := 90, seqRef := [(9, 6)], excl := [(30, 5), (20, 7)] }, { CanCh.init with tec := 127, rxe := 127, seqRef := [(9, 5)], bus := some { buf := some 30, frame := fr0, aborted := false, again := true } }, { CanCh.init with bus := some { buf := some 30, frame := fr0, aborted := true, again := false } }, { CanCh.init with refPend := true }, { CanCh.init with bus := some { buf := none, frame := fr0, aborted := false, again := false } }]
def st : List State := [0,1,2,3].flatMap fun fcs => [0,1].flatMap fun lo => [(0,1,1,0,0), (1,0,0,0,0x30001),(1,1,0,1,0)].flatMap fun (nd, pe, os, tt, cmd) => qs.map fun q => a fcs lo nd pe os tt cmd q
def th7 (l : List State) (m r : Nat) : List State := (l.zipIdx.filter (fun x => x.2 % m = r)).map Prod.fst
abbrev T := State × Fin 4 × Fin 128 × Fin 16 × Fin 4 × Quad × Word × CanFrame × BitVec 40 × BitVec 8 × Fin 9 × Fin 7 × Bool × Bool
def chk (s : State) (ch : Fin 4) (x : Fin 128) (k : Fin 16) (c : Fin 4) (p : Quad) (v : Word) (f : CanFrame) (sof : BitVec 40) (tdcv : BitVec 8) (step : Fin 9) (lec : Fin 7) (tx : Bool) (data : Bool) : List T := [(s, ch, x, k, c, p, v, f, sof, tdcv, step, lec, tx, data)]
def merge (l : List (List T)) : List T := l.flatten
def L0 : List T := merge ((th7 st 3 0).map fun s => chk s 1 30 3 1 30 0xABCD fr0 12345678901 44 8 3 true false)
def L1 : List T := merge ((th7 st 3 1).map fun s => chk s 1 31 3 2 9 0xABCD { fr0 with ident := 0x7F, dlc := 12 } 12345678901 44 1 3 false true)
def L2 : List T := merge ((th7 st 3 2).map fun s => chk s 1 4 3 1 0x0807060504030201_031E 0xABCD { fr0 with ident := 0x99 } 12345678901 44 8 3 true false)
def L5 : List T := merge ([CanCh.init, { CanCh.init with refPend := true }].flatMap fun q => [0, 3].map fun l => chk ((a 0 0 0 1 0 1 0 q).setTtLevel 1 l) 1 30 3 1 0xFF1E 0xABCD fr0 12345678901 44 2 3 true true)
/-- The hypotheses of `Obligations.CanBus`, clause by clause, can be met. -/
theorem test_hyps_CanBus_0 :
    (∃ (s : State) (ch : Fin 4), (s.mute = false) ∧ (let n := ch.val; let onBus := s.canOnBus n = true; (¬ onBus))) ∧
    (∃ (s : State) (ch : Fin 4), (s.mute = false) ∧ (let n := ch.val; let live := s.canLive n = true; (¬ (live ∧ s.fcs n = fcOFF ∧ s.on (fCAN_CFG_BOFF_AUTO n) = true)))) ∧
    (∃ (s : State) (ch : Fin 4), (s.mute = false) ∧ (let n := ch.val; let live := s.canLive n = true; live ∧ (s.fcs n = fcOFF) ∧ (s.on (fCAN_CFG_BOFF_AUTO n) = true))) ∧
    (∃ (s : State) (ch : Fin 4), (s.mute = false) ∧ (let n := ch.val; let live := s.canLive n = true; (¬ (live ∧ s.fcs n = fcRECOVER)))) ∧
    (∃ (s : State) (ch : Fin 4), (s.mute = false) ∧ (let n := ch.val; let live := s.canLive n = true; live ∧ (s.fcs n = fcRECOVER))) ∧
    (∃ (s : State) (ch : Fin 4), (s.mute = false) ∧ (let n := ch.val; let cmd := rCAN_CMD n; (CmdReady s cmd) ∧ (s.fcs n ≠ fcOFF ∨ s.domOn (56 + n) = false))) :=
  ⟨⟨(L0[24]'(by decide +kernel)).1, (L0[24]'(by decide +kernel)).2.1, by decide +kernel⟩,
    ⟨(L1[2]'(by decide +kernel)).1, (L1[2]'(by decide +kernel)).2.1, by decide +kernel⟩,
    ⟨(L0[24]'(by decide +kernel)).1, (L0[24]'(by decide +kernel)).2.1, by decide +kernel⟩,
    ⟨(L0[24]'(by decide +kernel)).1, (L0[24]'(by decide +kernel)).2.1, by decide +kernel⟩,
    ⟨(L2[36]'(by decide +kernel)).1, (L2[36]'(by decide +kernel)).2.1, by decide +kernel⟩,
    ⟨(L1[2]'(by decide +kernel)).1, (L1[2]'(by decide +kernel)).2.1, by (repeat' first | apply And.intro | apply CmdReady.mk); all_goals first | decide +kernel | (intro _; rfl)⟩⟩
/-- Further clauses of `Obligations.CanBus`. -/
theorem test_hyps_CanBus_1 :
    (∃ (s : State) (ch : Fin 4), (s.mute = false) ∧ (let n := ch.val; let cmd := rCAN_CMD n; (CmdReady s cmd) ∧ (s.fcs n = fcOFF) ∧ (s.domOn (56 + n) = true))) ∧
    (∃ (s : State) (ch : Fin 4) (f : CanFrame), (s.mute = false) ∧ (let n := ch.val; let onBus := s.canOnBus n = true; (¬ onBus ∨ (f.fdf = true ∧ s.on (fCAN_CFG_FD_EN n) = false)))) ∧
    (∃ (s : State) (ch : Fin 4) (f : CanFrame), (s.mute = false) ∧ (let n := ch.val; let q := s.canC n; let onBus := s.canOnBus n = true; onBus ∧ (f.fdf = false ∨ s.on (fCAN_CFG_FD_EN n) = true) ∧ (q.rxe ≤ 127) ∧ (q.tec ≤ 255))) ∧
    (∃ (s : State) (ch : Fin 4) (x : Fin 128), (s.mute = false) ∧ (let n := ch.val; let b := x.val; let cmd := rCAN_CMD n; (CmdReady s cmd) ∧ (s.canReserved n b = true))) ∧
    (∃ (s : State) (ch : Fin 4) (x : Fin 128), (s.mute = false) ∧ (let n := ch.val; let b := x.val; let cmd := rCAN_CMD n; (CmdReady s cmd) ∧ (s.canReserved n b = false) ∧ (s.canTxBuf n b = false ∨ s.on (fCAN_MB_CFG_TT n b) = true))) ∧
    (∃ (s : State) (ch : Fin 4) (x : Fin 128), (s.mute = false) ∧ (let n := ch.val; let b := x.val; let cmd := rCAN_CMD n; (CmdReady s cmd) ∧ (s.canReserved n b = false) ∧ (s.canTxBuf n b = true) ∧ (s.on (fCAN_MB_CFG_TT n b) = false))) :=
  ⟨⟨(L0[24]'(by decide +kernel)).1, (L0[24]'(by decide +kernel)).2.1, by (repeat' first | apply And.intro | apply CmdReady.mk); all_goals first | decide +kernel | (intro _; rfl)⟩,
    ⟨(L0[24]'(by decide +kernel)).1, (L0[24]'(by decide +kernel)).2.1, (L0[24]'(by decide +kernel)).2.2.2.2.2.2.2.1, by decide +kernel⟩,
    ⟨(L1[2]'(by decide +kernel)).1, (L1[2]'(by decide +kernel)).2.1, (L1[2]'(by decide +kernel)).2.2.2.2.2.2.2.1, by decide +kernel⟩,
    ⟨(L2[36]'(by decide +kernel)).1, (L2[36]'(by decide +kernel)).2.1, (L2[36]'(by decide +kernel)).2.2.1, by (repeat' first | apply And.intro | apply CmdReady.mk); all_goals first | decide +kernel | (intro _; rfl)⟩,
    ⟨(L1[2]'(by decide +kernel)).1, (L1[2]'(by decide +kernel)).2.1, (L1[2]'(by decide +kernel)).2.2.1, by (repeat' first | apply And.intro | apply CmdReady.mk); all_goals first | decide +kernel | (intro _; rfl)⟩,
    ⟨(L0[24]'(by decide +kernel)).1, (L0[24]'(by decide +kernel)).2.1, (L0[24]'(by decide +kernel)).2.2.1, by (repeat' first | apply And.intro | apply CmdReady.mk); all_goals first | decide +kernel | (intro _; rfl)⟩⟩
/-- Further clauses of `Obligations.CanBus`. -/
theorem test_hyps_CanBus_2 :
    (∃ (s : State) (ch : Fin 4) (p : Quad), (s.mute = false) ∧ (let n := ch.val; (s.canAccepts n 0x10 p = false))) ∧
    (∃ (s : State) (ch : Fin 4) (p : Quad), (s.mute = false) ∧ (let n := ch.val; (s.canAccepts n 0x10 p = true))) ∧
    (∃ (s : State) (ch : Fin 4) (p : Quad), (s.mute = false) ∧ (let n := ch.val; (s.canAccepts n 0x12 p = false))) ∧
    (∃ (s : State) (ch : Fin 4) (p : Quad), (s.mute = false) ∧ (let n := ch.val; (s.canAccepts n 0x12 p = true))) ∧
    (∃ (s : State) (ch : Fin 4) (p : Quad), (s.mute = false) ∧ (let n := ch.val; (s.canAccepts n 0x11 p = false))) ∧
    (∃ (s : State) (ch : Fin 4) (x : Fin 128) (p : Quad), (s.mute = false) ∧ (let n := ch.val; let b := x.val; (s.canAccepts n 0x11 p = true) ∧ (s.txPend n (p.b 0) = true))) :=
  ⟨⟨(L1[2]'(by decide +kernel)).1, (L1[2]'(by decide +kernel)).2.1, (L1[2]'(by decide +kernel)).2.2.2.2.2.1, by decide +kernel⟩,
    ⟨(L0[24]'(by decide +kernel)).1, (L0[24]'(by decide +kernel)).2.1, (L0[24]'(by decide +kernel)).2.2.2.2.2.1, by decide +kernel⟩,
    ⟨(L1[2]'(by decide +kernel)).1, (L1[2]'(by decide +kernel)).2.1, (L1[2]'(by decide +kernel)).2.2.2.2.2.1, by decide +kernel⟩,
    ⟨(L0[24]'(by decide +kernel)).1, (L0[24]'(by decide +kernel)).2.1, (L0[24]'(by decide +kernel)).2.2.2.2.2.1, by decide +kernel⟩,
    ⟨(L1[2]'(by decide +kernel)).1, (L1[2]'(by decide +kernel)).2.1, (L1[2]'(by decide +kernel)).2.2.2.2.2.1, by decide +kernel⟩,
    ⟨(L0[24]'(by decide +kernel)).1, (L0[24]'(by decide +kernel)).2.1, (L0[24]'(by decide +kernel)).2.2.1, (L0[24]'(by decide +kernel)).2.2.2.2.2.1, by decide +kernel⟩⟩
/-- Further clauses of `Obligations.CanBus`. -/
theorem test_hyps_CanBus_3 :
    (∃ (s : State) (ch : Fin 4) (x : Fin 128) (p : Quad), (s.mute = false) ∧ (let n := ch.val; let b := x.val; (s.canAccepts n 0x11 p = true) ∧ (s.txPend n (p.b 0) = false))) ∧
    (∃ (s : State) (ch : Fin 4) (x : Fin 128), (s.mute = false) ∧ (let n := ch.val; let b := x.val; (s.inBiv = true ∨ s.on (fCAN_MB_CFG_DIR n b) = false ∨ s.canReserved n b = true))) ∧
    (∃ (s : State) (ch : Fin 4) (x : Fin 128), (s.mute = false) ∧ (let n := ch.val; let b := x.val; (s.inBiv = false) ∧ (s.on (fCAN_MB_CFG_DIR n b) = true) ∧ (s.canReserved n b = false))) ∧
    (∃ (s : State) (ch : Fin 4) (c : Fin 4), (s.mute = false) ∧ (let n := ch.val; let due := s.on (fCAN_STS_CFG_STS_EN n) = true ∧ bit (s.fld (fCAN_STS_CFG_CELLS n)) c.val = true ∧ (s.ps = psREADY ∨ s.running = true); (¬ due))) ∧
    (∃ (s : State) (ch : Fin 4) (c : Fin 4), (s.mute = false) ∧ (let n := ch.val; let due := s.on (fCAN_STS_CFG_STS_EN n) = true ∧ bit (s.fld (fCAN_STS_CFG_CELLS n)) c.val = true ∧ (s.ps = psREADY ∨ s.running = true); due)) ∧
    (∃ (s : State) (ch : Fin 4), (s.mute = false) ∧ (let n := ch.val; let q := s.canC n; let onBus := s.canOnBus n = true; (¬ onBus ∨ s.on (fCAN_CFG_LISTEN_ONLY n) = true ∨ q.bus.isSome = true))) :=
  ⟨⟨(L0[2]'(by decide +kernel)).1, (L0[2]'(by decide +kernel)).2.1, (L0[2]'(by decide +kernel)).2.2.1, (L0[2]'(by decide +kernel)).2.2.2.2.2.1, by decide +kernel⟩,
    ⟨(L2[36]'(by decide +kernel)).1, (L2[36]'(by decide +kernel)).2.1, (L2[36]'(by decide +kernel)).2.2.1, by decide +kernel⟩,
    ⟨(L0[24]'(by decide +kernel)).1, (L0[24]'(by decide +kernel)).2.1, (L0[24]'(by decide +kernel)).2.2.1, by decide +kernel⟩,
    ⟨(L1[2]'(by decide +kernel)).1, (L1[2]'(by decide +kernel)).2.1, (L1[2]'(by decide +kernel)).2.2.2.2.1, by decide +kernel⟩,
    ⟨(L0[24]'(by decide +kernel)).1, (L0[24]'(by decide +kernel)).2.1, (L0[24]'(by decide +kernel)).2.2.2.2.1, by decide +kernel⟩,
    ⟨(L0[24]'(by decide +kernel)).1, (L0[24]'(by decide +kernel)).2.1, by decide +kernel⟩⟩
/-- Further clauses of `Obligations.CanBus`. -/
theorem test_hyps_CanBus_4 :
    (∃ (s : State) (ch : Fin 4), (s.mute = false) ∧ (let n := ch.val; let q := s.canC n; let onBus := s.canOnBus n = true; onBus ∧ (s.on (fCAN_CFG_LISTEN_ONLY n) = false) ∧ (q.bus = none) ∧ (s.canTT n = false ∨ s.ttLevel n ≠ 3))) ∧
    (∃ (s : State) (ch : Fin 4), (s.mute = false) ∧ (let n := ch.val; let q := s.canC n; let onBus := s.canOnBus n = true; onBus ∧ (s.on (fCAN_CFG_LISTEN_ONLY n) = false) ∧ (q.bus = none) ∧ (s.canTT n = true) ∧ (s.ttLevel n = 3))) :=
  ⟨⟨(L1[2]'(by decide +kernel)).1, (L1[2]'(by decide +kernel)).2.1, by decide +kernel⟩,
    ⟨(L5[1]'(by decide +kernel)).1, (L5[1]'(by decide +kernel)).2.1, by decide +kernel⟩⟩
end Sys2Proof.Tests.W84

namespace Sys2Proof.Tests.W85
def b0 : State := ((State.reset.setF fPWR_STATUS_STATE psRUN).setB ⟨rPWR_DOM_ON 1, 25, 25⟩ true).setF (fCAN_CFG_ENABLE 1) 1 |>.setF (fCAN_TT_TIMING_NTU 1) 100 |>.setF (fCAN_TT_TIMING_CYCLE_LEN 1) 300 |> fun s => { s with clk := { s.clk with counting := true, count := 12345678 } }
def a (tt lv ma me ty cmd : Nat) (q : CanCh) : State := (((((b0.setF (fCAN_CFG_TT_EN 1) tt).setF (fCAN_STATUS_TTLEVEL 1) lv).setF (fCAN_STATUS_TTMASTER 1) ma).setF (fCAN_TT_CFG_MASTER_EN 1) me).wrN (rCAN_TRIG 1 10) (50*65536)).wrN (rCAN_TRIG 1 11) (2^31 + ty * 2^28 + 30) |>.wrN (rCAN_TRIG 1 12) (90*65536) |>.wrN (rCAN_TRIG 1 13) (2^31 + ty * 2^28 + 30) |>.wrN (rCAN_CMD 1) cmd |>.modCan 1 (fun _ => q)
def qs : List CanCh := [CanCh.init, { CanCh.init with sync := 44, count := 4, excl := [(30, 5), (31, 6)], taken := [(30, 2)], seen := [(5, 3)], runs := [(5, 1)] }, { CanCh.init with sync := 44, count := 4, excl := [(30, 5), (31, 6)], taken := [(30, 2)], seen := [(5, 2)] }, { CanCh.init with sync := 4, exclStop := true, refSeen := true }]
def st : List State := [0,1].flatMap fun tt => [0,1,2,3].flatMap fun lv => [(0,0),(0,1),(1,1)].flatMap fun (ma, me) => [0,1,2,3].flatMap fun ty => qs.map fun q => a tt lv ma me ty 0 q
abbrev T := State × Fin 4 × Fin 256
def chk (s : State) (ch : Fin 4) (x : Fin 256) : List T := [(s, ch, x)]
def merge (l : List (List T)) : List T := l.flatten
def L0 : List T := merge (st.map fun s => chk s 1 5)
/-- The hypotheses of `Obligations.CanTimeTriggered`, clause by clause, can be met. -/
theorem test_hyps_CanTimeTriggered_0 :
    (∃ (s : State) (ch : Fin 4), (s.mute = false) ∧ (let n := ch.val; let lv := s.ttLevel n; let runs := s.canTT n = true ∧ lv ≠ 3 ∧ s.clk.counting = true; (¬ runs))) ∧
    (∃ (s : State) (ch : Fin 4), (s.mute = false) ∧ (let n := ch.val; let q := s.canC n; let lv := s.ttLevel n; let runs := s.canTT n = true ∧ lv ≠ 3 ∧ s.clk.counting = true; let master := s.on (fCAN_STATUS_TTMASTER n); runs ∧ (s.on (fCAN_TT_CFG_MASTER_EN n) = false ∨ master = true ∨ q.refSeen = true))) ∧
    (∃ (s : State) (ch : Fin 4), (s.mute = false) ∧ (let n := ch.val; let q := s.canC n; let lv := s.ttLevel n; let runs := s.canTT n = true ∧ lv ≠ 3 ∧ s.clk.counting = true; let master := s.on (fCAN_STATUS_TTMASTER n); runs ∧ (s.on (fCAN_TT_CFG_MASTER_EN n) = true) ∧ (master = false) ∧ (q.refSeen = false))) ∧
    (∃ (s : State) (ch : Fin 4) (x : Fin 256), (s.mute = false) ∧ (let n := ch.val; let t0 := x.val; (s.trigActs n t0 = false ∨ 3 ≤ s.trigType n t0))) ∧
    (∃ (s : State) (ch : Fin 4) (x : Fin 256), (s.mute = false) ∧ (let n := ch.val; let t0 := x.val; let q := s.canC n; (s.trigActs n t0 = true) ∧ (s.trigType n t0 = 0) ∧ (q.exclStop = true))) ∧
    (∃ (s : State) (ch : Fin 4) (x : Fin 256), (s.mute = false) ∧ (let n := ch.val; let t0 := x.val; let q := s.canC n; (s.trigActs n t0 = true) ∧ (s.trigType n t0 = 0) ∧ (q.exclStop = false))) :=
  ⟨⟨(L0[0]'(by decide +kernel)).1, (L0[0]'(by decide +kernel)).2.1, by decide +kernel⟩,
    ⟨(L0[193]'(by decide +kernel)).1, (L0[193]'(by decide +kernel)).2.1, by decide +kernel⟩,
    ⟨(L0[213]'(by decide +kernel)).1, (L0[213]'(by decide +kernel)).2.1, by decide +kernel⟩,
    ⟨(L0[0]'(by decide +kernel)).1, (L0[0]'(by decide +kernel)).2.1, (L0[0]'(by decide +kernel)).2.2, by decide +kernel⟩,
    ⟨(L0[195]'(by decide +kernel)).1, (L0[195]'(by decide +kernel)).2.1, (L0[195]'(by decide +kernel)).2.2, by decide +kernel⟩,
    ⟨(L0[193]'(by decide +kernel)).1, (L0[193]'(by decide +kernel)).2.1, (L0[193]'(by decide +kernel)).2.2, by decide +kernel⟩⟩
/-- Further clauses of `Obligations.CanTimeTriggered`. -/
theorem test_hyps_CanTimeTriggered_1 :
    (∃ (s : State) (ch : Fin 4) (x : Fin 256), (s.mute = false) ∧ (let n := ch.val; let t0 := x.val; let q := s.canC n; (s.trigActs n t0 = true) ∧ (s.trigType n t0 = 1) ∧ (let now := q.taken.at 0 (s.trigBuf n t0) + 1; (q.seen.at 0 t0 ≠ now)))) ∧
    (∃ (s : State) (ch : Fin 4) (x : Fin 256), (s.mute = false) ∧ (let n := ch.val; let t0 := x.val; let q := s.canC n; (s.trigActs n t0 = true) ∧ (s.trigType n t0 = 1) ∧ (let now := q.taken.at 0 (s.trigBuf n t0) + 1; (q.seen.at 0 t0 = now)))) ∧
    (∃ (s : State) (ch : Fin 4) (x : Fin 256), (s.mute = false) ∧ (let n := ch.val; let t0 := x.val; (s.trigActs n t0 = true) ∧ (s.trigType n t0 = 2))) ∧
    (∃ (s : State) (ch : Fin 4) (x : Fin 256), (s.mute = false) ∧ (let n := ch.val; let t0 := x.val; let q := s.canC n; (q.excl.find? (fun e => e.2 == t0) = none))) ∧
    (∃ (s : State) (ch : Fin 4), (s.mute = false) ∧ (let n := ch.val; let lv := s.ttLevel n; (s.canTT n = false ∨ lv = 3))) ∧
    (∃ (s : State) (ch : Fin 4), (s.mute = false) ∧ (let n := ch.val; let lv := s.ttLevel n; (s.canTT n = true) ∧ (lv ≠ 3))) :=
  ⟨⟨(L0[198]'(by decide +kernel)).1, (L0[198]'(by decide +kernel)).2.1, (L0[198]'(by decide +kernel)).2.2, by decide +kernel⟩,
    ⟨(L0[213]'(by decide +kernel)).1, (L0[213]'(by decide +kernel)).2.1, (L0[213]'(by decide +kernel)).2.2, by decide +kernel⟩,
    ⟨(L0[201]'(by decide +kernel)).1, (L0[201]'(by decide +kernel)).2.1, (L0[201]'(by decide +kernel)).2.2, by decide +kernel⟩,
    ⟨(L0[0]'(by decide +kernel)).1, (L0[0]'(by decide +kernel)).2.1, (L0[0]'(by decide +kernel)).2.2, by decide +kernel⟩,
    ⟨(L0[0]'(by decide +kernel)).1, (L0[0]'(by decide +kernel)).2.1, by decide +kernel⟩,
    ⟨(L0[193]'(by decide +kernel)).1, (L0[193]'(by decide +kernel)).2.1, by decide +kernel⟩⟩
/-- Further clauses of `Obligations.CanTimeTriggered`. -/
theorem test_hyps_CanTimeTriggered_2 :
    (∃ (s : State) (ch : Fin 4), (s.mute = false) ∧ (let n := ch.val; let cmd := rCAN_CMD n; (CmdReady s cmd) ∧ (s.on (fCAN_CFG_TT_EN n) = false))) ∧
    (∃ (s : State) (ch : Fin 4), (s.mute = false) ∧ (let n := ch.val; let q := s.canC n; let cmd := rCAN_CMD n; (CmdReady s cmd) ∧ (s.on (fCAN_CFG_TT_EN n) = true) ∧ (∀ e ∈ q.excl, e.1 < 128))) :=
  ⟨⟨(L0[0]'(by decide +kernel)).1, (L0[0]'(by decide +kernel)).2.1, by (repeat' first | apply And.intro | apply CmdReady.mk); all_goals first | decide +kernel | (intro _; rfl)⟩,
    ⟨(L0[193]'(by decide +kernel)).1, (L0[193]'(by decide +kernel)).2.1, by (repeat' first | apply And.intro | apply CmdReady.mk); all_goals first | decide +kernel | (intro _; rfl)⟩⟩
end Sys2Proof.Tests.W85

namespace Sys2Proof.Tests.W86
abbrev OD := Option (BitVec 16)
def b0 : State := ((State.reset.setF fPWR_STATUS_STATE psRUN).setF fSI_STATUS_ISTATE 1) |>.setF (fEDG_LEG_CFG_TYPE 2) 1 |>.setF (fEDG_LEG_CFG_CELL 2) 1 |>.setF (fEDG_LEG_CFG_BASE 2) 4 |>.setF (fEDG_LEG_CFG_TYPE 3) 1 |>.setF (fEDG_LEG_CFG_CELL 3) 2 |>.setF (fEDG_LEG_CFG_BASE 3) 6 |>.setF (fHK_TEMP_CFG_TYPE 1) 2 |>.setF (fHK_TEMP_CFG_TYPE 2) 1 |>.setF (fHK_TEMP_CFG_CELLS 1) 2 |>.setF (fHK_CFG_THR_FLOOR) 4 |>.setF (fBND_LIMITS_IMAX 1) 3000 |>.setF (fHK_TEMP_PAR_B 2) 3900 |>.setF (fHK_TEMP_PAR_R25 2) 1000 |> fun s => { s with clk := { s.clk with counting := true, count := 2^45 } }
def r0 : Raise := { time := 44, epoch := 1, code := 0x0601, uidx := 4, detail := 7, stop := false }
def a (ps mpl slot step ovr tmax tsd : Nat) (q : HkSt) (l : List Raise) : State := ((((((b0.setF fPWR_STATUS_STATE ps).setF fSI_STATUS_MP_LOST mpl).setF fHK_STATUS_SLOT slot).setF (fHK_THROTTLE_STEP 1) step).setF (fHK_TEMP_VAL_OVER 1) ovr).setF fFLT_CFG_BIV_TMAX tmax).setF fHK_TSD_TRIPPED tsd |>.setCst 1 (if tmax = 0 then 3 else 2) |>.setCst 2 2 |>.setB ⟨rPWR_DOM_ON 0, 1, 1⟩ true |>.setB ⟨rPWR_DOM_ON 0, 2, 2⟩ true |>.setB ⟨rPWR_DOM_ON 0, 8, 8⟩ true |>.setF (fHK_TEMP_VAL_INVALID 1) ovr |>.modGate 4 (fun q => { q with waiting := true, gse := true, sen := true }) |> fun s => { s with hk := q, flt := { s.flt with raised := l }, pwr := { s.pwr with powered := true } }
def hs : List HkSt := [HkSt.init, { HkSt.init with rel := [(1, 99)], dieBelow := true, hot := 2, reads := 1000000 }, { HkSt.init with dieOver := true, deferred := true, hot := 1, reads := 5 }]
def ls : List (List Raise) := [[], [r0], [{ r0 with time := 50 }, { r0 with code := 0x0F01, uidx := 3 }, { r0 with code := 0x0602 }], [{ r0 with code := 0x06F0 }, { r0 with code := 0x06F0 }]]
def xs : List (Nat × HkTask) := [(0, .die (some 700)), (0, .die (some 0xFEA0)), (0, .die none), (2, .temp (some 1000000)), (2, .temp none), (3, .temp (some 10000000)), (18, .rail 5), (26, .ref), (63, .idle), (29, .evaluate), (56, .clocks), (45, .sar false)]
def st : List (State × HkTask) := [(psRUN, 0), (psREADY, 1), (psPITCH, 1), (5, 1), (psHALT, 1)].flatMap fun (ps, mpl) => [(16, 1, 0, 1), (3, 0, 4, 0)].flatMap fun (step, ov, tm, tsd) => hs.flatMap fun q => ls.flatMap fun l => xs.map fun (k, x) => (a ps mpl k step ov tm tsd q l, x)
def th7 {α} (l : List α) (m r : Nat) : List α := (l.zipIdx.filter (fun x => x.2 % m = r)).map Prod.fst
abbrev T := State × HkTask × OD
def chk (s : State) (x : HkTask) (d : OD) : List T := [(s, x, d)]
def merge (l : List (List T)) : List T := l.flatten
def L0 : List T := merge ((th7 st 13 1).map fun (s, x) => chk s x (some 2200))
def L2 : List T := merge ((th7 st 29 3).map fun (s, x) => chk s x none)
def L3 : List T := merge ((th7 st 29 4).map fun (s, x) => chk { s with pwr := { s.pwr with prelude := some (3, 1) } } x none)
def L4 : List T := merge ((th7 st 199 5).map fun (s, x) => chk (s.setDom 1 false) x (some 2200))
/-- The hypotheses of `Obligations.FaultsAndHousekeeping`, clause by clause, can be met. -/
theorem test_hyps_FaultsAndHousekeeping_0 :
    (∃ (s : State), let lit := s.mute = false; lit ∧ (s.flt.raised = [])) ∧
    (∃ (s : State), let lit := s.mute = false; let biv := s.inBiv = true; lit ∧ (s.on fSI_STATUS_MP_LOST = false ∨ biv)) ∧
    (∃ (s : State), let lit := s.mute = false; lit ∧ (s.on fSI_STATUS_MP_LOST = true) ∧ (s.ps = psRUN ∨ s.ps = psREADY)) ∧
    (∃ (s : State), let lit := s.mute = false; lit ∧ (s.on fSI_STATUS_MP_LOST = true) ∧ (s.ps = psHALT)) ∧
    (∃ (s : State), let lit := s.mute = false; lit ∧ (s.on fSI_STATUS_MP_LOST = true) ∧ (s.ps = psPITCH)) ∧
    (∃ (s : State), let lit := s.mute = false; let biv := s.inBiv = true; lit ∧ (¬ biv)) :=
  ⟨⟨(L0[0]'(by decide +kernel)).1, by decide +kernel⟩,
    ⟨(L0[0]'(by decide +kernel)).1, by decide +kernel⟩,
    ⟨(L3[10]'(by decide +kernel)).1, by decide +kernel⟩,
    ⟨(L0[89]'(by decide +kernel)).1, by decide +kernel⟩,
    ⟨(L4[3]'(by decide +kernel)).1, by decide +kernel⟩,
    ⟨(L0[0]'(by decide +kernel)).1, by decide +kernel⟩⟩
/-- Further clauses of `Obligations.FaultsAndHousekeeping`. -/
theorem test_hyps_FaultsAndHousekeeping_1 :
    (∃ (s : State), let lit := s.mute = false; let biv := s.inBiv = true; lit ∧ biv ∧ (s.fld fFLT_CFG_BIV_TMAX = 0)) ∧
    (∃ (s : State), let lit := s.mute = false; let biv := s.inBiv = true; lit ∧ biv ∧ (s.fld fFLT_CFG_BIV_TMAX ≠ 0)) ∧
    (∃ (s : State) (x : HkTask), let lit := s.mute = false; let biv := s.inBiv = true; let k := s.fld fHK_STATUS_SLOT; let slotRuns := lit ∧ ¬ biv ∧ s.domOn 1 = true ∧ s.domOn 2 = true ∧ taskFits k x = true; lit ∧ (¬ slotRuns)) ∧
    (∃ (s : State) (x : HkTask), let lit := s.mute = false; let biv := s.inBiv = true; let k := s.fld fHK_STATUS_SLOT; let slotRuns := lit ∧ ¬ biv ∧ s.domOn 1 = true ∧ s.domOn 2 = true ∧ taskFits k x = true; slotRuns) ∧
    (∃ (s : State) (d : OD), (s.pwr.prelude.isSome = true) ∧ (∀ v, d = some v → 1760 ≤ v.toInt)) ∧
    (∃ (s : State), (s.pwr.prelude = none) ∧ (s.mute = true ∨ s.domOn 1 = false)) :=
  ⟨⟨(L0[67]'(by decide +kernel)).1, by decide +kernel⟩,
    ⟨(L2[35]'(by decide +kernel)).1, by decide +kernel⟩,
    ⟨(L2[35]'(by decide +kernel)).1, (L2[35]'(by decide +kernel)).2.1, by decide +kernel⟩,
    ⟨(L0[0]'(by decide +kernel)).1, (L0[0]'(by decide +kernel)).2.1, by decide +kernel⟩,
    ⟨(L3[10]'(by decide +kernel)).1, (L3[10]'(by decide +kernel)).2.2, by decide +kernel⟩,
    ⟨(L4[3]'(by decide +kernel)).1, by decide +kernel⟩⟩
/-- Further clauses of `Obligations.FaultsAndHousekeeping`. -/
theorem test_hyps_FaultsAndHousekeeping_2 :
    (∃ (s : State) (d : OD), let lit := s.mute = false; (s.pwr.prelude = none) ∧ lit ∧ (s.domOn 1 = true) ∧ (s.on fHK_TSD_TRIPPED = false) ∧ (d = none)) ∧
    (∃ (s : State), let lit := s.mute = false; (s.pwr.prelude = none) ∧ lit ∧ (s.domOn 1 = true) ∧ (s.on fHK_TSD_TRIPPED = true)) :=
  ⟨⟨(L2[35]'(by decide +kernel)).1, (L2[35]'(by decide +kernel)).2.2, by decide +kernel⟩,
    ⟨(L0[0]'(by decide +kernel)).1, by decide +kernel⟩⟩
end Sys2Proof.Tests.W86

namespace Sys2Proof.Tests.W87
def b0 : State := ((State.reset.setF fPWR_STATUS_STATE psRUN).setF fSI_STATUS_ISTATE 1) |>.setB ⟨rPWR_DOM_ON 0, 2, 2⟩ true |>.setB ⟨rPWR_DOM_ON 0, 8, 8⟩ true |>.wrN rPCH_PCC 7 |>.setF (fCAN_MB_STAT_CNT 1 9) 5 |>.setF (fCAN_MB_STAT_ND 1 9) 1 |>.wrN (rPCH_SPMAP 0) (1 + 9*256 + 2 * 2^24) |>.wrN (rPCH_SPMAP 1) 0x01100205 |>.wrN (rPCH_SPMAP 2) (4096) |>.wrN (rPCH_SPMAP 3) 0x7FFF8000 |>.wrN (rPCH_SPMAP 4) 0x00010005 |>.wrN (rPCH_SPMAP 8) (0x10 + 9*256) |>.wrN (rPCH_SPMAP 9) 0x00100205 |>.wrN (rPCH_SPMAP 12) 5 |> fun s => { s with clk := { s.clk with counting := true, count := 12345678 }, hq := { s.hq with loaded := true } }
def d0 : Desc := { uid := 77, floor := 3, stA := 3, stB := 4, dseq := 9 }
def fl : Sparse Byte := flashPut [] 0 d0.bytes
def kk : KeySt := { KeySt.init with flash := fl, present := true, answers := true, known := true, uid := 77, copy := 0, desc := d0, spN := 2, fuses := 0 }
def ks : List KeySt := [kk, { kk with present := false, answers := false, spN := 1, sp := [(0, { SpEnt.init with last := some 3 })] }, { kk with present := false, uid := 78, foreign := true, spCnt := [(137, 5)] }, { kk with present := false, known := false }, { kk with pccPending := true, failed := true, sp := [(0, { SpEnt.init with stale := true })] }, { kk with want := some { d0 with stA := 4, stB := 2 }, fuses := 1 }, { kk with want := some { d0 with stA := 3 , stB := 3}, desc := { d0 with stB := 2 }, copy := 1, failed := true }, { kk with want := some d0, desc := { d0 with stB := 2 } }]
def a (ps slot : Nat) (df : Bool) (k : KeySt) : State := (b0.setF fPWR_STATUS_STATE ps).setF fPCH_STATUS_SLOT slot |> fun s => { s with key := k, hk := { s.hk with deferred := df } }
def st : List State := [psRUN, 5, psSTOW].flatMap fun ps => [0,1].flatMap fun sl => [false, true].flatMap fun df => ks.map fun k => a ps sl df k
abbrev T := State × KeyAtJ15 × Fin 256 × Bool
def chk (s : State) (j : KeyAtJ15) (e : Fin 256) (fails : Bool) : List T := [(s, j, e, fails)]
def merge (l : List (List T)) : List T := l.flatten
def L0 : List T := merge (st.map fun s => chk s (.other []) 0 false)
def L1 : List T := merge (st.map fun s => chk s .absent 0 true)
/-- The hypotheses of `Obligations.KeysAndSetpoints`, clause by clause, can be met. -/
theorem test_hyps_KeysAndSetpoints_0 :
    (∃ (s : State), let q := s.key; (q.present = true)) ∧
    (∃ (s : State) (j : KeyAtJ15), let q := s.key; (q.present = true ∨ j = .absent)) ∧
    (∃ (s : State), let lit := s.mute = false; let q := s.key; (q.present = false) ∧ lit ∧ (q.known = true) ∧ ((descInForce q.flash).2.uid = q.uid)) ∧
    (∃ (s : State), let lit := s.mute = false; let q := s.key; (q.present = false) ∧ lit ∧ (q.known = true) ∧ ((descInForce q.flash).2.uid ≠ q.uid)) ∧
    (∃ (s : State), let lit := s.mute = false; let q := s.key; (q.present = false) ∧ lit ∧ (q.known = false)) ∧
    (∃ (s : State), let lit := s.mute = false; lit ∧ (s.keyWritable = false)) :=
  ⟨⟨(L0[36]'(by decide +kernel)).1, by decide +kernel⟩,
    ⟨(L1[2]'(by decide +kernel)).1, (L1[2]'(by decide +kernel)).2.1, by decide +kernel⟩,
    ⟨(L0[1]'(by decide +kernel)).1, by decide +kernel⟩,
    ⟨(L1[2]'(by decide +kernel)).1, by decide +kernel⟩,
    ⟨(L0[3]'(by decide +kernel)).1, by decide +kernel⟩,
    ⟨(L1[2]'(by decide +kernel)).1, by decide +kernel⟩⟩
/-- Further clauses of `Obligations.KeysAndSetpoints`. -/
theorem test_hyps_KeysAndSetpoints_1 :
    (∃ (s : State), let lit := s.mute = false; let q := s.key; lit ∧ (q.pccPending = false) ∧ (q.want = none) ∧ (s.mgt.upd = none)) ∧
    (∃ (s : State), let lit := s.mute = false; let q := s.key; lit ∧ (s.keyWritable = true) ∧ (q.want = none) ∧ (s.mgt.upd = none) ∧ (q.pccPending = true)) ∧
    (∃ (s : State), let lit := s.mute = false; lit ∧ (s.inBiv = true) ∧ (s.cmdStatus rPCH_CMD ≠ stBUSY)) ∧
    (∃ (s : State), (CmdReady s rPCH_CMD) ∧ (s.mayMark = false)) ∧
    (∃ (s : State), (CmdReady s rPCH_CMD) ∧ (s.mayMark = true)) ∧
    (∃ (s : State), let lit := s.mute = false; lit ∧ (s.routerOn = false)) :=
  ⟨⟨(L1[2]'(by decide +kernel)).1, by decide +kernel⟩,
    ⟨(L0[36]'(by decide +kernel)).1, by decide +kernel⟩,
    ⟨(L0[36]'(by decide +kernel)).1, by decide +kernel⟩,
    ⟨(L1[2]'(by decide +kernel)).1, by (repeat' first | apply And.intro | apply CmdReady.mk); all_goals first | decide +kernel | (intro _; rfl)⟩,
    ⟨(L0[0]'(by decide +kernel)).1, by (repeat' first | apply And.intro | apply CmdReady.mk); all_goals first | decide +kernel | (intro _; rfl)⟩,
    ⟨(L0[36]'(by decide +kernel)).1, by decide +kernel⟩⟩
/-- Further clauses of `Obligations.KeysAndSetpoints`. -/
theorem test_hyps_KeysAndSetpoints_2 :
    (∃ (s : State), let lit := s.mute = false; lit ∧ (s.routerOn = true) ∧ (s.spNext = none)) ∧
    (∃ (s : State), let lit := s.mute = false; lit ∧ (s.routerOn = true) ∧ (∀ x ∈ s.hq.passed, ¬ (x.1 = 2 ∧ x.2.opcode = 0x10))) ∧
    (∃ (s : State) (e : Fin 256), let lit := s.mute = false; let q := s.key; lit ∧ (s.ps ≠ psRUN ∨ s.routerOn = false ∨ q.spN ≤ e.val ∨ s.spN e.val 16 2 = 0 ∨ (s.spE e.val).stale = true)) ∧
    (∃ (s : State) (e : Fin 256), let lit := s.mute = false; let q := s.key; lit ∧ (s.ps = psRUN) ∧ (s.routerOn = true) ∧ (e.val < q.spN) ∧ (s.spN e.val 16 2 ≠ 0) ∧ ((s.spE e.val).stale = false)) :=
  ⟨⟨(L1[2]'(by decide +kernel)).1, by decide +kernel⟩,
    ⟨(L1[2]'(by decide +kernel)).1, by decide +kernel⟩,
    ⟨(L0[36]'(by decide +kernel)).1, (L0[36]'(by decide +kernel)).2.2.1, by decide +kernel⟩,
    ⟨(L1[2]'(by decide +kernel)).1, (L1[2]'(by decide +kernel)).2.2.1, by decide +kernel⟩⟩
end Sys2Proof.Tests.W87

namespace Sys2Proof.Tests.W88
def b0 : State := ((State.reset.setF fPWR_STATUS_STATE psRUN).setF fSI_STATUS_ISTATE 1) |>.setB ⟨rPWR_DOM_ON 0, 2, 2⟩ true |>.setB ⟨rPWR_DOM_ON 0, 8, 8⟩ true |>.setF fPWR_CFG_LSN_CAN0 1 |>.setF (fCAN_WUF_ID_V 0) 0x123 |>.setF (fCAN_WUF_MASK_V 0) 0x1FF |>.set1 fHAL_STATUS_RUN_TIME_OK |>.setF (fEDG_LEG_CFG_TYPE 2) 1 |>.setF (fEDG_LEG_CFG_CELL 2) 1 |>.setF (fEDG_LEG_CFG_BASE 2) 4
def d0 : Desc := { uid := 77, floor := 3, stA := 3, stB := 4, dseq := 9 }
def kk : KeySt := { KeySt.init with flash := flashPut [] 0 d0.bytes, present := true, answers := true, known := true, uid := 77, copy := 0, desc := d0, spN := 2, fuses := 9 }
def r0 : Raise := { time := 44, epoch := 1, code := 0x0601, uidx := 4, detail := 7, stop := false }
def a (ps cmd tsd ds est sc : Nat) (k : KeySt) (pw : PwrSt) (l : List Raise) : State := ((((b0.setF fPWR_STATUS_STATE ps).wrN rPWR_CMD cmd).setF fHK_TSD_TRIPPED tsd).setF fBND_DCL_STATUS_DSTATE ds).setEst 1 est |>.setF fPWR_CFG_STOW_CAN0 sc |>.setF fPWR_CFG_AUTO_RUN sc |>.setF (fSI_STATUS_ISTATE) (1 + sc * tsd) |> fun s => { s with key := k, pwr := pw, flt := { s.flt with raised := l } }
def pws : List PwrSt := [PwrSt.init, { PwrSt.init with powered := false }, { PwrSt.init with prelude := some (3, 1) }]
def st : List State := [psSTOW, psLISTEN, psPITCH, psREADY, psRUN, 5, psHALT].flatMap fun ps => [0, 0x30010].flatMap fun cmd => [(0,0,1,0),(1,1,2,1),(0,2,1,1)].flatMap fun (tsd, ds, e, sc) => [kk, { kk with present := false }].flatMap fun k => pws.map fun p => a ps cmd tsd ds e sc k p (if ds = 1 then [] else [r0, { r0 with code := 0x0F01 }])
def th7 {α} (l : List α) (m r : Nat) : List α := (l.zipIdx.filter (fun x => x.2 % m = r)).map Prod.fst
abbrev T := State × Option (BitVec 16) × Fin 2 × Bool × Bool × BitVec 29 × BitVec 4 × BitVec 64 × BitVec 16 × BitVec 16 × Option (List Byte)
def chk (s : State) (d : Option (BitVec 16)) (n : Fin 2) (fd : Bool) (ide : Bool) (ident : BitVec 29) (dlc : BitVec 4) (data : BitVec 64) (w : BitVec 16) (v : BitVec 16) (l : Option (List Byte)) : List T := [(s, d, n, fd, ide, ident, dlc, data, w, v, l)]
def merge (l : List (List T)) : List T := l.flatten
def L0 : List T := merge ((th7 st 5 0).map fun s => chk s (some 7) 0 false false 0x123 3 5 77 88 none)
def L1 : List T := merge ((th7 st 5 1).map fun s => chk s none 1 false true 0x123 3 5 77 88 (some [5,6]))
/-- The hypotheses of `Obligations.PowerStates`, clause by clause, can be met. -/
theorem test_hyps_PowerStates_0 :
    (∃ (s : State), (s.pwr.powered = true)) ∧
    (∃ (s : State), (s.pwr.powered = false)) ∧
    (∃ (s : State), (s.asleep psSTOW = false) ∧ (s.asleep psLISTEN = false)) ∧
    (∃ (s : State), (s.asleep psSTOW = true ∨ s.asleep psLISTEN = true)) ∧
    (∃ (s : State), (s.asleep psSTOW = false ∨ s.on fPWR_CFG_STOW_CAN0 = false)) ∧
    (∃ (s : State), (s.asleep psSTOW = true) ∧ (s.on fPWR_CFG_STOW_CAN0 = true)) :=
  ⟨⟨(L0[22]'(by decide +kernel)).1, by decide +kernel⟩,
    ⟨(L1[45]'(by decide +kernel)).1, by decide +kernel⟩,
    ⟨(L0[22]'(by decide +kernel)).1, by decide +kernel⟩,
    ⟨(L0[3]'(by decide +kernel)).1, by decide +kernel⟩,
    ⟨(L0[22]'(by decide +kernel)).1, by decide +kernel⟩,
    ⟨(L0[3]'(by decide +kernel)).1, by decide +kernel⟩⟩
/-- Further clauses of `Obligations.PowerStates`. -/
theorem test_hyps_PowerStates_1 :
    (∃ (s : State) (n : Fin 2), (s.listens n.val = false)) ∧
    (∃ (s : State) (n : Fin 2) (fd : Bool) (ide : Bool) (ident : BitVec 29) (dlc : BitVec 4) (data : BitVec 64), (s.listens n.val = false ∨ fd = true ∨ s.wakes n.val ide ident.toNat dlc.toNat data.toNat = false)) ∧
    (∃ (s : State) (n : Fin 2) (fd : Bool) (ide : Bool) (ident : BitVec 29) (dlc : BitVec 4) (data : BitVec 64), (s.listens n.val = true) ∧ (fd = false) ∧ (s.wakes n.val ide ident.toNat dlc.toNat data.toNat = true)) ∧
    (∃ (s : State), let lit := s.mute = false; lit ∧ (s.ps = psHALT)) ∧
    (∃ (s : State), let cmd := rPWR_CMD; let awake := s.timeOk = true ∧ s.ist = iACTIVE ∧ s.hal.barred = false; (CmdReady s cmd) ∧ (s.ps = psREADY) ∧ awake) ∧
    (∃ (s : State), let cmd := rPWR_CMD; let awake := s.timeOk = true ∧ s.ist = iACTIVE ∧ s.hal.barred = false; (CmdReady s cmd) ∧ (s.ps ≠ psRUN) ∧ (¬ (s.ps = psREADY ∧ awake))) :=
  ⟨⟨(L0[22]'(by decide +kernel)).1, (L0[22]'(by decide +kernel)).2.2.1, by decide +kernel⟩,
    ⟨(L0[22]'(by decide +kernel)).1, (L0[22]'(by decide +kernel)).2.2.1, (L0[22]'(by decide +kernel)).2.2.2.1, (L0[22]'(by decide +kernel)).2.2.2.2.1, (L0[22]'(by decide +kernel)).2.2.2.2.2.1, (L0[22]'(by decide +kernel)).2.2.2.2.2.2.1, (L0[22]'(by decide +kernel)).2.2.2.2.2.2.2.1, by decide +kernel⟩,
    ⟨(L0[9]'(by decide +kernel)).1, (L0[9]'(by decide +kernel)).2.2.1, (L0[9]'(by decide +kernel)).2.2.2.1, (L0[9]'(by decide +kernel)).2.2.2.2.1, (L0[9]'(by decide +kernel)).2.2.2.2.2.1, (L0[9]'(by decide +kernel)).2.2.2.2.2.2.1, (L0[9]'(by decide +kernel)).2.2.2.2.2.2.2.1, by decide +kernel⟩,
    ⟨(L1[45]'(by decide +kernel)).1, by decide +kernel⟩,
    ⟨(L0[22]'(by decide +kernel)).1, by (repeat' first | apply And.intro | apply CmdReady.mk); all_goals first | decide +kernel | (intro _; rfl)⟩,
    ⟨(L1[45]'(by decide +kernel)).1, by (repeat' first | apply And.intro | apply CmdReady.mk); all_goals first | decide +kernel | (intro _; rfl)⟩⟩
/-- Further clauses of `Obligations.PowerStates`. -/
theorem test_hyps_PowerStates_2 :
    (∃ (s : State), let cmd := rPWR_CMD; let idle := (∀ c, c < 4 → (s.bst c = 0 ∨ s.bst c = bIDLE ∨ s.bst c = bHALTED) ∧ s.pstate c ≠ 5) ∧ (∀ k, k < 5 → s.est k ≠ eRUNNING) ∧ (∀ x ∈ [2, 3, 5], s.fld fBND_DCL_STATUS_DSTATE ≠ x); (CmdReady s cmd) ∧ (s.ps = psRUN) ∧ idle) ∧
    (∃ (s : State), let cmd := rPWR_CMD; let idle := (∀ c, c < 4 → (s.bst c = 0 ∨ s.bst c = bIDLE ∨ s.bst c = bHALTED) ∧ s.pstate c ≠ 5) ∧ (∀ k, k < 5 → s.est k ≠ eRUNNING) ∧ (∀ x ∈ [2, 3, 5], s.fld fBND_DCL_STATUS_DSTATE ≠ x); (CmdReady s cmd) ∧ (s.ps ≠ psREADY) ∧ (¬ (s.ps = psRUN ∧ idle))) ∧
    (∃ (s : State), let lit := s.mute = false; let awake := s.timeOk = true ∧ s.ist = iACTIVE ∧ s.hal.barred = false; lit ∧ (¬ (s.ps = psREADY ∧ s.on fPWR_CFG_AUTO_RUN = true ∧ awake))) ∧
    (∃ (s : State), let lit := s.mute = false; let awake := s.timeOk = true ∧ s.ist = iACTIVE ∧ s.hal.barred = false; lit ∧ (s.ps = psREADY) ∧ (s.on fPWR_CFG_AUTO_RUN = true) ∧ awake) ∧
    (∃ (s : State), let lit := s.mute = false; let cmd := rPWR_CMD; let busy := s.cmdStatus cmd = stBUSY; lit ∧ (s.inBiv = true ∨ busy)) ∧
    (∃ (s : State), let lit := s.mute = false; let cmd := rPWR_CMD; let busy := s.cmdStatus cmd = stBUSY; lit ∧ (s.inBiv = false) ∧ (¬ busy) ∧ (s.maySleep true = false)) :=
  ⟨⟨(L0[29]'(by decide +kernel)).1, by (repeat' first | apply And.intro | apply CmdReady.mk); all_goals first | decide +kernel | (intro _; rfl)⟩,
    ⟨(L1[45]'(by decide +kernel)).1, by (repeat' first | apply And.intro | apply CmdReady.mk); all_goals first | decide +kernel | (intro _; rfl)⟩,
    ⟨(L0[22]'(by decide +kernel)).1, by decide +kernel⟩,
    ⟨(L0[24]'(by decide +kernel)).1, by decide +kernel⟩,
    ⟨(L0[36]'(by decide +kernel)).1, by decide +kernel⟩,
    ⟨(L1[45]'(by decide +kernel)).1, by decide +kernel⟩⟩
/-- Further clauses of `Obligations.PowerStates`. -/
theorem test_hyps_PowerStates_3 :
    (∃ (s : State), let lit := s.mute = false; let cmd := rPWR_CMD; let busy := s.cmdStatus cmd = stBUSY; lit ∧ (s.inBiv = false) ∧ (¬ busy) ∧ (s.maySleep false = false)) ∧
    (∃ (s : State), let lit := s.mute = false; let cmd := rPWR_CMD; let busy := s.cmdStatus cmd = stBUSY; lit ∧ (s.inBiv = false) ∧ (¬ busy) ∧ (s.maySleep true = true)) ∧
    (∃ (s : State), let lit := s.mute = false; let cmd := rPWR_CMD; let busy := s.cmdStatus cmd = stBUSY; lit ∧ (s.inBiv = false) ∧ (¬ busy) ∧ (s.maySleep false = true)) ∧
    (∃ (s : State), let lit := s.mute = false; let cmd := rPWR_CMD; let busy := s.cmdStatus cmd = stBUSY; lit ∧ (s.inBiv = false) ∧ (¬ busy) ∧ (s.ps ≠ psREADY) ∧ (s.ps ≠ psHALT)) ∧
    (∃ (s : State), let lit := s.mute = false; let cmd := rPWR_CMD; let busy := s.cmdStatus cmd = stBUSY; let tripped := s.on fHK_TSD_TRIPPED = true; lit ∧ (s.inBiv = false) ∧ (¬ busy) ∧ (s.ps = psREADY ∨ s.ps = psHALT) ∧ tripped) ∧
    (∃ (s : State), let lit := s.mute = false; let cmd := rPWR_CMD; let busy := s.cmdStatus cmd = stBUSY; let tripped := s.on fHK_TSD_TRIPPED = true; lit ∧ (s.inBiv = false) ∧ (¬ busy) ∧ (s.ps = psREADY ∨ s.ps = psHALT) ∧ (¬ tripped)) :=
  ⟨⟨(L1[45]'(by decide +kernel)).1, by decide +kernel⟩,
    ⟨(L0[22]'(by decide +kernel)).1, by decide +kernel⟩,
    ⟨(L0[22]'(by decide +kernel)).1, by decide +kernel⟩,
    ⟨(L0[29]'(by decide +kernel)).1, by decide +kernel⟩,
    ⟨(L1[45]'(by decide +kernel)).1, by decide +kernel⟩,
    ⟨(L0[22]'(by decide +kernel)).1, by decide +kernel⟩⟩
/-- Further clauses of `Obligations.PowerStates`. -/
theorem test_hyps_PowerStates_4 :
    (∃ (s : State), let lit := s.mute = false; let tripped := s.on fHK_TSD_TRIPPED = true; lit ∧ (s.ps = psHALT ∨ s.inBiv = true) ∧ tripped) ∧
    (∃ (s : State), let lit := s.mute = false; let tripped := s.on fHK_TSD_TRIPPED = true; lit ∧ (s.ps = psHALT ∨ s.inBiv = true) ∧ (¬ tripped)) :=
  ⟨⟨(L1[45]'(by decide +kernel)).1, by decide +kernel⟩,
    ⟨(L0[36]'(by decide +kernel)).1, by decide +kernel⟩⟩
end Sys2Proof.Tests.W88

namespace Sys2Proof.Tests.W89
def b0 : State := ((State.reset.setF fPWR_STATUS_STATE psRUN).setF fSI_STATUS_ISTATE 1) |>.setF (fEDG_LEG_CFG_TYPE 2) 1 |>.setF (fEDG_LEG_CFG_CELL 2) 1 |>.setF (fEDG_LEG_CFG_BASE 2) 4 |>.setF (fAUX_CFG_MODE 3) 2 |>.setF (fFP_STATUS_STATE 2) 1 |>.setF (fFP_STATUS_CELL_VALID 2) 1 |>.setF (fFP_STATUS_CELL 2) 1
def d0 : Desc := { uid := 77, floor := 3, stA := 3, stB := 2, dseq := 9 }
def kk : KeySt := { KeySt.init with flash := flashPut [] 0 d0.bytes, present := true, answers := true, known := true, uid := 77, copy := 0, desc := d0, spN := 2, fuses := 9 }
def a (ps on est prot clk ist : Nat) (x m : Nat) : State := (((b0.setF fPWR_STATUS_STATE ps).setEst 1 est).setF (fLE_PAR_STAGE_PARTNER 1) (if prot = 1 then 4 else 255)).wrN rCLK_STATUS clk |>.setF (fSI_STATUS_ISTATE) ist |> fun s => ([0,1,2,3,4].foldl (fun s k => s.wrN (rPWR_DOM_ON k) (on * 0xFFFFFFFF)) s) |> fun s => { s with key := kk, pwr := { s.pwr with xtalOver := x, mgmtOver := m } } |>.modGate 4 (fun q => { q with supplyOn := true, gse := true, sen := true, drive := .on1 })
def st : List State := [psPITCH, psREADY, psRUN, 5, psHALT].flatMap fun ps => [(0,1,0,7,1,0,0), (1,2,1,5,1,1,15), (1,3,0,0,2,2,16)].map fun (on, e, p, c, i, x, m) => a ps on e p c i x m
def run (j : KeyAtJ15) (bad : List Nat) : PitchRun := { key := j, badReads := bad, badCount := false, badDesc := false, gate := [], loops := 0, aux := [], unconfirmed := none, ms := 77 }
abbrev T := State × PitchRun × Fin 132 × Fin 3 × BitVec 16
def chk (s : State) (r : PitchRun) (d : Fin 132) (k : Fin 3) (w : BitVec 16) : List T := [(s, r, d, k, w)]
def merge (l : List (List T)) : List T := l.flatten
def L0 : List T := merge (st.flatMap fun s => [2,3,8,30,35].map fun d => chk s (run .absent []) d 0 2000)
def L3 : List T := merge ((st.take 3).flatMap fun s => [10,107].map fun d => chk s (run (.other []) []) d 2 60000)
/-- The hypotheses of `Obligations.PitchAndSupplies`, clause by clause, can be met. -/
theorem test_hyps_PitchAndSupplies_0 :
    (∃ (s : State), (s.mute = false) ∧ (s.ps ≠ psPITCH)) ∧
    (∃ (s : State) (r : PitchRun), (s.mute = false) ∧ (let y := (s.plug r.key).key; let answers := y.present = true ∧ y.answers = true; (s.ps = psPITCH) ∧ (¬ answers))) ∧
    (∃ (s : State) (r : PitchRun), (s.mute = false) ∧ (let y := (s.plug r.key).key; let answers := y.present = true ∧ y.answers = true; let unread := lowest r.badReads 0 64 <|> lowest r.badReads 4096 64; (s.ps = psPITCH) ∧ answers ∧ (unread = none) ∧ (slotOrder (descInForce y.flash).2 = []))) ∧
    (∃ (s : State) (d : Fin 132), (s.mute = false) ∧ (let n := d.val; (s.domLive n = false))) ∧
    (∃ (s : State) (d : Fin 132), (s.mute = false) ∧ (let n := d.val; (s.domLive n = true))) ∧
    (∃ (s : State) (k : Fin 3), (s.mute = false) ∧ (bit (s.rdN rCLK_STATUS) k.val = false)) :=
  ⟨⟨(L0[25]'(by decide +kernel)).1, by decide +kernel⟩,
    ⟨(L0[0]'(by decide +kernel)).1, (L0[0]'(by decide +kernel)).2.1, by decide +kernel⟩,
    ⟨(L3[0]'(by decide +kernel)).1, (L3[0]'(by decide +kernel)).2.1, by decide +kernel⟩,
    ⟨(L0[0]'(by decide +kernel)).1, (L0[0]'(by decide +kernel)).2.2.1, by decide +kernel⟩,
    ⟨(L0[25]'(by decide +kernel)).1, (L0[25]'(by decide +kernel)).2.2.1, by decide +kernel⟩,
    ⟨(L0[25]'(by decide +kernel)).1, (L0[25]'(by decide +kernel)).2.2.2.1, by decide +kernel⟩⟩
/-- Further clauses of `Obligations.PitchAndSupplies`. -/
theorem test_hyps_PitchAndSupplies_1 :
    (∃ (s : State) (k : Fin 3), (s.mute = false) ∧ (bit (s.rdN rCLK_STATUS) k.val = true)) :=
  ⟨(L0[0]'(by decide +kernel)).1, (L0[0]'(by decide +kernel)).2.2.2.1, by decide +kernel⟩
end Sys2Proof.Tests.W89

namespace Sys2Proof.Tests.W90
def b0 : State := ((State.reset.setF fPWR_STATUS_STATE psRUN).set1 fMGT_CFG_SVC_EN).set1 fMGT_CFG_HAL_MGT_EN |>.setF (fCAN_CFG_MGT_EN 3) 1 |> fun s => ([0,1,2,3,4].foldl (fun s k => s.wrN (rPWR_DOM_ON k) 0xFFFFFFFF) s) |> fun s => { s with hq := { s.hq with loaded := true } }
def cells : List Slot := [mkCell 255 254 1 9 2 0 0x0F000000 0, mkCell 255 254 2 9 1 0 0x02000020 77, mkCell 255 1 4 1 1 0 5 0, mkCell 255 1 4 1 1 0 0xFFFFFFFF 0, mkCell 255 254 5 3 0 0 0 0x0011223344556677, mkCell 255 2 0x20 3 0 0 0 0xABCDEF, mkCell 255 2 1 3 0 0 0 0, mkCell 255 2 2 3 5 0 0 0,  mkCell 255 2 0x7 3 5 0 0 0, mkCell 9 254 1 4 1 0 8 0, mkCell 9 2 0x81 4 1 0 8 0, mkCell 255 1 0x30 0 0 0 0 0, 0, 5#256, mkCell 255 1 0x10 3 4 0 0 8192]
def qs : List (List MgtReq) := [] :: (cells.map fun c => [MgtReq.mk .svc c 0x123456789ABCD 2]) ++ (cells.map fun c => [MgtReq.mk .can3 c 1 2]) ++ (cells.take 6 |>.map fun c => [MgtReq.mk (.hal 1) c 1 2, MgtReq.mk .svc c 4 5])
def vs (ps : Nat) (q : List MgtReq) : State := { b0.setF fPWR_STATUS_STATE ps with mgt := { MgtSt.init with queue := q } }
def kk : KeySt := { KeySt.init with flash := flashPut [] 0x06000000 (List.range 256), present := true, answers := true }
def x0 : Slot := cells.headD 0
def ii : CmdIn := ⟨true, 3, false, false, none, none, 0⟩
def z : Nat → State → State := fun n s => match n with
  | 0 => s
  | 1 => { s with key := kk }
  | 2 => s.setF (fCAN_CFG_ENABLE 3) 1 |>.set1 (fCAN_MB_STAT_TXPEND 3 1)
  | 3 => { s with pwr := { s.pwr with mpStopped := true } }
  | _ => s
def cn (s : State) (c : Slot) : State := ((s.setF (fCAN_CFG_ENABLE 3) 1).canLoad 3 0 c.toNat).set1 (fCAN_MB_STAT_ND 3 0)
def rx (s : State) (l : List (Nat × Slot)) : State := s.modPort 2 (fun q => { q with rx := l })
abbrev T := State × Slot × Fin 4 × CmdIn
def chk (s : State) (x : Slot) (p : Fin 4) (inp : CmdIn) : List T := [(s, x, p, inp)]
def merge (l : List (List T)) : List T := l.flatten
def L0 : List T := merge (qs.flatMap fun q => [psRUN, psBIVOUAC, psPITCH].map fun p => chk (z 1 (vs p q)) x0 2 ii)
def L2 : List T := merge (cells.flatMap fun c => [psRUN, psBIVOUAC, psPITCH, psHALT].map fun p => chk (vs p []) c 2 ii)
def L5 : List T := merge (cells.flatMap fun c => [chk (cn (vs psRUN []) c) c 2 ii, chk (cn (vs psRUN []) 7) c 2 ii])
def L6 : List T := merge (cells.flatMap fun c => [chk (rx (vs psRUN []) [(4,c),(4,c),(2,3)]) c 2 ii, chk (rx (vs psRUN []) [(4,7),(3,c)]) c 2 ii])
def L7 : List T := merge ((cells ++ cells.map (fun c => c + 1)).flatMap fun c => [chk (vs psRUN [] |>.clr fMGT_CFG_SVC_EN) c 2 ii, chk { (vs psRUN []) with pwr := { b0.pwr with mpStopped := true } } c 2 ii])
/-- The hypotheses of `Obligations.ManagementCells`, clause by clause, can be met. -/
theorem test_hyps_ManagementCells_0 :
    (∃ (s : State), let lit := s.mute = false; lit ∧ (s.pathOpen .svc = false)) ∧
    (∃ (s : State) (x : Slot), let lit := s.mute = false; let open_ := lit ∧ s.inBiv = false ∧ s.pathOpen .svc = true; open_ ∧ (cellOk x = false)) ∧
    (∃ (s : State) (x : Slot), let lit := s.mute = false; let open_ := lit ∧ s.inBiv = false ∧ s.pathOpen .svc = true; let req := cellOk x = true ∧ cOp x < 128 ∧ cOp x ≠ 0x30; open_ ∧ req ∧ (s.forUs x = true)) ∧
    (∃ (s : State) (x : Slot), let lit := s.mute = false; let open_ := lit ∧ s.inBiv = false ∧ s.pathOpen .svc = true; let req := cellOk x = true ∧ cOp x < 128 ∧ cOp x ≠ 0x30; open_ ∧ (cellOk x = true) ∧ (¬ req)) ∧
    (∃ (s : State), let lit := s.mute = false; lit ∧ (s.inBiv = true) ∧ (s.pathOpen .svc = true)) ∧
    (∃ (s : State) (x : Slot), let lit := s.mute = false; let req := cellOk x = true ∧ cOp x < 128 ∧ cOp x ≠ 0x30; lit ∧ (s.pathOpen .can3 = true) ∧ (s.inBiv = false) ∧ req ∧ (s.forUs x = true) ∧ (s.on (fCAN_MB_STAT_ND 3 0) = true) ∧ (s.canData 3 0 % 2 ^ 256 = x.toNat)) :=
  ⟨⟨(L7[0]'(by decide +kernel)).1, by decide +kernel⟩,
    ⟨(L2[48]'(by decide +kernel)).1, (L2[48]'(by decide +kernel)).2.1, by decide +kernel⟩,
    ⟨(L0[0]'(by decide +kernel)).1, (L0[0]'(by decide +kernel)).2.1, by decide +kernel⟩,
    ⟨(L6[20]'(by decide +kernel)).1, (L6[20]'(by decide +kernel)).2.1, by decide +kernel⟩,
    ⟨(L0[1]'(by decide +kernel)).1, by decide +kernel⟩,
    ⟨(L5[0]'(by decide +kernel)).1, (L5[0]'(by decide +kernel)).2.1, by decide +kernel⟩⟩
/-- Further clauses of `Obligations.ManagementCells`. -/
theorem test_hyps_ManagementCells_1 :
    (∃ (s : State) (x : Slot), let lit := s.mute = false; lit ∧ (s.on (fCAN_MB_STAT_ND 3 0) = false ∨ s.canData 3 0 % 2 ^ 256 ≠ x.toNat)) ∧
    (∃ (s : State) (x : Slot) (p : Fin 4), let lit := s.mute = false; let port := s.port p.val; lit ∧ (cOp x ≠ 0x30) ∧ (s.inBiv = false) ∧ (s.pathOpen (.hal p) = true) ∧ (cellOk x = true) ∧ (cOp x < 128 → s.forUs x = true) ∧ (port.rx.head? = some (4, x))) ∧
    (∃ (s : State) (x : Slot) (p : Fin 4), let lit := s.mute = false; let port := s.port p.val; lit ∧ (cOp x = 0x30 ∨ (4, x) ∉ port.rx)) ∧
    (∃ (s : State) (x : Slot), let lit := s.mute = false; let open_ := lit ∧ s.inBiv = false ∧ s.pathOpen .svc = true; let req := cellOk x = true ∧ cOp x < 128 ∧ cOp x ≠ 0x30; open_ ∧ req ∧ (s.forUs x = false) ∧ (s.mpRuns = false)) ∧
    (∃ (s : State) (x : Slot), let lit := s.mute = false; let open_ := lit ∧ s.inBiv = false ∧ s.pathOpen .svc = true; let req := cellOk x = true ∧ cOp x < 128 ∧ cOp x ≠ 0x30; open_ ∧ req ∧ (s.forUs x = false) ∧ (s.mpRuns = true) ∧ (16 ≤ s.mgt.fwd.length ∨ s.route (cDst x) = none)) ∧
    (∃ (s : State), let lit := s.mute = false; lit ∧ (s.mgt.responses = [])) :=
  ⟨⟨(L0[0]'(by decide +kernel)).1, (L0[0]'(by decide +kernel)).2.1, by decide +kernel⟩,
    ⟨(L6[20]'(by decide +kernel)).1, (L6[20]'(by decide +kernel)).2.1, (L6[20]'(by decide +kernel)).2.2.1, by decide +kernel⟩,
    ⟨(L0[0]'(by decide +kernel)).1, (L0[0]'(by decide +kernel)).2.1, (L0[0]'(by decide +kernel)).2.2.1, by decide +kernel⟩,
    ⟨(L7[19]'(by decide +kernel)).1, (L7[19]'(by decide +kernel)).2.1, by decide +kernel⟩,
    ⟨(L2[36]'(by decide +kernel)).1, (L2[36]'(by decide +kernel)).2.1, by decide +kernel⟩,
    ⟨(L0[0]'(by decide +kernel)).1, by decide +kernel⟩⟩
end Sys2Proof.Tests.W90

namespace Sys2Proof.Tests.W90b
def b0 : State := ((State.reset.setF fPWR_STATUS_STATE psRUN).set1 fMGT_CFG_SVC_EN).set1 fMGT_CFG_HAL_MGT_EN |> fun s => ([0,1,2,3,4].foldl (fun s k => s.wrN (rPWR_DOM_ON k) 0xFFFFFFFF) s) |> fun s => { s with hq := { s.hq with loaded := true } }
def d0 : Desc := { uid := 77, floor := 3, stA := 3, stB := 4, dseq := 9 }
def kk : KeySt := { KeySt.init with flash := flashPut (flashPut [] 0 d0.bytes) 0x06000000 (List.replicate 200 7), present := true, answers := true, known := true, uid := 77, copy := 0, desc := d0, spN := 2, fuses := 9 }
def kn (n : Nat) : KeySt := match n with
  | 0 => kk
  | 1 => { kk with desc := { d0 with stA := 4, stB := 3 }, failed := true }
  | 2 => { kk with answers := false }
  | 3 => { kk with want := some { d0 with stB := 2 }, pccPending := true }
  | 4 => { kk with flash := flashPut [] 0x06000000 ((List.range 2048).flatMap fun k => 1 :: List.replicate 31 255) }
  | 5 => { kk with flash := flashPut [] (0x06000000 + 65536) (List.replicate 65536 5) }
  | _ => { kk with flash := [] }
def us : List (Option UpdSt) := [none, some ⟨.svc, 254, 1, 8192, 0, []⟩, some ⟨.svc, 254, 0, 8200, 8192, []⟩, some ⟨.svc, 254, 1, 8192, 8192, []⟩, some ⟨.can3, 254, 1, 8192, 32, [(16, [1]), (32, [5])]⟩, some ⟨.svc, 254, 1, 16384, 8192, List.replicate 16 (0, [2])⟩, some ⟨.svc, 254, 1, 16384, 4, List.replicate 3 (0, [2])⟩]
def bs (ps : Nat) (k : Nat) (u : Option UpdSt) (q : List MgtReq) (df : Bool) : State := { b0.setF fPWR_STATUS_STATE ps with regs := (b0.setF fPWR_STATUS_STATE ps |>.wrN rMGT_LOG_HEAD (2^31 + 5)).regs, key := kn k, mgt := { MgtSt.init with upd := u, queue := q, fails := k }, hk := { b0.hk with deferred := df } }
def pn (n : Nat) : Pennant := ⟨n, 3, 0x123456789#64, 4, 0x0101 + n, 255, 1, n, 0xABCDEF#64⟩
def rg : Sparse (Option Pennant) := (List.range 12).foldl (fun m k => m.put none ((4090 + k) % 4096) (some (pn k))) []
def fl (hd at_ wr k f : Nat) : State := let s := (bs psRUN k none [] false).wrN rMGT_LOG_HEAD hd |>.wrN rFLT_RING_FLUSH at_ |>.wrN rFLT_RING_WR wr; { s with flt := { s.flt with ring := rg }, mgt := { s.mgt with fails := f } }
abbrev T := State × Bool × Option (List Byte)
def chk (s : State) (fails : Bool) (left : Option (List Byte)) : List T := [(s, fails, left)]
def merge (l : List (List T)) : List T := l.flatten
def L0 : List T := merge ([psRUN, psBIVOUAC, psPITCH].flatMap fun ps => us.flatMap fun u => [0,2,3].flatMap fun k => [(false, none), (true, some (List.replicate 16 7))].map fun (f, l) => chk (bs ps k u [] (k = 2)) f l)
def L2 : List T := merge ([(0,3,9,0,0),(2^31+5,4090,4093,0,0),(2^31+7,3,11,0,2),(2^31+2047,3,12,1,1),(2^31+5,0,9,2,0),(2^31+524287,4090,4096,0,0)].flatMap fun (h,a,w,k,f) => [(false, none), (true, some (List.replicate 256 7))].map fun (fa,l) => chk (fl h a w k f) fa l)
/-- The hypotheses of `Obligations.UpdatesAndLog`, clause by clause, can be met. -/
theorem test_hyps_UpdatesAndLog_0 :
    (∃ (s : State), let lit := s.mute = false; lit ∧ (s.mgt.upd = none ∨ s.mpRuns = false ∨ s.inBiv = true ∨ s.hk.deferred = true)) ∧
    (∃ (s : State), (CmdReady s rMGT_CMD) ∧ (s.mgt.upd = none)) ∧
    (∃ (s : State), let lit := s.mute = false; let q := s.key; let serving := s.ps = psREADY ∨ s.ps = psRUN ∨ s.ps = psHALT; let at_ := s.rdN rFLT_RING_FLUSH; let wr := s.rdN rFLT_RING_WR; let due := (wr + 2 ^ 32 - at_) % 2 ^ 32; let flushes := lit ∧ serving ∧ s.keyWritable = true ∧ q.known = true ∧ q.pccPending = false; let pages := flushes ∧ s.on fMGT_LOG_HEAD_HEAD_VALID = true ∧ s.on fMGT_STATUS_LOG_STALLED = false ∧ 0 < due; lit ∧ (¬ pages)) ∧
    (∃ (s : State), let lit := s.mute = false; let q := s.key; let serving := s.ps = psREADY ∨ s.ps = psRUN ∨ s.ps = psHALT; let at_ := s.rdN rFLT_RING_FLUSH; let wr := s.rdN rFLT_RING_WR; let due := (wr + 2 ^ 32 - at_) % 2 ^ 32; let flushes := lit ∧ serving ∧ s.keyWritable = true ∧ q.known = true ∧ q.pccPending = false; let pages := flushes ∧ s.on fMGT_LOG_HEAD_HEAD_VALID = true ∧ s.on fMGT_STATUS_LOG_STALLED = false ∧ 0 < due; pages) ∧
    (∃ (s : State), let lit := s.mute = false; let q := s.key; let serving := s.ps = psREADY ∨ s.ps = psRUN ∨ s.ps = psHALT; let flushes := lit ∧ serving ∧ s.keyWritable = true ∧ q.known = true ∧ q.pccPending = false; lit ∧ (s.on fMGT_LOG_HEAD_HEAD_VALID = true ∨ ¬ flushes)) ∧
    (∃ (s : State), let lit := s.mute = false; let q := s.key; let serving := s.ps = psREADY ∨ s.ps = psRUN ∨ s.ps = psHALT; let flushes := lit ∧ serving ∧ s.keyWritable = true ∧ q.known = true ∧ q.pccPending = false; flushes ∧ (s.on fMGT_LOG_HEAD_HEAD_VALID = false)) :=
  ⟨⟨(L0[0]'(by decide +kernel)).1, by decide +kernel⟩,
    ⟨(L0[0]'(by decide +kernel)).1, by (repeat' first | apply And.intro | apply CmdReady.mk); all_goals first | decide +kernel | (intro _; rfl)⟩,
    ⟨(L0[0]'(by decide +kernel)).1, by decide +kernel⟩,
    ⟨(L2[2]'(by decide +kernel)).1, by decide +kernel⟩,
    ⟨(L0[0]'(by decide +kernel)).1, by decide +kernel⟩,
    ⟨(L2[0]'(by decide +kernel)).1, by decide +kernel⟩⟩
end Sys2Proof.Tests.W90b

namespace Sys2Proof.Tests.W91
def ii : CmdIn := ⟨true, 3, false, false, none, none, 0x05#32⟩
def b0w (ps : Nat) : State := State.reset.setF fPWR_STATUS_STATE ps
def lsv (s : State) : State := (s.setF (fLE_STATUS_SERVES_VALID 4) 1).setF (fLE_STATUS_SERVES 4) 2
def mb (s : State) (p : Nat) : State := ((s.set1 (fCAN_MB_CFG_DIR 2 5)).set1 (fCAN_MB_CFG_DIR 2 0)).setF (fCAN_MB_STAT_TXPEND 2 5) p
abbrev T := State × Word × Word × Word × BitVec 16 × CmdIn × Fin 10 × Fin 8
def chk (s : State) (a : Word) (v : Word) (m : Word) (rq : BitVec 16) (inp : CmdIn) (f : Fin 10) (k : Fin 8) : List T := [(s, a, v, m, rq, inp, f, k)]
def merge (l : List (List T)) : List T := l.flatten
def L0 : List T := merge ([16777216, 2566914048, 54003836, 117702732, 134480915, 134480896, 134218232, 201330704, 33554524, 151126112, 201461836].flatMap fun a => [chk (lsv (mb (b0w psRUN) 0)) (BitVec.ofNat 32 a) 0xC3 0xFF 4 ii 2 3, chk (b0w psBIVOUAC) (BitVec.ofNat 32 a) 0xC3 0xFF 4 ii 2 3])
/-- The hypotheses of `Obligations.RegisterWrites`, clause by clause, can be met. -/
theorem test_hyps_RegisterWrites_0 :
    (∃ (s : State) (a : Word), let lit := s.mute = false; let x := a.toNat; lit ∧ (x % 4 ≠ 0)) ∧
    (∃ (s : State) (a : Word), let lit := s.mute = false; let x := a.toNat; let plain := x / 65536 ≠ 0x0804; lit ∧ plain ∧ (accessOf x = none)) ∧
    (∃ (s : State) (a : Word), let lit := s.mute = false; let x := a.toNat; let plain := x / 65536 ≠ 0x0804; let acc := fun (y : Access) => plain ∧ accessOf x = some y; lit ∧ (acc .ro)) ∧
    (∃ (s : State) (a : Word), let lit := s.mute = false; let x := a.toNat; let plain := x / 65536 ≠ 0x0804; let acc := fun (y : Access) => plain ∧ accessOf x = some y; lit ∧ (acc .desc) ∧ (isLock x = false)) ∧
    (∃ (s : State) (a : Word), let lit := s.mute = false; let x := a.toNat; let plain := x / 65536 ≠ 0x0804; lit ∧ plain ∧ (isLock x = true)) ∧
    (∃ (s : State) (a : Word), let lit := s.mute = false; let x := a.toNat; let plain := x / 65536 ≠ 0x0804; let acc := fun (y : Access) => plain ∧ accessOf x = some y; lit ∧ (acc .w1c) ∧ (s.inBiv = false)) :=
  ⟨⟨(L0[8]'(by decide +kernel)).1, (L0[8]'(by decide +kernel)).2.1, by decide +kernel⟩,
    ⟨(L0[2]'(by decide +kernel)).1, (L0[2]'(by decide +kernel)).2.1, by decide +kernel⟩,
    ⟨(L0[0]'(by decide +kernel)).1, (L0[0]'(by decide +kernel)).2.1, by decide +kernel⟩,
    ⟨(L0[12]'(by decide +kernel)).1, (L0[12]'(by decide +kernel)).2.1, by decide +kernel⟩,
    ⟨(L0[4]'(by decide +kernel)).1, (L0[4]'(by decide +kernel)).2.1, by decide +kernel⟩,
    ⟨(L0[6]'(by decide +kernel)).1, (L0[6]'(by decide +kernel)).2.1, by decide +kernel⟩⟩
/-- Further clauses of `Obligations.RegisterWrites`. -/
theorem test_hyps_RegisterWrites_1 :
    (∃ (s : State) (a : Word), let lit := s.mute = false; let x := a.toNat; let plain := x / 65536 ≠ 0x0804; let acc := fun (y : Access) => plain ∧ accessOf x = some y; lit ∧ (acc .mix) ∧ (s.inBiv = false)) ∧
    (∃ (s : State) (a : Word), let lit := s.mute = false; let x := a.toNat; let plain := x / 65536 ≠ 0x0804; let acc := fun (y : Access) => plain ∧ accessOf x = some y; lit ∧ (acc .w1c ∨ acc .mix) ∧ (s.inBiv = true)) ∧
    (∃ (s : State) (a : Word), let lit := s.mute = false; let x := a.toNat; let plain := x / 65536 ≠ 0x0804; let acc := fun (y : Access) => plain ∧ accessOf x = some y; lit ∧ plain ∧ (¬ (acc .w1c ∨ acc .mix))) ∧
    (∃ (s : State) (a : Word) (k : Fin 8), let lit := s.mute = false; let x := a.toNat; lit ∧ (x = rHQ_ENQ k.val)) ∧
    (∃ (s : State) (a : Word) (f : Fin 10), let lit := s.mute = false; let x := a.toNat; lit ∧ (x = rFP_PEEK_ADDR f.val)) ∧
    (∃ (s : State) (a : Word), let lit := s.mute = false; let x := a.toNat; let plain := x / 65536 ≠ 0x0804; let acc := fun (y : Access) => plain ∧ accessOf x = some y; let ch := x / 65536 % 256; let buf := (x % 65536 - 0x1000) / 128; lit ∧ (acc .mbd) ∧ (s.inBiv = true ∨ s.on (fCAN_MB_CFG_DIR ch buf) = false ∨ s.canReserved ch buf = true)) :=
  ⟨⟨(L0[14]'(by decide +kernel)).1, (L0[14]'(by decide +kernel)).2.1, by decide +kernel⟩,
    ⟨(L0[7]'(by decide +kernel)).1, (L0[7]'(by decide +kernel)).2.1, by decide +kernel⟩,
    ⟨(L0[0]'(by decide +kernel)).1, (L0[0]'(by decide +kernel)).2.1, by decide +kernel⟩,
    ⟨(L0[16]'(by decide +kernel)).1, (L0[16]'(by decide +kernel)).2.1, (L0[16]'(by decide +kernel)).2.2.2.2.2.2.2, by decide +kernel⟩,
    ⟨(L0[18]'(by decide +kernel)).1, (L0[18]'(by decide +kernel)).2.1, (L0[18]'(by decide +kernel)).2.2.2.2.2.2.1, by decide +kernel⟩,
    ⟨(L0[21]'(by decide +kernel)).1, (L0[21]'(by decide +kernel)).2.1, by decide +kernel⟩⟩
/-- Further clauses of `Obligations.RegisterWrites`. -/
theorem test_hyps_RegisterWrites_2 :
    (∃ (s : State) (a : Word), let lit := s.mute = false; let x := a.toNat; let plain := x / 65536 ≠ 0x0804; let acc := fun (y : Access) => plain ∧ accessOf x = some y; let ch := x / 65536 % 256; let buf := (x % 65536 - 0x1000) / 128; lit ∧ (acc .mbd) ∧ (s.inBiv = false) ∧ (s.on (fCAN_MB_CFG_DIR ch buf) = true) ∧ (s.canReserved ch buf = false)) ∧
    (∃ (s : State) (a : Word), let lit := s.mute = false; let x := a.toNat; lit ∧ (0x08040400 ≤ x) ∧ (x < 0x080404A0) ∧ (s.on (fLE_STATUS_SERVES_VALID 4) = true) ∧ (s.fld (fLE_STATUS_SERVES 4) < 4)) :=
  ⟨⟨(L0[20]'(by decide +kernel)).1, (L0[20]'(by decide +kernel)).2.1, by decide +kernel⟩,
    ⟨(L0[8]'(by decide +kernel)).1, (L0[8]'(by decide +kernel)).2.1, by decide +kernel⟩⟩
end Sys2Proof.Tests.W91

end
end

section
/-! The rules that commands share: their answer, the gate of a CMD register, which registers change, registers that take 0.  Then the commands that
clear counters. -/
namespace Sys2Proof.Machine

/-! ### Answers of commands -/

/-- Outside STOW and LISTEN a command that takes part answers the state of its rule. -/
theorem Completes.of_lit {c : Instr} {s t : State} {P : State → Prop} (he : exec c s = .next (s.lit t)) (hm : s.mute = false)
    (hp : P t) : Completes c s P :=
  ⟨t, by rw [he, State.lit_pos hm], hp⟩

/-! ### The gate of a CMD register (R10–R13) -/

/-- At a ready register the command runs, and the register shows its value and status. -/
theorem State.cmd_of_ready {s : State} {reg : Nat} (h : CmdReady s reg) (val : Nat) (act : State → Nat × State) :
    s.cmd reg val act = (act s).2.cmdSet reg val (act s).1 := by
  unfold State.cmd
  have h1 : ¬ (s.inBiv ∨ s.cmdStatus reg = stBUSY) := by simp [h.open_, h.idle]
  have h2 : ¬ (s.ps = psPITCH ∧ reg / 16777216 ≠ 0x0E ∧ reg / 16777216 ≠ 0x11) := by
    rintro ⟨hp, h3, h4⟩
    exact (h.started hp).elim h3 h4
  rw [if_neg h1, if_neg h2]

/-- Outside BIVOUAC a command that BIVOUAC refuses is like any other. -/
theorem State.cmdBiv_of_open {s : State} (h : s.inBiv = false) (reg val : Nat) (act : State → Nat × State) :
    s.cmdBiv reg val act = s.cmd reg val act := by
  unfold State.cmdBiv
  rw [if_neg (by simp [h])]

/-- R13: a BUSY register ignores a write. -/
theorem State.cmd_busy {s : State} {reg : Nat} (h : s.cmdStatus reg = stBUSY) (val : Nat) (act : State → Nat × State) :
    s.cmd reg val act = s := by
  unfold State.cmd
  rw [if_pos (.inr h)]

/-- R13, for a command that BIVOUAC refuses. -/
theorem State.cmdBiv_busy {s : State} {reg : Nat} (h : s.cmdStatus reg = stBUSY) (val : Nat) (act : State → Nat × State) :
    s.cmdBiv reg val act = s := by
  unfold State.cmdBiv
  rw [if_neg (by simp [h]), State.cmd_busy h]

theorem State.cmdSet_shows (s : State) {reg val status : Nat} (hv : val < 65536) (hs : status < 65536) :
    CmdShows (s.cmdSet reg val status) reg val status := by
  unfold CmdShows State.cmdSet
  rw [State.rdN_wrN, if_pos rfl]
  omega

theorem State.rd_cmdSet_ne (s : State) (reg val status : Nat) {a : Nat} (h : a ≠ reg) : (s.cmdSet reg val status).rd a = s.rd a := by
  unfold State.cmdSet State.wrN
  rw [State.rd_wr, if_neg h]

/-! ### Which registers change -/

theorem OnlyRegs.refl (s : State) : OnlyRegs [] s s := ⟨fun _ _ => rfl, rfl⟩

/-- One register more is written. -/
theorem OnlyRegs.wr {l : List Nat} {s u : State} (h : OnlyRegs l s u) (a : Nat) (v : Word) : OnlyRegs (a :: l) s (u.wr a v) := by
  obtain ⟨hk, hr⟩ := h
  refine ⟨fun b hb => ?_, ?_⟩
  · obtain ⟨h1, h2⟩ := not_or.1 (mt List.mem_cons.2 hb)
    rw [State.rd_wr, if_neg h1, hk b h2]
  · rw [hr]
    rfl

theorem OnlyRegs.cmdSet {l : List Nat} {s u : State} (h : OnlyRegs l s u) (reg val status : Nat) :
    OnlyRegs (reg :: l) s (u.cmdSet reg val status) := h.wr _ _

theorem OnlyRegs.perm {l l' : List Nat} {s u : State} (h : OnlyRegs l s u) (hl : ∀ a ∈ l, a ∈ l') : OnlyRegs l' s u :=
  ⟨fun a ha => h.1 a (fun hm => ha (hl a hm)), h.2⟩

theorem OnlyRegs.zero {l : List Nat} {s u : State} (h : OnlyRegs l s u) (l' : List Nat) : OnlyRegs (l' ++ l) s (u.zero l') := by
  induction l' generalizing l u with
  | nil => exact h
  | cons a t ih => exact (ih (h.wr a 0)).perm fun b hb => by simpa only [List.cons_append, List.mem_append, List.mem_cons, or_left_comm] using hb

/-! ### Registers that take 0 -/

/-- From `s`, in `u` the registers of `l` read 0, and nothing else differs. -/
structure Zeroed (l : List Nat) (s u : State) : Prop where
  zero : ∀ a ∈ l, u.rd a = 0
  only : OnlyRegs l s u

theorem Zeroed.append {l : List Nat} {s u : State} (h : Zeroed l s u) (l' : List Nat) : Zeroed (l' ++ l) s (u.zero l') where
  zero a ha := by
    rw [State.rd_zero]
    split
    · rfl
    · exact h.zero a ((List.mem_append.1 ha).resolve_left ‹_›)
  only := h.only.zero l'

theorem State.zero_zeroed (s : State) (l : List Nat) : Zeroed l s (s.zero l) :=
  ⟨fun a ha => by rw [State.rd_zero, if_pos ha], by simpa using (OnlyRegs.refl s).zero l⟩

theorem State.zero_append (s : State) (l l' : List Nat) : s.zero (l ++ l') = (s.zero l).zero l' := by
  induction l generalizing s with
  | nil => rfl
  | cons a t ih => exact ih _

/-- Clearing the registers of each unit in turn clears those of all. -/
theorem State.each_zero (s : State) (f : Nat → List Nat) (k : Nat) :
    s.each (fun s n => s.zero (f n)) k = s.zero ((List.range k).flatMap f) := by
  induction k with
  | zero => rfl
  | succ k ih =>
    rw [List.range_succ, List.flatMap_append, State.zero_append, ← ih, List.flatMap_singleton]
    rfl

/-- The same, of one register a unit. -/
theorem State.each_wr_zero (s : State) (f : Nat → Nat) (k : Nat) :
    s.each (fun s n => s.wr (f n) 0) k = s.zero ((List.range k).map f) := by
  rw [List.map_eq_flatMap]
  exact s.each_zero (fun n => [f n]) k

/-! ### Flags cleared unit by unit -/

theorem State.rd_clr_congr {s u : State} {f : Fld} (h : u.rd f.reg = s.rd f.reg) : (u.clr f).rd f.reg = (s.clr f).rd f.reg := by
  unfold State.clr State.setF
  rw [State.rd_wr, State.rd_wr, h]

theorem State.rd_clr_ne (s : State) {f : Fld} {a : Nat} (h : a ≠ f.reg) : (s.clr f).rd a = s.rd a := by
  unfold State.clr State.setF
  rw [State.rd_wr, if_neg h]

theorem OnlyRegs.each_clr {l : List Nat} {s u : State} (h : OnlyRegs l s u) (f : Nat → Fld) (k : Nat) :
    OnlyRegs (l ++ (List.range k).map (fun n => (f n).reg)) s (u.each (fun s n => s.clr (f n)) k) := by
  induction k with
  | zero => exact h.perm fun a ha => by simpa using ha
  | succ k ih =>
    refine (ih.wr (f k).reg _).perm fun a ha => ?_
    rw [List.range_succ, List.map_append, ← List.append_assoc]
    exact List.mem_append.2 (Or.symm (by simpa using ha))

theorem State.rd_each_clr_ne (s : State) (f : Nat → Fld) {k a : Nat} (h : ∀ n < k, a ≠ (f n).reg) :
    (s.each (fun s n => s.clr (f n)) k).rd a = s.rd a := by
  induction k with
  | zero => rfl
  | succ k ih =>
    show ((s.each _ k).clr (f k)).rd a = _
    rw [State.rd_clr_ne _ (h k k.lt_succ_self), ih fun n hn => h n (Nat.lt_succ_of_lt hn)]

/-- Where the flags lie in registers of their own, each register reads as if its flag alone were cleared. -/
theorem State.rd_each_clr (s : State) {f : Nat → Fld} (hf : ∀ i j, (f i).reg = (f j).reg → i = j) {k n : Nat} (hn : n < k) :
    (s.each (fun s n => s.clr (f n)) k).rd (f n).reg = (s.clr (f n)).rd (f n).reg := by
  induction k with
  | zero => exact absurd hn n.not_lt_zero
  | succ k ih =>
    show ((s.each _ k).clr (f k)).rd (f n).reg = _
    by_cases h : n = k
    · subst h
      exact State.rd_clr_congr (State.rd_each_clr_ne s f fun m hm e => Nat.ne_of_lt hm (hf n m e).symm)
    · rw [State.rd_clr_ne _ (fun e => h (hf n k e)), ih (by omega)]

/-- A cleared field reads 0. -/
theorem State.fld_of_rd_clr {s t : State} {f : Fld} (h : t.rd f.reg = (s.clr f).rd f.reg) (h1 : f.lo ≤ f.hi) (h2 : f.hi < 32) :
    t.fld f = 0 := by
  have e : t.fld f = (s.clr f).fld f := by unfold State.fld; rw [h]
  rw [e]
  exact (State.fld_setF s f 0 h1 h2).trans (Nat.zero_mod _)

/-! ### Commands that clear counters -/

/-- A command whose action clears the registers of `l` and shows DONE. -/
theorem clears_of_cmd {x : Instr} {s : State} {reg val : Nat} {l : List Nat} {act : State → Nat × State}
    (he : exec x s = .next (s.lit (s.cmd reg val act))) (hd : (act s).1 = stDONE) (hz : Zeroed l s (act s).2) (hv : val < 65536)
    (hl : reg ∉ l) (h : CmdReady s reg) : Completes x s (fun t => CmdClears s t reg val l) := by
  refine Completes.of_lit he h.lit ?_
  rw [State.cmd_of_ready h, hd]
  exact ⟨State.cmdSet_shows _ hv (by decide), fun a ha => by rw [State.rd_cmdSet_ne _ _ _ _ (ne_of_mem_of_not_mem ha hl), hz.zero a ha],
    hz.only.cmdSet _ _ _⟩

/-- The same of a command that BIVOUAC refuses. -/
theorem clears_of_cmdBiv {x : Instr} {s : State} {reg val : Nat} {l : List Nat} {act : State → Nat × State}
    (he : exec x s = .next (s.lit (s.cmdBiv reg val act))) (hd : (act s).1 = stDONE) (hz : Zeroed l s (act s).2) (hv : val < 65536)
    (hl : reg ∉ l) (h : CmdReady s reg) : Completes x s (fun t => CmdClears s t reg val l) :=
  clears_of_cmd (by rw [he, State.cmdBiv_of_open h.open_]) hd hz hv hl h

/-- The counters of the gate-driver block, its own first. -/
theorem gdCounters_zeroed (s : State) :
    Zeroed (rGD_CNT_UNPLUG :: (List.range 24).flatMap (fun g => [rGD_CNT_DESAT g, rGD_CNT_GATEMISS g, rGD_CNT_LATCH g])) s
      ((s.each (fun s g => s.zero [rGD_CNT_DESAT g, rGD_CNT_GATEMISS g, rGD_CNT_LATCH g]) 24).wr rGD_CNT_UNPLUG 0) := by
  rw [State.each_zero]
  exact (s.zero_zeroed _).append [rGD_CNT_UNPLUG]

/-- The counters of the auxiliary outputs, the block's own first. -/
theorem auxCounters_zeroed (s : State) :
    Zeroed (rAUX_CNT_REFUSED :: (List.range 12).map rAUX_CNT_ON) s
      ((s.each (fun s n => s.wr (rAUX_CNT_ON n) 0) 12).wr rAUX_CNT_REFUSED 0) := by
  rw [State.each_wr_zero]
  exact (s.zero_zeroed _).append [rAUX_CNT_REFUSED]

theorem hqClearCounters_clears {s : State} (h : CmdReady s rHQ_CMD) :
    Completes .hqClearCounters s (fun t => CmdShows t rHQ_CMD 1 stDONE ∧ (∀ a ∈ hqCounters, t.rd a = 0) ∧
      t.rd rHQ_POOL_MIN = s.rd rHQ_POOL_FREE ∧ OnlyRegs (rHQ_CMD :: rHQ_POOL_MIN :: hqCounters) s t) := by
  have hz := s.zero_zeroed hqCounters
  have hout : ∀ a ∈ hqCounters, a ≠ rHQ_CMD ∧ a ≠ rHQ_POOL_MIN := by decide
  refine Completes.of_lit rfl h.lit ?_
  unfold hqClearCounters
  rw [State.cmd_of_ready h]
  refine ⟨State.cmdSet_shows _ (show 1 < 65536 by decide) (show stDONE < 65536 by decide), fun a ha => ?_, ?_, (hz.only.wr _ _).cmdSet _ _ _⟩
  · rw [State.rd_cmdSet_ne _ _ _ _ (hout a ha).1, State.rd_wr, if_neg (hout a ha).2, hz.zero a ha]
  · rw [State.rd_cmdSet_ne _ _ _ _ (by decide), State.rd_wr, if_pos rfl]

/-- A command that clears the registers of `l` and then a field of each of `k` registers beside them. -/
theorem clears_of_cmd_each_clr {x : Instr} {s : State} {reg k : Nat} {l : List Nat} {f : Nat → Fld} {act : State → Nat × State} {u : State}
    (he : exec x s = .next (s.lit (s.cmd reg 1 act))) (ha : act s = (stDONE, u.each (fun s n => s.clr (f n)) k)) (hz : Zeroed l s u)
    (hl : reg ∉ l) (hf : ∀ i j, (f i).reg = (f j).reg → i = j) (hr : ∀ n < k, (f n).reg ≠ reg ∧ (f n).reg ∉ l) (h : CmdReady s reg) :
    Completes x s (fun t => CmdShows t reg 1 stDONE ∧ (∀ a ∈ l, t.rd a = 0) ∧
      (∀ n, n < k → t.rd (f n).reg = (s.clr (f n)).rd (f n).reg) ∧ OnlyRegs (reg :: l ++ (List.range k).map (fun n => (f n).reg)) s t) := by
  refine Completes.of_lit he h.lit ?_
  rw [State.cmd_of_ready h, ha]
  refine ⟨State.cmdSet_shows _ (show 1 < 65536 by decide) (show stDONE < 65536 by decide), fun a hm => ?_, fun n hn => ?_,
    (hz.only.each_clr f k).cmdSet _ _ _⟩
  · rw [State.rd_cmdSet_ne _ _ _ _ (ne_of_mem_of_not_mem hm hl),
      State.rd_each_clr_ne _ _ fun n hn => ne_of_mem_of_not_mem hm (hr n hn).2, hz.zero a hm]
  · rw [State.rd_cmdSet_ne _ _ _ _ (hr n hn).1, State.rd_each_clr _ hf hn]
    exact State.rd_clr_congr (hz.only.1 _ (hr n hn).2)

/-- The counters of the edge outputs and those of the edge generator. -/
theorem edgCounters_zeroed (s : State) :
    Zeroed ([rEDG_CNT_CONFLICT, rEDG_CNT_FORBIDDEN, rEDG_CNT_SUPPRESSED] ++
        (List.range 24).flatMap (fun o => [rEDG_EO_CNT_EDGES o, rEDG_EO_CNT_MERGED o, rEDG_EO_CNT_SWAPSKIP o])) s
      ((s.each (fun s o => s.zero [rEDG_EO_CNT_EDGES o, rEDG_EO_CNT_MERGED o, rEDG_EO_CNT_SWAPSKIP o]) 24).zero
        [rEDG_CNT_CONFLICT, rEDG_CNT_FORBIDDEN, rEDG_CNT_SUPPRESSED]) := by
  rw [State.each_zero]
  exact (s.zero_zeroed _).append _

/-- Settles O18: every row is a case of `clears_of_cmd`; HQ also sets its low-water mark, and EDG and POS clear a field of each leg and index. -/
theorem clearCounters : Obligations.ClearCounters := by
  intro s
  refine ⟨fun f c n e => ?_, hqClearCounters_clears, fun h => ?_, fun h => ?_⟩
  · simp only [List.forall_mem_cons, List.not_mem_nil, false_imp_iff, implies_true, and_true]
    have zz := s.zero_zeroed
    exact ⟨clears_of_cmd rfl rfl (zz _) (by decide) (by decide +revert), clears_of_cmd rfl rfl (zz _) (by decide) (by decide),
      clears_of_cmd rfl rfl (zz _) (by decide) (by decide +revert), clears_of_cmd rfl rfl (zz _) (by decide) (by decide +revert),
      clears_of_cmdBiv rfl rfl (zz [_]) (by decide) (by decide), clears_of_cmd rfl rfl (zz _) (by decide) (by decide +revert),
      clears_of_cmd rfl rfl (zz _) (by decide) (by decide +revert), clears_of_cmdBiv rfl rfl (zz _) (by decide) (by decide),
      clears_of_cmd rfl rfl (zz _) (by decide) (by decide +revert), clears_of_cmd rfl rfl (zz _) (by decide) (by decide),
      clears_of_cmd rfl rfl (zz _) (by decide) (by decide), clears_of_cmd rfl rfl (zz _) (by decide) (by decide),
      clears_of_cmd rfl rfl (zz _) (by decide) (by decide), clears_of_cmd rfl rfl (zz _) (by decide) (by decide),
      clears_of_cmd rfl rfl (gdCounters_zeroed s) (by decide) (by decide), clears_of_cmd rfl rfl (auxCounters_zeroed s) (by decide) (by decide)⟩
  · exact clears_of_cmd_each_clr (f := fEDG_LEG_STATUS_LEG_CONFLICT) rfl rfl (edgCounters_zeroed s) (by decide)
      (fun i j e => by simp only [fEDG_LEG_STATUS_LEG_CONFLICT, rEDG_LEG_STATUS] at e; omega) (by decide) h
  · have hz : Zeroed _ s _ := s.zero_zeroed ((List.range 6).flatMap fun h =>
      [rPOS_CNT_REJECT h, rPOS_CNT_INVALID h, rPOS_CNT_SKIP h, rPOS_CNT_DRIFT_SKIP h])
    rw [← State.each_zero] at hz
    obtain ⟨t, he, hshow, hcnt, hdrift, honly⟩ := clears_of_cmd_each_clr (x := .posClearCounters) (f := fPOS_IDX_DRIFT_EVTS) rfl rfl hz (by decide)
      (fun i j e => by simp only [fPOS_IDX_DRIFT_EVTS, rPOS_IDX_DRIFT] at e; omega) (by decide) h
    exact ⟨t, he, hshow, hcnt, fun i hi => State.fld_of_rd_clr (hdrift i hi) (by decide +revert) (by decide +revert), honly⟩

end Sys2Proof.Machine
end

section
/-! The state after reset (R16, R442). -/
namespace Sys2Proof.Machine

/-- After reset no register is listed, so that each reads its reset value (R16). -/
@[simp] theorem rd_reset (a : Nat) : State.reset.rd a = resetVal a := rfl

/-- After reset every gate channel is as `init` says: nothing enabled, nothing driven. -/
@[simp] theorem gate_reset (g : Nat) : State.reset.gate g = GateSt.init := rfl

/-- R442: the module is in PITCH, so it is neither asleep nor in BIVOUAC. -/
theorem ps_reset : State.reset.ps = psPITCH := rfl

theorem mute_reset : State.reset.mute = false := by unfold State.mute; rw [ps_reset]; rfl

theorem inBiv_reset : State.reset.inBiv = false := by unfold State.inBiv; rw [ps_reset]; rfl

/-- Ports: no peer known, DISABLED. -/
theorem ports_reset (p : Fin 4) : State.reset.rdN (rHAL_PORT_STATE p.val) = 0xFF000000 ∧ State.reset.pst p.val = pDISABLED := by
  decide +revert

/-- Field processors: generation 1, OFF. -/
theorem fp_reset (f : Fin 10) : State.reset.rdN (rFP_GEN f.val) = 1 ∧ State.reset.fpState f.val = fpOFF := by decide +revert

/-- Cells: both generations 1, held, unthrottled; CAN channels off. -/
theorem cells_reset (c : Fin 4) : State.reset.rdN (rLE_PAR_GEN c.val) = 0x10001 ∧ State.reset.cst c.val = cHELD ∧
    State.reset.rdN (rHK_THROTTLE c.val) = 0x100000 ∧ State.reset.canLive c.val = false := by decide +revert

/-- Gate channels: owned by no cell, both enables off, driven off. -/
theorem gates_reset (g : Fin 24) : State.reset.gst g.val = gUNOWNED ∧ (State.reset.gate g.val).gse = false ∧
    (State.reset.gate g.val).sen = false ∧ (State.reset.gate g.val).drive.isOn = false := by
  refine ⟨?_, by simp [GateSt.init], by simp [GateSt.init], by simp [GateSt.init, Drive.isOn]⟩
  decide +revert

/-- Settles O58, from the reset value of each register named and the `init` values beside the registers. -/
theorem resetState : Obligations.ResetState := by
  unfold Obligations.ResetState
  refine ⟨rfl, rfl, ps_reset, mute_reset, inBiv_reset, rfl, rfl, rfl, by decide, ports_reset, by decide, by decide, by decide, fp_reset,
    cells_reset, gates_reset, fun a ha => ?_, by decide, by decide, by decide⟩
  rw [rd_reset]
  revert a
  decide

end Sys2Proof.Machine
end

section
/-! Which addresses are CMD registers, what a write to each runs, and that a BUSY one ignores it (R10–R13). -/
namespace Sys2Proof.Machine

/-! ### The CMD registers of the map (R492) -/

/-- The address of every CMD register, of unit 0 where units have one each, and how many there are. -/
def cmdBases : List (Nat × Nat) :=
  [(rHAL_CMD, 1), (rHQ_CMD, 1), (rHQ_ENQ_CMD, 1), (rSNS_CMD, 1), (rPOS_CMD, 1), (rEDG_CMD, 1), (rGD_CMD, 1), (rBND_DCL_CMD, 1), (rFLT_CMD, 1),
    (rAUX_CMD, 1), (rPCH_CMD, 1), (rPWR_CMD, 1), (rCLK_CMD, 1), (rHK_CMD, 1), (rMGT_CMD, 1), (rBND_CMD 0, 4), (rBND_ST_CMD 0, 4), (rLE_CMD 0, 5),
    (rLE_PAR_CMD 0, 5), (rFP_CMD 0, 10), (rCAN_CMD 0, 4)]

/-- The address of a CMD register. -/
def IsCmd (x : Nat) : Prop := ∃ p ∈ cmdBases, ∃ k < p.2, x = p.1 + k * 65536

/-- The row that an address names is one of its block's, and the address is one of its own. -/
theorem rowAt_some {a : Nat} {r : RegRow} (h : rowAt a = some r) : r ∈ regRowsOf (a / 16777216) ∧ r.has a = true :=
  ⟨List.mem_of_find?_eq_some h, List.find?_some (p := fun r : RegRow => r.has a) h⟩

/-- The access code of an address is that of its row. -/
theorem accessOf_some {x : Nat} {y : Access} (h : accessOf x = some y) : ∃ r, rowAt x = some r ∧ r.acc = y := by
  unfold accessOf at h
  split at h
  case isTrue => exact Option.map_eq_some_iff.1 h
  case isFalse => cases h

theorem accessOf_aligned {x : Nat} {y : Access} (h : accessOf x = some y) : x % 4 = 0 := by
  unfold accessOf at h
  split at h
  case isTrue h4 => exact h4
  case isFalse => cases h

/-- The rows of code CMD are single words, one a unit. -/
theorem cmd_rows (b : Nat) : ∀ r ∈ regRowsOf b, r.acc = .cmd → (r.base, r.n) ∈ cmdBases ∧ r.stride = 4 ∧ r.cnt = 1 ∧ r.words = 1 := by
  unfold regRowsOf
  split <;> decide +kernel

/-- An address of code CMD is that of a CMD register. -/
theorem isCmd_of_accessOf {x : Nat} (h : accessOf x = some .cmd) : IsCmd x := by
  have h4 := accessOf_aligned h
  obtain ⟨r, hr, hacc⟩ := accessOf_some h
  obtain ⟨hmem, hhas⟩ := rowAt_some hr
  obtain ⟨hbase, hs, hc, hw⟩ := cmd_rows _ r hmem hacc
  simp only [RegRow.has, hs, hc, hw, Bool.and_eq_true, decide_eq_true_eq, beq_iff_eq] at hhas
  exact ⟨_, hbase, (x - r.base) / 65536, by dsimp only; omega, by dsimp only; omega⟩

/-! ### What a write of a value runs at each register -/

theorem cmdWrite_bnd (s : State) {k : Nat} (hk : k < 4) (v : Nat) (inp : CmdIn) :
    s.cmdWrite (rBND_CMD k) v inp = if v = 1 then bndClearCounters s k else s.invalid (rBND_CMD k) v := by
  have h : rBND_CMD k / 16777216 = 7 ∧ rBND_CMD k % 65536 = 0xE8 ∧ rBND_CMD k / 65536 % 256 = k := by unfold rBND_CMD; omega
  simp only [State.cmdWrite, h]

theorem cmdWrite_st (s : State) {k : Nat} (hk : k < 4) (v : Nat) (inp : CmdIn) : s.cmdWrite (rBND_ST_CMD k) v inp = s.stCmd k v := by
  have h : rBND_ST_CMD k / 16777216 = 7 ∧ rBND_ST_CMD k % 65536 = 0x2058 ∧ rBND_ST_CMD k / 65536 % 256 = k := by unfold rBND_ST_CMD; omega
  simp only [State.cmdWrite, h]

theorem cmdWrite_le (s : State) {k : Nat} (hk : k < 5) (v : Nat) (inp : CmdIn) :
    s.cmdWrite (rLE_CMD k) v inp = if v = 1 then leClearCounters s k else s.invalid (rLE_CMD k) v := by
  have h : rLE_CMD k / 16777216 = 8 ∧ rLE_CMD k % 65536 = 0x30C ∧ rLE_CMD k / 65536 % 256 = k := by unfold rLE_CMD; omega
  simp only [State.cmdWrite, h]

theorem cmdWrite_par (s : State) {k : Nat} (hk : k < 5) (v : Nat) (inp : CmdIn) :
    s.cmdWrite (rLE_PAR_CMD k) v inp = if k < 4 then s.parCmd k v inp else s.invalid (rLE_PAR_CMD k) v := by
  have h : rLE_PAR_CMD k / 16777216 = 8 ∧ rLE_PAR_CMD k % 65536 = 0x454 ∧ rLE_PAR_CMD k / 65536 % 256 = k := by unfold rLE_PAR_CMD; omega
  simp only [State.cmdWrite, h]

theorem cmdWrite_fp (s : State) {k : Nat} (hk : k < 10) (v : Nat) (inp : CmdIn) :
    s.cmdWrite (rFP_CMD k) v inp = if v = 1 then fpClearCounters s k else s.invalid (rFP_CMD k) v := by
  have h : rFP_CMD k / 16777216 = 9 ∧ rFP_CMD k % 65536 = 0x54 ∧ rFP_CMD k / 65536 % 256 = k := by unfold rFP_CMD; omega
  simp only [State.cmdWrite, h]

theorem cmdWrite_can (s : State) {k : Nat} (hk : k < 4) (v : Nat) (inp : CmdIn) : s.cmdWrite (rCAN_CMD k) v inp = s.canCmd k v := by
  have h : rCAN_CMD k / 16777216 = 12 ∧ rCAN_CMD k % 65536 = 0x18 ∧ rCAN_CMD k / 65536 % 256 = k := by unfold rCAN_CMD; omega
  simp only [State.cmdWrite, h]

/-! ### Values that name a unit -/

theorem within_add {a n k : Nat} (h : k < n) : within (a + k) a n = true := by
  unfold within
  rw [decide_eq_true_eq]
  omega

theorem not_within {a n v : Nat} (h : a + n ≤ v) : ¬ within v a n = true := by
  unfold within
  rw [decide_eq_true_eq]
  omega

theorem cmdWrite_halRetrain (s : State) (inp : CmdIn) (c : Fin 4) : s.cmdWrite rHAL_CMD (0x10 + c.val) inp = halRetrainPort s c.val := by
  show s.unitCmd rHAL_CMD _ inp = _
  unfold State.unitCmd
  rw [if_pos rfl, if_neg (by omega), if_pos (within_add c.isLt), Nat.add_sub_cancel_left]

theorem cmdWrite_halDisable (s : State) (inp : CmdIn) (c : Fin 4) : s.cmdWrite rHAL_CMD (0x20 + c.val) inp = halDisablePort s c.val := by
  show s.unitCmd rHAL_CMD _ inp = _
  unfold State.unitCmd
  rw [if_pos rfl, if_neg (by omega), if_neg (not_within (by omega)), if_pos (within_add c.isLt), Nat.add_sub_cancel_left]

theorem cmdWrite_halEnable (s : State) (inp : CmdIn) (c : Fin 4) : s.cmdWrite rHAL_CMD (0x30 + c.val) inp = halEnablePort s c.val := by
  show s.unitCmd rHAL_CMD _ inp = _
  unfold State.unitCmd
  rw [if_pos rfl, if_neg (by omega), if_neg (not_within (by omega)), if_neg (not_within (by omega)), if_pos (within_add c.isLt), Nat.add_sub_cancel_left]

theorem cmdWrite_edgClearLeg (s : State) (inp : CmdIn) (o : Fin 12) : s.cmdWrite rEDG_CMD (0x100 + o.val) inp = edgClearLeg s o.val := by
  show s.unitCmd rEDG_CMD _ inp = _
  unfold State.unitCmd
  rw [if_neg (by decide), if_neg (by decide), if_pos rfl, if_neg (by omega), if_pos (within_add o.isLt), Nat.add_sub_cancel_left]

theorem cmdWrite_gdClearChannel (s : State) (inp : CmdIn) (g : Fin 24) :
    s.cmdWrite rGD_CMD (0x100 + g.val) inp = gdClearChannel s g.val inp.linkValid := by
  show s.unitCmd rGD_CMD _ inp = _
  unfold State.unitCmd
  rw [if_neg (by decide), if_neg (by decide), if_neg (by decide), if_pos rfl, if_neg (by omega), if_pos (within_add g.isLt), Nat.add_sub_cancel_left]

theorem cmdWrite_gdRunDiagnostics (s : State) (inp : CmdIn) (g : Fin 24) :
    s.cmdWrite rGD_CMD (0x200 + g.val) inp = gdRunDiagnostics s g.val := by
  show s.unitCmd rGD_CMD _ inp = _
  unfold State.unitCmd
  rw [if_neg (by decide), if_neg (by decide), if_neg (by decide), if_pos rfl, if_neg (by omega), if_neg (not_within (by omega)), if_pos (within_add g.isLt), Nat.add_sub_cancel_left]

theorem cmdWrite_auxRequestOn (s : State) (inp : CmdIn) (o : Fin 12) : s.cmdWrite rAUX_CMD (0x100 + o.val) inp = auxRequestOn s o.val := by
  show s.unitCmd rAUX_CMD _ inp = _
  unfold State.unitCmd
  rw [if_neg (by decide), if_neg (by decide), if_neg (by decide), if_neg (by decide), if_pos rfl, if_neg (by omega), if_pos (within_add o.isLt), Nat.add_sub_cancel_left]

theorem cmdWrite_auxRequestOff (s : State) (inp : CmdIn) (o : Fin 12) : s.cmdWrite rAUX_CMD (0x200 + o.val) inp = auxRequestOff s o.val := by
  show s.unitCmd rAUX_CMD _ inp = _
  unfold State.unitCmd
  rw [if_neg (by decide), if_neg (by decide), if_neg (by decide), if_neg (by decide), if_pos rfl, if_neg (by omega), if_neg (not_within (by omega)), if_pos (within_add o.isLt), Nat.add_sub_cancel_left]

theorem cmdWrite_auxClearOutput (s : State) (inp : CmdIn) (o : Fin 12) : s.cmdWrite rAUX_CMD (0x300 + o.val) inp = auxClearOutput s o.val := by
  show s.unitCmd rAUX_CMD _ inp = _
  unfold State.unitCmd
  rw [if_neg (by decide), if_neg (by decide), if_neg (by decide), if_neg (by decide), if_pos rfl, if_neg (by omega), if_neg (not_within (by omega)), if_neg (not_within (by omega)), if_pos (within_add o.isLt), Nat.add_sub_cancel_left]

theorem canCmd_request (s : State) (c : Nat) (b : Fin 128) : s.canCmd c (0x100 + b.val) = canRequestBuffer s c b.val := by
  unfold State.canCmd
  rw [if_neg (by omega), if_pos (within_add b.isLt), Nat.add_sub_cancel_left]

theorem canCmd_abort (s : State) (c : Nat) (b : Fin 128) : s.canCmd c (0x200 + b.val) = canAbortBuffer s c b.val := by
  unfold State.canCmd
  rw [if_neg (by omega), if_neg (not_within (by omega)), if_pos (within_add b.isLt), Nat.add_sub_cancel_left]

/-! ### Each row of the command tables is the write of its value -/

theorem exec_of_cmdWrite {i : Instr} {s t : State} {r n : Nat} {inp : CmdIn} (he : exec i s = .next (s.lit t))
    (ht : s.cmdWrite r n inp = t) : exec i s = .next (s.lit (s.cmdWrite r n inp)) := ht ▸ he

/-- R10, R12: a command that a CMD register gives answers as the write of its value there. -/
theorem exec_of_cmdRow {inp : CmdIn} {r n : Nat} {i : Instr} (h : CmdRow inp r n i) (s : State) :
    exec i s = .next (s.lit (s.cmdWrite r n inp)) := by
  obtain ⟨c, o, g, e, f, b, h⟩ := h
  refine (?_ : ∀ x ∈ _, exec x.2.2 s = .next (s.lit (s.cmdWrite x.1 x.2.1 inp))) _ h
  simp only [List.forall_mem_append, List.forall_mem_cons, List.not_mem_nil, false_imp_iff, implies_true, and_true]
  have st := fun v => cmdWrite_st s c.isLt v inp
  have par := fun v => (cmdWrite_par s (Nat.lt_succ_of_lt c.isLt) v inp).trans (if_pos c.isLt)
  have can := fun v => cmdWrite_can s c.isLt v inp
  refine ⟨⟨?hal, ?hq⟩, ?can⟩
  case hal =>
    exact ⟨rfl, exec_of_cmdWrite rfl (cmdWrite_halRetrain s inp c), exec_of_cmdWrite rfl (cmdWrite_halDisable s inp c),
      exec_of_cmdWrite rfl (cmdWrite_halEnable s inp c), rfl, rfl, rfl, rfl, exec_of_cmdWrite rfl (cmdWrite_edgClearLeg s inp o), rfl,
      exec_of_cmdWrite rfl (cmdWrite_gdClearChannel s inp g), exec_of_cmdWrite rfl (cmdWrite_gdRunDiagnostics s inp g), rfl,
      exec_of_cmdWrite rfl (cmdWrite_auxRequestOn s inp o), exec_of_cmdWrite rfl (cmdWrite_auxRequestOff s inp o),
      exec_of_cmdWrite rfl (cmdWrite_auxClearOutput s inp o)⟩
  case hq =>
    exact ⟨rfl, rfl, exec_of_cmdWrite rfl (cmdWrite_bnd s c.isLt 1 inp), exec_of_cmdWrite rfl (st 1), exec_of_cmdWrite rfl (st 2),
      exec_of_cmdWrite rfl (st 3), exec_of_cmdWrite rfl (st 4), exec_of_cmdWrite rfl (st 5), rfl, rfl, rfl, rfl, rfl, rfl,
      exec_of_cmdWrite rfl (cmdWrite_le s e.isLt 1 inp), exec_of_cmdWrite rfl (par 1), exec_of_cmdWrite rfl (par 2), exec_of_cmdWrite rfl (par 3),
      exec_of_cmdWrite rfl (cmdWrite_fp s f.isLt 1 inp), rfl⟩
  case can =>
    exact ⟨exec_of_cmdWrite rfl (can 1), exec_of_cmdWrite rfl ((can _).trans (canCmd_request s c.val b)),
      exec_of_cmdWrite rfl ((can _).trans (canCmd_abort s c.val b)), exec_of_cmdWrite rfl (can 0x300), exec_of_cmdWrite rfl (can 0x500), rfl, rfl, rfl,
      rfl, rfl, rfl, rfl, rfl, rfl, rfl, rfl, rfl⟩

theorem isCmd_single {x : Nat} (h : (x, 1) ∈ cmdBases) : IsCmd x := ⟨_, h, 0, Nat.one_pos, rfl⟩

/-- The register of a command is a CMD register. -/
theorem isCmd_of_cmdRow {inp : CmdIn} {r n : Nat} {i : Instr} (h : CmdRow inp r n i) : IsCmd r := by
  obtain ⟨c, o, g, e, f, b, h⟩ := h
  have bnd : IsCmd (rBND_CMD c.val) := ⟨(rBND_CMD 0, 4), by decide, c.val, c.isLt, rfl⟩
  have st : IsCmd (rBND_ST_CMD c.val) := ⟨(rBND_ST_CMD 0, 4), by decide, c.val, c.isLt, rfl⟩
  have le : IsCmd (rLE_CMD e.val) := ⟨(rLE_CMD 0, 5), by decide, e.val, e.isLt, rfl⟩
  have par : IsCmd (rLE_PAR_CMD c.val) := ⟨(rLE_PAR_CMD 0, 5), by decide, c.val, Nat.lt_succ_of_lt c.isLt, rfl⟩
  have fp : IsCmd (rFP_CMD f.val) := ⟨(rFP_CMD 0, 10), by decide, f.val, f.isLt, rfl⟩
  have can : IsCmd (rCAN_CMD c.val) := ⟨(rCAN_CMD 0, 4), by decide, c.val, c.isLt, rfl⟩
  refine (?_ : ∀ x ∈ _, IsCmd x.1) _ h
  simp only [List.forall_mem_append, List.forall_mem_cons, List.not_mem_nil, false_imp_iff, implies_true, bnd, st, le, par, fp, can, true_and, and_true,
    and_self]
  and_intros
  all_goals exact isCmd_single (by decide)

/-! ### A BUSY register -/

/-- What a write to a BUSY register `r` leaves: the state as it was, but that a write of `HQ_ENQ_CMD` ends the staging history (R494). -/
def IgnoredAt (r : Nat) (s u : State) : Prop := u = s ∨ (r = rHQ_ENQ_CMD ∧ u = { s with hq := { s.hq with stagers := [] } })

/-- A module in STOW or LISTEN ignores the write altogether. -/
theorem IgnoredAt.lit {r : Nat} {s u : State} (h : IgnoredAt r s u) : IgnoredAt r s (s.lit u) := by
  unfold State.lit
  split
  · exact .inl rfl
  · exact h

/-- A write to a CMD register runs what its value names there. -/
theorem regWrite_cmd (s : State) {a : Nat} (v : Word) (req : Nat) (inp : CmdIn) (ha : a % 4 = 0) (hx : accessOf (s.parAddr a) = some .cmd) :
    registerWrite s a v true req inp = s.cmdWrite (s.parAddr a) (v.toNat % 65536) inp := by
  obtain ⟨r, hr, hacc⟩ := accessOf_some hx
  simp only [registerWrite, if_true, State.regWrite, ha, hr, hacc, ne_eq, not_true, if_false]

theorem invalid_busy {s : State} {reg : Nat} (h : s.cmdStatus reg = stBUSY) (v : Nat) : s.invalid reg v = s := State.cmd_busy h _ _

theorem enqCmd_busy {s : State} (h : s.cmdStatus rHQ_ENQ_CMD = stBUSY) (v : Nat) : IgnoredAt rHQ_ENQ_CMD s (s.enqCmd v) := by
  unfold State.enqCmd hqEnqueue
  simp only [State.cmd_busy h, invalid_busy h, ite_self]
  split
  · exact .inl rfl
  · exact .inr ⟨rfl, rfl⟩

theorem stCmd_busy {s : State} {c : Nat} (h : s.cmdStatus (rBND_ST_CMD c) = stBUSY) (v : Nat) : s.stCmd c v = s := by
  unfold State.stCmd
  split <;> exact State.cmd_busy h _ _

theorem parCmd_busy {s : State} {c : Nat} (h : s.cmdStatus (rLE_PAR_CMD c) = stBUSY) (v : Nat) (inp : CmdIn) : s.parCmd c v inp = s := by
  unfold State.parCmd
  split
  · exact State.cmd_busy h _ _
  · exact State.cmdBiv_busy h _ _
  · exact State.cmdBiv_busy h _ _
  · exact State.cmd_busy h _ _

theorem linkCmd_busy {s : State} (h : s.cmdStatus rBND_DCL_CMD = stBUSY) (v : Nat) : s.linkCmd v = s := by
  unfold State.linkCmd
  split
  iterate 6 · exact State.cmdBiv_busy h _ _
  · exact State.cmd_busy h _ _

theorem canCmd_busy {s : State} {c : Nat} (h : s.cmdStatus (rCAN_CMD c) = stBUSY) (v : Nat) : s.canCmd c v = s := by
  simp only [State.canCmd, canClearCounters, canRequestBuffer, canAbortBuffer, State.canBufCmd, canStartRecovery, canRestartTt, State.cmd_busy h,
    invalid_busy h, ite_self]

theorem pwrCmd_busy {s : State} (h : s.cmdStatus rPWR_CMD = stBUSY) (v : Nat) (inp : CmdIn) : s.pwrCmd v inp = s := by
  unfold State.pwrCmd
  split
  · exact State.cmd_busy h _ _
  · exact State.cmd_busy h _ _
  · exact State.cmd_busy h _ _
  · exact if_pos (.inr h)
  · exact if_pos (.inr h)
  · exact if_pos (.inr h)
  · exact State.cmd_busy h _ _

/-- HAL, SNS, EDG, GD and AUX, and any register that is none of theirs. -/
theorem unitCmd_busy {s : State} {reg : Nat} (h : s.cmdStatus reg = stBUSY) (v : Nat) (inp : CmdIn) : s.unitCmd reg v inp = s := by
  unfold State.unitCmd
  split
  next e => subst e; simp only [halClearCounters, halRetrainPort, halDisablePort, halEnablePort, State.cmd_busy h, invalid_busy h, ite_self]
  split
  next e => subst e; simp only [snsClearCounters, snsRotationStep, State.cmd_busy h, State.cmdBiv_busy h, invalid_busy h, ite_self]
  split
  next e => subst e; simp only [edgClearCounters, edgClearLeg, State.cmd_busy h, State.cmdBiv_busy h, invalid_busy h, ite_self]
  split
  next e => subst e; simp only [gdClearCounters, gdClearChannel, gdRunDiagnostics, State.cmd_busy h, State.cmdBiv_busy h, invalid_busy h, ite_self]
  split
  next e =>
    subst e
    simp only [auxClearCounters, auxRequestOn, auxRequestOff, auxClearOutput, State.cmd_busy h, State.cmdBiv_busy h, invalid_busy h, ite_self]
  · exact invalid_busy h v

/-- A register whose one command clears counters. -/
theorem clearOrInvalid_busy {s : State} {reg : Nat} (h : s.cmdStatus reg = stBUSY) (v : Nat) {act : State → Nat × State} :
    (if v = 1 then s.cmd reg 1 act else s.invalid reg v) = s := by
  rw [State.cmd_busy h, invalid_busy h, ite_self]

theorem fltCmd_busy {s : State} (h : s.cmdStatus rFLT_CMD = stBUSY) (v : Nat) (inp : CmdIn) : s.cmdWrite rFLT_CMD v inp = s := by
  show (if v = 1 then fltClearCounters s else s.invalid rFLT_CMD v) = s
  rw [fltClearCounters, State.cmdBiv_busy h, invalid_busy h, ite_self]

theorem pchCmd_busy {s : State} (h : s.cmdStatus rPCH_CMD = stBUSY) (v : Nat) (inp : CmdIn) : s.cmdWrite rPCH_CMD v inp = s := by
  show (if v = 1 then pchClearCounters s else if v = 0x10 then markPending s inp.fails else s.invalid rPCH_CMD v) = s
  rw [pchClearCounters, markPending, State.cmd_busy h, State.cmdBiv_busy h, invalid_busy h, ite_self, ite_self]

theorem mgtCmd_busy {s : State} (h : s.cmdStatus rMGT_CMD = stBUSY) (v : Nat) (inp : CmdIn) : s.cmdWrite rMGT_CMD v inp = s := by
  show (if v = 1 then mgtClearCounters s else if v = 0x10 then mgtAbortSession s inp.fails else s.invalid rMGT_CMD v) = s
  rw [mgtClearCounters, mgtAbortSession, State.cmd_busy h, State.cmd_busy h, invalid_busy h, ite_self, ite_self]

theorem parReg_busy {s : State} {c : Nat} (h : s.cmdStatus (rLE_PAR_CMD c) = stBUSY) (v : Nat) (inp : CmdIn) :
    (if c < 4 then s.parCmd c v inp else s.invalid (rLE_PAR_CMD c) v) = s := by
  rw [parCmd_busy h, invalid_busy h, ite_self]

/-- R13 at every CMD register. -/
theorem cmdWrite_busy {s : State} {x : Nat} (hx : IsCmd x) (h : s.cmdStatus x = stBUSY) (v : Nat) (inp : CmdIn) :
    IgnoredAt x s (s.cmdWrite x v inp) := by
  obtain ⟨p, hp, k, hk, rfl⟩ := hx
  revert h k p
  simp only [cmdBases, List.forall_mem_cons, List.not_mem_nil, false_imp_iff, implies_true, and_true, Nat.lt_one_iff, forall_eq, Nat.zero_mul,
    Nat.add_zero]
  exact ⟨fun h => .inl (unitCmd_busy h v inp), fun h => .inl (clearOrInvalid_busy h v), fun h => enqCmd_busy h v, fun h => .inl (unitCmd_busy h v inp),
    fun h => .inl (clearOrInvalid_busy h v), fun h => .inl (unitCmd_busy h v inp), fun h => .inl (unitCmd_busy h v inp),
    fun h => .inl (linkCmd_busy h v), fun h => .inl (fltCmd_busy h v inp), fun h => .inl (unitCmd_busy h v inp), fun h => .inl (pchCmd_busy h v inp),
    fun h => .inl (pwrCmd_busy h v inp), fun h => .inl (clearOrInvalid_busy h v), fun h => .inl (clearOrInvalid_busy h v),
    fun h => .inl (mgtCmd_busy h v inp), fun k hk h => .inl ((cmdWrite_bnd s hk v inp).trans (clearOrInvalid_busy h v)),
    fun k hk h => .inl ((cmdWrite_st s hk v inp).trans (stCmd_busy h v)),
    fun k hk h => .inl ((cmdWrite_le s hk v inp).trans (clearOrInvalid_busy h v)),
    fun k hk h => .inl ((cmdWrite_par s hk v inp).trans (parReg_busy h v inp)),
    fun k hk h => .inl ((cmdWrite_fp s hk v inp).trans (clearOrInvalid_busy h v)),
    fun k hk h => .inl ((cmdWrite_can s hk v inp).trans (canCmd_busy h v))⟩

/-- Settles O56: R13 at every CMD register; a row of the tables is the write of its value, so that it is ignored alike. -/
theorem busyCommandIgnored : Obligations.BusyCommandIgnored := by
  intro s a v rq inp
  refine ⟨fun ha hx hb => ⟨_, rfl, ?_⟩, fun r n i hrow hb => ⟨_, exec_of_cmdRow hrow s, ?_⟩⟩
  · rw [regWrite_cmd s v rq.toNat inp ha hx]
    exact (cmdWrite_busy (isCmd_of_accessOf hx) hb _ inp).lit
  · exact (cmdWrite_busy (isCmd_of_cmdRow hrow) hb n inp).lit

end Sys2Proof.Machine
end

section
/-! A write to a transmit word and a SEND8 record in one BUS period (R495). -/
namespace Sys2Proof.Machine

/-- R495: a write in the BUS period of a SEND8 record acts before it, so that one of bytes 0 to 7 leaves no trace. -/
theorem canMbDataWrite_send8 {s : State} {n b k : Nat} (v : Word) (h8 : (s.canC n).send8At.at 0 b = s.busPeriod + 1) (hk : k < 2) :
    canMbDataWrite s n b k v = s := by
  unfold canMbDataWrite
  rw [if_pos h8, if_pos hk, ite_self]

/-- A write to a word of code MBD is one to a buffer's data (R382, R387). -/
theorem regWrite_mbd (s : State) {a : Nat} (v : Word) (req : Nat) (inp : CmdIn) (ha : a % 4 = 0) (hx : accessOf (s.parAddr a) = some .mbd) :
    registerWrite s a v true req inp = canMbDataWrite s (s.parAddr a / 65536 % 256) ((s.parAddr a % 65536 - 0x1000) / 128)
      ((s.parAddr a % 128 - 0x40) / 4) v := by
  obtain ⟨r, hr, hacc⟩ := accessOf_some hx
  simp only [registerWrite, if_true, State.regWrite, ha, hr, hacc, ne_eq, not_true, if_false]

/-- Buffer 5 of channel 0 is a transmit buffer that has taken a SEND8 record in the present BUS period, which is pending. -/
def sentInPeriod : State :=
  ((State.reset.set1 (fCAN_MB_CFG_DIR 0 5)).set1 (fCAN_MB_STAT_TXPEND 0 5)).modCan 0 (fun q => { q with send8At := [(5, 1)] })

/-- A write of its bytes 0 to 3 then leaves no trace. -/
theorem sentInPeriod_write (v : Word) (rq : BitVec 16) (inp : CmdIn) :
    exec (.registerWrite (BitVec.ofNat 32 (rCAN_MB_DATA 0 5 0)) v true rq inp) sentInPeriod = .next sentInPeriod := by
  have hw : registerWrite sentInPeriod (rCAN_MB_DATA 0 5 0) v true rq.toNat inp = sentInPeriod := by
    rw [regWrite_mbd _ _ _ _ (by decide) (by decide +kernel)]
    exact canMbDataWrite_send8 v (by decide +kernel) (by decide)
  show Host.Outcome.next (sentInPeriod.lit (registerWrite sentInPeriod (rCAN_MB_DATA 0 5 0) v true rq.toNat inp)) = _
  rw [hw, State.lit, ite_self]

/-- Refutes O55: its clause on transmit words leaves out R495. In `sentInPeriod` the write is one that the record of the same BUS period overwrites, and
the model counts nothing, where the statement counts a busy buffer. -/
theorem not_registerWrites : ¬ Obligations.RegisterWrites := by
  intro h
  have hs := h sentInPeriod (BitVec.ofNat 32 (rCAN_MB_DATA 0 5 0)) 1 0 0 ⟨true, 0, false, false, none, none, 0⟩ 0 0
  obtain ⟨-, -, -, -, -, -, -, -, -, -, -, -, -, -, -, -, hmbd, -⟩ := hs
  obtain ⟨-, t, he, hreads, -⟩ := hmbd (by decide +kernel) (by decide +kernel) (by decide +kernel) (by decide +kernel) (by decide +kernel)
  rw [sentInPeriod_write] at he
  obtain rfl : sentInPeriod = t := by injection he
  exact absurd (hreads (rCAN_CNT_TXBUSY 0)) (by decide +kernel)

end Sys2Proof.Machine
end
